-- ==== Sys2Proof/Word.lean ====
section
/-! DEFINITION. The 48-bit word of the spec (00_scope, "Words, addresses and parameter names"), its bit fields, and
the two's-complement reading of a field (the conventions on numbers and units of the same chapter). -/

namespace Sys2Proof

/-- A word is 48 bits. -/
abbrev Word := BitVec 48

/-- Bits `[lo + width - 1 : lo]` of a word, as a number. -/
def Word.field (w : Word) (lo width : Nat) : Nat := (w.toNat >>> lo) % 2 ^ width

/-- A word with bits `[lo + width - 1 : lo]` replaced by `v` (taken modulo the field's range). -/
def Word.setField (w : Word) (lo width v : Nat) : Word :=
  (w &&& ~~~(BitVec.ofNat 48 ((2 ^ width - 1) <<< lo))) ||| BitVec.ofNat 48 ((v % 2 ^ width) <<< lo)

/-- A number of `width` bits read as two's complement. -/
def signed (width n : Nat) : Int :=
  if n % 2 ^ width < 2 ^ (width - 1) then (n % 2 ^ width : Nat) else (n % 2 ^ width : Nat) - (2 ^ width : Nat)

/-- The `width` low bits of an integer, two's complement. -/
def unsigned (width : Nat) (z : Int) : Nat := (z % (2 ^ width : Nat)).toNat

/-- An integer held between two bounds. -/
def clampInt (lo hi z : Int) : Int := if z < lo then lo else if hi < z then hi else z

/-- A number held between two bounds. -/
def clampNat (lo hi n : Nat) : Nat := if n < lo then lo else if hi < n then hi else n

/-- Rounding of `a / b` to the nearest integer, halves away from zero. -/
def roundDiv (a : Int) (b : Nat) : Int :=
  if 0 ≤ a then (a * 2 + b) / (2 * b) else -((-a * 2 + b) / (2 * b))

/-- One bit as a number. -/
def bit (b : Bool) : Nat := if b then 1 else 0

/-- A word with one bit set to a truth value. -/
def Word.withBit (w : Word) (k : Nat) (b : Bool) : Word := w.setField k 1 (bit b)

/-- Bit `k` of a number. -/
def Nat.bitAt (n k : Nat) : Bool := n / 2 ^ k % 2 == 1

/-- Signed modular difference of two 48-bit quantities (00_scope, "Tables, timing and pseudocode"). -/
def sdiff48 (a b : Word) : Int := (a - b).toInt

end Sys2Proof
end

