-- ==== Sys2Proof/Syntax.lean ====
section
/-! DEFINITION. The commands of the block: host requests on the Tenon link, host writes with an effect of their own, and the
events of pins, clocks, converters, buses and timers (the table of operations and events), as one inductive type. -/

namespace Sys2Proof

/-- A host request as it arrives with a good CRC word (R50): tag, length field, header bits [23:0], payload words. `gap` says that
at least two IDLE words stood before it (R47, R55); `later` that Cellar, which may take its time (R57), has not begun to serve it when the step ends; `storeOk` that the
store commits the record that serving it writes before the reply (R101, R627, R657). The opcode is the command's. -/
structure Req where
  tag : BitVec 8
  len : BitVec 8
  hdr : BitVec 24
  payload : List Word
  gap : Bool
  later : Bool := false
  storeOk : Bool := true
deriving DecidableEq, Repr

/-- A reference source of R111. -/
inductive ClkSrc
  | hclk | rosc
deriving DecidableEq, Repr

/-- What reaches an angle source (R165): the results of a resolver's sample set, a counted quadrature edge (up or down), a sample in which both
quadrature inputs changed, a Hall code. -/
inductive TrackerMeas
  | resolver
  | encoder (up : Bool)
  | encoderBoth
  | hall (code : BitVec 3)
deriving DecidableEq, Repr

/-- How an attempt to send a frame ended (R594, R597): in success, with the transmitter delay measured in a BRS frame in BCLK cycles (R587);
by loss of arbitration; or by an error, with its LEC code, whether it lay in the data phase, whether it was detected after the arbitration
field, and whether it is one of the errors for which ISO 11898-1 leaves the transmit error counter unchanged. -/
inductive TxResult
  | success (delay : Option Nat)
  | arbitrationLost
  | error (lec : Fin 7) (dataPhase afterArb exempt : Bool)
deriving DecidableEq, Repr

/-- A memory spare that a self-test assigned (R663, R671): a column or a row, the region of R661, the failing column or row, the spare. -/
structure SpareUse where
  column : Bool
  region : Nat
  addr : Nat
  spare : Nat
deriving DecidableEq, Repr

/-- The commands of the block, one constructor per row of the table of operations and events. -/
inductive Instr
  /-- WORD_LOCK (R46): The receiver reaches word lock after eight consecutive IDLE words at one slot boundary. -/
  | wordLock
  /-- FRAMING_ERROR (R47): The slot after a request's CRC word is not IDLE: the request is executed if its CRC is good, FRAMERR counts, and word lock is dropped. -/
  | framingError (op : BitVec 8) (q : Req) (bad : Option (BitVec 32))
  /-- BAD_CRC (R55): A request whose CRC fails gets one BAD_CRC reply, and slots are discarded until two IDLE words have been seen. -/
  | badCrc (op : BitVec 8) (q : Req) (computed : BitVec 32)
  /-- BAD_OPCODE (R60): A request with an unassigned opcode is answered with BAD_OPCODE. -/
  | badOpcode (op : BitVec 8) (q : Req)
  /-- LINK_OVR (R58): A ninth outstanding request is discarded without a reply, OVERRUN counts and the link-overrun event is set. -/
  | linkOvr
  /-- PING (R59): PING returns the status word and DEV.IDENT. -/
  | ping (q : Req)
  /-- READ (R59): READ returns one word, or BAD_ADDRESS; RC fields clear and two-word latches are set under R15. -/
  | read (q : Req)
  /-- WRITE (R17): WRITE changes the writable fields of one word, or refuses the whole write with the status of R17. -/
  | write (q : Req)
  /-- REGISTER_WRITE (R17): A host write, by WRITE, WRITE_BLOCK or MASKED_WRITE, to a word with no behaviour of its own updates its writable fields under the access codes. -/
  | registerWrite (addr : BitVec 24) (mask value : Word)
  /-- READ_BLOCK (R62): READ_BLOCK checks every word of a block in one region and returns 1 to 255 consecutive words. -/
  | readBlock (q : Req)
  /-- WRITE_BLOCK (R62): WRITE_BLOCK checks every word of a block, then writes all of them in one SCLK cycle. -/
  | writeBlock (q : Req)
  /-- MASKED_WRITE (R63): MASKED_WRITE sets the masked bits of a word in one read-modify-write SCLK cycle. -/
  | maskedWrite (q : Req)
  /-- COMMIT (R244): COMMIT to a listed commit word makes the staged words of a group, or of a Kerf table, pending. -/
  | commit (q : Req)
  /-- MODE_REQUEST (R29): A mode request is judged against the transition table and either carried out, started as a controlled stop, or refused with a reason. -/
  | modeRequest (q : Req)
  /-- MODE_STATUS (R59): MODE_STATUS returns DEV.MODE and DEV.AXST. -/
  | modeStatus (q : Req)
  /-- SETPOINT (R64): SETPOINT writes the set-point words of the masked axes in one cycle and restarts the host watchdog. -/
  | setpoint (q : Req)
  /-- EVENT_READ_CLEAR (R65): EVENT_READ_CLEAR returns an event word and clears the bits named in the clear mask. -/
  | eventReadClear (q : Req)
  /-- STORE_SAVE (R654): STORE_SAVE writes a configuration image, a USER record or the staged patch to the store. -/
  | storeSave (q : Req)
  /-- STORE_RESTORE (R656): STORE_RESTORE in CONFIG starts the restore of a valid configuration image. -/
  | storeRestore (q : Req)
  /-- STORE_ERASE (R654): STORE_ERASE zeroes the commit words of the named records. -/
  | storeErase (q : Req)
  /-- SEAL_OPEN (R99): SEAL_OPEN judges a credential for the safety or metrology seal, opens the seal or counts a failure, and appends a change-log entry. -/
  | sealOpen (q : Req)
  /-- SEAL_CLOSE (R100): SEAL_CLOSE closes an open seal, commits or discards its staged values, and appends the close entry. -/
  | sealClose (q : Req)
  /-- SAFE_PARAM_CONFIRM (R551): SAFE_PARAM_CONFIRM checks the staged safety set, writes it as a SAFE record, hands it to Rind and closes the seal. -/
  | safeParamConfirm (q : Req)
  /-- METER_READ (R633): METER_READ returns the energy registers, the means, the session and status words, and the NWT of their sample boundary. -/
  | meterRead (q : Req)
  /-- METER_SESSION_OPEN (R627): METER_SESSION OPEN takes the open values at the next sample boundary, commits the opening checkpoint and increments SESSNO. -/
  | meterSessionOpen (q : Req)
  /-- METER_SESSION_CLOSE (R628): METER_SESSION CLOSE starts closing an open session with end reason HOST. -/
  | meterSessionClose (q : Req)
  /-- METER_SESSION_QUERY (R628): METER_SESSION QUERY returns the session word. -/
  | meterSessionQuery (q : Req)
  /-- METER_RECORD (R632): METER_RECORD returns the signed record of a held session. -/
  | meterRecord (q : Req)
  /-- BIST_RUN_LANE (R670): BIST_RUN LANE migrates a logical lane and tests its source lane. -/
  | bistRunLane (q : Req)
  /-- BIST_RUN_SCRUB (R670): BIST_RUN SCRUB starts reading every store word and rewriting every corrected word. -/
  | bistRunScrub (q : Req)
  /-- FUSE_ALL (R672): REPAIR_APPLY FUSE_ALL starts fusing every repair record held. -/
  | fuseAll (q : Req)
  /-- FUSE_ONE (R672): REPAIR_APPLY FUSE_ONE starts fusing the repair record of one slot. -/
  | fuseOne (q : Req)
  /-- TIME_SET (R149): TIME_SET steps NWT and FWT to a new value in CONFIG and returns the previous NWT. -/
  | timeSet (q : Req)
  /-- TIME_ADJUST_STEP (R150): TIME_ADJUST STEP adds a signed offset to NWT at once. -/
  | timeAdjustStep (q : Req)
  /-- TIME_ADJUST_SLEW (R150): TIME_ADJUST SLEW starts adding a signed offset to NWT at the rate limit FSLEW. -/
  | timeAdjustSlew (q : Req)
  /-- TIME_ADJUST_RATE (R150): TIME_ADJUST RATE writes the rate correction, clamped, except in SLAVE. -/
  | timeAdjustRate (q : Req)
  /-- BUS_SEND (R595): BUS_SEND checks a frame and loads it into a transmit buffer as PENDING. -/
  | busSend (q : Req)
  /-- BUS_RECEIVE (R602): BUS_RECEIVE returns the oldest FULL FIFO entry and marks it HELD. -/
  | busReceive (q : Req)
  /-- BUS_ACK (R603): BUS_ACK returns a FULL or HELD FIFO entry to FREE. -/
  | busAck (q : Req)
  /-- PATCH_LOAD (R659): PATCH_LOAD writes payload words into the patch staging memory. -/
  | patchLoad (q : Req)
  /-- RESET (R66): The RESET opcode checks its confirmation word and sends the OK reply in full. -/
  | resetOp (q : Req)
  /-- RESET_AFTER_REPLY (R66): Within 10 µs of the reply to an accepted RESET, the device resets as for HRST_N, with CAUSE RESET_OTHER. -/
  | resetAfterReply
  /-- SWSET (R97): Writing DEV.HRQ[SWSET] sets DEV.EVT0[SWEV]. -/
  | swset (value : Word)
  /-- CFGCHK_RUN (R107): Writing DEV.CFGCHK[RUN] in CONFIG starts a configuration check. -/
  | cfgchkRun (value : Word)
  /-- CONFIG_CHECK_DONE (R106): A configuration check ends and records ITEM and WHERE, setting CFG_FAIL if it failed. -/
  | configCheckDone
  /-- CLK_CFG_WRITE (R118): A host write to CLK.CFG is refused when its REFSEL is not usable, and otherwise can start a switch of REFCLK. -/
  | clkCfgWrite (value : Word)
  /-- ADC_CFG_WRITE (R197): A host write to ADC.CFG is refused for EXTERNAL with REFPOK = 0, and otherwise changes the reference source at once. -/
  | adcCfgWrite (value : Word)
  /-- ADC_SWTRG (R203): Writing ADC.SWTRG issues a trigger to each named sample set. -/
  | adcSwtrg (value : Word)
  /-- XCOMMIT (R248): Writing PWM.XCOMMIT commits every group in GMASK in one SCLK cycle. -/
  | xcommit (value : Word)
  /-- GDS_CLR (R297): Writing GDS.Gg.CLR[CLR] clears a group fault state if its conditions hold, or sets CLRREF. -/
  | gdsClr (g : Fin 7)
  /-- RELOAD (R284): Writing GDS.Gg.CLR[RELOAD] sets every CODE to SCODE, clears ACC and queues frames while DRVEN is high. -/
  | reload (g : Fin 7)
  /-- ZEN_SWTRG (R321): Writing ZEN.SWTRG0 or ZEN.SWTRG1 starts the named programs. -/
  | zenSwtrg (hi : Bool) (value : Word)
  /-- PGRST (R325): Writing ZEN.PGRST0 or ZEN.PGRST1 requests a reset of the named programs. -/
  | pgrst (hi : Bool) (value : Word)
  /-- PROGRAM_RESET (R325): A requested program reset takes effect once the program is neither running nor queued, zeroing block state and resetting stage exponents. -/
  | programReset (p : Fin 64)
  /-- MIG_REQ (R332): Writing ZEN.MIG[REQ] requests migration of a logical lane to the spare, or sets MIGREF. -/
  | migReq (value : Word)
  /-- MOT_CLR (R421): Writing MOT.An.CLR[CLR] clears the axis fault if its conditions hold, or sets CLRREF. -/
  | motClr (a : Fin 4) (value : Word)
  /-- SMP_WRITE (R398): Writing MOT.An.SMP makes the sequencer place the extra compare for the sampling instant. -/
  | smpWrite (a : Fin 4) (value : Word)
  /-- THM_EXCL_WRITE (R564): Writing 1 to a bit of THM.EXCL returns an excluded sensor to use from the next check. -/
  | thmExclWrite (value : Word)
  /-- SRST (R533): Writing SIN.SRST issues a reset event to the named safety functions. -/
  | srst (value : Word)
  /-- RACK (R511): Writing SIN.RACK[ACK] clears the Rind demands whose conditions have been absent for 100 ms, and clears MISMATCH. -/
  | rack (value : Word)
  /-- PWCTL_STG (R550): Writing SIN.PWCTL with STG = 1 stages a password change or removal. -/
  | pwctlStg (value : Word)
  /-- SIN_LOGSEL (R553): Writing SIN.LOGSEL selects the safety change-log entry shown in SIN.LOGE0 to SIN.LOGE3. -/
  | sinLogsel (value : Word)
  /-- MTR_LOGSEL (R637): Writing MTR.LOGSEL selects the metrology change-log entry shown in MTR.LOGE0 to MTR.LOGE5. -/
  | mtrLogsel (value : Word)
  /-- UFIND (R657): Writing NVS.UFIND makes NVS.ULOC describe the USER record with that key. -/
  | ufind (value : Word)
  /-- BST_RSEL (R676): Writing BST.RSEL selects the repair slot shown in BST.RENT and BST.RTIME. -/
  | bstRsel (value : Word)
  /-- SNAP (R687): Writing OBS.CCTL[SNAP] copies all 64 counts to the snapshot words in one cycle. -/
  | snap (value : Word)
  /-- CLRL (R687): Writing OBS.CCTL[CLRL] clears counters 0 to 31. -/
  | clrl (value : Word)
  /-- CLRH (R687): Writing OBS.CSEL0[CLRH] or OBS.CSEL1[CLRH] clears counters 32 to 63. -/
  | clrh (hi : Bool) (value : Word)
  /-- ABORT (R596): Writing PUc.TXCTL[ABORT] aborts a transmit buffer. -/
  | abort (pu : Fin 2) (value : Word)
  /-- MEAS_WRITE (R165): A write to ATn.MEAS is an OBSERVER or GRID measurement, or the FREE speed. -/
  | measWrite (n : Fin 6) (value : Word)
  /-- WIN_WRITE (R177): A write to ATn.WINw.LO or HI recomputes the window flag from the angle and the direction. -/
  | winWrite (n : Fin 6) (w : Fin 4) (hi : Bool) (value : Word)
  /-- THR_WRITE (R229): A write to ADC.CMPw.THR moves the effective threshold monotonically to the new value within 200 ns. -/
  | thrWrite (w : Fin 24) (value : Word)
  /-- SRCFLT_CLEAR (R171): Clearing ATn.STAT[SRCFLT] returns the tracker to its primary source if that source has measured within TMO. -/
  | srcfltClear (n : Fin 6)
  /-- DFLT_CLEAR (R482): Writing 1 to a bit of PRT.DFLT clears the protection cause if its condition has ended. -/
  | dfltClear (value : Word)
  /-- CHFAIL_CLEAR (R466): Clearing CHFAIL while no fault latch of the leg is set returns the chopper to service. -/
  | chfailClear
  /-- EXPIRED_CLEAR (R77): Clearing DEV.HWD[EXPIRED] restarts the host watchdog in DRIVE or CHARGE. -/
  | expiredClear
  /-- HGRANT_WRITE (R444): A write to CNV.HGRANT can change the grant in force. -/
  | hgrantWrite (value : Word)
  /-- ROLE_WRITE (R144): A change of NWT.CFG[ROLE] sets the servo state at once. -/
  | roleWrite (value : Word)
  /-- POWER_ON (R126): Power-on makes a FULL reset, which clears the Rind latch and every Rind-held record. -/
  | powerOn
  /-- VSAFE_MONITOR (R126): VSAFE falls below its threshold and causes a MAIN+RIND reset. -/
  | vsafeMonitor (low : Bool)
  /-- VCORE_MONITOR (R126): VCORE falls below its threshold and causes a MAIN reset. -/
  | vcoreMonitor (low : Bool)
  /-- PORST_N (R126): PORST_N held low for 16 SOSC cycles causes a MAIN+RIND reset. -/
  | porstN (low : Bool)
  /-- HRST_N (R126): HRST_N or TEST_N held low for 4 SOSC cycles causes a MAIN reset. -/
  | hrstN (low : Bool)
  /-- CELLAR_WATCHDOG (R126): Cellar silent for 16 ms causes a MAIN reset. -/
  | cellarWatchdog
  /-- RESET_RELEASE (R129): With no reset source active and a qualified reference, the device enters BOOT, raises RSTOUT_N and samples BOOTSEL. -/
  | resetRelease (bootsel : Bool)
  /-- BOOT_COMPLETE (R660): BOOT completes its steps and ends in STANDBY, CONFIG or LATCHED. -/
  | bootComplete
  /-- ROSC_START (R716): ROSC starts oscillating after VCORE passes its power-on threshold. -/
  | roscStart
  /-- CLOCK_SOURCE_READY (R111): HCLK or ROSC becomes ready after eight good windows, and REFCLK may switch back to the preferred source. -/
  | clockSourceReady (src : ClkSrc) (khz : Nat)
  /-- CLOCK_SOURCE_LOST (R111): HCLK or ROSC becomes unready: the PLLs hold and a switch starts, or the device enters clock hold. -/
  | clockSourceLost (src : ClkSrc)
  /-- FORCED_SWITCH (R120): Without a low phase of the old source within 64 SOSC cycles, the multiplexer forces the switch and holds the gate outputs off. -/
  | forcedSwitch
  /-- CLOCK_GATING_END (R120): The four gated REFCLK cycles of a forced switch end, and deferred edges are taken. -/
  | clockGatingEnd
  /-- PLL_LOCK (R113): A PLL reports lock for a whole window, ending a switch or a clock hold. -/
  | pllLock (pllb : Bool)
  /-- PLL_LOCK_LOSS (R122): A PLL loses lock outside a switch, and the device enters clock hold. -/
  | pllLockLoss (pllb : Bool)
  /-- PLL_LOCK_TIMEOUT (R121): A PLL not locked within 50 µs of a switch puts the device into clock hold. -/
  | pllLockTimeout
  /-- CLOCK_HOLD_END (R124): A usable reference is ready and both PLLs lock, so clock hold ends and BOOT starts with CAUSE CLOCK. -/
  | clockHoldEnd (windows : Nat) (bootsel : Bool)
  /-- TRIM_MEASUREMENT (R115): A ROSC measurement against HCLK or Purlin frames adjusts the trim code and TRIMOK. -/
  | trimMeasurement (counted gateNs : Nat)
  /-- SOSC_FAULT (R110): The SOSC monitor finds SOSC out of tolerance or edgeless, and a Rind internal fault latches the device. -/
  | soscFault
  /-- SOSC_STOP (R110): SOSC stops, and STOA and STOB assert within 2 µs without any logic acting. -/
  | soscStop
  /-- HOST_WATCHDOG_EXPIRY (R76): A full interval passes without a SETPOINT, so EXPIRED is set and the fall-back is applied. -/
  | hostWatchdogExpiry
  /-- SERVO_HOLDOVER (R144): A slave with no offset for four SYNCINT enters HOLDOVER. -/
  | servoHoldover
  /-- SLEW_DONE (R150): A TIME_ADJUST slew finishes adding its offset, and SLEWING clears. -/
  | slewDone
  /-- NC_FIRE (R152): An armed compare unit reaches its target, fires its action and re-arms or disarms. -/
  | ncFire (n : Fin 16)
  /-- COMPARE_PULSE_END (R154): A TIO_PULSE or SYNCO pulse driven by a compare unit ends. -/
  | comparePulseEnd (pin : Fin 5)
  /-- CAPTURE (R157): A qualifying edge or event captures NWT into a capture unit. -/
  | capture (src : BitVec 6) (rising : Bool)
  /-- TRACKER_MEASUREMENT (R169): A resolver, encoder, Hall or observer measurement updates a tracker's angle, speed and pending correction. -/
  | trackerMeasurement (n : Fin 6) (m : TrackerMeas)
  /-- INDEX_EDGE (R166): An encoder index edge homes the tracker or checks its count. -/
  | indexEdge (n : Fin 6)
  /-- SOURCE_TIMEOUT (R165): A tracker source gives no measurement for TMO, so speed is zeroed or a source fault arises. -/
  | sourceTimeout (n : Fin 6) (alt : Bool)
  /-- HOLD_EXPIRY (R171): The hold time runs out after a source fault, so VALID clears, HOLDEXP is set and an engaged table disengages. -/
  | holdExpiry (n : Fin 6)
  /-- ANGLE_WINDOW_CROSSING (R177): The angle crosses a window bound and the window flag changes. -/
  | angleWindowCrossing (n : Fin 6) (w : Fin 4) (hi : Bool)
  /-- KERF_ENTRY (R180): The lead angle crosses the next entry of a Kerf table, which sets leg states and issues its trigger. -/
  | kerfEntry (n : Fin 6)
  /-- KERF_BOUNDARY (R185): A pattern boundary is crossed with a set pending: origin, pattern and engagement change. -/
  | kerfBoundary (n : Fin 6) (j : Fin 6)
  /-- SET_TRIGGER (R206): A trigger is taken by a sample set, which starts a run or is dropped with OVR. -/
  | setTrigger (slot : Fin 16)
  /-- CONVERTER_RESERVATION (R205): After DLY, a run reserves its converters in the first cycle in which they are free. -/
  | converterReservation (slot : Fin 16)
  /-- RANK_CONVERSION_END (R205): A rank's conversions end and their results are written to the engine. -/
  | rankConversionEnd (slot : Fin 16) (raw : List Nat)
  /-- RUN_COMPLETE (R205): A sample-set run completes: it releases converters, updates results and starts its program and chained sets. -/
  | runComplete (slot : Fin 16)
  /-- EXCITER_TRIGGER (R207): An exciter issues its trigger at the excitation peak plus its phase delay. -/
  | exciterTrigger (u : Fin 2)
  /-- REFERENCE_SETTLED (R193): The settling time of the reference in use ends, and REF_SETTLED becomes 1. -/
  | referenceSettled
  /-- REFP_MONITOR (R196): REFP leaves or re-enters its window for 16 SOSC cycles, so REFPOK changes and REFFLT or the fall-back may follow. -/
  | refpMonitor (inside : Bool)
  /-- CALIBRATION_TICK (R216): A PERIOD tick starts a background converter cycle in a bank. -/
  | calibrationTick (b : Fin 2)
  /-- REFERENCE_CALIBRATION_DONE (R213): A reference calibration of a slice ends, passed or failed. -/
  | referenceCalibrationDone (sl : Fin 18) (codes : List (BitVec 16))
  /-- PHASE_TIME_LIMIT (R218): A shadow or verify phase passes after 100 ms. -/
  | phaseTimeLimit (b : Fin 2)
  /-- SWAP (R220): In a gap, the spare takes the converter's role or hands it back. -/
  | swap (b : Fin 2)
  /-- SWAPIN_TIMEOUT (R220): No gap within 10 ms abandons SWAPIN and counts CALSKIP. -/
  | swapinTimeout (b : Fin 2)
  /-- COMPARATOR_CONDITION (R227): A window-comparator condition changes after its filter and acts on cut, trip and protection logic. -/
  | comparatorCondition (w : Fin 24) (uv : Nat)
  /-- COMPARATOR_SETTLED (R228): The 6,400 SOSC settling time after BOOT starts ends, and the comparators begin to act. -/
  | comparatorSettled
  /-- PERIOD_BOUNDARY (R237): A timebase reaches ZERO, takes a pending set at an update point, releases cuts and issues its trigger. -/
  | periodBoundary (g : Fin 7)
  /-- MID_POINT (R238): A timebase reaches MID, issues its trigger and takes a pending set if MID is an update point. -/
  | midPoint (g : Fin 7)
  /-- XC_TRIGGER (R252): An extra trigger compare reaches POS and issues its trigger. -/
  | xcTrigger (g : Fin 6) (n : Fin 4)
  /-- BOOTSTRAP_REFRESH_DUE (R260): The refresh monitor reaches BSMAX, so a refresh is inserted at once or at the next boundary. -/
  | bootstrapRefreshDue (leg : Fin 20)
  /-- DELAY_LINE_MEASUREMENT (R261): A replica-line measurement sets the tap scale, DLOK or DLFAIL. -/
  | delayLineMeasurement (g : Fin 7) (taps : Nat)
  /-- DELAY_UPDATE (R254): A new delay value takes effect once the output is off with no edge in its delay line. -/
  | delayUpdate (leg : Fin 20) (high : Bool)
  /-- INTERLOCK_FAULT (R255): An interlock interval outlasts the live period or 100 µs, and the group enters its fault state. -/
  | interlockFault (g : Fin 7)
  /-- INITIAL_LOAD (R273): DRVWAIT after DRVEN rises, frames carry every present code. -/
  | initialLoad (g : Fin 7)
  /-- STRENGTH_FRAME_SENT (R276): A strength frame ends on the line, SEQ increments and the next queued frame follows. -/
  | strengthFrameSent (g : Fin 7)
  /-- CODE_LATCH (R277): A code takes effect in the driver 40 ns after its frame ends, and CUR and LOADED update. -/
  | codeLatch (g : Fin 7)
  /-- REFRESH_FRAME (R276): With an empty queue, a refresh frame is sent every REFINT × 10 µs. -/
  | refreshFrame (g : Fin 7)
  /-- EDGE_SENSE_PULSE (R281): An edge-sense pulse is attributed and measured, and adaptation or learning may step the code. -/
  | edgeSensePulse (leg : Fin 20) (level : Bool) (fine : Fin 64)
  /-- DSAT_ASSERTION (R289): A filtered DSAT assertion sets DSAT_EARLY in blanking, counts DSIDLE, or is a desaturation fault. -/
  | dsatAssertion (leg : Fin 20) (level : Bool)
  /-- BLANKING_END (R289): Blanking ends, and a DSAT still asserted becomes a fault or counts as noise. -/
  | blankingEnd (leg : Fin 20) (high : Bool)
  /-- OVERDUE_FAULT (R290): EDG stays high for TOVD while one switch is on, and a switch fault occurs. -/
  | overdueFault (leg : Fin 20)
  /-- SOFT_FORCE_OFF (R291): The soft force-off instant arrives 80 ns after a fault, and the faulted switch is forced off. -/
  | softForceOff (leg : Fin 20) (high : Bool)
  /-- BREAK_END (R278): A break is released 40 ns after the last soft force-off, and the aborted frame is resent. -/
  | breakEnd (g : Fin 7)
  /-- FAULT_LATCH_CLEAR (R292): The first command edge after a fault latch is set clears it. -/
  | faultLatchClear (leg : Fin 20) (high : Bool)
  /-- DRVEN_CLEAR_PULSE_END (R297): The 10 µs low pulse of DRVEN after a successful clear ends. -/
  | drvenClearPulseEnd (g : Fin 7)
  /-- LEARNING_TIMEOUT (R285): LTMO passes without convergence, and the remaining kinds fail. -/
  | learningTimeout (leg : Fin 20) (kind : Fin 4)
  /-- PROGRAM_START (R322): A start reaches a program, which is queued or dropped with OVRUN. -/
  | programStart (p : Fin 64)
  /-- RUN_BEGIN (R323): An idle lane takes its highest-priority queued program, and adaptive stages rescale. -/
  | runBegin (j : Fin 8)
  /-- RUN_END (R320): A program run ends: SEQ updates, its chain starts, and the axis sequencer reads the monitor words. -/
  | runEnd (j : Fin 8) (waits : Nat)
  /-- MIGRATION_COPY_DONE (R332): The copy of a migrating lane's memory completes, and PHASE becomes SWITCH. -/
  | migrationCopyDone
  /-- SWITCH_INSTANT (R333): A free lane cycle in SWITCH remaps the logical lane to the spare. -/
  | switchInstant
  /-- MIGRATION_TIMEOUT (R334): No switch instant within 10 ms abandons the migration. -/
  | migrationTimeout
  /-- LANE_TEST_DONE (R669): An operation-time lane test ends, and the lane becomes SPARE or RETIRED. -/
  | laneTestDone (pass valid : Bool)
  /-- BIST_SCHEDULER_TICK (R668): PERIOD after the last lane test, the scheduler requests migration of the next lane. -/
  | bistSchedulerTick
  /-- SEQUENCER_TICK (R386): The 10 µs sequencer tick refreshes MEAS, SPE and PLIM and advances the sequencer timers. -/
  | sequencerTick
  /-- LADDER_TICK (R401): A ladder tick selects a pattern and stages and commits the Kerf origin and selection. -/
  | ladderTick (a : Fin 4)
  /-- CATCH_DETECT_END (R407): The CDET detect time ends, and the axis goes to ALIGN, lock or RUN, or takes a KEMF fault. -/
  | catchDetectEnd (a : Fin 4)
  /-- CATCH_LOCK_TIMEOUT (R407): Lock not complete within CLCK gives an axis fault with cause CATCH. -/
  | catchLockTimeout (a : Fin 4)
  /-- ALIGN_TIMEOUT (R410): With START NONE, no valid tracker within 10 ms gives an axis fault with cause ALIGN. -/
  | alignTimeout (a : Fin 4)
  /-- DC_ALIGN_END (R411): DC alignment holds for DCT, and the tracker is set to 0. -/
  | dcAlignEnd (a : Fin 4)
  /-- HFI_END (R412): Injection runs for HFIT, and the polarity pulses start. -/
  | hfiEnd (a : Fin 4)
  /-- POLARITY_PULSE_END (R413): A polarity pulse pair ends and the polarity is confirmed, flipped, retried or faulted. -/
  | polarityPulseEnd (a : Fin 4)
  /-- POLARITY_FLIP (R414): The ANGINT state is flipped by half a turn in a lane cycle when the program is idle. -/
  | polarityFlip (a : Fin 4)
  /-- MAGN_END (R410): Magnetising for MAGT × 4 ms ends, and the axis enters RUN. -/
  | magnEnd (a : Fin 4)
  /-- OBSERVER_PRESET (R416): The sequencer writes observer lane words while the program is idle. -/
  | observerPreset (a : Fin 4)
  /-- SECTOR_CHANGE (R404): A BLOCK120 sector change stages and commits all legs and optionally restarts the carrier. -/
  | sectorChange (a : Fin 4)
  /-- KEMF_EVALUATION (R422): Every 10 ms the back-EMF ratio is evaluated for warning and fault. -/
  | kemfEvaluation (a : Fin 4)
  /-- ID_TEST_END (R424): A parameter-identification test time ends, and RS, LD or LQ are computed. -/
  | idTestEnd (a : Fin 4)
  /-- STOP_COMPLETE (R418): An axis in STOPPING stays below STOPSPD for 10 ms and goes to OFF. -/
  | stopComplete (a : Fin 4)
  /-- STOP_TIMEOUT (R418): STOPTMO passes in STOPPING, and the axis goes to OFF with STOPTO. -/
  | stopTimeout (a : Fin 4)
  /-- GSYNC_STEADY (R437): The grid holds steady for SYNCT, and the AFE arms its restart. -/
  | gsyncSteady (a : Fin 4)
  /-- GSYNC_TIMEOUT (R437): SYNCTMO passes in GSYNC, giving an axis fault with CCAUSE GRIDSYNC. -/
  | gsyncTimeout (a : Fin 4)
  /-- ARM_TIMEOUT (R439): No restart within 10 ms of the target gives an axis fault with CCAUSE ARMTO. -/
  | armTimeout (a : Fin 4)
  /-- BUDGET_TICK (R445): Every 10 µs the budget limit ramps and BUDGET_OVER is re-evaluated. -/
  | budgetTick
  /-- BUDGET_DEADLINE (R445): The cut deadline is reached with use still over the grant, and BUDFLT is set. -/
  | budgetDeadline
  /-- LEASE_EXPIRY (R444): A bus grant older than BTMO is replaced by BFALL, and LEASE is set. -/
  | leaseExpiry
  /-- CONVERTER_STOP_COMPLETE (R448): |P| stays at or below PSTOP for 1 ms, and the converter axis goes to OFF. -/
  | converterStopComplete (a : Fin 4)
  /-- CONVERTER_STOP_TIMEOUT (R448): STOPTMO passes in RAMPDN, and the axis goes to OFF with STOPTO. -/
  | converterStopTimeout (a : Fin 4)
  /-- VLOST_TIMEOUT (R459): No DC-link sample for VTMO raises cause VLOST. -/
  | vlostTimeout
  /-- PRECHARGE_TIMEOUT (R464): PCTMAX passes without the envelope met, raising cause PRECH and entering STANDBY. -/
  | prechargeTimeout
  /-- CHNOI_CHECK (R466): 5 µs after a chopper turn-on, no comparator current fails the chopper. -/
  | chnoiCheck
  /-- ASC_TIMEOUT (R472): ASCTMAX passes with the tracker invalid, and the ASC changes to FREEWHEEL. -/
  | ascTimeout (a : Fin 4)
  /-- DISCHARGE_TIMEOUT (R475): DTMO passes in DISCHARGE, raising DISCH_TMO and entering STANDBY. -/
  | dischargeTimeout
  /-- STO_RELEASE (R492): Rind lets the STO toggles run, and the balls rise once the detectors see them. -/
  | stoRelease
  /-- STO_READBACK (R493): The STO readback window after an assertion passes, driving SSOA and SSOB, or fails with STORB. -/
  | stoReadback (ok : Bool)
  /-- SA_CONVERSION (R496): A Rind converter finishes a scan conversion, and a slot value or a SACAL check updates. -/
  | saConversion (item : Fin 12) (code : BitVec 12)
  /-- RCMP_DEMAND (R500): A Rind comparator passes its filter and raises demand RCMPk. -/
  | rcmpDemand (k : Fin 4) (uv : Nat)
  /-- CROSS_COMPARISON_WINDOW (R501): At the end of a window, Rind compares its slot mean with the main path and may raise XCMP. -/
  | crossComparisonWindow (k : Fin 8)
  /-- TORQUE_EVALUATION (R504): Every 320 SOSC cycles a monitor estimates torque and checks angle, possibly raising TMm, ANGLE or SSCHK. -/
  | torqueEvaluation (m : Fin 2) (hall : BitVec 3) (edgeNs : Nat)
  /-- TREF_FRESHNESS (R505): The axis program's SEQ does not change within TRAGE, raising demand TREF. -/
  | trefFreshness (m : Fin 2)
  /-- SS1_EVALUATION (R508): An SS1 monitor evaluation checks standstill and the ramp envelope. -/
  | ss1Evaluation
  /-- SS1_TIMEOUT (R508): SS1T passes in an SS1 stop, so STO is asserted and SS1EXP set. -/
  | ss1Timeout
  /-- ASC_DEFERRAL_END (R509): RASCMAX passes with a deferrable demand waiting, and STO is asserted. -/
  | ascDeferralEnd
  /-- RIND_SELF_TEST_DONE (R513): The Rind self-test after power-on or a Rind reset completes and sets SELFOK, or fails. -/
  | rindSelfTestDone (fault : Option (Fin 8))
  /-- PSETCRC_CHECK (R514): Every 10 s the CRC of the Rind set in force is recomputed. -/
  | psetcrcCheck (ok : Bool)
  /-- SCLKMON_WINDOW (R514): SCLK measured out of range for 8 windows raises internal fault SCLKMON. -/
  | sclkmonWindow (khz : Nat)
  /-- PROOF_HOUR (R516): Each hour released increments PROOFH, and above 168 sets STOPROOF. -/
  | proofHour
  /-- TEST_PULSE (R527): A TP output starts or ends its low pulse. -/
  | testPulse (n : Fin 4) (low : Bool) (seen : BitVec 32)
  /-- TP_READBACK_FAULT (R527): A TP readback differs in 4 consecutive samples, setting TPF. -/
  | tpReadbackFault (n : Fin 4)
  /-- PROCESSED_LEVEL_CHANGE (R529): A safety-input channel level passes its source stage and filter. -/
  | processedLevelChange (f : Fin 8) (ch : Fin 4) (level : Bool) (samples : Nat)
  /-- RSTSTUCK (R540): A reset input high for more than 2 s sets RSTSTUCK. -/
  | rststuck (f : Fin 8)
  /-- SAFETY_EVALUATION (R531): At each evaluation instant, every function forms PERMIT and EFFP and updates LATCH and fault latches. -/
  | safetyEvaluation
  /-- TD_CONVERSION (R558): An on-die sensor is converted every 100 µs. -/
  | tdConversion (k : Fin 12) (reading : Int) (trip : Bool)
  /-- TE_NOSAMPLE (R560): An external channel takes no sample for 100 ms and becomes invalid. -/
  | teNosample (k : Fin 12)
  /-- THERMAL_EVALUATION (R566): Every 1 ms the throttle step, drive inhibit and store and charging windows are evaluated. -/
  | thermalEvaluation
  /-- CROSS_CHECK (R562): Every 10 ms each sensor is compared with its neighbours and may be excluded. -/
  | crossCheck
  /-- THERMAL_SHUTDOWN (R574): A shutdown comparator trip held 16 SOSC cycles sets the Rind latch and LATCHED. -/
  | thermalShutdown (k : Fin 12)
  /-- BUS_INTEGRATION (R584): A started controller sees 11 recessive bits and joins bus traffic. -/
  | busIntegration (u : Fin 2)
  /-- FRAME_RECEIVED (R600): A frame received without error is filtered into the FIFO or priority buffer, consumed as time or grant, or bridged. -/
  | frameReceived (u : Fin 2) (cw : Word) (data : List Word) (age : Nat)
  /-- TRANSMISSION_END (R594): A transmit attempt ends in success, arbitration loss or error, and updates the buffer state and error counters. -/
  | transmissionEnd (u : Fin 2) (r : TxResult) (age : Nat)
  /-- COUNTED_RETRY (R594): Cellar sets a COUNTED buffer in WAIT to PENDING again, or LOST at RETRY. -/
  | countedRetry (u : Fin 2) (b : Fin 3)
  /-- BUS_OFF_RECOVERY (R598): After 128 recovery sequences the controller returns to error-active. -/
  | busOffRecovery (u : Fin 2)
  /-- SYNCINT_TICK (R606): At each SYNCINT tick, the time buffer is loaded with a SYNC unless it is still busy. -/
  | syncintTick
  /-- METER_SAMPLE (R618): A metrology sample is corrected and its energy accumulated into the registers. -/
  | meterSample (x0 x1 x2 x3 : Int)
  /-- METER_SECOND (R620): Every second the means are formed and the redundant pair is compared. -/
  | meterSecond
  /-- CHECKPOINT (R622): Every 60 s a metrology snapshot slot is written. -/
  | checkpoint
  /-- POWER_FAIL_TRIP (R623): VDDM below 3.00 V for 8 SOSC cycles stops accumulation and writes a PFAIL snapshot. -/
  | powerFailTrip
  /-- POWER_FAIL_RELEASE (R623): VDDM above 3.10 V for 1 ms resumes accumulation with GAP set. -/
  | powerFailRelease
  /-- MODULATOR_FAULT (R621): A modulator becomes unstable or saturates for 4,000 samples, and a session may close with FAULT. -/
  | modulatorFault (m : Fin 4)
  /-- SESSION_RECORD_COMMIT (R629): A closing session's record is signed and committed, STATE becomes IDLE and events are set. -/
  | sessionRecordCommit
  /-- CLOSE_COMMIT_RETRY (R629): While STWIN = 0, a closing record's commit is retried every 1 s. -/
  | closeCommitRetry
  /-- SEAL_TIMEOUT (R103): An open seal with no SL write for TIMEOUT minutes closes itself. -/
  | sealTimeout
  /-- LOCKOUT_END (R102): A seal lockout's time runs out, and SEAL_OPEN is judged again. -/
  | lockoutEnd (mtr : Bool)
  /-- STORE_OPERATION_DONE (R655): A pending host store request ends, and DEV.PDONE and PEND_DONE report its outcome. -/
  | storeOperationDone (ok : Bool)
  /-- DEFERRED_STORE_WRITE (R671): A store write deferred by the store window is made when the window permits. -/
  | deferredStoreWrite
  /-- SCRUB_DONE (R670): A store scrub ends, and DEV.PDONE reports the words corrected. -/
  | scrubDone (corrected unc : Nat)
  /-- FUSE_DONE (R672): A fusing request ends with each record fused or FERR set. -/
  | fuseDone (good : List Bool)
  /-- SELFTEST_COMPLETE (R667): A SELFTEST run ends, remaps lanes, sets UNREP and DONE, and leaves SELFTEST. -/
  | selftestComplete (results : List (Fin 4)) (spares : List SpareUse) (invalid : Bool)
  /-- TRACE_PACKET_SENT (R679): A Whey packet leaves the port, freeing a FIFO entry so OVERFLOW and SYNC may be queued. -/
  | tracePacketSent
  /-- SAMPLING_INSTANT (R205): The acquisition of a rank ends: its sampling instant falls, trackers with LEN latch SANG and SSPD, and REFNS is decided. -/
  | samplingInstant (slot : Fin 16)
  /-- COMMAND_EDGE (R253): A switch command changes at stage 1 when a window position ON or OFF is reached, or when a bootstrap refresh time r ends. -/
  | commandEdge (leg : Fin 20) (pos : BitVec 30)
  /-- EDGE_LAUNCH (R280): A delayed command edge reaches the output of stage 6: the output changes, blanking or an interlock interval starts, and the edge becomes a launch instant. -/
  | edgeLaunch (leg : Fin 20) (high on : Bool)
  /-- PULSE_METER_EDGE (R372): A rising edge on PSET0 or PSET1 makes the pulse meter measure high time and period and form its code and validity. -/
  | pulseMeterEdge (u : Fin 2) (high period : Nat)
  /-- ERROR_FRAME (R597): A Purlin controller detects a bus error while receiving, sends an error frame and updates its receive error counter and error state. -/
  | errorFrame (u : Fin 2) (lec : Fin 7) (dataPhase dominant : Bool)
  /-- STORE_WRITE_COMPLETE (R651): A store write of any writer commits its record and frees the store for the next waiting writer. -/
  | storeWriteComplete (ok : Bool)
  /-- SAFE_PARAM_CONFIRM_DONE (R551): The SAFE record of a confirmation commits or fails: Rind takes the set, the seal closes and DEV.PDONE reports the outcome. -/
  | safeParamConfirmDone (ok : Bool)
  /-- VIO_PAD_HOLD (R696): VIO rises above or falls below its pad-hold level, so every output ball is driven to its state or left undriven. -/
  | vioPadHold (below : Bool)
  /-- WHEY_SYNC (R681): NWT[47:23] moves away from the value of the last trace SYNC, and a SYNC packet is queued. -/
  | wheySync
deriving DecidableEq, Repr

end Sys2Proof
end

