-- ==== Sys2Proof/Config.lean ====
section
/-! DEFINITION. What one part fixes and what the spec leaves open: the values no rule states, as constants with no
body, so that nothing can be proved about any one value of them. -/

namespace Sys2Proof.Config

/-- A free value: the `n`-th value the spec leaves open in a run (log entry 3). -/
opaque freeWord : Nat → Word

/-- The error of the sine that the engine computes for an angle, which R375 bounds at 2^-40 of full scale and does not give (log entry 5): a
number whose low 25 bits, less 2^24, count units of 2^-64. -/
opaque sinError : Word → Nat

/-- The error of the cosine, as `sinError` (R375, log entry 5). -/
opaque cosError : Word → Nat

/-- The error of the angle of a vector, which R380 bounds at 2^-32 turn and does not give (log entry 5): a number whose low 17 bits, less
2^16, count angle units. -/
opaque atanError : Int → Int → Nat

/-- How the resolver's angle is rounded to an angle unit, which R165 does not state (log entry 77): the low two bits, less 1, count angle units. -/
opaque resolverRounding : Int → Int → Nat

/-- Whether an ECDSA P-256 signature over SHA-256 verifies (R547, R634, R659): key words, signed words, signature words.
The spec names the algorithm and does not write it out (log entry 4). -/
opaque ecdsaVerify : List Word → List Word → List Word → Bool

/-- The ECDSA P-256 signature the device makes with its own key over SHA-256 of the words (R631; log entry 4). -/
opaque ecdsaSign : List Word → List Word

/-- Store word `k` of a partition that Cellar arranges, for what the partition holds (R643, log entry 55). -/
opaque partitionWord : Nat → List Word → Word

/-- Whether store word `k` of the SAFE partition lies in the salt or the verifier of the password (R83, R548, log entry 55). -/
opaque holdsPassword : Nat → List Word → Bool

/-- SHA-256 of a list of words, as words (R548; log entry 4). -/
opaque sha256 : List Word → List Word

end Sys2Proof.Config
end

