-- ==== Sys2Proof/Machine/BlockMath.lean ====
section
/-! DEFINITION. The arithmetic of the engine (R310 to R313) and what each block type of the library computes (R360 to R382), as functions of
its inputs, parameters and lane words. -/

namespace Sys2Proof.Machine

/-! ### Arithmetic of R312 -/

/-- Rounded right shift: nearest, ties towards plus infinity. -/
def rshift (x : Int) (k : Nat) : Int := if k = 0 then x else (x + 2 ^ (k - 1)) / 2 ^ k

/-- An exact integer as a 48-bit mantissa, and whether it wrapped. -/
def to48 (x : Int) : Int × Bool := let y := signed 48 (unsigned 48 x); (y, y != x)

/-- An exact integer times 2^k, rounded. -/
def shiftBy (x : Int) (k : Int) : Int := if k < 0 then rshift x k.natAbs else x * 2 ^ k.toNat

/-- The mantissa and the exponent of a coefficient word (R311). -/
def coef (w : Word) : Int × Int := (signed 40 (w.field 8 40), signed 8 (w.field 0 8))

/-- Signal times coefficient, or two signals of one stage (R312). -/
def mulCoef (m : Int) (cf : Int × Int) : Int × Bool := to48 (shiftBy (m * cf.1) cf.2)

/-- The mantissa of a value aligned from one exponent to another: `k` is producer minus consumer (R312). -/
def alignTo (m k : Int) : Int × Bool := if 0 ≤ k then to48 (m * 2 ^ k.toNat) else (rshift m k.natAbs, false)

/-- A coefficient that serves as a signal value in a stage of exponent e (R354). -/
def coefSignal (w : Word) (e : Int) : Int := let c := coef w; (to48 (shiftBy c.1 (c.2 - e))).1

/-- An exact dyadic number: n times 2^k. -/
abbrev Dy := Int × Int

/-- The exact sum of dyadic numbers. -/
def dyAdd (a b : Dy) : Dy :=
  if a.2 ≤ b.2 then (a.1 + b.1 * 2 ^ (b.2 - a.2).toNat, a.2) else (a.1 * 2 ^ (a.2 - b.2).toNat + b.1, b.2)

/-- The exact sum of a list of dyadic numbers. -/
def dySum (l : List Dy) : Dy := l.foldl dyAdd (0, 0)

/-- A running sum, rounded and wrapped once (R312). -/
def dyOut (a : Dy) : Int × Bool := to48 (shiftBy a.1 a.2)

/-- A quotient of integers, nearest, ties towards plus infinity; the denominator is not zero. -/
def quotNear (n d : Int) : Int := let s : Int := if d < 0 then -1 else 1; (2 * s * n + s * d) / (2 * (s * d))

/-- The number of bits below bit 47, from bit 46 down, that equal bit 47 (R317). -/
def headroom (m : Int) : Nat :=
  let a : Nat := (if m < 0 then -m - 1 else m).toNat
  (List.range 48).foldl (fun h k => if a < 2 ^ (47 - k) then k else h) 0

/-- The square root of a natural number, rounded to nearest. -/
def sqrtNear (n : Nat) : Nat :=
  let r := (List.range 52).foldl (fun r k => let t := r + 2 ^ (51 - k); if t * t ≤ n then t else r) 0
  if r * r + r < n then r + 1 else r

/-! ### Angles -/

/-- The sine of an angle of the first quadrant, given as a number of 2^-48 turns, in units of 2^-64. -/
def sinQuad (a : Nat) : Int :=
  let x : Int := (a * 115904311329233965478 : Nat) / 2 ^ 48
  let x2 : Int := x * x / 2 ^ 64
  let s := (List.range 14).foldl (fun (t : Int × Int) k =>
    let term := -(t.2 * x2) / 2 ^ 64 / (((2 * k + 2) * (2 * k + 3) : Nat) : Int)
    (t.1 + term, term)) (x, x)
  s.1

/-- The exact sine of an angle, to better than 2^-58, in units of 2^-64. -/
def sinExact (phi : Word) : Int :=
  let a := phi.toNat % 2 ^ 46
  match phi.toNat / 2 ^ 46 with
  | 0 => sinQuad a
  | 1 => sinQuad (2 ^ 46 - a)
  | 2 => -sinQuad a
  | _ => -sinQuad (2 ^ 46 - a)

/-- The engine's sine, with its bounded error (R375), in units of 2^-64. -/
def sinOf (phi : Word) : Int := sinExact phi + ((Config.sinError phi % 2 ^ 25 : Nat) : Int) - 2 ^ 24

/-- The engine's cosine, with its bounded error (R375), in units of 2^-64. -/
def cosOf (phi : Word) : Int := sinExact (phi + 0x400000000000) + ((Config.cosError phi % 2 ^ 25 : Nat) : Int) - 2 ^ 24

/-- The mantissas of the sine and the cosine of an angle in a stage of exponent e (R375). -/
def sinCos (phi : Word) (e : Int) : Int × Int := ((to48 (shiftBy (sinOf phi) (-64 - e))).1, (to48 (shiftBy (cosOf phi) (-64 - e))).1)

/-- The angles of arctan 2^-i, in units of 2^-64 turn. -/
def arctanTable : List Int := [2305843009213693952, 1361218612134873190, 719230530580881038, 365092647525521947, 183254791493294829,
  91716730292036216, 45869556482713130, 22936177926750895, 11468263948075831, 5734153847876408, 2867079658191483, 1433540170878135,
  716770128161890, 358385069421298, 179192535378193, 89596267772540, 44798133896700, 22399066949654, 11199533474990, 5599766737515,
  2799883368760, 1399941684380, 699970842190, 349985421095, 174992710548, 87496355274, 43748177637, 21874088818, 10937044409, 5468522205,
  2734261102, 1367130551, 683565276, 341782638, 170891319, 85445659, 42722830, 21361415, 10680707, 5340354, 2670177, 1335088, 667544]

/-- The angle of a vector, to the nearest of 2^48 units per turn but for the last place. -/
def atan2Near (y x : Int) : Int :=
  let flip : Bool := decide (x < 0)
  let v0 : Int × Int × Int := ((if flip then -x else x) * 2 ^ 24, (if flip then -y else y) * 2 ^ 24, 0)
  let v := (arctanTable.zipIdx).foldl (fun (v : Int × Int × Int) ai =>
    let (vx, vy, z) := v
    if 0 ≤ vy then (vx + vy / 2 ^ ai.2, vy - vx / 2 ^ ai.2, z + ai.1) else (vx - vy / 2 ^ ai.2, vy + vx / 2 ^ ai.2, z - ai.1)) v0
  rshift v.2.2 16 + (if flip then 2 ^ 47 else 0)

/-- The angle of a vector, in angle units of 2^48 per turn, with its bounded error (R380). -/
def atan2Of (y x : Int) : Word := BitVec.ofInt 48 (atan2Near y x + ((Config.atanError y x % 2 ^ 17 : Nat) : Int) - 2 ^ 16)

/-! ### Inputs and results of a block -/

/-- What a block execution reads: the exponent of its stage, its OPT and parameter words, its inputs (connected, mantissa, second word of
a vector input), its lane words as they stand, whether the set of window input i is left-aligned, the substate code of its axis, whether a restart or a
first execution is due, whether the fall-back of its axis is in force and with which meaning, and fresh free values. -/
structure BIn where
  e : Int
  opt : Nat
  p0 : Word
  p1 : Word
  p2 : Word
  conn : Nat → Bool
  x : Nat → Int
  y : Nat → Int
  old : Nat → Int
  left : Nat → Bool
  sub : Nat
  fresh : Bool
  fallback : Bool
  altSource : Bool
  pulse : Option Nat
  free : Nat → Word

/-- What a block execution leaves: its lane words from BASE on, and the flags of R358. -/
structure BRes where
  words : List Int := []
  wrap : Bool := false
  lim : Bool := false
  inv : Bool := false
  restart : Bool := false
  drew : Bool := false

/-- A truth value as a flag mantissa (R352). -/
def flagInt (b : Bool) : Int := if b then 1 else 0

/-- Option bit k. -/
def BIn.o (i : BIn) (k : Nat) : Bool := Nat.bitAt i.opt k

/-! ### Input conversion (R360, R373) -/

/-- The code of a result word (R208, R360). -/
def resultCode (left : Bool) (w : Int) : Nat := let n := unsigned 48 w; if left then n / 256 % 65536 else n % 65536

/-- ADCIN (R360). -/
def execADCIN (i : BIn) : BRes :=
  let invmask := i.opt % 64
  let ofs (k : Nat) : Int := ((i.p1.field (32 - 16 * k) 16 : Nat) : Int)
  let r := (List.range 4).foldl (fun (acc : List Int × Nat × Bool × Bool) k =>
    let (outs, flags, bad, wr) := acc
    if i.conn k then
      let w := i.x k
      let code := resultCode (i.left k) w
      let st := unsigned 48 w / 2 ^ 42
      let v : Int := if k ≤ 2 then (if i.o 7 then signed 16 code else (code : Int)) - ofs k else (code : Int)
      let cf := coef (if k ≤ 2 then i.p0 else i.p2)
      let b := st &&& invmask != 0
      let m := mulCoef v (cf.1, cf.2 - i.e)
      let hold := b && i.o 6
      (outs ++ [if hold then i.old k else m.1], flags ||| st, bad || b, wr || (!hold && m.2))
    else (outs ++ [i.old k], flags, bad, wr)) ([], 0, false, false)
  { words := r.1 ++ [(r.2.1 : Int)], inv := r.2.2.1, wrap := r.2.2.2 }

/-- FBSP (R371, R373): `i.pulse` is the code of the pulse source when it is valid but for LO and HI. -/
def execFBSP (i : BIn) : BRes :=
  let zero : Int := (i.p0.field 32 16 : Nat)
  let full : Int := (i.p0.field 16 16 : Nat)
  let lo := i.p2.field 32 16
  let hi := i.p2.field 16 16
  let sel := i.p0.field 12 4
  let w := unsigned 48 (i.x 0)
  let acode := resultCode (i.left 0) (i.x 0)
  let analog := i.conn 0 && !Nat.bitAt w 47 && !Nat.bitAt w 42 && decide (lo ≤ acode) && decide (acode ≤ hi) && (sel == 1 || sel == 4 || sel == 5)
  let pulse := if 2 ≤ sel ∧ sel ≤ 5 then (match i.pulse with | some x => if lo ≤ x ∧ x ≤ hi then some x else none | none => none) else none
  let src : Option (Nat × Bool) := match pulse with | some x => some (x, true) | none => if analog then some (acode, false) else none
  match src with
  | none => { words := [0, 0], inv := true }
  | some (x, isPulse) =>
    let st : Int := 1 + (if isPulse then 2 else 4)
    if full = zero then { words := [(i.free 0).toInt, st], drew := true }
    else
      let d : Int := if full < zero then -1 else 1
      let n : Int := d * ((x : Int) - zero)
      let den : Int := d * (full - zero)
      let n := clampInt (-den) den n
      let fs := coef i.p1
      let k := fs.2 - i.e
      let out := if 0 ≤ k then quotNear (fs.1 * 2 ^ k.toNat * n) den else quotNear (fs.1 * n) (den * 2 ^ k.natAbs)
      { words := [(to48 out).1, st] }

/-! ### Arithmetic types (R361, R362) -/

/-- SUM. -/
def execSUM (i : BIn) : BRes :=
  let s := (List.range 6).foldl (fun (a : Int) k => if i.conn k then (if i.o k then a - i.x k else a + i.x k) else a) 0
  let r := to48 s
  { words := [r.1], wrap := r.2 }

/-- GAIN. -/
def execGAIN (i : BIn) : BRes :=
  let f (k : Nat) (w : Word) : Int × Bool := if i.conn k then mulCoef (i.x k) (coef w) else (0, false)
  let r := [f 0 i.p0, f 1 i.p1, f 2 i.p2]
  { words := r.map (·.1), wrap := r.any (·.2) }

/-- MUL. -/
def execMUL (i : BIn) : BRes :=
  let pair (j : Nat) : Int := if i.conn (2 * j) && i.conn (2 * j + 1) then i.x (2 * j) * i.x (2 * j + 1) else 0
  if i.o 0 then
    let r := dyOut (pair 0 + pair 1 + pair 2, i.e)
    { words := [r.1, 0, 0], wrap := r.2 }
  else
    let r := [0, 1, 2].map (fun j => dyOut (pair j, i.e))
    { words := r.map (·.1), wrap := r.any (·.2) }

/-- DIV. -/
def execDIV (i : BIn) : BRes :=
  let m1 := i.x 1
  if m1 = 0 then { words := [0], inv := true }
  else
    let q := if i.e ≤ 0 then quotNear (i.x 0 * 2 ^ i.e.natAbs) m1 else quotNear (i.x 0) (m1 * 2 ^ i.e.toNat)
    let r := to48 q
    { words := [r.1], wrap := r.2 }

/-- LIMIT. -/
def execLIMIT (i : BIn) : BRes :=
  let d := coefSignal i.p0 i.e
  let hi := if i.conn 1 then i.x 1 else d
  let lo := if i.conn 2 then i.x 2 else -d
  let pct : Int := ((min (unsigned 48 (i.x 3) % 256) 100 : Nat) : Int)
  let hi := if i.conn 3 then quotNear (hi * pct) 100 else hi
  let lo := if i.conn 3 then quotNear (lo * pct) 100 else lo
  let out := max lo (min (i.x 0) hi)
  { words := [out], lim := out != i.x 0 }

/-- VLIM. -/
def execVLIM (i : BIn) : BRes :=
  let x := i.x 0
  let y := i.x 1
  let l : Int := if i.conn 2 then (if i.x 2 < 0 then -i.x 2 else i.x 2) else coefSignal i.p0 i.e
  let m : Int := ((sqrtNear (x * x + y * y).natAbs : Nat) : Int)
  let mag := to48 m
  if i.o 0 then
    let x' := clampInt (-l) l x
    let r : Int := ((sqrtNear (l * l - x' * x').toNat : Nat) : Int)
    let y' := clampInt (-r) r y
    { words := [x', y', mag.1], wrap := mag.2, lim := x' != x || y' != y }
  else if l < m then { words := [quotNear (x * l) m, quotNear (y * l) m, mag.1], wrap := mag.2, lim := true }
  else { words := [x, y, mag.1], wrap := mag.2 }

/-- CMP. -/
def execCMP (i : BIn) : BRes :=
  let a := i.x 0
  let b := i.x 1
  let h := max 0 (coefSignal i.p0 i.e)
  let old := i.old 0 != 0
  let r : Bool :=
    if i.o 3 then Nat.bitAt (unsigned 48 a) (i.p1.field 0 6)
    else match i.opt % 8 with
      | 1 => if a < b then true else if b + h ≤ a then false else old
      | 2 => decide (b ≤ a)
      | 3 => decide (a ≤ b)
      | 4 => a == b
      | 5 => a != b
      | _ => if b < a then true else if a ≤ b - h then false else old
  { words := [flagInt r] }

/-- SEL. -/
def execSEL (i : BIn) : BRes := { words := [if i.x 2 != 0 then i.x 0 else i.x 1] }

/-! ### Integrators, controllers, filters and the ramp (R363 to R369) -/

/-- INT (R364). -/
def execINT (i : BIn) : BRes :=
  if i.x 2 != 0 then { words := [i.x 1] }
  else
    let p := mulCoef (i.x 0) (coef i.p0)
    let s := to48 (i.old 0 + p.1)
    { words := [s.1], wrap := p.2 || s.2 }

/-- ANGINT (R364). -/
def execANGINT (i : BIn) : BRes :=
  if i.x 2 != 0 then { words := [i.x 1] }
  else
    let cf := coef i.p0
    { words := [(to48 (i.old 0 + shiftBy (i.x 0 * cf.1) (cf.2 + i.e))).1] }

/-- PI (R365). -/
def execPI (i : BIn) : BRes :=
  let e := to48 (i.x 0 - i.x 1)
  let p := mulCoef e.1 (coef i.p0)
  let d := mulCoef e.1 (coef i.p1)
  let i1 := to48 (i.old 1 + d.1)
  let s := to48 (p.1 + i1.1)
  let u := to48 (s.1 + i.x 2)
  let lim := coefSignal i.p2 i.e
  let hi := if i.conn 3 then i.x 3 else lim
  let lo := if i.conn 4 then i.x 4 else -lim
  let out := max lo (min u.1 hi)
  let acted := out != u.1
  let held := acted && i.o 0 && ((decide (hi < u.1) && decide (0 < e.1)) || (decide (u.1 < lo) && decide (e.1 < 0)))
  let i2 := if held then i.old 1 else i1.1
  let i3 := if i.o 1 then max lo (min i2 hi) else i2
  { words := [out, i3], wrap := e.2 || p.2 || d.2 || i1.2 || s.2 || u.2, lim := acted }

/-- LP1 (R366). -/
def execLP1 (i : BIn) : BRes :=
  let preset := i.o 0 && i.fresh
  let r := [0, 1, 2].map (fun k =>
    if !i.conn k then (i.old k, false)
    else if preset then (i.x k, false)
    else
      let d := to48 (i.x k - i.old k)
      let m := mulCoef d.1 (coef i.p0)
      let s := to48 (i.old k + m.1)
      (s.1, d.2 || m.2 || s.2))
  { words := r.map (·.1), wrap := r.any (·.2), restart := preset }

/-- A product with a coefficient, exact. -/
def dyCoef (w : Word) (m : Int) : Dy := let c := coef w; (c.1 * m, c.2)

/-- BIQ (R366): lane words y, s1, s2, a1, a2. -/
def execBIQ (i : BIn) : BRes :=
  let x := i.x 0
  let a1 := BitVec.ofInt 48 (i.old 3)
  let a2 := BitVec.ofInt 48 (i.old 4)
  let y := dyOut (dyAdd (dyCoef i.p0 x) (i.old 1, 0))
  let s1 := dyOut (dySum [dyCoef i.p1 x, dyCoef a1 (-y.1), (i.old 2, 0)])
  let s2 := dyOut (dySum [dyCoef i.p2 x, dyCoef a2 (-y.1)])
  { words := [y.1, s1.1, s2.1], wrap := y.2 || s1.2 || s2.2 }

/-- RAMP (R369): substates 0 OFF, 1 CATCH, 2 ALIGN, 3 RUN, 4 STOPPING. -/
def execRAMP (i : BIn) : BRes :=
  let y := i.old 0
  let meas := i.x 1
  if i.sub ≤ 2 then { words := [meas] }
  else if i.fresh then { words := [meas], restart := true }
  else
    let altOk := !i.conn 3 || Nat.bitAt (unsigned 48 (i.x 3)) 0
    let useAlt := i.fallback && i.altSource && i.conn 2
    let tgt : Int := if i.fallback then (if useAlt && altOk then i.x 2 else 0) else i.x 0
    let tgt := if i.sub = 4 then 0 else tgt
    let rise := coefSignal i.p0 i.e
    let fall := coefSignal i.p1 i.e
    let up := to48 (y + (if 0 ≤ y then rise else fall))
    let y1 := if y < tgt then min tgt up.1 else y
    let dn := to48 (y1 - (if y1 ≤ 0 then rise else fall))
    let y2 := if tgt < y1 then max tgt dn.1 else y1
    { words := [y2], inv := useAlt && !altOk, lim := (decide (y < tgt) && decide (tgt < up.1)) || (decide (tgt < y1) && decide (dn.1 < tgt)),
      wrap := (decide (y < tgt) && up.2) || (decide (tgt < y1) && dn.2) }

/-! ### Transforms and modulation (R374 to R376) -/

/-- 1/3 to 46 fractional bits (R375). -/
def third46 : Int := 23456248059221
/-- 1/√3 to 46 fractional bits (R375). -/
def invSqrt3 : Int := 40627413393510
/-- √3/2 to 46 fractional bits. -/
def halfSqrt3 : Int := 60941120090265

/-- CLARKE (R375). -/
def execCLARKE (i : BIn) : BRes :=
  let a := i.x 0
  let b := i.x 1
  let c := i.x 2
  let r := if i.o 0 then [(a, false), dyOut ((a + 2 * b) * invSqrt3, -46), (0, false)]
    else [dyOut ((2 * a - b - c) * third46, -46), dyOut ((b - c) * invSqrt3, -46), dyOut ((a + b + c) * third46, -46)]
  { words := r.map (·.1), wrap := r.any (·.2) }

/-- The sine and the cosine a PARK or IPARK uses (R375). -/
def BIn.phase (i : BIn) : Int × Int := if i.conn 3 then (i.x 3, i.y 3) else sinCos (BitVec.ofInt 48 (i.x 2) + i.p0) i.e

/-- A rotation of (a, b): a cos + b sin and b cos - a sin (R375). -/
def rotate (a b s c e : Int) : List (Int × Bool) := [dyOut (a * c + b * s, e), dyOut (b * c - a * s, e)]

/-- PARK (R375). -/
def execPARK (i : BIn) : BRes :=
  let r := rotate (i.x 0) (i.x 1) i.phase.1 i.phase.2 i.e
  { words := r.map (·.1), wrap := r.any (·.2) }

/-- IPARK (R375). -/
def execIPARK (i : BIn) : BRes :=
  let r := rotate (i.x 0) (i.x 1) (-i.phase.1) i.phase.2 i.e
  { words := r.map (·.1), wrap := r.any (·.2) }

/-- SINCOS (R375). -/
def execSINCOS (i : BIn) : BRes := let r := sinCos (BitVec.ofInt 48 (i.x 0) + i.p0) i.e; { words := [r.1, r.2] }

/-- A rational n / d, d above zero, as a mantissa of exponent e. -/
def ratioOut (n d e : Int) : Int := if e ≤ 0 then quotNear (n * 2 ^ e.natAbs) d else quotNear n (d * 2 ^ e.toNat)

/-- SVM (R376). -/
def execSVM (i : BIn) : BRes :=
  let vdc := i.x 2
  let half := ratioOut 1 2 i.e
  if vdc < coefSignal i.p0 i.e then { words := [half, half, half], inv := true }
  else if vdc = 0 then { words := [(i.free 0).toInt, (i.free 1).toInt, (i.free 2).toInt], drew := true }
  else
    let va := (i.x 0, false)
    let vb := dyOut (-(i.x 0) * 2 ^ 45 + halfSqrt3 * i.x 1, -46)
    let vc := dyOut (-(i.x 0) * 2 ^ 45 - halfSqrt3 * i.x 1, -46)
    let mx := max va.1 (max vb.1 vc.1)
    let mn := min va.1 (min vb.1 vc.1)
    let beyond := i.o 2 && decide (vdc < mx - mn)
    let sc (v : Int) : Int := if beyond then quotNear (v * vdc) (mx - mn) else v
    let v := [sc va.1, sc vb.1, sc vc.1]
    let mx := sc mx
    let mn := sc mn
    let v0 : Int × Bool := match i.opt % 4 with
      | 0 => (0, false)
      | 2 => if 0 ≤ mx + mn then to48 (rshift vdc 1 - mx) else to48 (rshift (-vdc) 1 - mn)
      | _ => to48 (rshift (-(mx + mn)) 1)
    let sd : Int := if vdc < 0 then -1 else 1
    let r := v.map (fun vx =>
      let s := to48 (vx + v0.1)
      let n := sd * (vdc + 2 * s.1)
      let d := sd * 2 * vdc
      let n' := clampInt 0 d n
      (ratioOut n' d i.e, s.2, n' != n))
    { words := r.map (·.1), wrap := vb.2 || vc.2 || v0.2 || r.any (·.2.1), lim := beyond || r.any (·.2.2) }

/-! ### Current control and observers (R377 to R382) -/

/-- DBEAT (R378). -/
def execDBEAT (i : BIn) : BRes :=
  let id := i.x 0
  let iq := i.x 1
  let w := i.x 4
  let c2 := coef i.p2
  let c1 := coef i.p1
  let vd := dyOut (dySum [dyCoef i.p0 id, dyCoef i.p1 (i.x 2 - id), (-(w * c2.1 * iq), c2.2 + i.e)])
  let vq := dyOut (dySum [dyCoef i.p0 iq, dyCoef i.p2 (i.x 3 - iq), (w * c1.1 * id, c1.2 + i.e), (w * i.x 5, i.e)])
  { words := [vd.1, vq.1], wrap := vd.2 || vq.2 }

/-- The number of ones of a three-bit number. -/
def popcount3 (n : Nat) : Nat := n % 2 + n / 2 % 2 + n / 4 % 2

/-- FCS (R379). -/
def execFCS (i : BIn) : BRes :=
  let prev := (unsigned 48 (i.old 3)) % 8
  let vdc := i.x 4
  let ea := if i.conn 5 then i.x 5 else 0
  let eb := if i.conn 5 then i.y 5 else 0
  let lam := coefSignal i.p2 i.e
  let costs := (List.range 8).map (fun s =>
    let h0 : Int := ((s % 2 : Nat) : Int)
    let h1 : Int := ((s / 2 % 2 : Nat) : Int)
    let h2 : Int := ((s / 4 : Nat) : Int)
    let va := dyOut (vdc * (2 * h0 - h1 - h2) * third46, -46)
    let vb := dyOut (vdc * (h1 - h2) * invSqrt3, -46)
    let da := to48 (va.1 - ea)
    let db := to48 (vb.1 - eb)
    let pa := dyOut (dyAdd (dyCoef i.p1 (i.x 0)) (dyCoef i.p0 da.1))
    let pb := dyOut (dyAdd (dyCoef i.p1 (i.x 1)) (dyCoef i.p0 db.1))
    let ga := to48 (i.x 2 - pa.1)
    let gb := to48 (i.x 3 - pb.1)
    let j := dyOut (dyAdd (ga.1 * ga.1 + gb.1 * gb.1, i.e) (lam * popcount3 (s ^^^ prev), 0))
    (j.1, popcount3 (s ^^^ prev), s, va.2 || vb.2 || da.2 || db.2 || pa.2 || pb.2 || ga.2 || gb.2 || j.2))
  let better (a b : Int × Nat × Nat × Bool) : Bool := decide (b.1 < a.1) || (b.1 == a.1 && decide (b.2.1 < a.2.1))
  let best := costs.foldl (fun a b => if better a b then b else a) (costs.getD 0 (0, 0, 0, false))
  let s := best.2.2.1
  let one := ratioOut 1 1 i.e
  let d (k : Nat) : Int := if Nat.bitAt s k then one else 0
  { words := [d 0, d 1, d 2, (s : Int)], wrap := costs.any (·.2.2.2) }

/-- FLUXOBS (R380): lane words angle, magnitude, ψα, ψβ. -/
def execFLUXOBS (i : BIn) : BRes :=
  let n := i.opt % 16
  let flux (v cur psi : Int) : Int × Bool :=
    let r := mulCoef cur (coef i.p1)
    let d := to48 (v - r.1)
    let m := mulCoef d.1 (coef i.p0)
    let a := to48 (psi + m.1)
    let o := if n = 15 then (a.1, false) else to48 (a.1 - rshift psi (n + 8))
    (o.1, r.2 || d.2 || m.2 || a.2 || o.2)
  let pa := flux (i.x 0) (i.x 2) (i.old 2)
  let pb := flux (i.x 1) (i.x 3) (i.old 3)
  let la := mulCoef (i.x 2) (coef i.p2)
  let lb := mulCoef (i.x 3) (coef i.p2)
  let ra := to48 (pa.1 - la.1)
  let rb := to48 (pb.1 - lb.1)
  let none0 := ra.1 == 0 && rb.1 == 0
  let th := if none0 then i.old 0 else (atan2Of rb.1 ra.1).toInt
  let mag := to48 ((sqrtNear (ra.1 * ra.1 + rb.1 * rb.1).natAbs : Nat) : Int)
  { words := [th, mag.1, pa.1, pb.1], inv := none0, wrap := pa.2 || pb.2 || la.2 || lb.2 || ra.2 || rb.2 }

/-- GRIDPD (R381). -/
def execGRIDPD (i : BIn) : BRes :=
  let sc := sinCos (BitVec.ofInt 48 (i.x 2) + i.p1) i.e
  let r := rotate (i.x 0) (i.x 1) sc.1 sc.2 i.e
  let vd := (r.getD 0 (0, false)).1
  let vq := (r.getD 1 (0, false)).1
  let mag := to48 ((sqrtNear (i.x 0 * i.x 0 + i.x 1 * i.x 1).natAbs : Nat) : Int)
  let low := decide (mag.1 < coefSignal i.p0 i.e)
  { words := [if low then 0 else (atan2Of vq vd).toInt, mag.1], inv := low, wrap := mag.2 }

/-- HFSQ (R382): lane words v, e, the current of the previous execution. -/
def execHFSQ (i : BIn) : BRes :=
  let s : Int := if 0 ≤ i.old 0 then 1 else -1
  let d := to48 (i.x 0 - i.old 2)
  let e := to48 (s * d.1)
  { words := [(to48 (-s * coefSignal i.p0 i.e)).1, e.1, i.x 0], wrap := d.2 || e.2 }

/-- The number of lane words of each type (R355, R360 to R377). -/
def laneWordCount (type : Nat) : Nat :=
  match type with
  | 0x01 => 5 | 0x02 => 2 | 0x10 => 1 | 0x11 => 3 | 0x12 => 3 | 0x13 => 1 | 0x14 => 1 | 0x15 => 3 | 0x16 => 1 | 0x17 => 1
  | 0x20 => 1 | 0x21 => 1 | 0x22 => 2 | 0x23 => 3 | 0x24 => 5 | 0x25 => 1 | 0x30 => 3 | 0x31 => 2 | 0x32 => 2 | 0x33 => 2 | 0x34 => 3
  | 0x40 => 2 | 0x41 => 4 | 0x42 => 4 | 0x43 => 2 | 0x44 => 3 | _ => 0

/-- The number of outputs of each type: the lane words that a write traces (R683). -/
def outputCount (type : Nat) : Nat :=
  match type with
  | 0x22 => 2 | 0x24 => 1 | 0x42 => 2 | 0x44 => 2 | t => laneWordCount t

/-- The number of lane words that count as signals and stage state: BIQ's denominator coefficients do not (R355). -/
def signalCount (type : Nat) : Nat := if type = 0x24 then 3 else laneWordCount type

/-- The computing types (R348): what one execution leaves. Types that write targets or compute nothing leave nothing here. -/
def computeBlock (type : Nat) (i : BIn) : BRes :=
  match type with
  | 0x01 => execADCIN i | 0x02 => execFBSP i | 0x10 => execSUM i | 0x11 => execGAIN i | 0x12 => execMUL i | 0x13 => execDIV i
  | 0x14 => execLIMIT i | 0x15 => execVLIM i | 0x16 => execCMP i | 0x17 => execSEL i | 0x20 => execINT i | 0x21 => execANGINT i
  | 0x22 => execPI i | 0x23 => execLP1 i | 0x24 => execBIQ i | 0x25 => execRAMP i | 0x30 => execCLARKE i | 0x31 => execPARK i
  | 0x32 => execIPARK i | 0x33 => execSINCOS i | 0x34 => execSVM i | 0x40 => execDBEAT i | 0x41 => execFCS i | 0x42 => execFLUXOBS i
  | 0x43 => execGRIDPD i | 0x44 => execHFSQ i | _ => {}

end Sys2Proof.Machine
end

