-- ==== Sys2Proof/Machine/State.lean ====
section
/-! DEFINITION. The state of the DLT9648: everything the spec gives the block, as plain data. The parameter words stand in
one sparse memory (`Chip.regs`), each under its address; what the spec gives the device beside its words (timers that run, queues,
staged and pending sets, latches, run states) stands in a structure per chapter. -/

namespace Sys2Proof.Machine

/-- A memory of 48-bit words: address and word, addresses strictly rising, no entry equal to what an unlisted address reads as. -/
abbrev Mem := List (Nat × Word)

/-! ### Modes and the machine's own bookkeeping -/

/-- The operating modes of R21. -/
inductive Mode
  | reset | boot | config | selftest | standby | precharge | identify | drive | charge | safestop | discharge | latched
deriving DecidableEq, Repr, Inhabited

/-- The causes of R23, in the order of their values. -/
inductive Cause
  | powerOn | host | complete | safety | protect | watchdog | thermal | clock | resetOther | internal
deriving DecidableEq, Repr, Inhabited

/-- The substates of R25, in the order of their values. -/
inductive Sub
  | off | catch | align | run | stopping
deriving DecidableEq, Repr, Inhabited

/-- The stop kinds of SAFESTOP: SS1 and STO (R26), and the protective stop (R477). -/
inductive StopKind
  | ss1 | protective | sto
deriving DecidableEq, Repr, Inhabited

/-- One cached reply (R68): opcode, tag bits [6:0], retry CRC, reply payload. -/
structure CacheEntry where
  op : Nat
  tag : Nat
  retryCrc : BitVec 32
  hdr : Nat
  payload : List Word
deriving DecidableEq, Repr, Inhabited

/-- The Tenon receiver and transmitter (R46, R55, R58, R68). `skipping` holds from a CRC error until two IDLE words; `held` are the requests that have
arrived for Cellar and wait for their reply, in the order in which they came: opcode and request (R56, R58). -/
structure Link where
  skipping : Bool := false
  cache : List CacheEntry := []
  /-- Reply packets put on HDOP, newest first: header, payload, CRC word. -/
  sent : List (List Word) := []
  /-- R15: the rests of two-word quantities latched by READs of their first words: the other word's address, and the value. -/
  latch : List (Nat × Word) := []
  held : List (Nat × Req) := []
  /-- R66: an accepted RESET waits for the end of its reply. -/
  resetArmed : Bool := false
deriving DecidableEq, Repr, Inhabited

/-- The request answered with ACCEPTED_PENDING that a controlled stop completes (R27, R98): opcode and tag. -/
structure PendReq where
  op : Nat
  tag : Nat
deriving DecidableEq, Repr, Inhabited

/-- The running SAFESTOP (R36, R477): its kind, whether DISCHARGE follows at HOLD (R32), and the running host watchdog
(R75); the mode SELFTEST came from (R31); the latch cause held in Rind is in `Rind`. -/
structure ModeState where
  stop : StopKind := .sto
  dischargeAfter : Bool := false
  pend : Option PendReq := none
  /-- A controlled stop of CHARGE started by the device itself, with the cause it records (R450). -/
  pendCause : Cause := .host
  /-- The cause that DISCHARGE records when it follows this SAFESTOP (R32). -/
  afterCause : Cause := .protect
  hwdRunning : Bool := false
  /-- DEV.PDONE holds an outcome that has not been read (R98). -/
  pdoneUnread : Bool := false
  cameFrom : Mode := .standby
  /-- The requesting tag of a CFGCHK run is not needed; a check started by RUN is running (R107). -/
  checkRunning : Bool := false
  naddr : Nat := 0
deriving DecidableEq, Repr, Inhabited

/-! ### Clocks, reset and power (04_clocks_and_reset, 22_pins_and_electrical) -/

/-- The eight reset sources of R126, in priority order: bit 0 power-on … bit 7 RESET opcode. -/
structure Clk where
  roscRunning : Bool := false
  /-- HCLK frequency taken under R112, in kHz; 0: none taken. -/
  hkhzTaken : Nat := 0
  /-- A switch of REFCLK in progress: the source it goes to (true: HCLK), and whether it is forced. -/
  switchTo : Option Bool := none
  switchForced : Bool := false
  /-- REFCLK has a source (a reference has qualified since the last reset). -/
  refFed : Bool := false
  gated : Bool := false
  /-- Groups whose outputs a forced switch holds off until their first ZERO after both PLLs have locked (R120). -/
  gateHeld : List Bool := List.replicate 7 false
  hold : Bool := false
  holdCause : Nat := 0
  trimGood : Nat := 0
  /-- The measured HCLK frequency in kHz; 0: none yet (R112). -/
  hMeas : Nat := 0
  /-- The instant of the last valid SYNC and FOLLOW pair of each controller (R114), in PCLK cycles since power-on. -/
  pairAt : List (Option Nat) := [none, none]
  soscStopped : Bool := false
  /-- Sources active now, sources active at any time since the reset began (R128), bit p the source of priority p + 1. -/
  active : BitVec 8 := 0
  logged : BitVec 8 := 1
  /-- Rind's logic is held in reset (scope FULL or MAIN+RIND of R126). -/
  rindReset : Bool := false
  vioBelow : Bool := false
  vcoreLow : Bool := false
  vsafeLow : Bool := false
deriving DecidableEq, Repr, Inhabited

/-- What fuses and masks fix in one part (R1, R87, R88, R133, R525, R640). -/
structure Fuses where
  variant : Nat := 2
  romver : Nat := 3
  serial0 : Word := 0
  serial1 : Word := 0
  trimCode : Nat := 0x7A3
  rver : Nat := 1
  pub : List Word := List.replicate 11 0
  patchKey : List Word := []
  /-- The device key passes its integrity check (R625). -/
  keyOk : Bool := true
  /-- The authority key set at final test (R634). -/
  auth : List Word := List.replicate 11 0
deriving DecidableEq, Repr, Inhabited

/-! ### Network time (05_network_time) -/

/-- NWT and FWT, each with its 24-bit fraction (R137, R147), the servo's integrator and counts (R143), a running SLEW (R150),
and the driven levels of the compare units (R154). -/
structure Time where
  nwt : BitVec 72 := 0
  fwt : BitVec 72 := 0
  integ : Int := 0
  good : Nat := 0
  slew : Int := 0
  /-- Bit n: NCn was armed with its target already reached (R152). -/
  lateArm : BitVec 16 := 0
  /-- Bit n: a step went forward over the target of NCn (R153). -/
  stepped : BitVec 16 := 0
  /-- The levels that the compare units drive on TIO0 to TIO3 (bits 0 to 3) and SYNCO (bit 4). -/
  tio : BitVec 5 := 0
  /-- The pins whose level is a running pulse (R154). -/
  pulsing : BitVec 5 := 0
  /-- The actions that compare units have done in the PCLK cycle `actedUp` (R155): action and object. -/
  actedUp : Nat := 0
  acted : List (Nat × Nat) := []
deriving DecidableEq, Repr, Inhabited

/-! ### Angle trackers and Kerf tables (06_angle_scheduling) -/

/-- What one tracker keeps beside its words: the remainder of the pending correction and the cycles left of its 64 (R169),
the quadrature count (R166), whether the first index edge has come, whether the primary and the alternative source delivered a
measurement within TMO (R171), and whether the hold runs. -/
structure Tracker where
  corr : Int := 0
  corrLeft : Nat := 0
  cnt : Nat := 0
  indexed : Bool := false
  primFresh : Bool := false
  altFresh : Bool := false
  holding : Bool := false
  /-- The angle held at the sampling instant of the resolver's set, to which its measurement refers (R165). -/
  held : Word := 0
  /-- The angle at the start of the last PCLK cycle, and the increment of that cycle (R161, R162). -/
  th : Word := 0
  inc : Int := 0
deriving DecidableEq, Repr, Inhabited

/-- The set a Kerf commit made pending (R184): origin, pattern, engagement. -/
structure KerfSet where
  norg : Word
  pat : Nat
  eng : Bool
deriving DecidableEq, Repr, Inhabited

/-- One Kerf table. `pos` is the lead angle relative to ORG, counted on through whole turns, `prev` what it was at the start of the present PCLK cycle
(after a jump: behind it), `lam` the lead angle it was last formed from, `rev` the direction of its last increment (R161 to R163). The cursor and the next
boundary above it count entries and boundaries through whole turns likewise (R180, R185). `execUp` is the cycle in which an entry last executed
(at most one per cycle), `bndUp` the cycle in which the next boundary was found crossed, `commitUp` the cycle of the last commit (R184). -/
structure Kerf where
  cursor : Int := 0
  bnd : Int := 0
  pos : Int := 0
  prev : Int := 0
  lam : Word := 0
  rev : Bool := false
  execUp : Option Nat := none
  bndUp : Option Nat := none
  commitUp : Nat := 0
  pending : Option KerfSet := none
deriving DecidableEq, Repr, Inhabited

/-! ### Analog acquisition (07_analog_acquisition) -/

/-- A run of a sample set (R200, R205): the words in force at its take, whether its converters are reserved, the cycles
it has waited, the ranks still to run with the present rank first, whether the present rank has been sampled and with the
reference settled, whether a trigger was dropped, and the results written so far (slot, word). -/
structure SetRun where
  cfg : Word
  slots : List Word
  reserved : Bool := false
  ranks : List Nat := []
  sampled : Bool := false
  refns : Bool := false
  ovr : Bool := false
  results : List (Nat × Word) := []
  /-- The converters whose role the bank's spare held when the run reserved (R220), bit c. -/
  bySpare : BitVec 16 := 0
  /-- The ACLK edge, counted since power-on, at which the trigger was taken (R204). -/
  takeAt : Nat := 0
  /-- The early start of this run has been issued (R322). -/
  early : Bool := false
deriving DecidableEq, Repr, Inhabited

/-- One bank's background cycle (R216 to R220): consecutive misses, compares made in the phase, a failure that waits for a gap,
an abandoned cycle whose converter waits for a gap to take its role back. -/
structure Bank where
  miss : Nat := 0
  compares : Nat := 0
  failing : Bool := false
  /-- The converter last treated (R216). -/
  last : Option Nat := none
  abandoned : Bool := false
  /-- The coefficients (GAIN, OFFS) that the converter had before CONVCAL replaced them (R216). -/
  prev : Option (Int × Int) := none
deriving DecidableEq, Repr, Inhabited

/-- Analog acquisition beside its words: the runs, the banks, the slices with a reference calibration running (0 to 15 the
converters, 16 and 17 the spares), the comparators' above-HI and below-LO conditions, whether their settling has ended. -/
structure Adc where
  runs : List (Option SetRun) := List.replicate 16 none
  banks : List Bank := List.replicate 2 {}
  calRunning : BitVec 18 := 0
  above : BitVec 24 := 0
  below : BitVec 24 := 0
  compSettled : Bool := false
  /-- The voltages at AIN0 to AIN23 as the comparators last saw them, in µV (R227); the model starts them at 0 (log entry 74). -/
  levels : List Nat := List.replicate 24 0
  /-- The thresholds that move (R229): the comparator, its former THR word, and the PCLK cycle of the write. -/
  moves : List (Nat × Word × Nat) := []
  /-- The PCLK cycle in which each comparator's condition last became true, while it is true (R231). -/
  condUp : List (Option Nat) := List.replicate 24 none
deriving DecidableEq, Repr, Inhabited

/-! ### PWM generator (08_pwm_generator) -/

/-- A group's pending set (R244): the words captured by commits not yet taken. -/
structure PwmSet where
  per : Option Nat := none
  xc : List (Option Word) := List.replicate 4 none
  duty : List (Option Word) := List.replicate 3 none
  shift : List (Option Nat) := List.replicate 3 none
deriving DecidableEq, Repr, Inhabited

/-- The staged marks of a group's staging words (R243). -/
structure PwmMarks where
  per : Bool := false
  xc : List Bool := List.replicate 4 false
  duty : List Bool := List.replicate 3 false
  shift : List Bool := List.replicate 3 false
deriving DecidableEq, Repr, Inhabited

/-- One timebase: whether it runs, the FWT instant of the boundary that opened the running period (R237), whether the position is at or beyond MID,
the CMODE, UPD and MINP in effect (R239), the pending set and the PCLK cycle in which its last commit completed (R245), the staged marks, the live
extra compares and whether each has been issued, or is past, in this period (R252), whether the outputs follow their commands since OUTEN rose
(R256), whether the delay line has been valid since the end of RESET and its run of invalid measurements (R261). -/
structure PwmGroup where
  running : Bool := false
  b : BitVec 72 := 0
  half : Bool := false
  cmode : Nat := 0
  upd : Nat := 1
  minp : Nat := 0
  pend : Option PwmSet := none
  commitUp : Nat := 0
  marks : PwmMarks := {}
  xc : List Word := List.replicate 4 0
  xcDone : List Bool := List.replicate 4 false
  follow : Bool := false
  dlEver : Bool := false
  dlBad : Nat := 0
deriving DecidableEq, Repr, Inhabited

/-- One leg: its on-window, the commands at stage 1, the Kerf leg state (R179) and whether it follows (R256), the cut latch, a refresh
being inserted and one that is due, with the PCLK cycles in which the low command last went on, the monitor restarted and the refresh began
(R260), the commands behind stage 2 as the delays have seen them and the edges in the two delay lines, oldest first, each with its instant in fine
steps of PCLK since power-on (R254), the delayed signals at stage 4 and the FWT instant at which the interlock began to hold the leg (R255), the
delays in effect (rise and fall of the high and the low output, R254). -/
structure PwmLeg where
  on : Nat := 0
  off : Nat := 0
  cmdH : Bool := false
  cmdL : Bool := false
  kerf : Nat := 0
  kfollow : Bool := false
  cut : Bool := false
  refresh : Bool := false
  refreshDue : Bool := false
  lowUp : Nat := 0
  monUp : Nat := 0
  refUp : Nat := 0
  seenH : Bool := false
  seenL : Bool := false
  lineH : List (Nat × Bool) := []
  lineL : List (Nat × Bool) := []
  ilk : Option (BitVec 72) := none
  outH : Bool := false
  outL : Bool := false
  riseH : Nat := 0
  fallH : Nat := 0
  riseL : Nat := 0
  fallL : Nat := 0
deriving DecidableEq, Repr, Inhabited

/-! ### Gate-drive supervision (09_gate_drive) -/

/-- A strength frame (R274): switch index, edge (true: turn-on), code, sequence number. -/
structure Frame where
  sw : Nat
  on : Bool
  code : Nat
  seq : Nat
deriving DecidableEq, Repr, Inhabited

/-- One group's strength line and fault state: the driver-enable level and a running clear pulse (R272, R297), the waiting
frames in the order first queued (R276), the frame on the line and whether its duplicate is due, the frame whose code takes
effect next (R277), the sequence counter, the refresh position, the initial load in progress (R273), causes of a fault state that waits for
a soft force-off, the instants of its fault-state entries (R297), learning counts. -/
structure GdsGroup where
  drven : Bool := false
  clearPulse : Bool := false
  queue : List (Nat × Bool) := []
  cur : Option Frame := none
  dupDue : Bool := false
  latching : List Frame := []
  seq : Nat := 0
  refresh : Nat := 0
  loading : Bool := false
  /-- The frames of the initial load whose codes have not taken effect yet (R273). -/
  toLoad : List (Nat × Bool) := []
  /-- The PCLK cycle of the last entry into the fault state (R298). -/
  faultUp : Nat := 0
  entering : Bool := false
  entries : List Word := []
  learning : Bool := false
deriving DecidableEq, Repr, Inhabited

/-- One switch: whether it was on at stage 6 when last seen, and the PCLK cycle of its last turn-on launch (R280, R288), the force-off requests of its fault
latch (R291) and of the group (R294, R295), the PCLK cycle in which the latch was set and whether a command edge has followed (R292), a soft force-off that
waits, blanking running and an early assertion in it, the instants of its last 15 faults (R293). -/
structure GdsSwitch where
  on : Bool := false
  onUp : Nat := 0
  forced : Bool := false
  grp : Bool := false
  latUp : Nat := 0
  edge : Bool := false
  softWait : Bool := false
  blanking : Bool := false
  early : Bool := false
  faults : List Word := []
deriving DecidableEq, Repr, Inhabited

/-- One event kind of a leg (R280 to R286): its accumulator, the code in force at its last launch, whether a launch has come and a
switch fault since, learning's run of admitted measurements inside the band and at the limit, and whether it has ended. -/
structure GdsKind where
  acc : Int := 0
  launched : Bool := false
  codeAt : Nat := 0
  faultSince : Bool := false
  stable : Nat := 0
  atLimit : Nat := 0
  ended : Bool := true
deriving DecidableEq, Repr, Inhabited

/-- A pulse on EDGn that has begun, attributed to a launch (R280 to R282): the kind, the delay from the launch and the code in force at it, and whether no
further launch of the leg has come since. -/
structure GdsPulse where
  kind : Nat
  dly : Nat
  code : Nat
  clean : Bool := true
deriving DecidableEq, Repr, Inhabited

/-- One leg of gate-drive supervision: its two switches, its four kinds, the FWT instant of its last switch fault (R294), its latest launch (kind and
instant, in fine steps of PCLK since power-on), the instant at which EDGn last rose while DRVEN was high, and the attributed pulse (R280). -/
structure GdsLeg where
  lastLaunch : Option (Nat × Nat) := none
  edgAt : Option Nat := none
  pulse : Option GdsPulse := none
  hi : GdsSwitch := {}
  lo : GdsSwitch := {}
  kinds : List GdsKind := List.replicate 4 {}
  lastFault : Option Word := none
deriving DecidableEq, Repr, Inhabited

/-! ### Observation (21_observation) -/

/-- A Whey packet (R679, R680): its KIND, CODE, ARG, EXP and TS, and word B. -/
structure Packet where
  kind : Nat
  code : Nat
  arg : Nat
  exp : Nat
  ts : Nat
  b : Word
deriving DecidableEq, Repr, Inhabited

/-- The Whey port and the counters: the FIFO of R682 (oldest first), the packets dropped since the last OVERFLOW packet, the NWT of the
last SYNC, the captures skipped by each probe (R683), the 64 counts, their snapshots and WRAPPED bits (R686, R687), DROPS. -/
structure Obs where
  fifo : List Packet := []
  lost : Nat := 0
  lastSync : Word := 0
  skipped : List Nat := List.replicate 16 0
  cnt : List Word := List.replicate 64 0
  snp : List Word := List.replicate 64 0
  wrapped : BitVec 64 := 0
  drops : Nat := 0
deriving DecidableEq, Repr, Inhabited

/-! ### Triggers of mode changes that arise inside a step (R30) -/

/-- The fault causes of R480, in the order of its table. -/
inductive FaultCause
  | ov3 | ov2NoChop | chopperStuck | uv2 | prech | dischTmo | vlost | refflt | convDead | dlfail | degraded | wrapDev | budflt
  | group | tracker | wrap | kemf | polarity | catch | align | gridsync | armto
deriving DecidableEq, Repr, Inhabited

/-- A trigger that a unit raises and the device takes at the end of the step, in the order of R30. -/
inductive Notice
  /-- A trigger for LATCHED, with the cause it records. -/
  | latch (cause : Cause)
  /-- Entry into clock hold with the cause of R135. -/
  | clockHold (cause : Nat)
  /-- A safety demand with its stop kind (R507). -/
  | safety (kind : StopKind)
  /-- A device cause of R480 has become active. -/
  | device (k : FaultCause)
  /-- A cause of axis n has become active (R480). -/
  | axis (n : Nat) (k : FaultCause)
  /-- The host-watchdog fall-back (R76). -/
  | watchdog
  /-- The present mode has finished its work, and another follows (R23, R31). -/
  | complete (m : Mode) (cause : Cause)
deriving DecidableEq, Repr

/-- A soft-repair record that waits to be written (R671): its KIND, INST, ADDR and SPARE. -/
structure RepairRec where
  kind : Nat
  inst : Nat
  addr : Nat := 0
  spare : Nat := 0
deriving DecidableEq, Repr, Inhabited

/-! ### Rind (15_rind_safety_island) and the safety inputs (16_safety_inputs) -/

/-- Rind's STO outputs: the request as it stands in the main domain (SAF.STAT[STOREQ], R37), and the levels of the balls (true: released). -/
structure Sto where
  request : Bool := true
  stoa : Bool := false
  stob : Bool := false
  ssoa : Bool := false
  ssob : Bool := false
deriving DecidableEq, Repr, Inhabited

/-- One torque monitor (R502 to R510): the angles of its last evaluations, newest first, and the speed in r/min; the resolver's last
angle with its instant and its speed in 2^-48 turn per cycle; the last Hall sector with its direction; runs of sum, angle, ASC-current and
envelope deviations; the speed at the start of an SS1 stop; the program's SEQ as last seen. -/
structure RindMon where
  hist : List Word := []
  speed : Rat := 0
  resTh : Word := 0
  resAt : Nat := 0
  resSpd : Rat := 0
  resOk : Bool := false
  sector : Option Nat := none
  backwards : Bool := false
  sumRun : Nat := 0
  angRun : Nat := 0
  ascRun : Nat := 0
  rampRun : Nat := 0
  v0 : Rat := 0
  seq : Nat := 0
  /-- Evaluations in a switching state since the program's SEQ last changed (R505). -/
  seqRun : Nat := 0
deriving DecidableEq, Repr, Inhabited

/-- One slot's cross-comparison window (R501): sum and count of its own values and of the main codes, and the run of misses. -/
structure RindCmp where
  sumR : Rat := 0
  nR : Nat := 0
  sumM : Int := 0
  nM : Nat := 0
  run : Nat := 0
deriving DecidableEq, Repr, Inhabited

/-- One channel of a safety function (R529, R534): its processed level, whether it stood high when the pulse window opened, the run of
consecutive test pulses that it followed since FCLR. -/
structure SinChan where
  lvl : Option Bool := none
  stoodHigh : Bool := false
  followed : Nat := 0
deriving DecidableEq, Repr, Inhabited

/-- One safety function beside its words (R531 to R541): its channels, the start of a discrepancy, the starts of each hand's being in neither
state, the instants at which each hand became actuated, whether the second came in time, whether both have been released since PERMIT was last 1, a reset event not yet
consumed, and the rise of a reset input. Instants count PCLK cycles since power-on. -/
structure SinFn where
  ch : List SinChan := List.replicate 4 {}
  discAt : Option Nat := none
  neither : List (Option Nat) := [none, none]
  handAt : List (Option Nat) := [none, none]
  inTime : Bool := false
  released : Bool := false
  resetDue : Bool := false
  riseAt : Option Nat := none
  /-- A discrepancy had lasted DISC at the last evaluation (R93). -/
  disc : Bool := false
deriving DecidableEq, Repr, Inhabited

/-- Rind beside its words: the parameter set in force (R491), the latch with its cause (R43), conversions seen, runs of REFP and of self-test
values out of range (R498, R499), monitors and comparisons, per demand bit whether its condition is present and since when it is absent (R511), an
ended deferral (R509), evaluations and standstill evaluations of an SS1 stop (R508), SCLK windows out of range (R514), safety functions. -/
structure Rind where
  inForce : List (Nat × Word) := []
  latch : Bool := false
  latchCause : Cause := .powerOn
  seen : BitVec 8 := 0
  refRun : Nat := 0
  scanBad : List Bool := [false, false]
  lastBad : List Bool := [false, false]
  mon : List RindMon := List.replicate 2 {}
  cmp : List RindCmp := List.replicate 8 {}
  cond : BitVec 13 := 0
  absentAt : List Nat := List.replicate 13 0
  deferOver : Bool := false
  ss1Ticks : Nat := 0
  stillTicks : Nat := 0
  sclkRun : Nat := 0
  fns : List SinFn := List.replicate 8 {}
  /-- The voltage at the input of each comparator in µV, once it has been seen (R500). -/
  rcmpUv : List (Option Nat) := List.replicate 4 none
deriving DecidableEq, Repr, Inhabited


/-! ### Zaensan engine (10_zaensan_engine, 11_engine_blocks) -/

/-- A run in progress on a logical lane: its program and the configuration word in force for it (R342). -/
structure ZRun where
  prog : Nat
  cfg : Word
  /-- How many of the run's stage starts and blocks have been carried out. -/
  pos : Nat := 0
  /-- Half lane cycles since the last of them ended. -/
  half : Nat := 0
  /-- The periods that TBW blocks of the run have written (R384). -/
  tbw : List (Nat × Nat) := []
  /-- Lane cycles of what has been carried out, without waits, and the accesses to ZMEM in it (R308, R343). -/
  cyc : Nat := 0
  acc : Nat := 0
  /-- The set and the SEQ of the early start whose slots the run still waits on (R328), and the half lane cycles it has waited. -/
  wait : Option (Nat × Nat) := none
  spent : Nat := 0
deriving DecidableEq, Repr, Inhabited

/-- A pulse meter (R372): rising edges seen (up to two), high time and period of the last period in ns, instant of the last edge. -/
structure PulseMeter where
  edges : Nat := 0
  high : Nat := 0
  period : Nat := 0
  edgeAt : Word := 0
deriving DecidableEq, Repr, Inhabited

/-- The engine beside its words: the run on each logical lane, program resets that wait (R325), blocks executed since their program's
reset (LP1, R366), restarts that wait (RAMP, R368), axes with the fall-back in force (R367), the pulse meters, who asked for
the migration in progress (R333). -/
structure Zen where
  running : List (Option ZRun) := List.replicate 8 none
  /-- The programs queued by an early start, with the set and the SEQ of its run (R328). -/
  early : List (Nat × Nat × Nat) := []
  /-- The ZCLK cycle of the last start that reached each program and of which its run has not begun (R322). -/
  startAt : List (Option Nat) := List.replicate 64 none
  pgrst : BitVec 64 := 0
  executed : BitVec 1024 := 0
  rampPend : BitVec 1024 := 0
  fallback : BitVec 4 := 0
  meters : List PulseMeter := List.replicate 2 {}
  migBist : Bool := false
deriving DecidableEq, Repr, Inhabited


/-! ### Axis sequencers (12_motor_control, 13_charge_and_power_budget) -/

/-- A preset of an ANGINT state that waits for a free lane cycle (R416): to a value, or to the FLUXOBS angle. -/
inductive AngPreset
  | value (w : Word)
  | fromFlux
deriving DecidableEq, Repr, Inhabited

/-- One motor axis's sequencer beside its words: the monitor words of the last run (R406, R434); an entry into RUN that waits for the
program reset (R389); the catch (R405): completions, those below ENOISE, the travel of th_e in the fine steps it took, the last th_e and the
amplitude (2^-16 code), the run of lock errors inside the limit (R407); whether the rotation found was negative (R417); polarity pulses (R413):
periods since the pair began, pairs made, i+ and i-; a flip, and presets, that wait (R414, R416), the caught flux in 2^-40 Vs with its
angle; periods left of the rest after DC alignment (R411); IDENTIFY (R423): tasks left (bit k: task of R26 bit 10 + k), the one that runs, its
phase and the monitor words sampled in it with the PCLK cycle of each run, the means of the first resistance level, learning ticks; RATIO counts of R422. -/
structure AxisSeq where
  mon : List Word := List.replicate 6 0
  runDue : Bool := false
  catchN : Nat := 0
  catchLow : Nat := 0
  travel : Int := 0
  steps : Nat := 0
  lastTh : Option Word := none
  amp : Nat := 0
  /-- The caught flux in 2^-40 Vs (R405). -/
  psic : Int := 0
  lockRun : Nat := 0
  negative : Bool := false
  polCount : Nat := 0
  polPairs : Nat := 0
  /-- The angle of the pair's first pulse (R413). -/
  polPhi : Word := 0
  iPlus : Option Int := none
  iMinus : Option Int := none
  flipDue : Bool := false
  angDue : Option AngPreset := none
  fluxDue : Option (Int × Word) := none
  dcRest : Nat := 0
  /-- The sector that a BLOCK120 axis is commutated for (R404). -/
  sector : Option Nat := none
  tasks : BitVec 4 := 0
  task : Option (Fin 4) := none
  phase : Nat := 0
  samples : List (List Word) := []
  level1 : Int × Int × Nat := (0, 0, 0)
  failed : Bool := false
  ticks : Nat := 0
  keWarn : Nat := 0
  keFault : Nat := 0
deriving DecidableEq, Repr, Inhabited


/-- The budget before a grant change: the PCLK cycle of the change and whether a grant frame made it, GRANT, BL in 2^-16 W and the deadline, RAMP, BUDGET_OVER,
BOVL, CUTCNT and DEV.EVT3[BUDGET] (R445, R453). -/
structure BudgetMark where
  up : Nat
  frame : Bool
  grant : Nat
  bl : Nat
  deadline : Option Word
  ramp : Bool
  exceeded : Bool
  bovl : Bool
  cuts : Nat
  event : Bool
deriving DecidableEq, Repr, Inhabited

/-- The converter functions beside their words: the bus grant last received (R444); BL in 2^-16 W and the deadline of a cut (R445); per axis an
AFE's STOP that waits for the DABs (R449), PLIM of RAMPDN in W (R447) and whether it has switched since its START; the PCLK cycle of the last grant
frame, and what the budget was before the last grant change of a cycle (R453). -/
structure Conv where
  busGrant : Nat := 0xFFFF
  bl : Nat := 429490176000
  deadline : Option Word := none
  stopDue : BitVec 4 := 0
  ramp : List Int := List.replicate 4 0
  /-- The axis has passed to ACTIVE since its START (R439). -/
  bridging : BitVec 4 := 0
  frameUp : Option Nat := none
  before : Option BudgetMark := none
deriving DecidableEq, Repr, Inhabited


/-! ### Power-stage protection (14_power_stage_protection) -/

/-- Protection beside its words: the last V taken, the levels held (R461), the step of RLIM (R462), whether OV2 is held with no working chopper
(R468); the precharge output, its entry instant and the start of the present run of samples at or above PCEND (R463, R464); a CHNOI
check that is due and whether current has been seen since the launch (R466), the instant of the last turn-off launch (R467); a wrap of a program
without an axis (R480), a winding path given up (R475). Instants count PCLK cycles since power-on. -/
structure Prot where
  v : Rat := 0
  uv2 : Bool := false
  uv1 : Bool := false
  ov1 : Bool := false
  ov2 : Bool := false
  ov3 : Bool := false
  quarter : Nat := 0
  nochop : Bool := false
  pchOut : Bool := false
  pchAt : Nat := 0
  pchRun : Option Nat := none
  chopDue : Bool := false
  chopSeen : Bool := false
  chopOffAt : Option Nat := none
  wrapDev : Bool := false
  pathLost : Bool := false
  /-- DISCHARGE has ended in the present step, at whose end STO is asserted (R36, log entry 68). -/
  dischargeEnd : Bool := false
deriving DecidableEq, Repr, Inhabited


/-! ### Thermal management (17_thermal_management) -/

/-- The thermal unit beside its words: sensors converted since the start of BOOT, whether the first evaluation since then has been made (R718),
consecutive disagreements of TD0 to TD11 and TE0 to TE11 (R562, R563), sensors that a host re-included and that wait for the next check (R564). -/
structure Therm where
  converted : BitVec 12 := 0
  evaluated : Bool := false
  miss : List Nat := List.replicate 24 0
  returning : BitVec 24 := 0
deriving DecidableEq, Repr, Inhabited

/-! ### Purlin (18_purlin_bus) -/

/-- A frame in host words (R591): the control word with ENTRY zero, and the data words. -/
structure BusFrame where
  cw : Word := 0
  data : List Word := []
deriving DecidableEq, Repr, Inhabited

/-- What stands in a transmit buffer beside its state and its attempt count: the frame, its place in the order of becoming pending, an abort
that waits for the end of the attempt (R596), a bus-off episode to be counted (R598). -/
structure TxBuf where
  frame : BusFrame := {}
  order : Nat := 0
  abort : Bool := false
  episode : Bool := false
deriving DecidableEq, Repr, Inhabited

/-- The state of a FIFO entry (R601). -/
inductive RxState
  | free | full | held
deriving DecidableEq, Repr, Inhabited

/-- One entry of a receive FIFO (R601, R602): its state, the frame, bits [39:0] of NWT at its frame instant, and its order of arrival. -/
structure RxEntry where
  state : RxState := .free
  frame : BusFrame := {}
  ts : Nat := 0
  order : Nat := 0
deriving DecidableEq, Repr, Inhabited

/-- A SYNC that waits for its FOLLOW (R607): its index, the capture at its frame instant, and the time since power-on at which it came. -/
structure SyncSeen where
  index : Nat
  capture : Word
  cameAt : Nat
deriving DecidableEq, Repr, Inhabited

/-- One controller beside its words: whether it takes part in bus traffic (R584), its transmit buffers, the time buffer (R606) and the SEQ of its next
SYNC, the bridge queue towards its line (R610), the source whose attempt is on the bus (0 to 2 the buffers, 3 the time buffer, 4 the bridge queue),
counts of frames made pending and received, the FIFO, the instants of own-identifier bit errors (R599), the SYNC that waits for its FOLLOW. -/
structure Purlin where
  joined : Bool := false
  bufs : List TxBuf := List.replicate 3 {}
  time : Option TxBuf := none
  seq : Nat := 0
  bridge : List TxBuf := []
  active : Option Nat := none
  sentOrder : Nat := 0
  gotOrder : Nat := 0
  fifo : List RxEntry := List.replicate 64 {}
  idErrs : List Nat := []
  sync : Option SyncSeen := none
deriving DecidableEq, Repr, Inhabited

/-! ### Seals, their change logs and the safety set (03_parameter_space, 16_safety_inputs) -/

/-- One entry of a change log (R552, R636): sequence number, event, detail, NWT, and the words that the log words show after them. -/
structure LogEntry where
  seq : Nat
  event : Nat
  detail : Nat := 0
  time : Word := 0
  w2 : Word := 0
  w3 : Word := 0
  w4 : Word := 0
  w5 : Word := 0
deriving DecidableEq, Repr, Inhabited

/-- What a seal's records keep (R101, R102): consecutive wrong credentials, the end of a lockout in powered PCLK cycles, the length of the next
lockout in s, whether the newest opening has no close in the log, and whether that close was by a reset. -/
structure SealLog where
  fails : Nat := 0
  lockEnd : Option Nat := none
  lockNext : Nat := 60
  unclosed : Bool := false
  byReset : Bool := false
deriving DecidableEq, Repr, Inhabited

/-- A password as it is held (R548): salt and verifier. -/
structure Password where
  salt : List Word
  verifier : List Word
deriving DecidableEq, Repr, Inhabited

/-- The SAFE partition (R545, R548, R552) and what is staged for it (R549, R550): the confirmed set, the password, the change log (newest first)
and the last sequence number; the password bytes written, a staged password (some none: its removal), a confirmation that runs (R551). -/
structure Safe where
  record : Option (List (Nat × Word)) := none
  password : Option Password := none
  log : List LogEntry := []
  lastSeq : Nat := 0
  sealLog : SealLog := {}
  pw : List Word := List.replicate 15 0
  stagedPw : Option (Option Password) := none
  confirming : Option PendReq := none
deriving DecidableEq, Repr, Inhabited

/-! ### Metrology (19_metrology) -/

/-- An open session (R627, R630): the host reference, NWT, EIMP and EEXP at its open, TQO, and the flags GAP, RDIFF and OVR. -/
structure Session where
  ref : Nat := 0
  openNwt : Word := 0
  openImp : Nat := 0
  openExp : Nat := 0
  tqo : Bool := false
  gap : Bool := false
  rdiff : Bool := false
  ovr : Bool := false
deriving DecidableEq, Repr, Inhabited

/-- A closing session (R629): its end reason, whether BOOT closed it, its host request, and W0 to W15 once its close values are taken. -/
structure Closing where
  reason : Nat
  recov : Bool := false
  pend : Option PendReq := none
  words : Option (List Word) := none
deriving DecidableEq, Repr, Inhabited

/-- A snapshot slot (R622): KIND (true: PFAIL), generation, the four registers, the NWT of the last accumulated sample, CALSEQ, the session state
(R641) with its number and the last end reason, the open session, the closing record. -/
structure Snap where
  pfail : Bool
  gen : Nat
  eimp : Nat
  eexp : Nat
  rimp : Nat
  rexp : Nat
  nwt : Word
  calSeq : Nat
  state : Nat
  sessno : Nat
  lastEnd : Nat
  session : Session
  closing : Option Closing
deriving DecidableEq, Repr, Inhabited

/-- The metrology partition beside its words: the energy registers with their fractions (R618), the NWT of the last accumulated sample and that
of the last sample boundary (R633), how many samples in a row each modulator has saturated (R621), the power-fail detector (R623), the calibration in force and one that takes force at the next sample boundary (R635), sums over the present second
(R620): v, i, p, redundant p, codes, samples; consecutive misses; the session, its open values still to be taken, a closing session; and MLOG: the
calibration record, the change log, the session records, the two snapshot slots. -/
structure Meter where
  eimp : Nat := 0
  eexp : Nat := 0
  rimp : Nat := 0
  rexp : Nat := 0
  lastNwt : Word := 0
  boundary : Word := 0
  satRun : List Nat := [0, 0, 0, 0]
  tripped : Bool := false
  inForce : List (Nat × Word) := []
  nextCal : Option (List (Nat × Word)) := none
  sumV : Rat := 0
  sumI : Rat := 0
  sumP : Rat := 0
  sumR : Rat := 0
  sumX : List Int := [0, 0, 0, 0]
  count : Nat := 0
  misses : Nat := 0
  session : Session := {}
  openDue : Bool := false
  closing : Option Closing := none
  calRecord : Option (List (Nat × Word)) := none
  calSeq : Nat := 0
  log : List LogEntry := []
  lastSeq : Nat := 0
  sealLog : SealLog := {}
  records : List (Nat × List Word) := []
  slots : List (Option Snap) := [none, none]
deriving DecidableEq, Repr, Inhabited

/-! ### Store, self-test and repair (20_store_and_self_test) -/

/-- A write that the store makes or that waits for it (R651): a configuration image (true: CFG-B) with its record, the staged patch with its record,
a soft repair, a metrology snapshot (true: PFAIL), the confirmed safety set. -/
inductive StoreJob
  | image (b : Bool) (words : List Word)
  | patch (words : List Word)
  | repair (r : RepairRec)
  | snapshot (pfail : Bool)
  | confirm
deriving DecidableEq, Repr, Inhabited

/-- The running host store request (R658): opcode, tag, PART, the slot a restore takes (true: CFG-B), and whether it can no longer succeed. -/
structure HostStore where
  op : Nat
  tag : Nat
  part : Nat
  restore : Option Bool := none
  failed : Bool := false
deriving DecidableEq, Repr, Inhabited

/-- The store beside its words: the write in progress and the writes that wait, those that the power-fail detector abandoned
and that are made again when it releases (R651), the host request, writes deferred by the store window (R671),
the patch staging memory (R659). -/
structure Nvm where
  cur : Option StoreJob := none
  waiting : List StoreJob := []
  again : List StoreJob := []
  host : Option HostStore := none
  deferred : List RepairRec := []
  staging : List (Nat × Word) := []
  staged : Bool := false
deriving DecidableEq, Repr, Inhabited

/-- Self-test and repair beside their words: the logical lane last tested (R668), pending BIST_RUN requests (R670), a fusing request with its slots
left (R672), the elements fused, and whether a SELFTEST run waits for its repair records to end (R667). -/
structure Bist where
  lastLane : Nat := 7
  laneReq : Option PendReq := none
  scrubReq : Option PendReq := none
  fuseReq : Option PendReq := none
  fuseSlots : List Nat := []
  fused : List RepairRec := []
  fusesUsed : Nat := 0
  ending : Bool := false
deriving DecidableEq, Repr, Inhabited


/-- The whole chip. -/
structure Chip where
  /-- The parameter words of R80, but for the memories below: sparse, an unlisted address reads its reset word. -/
  regs : Mem := []
  /-- Lane memories (R307), physical lane z word a at 4096 z + a; an unlisted word reads zero. -/
  lanes : Mem := []
  /-- ZMEM (R308); an unlisted word reads zero. -/
  zmem : Mem := []
  /-- The store (R643), store word k at k; an unlisted word reads zero. -/
  store : Mem := []
  /-- What fuses and masks fix. -/
  fuses : Fuses := {}
  /-- Modes, the pending request, the host watchdog. -/
  ms : ModeState := {}
  /-- The Tenon link. -/
  link : Link := {}
  /-- Clocks, reset sources and power. -/
  clk : Clk := {}
  /-- Network time and follower time. -/
  time : Time := {}
  /-- Angle trackers AT0 to AT5. -/
  trackers : List Tracker := List.replicate 6 {}
  /-- Kerf tables KT0 to KT5. -/
  kerfs : List Kerf := List.replicate 6 {}
  /-- Analog acquisition. -/
  adc : Adc := {}
  /-- Timebases of G0 to G5 and GB. -/
  pwmG : List PwmGroup := List.replicate 7 {}
  /-- Legs L0 to L19 in the PWM generator. -/
  pwmL : List PwmLeg := List.replicate 20 {}
  /-- Strength lines and fault states of G0 to G5 and GB. -/
  gdsG : List GdsGroup := List.replicate 7 {}
  /-- Legs L0 to L19 in gate-drive supervision. -/
  gdsL : List GdsLeg := List.replicate 20 {}
  /-- The model's own counter of free values drawn (log entry 3); no field of the spec. -/
  freeCtr : Nat := 0
  /-- The input window that the converters write (R307), word 16 s + k for slot k of SETs; an unlisted word reads zero. -/
  window : Mem := []
  /-- The Whey port and the counters. -/
  obs : Obs := {}
  /-- Triggers raised inside the running step; empty between steps. -/
  notices : List Notice := []
  /-- Soft-repair records that wait to be written (R671), oldest first. -/
  repairs : List RepairRec := []
  /-- The STO request and the STOA, STOB, SSOA and SSOB balls. -/
  sto : Sto := {}
  /-- The Zaensan engine. -/
  zen : Zen := {}
  /-- The motor sequencers of A0 to A3. -/
  axes : List AxisSeq := List.replicate 4 {}
  /-- The power budget and the converter sequencers. -/
  conv : Conv := {}
  /-- Power-stage protection. -/
  prot : Prot := {}
  /-- The fine position, within the present PCLK cycle, at which the commands of the running step change (R237); zero between steps. -/
  fine : Nat := 0
  /-- Time since power-on in PCLK cycles: the model's count for timers of the device clock and of SOSC. -/
  up : Nat := 0
  /-- Rind and the safety inputs. -/
  rind : Rind := {}
  /-- The thermal unit. -/
  therm : Therm := {}
  /-- The controllers PU0 and PU1. -/
  pu : List Purlin := List.replicate 2 {}
  /-- HOP of the last accepted FOLLOW (R606). -/
  hop : Nat := 0
  /-- The SAFE partition and what is staged for it. -/
  safe : Safe := {}
  /-- The metrology partition with MLOG. -/
  meter : Meter := {}
  /-- The store. -/
  nvm : Nvm := {}
  /-- Self-test and repair. -/
  bist : Bist := {}
deriving DecidableEq, Repr, Inhabited

/-- The state of the block: the chip, and the commands that wait, first in, first out. -/
structure State where
  chip : Chip
  pending : List Instr
deriving DecidableEq, Repr

/-- Why a step can stop with a fault. No rule of the spec stops the block without giving an effect, so no meaning raises it. -/
inductive Fault
  /-- Raised by no command: the block has no fault that stops it (safe). -/
  | none
deriving DecidableEq, Repr

/-- Why a step can be refused. -/
inductive Refusal
  /-- A command without a meaning yet, by its mnemonic (safe: the model stops). -/
  | notModelled (mnemonic : String)
deriving DecidableEq, Repr

/-- The machine at the end of the RESET that follows power-on (R20, R126, R136): every word at its Reset value, POWERON recorded,
the rails up, no reset source active, no reference qualified yet, and no command waiting. -/
def State.reset : State := ⟨{}, []⟩

end Sys2Proof.Machine
end

