-- ==== Sys2Proof/Machine/Field.lean ====
section
/-! DEFINITION. What a field map says of a field (R16): its place, its access code, its reset value, the modes in which
a host may write it, and the values a write is taken as. -/

namespace Sys2Proof.Machine

/-- The access codes of R16. -/
inductive Acc
  | ro | rw | w1c | wo | rc | sl | ri
deriving DecidableEq, Repr

/-- The modes in which a host write reaches an RW or WO field: every mode, CONFIG only, CONFIG and STANDBY. -/
inductive When
  | any | cfg | cs
deriving DecidableEq, Repr

/-- How a written value is taken: as it stands, clamped to a range, clamped unless zero, or replaced by a default outside a range. -/
inductive Norm
  | asIs
  | clamp (lo hi : Nat)
  | clampNz (lo hi : Nat)
  | dflt (lo hi d : Nat)
deriving DecidableEq, Repr

/-- One row of a field map. -/
structure FieldDef where
  lo : Nat
  width : Nat
  acc : Acc
  reset : Nat
  whn : When
  norm : Norm
deriving DecidableEq, Repr

/-- A word of the parameter space, with the repetitions (count and stride) of its instances, outermost first. -/
structure WordDef where
  name : String
  base : Nat
  dims : List (Nat × Nat)
  fields : List FieldDef
deriving DecidableEq, Repr

/-- A field of one word: the word's address and the field's bits. -/
structure Fld where
  addr : Nat
  lo : Nat
  width : Nat
deriving DecidableEq, Repr

/-- A field-map row, written short. -/
def fd (lo width : Nat) (acc : Acc) (reset : Nat) (whn : When := .any) (norm : Norm := .asIs) : FieldDef :=
  ⟨lo, width, acc, reset, whn, norm⟩

/-- The value a written value is taken as. -/
def Norm.take (n : Norm) (v : Nat) : Nat :=
  match n with
  | .asIs => v
  | .clamp lo hi => clampNat lo hi v
  | .clampNz lo hi => if v = 0 then 0 else clampNat lo hi v
  | .dflt lo hi d => if v < lo || hi < v then d else v

/-- Whether the offset from a word's base is one of its instances. -/
def dimsCover : List (Nat × Nat) → Nat → Bool
  | [], off => off == 0
  | [(n, st)], off => off % st == 0 && off / st < n
  | (n, st) :: rest, off => off / st < n && dimsCover rest (off % st)

/-- Whether the word definition has an instance at an address. -/
def WordDef.covers (d : WordDef) (a : Nat) : Bool := d.base ≤ a && dimsCover d.dims (a - d.base)

/-- The reset word that a list of field rows gives (reserved bits zero, R19). -/
def resetOf (fs : List FieldDef) : Word := fs.foldl (fun w f => w.setField f.lo f.width f.reset) 0

end Sys2Proof.Machine
end

