-- ==== Sys2Proof/Machine/Words.lean ====
section
/-! DEFINITION. The parameter words of the spec (R80 to R86 and the field maps of every chapter), written out from
the field-map tables: one `WordDef` a word, one `FieldDef` a field, and one `Fld` a field to read and write it by. -/

namespace Sys2Proof.Machine

/-! ### The Dev region -/

/-- DEV.IDENT[PART], R87. -/
def F.DEV_IDENT_PART : Fld := ⟨0x0, 32, 16⟩
/-- DEV.IDENT[VARIANT], R87. -/
def F.DEV_IDENT_VARIANT : Fld := ⟨0x0, 28, 4⟩
/-- DEV.IDENT[STEP], R87. -/
def F.DEV_IDENT_STEP : Fld := ⟨0x0, 24, 4⟩
/-- DEV.IDENT[ROMVER], R87. -/
def F.DEV_IDENT_ROMVER : Fld := ⟨0x0, 16, 8⟩
/-- DEV.IDENT[PATCHVER], R87. -/
def F.DEV_IDENT_PATCHVER : Fld := ⟨0x0, 8, 8⟩
/-- DEV.IDENT[MAPVER], R87. -/
def F.DEV_IDENT_MAPVER : Fld := ⟨0x0, 0, 8⟩
/-- The address of DEV.IDENT. -/
def F.DEV_IDENT : Nat := 0x0
/-- DEV.SERIAL0[SERIAL], R88. -/
def F.DEV_SERIAL0_SERIAL : Fld := ⟨0x1, 0, 48⟩
/-- The address of DEV.SERIAL0. -/
def F.DEV_SERIAL0 : Nat := 0x1
/-- DEV.SERIAL1[SERIAL], R88. -/
def F.DEV_SERIAL1_SERIAL : Fld := ⟨0x2, 0, 48⟩
/-- The address of DEV.SERIAL1. -/
def F.DEV_SERIAL1 : Nat := 0x2
/-- DEV.BOOTINFO[BOOTSEL], R89. -/
def F.DEV_BOOTINFO_BOOTSEL : Fld := ⟨0x3, 27, 1⟩
/-- DEV.BOOTINFO[PATCHOK], R89. -/
def F.DEV_BOOTINFO_PATCHOK : Fld := ⟨0x3, 26, 1⟩
/-- DEV.BOOTINFO[SAFEOK], R89. -/
def F.DEV_BOOTINFO_SAFEOK : Fld := ⟨0x3, 25, 1⟩
/-- DEV.BOOTINFO[REPAIRS], R89. -/
def F.DEV_BOOTINFO_REPAIRS : Fld := ⟨0x3, 18, 6⟩
/-- DEV.BOOTINFO[IMAGE], R89. -/
def F.DEV_BOOTINFO_IMAGE : Fld := ⟨0x3, 16, 2⟩
/-- DEV.BOOTINFO[GEN], R89. -/
def F.DEV_BOOTINFO_GEN : Fld := ⟨0x3, 0, 16⟩
/-- The address of DEV.BOOTINFO. -/
def F.DEV_BOOTINFO : Nat := 0x3
/-- DEV.NADDR[NADDR], R90. -/
def F.DEV_NADDR_NADDR : Fld := ⟨0x4, 0, 10⟩
/-- The address of DEV.NADDR. -/
def F.DEV_NADDR : Nat := 0x4
/-- DEV.MODE[LASTREF], R22. -/
def F.DEV_MODE_LASTREF : Fld := ⟨0x8, 24, 8⟩
/-- DEV.MODE[LASTREQ], R22. -/
def F.DEV_MODE_LASTREQ : Fld := ⟨0x8, 20, 4⟩
/-- DEV.MODE[CAUSE], R22. -/
def F.DEV_MODE_CAUSE : Fld := ⟨0x8, 16, 4⟩
/-- DEV.MODE[LINK_OK], R22. -/
def F.DEV_MODE_LINK_OK : Fld := ⟨0x8, 15, 1⟩
/-- DEV.MODE[HOLD], R22. -/
def F.DEV_MODE_HOLD : Fld := ⟨0x8, 14, 1⟩
/-- DEV.MODE[PEND], R22. -/
def F.DEV_MODE_PEND : Fld := ⟨0x8, 13, 1⟩
/-- DEV.MODE[LATCH], R22. -/
def F.DEV_MODE_LATCH : Fld := ⟨0x8, 12, 1⟩
/-- DEV.MODE[PREV], R22. -/
def F.DEV_MODE_PREV : Fld := ⟨0x8, 8, 4⟩
/-- DEV.MODE[TARGET], R22. -/
def F.DEV_MODE_TARGET : Fld := ⟨0x8, 4, 4⟩
/-- DEV.MODE[MODE], R22. -/
def F.DEV_MODE_MODE : Fld := ⟨0x8, 0, 4⟩
/-- The address of DEV.MODE. -/
def F.DEV_MODE : Nat := 0x8
/-- DEV.AXST[SUB], R24. -/
def F.DEV_AXST_SUB (k : Nat) : Fld := ⟨0x9, 0 + 8 * k, 4⟩
/-- DEV.AXST[AXFLT], R24. -/
def F.DEV_AXST_AXFLT (k : Nat) : Fld := ⟨0x9, 4 + 8 * k, 1⟩
/-- DEV.AXST[IDACT], R24. -/
def F.DEV_AXST_IDACT (k : Nat) : Fld := ⟨0x9, 5 + 8 * k, 1⟩
/-- The address of DEV.AXST. -/
def F.DEV_AXST : Nat := 0x9
/-- DEV.TLK[CRCERR], R72. -/
def F.DEV_TLK_CRCERR : Fld := ⟨0xa, 24, 8⟩
/-- DEV.TLK[FRAMERR], R72. -/
def F.DEV_TLK_FRAMERR : Fld := ⟨0xa, 16, 8⟩
/-- DEV.TLK[OVERRUN], R72. -/
def F.DEV_TLK_OVERRUN : Fld := ⟨0xa, 8, 8⟩
/-- DEV.TLK[PENDING], R72. -/
def F.DEV_TLK_PENDING : Fld := ⟨0xa, 4, 4⟩
/-- DEV.TLK[LOCK], R72. -/
def F.DEV_TLK_LOCK : Fld := ⟨0xa, 0, 1⟩
/-- The address of DEV.TLK. -/
def F.DEV_TLK : Nat := 0xa
/-- DEV.HWD[EXPIRED], R73. -/
def F.DEV_HWD_EXPIRED : Fld := ⟨0xb, 23, 1⟩
/-- DEV.HWD[FALLBACK], R73. -/
def F.DEV_HWD_FALLBACK : Fld := ⟨0xb, 16, 4⟩
/-- DEV.HWD[ENABLE], R73. -/
def F.DEV_HWD_ENABLE : Fld := ⟨0xb, 15, 1⟩
/-- DEV.HWD[INTERVAL], R73. -/
def F.DEV_HWD_INTERVAL : Fld := ⟨0xb, 0, 10⟩
/-- The address of DEV.HWD. -/
def F.DEV_HWD : Nat := 0xb
/-- DEV.EVT0[MODE_CHG], R92. -/
def F.DEV_EVT0_MODE_CHG : Fld := ⟨0x10, 0, 1⟩
/-- DEV.EVT0[PEND_DONE], R92. -/
def F.DEV_EVT0_PEND_DONE : Fld := ⟨0x10, 1, 1⟩
/-- DEV.EVT0[LINK_OVR], R92. -/
def F.DEV_EVT0_LINK_OVR : Fld := ⟨0x10, 2, 1⟩
/-- DEV.EVT0[HWD_EXP], R92. -/
def F.DEV_EVT0_HWD_EXP : Fld := ⟨0x10, 3, 1⟩
/-- DEV.EVT0[SEAL_CHG], R92. -/
def F.DEV_EVT0_SEAL_CHG : Fld := ⟨0x10, 4, 1⟩
/-- DEV.EVT0[SEAL_AUTO], R92. -/
def F.DEV_EVT0_SEAL_AUTO : Fld := ⟨0x10, 5, 1⟩
/-- DEV.EVT0[CFG_FAIL], R92. -/
def F.DEV_EVT0_CFG_FAIL : Fld := ⟨0x10, 6, 1⟩
/-- DEV.EVT0[CLK_EVT], R92. -/
def F.DEV_EVT0_CLK_EVT : Fld := ⟨0x10, 7, 1⟩
/-- DEV.EVT0[BOOT_DONE], R92. -/
def F.DEV_EVT0_BOOT_DONE : Fld := ⟨0x10, 8, 1⟩
/-- DEV.EVT0[BIST_EVT], R92. -/
def F.DEV_EVT0_BIST_EVT : Fld := ⟨0x10, 9, 1⟩
/-- DEV.EVT0[STORE_EVT], R92. -/
def F.DEV_EVT0_STORE_EVT : Fld := ⟨0x10, 10, 1⟩
/-- DEV.EVT0[TIME_EVT], R92. -/
def F.DEV_EVT0_TIME_EVT : Fld := ⟨0x10, 11, 1⟩
/-- DEV.EVT0[SWEV], R92. -/
def F.DEV_EVT0_SWEV : Fld := ⟨0x10, 12, 1⟩
/-- The address of DEV.EVT0. -/
def F.DEV_EVT0 : Nat := 0x10
/-- DEV.EVT1[STO_CHG], R93. -/
def F.DEV_EVT1_STO_CHG : Fld := ⟨0x11, 0, 1⟩
/-- DEV.EVT1[SAFE_DEMAND], R93. -/
def F.DEV_EVT1_SAFE_DEMAND : Fld := ⟨0x11, 1, 1⟩
/-- DEV.EVT1[SIN_DIAG], R93. -/
def F.DEV_EVT1_SIN_DIAG : Fld := ⟨0x11, 2, 1⟩
/-- DEV.EVT1[RIND_DIAG], R93. -/
def F.DEV_EVT1_RIND_DIAG : Fld := ⟨0x11, 3, 1⟩
/-- DEV.EVT1[DCLINK], R93. -/
def F.DEV_EVT1_DCLINK : Fld := ⟨0x11, 4, 1⟩
/-- DEV.EVT1[CHOPPER], R93. -/
def F.DEV_EVT1_CHOPPER : Fld := ⟨0x11, 5, 1⟩
/-- DEV.EVT1[SAFE_STATE], R93. -/
def F.DEV_EVT1_SAFE_STATE : Fld := ⟨0x11, 6, 1⟩
/-- DEV.EVT1[THERM_STEP], R93. -/
def F.DEV_EVT1_THERM_STEP : Fld := ⟨0x11, 7, 1⟩
/-- DEV.EVT1[THERM_WIN], R93. -/
def F.DEV_EVT1_THERM_WIN : Fld := ⟨0x11, 8, 1⟩
/-- DEV.EVT1[SENSOR], R93. -/
def F.DEV_EVT1_SENSOR : Fld := ⟨0x11, 9, 1⟩
/-- The address of DEV.EVT1. -/
def F.DEV_EVT1 : Nat := 0x11
/-- DEV.EVT2[GFLT], R94. -/
def F.DEV_EVT2_GFLT : Fld := ⟨0x12, 0, 6⟩
/-- DEV.EVT2[GBFLT], R94. -/
def F.DEV_EVT2_GBFLT : Fld := ⟨0x12, 6, 1⟩
/-- DEV.EVT2[AXFLT], R94. -/
def F.DEV_EVT2_AXFLT : Fld := ⟨0x12, 8, 4⟩
/-- DEV.EVT2[AXMON], R94. -/
def F.DEV_EVT2_AXMON : Fld := ⟨0x12, 12, 4⟩
/-- DEV.EVT2[WRAP], R94. -/
def F.DEV_EVT2_WRAP : Fld := ⟨0x12, 16, 1⟩
/-- DEV.EVT2[LANE], R94. -/
def F.DEV_EVT2_LANE : Fld := ⟨0x12, 17, 1⟩
/-- DEV.EVT2[ADC_SPARE], R94. -/
def F.DEV_EVT2_ADC_SPARE : Fld := ⟨0x12, 18, 1⟩
/-- DEV.EVT2[PWM_WARN], R94. -/
def F.DEV_EVT2_PWM_WARN : Fld := ⟨0x12, 19, 1⟩
/-- The address of DEV.EVT2. -/
def F.DEV_EVT2 : Nat := 0x12
/-- DEV.EVT3[RXFIFO], R95. -/
def F.DEV_EVT3_RXFIFO : Fld := ⟨0x13, 0, 2⟩
/-- DEV.EVT3[PRIO], R95. -/
def F.DEV_EVT3_PRIO : Fld := ⟨0x13, 2, 2⟩
/-- DEV.EVT3[BUSERR], R95. -/
def F.DEV_EVT3_BUSERR : Fld := ⟨0x13, 4, 2⟩
/-- DEV.EVT3[ID_COLL], R95. -/
def F.DEV_EVT3_ID_COLL : Fld := ⟨0x13, 6, 1⟩
/-- DEV.EVT3[BUDGET], R95. -/
def F.DEV_EVT3_BUDGET : Fld := ⟨0x13, 7, 1⟩
/-- DEV.EVT3[METER], R95. -/
def F.DEV_EVT3_METER : Fld := ⟨0x13, 8, 1⟩
/-- DEV.EVT3[POWER_FAIL], R95. -/
def F.DEV_EVT3_POWER_FAIL : Fld := ⟨0x13, 9, 1⟩
/-- The address of DEV.EVT3. -/
def F.DEV_EVT3 : Nat := 0x13
/-- DEV.EVM0[M], R96. -/
def F.DEV_EVM0_M : Fld := ⟨0x14, 0, 13⟩
/-- The address of DEV.EVM0. -/
def F.DEV_EVM0 : Nat := 0x14
/-- DEV.EVM1[M], R96. -/
def F.DEV_EVM1_M : Fld := ⟨0x15, 0, 10⟩
/-- The address of DEV.EVM1. -/
def F.DEV_EVM1 : Nat := 0x15
/-- DEV.EVM2[ML], R96. -/
def F.DEV_EVM2_ML : Fld := ⟨0x16, 0, 7⟩
/-- DEV.EVM2[MH], R96. -/
def F.DEV_EVM2_MH : Fld := ⟨0x16, 8, 12⟩
/-- The address of DEV.EVM2. -/
def F.DEV_EVM2 : Nat := 0x16
/-- DEV.EVM3[M], R96. -/
def F.DEV_EVM3_M : Fld := ⟨0x17, 0, 10⟩
/-- The address of DEV.EVM3. -/
def F.DEV_EVM3 : Nat := 0x17
/-- DEV.HRQ[SWSET], R97. -/
def F.DEV_HRQ_SWSET : Fld := ⟨0x18, 8, 1⟩
/-- DEV.HRQ[ACTIVE], R97. -/
def F.DEV_HRQ_ACTIVE : Fld := ⟨0x18, 0, 4⟩
/-- The address of DEV.HRQ. -/
def F.DEV_HRQ : Nat := 0x18
/-- DEV.PDONE[OPCODE], R98. -/
def F.DEV_PDONE_OPCODE : Fld := ⟨0x19, 40, 8⟩
/-- DEV.PDONE[TAG], R98. -/
def F.DEV_PDONE_TAG : Fld := ⟨0x19, 32, 8⟩
/-- DEV.PDONE[LOST], R98. -/
def F.DEV_PDONE_LOST : Fld := ⟨0x19, 24, 8⟩
/-- DEV.PDONE[DETAIL], R98. -/
def F.DEV_PDONE_DETAIL : Fld := ⟨0x19, 8, 16⟩
/-- DEV.PDONE[STATUS], R98. -/
def F.DEV_PDONE_STATUS : Fld := ⟨0x19, 0, 8⟩
/-- The address of DEV.PDONE. -/
def F.DEV_PDONE : Nat := 0x19
/-- DEV.SEAL[MTRFAIL], R104. -/
def F.DEV_SEAL_MTRFAIL : Fld := ⟨0x1a, 32, 8⟩
/-- DEV.SEAL[SINFAIL], R104. -/
def F.DEV_SEAL_SINFAIL : Fld := ⟨0x1a, 24, 8⟩
/-- DEV.SEAL[TIMEOUT], R104. -/
def F.DEV_SEAL_TIMEOUT : Fld := ⟨0x1a, 16, 8⟩
/-- DEV.SEAL[MTRLOCK], R104. -/
def F.DEV_SEAL_MTRLOCK : Fld := ⟨0x1a, 3, 1⟩
/-- DEV.SEAL[SINLOCK], R104. -/
def F.DEV_SEAL_SINLOCK : Fld := ⟨0x1a, 2, 1⟩
/-- DEV.SEAL[MTROPEN], R104. -/
def F.DEV_SEAL_MTROPEN : Fld := ⟨0x1a, 1, 1⟩
/-- DEV.SEAL[SINOPEN], R104. -/
def F.DEV_SEAL_SINOPEN : Fld := ⟨0x1a, 0, 1⟩
/-- The address of DEV.SEAL. -/
def F.DEV_SEAL : Nat := 0x1a
/-- DEV.CFGCHK[RUN], R107. -/
def F.DEV_CFGCHK_RUN : Fld := ⟨0x1b, 41, 1⟩
/-- DEV.CFGCHK[BUSY], R107. -/
def F.DEV_CFGCHK_BUSY : Fld := ⟨0x1b, 40, 1⟩
/-- DEV.CFGCHK[ITEM], R107. -/
def F.DEV_CFGCHK_ITEM : Fld := ⟨0x1b, 32, 8⟩
/-- DEV.CFGCHK[WHERE], R107. -/
def F.DEV_CFGCHK_WHERE : Fld := ⟨0x1b, 0, 24⟩
/-- The address of DEV.CFGCHK. -/
def F.DEV_CFGCHK : Nat := 0x1b

/-- Words of the Dev region, part 0. -/
def wordsDev0 : List WordDef := [
  ⟨"DEV.IDENT", 0x0, [], [fd 32 16 .ro 0x9648, fd 28 4 .ro 0x2, fd 24 4 .ro 0x1, fd 16 8 .ro 0x3, fd 8 8 .ro 0x0, fd 0 8 .ro 0x1]⟩,
  ⟨"DEV.SERIAL0", 0x1, [], [fd 0 48 .ro 0x0]⟩,
  ⟨"DEV.SERIAL1", 0x2, [], [fd 0 48 .ro 0x0]⟩,
  ⟨"DEV.BOOTINFO", 0x3, [], [fd 27 1 .ro 0x0, fd 26 1 .ro 0x0, fd 25 1 .ro 0x0, fd 18 6 .ro 0x0, fd 16 2 .ro 0x0, fd 0 16 .ro 0x0]⟩,
  ⟨"DEV.NADDR", 0x4, [], [fd 0 10 .rw 0x0 .cfg]⟩,
  ⟨"DEV.MODE", 0x8, [], [fd 24 8 .ro 0x0, fd 20 4 .ro 0x0, fd 16 4 .ro 0x0, fd 15 1 .ro 0x0, fd 14 1 .ro 0x0, fd 13 1 .ro 0x0, fd 12 1 .ri 0x0, fd 8 4 .ro 0x0, fd 4 4 .ro 0x0, fd 0 4 .ro 0x0]⟩,
  ⟨"DEV.AXST", 0x9, [], [fd 0 4 .ro 0x0, fd 8 4 .ro 0x0, fd 16 4 .ro 0x0, fd 24 4 .ro 0x0, fd 4 1 .ro 0x0, fd 12 1 .ro 0x0, fd 20 1 .ro 0x0, fd 28 1 .ro 0x0, fd 5 1 .ro 0x0, fd 13 1 .ro 0x0, fd 21 1 .ro 0x0, fd 29 1 .ro 0x0]⟩,
  ⟨"DEV.TLK", 0xa, [], [fd 24 8 .rc 0x0, fd 16 8 .rc 0x0, fd 8 8 .rc 0x0, fd 4 4 .ro 0x0, fd 0 1 .ro 0x0]⟩,
  ⟨"DEV.HWD", 0xb, [], [fd 23 1 .w1c 0x0, fd 16 4 .rw 0x0 .cs, fd 15 1 .rw 0x0 .cs, fd 0 10 .rw 0xa .any (.clamp 1 1000)]⟩,
  ⟨"DEV.EVT0", 0x10, [], [fd 0 1 .w1c 0x0, fd 1 1 .w1c 0x0, fd 2 1 .w1c 0x0, fd 3 1 .w1c 0x0, fd 4 1 .w1c 0x0, fd 5 1 .w1c 0x0, fd 6 1 .w1c 0x0, fd 7 1 .w1c 0x0, fd 8 1 .w1c 0x0, fd 9 1 .w1c 0x0, fd 10 1 .w1c 0x0, fd 11 1 .w1c 0x0, fd 12 1 .w1c 0x0]⟩,
  ⟨"DEV.EVT1", 0x11, [], [fd 0 1 .w1c 0x0, fd 1 1 .w1c 0x0, fd 2 1 .w1c 0x0, fd 3 1 .w1c 0x0, fd 4 1 .w1c 0x0, fd 5 1 .w1c 0x0, fd 6 1 .w1c 0x0, fd 7 1 .w1c 0x0, fd 8 1 .w1c 0x0, fd 9 1 .w1c 0x0]⟩,
  ⟨"DEV.EVT2", 0x12, [], [fd 0 6 .w1c 0x0, fd 6 1 .w1c 0x0, fd 8 4 .w1c 0x0, fd 12 4 .w1c 0x0, fd 16 1 .w1c 0x0, fd 17 1 .w1c 0x0, fd 18 1 .w1c 0x0, fd 19 1 .w1c 0x0]⟩]

/-- Words of the Dev region, part 1. -/
def wordsDev1 : List WordDef := [
  ⟨"DEV.EVT3", 0x13, [], [fd 0 2 .w1c 0x0, fd 2 2 .w1c 0x0, fd 4 2 .w1c 0x0, fd 6 1 .w1c 0x0, fd 7 1 .w1c 0x0, fd 8 1 .w1c 0x0, fd 9 1 .w1c 0x0]⟩,
  ⟨"DEV.EVM0", 0x14, [], [fd 0 13 .rw 0x0]⟩,
  ⟨"DEV.EVM1", 0x15, [], [fd 0 10 .rw 0x0]⟩,
  ⟨"DEV.EVM2", 0x16, [], [fd 0 7 .rw 0x0, fd 8 12 .rw 0x0]⟩,
  ⟨"DEV.EVM3", 0x17, [], [fd 0 10 .rw 0x0]⟩,
  ⟨"DEV.HRQ", 0x18, [], [fd 8 1 .wo 0x0, fd 0 4 .ro 0x0]⟩,
  ⟨"DEV.PDONE", 0x19, [], [fd 40 8 .ro 0x0, fd 32 8 .ro 0x0, fd 24 8 .rc 0x0, fd 8 16 .ro 0x0, fd 0 8 .ro 0x0]⟩,
  ⟨"DEV.SEAL", 0x1a, [], [fd 32 8 .ro 0x0, fd 24 8 .ro 0x0, fd 16 8 .rw 0xa .cfg (.clamp 1 255), fd 3 1 .ro 0x0, fd 2 1 .ro 0x0, fd 1 1 .ro 0x0, fd 0 1 .ro 0x0]⟩,
  ⟨"DEV.CFGCHK", 0x1b, [], [fd 41 1 .wo 0x0 .cfg, fd 40 1 .ro 0x0, fd 32 8 .ro 0x0, fd 0 24 .ro 0x0]⟩]

/-- The Dev region, its words. -/
def wordsDev : List WordDef := wordsDev0 ++ wordsDev1

/-! ### The Clk region -/

/-- CLK.CFG[BUSTRIM], R131. -/
def F.CLK_CFG_BUSTRIM : Fld := ⟨0x10000, 23, 1⟩
/-- CLK.CFG[BUSPU], R131. -/
def F.CLK_CFG_BUSPU : Fld := ⟨0x10000, 22, 1⟩
/-- CLK.CFG[REFSEL], R131. -/
def F.CLK_CFG_REFSEL : Fld := ⟨0x10000, 20, 1⟩
/-- CLK.CFG[HKHZ], R131. -/
def F.CLK_CFG_HKHZ : Fld := ⟨0x10000, 0, 18⟩
/-- The address of CLK.CFG. -/
def F.CLK_CFG : Nat := 0x10000
/-- CLK.STAT[HOLDOVER], R132. -/
def F.CLK_STAT_HOLDOVER : Fld := ⟨0x10001, 15, 1⟩
/-- CLK.STAT[TRIMSRC], R132. -/
def F.CLK_STAT_TRIMSRC : Fld := ⟨0x10001, 13, 2⟩
/-- CLK.STAT[TRIMOK], R132. -/
def F.CLK_STAT_TRIMOK : Fld := ⟨0x10001, 12, 1⟩
/-- CLK.STAT[SWBUSY], R132. -/
def F.CLK_STAT_SWBUSY : Fld := ⟨0x10001, 11, 1⟩
/-- CLK.STAT[REFACT], R132. -/
def F.CLK_STAT_REFACT : Fld := ⟨0x10001, 10, 1⟩
/-- CLK.STAT[PLLBLK], R132. -/
def F.CLK_STAT_PLLBLK : Fld := ⟨0x10001, 9, 1⟩
/-- CLK.STAT[PLLALK], R132. -/
def F.CLK_STAT_PLLALK : Fld := ⟨0x10001, 8, 1⟩
/-- CLK.STAT[HDIV], R132. -/
def F.CLK_STAT_HDIV : Fld := ⟨0x10001, 6, 2⟩
/-- CLK.STAT[HSTD], R132. -/
def F.CLK_STAT_HSTD : Fld := ⟨0x10001, 3, 1⟩
/-- CLK.STAT[SRDY], R132. -/
def F.CLK_STAT_SRDY : Fld := ⟨0x10001, 2, 1⟩
/-- CLK.STAT[RRDY], R132. -/
def F.CLK_STAT_RRDY : Fld := ⟨0x10001, 1, 1⟩
/-- CLK.STAT[HRDY], R132. -/
def F.CLK_STAT_HRDY : Fld := ⟨0x10001, 0, 1⟩
/-- The address of CLK.STAT. -/
def F.CLK_STAT : Nat := 0x10001
/-- CLK.TRIM[ERR], R133. -/
def F.CLK_TRIM_ERR : Fld := ⟨0x10002, 32, 16⟩
/-- CLK.TRIM[FUSE], R133. -/
def F.CLK_TRIM_FUSE : Fld := ⟨0x10002, 12, 12⟩
/-- CLK.TRIM[CODE], R133. -/
def F.CLK_TRIM_CODE : Fld := ⟨0x10002, 0, 12⟩
/-- The address of CLK.TRIM. -/
def F.CLK_TRIM : Nat := 0x10002
/-- CLK.SWSTAT[SWCNT], R134. -/
def F.CLK_SWSTAT_SWCNT : Fld := ⟨0x10003, 8, 8⟩
/-- CLK.SWSTAT[SWITCHED], R134. -/
def F.CLK_SWSTAT_SWITCHED : Fld := ⟨0x10003, 3, 1⟩
/-- CLK.SWSTAT[CLKSW_FORCED], R134. -/
def F.CLK_SWSTAT_CLKSW_FORCED : Fld := ⟨0x10003, 2, 1⟩
/-- CLK.SWSTAT[RLOSS], R134. -/
def F.CLK_SWSTAT_RLOSS : Fld := ⟨0x10003, 1, 1⟩
/-- CLK.SWSTAT[HLOSS], R134. -/
def F.CLK_SWSTAT_HLOSS : Fld := ⟨0x10003, 0, 1⟩
/-- The address of CLK.SWSTAT. -/
def F.CLK_SWSTAT : Nat := 0x10003
/-- CLK.HOLD[COUNT], R135. -/
def F.CLK_HOLD_COUNT : Fld := ⟨0x10004, 24, 8⟩
/-- CLK.HOLD[DUR], R135. -/
def F.CLK_HOLD_DUR : Fld := ⟨0x10004, 8, 16⟩
/-- CLK.HOLD[CAUSE], R135. -/
def F.CLK_HOLD_CAUSE : Fld := ⟨0x10004, 1, 4⟩
/-- CLK.HOLD[NEW], R135. -/
def F.CLK_HOLD_NEW : Fld := ⟨0x10004, 0, 1⟩
/-- The address of CLK.HOLD. -/
def F.CLK_HOLD : Nat := 0x10004
/-- CLK.RSTLOG[RESETOP], R136. -/
def F.CLK_RSTLOG_RESETOP : Fld := ⟨0x10005, 7, 1⟩
/-- CLK.RSTLOG[CELLARWD], R136. -/
def F.CLK_RSTLOG_CELLARWD : Fld := ⟨0x10005, 6, 1⟩
/-- CLK.RSTLOG[HRST], R136. -/
def F.CLK_RSTLOG_HRST : Fld := ⟨0x10005, 5, 1⟩
/-- CLK.RSTLOG[CLKHOLD], R136. -/
def F.CLK_RSTLOG_CLKHOLD : Fld := ⟨0x10005, 4, 1⟩
/-- CLK.RSTLOG[PORSTPIN], R136. -/
def F.CLK_RSTLOG_PORSTPIN : Fld := ⟨0x10005, 3, 1⟩
/-- CLK.RSTLOG[VCOREMON], R136. -/
def F.CLK_RSTLOG_VCOREMON : Fld := ⟨0x10005, 2, 1⟩
/-- CLK.RSTLOG[VSAFEMON], R136. -/
def F.CLK_RSTLOG_VSAFEMON : Fld := ⟨0x10005, 1, 1⟩
/-- CLK.RSTLOG[POWERON], R136. -/
def F.CLK_RSTLOG_POWERON : Fld := ⟨0x10005, 0, 1⟩
/-- The address of CLK.RSTLOG. -/
def F.CLK_RSTLOG : Nat := 0x10005

/-- Words of the Clk region, part 0. -/
def wordsClk0 : List WordDef := [
  ⟨"CLK.CFG", 0x10000, [], [fd 23 1 .rw 0x0, fd 22 1 .rw 0x0, fd 20 1 .rw 0x0, fd 0 18 .rw 0x0 .cfg (.clampNz 25000 200000)]⟩,
  ⟨"CLK.STAT", 0x10001, [], [fd 15 1 .ro 0x0, fd 13 2 .ro 0x0, fd 12 1 .ro 0x0, fd 11 1 .ro 0x0, fd 10 1 .ro 0x0, fd 9 1 .ro 0x0, fd 8 1 .ro 0x0, fd 6 2 .ro 0x0, fd 3 1 .ro 0x0, fd 2 1 .ro 0x0, fd 1 1 .ro 0x0, fd 0 1 .ro 0x0]⟩,
  ⟨"CLK.TRIM", 0x10002, [], [fd 32 16 .ro 0x0, fd 12 12 .ro 0x7a3, fd 0 12 .ro 0x7a3]⟩,
  ⟨"CLK.SWSTAT", 0x10003, [], [fd 8 8 .rc 0x0, fd 3 1 .w1c 0x0, fd 2 1 .w1c 0x0, fd 1 1 .w1c 0x0, fd 0 1 .w1c 0x0]⟩,
  ⟨"CLK.HOLD", 0x10004, [], [fd 24 8 .ro 0x0, fd 8 16 .ro 0x0, fd 1 4 .ro 0x0, fd 0 1 .w1c 0x0]⟩,
  ⟨"CLK.RSTLOG", 0x10005, [], [fd 7 1 .ro 0x0, fd 6 1 .ro 0x0, fd 5 1 .ro 0x0, fd 4 1 .ro 0x0, fd 3 1 .ro 0x0, fd 2 1 .ro 0x0, fd 1 1 .ro 0x0, fd 0 1 .ro 0x1]⟩]

/-- The Clk region, its words. -/
def wordsClk : List WordDef := wordsClk0

/-! ### The Nwt region -/

/-- NWT.NOW[NOW], R138. -/
def F.NWT_NOW_NOW : Fld := ⟨0x20000, 0, 48⟩
/-- The address of NWT.NOW. -/
def F.NWT_NOW : Nat := 0x20000
/-- NWT.CFG[MADDR], R141. -/
def F.NWT_CFG_MADDR : Fld := ⟨0x20001, 38, 10⟩
/-- NWT.CFG[SYNCINT], R141. -/
def F.NWT_CFG_SYNCINT : Fld := ⟨0x20001, 28, 10⟩
/-- NWT.CFG[PDLY], R141. -/
def F.NWT_CFG_PDLY : Fld := ⟨0x20001, 12, 16⟩
/-- NWT.CFG[FSLEW], R141. -/
def F.NWT_CFG_FSLEW : Fld := ⟨0x20001, 8, 4⟩
/-- NWT.CFG[UPPU], R141. -/
def F.NWT_CFG_UPPU : Fld := ⟨0x20001, 5, 1⟩
/-- NWT.CFG[DNPU], R141. -/
def F.NWT_CFG_DNPU : Fld := ⟨0x20001, 2, 2⟩
/-- NWT.CFG[ROLE], R141. -/
def F.NWT_CFG_ROLE : Fld := ⟨0x20001, 0, 2⟩
/-- The address of NWT.CFG. -/
def F.NWT_CFG : Nat := 0x20001
/-- NWT.SERVO[LOCKTHR], R145. -/
def F.NWT_SERVO_LOCKTHR : Fld := ⟨0x20002, 40, 8⟩
/-- NWT.SERVO[STEPTHR], R145. -/
def F.NWT_SERVO_STEPTHR : Fld := ⟨0x20002, 32, 8⟩
/-- NWT.SERVO[KP], R145. -/
def F.NWT_SERVO_KP : Fld := ⟨0x20002, 16, 16⟩
/-- NWT.SERVO[KI], R145. -/
def F.NWT_SERVO_KI : Fld := ⟨0x20002, 0, 16⟩
/-- The address of NWT.SERVO. -/
def F.NWT_SERVO : Nat := 0x20002
/-- NWT.STAT[FOFS], R151. -/
def F.NWT_STAT_FOFS : Fld := ⟨0x20003, 24, 24⟩
/-- NWT.STAT[DROPS], R151. -/
def F.NWT_STAT_DROPS : Fld := ⟨0x20003, 8, 8⟩
/-- NWT.STAT[STEPPED], R151. -/
def F.NWT_STAT_STEPPED : Fld := ⟨0x20003, 7, 1⟩
/-- NWT.STAT[LOCKLOST], R151. -/
def F.NWT_STAT_LOCKLOST : Fld := ⟨0x20003, 6, 1⟩
/-- NWT.STAT[LOCKGAIN], R151. -/
def F.NWT_STAT_LOCKGAIN : Fld := ⟨0x20003, 5, 1⟩
/-- NWT.STAT[FALIGNED], R151. -/
def F.NWT_STAT_FALIGNED : Fld := ⟨0x20003, 4, 1⟩
/-- NWT.STAT[SLEWING], R151. -/
def F.NWT_STAT_SLEWING : Fld := ⟨0x20003, 3, 1⟩
/-- NWT.STAT[SRV], R151. -/
def F.NWT_STAT_SRV : Fld := ⟨0x20003, 0, 2⟩
/-- The address of NWT.STAT. -/
def F.NWT_STAT : Nat := 0x20003
/-- NWT.OFFS[OFFSET], R151. -/
def F.NWT_OFFS_OFFSET : Fld := ⟨0x20004, 20, 28⟩
/-- NWT.OFFS[RATE], R151. -/
def F.NWT_OFFS_RATE : Fld := ⟨0x20004, 0, 20⟩
/-- The address of NWT.OFFS. -/
def F.NWT_OFFS : Nat := 0x20004
/-- NWT.NCn.TGT[TGT], R154. -/
def F.NWT_NCn_TGT_TGT (i : Nat) : Fld := ⟨0x20010 + 2 * i, 0, 48⟩
/-- The address of NWT.NCn.TGT. -/
def F.NWT_NCn_TGT (i : Nat) : Nat := 0x20010 + 2 * i
/-- NWT.NCn.CTL[PERIOD], R154. -/
def F.NWT_NCn_CTL_PERIOD (i : Nat) : Fld := ⟨0x20011 + 2 * i, 24, 24⟩
/-- NWT.NCn.CTL[MISSED], R154. -/
def F.NWT_NCn_CTL_MISSED (i : Nat) : Fld := ⟨0x20011 + 2 * i, 16, 4⟩
/-- NWT.NCn.CTL[ARM], R154. -/
def F.NWT_NCn_CTL_ARM (i : Nat) : Fld := ⟨0x20011 + 2 * i, 15, 1⟩
/-- NWT.NCn.CTL[LATE], R154. -/
def F.NWT_NCn_CTL_LATE (i : Nat) : Fld := ⟨0x20011 + 2 * i, 14, 1⟩
/-- NWT.NCn.CTL[FIRED], R154. -/
def F.NWT_NCn_CTL_FIRED (i : Nat) : Fld := ⟨0x20011 + 2 * i, 13, 1⟩
/-- NWT.NCn.CTL[ACTION], R154. -/
def F.NWT_NCn_CTL_ACTION (i : Nat) : Fld := ⟨0x20011 + 2 * i, 10, 3⟩
/-- NWT.NCn.CTL[ARG], R154. -/
def F.NWT_NCn_CTL_ARG (i : Nat) : Fld := ⟨0x20011 + 2 * i, 0, 10⟩
/-- The address of NWT.NCn.CTL. -/
def F.NWT_NCn_CTL (i : Nat) : Nat := 0x20011 + 2 * i
/-- NWT.NCAPn.CTL[EN], R158. -/
def F.NWT_NCAPn_CTL_EN (i : Nat) : Fld := ⟨0x20040 + 2 * i, 15, 1⟩
/-- NWT.NCAPn.CTL[OVR], R158. -/
def F.NWT_NCAPn_CTL_OVR (i : Nat) : Fld := ⟨0x20040 + 2 * i, 14, 1⟩
/-- NWT.NCAPn.CTL[VALID], R158. -/
def F.NWT_NCAPn_CTL_VALID (i : Nat) : Fld := ⟨0x20040 + 2 * i, 13, 1⟩
/-- NWT.NCAPn.CTL[KEEP], R158. -/
def F.NWT_NCAPn_CTL_KEEP (i : Nat) : Fld := ⟨0x20040 + 2 * i, 12, 1⟩
/-- NWT.NCAPn.CTL[EDGE], R158. -/
def F.NWT_NCAPn_CTL_EDGE (i : Nat) : Fld := ⟨0x20040 + 2 * i, 10, 2⟩
/-- NWT.NCAPn.CTL[GATE], R158. -/
def F.NWT_NCAPn_CTL_GATE (i : Nat) : Fld := ⟨0x20040 + 2 * i, 7, 3⟩
/-- NWT.NCAPn.CTL[SRC], R158. -/
def F.NWT_NCAPn_CTL_SRC (i : Nat) : Fld := ⟨0x20040 + 2 * i, 0, 6⟩
/-- The address of NWT.NCAPn.CTL. -/
def F.NWT_NCAPn_CTL (i : Nat) : Nat := 0x20040 + 2 * i
/-- NWT.NCAPn.VAL[VAL], R158. -/
def F.NWT_NCAPn_VAL_VAL (i : Nat) : Fld := ⟨0x20041 + 2 * i, 0, 48⟩
/-- The address of NWT.NCAPn.VAL. -/
def F.NWT_NCAPn_VAL (i : Nat) : Nat := 0x20041 + 2 * i

/-- Words of the Nwt region, part 0. -/
def wordsNwt0 : List WordDef := [
  ⟨"NWT.NOW", 0x20000, [], [fd 0 48 .ro 0x0]⟩,
  ⟨"NWT.CFG", 0x20001, [], [fd 38 10 .rw 0x0 .cfg, fd 28 10 .rw 0x64 .cfg (.clamp 1 1000), fd 12 16 .rw 0x0 .cfg, fd 8 4 .rw 0x5 .cfg (.clamp 1 15), fd 5 1 .rw 0x0 .cfg, fd 2 2 .rw 0x0 .cfg, fd 0 2 .rw 0x0 .cfg]⟩,
  ⟨"NWT.SERVO", 0x20002, [], [fd 40 8 .rw 0x32 .cfg (.clamp 1 255), fd 32 8 .rw 0xa .cfg (.clamp 1 255), fd 16 16 .rw 0x36 .cfg, fd 0 16 .rw 0xb .cfg]⟩,
  ⟨"NWT.STAT", 0x20003, [], [fd 24 24 .ro 0x0, fd 8 8 .rc 0x0, fd 7 1 .w1c 0x0, fd 6 1 .w1c 0x0, fd 5 1 .w1c 0x0, fd 4 1 .ro 0x0, fd 3 1 .ro 0x0, fd 0 2 .ro 0x0]⟩,
  ⟨"NWT.OFFS", 0x20004, [], [fd 20 28 .ro 0x0, fd 0 20 .ro 0x0]⟩,
  ⟨"NWT.NCn.TGT", 0x20010, [(16, 0x2)], [fd 0 48 .rw 0x0]⟩,
  ⟨"NWT.NCn.CTL", 0x20011, [(16, 0x2)], [fd 24 24 .rw 0x0, fd 16 4 .rc 0x0, fd 15 1 .rw 0x0, fd 14 1 .w1c 0x0, fd 13 1 .w1c 0x0, fd 10 3 .rw 0x0, fd 0 10 .rw 0x0]⟩,
  ⟨"NWT.NCAPn.CTL", 0x20040, [(16, 0x2)], [fd 15 1 .rw 0x0, fd 14 1 .w1c 0x0, fd 13 1 .ro 0x0, fd 12 1 .rw 0x0, fd 10 2 .rw 0x1, fd 7 3 .rw 0x0, fd 0 6 .rw 0x0]⟩,
  ⟨"NWT.NCAPn.VAL", 0x20041, [(16, 0x2)], [fd 0 48 .ro 0x0]⟩]

/-- The Nwt region, its words. -/
def wordsNwt : List WordDef := wordsNwt0

/-! ### The Ang region -/

/-- AT.CFG[LSET], R164. -/
def F.AT_CFG_LSET (i : Nat) : Fld := ⟨0x30000 + 0x20 * i, 20, 4⟩
/-- AT.CFG[LEN], R164. -/
def F.AT_CFG_LEN (i : Nat) : Fld := ⟨0x30000 + 0x20 * i, 19, 1⟩
/-- AT.CFG[ALT], R164. -/
def F.AT_CFG_ALT (i : Nat) : Fld := ⟨0x30000 + 0x20 * i, 16, 3⟩
/-- AT.CFG[RATIO], R164. -/
def F.AT_CFG_RATIO (i : Nat) : Fld := ⟨0x30000 + 0x20 * i, 8, 5⟩
/-- AT.CFG[PARENT], R164. -/
def F.AT_CFG_PARENT (i : Nat) : Fld := ⟨0x30000 + 0x20 * i, 4, 3⟩
/-- AT.CFG[SRC], R164. -/
def F.AT_CFG_SRC (i : Nat) : Fld := ⟨0x30000 + 0x20 * i, 0, 3⟩
/-- The address of AT.CFG. -/
def F.AT_CFG (i : Nat) : Nat := 0x30000 + 0x20 * i
/-- AT.SRC[UNIT], R167. -/
def F.AT_SRC_UNIT (i : Nat) : Fld := ⟨0x30001 + 0x20 * i, 47, 1⟩
/-- AT.SRC[SET], R167. -/
def F.AT_SRC_SET (i : Nat) : Fld := ⟨0x30001 + 0x20 * i, 40, 4⟩
/-- AT.SRC[P1], R167. -/
def F.AT_SRC_P1 (i : Nat) : Fld := ⟨0x30001 + 0x20 * i, 24, 16⟩
/-- AT.SRC[P2], R167. -/
def F.AT_SRC_P2 (i : Nat) : Fld := ⟨0x30001 + 0x20 * i, 16, 8⟩
/-- AT.SRC[P3], R167. -/
def F.AT_SRC_P3 (i : Nat) : Fld := ⟨0x30001 + 0x20 * i, 8, 1⟩
/-- AT.SRC[TMO], R167. -/
def F.AT_SRC_TMO (i : Nat) : Fld := ⟨0x30001 + 0x20 * i, 0, 8⟩
/-- The address of AT.SRC. -/
def F.AT_SRC (i : Nat) : Nat := 0x30001 + 0x20 * i
/-- AT.LOOP[FMAX], R170. -/
def F.AT_LOOP_FMAX (i : Nat) : Fld := ⟨0x30002 + 0x20 * i, 32, 16⟩
/-- AT.LOOP[HOLD], R170. -/
def F.AT_LOOP_HOLD (i : Nat) : Fld := ⟨0x30002 + 0x20 * i, 24, 8⟩
/-- AT.LOOP[SW], R170. -/
def F.AT_LOOP_SW (i : Nat) : Fld := ⟨0x30002 + 0x20 * i, 16, 6⟩
/-- AT.LOOP[SA], R170. -/
def F.AT_LOOP_SA (i : Nat) : Fld := ⟨0x30002 + 0x20 * i, 8, 6⟩
/-- The address of AT.LOOP. -/
def F.AT_LOOP (i : Nat) : Nat := 0x30002 + 0x20 * i
/-- AT.OFFS[OFFS], R176. -/
def F.AT_OFFS_OFFS (i : Nat) : Fld := ⟨0x30003 + 0x20 * i, 0, 48⟩
/-- The address of AT.OFFS. -/
def F.AT_OFFS (i : Nat) : Nat := 0x30003 + 0x20 * i
/-- AT.ANG[ANG], R176. -/
def F.AT_ANG_ANG (i : Nat) : Fld := ⟨0x30004 + 0x20 * i, 0, 48⟩
/-- The address of AT.ANG. -/
def F.AT_ANG (i : Nat) : Nat := 0x30004 + 0x20 * i
/-- AT.SPD[SPD], R176. -/
def F.AT_SPD_SPD (i : Nat) : Fld := ⟨0x30005 + 0x20 * i, 0, 48⟩
/-- The address of AT.SPD. -/
def F.AT_SPD (i : Nat) : Nat := 0x30005 + 0x20 * i
/-- AT.SANG[SANG], R176. -/
def F.AT_SANG_SANG (i : Nat) : Fld := ⟨0x30006 + 0x20 * i, 0, 48⟩
/-- The address of AT.SANG. -/
def F.AT_SANG (i : Nat) : Nat := 0x30006 + 0x20 * i
/-- AT.SSPD[SSPD], R176. -/
def F.AT_SSPD_SSPD (i : Nat) : Fld := ⟨0x30007 + 0x20 * i, 0, 48⟩
/-- The address of AT.SSPD. -/
def F.AT_SSPD (i : Nat) : Nat := 0x30007 + 0x20 * i
/-- AT.MEAS[MEAS], R176. -/
def F.AT_MEAS_MEAS (i : Nat) : Fld := ⟨0x30008 + 0x20 * i, 0, 48⟩
/-- The address of AT.MEAS. -/
def F.AT_MEAS (i : Nat) : Nat := 0x30008 + 0x20 * i
/-- AT.STAT[WIN], R175. -/
def F.AT_STAT_WIN (i : Nat) : Fld := ⟨0x30009 + 0x20 * i, 16, 4⟩
/-- AT.STAT[VALID], R175. -/
def F.AT_STAT_VALID (i : Nat) : Fld := ⟨0x30009 + 0x20 * i, 15, 1⟩
/-- AT.STAT[ALTACT], R175. -/
def F.AT_STAT_ALTACT (i : Nat) : Fld := ⟨0x30009 + 0x20 * i, 14, 1⟩
/-- AT.STAT[DIR], R175. -/
def F.AT_STAT_DIR (i : Nat) : Fld := ⟨0x30009 + 0x20 * i, 13, 1⟩
/-- AT.STAT[HOMED], R175. -/
def F.AT_STAT_HOMED (i : Nat) : Fld := ⟨0x30009 + 0x20 * i, 12, 1⟩
/-- AT.STAT[SECTOR], R175. -/
def F.AT_STAT_SECTOR (i : Nat) : Fld := ⟨0x30009 + 0x20 * i, 8, 4⟩
/-- AT.STAT[JUMP], R175. -/
def F.AT_STAT_JUMP (i : Nat) : Fld := ⟨0x30009 + 0x20 * i, 6, 1⟩
/-- AT.STAT[IDXERR], R175. -/
def F.AT_STAT_IDXERR (i : Nat) : Fld := ⟨0x30009 + 0x20 * i, 5, 1⟩
/-- AT.STAT[OVSPD], R175. -/
def F.AT_STAT_OVSPD (i : Nat) : Fld := ⟨0x30009 + 0x20 * i, 4, 1⟩
/-- AT.STAT[HOLDEXP], R175. -/
def F.AT_STAT_HOLDEXP (i : Nat) : Fld := ⟨0x30009 + 0x20 * i, 3, 1⟩
/-- AT.STAT[SRCFLT], R175. -/
def F.AT_STAT_SRCFLT (i : Nat) : Fld := ⟨0x30009 + 0x20 * i, 2, 1⟩
/-- The address of AT.STAT. -/
def F.AT_STAT (i : Nat) : Nat := 0x30009 + 0x20 * i
/-- AT.WIN.LO[LO], R176. -/
def F.AT_WIN_LO_LO (i j : Nat) : Fld := ⟨0x30010 + 0x20 * i + 2 * j, 0, 48⟩
/-- The address of AT.WIN.LO. -/
def F.AT_WIN_LO (i j : Nat) : Nat := 0x30010 + 0x20 * i + 2 * j
/-- AT.WIN.HI[HI], R176. -/
def F.AT_WIN_HI_HI (i j : Nat) : Fld := ⟨0x30011 + 0x20 * i + 2 * j, 0, 48⟩
/-- The address of AT.WIN.HI. -/
def F.AT_WIN_HI (i j : Nat) : Nat := 0x30011 + 0x20 * i + 2 * j
/-- KT.CTL[EN], R188. -/
def F.KT_CTL_EN (i : Nat) : Fld := ⟨0x30400 + 0x20 * i, 15, 1⟩
/-- KT.CTL[GA], R188. -/
def F.KT_CTL_GA (i : Nat) : Fld := ⟨0x30400 + 0x20 * i, 12, 3⟩
/-- KT.CTL[GB], R188. -/
def F.KT_CTL_GB (i : Nat) : Fld := ⟨0x30400 + 0x20 * i, 9, 3⟩
/-- KT.CTL[ORGMAX], R188. -/
def F.KT_CTL_ORGMAX (i : Nat) : Fld := ⟨0x30400 + 0x20 * i, 4, 4⟩
/-- The address of KT.CTL. -/
def F.KT_CTL (i : Nat) : Nat := 0x30400 + 0x20 * i
/-- KT.ORG[ORG], R189. -/
def F.KT_ORG_ORG (i : Nat) : Fld := ⟨0x30401 + 0x20 * i, 0, 48⟩
/-- The address of KT.ORG. -/
def F.KT_ORG (i : Nat) : Nat := 0x30401 + 0x20 * i
/-- KT.NORG[NORG], R189. -/
def F.KT_NORG_NORG (i : Nat) : Fld := ⟨0x30402 + 0x20 * i, 0, 48⟩
/-- The address of KT.NORG. -/
def F.KT_NORG (i : Nat) : Nat := 0x30402 + 0x20 * i
/-- KT.NSEL[ENG], R189. -/
def F.KT_NSEL_ENG (i : Nat) : Fld := ⟨0x30403 + 0x20 * i, 7, 1⟩
/-- KT.NSEL[PAT], R189. -/
def F.KT_NSEL_PAT (i : Nat) : Fld := ⟨0x30403 + 0x20 * i, 0, 3⟩
/-- The address of KT.NSEL. -/
def F.KT_NSEL (i : Nat) : Nat := 0x30403 + 0x20 * i
/-- KT.COMMIT[PENDING], R189. -/
def F.KT_COMMIT_PENDING (i : Nat) : Fld := ⟨0x30404 + 0x20 * i, 0, 1⟩
/-- The address of KT.COMMIT. -/
def F.KT_COMMIT (i : Nat) : Nat := 0x30404 + 0x20 * i
/-- KT.STAT[LATECNT], R189. -/
def F.KT_STAT_LATECNT (i : Nat) : Fld := ⟨0x30405 + 0x20 * i, 24, 8⟩
/-- KT.STAT[CURPAT], R189. -/
def F.KT_STAT_CURPAT (i : Nat) : Fld := ⟨0x30405 + 0x20 * i, 13, 3⟩
/-- KT.STAT[ENGD], R189. -/
def F.KT_STAT_ENGD (i : Nat) : Fld := ⟨0x30405 + 0x20 * i, 12, 1⟩
/-- KT.STAT[SEG], R189. -/
def F.KT_STAT_SEG (i : Nat) : Fld := ⟨0x30405 + 0x20 * i, 9, 3⟩
/-- KT.STAT[NOBND], R189. -/
def F.KT_STAT_NOBND (i : Nat) : Fld := ⟨0x30405 + 0x20 * i, 5, 1⟩
/-- KT.STAT[ORGCLAMP], R189. -/
def F.KT_STAT_ORGCLAMP (i : Nat) : Fld := ⟨0x30405 + 0x20 * i, 4, 1⟩
/-- KT.STAT[ORDER], R189. -/
def F.KT_STAT_ORDER (i : Nat) : Fld := ⟨0x30405 + 0x20 * i, 3, 1⟩
/-- KT.STAT[LATE], R189. -/
def F.KT_STAT_LATE (i : Nat) : Fld := ⟨0x30405 + 0x20 * i, 2, 1⟩
/-- KT.STAT[COMMIT_LATE], R189. -/
def F.KT_STAT_COMMIT_LATE (i : Nat) : Fld := ⟨0x30405 + 0x20 * i, 1, 1⟩
/-- KT.STAT[SWITCHED], R189. -/
def F.KT_STAT_SWITCHED (i : Nat) : Fld := ⟨0x30405 + 0x20 * i, 0, 1⟩
/-- The address of KT.STAT. -/
def F.KT_STAT (i : Nat) : Nat := 0x30405 + 0x20 * i
/-- KT.PAT[NSEG], R182. -/
def F.KT_PAT_NSEG (i j : Nat) : Fld := ⟨0x30408 + 0x20 * i + 1 * j, 19, 3⟩
/-- KT.PAT[COUNT], R182. -/
def F.KT_PAT_COUNT (i j : Nat) : Fld := ⟨0x30408 + 0x20 * i + 1 * j, 9, 10⟩
/-- KT.PAT[FIRST], R182. -/
def F.KT_PAT_FIRST (i j : Nat) : Fld := ⟨0x30408 + 0x20 * i + 1 * j, 0, 9⟩
/-- The address of KT.PAT. -/
def F.KT_PAT (i j : Nat) : Nat := 0x30408 + 0x20 * i + 1 * j
/-- KT.E.ANG[ANG], R178. -/
def F.KT_E_ANG_ANG (i j : Nat) : Fld := ⟨0x31000 + 0x400 * i + 2 * j, 0, 48⟩
/-- The address of KT.E.ANG. -/
def F.KT_E_ANG (i j : Nat) : Nat := 0x31000 + 0x400 * i + 2 * j
/-- KT.E.ACT[WEN], R178. -/
def F.KT_E_ACT_WEN (i j : Nat) : Fld := ⟨0x31001 + 0x400 * i + 2 * j, 47, 1⟩
/-- KT.E.ACT[WIN], R178. -/
def F.KT_E_ACT_WIN (i j : Nat) : Fld := ⟨0x31001 + 0x400 * i + 2 * j, 45, 2⟩
/-- KT.E.ACT[GSEL], R178. -/
def F.KT_E_ACT_GSEL (i j : Nat) : Fld := ⟨0x31001 + 0x400 * i + 2 * j, 44, 1⟩
/-- KT.E.ACT[TKIND], R178. -/
def F.KT_E_ACT_TKIND (i j : Nat) : Fld := ⟨0x31001 + 0x400 * i + 2 * j, 40, 4⟩
/-- KT.E.ACT[TARG], R178. -/
def F.KT_E_ACT_TARG (i j : Nat) : Fld := ⟨0x31001 + 0x400 * i + 2 * j, 32, 8⟩
/-- KT.E.ACT[TFWD], R178. -/
def F.KT_E_ACT_TFWD (i j : Nat) : Fld := ⟨0x31001 + 0x400 * i + 2 * j, 31, 1⟩
/-- KT.E.ACT[TREV], R178. -/
def F.KT_E_ACT_TREV (i j : Nat) : Fld := ⟨0x31001 + 0x400 * i + 2 * j, 30, 1⟩
/-- KT.E.ACT[FST], R178. -/
def F.KT_E_ACT_FST (i j : Nat) : Fld := ⟨0x31001 + 0x400 * i + 2 * j, 6, 6⟩
/-- KT.E.ACT[RST], R178. -/
def F.KT_E_ACT_RST (i j : Nat) : Fld := ⟨0x31001 + 0x400 * i + 2 * j, 0, 6⟩
/-- The address of KT.E.ACT. -/
def F.KT_E_ACT (i j : Nat) : Nat := 0x31001 + 0x400 * i + 2 * j

/-- Words of the Ang region, part 0. -/
def wordsAng0 : List WordDef := [
  ⟨"AT.CFG", 0x30000, [(6, 0x20)], [fd 20 4 .rw 0x0 .cfg, fd 19 1 .rw 0x0 .cfg, fd 16 3 .rw 0x0 .cfg, fd 8 5 .rw 0x1 .cfg (.clamp 1 31), fd 4 3 .rw 0x0 .cfg, fd 0 3 .rw 0x0 .cfg]⟩,
  ⟨"AT.SRC", 0x30001, [(6, 0x20)], [fd 47 1 .rw 0x0 .cfg, fd 40 4 .rw 0x0 .cfg, fd 24 16 .rw 0x0 .cfg, fd 16 8 .rw 0x32 .cfg, fd 8 1 .rw 0x0 .cfg, fd 0 8 .rw 0x64 .cfg (.clamp 1 255)]⟩,
  ⟨"AT.LOOP", 0x30002, [(6, 0x20)], [fd 32 16 .rw 0x7d0 .cs (.clamp 1 65535), fd 24 8 .rw 0xa .cs, fd 16 6 .rw 0x14 .cs (.clamp 0 47), fd 8 6 .rw 0x3 .cs (.clamp 0 47)]⟩,
  ⟨"AT.OFFS", 0x30003, [(6, 0x20)], [fd 0 48 .rw 0x0 .cs]⟩,
  ⟨"AT.ANG", 0x30004, [(6, 0x20)], [fd 0 48 .ro 0x0]⟩,
  ⟨"AT.SPD", 0x30005, [(6, 0x20)], [fd 0 48 .ro 0x0]⟩,
  ⟨"AT.SANG", 0x30006, [(6, 0x20)], [fd 0 48 .ro 0x0]⟩,
  ⟨"AT.SSPD", 0x30007, [(6, 0x20)], [fd 0 48 .ro 0x0]⟩,
  ⟨"AT.MEAS", 0x30008, [(6, 0x20)], [fd 0 48 .rw 0x0]⟩,
  ⟨"AT.STAT", 0x30009, [(6, 0x20)], [fd 16 4 .ro 0x0, fd 15 1 .ro 0x0, fd 14 1 .ro 0x0, fd 13 1 .ro 0x0, fd 12 1 .ro 0x0, fd 8 4 .ro 0x0, fd 6 1 .w1c 0x0, fd 5 1 .w1c 0x0, fd 4 1 .w1c 0x0, fd 3 1 .w1c 0x0, fd 2 1 .w1c 0x0]⟩,
  ⟨"AT.WIN.LO", 0x30010, [(6, 0x20), (4, 0x2)], [fd 0 48 .rw 0x0]⟩,
  ⟨"AT.WIN.HI", 0x30011, [(6, 0x20), (4, 0x2)], [fd 0 48 .rw 0x0]⟩]

/-- Words of the Ang region, part 1. -/
def wordsAng1 : List WordDef := [
  ⟨"KT.CTL", 0x30400, [(6, 0x20)], [fd 15 1 .rw 0x0 .cs, fd 12 3 .rw 0x7 .cs, fd 9 3 .rw 0x7 .cs, fd 4 4 .rw 0x0 .cs]⟩,
  ⟨"KT.ORG", 0x30401, [(6, 0x20)], [fd 0 48 .ro 0x0]⟩,
  ⟨"KT.NORG", 0x30402, [(6, 0x20)], [fd 0 48 .rw 0x0]⟩,
  ⟨"KT.NSEL", 0x30403, [(6, 0x20)], [fd 7 1 .rw 0x0, fd 0 3 .rw 0x0]⟩,
  ⟨"KT.COMMIT", 0x30404, [(6, 0x20)], [fd 0 1 .ro 0x0]⟩,
  ⟨"KT.STAT", 0x30405, [(6, 0x20)], [fd 24 8 .rc 0x0, fd 13 3 .ro 0x0, fd 12 1 .ro 0x0, fd 9 3 .ro 0x0, fd 5 1 .w1c 0x0, fd 4 1 .w1c 0x0, fd 3 1 .w1c 0x0, fd 2 1 .w1c 0x0, fd 1 1 .w1c 0x0, fd 0 1 .w1c 0x0]⟩,
  ⟨"KT.PAT", 0x30408, [(6, 0x20), (8, 0x1)], [fd 19 3 .rw 0x0, fd 9 10 .rw 0x0, fd 0 9 .rw 0x0]⟩,
  ⟨"KT.E.ANG", 0x31000, [(6, 0x400), (512, 0x2)], [fd 0 48 .rw 0x0]⟩,
  ⟨"KT.E.ACT", 0x31001, [(6, 0x400), (512, 0x2)], [fd 47 1 .rw 0x0, fd 45 2 .rw 0x0, fd 44 1 .rw 0x0, fd 40 4 .rw 0x0, fd 32 8 .rw 0x0, fd 31 1 .rw 0x0, fd 30 1 .rw 0x0, fd 6 6 .rw 0x3f, fd 0 6 .rw 0x3f]⟩]

/-- The Ang region, its words. -/
def wordsAng : List WordDef := wordsAng0 ++ wordsAng1

/-! ### The Adc region -/

/-- ADC.CFG[REFAUTO], R233. -/
def F.ADC_CFG_REFAUTO : Fld := ⟨0x40000, 5, 1⟩
/-- ADC.CFG[REFOUTEN], R233. -/
def F.ADC_CFG_REFOUTEN : Fld := ⟨0x40000, 4, 1⟩
/-- ADC.CFG[REFSEL], R233. -/
def F.ADC_CFG_REFSEL : Fld := ⟨0x40000, 0, 2⟩
/-- The address of ADC.CFG. -/
def F.ADC_CFG : Nat := 0x40000
/-- ADC.STAT[REF_SETTLED], R233. -/
def F.ADC_STAT_REF_SETTLED : Fld := ⟨0x40001, 15, 1⟩
/-- ADC.STAT[REFACT], R233. -/
def F.ADC_STAT_REFACT : Fld := ⟨0x40001, 12, 2⟩
/-- ADC.STAT[REFPOK], R233. -/
def F.ADC_STAT_REFPOK : Fld := ⟨0x40001, 2, 1⟩
/-- ADC.STAT[REFFB], R233. -/
def F.ADC_STAT_REFFB : Fld := ⟨0x40001, 1, 1⟩
/-- ADC.STAT[REFFLT], R233. -/
def F.ADC_STAT_REFFLT : Fld := ⟨0x40001, 0, 1⟩
/-- The address of ADC.STAT. -/
def F.ADC_STAT : Nat := 0x40001
/-- ADC.SWTRG[TRG], R203. -/
def F.ADC_SWTRG_TRG : Fld := ⟨0x40002, 0, 16⟩
/-- The address of ADC.SWTRG. -/
def F.ADC_SWTRG : Nat := 0x40002
/-- ADC.CALCFG[EN], R215. -/
def F.ADC_CALCFG_EN : Fld := ⟨0x40003, 40, 1⟩
/-- ADC.CALCFG[TOL], R215. -/
def F.ADC_CALCFG_TOL : Fld := ⟨0x40003, 32, 8⟩
/-- ADC.CALCFG[NCMP], R215. -/
def F.ADC_CALCFG_NCMP : Fld := ⟨0x40003, 24, 8⟩
/-- ADC.CALCFG[NFAIL], R215. -/
def F.ADC_CALCFG_NFAIL : Fld := ⟨0x40003, 16, 8⟩
/-- ADC.CALCFG[PERIOD], R215. -/
def F.ADC_CALCFG_PERIOD : Fld := ⟨0x40003, 0, 16⟩
/-- The address of ADC.CALCFG. -/
def F.ADC_CALCFG : Nat := 0x40003
/-- ADC.CAL[CALSKIP], R226. -/
def F.ADC_CAL_CALSKIP (i : Nat) : Fld := ⟨0x40004 + 1 * i, 32, 8⟩
/-- ADC.CAL[MISSES], R226. -/
def F.ADC_CAL_MISSES (i : Nat) : Fld := ⟨0x40004 + 1 * i, 24, 8⟩
/-- ADC.CAL[CUR], R226. -/
def F.ADC_CAL_CUR (i : Nat) : Fld := ⟨0x40004 + 1 * i, 16, 4⟩
/-- ADC.CAL[HALT], R226. -/
def F.ADC_CAL_HALT (i : Nat) : Fld := ⟨0x40004 + 1 * i, 15, 1⟩
/-- ADC.CAL[PHASE], R226. -/
def F.ADC_CAL_PHASE (i : Nat) : Fld := ⟨0x40004 + 1 * i, 0, 4⟩
/-- The address of ADC.CAL. -/
def F.ADC_CAL (i : Nat) : Nat := 0x40004 + 1 * i
/-- ADC.EXC[PHASE], R207. -/
def F.ADC_EXC_PHASE (i : Nat) : Fld := ⟨0x40006 + 1 * i, 8, 8⟩
/-- ADC.EXC[AMP], R207. -/
def F.ADC_EXC_AMP (i : Nat) : Fld := ⟨0x40006 + 1 * i, 0, 4⟩
/-- The address of ADC.EXC. -/
def F.ADC_EXC (i : Nat) : Nat := 0x40006 + 1 * i
/-- ADC.C.STAT[GAIN], R224. -/
def F.ADC_C_STAT_GAIN (i : Nat) : Fld := ⟨0x40010 + 1 * i, 32, 16⟩
/-- ADC.C.STAT[OFFS], R224. -/
def F.ADC_C_STAT_OFFS (i : Nat) : Fld := ⟨0x40010 + 1 * i, 16, 16⟩
/-- ADC.C.STAT[CALCNT], R224. -/
def F.ADC_C_STAT_CALCNT (i : Nat) : Fld := ⟨0x40010 + 1 * i, 8, 8⟩
/-- ADC.C.STAT[STATE], R224. -/
def F.ADC_C_STAT_STATE (i : Nat) : Fld := ⟨0x40010 + 1 * i, 0, 4⟩
/-- The address of ADC.C.STAT. -/
def F.ADC_C_STAT (i : Nat) : Nat := 0x40010 + 1 * i
/-- ADC.CS.STAT[GAIN], R224. -/
def F.ADC_CS_STAT_GAIN (i : Nat) : Fld := ⟨0x40020 + 1 * i, 32, 16⟩
/-- ADC.CS.STAT[OFFS], R224. -/
def F.ADC_CS_STAT_OFFS (i : Nat) : Fld := ⟨0x40020 + 1 * i, 16, 16⟩
/-- ADC.CS.STAT[CALCNT], R224. -/
def F.ADC_CS_STAT_CALCNT (i : Nat) : Fld := ⟨0x40020 + 1 * i, 8, 8⟩
/-- ADC.CS.STAT[STATE], R224. -/
def F.ADC_CS_STAT_STATE (i : Nat) : Fld := ⟨0x40020 + 1 * i, 0, 4⟩
/-- The address of ADC.CS.STAT. -/
def F.ADC_CS_STAT (i : Nat) : Nat := 0x40020 + 1 * i
/-- ADC.SET.CFG[EN], R200. -/
def F.ADC_SET_CFG_EN (i : Nat) : Fld := ⟨0x40100 + 0x40 * i, 47, 1⟩
/-- ADC.SET.CFG[ALIGN], R200. -/
def F.ADC_SET_CFG_ALIGN (i : Nat) : Fld := ⟨0x40100 + 0x40 * i, 46, 1⟩
/-- ADC.SET.CFG[DLY], R200. -/
def F.ADC_SET_CFG_DLY (i : Nat) : Fld := ⟨0x40100 + 0x40 * i, 32, 8⟩
/-- ADC.SET.CFG[ACQ], R200. -/
def F.ADC_SET_CFG_ACQ (i : Nat) : Fld := ⟨0x40100 + 0x40 * i, 24, 8⟩
/-- ADC.SET.CFG[PGEN], R200. -/
def F.ADC_SET_CFG_PGEN (i : Nat) : Fld := ⟨0x40100 + 0x40 * i, 23, 1⟩
/-- ADC.SET.CFG[PG], R200. -/
def F.ADC_SET_CFG_PG (i : Nat) : Fld := ⟨0x40100 + 0x40 * i, 16, 6⟩
/-- ADC.SET.CFG[CHS], R200. -/
def F.ADC_SET_CFG_CHS (i : Nat) : Fld := ⟨0x40100 + 0x40 * i, 12, 4⟩
/-- ADC.SET.CFG[TRG], R200. -/
def F.ADC_SET_CFG_TRG (i : Nat) : Fld := ⟨0x40100 + 0x40 * i, 0, 6⟩
/-- The address of ADC.SET.CFG. -/
def F.ADC_SET_CFG (i : Nat) : Nat := 0x40100 + 0x40 * i
/-- ADC.SET.STAT[TRGDROP], R210. -/
def F.ADC_SET_STAT_TRGDROP (i : Nat) : Fld := ⟨0x40101 + 0x40 * i, 32, 8⟩
/-- ADC.SET.STAT[WAITMAX], R210. -/
def F.ADC_SET_STAT_WAITMAX (i : Nat) : Fld := ⟨0x40101 + 0x40 * i, 24, 8⟩
/-- ADC.SET.STAT[SEQ], R210. -/
def F.ADC_SET_STAT_SEQ (i : Nat) : Fld := ⟨0x40101 + 0x40 * i, 8, 8⟩
/-- ADC.SET.STAT[DEFER], R210. -/
def F.ADC_SET_STAT_DEFER (i : Nat) : Fld := ⟨0x40101 + 0x40 * i, 2, 1⟩
/-- ADC.SET.STAT[BUSY], R210. -/
def F.ADC_SET_STAT_BUSY (i : Nat) : Fld := ⟨0x40101 + 0x40 * i, 1, 1⟩
/-- ADC.SET.STAT[DONE], R210. -/
def F.ADC_SET_STAT_DONE (i : Nat) : Fld := ⟨0x40101 + 0x40 * i, 0, 1⟩
/-- The address of ADC.SET.STAT. -/
def F.ADC_SET_STAT (i : Nat) : Nat := 0x40101 + 0x40 * i
/-- ADC.SET.SL[EN], R198. -/
def F.ADC_SET_SL_EN (i j : Nat) : Fld := ⟨0x40110 + 0x40 * i + 1 * j, 15, 1⟩
/-- ADC.SET.SL[RANK], R198. -/
def F.ADC_SET_SL_RANK (i j : Nat) : Fld := ⟨0x40110 + 0x40 * i + 1 * j, 13, 2⟩
/-- ADC.SET.SL[DIFF], R198. -/
def F.ADC_SET_SL_DIFF (i j : Nat) : Fld := ⟨0x40110 + 0x40 * i + 1 * j, 12, 1⟩
/-- ADC.SET.SL[CONV], R198. -/
def F.ADC_SET_SL_CONV (i j : Nat) : Fld := ⟨0x40110 + 0x40 * i + 1 * j, 6, 4⟩
/-- ADC.SET.SL[CH], R198. -/
def F.ADC_SET_SL_CH (i j : Nat) : Fld := ⟨0x40110 + 0x40 * i + 1 * j, 0, 6⟩
/-- The address of ADC.SET.SL. -/
def F.ADC_SET_SL (i j : Nat) : Nat := 0x40110 + 0x40 * i + 1 * j
/-- ADC.SET.R[STALE], R208. -/
def F.ADC_SET_R_STALE (i j : Nat) : Fld := ⟨0x40120 + 0x40 * i + 1 * j, 47, 1⟩
/-- ADC.SET.R[OVR], R208. -/
def F.ADC_SET_R_OVR (i j : Nat) : Fld := ⟨0x40120 + 0x40 * i + 1 * j, 46, 1⟩
/-- ADC.SET.R[RANGE], R208. -/
def F.ADC_SET_R_RANGE (i j : Nat) : Fld := ⟨0x40120 + 0x40 * i + 1 * j, 45, 1⟩
/-- ADC.SET.R[CAL], R208. -/
def F.ADC_SET_R_CAL (i j : Nat) : Fld := ⟨0x40120 + 0x40 * i + 1 * j, 44, 1⟩
/-- ADC.SET.R[SPARE], R208. -/
def F.ADC_SET_R_SPARE (i j : Nat) : Fld := ⟨0x40120 + 0x40 * i + 1 * j, 43, 1⟩
/-- ADC.SET.R[REFNS], R208. -/
def F.ADC_SET_R_REFNS (i j : Nat) : Fld := ⟨0x40120 + 0x40 * i + 1 * j, 42, 1⟩
/-- ADC.SET.R[SEQ], R208. -/
def F.ADC_SET_R_SEQ (i j : Nat) : Fld := ⟨0x40120 + 0x40 * i + 1 * j, 34, 8⟩
/-- ADC.SET.R[CONV], R208. -/
def F.ADC_SET_R_CONV (i j : Nat) : Fld := ⟨0x40120 + 0x40 * i + 1 * j, 30, 4⟩
/-- ADC.SET.R[CH], R208. -/
def F.ADC_SET_R_CH (i j : Nat) : Fld := ⟨0x40120 + 0x40 * i + 1 * j, 24, 6⟩
/-- ADC.SET.R[VALUE], R208. -/
def F.ADC_SET_R_VALUE (i j : Nat) : Fld := ⟨0x40120 + 0x40 * i + 1 * j, 0, 24⟩
/-- The address of ADC.SET.R. -/
def F.ADC_SET_R (i j : Nat) : Nat := 0x40120 + 0x40 * i + 1 * j
/-- ADC.CMP.THR[HI], R230. -/
def F.ADC_CMP_THR_HI (i : Nat) : Fld := ⟨0x40800 + 2 * i, 16, 10⟩
/-- ADC.CMP.THR[LO], R230. -/
def F.ADC_CMP_THR_LO (i : Nat) : Fld := ⟨0x40800 + 2 * i, 0, 10⟩
/-- The address of ADC.CMP.THR. -/
def F.ADC_CMP_THR (i : Nat) : Nat := 0x40800 + 2 * i
/-- ADC.CMP.CTL[TGRP], R231. -/
def F.ADC_CMP_CTL_TGRP (i : Nat) : Fld := ⟨0x40801 + 2 * i, 24, 3⟩
/-- ADC.CMP.CTL[HYST], R231. -/
def F.ADC_CMP_CTL_HYST (i : Nat) : Fld := ⟨0x40801 + 2 * i, 20, 4⟩
/-- ADC.CMP.CTL[FILT], R231. -/
def F.ADC_CMP_CTL_FILT (i : Nat) : Fld := ⟨0x40801 + 2 * i, 16, 4⟩
/-- ADC.CMP.CTL[EN], R231. -/
def F.ADC_CMP_CTL_EN (i : Nat) : Fld := ⟨0x40801 + 2 * i, 15, 1⟩
/-- ADC.CMP.CTL[MODE], R231. -/
def F.ADC_CMP_CTL_MODE (i : Nat) : Fld := ⟨0x40801 + 2 * i, 13, 2⟩
/-- ADC.CMP.CTL[TRIP], R231. -/
def F.ADC_CMP_CTL_TRIP (i : Nat) : Fld := ⟨0x40801 + 2 * i, 12, 1⟩
/-- ADC.CMP.CTL[CUT], R231. -/
def F.ADC_CMP_CTL_CUT (i : Nat) : Fld := ⟨0x40801 + 2 * i, 11, 1⟩
/-- ADC.CMP.CTL[LIVE], R231. -/
def F.ADC_CMP_CTL_LIVE (i : Nat) : Fld := ⟨0x40801 + 2 * i, 7, 1⟩
/-- ADC.CMP.CTL[HIL], R231. -/
def F.ADC_CMP_CTL_HIL (i : Nat) : Fld := ⟨0x40801 + 2 * i, 6, 1⟩
/-- ADC.CMP.CTL[LOL], R231. -/
def F.ADC_CMP_CTL_LOL (i : Nat) : Fld := ⟨0x40801 + 2 * i, 5, 1⟩
/-- The address of ADC.CMP.CTL. -/
def F.ADC_CMP_CTL (i : Nat) : Nat := 0x40801 + 2 * i
/-- ADC.CMPST[LIVE], R232. -/
def F.ADC_CMPST_LIVE : Fld := ⟨0x40840, 0, 24⟩
/-- The address of ADC.CMPST. -/
def F.ADC_CMPST : Nat := 0x40840

/-- Words of the Adc region, part 0. -/
def wordsAdc0 : List WordDef := [
  ⟨"ADC.CFG", 0x40000, [], [fd 5 1 .rw 0x1 .cs, fd 4 1 .rw 0x0 .cs, fd 0 2 .rw 0x0 .cs]⟩,
  ⟨"ADC.STAT", 0x40001, [], [fd 15 1 .ro 0x0, fd 12 2 .ro 0x0, fd 2 1 .ro 0x0, fd 1 1 .w1c 0x0, fd 0 1 .w1c 0x0]⟩,
  ⟨"ADC.SWTRG", 0x40002, [], [fd 0 16 .wo 0x0]⟩,
  ⟨"ADC.CALCFG", 0x40003, [], [fd 40 1 .rw 0x1 .cs, fd 32 8 .rw 0x10 .cs (.clamp 1 255), fd 24 8 .rw 0x40 .cs (.clamp 1 255), fd 16 8 .rw 0x8 .cs (.clamp 1 255), fd 0 16 .rw 0x3e8 .cs (.clamp 1 65535)]⟩,
  ⟨"ADC.CAL", 0x40004, [(2, 0x1)], [fd 32 8 .rc 0x0, fd 24 8 .rc 0x0, fd 16 4 .ro 0x0, fd 15 1 .ro 0x0, fd 0 4 .ro 0x0]⟩,
  ⟨"ADC.EXC", 0x40006, [(2, 0x1)], [fd 8 8 .rw 0x0 .cs, fd 0 4 .rw 0x8 .cs]⟩,
  ⟨"ADC.C.STAT", 0x40010, [(16, 0x1)], [fd 32 16 .ro 0x0, fd 16 16 .ro 0x0, fd 8 8 .ro 0x0, fd 0 4 .ro 0x0]⟩,
  ⟨"ADC.CS.STAT", 0x40020, [(2, 0x1)], [fd 32 16 .ro 0x0, fd 16 16 .ro 0x0, fd 8 8 .ro 0x0, fd 0 4 .ro 0x0]⟩,
  ⟨"ADC.SET.CFG", 0x40100, [(16, 0x40)], [fd 47 1 .rw 0x0, fd 46 1 .rw 0x0 .cs, fd 32 8 .rw 0x0 .cs, fd 24 8 .rw 0x5 .cs (.clamp 5 255), fd 23 1 .rw 0x0 .cs, fd 16 6 .rw 0x0 .cs, fd 12 4 .rw 0x0 .cs, fd 0 6 .rw 0x0 .cs]⟩,
  ⟨"ADC.SET.STAT", 0x40101, [(16, 0x40)], [fd 32 8 .rc 0x0, fd 24 8 .rc 0x0, fd 8 8 .ro 0x0, fd 2 1 .w1c 0x0, fd 1 1 .ro 0x0, fd 0 1 .w1c 0x0]⟩,
  ⟨"ADC.SET.SL", 0x40110, [(16, 0x40), (16, 0x1)], [fd 15 1 .rw 0x0 .cs, fd 13 2 .rw 0x0 .cs, fd 12 1 .rw 0x0 .cs, fd 6 4 .rw 0x0 .cs, fd 0 6 .rw 0x0 .cs]⟩,
  ⟨"ADC.SET.R", 0x40120, [(16, 0x40), (16, 0x1)], [fd 47 1 .ro 0x0, fd 46 1 .ro 0x0, fd 45 1 .ro 0x0, fd 44 1 .ro 0x0, fd 43 1 .ro 0x0, fd 42 1 .ro 0x0, fd 34 8 .ro 0x0, fd 30 4 .ro 0x0, fd 24 6 .ro 0x0, fd 0 24 .ro 0x0]⟩]

/-- Words of the Adc region, part 1. -/
def wordsAdc1 : List WordDef := [
  ⟨"ADC.CMP.THR", 0x40800, [(24, 0x2)], [fd 16 10 .rw 0x3ff, fd 0 10 .rw 0x0]⟩,
  ⟨"ADC.CMP.CTL", 0x40801, [(24, 0x2)], [fd 24 3 .rw 0x7 .cs, fd 20 4 .rw 0x2, fd 16 4 .rw 0x0, fd 15 1 .rw 0x0 .cs, fd 13 2 .rw 0x0 .cs, fd 12 1 .rw 0x0 .cs, fd 11 1 .rw 0x0 .cs, fd 7 1 .ro 0x0 .cs, fd 6 1 .w1c 0x0 .cs, fd 5 1 .w1c 0x0 .cs]⟩,
  ⟨"ADC.CMPST", 0x40840, [], [fd 0 24 .ro 0x0]⟩]

/-- The Adc region, its words. -/
def wordsAdc : List WordDef := wordsAdc0 ++ wordsAdc1

/-! ### The Pwm region -/

/-- PWM.G.CTL[MINP], R264. -/
def F.PWM_G_CTL_MINP (i : Nat) : Fld := ⟨0x50000 + 0x20 * i, 16, 8⟩
/-- PWM.G.CTL[UPD], R264. -/
def F.PWM_G_CTL_UPD (i : Nat) : Fld := ⟨0x50000 + 0x20 * i, 4, 2⟩
/-- PWM.G.CTL[CMODE], R264. -/
def F.PWM_G_CTL_CMODE (i : Nat) : Fld := ⟨0x50000 + 0x20 * i, 0, 1⟩
/-- The address of PWM.G.CTL. -/
def F.PWM_G_CTL (i : Nat) : Nat := 0x50000 + 0x20 * i
/-- PWM.G.STAT[ANGLE], R265. -/
def F.PWM_G_STAT_ANGLE (i : Nat) : Fld := ⟨0x50001 + 0x20 * i, 15, 1⟩
/-- PWM.G.STAT[OUTEN], R265. -/
def F.PWM_G_STAT_OUTEN (i : Nat) : Fld := ⟨0x50001 + 0x20 * i, 14, 1⟩
/-- PWM.G.STAT[FAULT], R265. -/
def F.PWM_G_STAT_FAULT (i : Nat) : Fld := ⟨0x50001 + 0x20 * i, 13, 1⟩
/-- PWM.G.STAT[PENDING], R265. -/
def F.PWM_G_STAT_PENDING (i : Nat) : Fld := ⟨0x50001 + 0x20 * i, 12, 1⟩
/-- PWM.G.STAT[HALF], R265. -/
def F.PWM_G_STAT_HALF (i : Nat) : Fld := ⟨0x50001 + 0x20 * i, 11, 1⟩
/-- PWM.G.STAT[ILKFLT], R265. -/
def F.PWM_G_STAT_ILKFLT (i : Nat) : Fld := ⟨0x50001 + 0x20 * i, 10, 1⟩
/-- PWM.G.STAT[TSTEP], R265. -/
def F.PWM_G_STAT_TSTEP (i : Nat) : Fld := ⟨0x50001 + 0x20 * i, 9, 1⟩
/-- PWM.G.STAT[RESTARTED], R265. -/
def F.PWM_G_STAT_RESTARTED (i : Nat) : Fld := ⟨0x50001 + 0x20 * i, 8, 1⟩
/-- PWM.G.STAT[BSINS], R265. -/
def F.PWM_G_STAT_BSINS (i : Nat) : Fld := ⟨0x50001 + 0x20 * i, 7, 1⟩
/-- PWM.G.STAT[CUT], R265. -/
def F.PWM_G_STAT_CUT (i : Nat) : Fld := ⟨0x50001 + 0x20 * i, 6, 1⟩
/-- PWM.G.STAT[XCSKIP], R265. -/
def F.PWM_G_STAT_XCSKIP (i : Nat) : Fld := ⟨0x50001 + 0x20 * i, 5, 1⟩
/-- PWM.G.STAT[LEG_INTERLOCK], R265. -/
def F.PWM_G_STAT_LEG_INTERLOCK (i : Nat) : Fld := ⟨0x50001 + 0x20 * i, 2, 1⟩
/-- PWM.G.STAT[DUTY_CLAMP], R265. -/
def F.PWM_G_STAT_DUTY_CLAMP (i : Nat) : Fld := ⟨0x50001 + 0x20 * i, 1, 1⟩
/-- PWM.G.STAT[COMMIT_LATE], R265. -/
def F.PWM_G_STAT_COMMIT_LATE (i : Nat) : Fld := ⟨0x50001 + 0x20 * i, 0, 1⟩
/-- The address of PWM.G.STAT. -/
def F.PWM_G_STAT (i : Nat) : Nat := 0x50001 + 0x20 * i
/-- PWM.G.PER[PER], R266. -/
def F.PWM_G_PER_PER (i : Nat) : Fld := ⟨0x50002 + 0x20 * i, 0, 30⟩
/-- The address of PWM.G.PER. -/
def F.PWM_G_PER (i : Nat) : Nat := 0x50002 + 0x20 * i
/-- PWM.G.LPER[LPER], R266. -/
def F.PWM_G_LPER_LPER (i : Nat) : Fld := ⟨0x50003 + 0x20 * i, 0, 30⟩
/-- The address of PWM.G.LPER. -/
def F.PWM_G_LPER (i : Nat) : Nat := 0x50003 + 0x20 * i
/-- PWM.G.COMMIT[PENDING], R266. -/
def F.PWM_G_COMMIT_PENDING (i : Nat) : Fld := ⟨0x50004 + 0x20 * i, 0, 1⟩
/-- The address of PWM.G.COMMIT. -/
def F.PWM_G_COMMIT (i : Nat) : Nat := 0x50004 + 0x20 * i
/-- PWM.G.BSR[EN], R267. -/
def F.PWM_G_BSR_EN (i : Nat) : Fld := ⟨0x50005 + 0x20 * i, 32, 1⟩
/-- PWM.G.BSR[BSMAX], R267. -/
def F.PWM_G_BSR_BSMAX (i : Nat) : Fld := ⟨0x50005 + 0x20 * i, 16, 16⟩
/-- PWM.G.BSR[BSON], R267. -/
def F.PWM_G_BSR_BSON (i : Nat) : Fld := ⟨0x50005 + 0x20 * i, 0, 8⟩
/-- The address of PWM.G.BSR. -/
def F.PWM_G_BSR (i : Nat) : Nat := 0x50005 + 0x20 * i
/-- PWM.G.DLC[TAPS], R268. -/
def F.PWM_G_DLC_TAPS (i : Nat) : Fld := ⟨0x50006 + 0x20 * i, 8, 8⟩
/-- PWM.G.DLC[DLFAIL], R268. -/
def F.PWM_G_DLC_DLFAIL (i : Nat) : Fld := ⟨0x50006 + 0x20 * i, 1, 1⟩
/-- PWM.G.DLC[DLOK], R268. -/
def F.PWM_G_DLC_DLOK (i : Nat) : Fld := ⟨0x50006 + 0x20 * i, 0, 1⟩
/-- The address of PWM.G.DLC. -/
def F.PWM_G_DLC (i : Nat) : Nat := 0x50006 + 0x20 * i
/-- PWM.G.CNT[BSCNT], R268. -/
def F.PWM_G_CNT_BSCNT (i : Nat) : Fld := ⟨0x50007 + 0x20 * i, 32, 8⟩
/-- PWM.G.CNT[ILKCNT], R268. -/
def F.PWM_G_CNT_ILKCNT (i : Nat) : Fld := ⟨0x50007 + 0x20 * i, 24, 8⟩
/-- PWM.G.CNT[CUTCNT], R268. -/
def F.PWM_G_CNT_CUTCNT (i : Nat) : Fld := ⟨0x50007 + 0x20 * i, 16, 8⟩
/-- PWM.G.CNT[LATECNT], R268. -/
def F.PWM_G_CNT_LATECNT (i : Nat) : Fld := ⟨0x50007 + 0x20 * i, 8, 8⟩
/-- PWM.G.CNT[CLAMPCNT], R268. -/
def F.PWM_G_CNT_CLAMPCNT (i : Nat) : Fld := ⟨0x50007 + 0x20 * i, 0, 8⟩
/-- The address of PWM.G.CNT. -/
def F.PWM_G_CNT (i : Nat) : Nat := 0x50007 + 0x20 * i
/-- PWM.G.XC[EN], R266. -/
def F.PWM_G_XC_EN (i j : Nat) : Fld := ⟨0x50008 + 0x20 * i + 1 * j, 47, 1⟩
/-- PWM.G.XC[POS], R266. -/
def F.PWM_G_XC_POS (i j : Nat) : Fld := ⟨0x50008 + 0x20 * i + 1 * j, 0, 30⟩
/-- The address of PWM.G.XC. -/
def F.PWM_G_XC (i j : Nat) : Nat := 0x50008 + 0x20 * i + 1 * j
/-- PWM.L.DUTY[LMODE], R269. -/
def F.PWM_L_DUTY_LMODE (i : Nat) : Fld := ⟨0x50200 + 8 * i, 40, 3⟩
/-- PWM.L.DUTY[DUTY], R269. -/
def F.PWM_L_DUTY_DUTY (i : Nat) : Fld := ⟨0x50200 + 8 * i, 0, 30⟩
/-- The address of PWM.L.DUTY. -/
def F.PWM_L_DUTY (i : Nat) : Nat := 0x50200 + 8 * i
/-- PWM.L.SHIFT[SHIFT], R269. -/
def F.PWM_L_SHIFT_SHIFT (i : Nat) : Fld := ⟨0x50201 + 8 * i, 0, 30⟩
/-- The address of PWM.L.SHIFT. -/
def F.PWM_L_SHIFT (i : Nat) : Nat := 0x50201 + 8 * i
/-- PWM.L.LDUTY[LMODE], R269. -/
def F.PWM_L_LDUTY_LMODE (i : Nat) : Fld := ⟨0x50202 + 8 * i, 40, 3⟩
/-- PWM.L.LDUTY[DUTY], R269. -/
def F.PWM_L_LDUTY_DUTY (i : Nat) : Fld := ⟨0x50202 + 8 * i, 0, 30⟩
/-- The address of PWM.L.LDUTY. -/
def F.PWM_L_LDUTY (i : Nat) : Nat := 0x50202 + 8 * i
/-- PWM.L.LSHIFT[SHIFT], R269. -/
def F.PWM_L_LSHIFT_SHIFT (i : Nat) : Fld := ⟨0x50203 + 8 * i, 0, 30⟩
/-- The address of PWM.L.LSHIFT. -/
def F.PWM_L_LSHIFT (i : Nat) : Nat := 0x50203 + 8 * i
/-- PWM.L.DLYH[RISE], R269. -/
def F.PWM_L_DLYH_RISE (i : Nat) : Fld := ⟨0x50204 + 8 * i, 18, 18⟩
/-- PWM.L.DLYH[FALL], R269. -/
def F.PWM_L_DLYH_FALL (i : Nat) : Fld := ⟨0x50204 + 8 * i, 0, 18⟩
/-- The address of PWM.L.DLYH. -/
def F.PWM_L_DLYH (i : Nat) : Nat := 0x50204 + 8 * i
/-- PWM.L.DLYL[RISE], R269. -/
def F.PWM_L_DLYL_RISE (i : Nat) : Fld := ⟨0x50205 + 8 * i, 18, 18⟩
/-- PWM.L.DLYL[FALL], R269. -/
def F.PWM_L_DLYL_FALL (i : Nat) : Fld := ⟨0x50205 + 8 * i, 0, 18⟩
/-- The address of PWM.L.DLYL. -/
def F.PWM_L_DLYL (i : Nat) : Nat := 0x50205 + 8 * i
/-- PWM.L.OUT[LIVEH], R269. -/
def F.PWM_L_OUT_LIVEH (i : Nat) : Fld := ⟨0x50206 + 8 * i, 5, 1⟩
/-- PWM.L.OUT[LIVEL], R269. -/
def F.PWM_L_OUT_LIVEL (i : Nat) : Fld := ⟨0x50206 + 8 * i, 4, 1⟩
/-- PWM.L.OUT[POLL], R269. -/
def F.PWM_L_OUT_POLL (i : Nat) : Fld := ⟨0x50206 + 8 * i, 1, 1⟩
/-- PWM.L.OUT[POLH], R269. -/
def F.PWM_L_OUT_POLH (i : Nat) : Fld := ⟨0x50206 + 8 * i, 0, 1⟩
/-- The address of PWM.L.OUT. -/
def F.PWM_L_OUT (i : Nat) : Nat := 0x50206 + 8 * i
/-- PWM.L.CUT[CUTM], R269. -/
def F.PWM_L_CUT_CUTM (i : Nat) : Fld := ⟨0x50207 + 8 * i, 26, 2⟩
/-- PWM.L.CUT[MASK], R269. -/
def F.PWM_L_CUT_MASK (i : Nat) : Fld := ⟨0x50207 + 8 * i, 0, 24⟩
/-- The address of PWM.L.CUT. -/
def F.PWM_L_CUT (i : Nat) : Nat := 0x50207 + 8 * i
/-- PWM.XCOMMIT[GMASK], R270. -/
def F.PWM_XCOMMIT_GMASK : Fld := ⟨0x50300, 0, 7⟩
/-- The address of PWM.XCOMMIT. -/
def F.PWM_XCOMMIT : Nat := 0x50300

/-- Words of the Pwm region, part 0. -/
def wordsPwm0 : List WordDef := [
  ⟨"PWM.G.CTL", 0x50000, [(7, 0x20)], [fd 16 8 .rw 0x0 .cs, fd 4 2 .rw 0x1 .cs, fd 0 1 .rw 0x0 .cs]⟩,
  ⟨"PWM.G.STAT", 0x50001, [(7, 0x20)], [fd 15 1 .ro 0x0, fd 14 1 .ro 0x0, fd 13 1 .ro 0x0, fd 12 1 .ro 0x0, fd 11 1 .ro 0x0, fd 10 1 .w1c 0x0, fd 9 1 .w1c 0x0, fd 8 1 .w1c 0x0, fd 7 1 .w1c 0x0, fd 6 1 .w1c 0x0, fd 5 1 .w1c 0x0, fd 2 1 .w1c 0x0, fd 1 1 .w1c 0x0, fd 0 1 .w1c 0x0]⟩,
  ⟨"PWM.G.PER", 0x50002, [(7, 0x20)], [fd 0 30 .rw 0x271000]⟩,
  ⟨"PWM.G.LPER", 0x50003, [(7, 0x20)], [fd 0 30 .ro 0x271000]⟩,
  ⟨"PWM.G.COMMIT", 0x50004, [(7, 0x20)], [fd 0 1 .ro 0x0]⟩,
  ⟨"PWM.G.BSR", 0x50005, [(7, 0x20)], [fd 32 1 .rw 0x0 .cs, fd 16 16 .rw 0x3e8 .cs (.clamp 1 65535), fd 0 8 .rw 0x32 .cs (.clamp 1 255)]⟩,
  ⟨"PWM.G.DLC", 0x50006, [(7, 0x20)], [fd 8 8 .ro 0x0, fd 1 1 .w1c 0x0, fd 0 1 .ro 0x0]⟩,
  ⟨"PWM.G.CNT", 0x50007, [(7, 0x20)], [fd 32 8 .rc 0x0, fd 24 8 .rc 0x0, fd 16 8 .rc 0x0, fd 8 8 .rc 0x0, fd 0 8 .rc 0x0]⟩,
  ⟨"PWM.G.XC", 0x50008, [(6, 0x20), (4, 0x1)], [fd 47 1 .rw 0x0, fd 0 30 .rw 0x0]⟩,
  ⟨"PWM.L.DUTY", 0x50200, [(20, 0x8)], [fd 40 3 .rw 0x3, fd 0 30 .rw 0x0]⟩,
  ⟨"PWM.L.SHIFT", 0x50201, [(20, 0x8)], [fd 0 30 .rw 0x0]⟩,
  ⟨"PWM.L.LDUTY", 0x50202, [(20, 0x8)], [fd 40 3 .ro 0x3, fd 0 30 .ro 0x0]⟩]

/-- Words of the Pwm region, part 1. -/
def wordsPwm1 : List WordDef := [
  ⟨"PWM.L.LSHIFT", 0x50203, [(20, 0x8)], [fd 0 30 .ro 0x0]⟩,
  ⟨"PWM.L.DLYH", 0x50204, [(20, 0x8)], [fd 18 18 .rw 0x0 .cs, fd 0 18 .rw 0x0 .cs]⟩,
  ⟨"PWM.L.DLYL", 0x50205, [(20, 0x8)], [fd 18 18 .rw 0x0 .cs, fd 0 18 .rw 0x0 .cs]⟩,
  ⟨"PWM.L.OUT", 0x50206, [(20, 0x8)], [fd 5 1 .ro 0x0 .cfg, fd 4 1 .ro 0x0 .cfg, fd 1 1 .rw 0x0 .cfg, fd 0 1 .rw 0x0 .cfg]⟩,
  ⟨"PWM.L.CUT", 0x50207, [(20, 0x8)], [fd 26 2 .rw 0x0 .cs, fd 0 24 .rw 0x0 .cs]⟩,
  ⟨"PWM.XCOMMIT", 0x50300, [], [fd 0 7 .wo 0x0]⟩]

/-- The Pwm region, its words. -/
def wordsPwm : List WordDef := wordsPwm0 ++ wordsPwm1

/-! ### The Gds region -/

/-- GDS.G.CFG[DRVWAIT], R300. -/
def F.GDS_G_CFG_DRVWAIT (i : Nat) : Fld := ⟨0x60000 + 0x10 * i, 32, 8⟩
/-- GDS.G.CFG[REFINT], R300. -/
def F.GDS_G_CFG_REFINT (i : Nat) : Fld := ⟨0x60000 + 0x10 * i, 24, 8⟩
/-- GDS.G.CFG[ATTW], R300. -/
def F.GDS_G_CFG_ATTW (i : Nat) : Fld := ⟨0x60000 + 0x10 * i, 16, 8⟩
/-- GDS.G.CFG[TOVD], R300. -/
def F.GDS_G_CFG_TOVD (i : Nat) : Fld := ⟨0x60000 + 0x10 * i, 8, 8⟩
/-- GDS.G.CFG[DOFF], R300. -/
def F.GDS_G_CFG_DOFF (i : Nat) : Fld := ⟨0x60000 + 0x10 * i, 4, 1⟩
/-- GDS.G.CFG[DUP], R300. -/
def F.GDS_G_CFG_DUP (i : Nat) : Fld := ⟨0x60000 + 0x10 * i, 3, 1⟩
/-- GDS.G.CFG[SOFTEN], R300. -/
def F.GDS_G_CFG_SOFTEN (i : Nat) : Fld := ⟨0x60000 + 0x10 * i, 2, 1⟩
/-- GDS.G.CFG[ADAPT], R300. -/
def F.GDS_G_CFG_ADAPT (i : Nat) : Fld := ⟨0x60000 + 0x10 * i, 1, 1⟩
/-- The address of GDS.G.CFG. -/
def F.GDS_G_CFG (i : Nat) : Nat := 0x60000 + 0x10 * i
/-- GDS.G.ESC[GFT], R301. -/
def F.GDS_G_ESC_GFT (i : Nat) : Fld := ⟨0x60001 + 0x10 * i, 32, 8⟩
/-- GDS.G.ESC[GFN], R301. -/
def F.GDS_G_ESC_GFN (i : Nat) : Fld := ⟨0x60001 + 0x10 * i, 28, 4⟩
/-- GDS.G.ESC[ESCT], R301. -/
def F.GDS_G_ESC_ESCT (i : Nat) : Fld := ⟨0x60001 + 0x10 * i, 8, 16⟩
/-- GDS.G.ESC[ESCN], R301. -/
def F.GDS_G_ESC_ESCN (i : Nat) : Fld := ⟨0x60001 + 0x10 * i, 0, 4⟩
/-- The address of GDS.G.ESC. -/
def F.GDS_G_ESC (i : Nat) : Nat := 0x60001 + 0x10 * i
/-- GDS.G.ADP[LTMO], R301. -/
def F.GDS_G_ADP_LTMO (i : Nat) : Fld := ⟨0x60002 + 0x10 * i, 32, 16⟩
/-- GDS.G.ADP[LSTAB], R301. -/
def F.GDS_G_ADP_LSTAB (i : Nat) : Fld := ⟨0x60002 + 0x10 * i, 24, 8⟩
/-- GDS.G.ADP[LDBAND], R301. -/
def F.GDS_G_ADP_LDBAND (i : Nat) : Fld := ⟨0x60002 + 0x10 * i, 16, 8⟩
/-- GDS.G.ADP[STEP], R301. -/
def F.GDS_G_ADP_STEP (i : Nat) : Fld := ⟨0x60002 + 0x10 * i, 8, 8⟩
/-- The address of GDS.G.ADP. -/
def F.GDS_G_ADP (i : Nat) : Nat := 0x60002 + 0x10 * i
/-- GDS.G.STAT[FLEGS], R302. -/
def F.GDS_G_STAT_FLEGS (i : Nat) : Fld := ⟨0x60003 + 0x10 * i, 24, 3⟩
/-- GDS.G.STAT[FAULT], R302. -/
def F.GDS_G_STAT_FAULT (i : Nat) : Fld := ⟨0x60003 + 0x10 * i, 15, 1⟩
/-- GDS.G.STAT[LOADED], R302. -/
def F.GDS_G_STAT_LOADED (i : Nat) : Fld := ⟨0x60003 + 0x10 * i, 14, 1⟩
/-- GDS.G.STAT[BREAK], R302. -/
def F.GDS_G_STAT_BREAK (i : Nat) : Fld := ⟨0x60003 + 0x10 * i, 13, 1⟩
/-- GDS.G.STAT[GLOCK], R302. -/
def F.GDS_G_STAT_GLOCK (i : Nat) : Fld := ⟨0x60003 + 0x10 * i, 12, 1⟩
/-- GDS.G.STAT[ADPACT], R302. -/
def F.GDS_G_STAT_ADPACT (i : Nat) : Fld := ⟨0x60003 + 0x10 * i, 11, 1⟩
/-- GDS.G.STAT[CLRREF], R302. -/
def F.GDS_G_STAT_CLRREF (i : Nat) : Fld := ⟨0x60003 + 0x10 * i, 7, 1⟩
/-- GDS.G.STAT[SWF], R302. -/
def F.GDS_G_STAT_SWF (i : Nat) : Fld := ⟨0x60003 + 0x10 * i, 6, 1⟩
/-- GDS.G.STAT[ESC], R302. -/
def F.GDS_G_STAT_ESC (i : Nat) : Fld := ⟨0x60003 + 0x10 * i, 5, 1⟩
/-- GDS.G.STAT[MULTI], R302. -/
def F.GDS_G_STAT_MULTI (i : Nat) : Fld := ⟨0x60003 + 0x10 * i, 4, 1⟩
/-- GDS.G.STAT[TRIP], R302. -/
def F.GDS_G_STAT_TRIP (i : Nat) : Fld := ⟨0x60003 + 0x10 * i, 3, 1⟩
/-- GDS.G.STAT[ILK], R302. -/
def F.GDS_G_STAT_ILK (i : Nat) : Fld := ⟨0x60003 + 0x10 * i, 2, 1⟩
/-- GDS.G.STAT[LIM], R302. -/
def F.GDS_G_STAT_LIM (i : Nat) : Fld := ⟨0x60003 + 0x10 * i, 1, 1⟩
/-- The address of GDS.G.STAT. -/
def F.GDS_G_STAT (i : Nat) : Nat := 0x60003 + 0x10 * i
/-- GDS.G.CLR[RELOAD], R302. -/
def F.GDS_G_CLR_RELOAD (i : Nat) : Fld := ⟨0x60004 + 0x10 * i, 1, 1⟩
/-- GDS.G.CLR[CLR], R302. -/
def F.GDS_G_CLR_CLR (i : Nat) : Fld := ⟨0x60004 + 0x10 * i, 0, 1⟩
/-- The address of GDS.G.CLR. -/
def F.GDS_G_CLR (i : Nat) : Nat := 0x60004 + 0x10 * i
/-- GDS.G.CNT[SWFCNT], R303. -/
def F.GDS_G_CNT_SWFCNT (i : Nat) : Fld := ⟨0x60005 + 0x10 * i, 40, 8⟩
/-- GDS.G.CNT[ORPHAN], R303. -/
def F.GDS_G_CNT_ORPHAN (i : Nat) : Fld := ⟨0x60005 + 0x10 * i, 32, 8⟩
/-- GDS.G.CNT[DSNOISE], R303. -/
def F.GDS_G_CNT_DSNOISE (i : Nat) : Fld := ⟨0x60005 + 0x10 * i, 24, 8⟩
/-- GDS.G.CNT[BRKCNT], R303. -/
def F.GDS_G_CNT_BRKCNT (i : Nat) : Fld := ⟨0x60005 + 0x10 * i, 16, 8⟩
/-- GDS.G.CNT[DSIDLE], R303. -/
def F.GDS_G_CNT_DSIDLE (i : Nat) : Fld := ⟨0x60005 + 0x10 * i, 8, 8⟩
/-- GDS.G.CNT[GFCNT], R303. -/
def F.GDS_G_CNT_GFCNT (i : Nat) : Fld := ⟨0x60005 + 0x10 * i, 0, 8⟩
/-- The address of GDS.G.CNT. -/
def F.GDS_G_CNT (i : Nat) : Nat := 0x60005 + 0x10 * i
/-- GDS.G.LRN[ACTIVE], R302. -/
def F.GDS_G_LRN_ACTIVE (i : Nat) : Fld := ⟨0x60006 + 0x10 * i, 25, 1⟩
/-- GDS.G.LRN[DONE], R302. -/
def F.GDS_G_LRN_DONE (i : Nat) : Fld := ⟨0x60006 + 0x10 * i, 12, 12⟩
/-- GDS.G.LRN[FAIL], R302. -/
def F.GDS_G_LRN_FAIL (i : Nat) : Fld := ⟨0x60006 + 0x10 * i, 0, 12⟩
/-- The address of GDS.G.LRN. -/
def F.GDS_G_LRN (i : Nat) : Nat := 0x60006 + 0x10 * i
/-- GDS.L.BLANK[BLANKH], R304. -/
def F.GDS_L_BLANK_BLANKH (i : Nat) : Fld := ⟨0x60100 + 0x10 * i, 16, 8⟩
/-- GDS.L.BLANK[BLANKL], R304. -/
def F.GDS_L_BLANK_BLANKL (i : Nat) : Fld := ⟨0x60100 + 0x10 * i, 8, 8⟩
/-- GDS.L.BLANK[DSFILT], R304. -/
def F.GDS_L_BLANK_DSFILT (i : Nat) : Fld := ⟨0x60100 + 0x10 * i, 0, 3⟩
/-- The address of GDS.L.BLANK. -/
def F.GDS_L_BLANK (i : Nat) : Nat := 0x60100 + 0x10 * i
/-- GDS.L.FLT[ESCH], R304. -/
def F.GDS_L_FLT_ESCH (i : Nat) : Fld := ⟨0x60101 + 0x10 * i, 36, 4⟩
/-- GDS.L.FLT[ESCL], R304. -/
def F.GDS_L_FLT_ESCL (i : Nat) : Fld := ⟨0x60101 + 0x10 * i, 32, 4⟩
/-- GDS.L.FLT[OVDL], R304. -/
def F.GDS_L_FLT_OVDL (i : Nat) : Fld := ⟨0x60101 + 0x10 * i, 11, 1⟩
/-- GDS.L.FLT[OVDH], R304. -/
def F.GDS_L_FLT_OVDH (i : Nat) : Fld := ⟨0x60101 + 0x10 * i, 10, 1⟩
/-- GDS.L.FLT[DSATL], R304. -/
def F.GDS_L_FLT_DSATL (i : Nat) : Fld := ⟨0x60101 + 0x10 * i, 9, 1⟩
/-- GDS.L.FLT[DSATH], R304. -/
def F.GDS_L_FLT_DSATH (i : Nat) : Fld := ⟨0x60101 + 0x10 * i, 8, 1⟩
/-- GDS.L.FLT[DSAT_EARLY_L], R304. -/
def F.GDS_L_FLT_DSAT_EARLY_L (i : Nat) : Fld := ⟨0x60101 + 0x10 * i, 7, 1⟩
/-- GDS.L.FLT[DSAT_EARLY_H], R304. -/
def F.GDS_L_FLT_DSAT_EARLY_H (i : Nat) : Fld := ⟨0x60101 + 0x10 * i, 6, 1⟩
/-- GDS.L.FLT[DSIDLE], R304. -/
def F.GDS_L_FLT_DSIDLE (i : Nat) : Fld := ⟨0x60101 + 0x10 * i, 5, 1⟩
/-- GDS.L.FLT[LIVEDS], R304. -/
def F.GDS_L_FLT_LIVEDS (i : Nat) : Fld := ⟨0x60101 + 0x10 * i, 3, 1⟩
/-- GDS.L.FLT[LIVEEDG], R304. -/
def F.GDS_L_FLT_LIVEEDG (i : Nat) : Fld := ⟨0x60101 + 0x10 * i, 2, 1⟩
/-- GDS.L.FLT[LATL], R304. -/
def F.GDS_L_FLT_LATL (i : Nat) : Fld := ⟨0x60101 + 0x10 * i, 1, 1⟩
/-- GDS.L.FLT[LATH], R304. -/
def F.GDS_L_FLT_LATH (i : Nat) : Fld := ⟨0x60101 + 0x10 * i, 0, 1⟩
/-- The address of GDS.L.FLT. -/
def F.GDS_L_FLT (i : Nat) : Nat := 0x60101 + 0x10 * i
/-- GDS.L.A[TGT], R304. -/
def F.GDS_L_A_TGT (i j : Nat) : Fld := ⟨0x60102 + 0x10 * i + 1 * j, 32, 16⟩
/-- GDS.L.A[DBAND], R304. -/
def F.GDS_L_A_DBAND (i j : Nat) : Fld := ⟨0x60102 + 0x10 * i + 1 * j, 24, 8⟩
/-- GDS.L.A[CMAX], R304. -/
def F.GDS_L_A_CMAX (i j : Nat) : Fld := ⟨0x60102 + 0x10 * i + 1 * j, 20, 4⟩
/-- GDS.L.A[CMIN], R304. -/
def F.GDS_L_A_CMIN (i j : Nat) : Fld := ⟨0x60102 + 0x10 * i + 1 * j, 16, 4⟩
/-- GDS.L.A[SCODE], R304. -/
def F.GDS_L_A_SCODE (i j : Nat) : Fld := ⟨0x60102 + 0x10 * i + 1 * j, 12, 4⟩
/-- GDS.L.A[CODE], R304. -/
def F.GDS_L_A_CODE (i j : Nat) : Fld := ⟨0x60102 + 0x10 * i + 1 * j, 8, 4⟩
/-- GDS.L.A[CUR], R304. -/
def F.GDS_L_A_CUR (i j : Nat) : Fld := ⟨0x60102 + 0x10 * i + 1 * j, 4, 4⟩
/-- The address of GDS.L.A. -/
def F.GDS_L_A (i j : Nat) : Nat := 0x60102 + 0x10 * i + 1 * j
/-- GDS.L.M[CNT], R304. -/
def F.GDS_L_M_CNT (i j : Nat) : Fld := ⟨0x60106 + 0x10 * i + 1 * j, 44, 4⟩
/-- GDS.L.M[CODEM], R304. -/
def F.GDS_L_M_CODEM (i j : Nat) : Fld := ⟨0x60106 + 0x10 * i + 1 * j, 40, 4⟩
/-- GDS.L.M[DLY], R304. -/
def F.GDS_L_M_DLY (i j : Nat) : Fld := ⟨0x60106 + 0x10 * i + 1 * j, 20, 20⟩
/-- GDS.L.M[WID], R304. -/
def F.GDS_L_M_WID (i j : Nat) : Fld := ⟨0x60106 + 0x10 * i + 1 * j, 0, 20⟩
/-- The address of GDS.L.M. -/
def F.GDS_L_M (i j : Nat) : Nat := 0x60106 + 0x10 * i + 1 * j

/-- Words of the Gds region, part 0. -/
def wordsGds0 : List WordDef := [
  ⟨"GDS.G.CFG", 0x60000, [(7, 0x10)], [fd 32 8 .rw 0x14 .cs (.clamp 1 255), fd 24 8 .rw 0xa .cs, fd 16 8 .rw 0xc8 .cs (.clamp 1 255), fd 8 8 .rw 0x32 .cs (.clamp 5 255), fd 4 1 .rw 0x0 .cs, fd 3 1 .rw 0x0 .cs, fd 2 1 .rw 0x1 .cs, fd 1 1 .rw 0x0]⟩,
  ⟨"GDS.G.ESC", 0x60001, [(7, 0x10)], [fd 32 8 .rw 0x3c .cs (.clamp 1 255), fd 28 4 .rw 0x3 .cs (.clamp 1 15), fd 8 16 .rw 0xa .cs (.clamp 1 65535), fd 0 4 .rw 0x3 .cs (.clamp 1 15)]⟩,
  ⟨"GDS.G.ADP", 0x60002, [(7, 0x10)], [fd 32 16 .rw 0x7d0 .cs (.clamp 1 65535), fd 24 8 .rw 0x20 .cs (.clamp 1 255), fd 16 8 .rw 0x40 .cs, fd 8 8 .rw 0x0 .cs]⟩,
  ⟨"GDS.G.STAT", 0x60003, [(7, 0x10)], [fd 24 3 .ro 0x0, fd 15 1 .ro 0x0, fd 14 1 .ro 0x0, fd 13 1 .ro 0x0, fd 12 1 .ro 0x0, fd 11 1 .ro 0x0, fd 7 1 .w1c 0x0, fd 6 1 .w1c 0x0, fd 5 1 .w1c 0x0, fd 4 1 .w1c 0x0, fd 3 1 .w1c 0x0, fd 2 1 .w1c 0x0, fd 1 1 .w1c 0x0]⟩,
  ⟨"GDS.G.CLR", 0x60004, [(7, 0x10)], [fd 1 1 .wo 0x0, fd 0 1 .wo 0x0]⟩,
  ⟨"GDS.G.CNT", 0x60005, [(7, 0x10)], [fd 40 8 .rc 0x0, fd 32 8 .rc 0x0, fd 24 8 .rc 0x0, fd 16 8 .rc 0x0, fd 8 8 .rc 0x0, fd 0 8 .ro 0x0]⟩,
  ⟨"GDS.G.LRN", 0x60006, [(7, 0x10)], [fd 25 1 .ro 0x0, fd 12 12 .ro 0x0, fd 0 12 .ro 0x0]⟩,
  ⟨"GDS.L.BLANK", 0x60100, [(20, 0x10)], [fd 16 8 .rw 0x32 .cs (.clamp 5 250), fd 8 8 .rw 0x32 .cs (.clamp 5 250), fd 0 3 .rw 0x2 .cs]⟩,
  ⟨"GDS.L.FLT", 0x60101, [(20, 0x10)], [fd 36 4 .ro 0x0, fd 32 4 .ro 0x0, fd 11 1 .w1c 0x0, fd 10 1 .w1c 0x0, fd 9 1 .w1c 0x0, fd 8 1 .w1c 0x0, fd 7 1 .w1c 0x0, fd 6 1 .w1c 0x0, fd 5 1 .w1c 0x0, fd 3 1 .ro 0x0, fd 2 1 .ro 0x0, fd 1 1 .ro 0x0, fd 0 1 .ro 0x0]⟩,
  ⟨"GDS.L.A", 0x60102, [(20, 0x10), (4, 0x1)], [fd 32 16 .rw 0xa00, fd 24 8 .rw 0x20, fd 20 4 .rw 0xf .cs, fd 16 4 .rw 0x0 .cs, fd 12 4 .rw 0x8 .cs, fd 8 4 .ro 0x8, fd 4 4 .ro 0x0]⟩,
  ⟨"GDS.L.M", 0x60106, [(20, 0x10), (4, 0x1)], [fd 44 4 .ro 0x0, fd 40 4 .ro 0x0, fd 20 20 .ro 0x0, fd 0 20 .ro 0x0]⟩]

/-- The Gds region, its words. -/
def wordsGds : List WordDef := wordsGds0

/-! ### The Zen region -/

/-- ZEN.STAT[NACT], R338. -/
def F.ZEN_STAT_NACT : Fld := ⟨0x70000, 8, 4⟩
/-- ZEN.STAT[DEGRADED], R338. -/
def F.ZEN_STAT_DEGRADED : Fld := ⟨0x70000, 3, 1⟩
/-- ZEN.STAT[NOSPARE], R338. -/
def F.ZEN_STAT_NOSPARE : Fld := ⟨0x70000, 2, 1⟩
/-- ZEN.STAT[MIGREF], R338. -/
def F.ZEN_STAT_MIGREF : Fld := ⟨0x70000, 1, 1⟩
/-- ZEN.STAT[LANEEVT], R338. -/
def F.ZEN_STAT_LANEEVT : Fld := ⟨0x70000, 0, 1⟩
/-- The address of ZEN.STAT. -/
def F.ZEN_STAT : Nat := 0x70000
/-- ZEN.LMAP[SPARE], R338. -/
def F.ZEN_LMAP_SPARE : Fld := ⟨0x70001, 36, 4⟩
/-- ZEN.LMAP[TESTL], R338. -/
def F.ZEN_LMAP_TESTL : Fld := ⟨0x70001, 32, 4⟩
/-- ZEN.LMAP[MAP], R338. -/
def F.ZEN_LMAP_MAP : Fld := ⟨0x70001, 0, 32⟩
/-- The address of ZEN.LMAP. -/
def F.ZEN_LMAP : Nat := 0x70001
/-- ZEN.MIG[MIGSKIP], R340. -/
def F.ZEN_MIG_MIGSKIP : Fld := ⟨0x70002, 40, 8⟩
/-- ZEN.MIG[MIGCNT], R340. -/
def F.ZEN_MIG_MIGCNT : Fld := ⟨0x70002, 32, 8⟩
/-- ZEN.MIG[SRC], R340. -/
def F.ZEN_MIG_SRC : Fld := ⟨0x70002, 20, 4⟩
/-- ZEN.MIG[DST], R340. -/
def F.ZEN_MIG_DST : Fld := ⟨0x70002, 16, 4⟩
/-- ZEN.MIG[REQ], R340. -/
def F.ZEN_MIG_REQ : Fld := ⟨0x70002, 15, 1⟩
/-- ZEN.MIG[LREQ], R340. -/
def F.ZEN_MIG_LREQ : Fld := ⟨0x70002, 12, 3⟩
/-- ZEN.MIG[PHASE], R340. -/
def F.ZEN_MIG_PHASE : Fld := ⟨0x70002, 0, 4⟩
/-- The address of ZEN.MIG. -/
def F.ZEN_MIG : Nat := 0x70002
/-- ZEN.WRAPST[WRAPCNT], R340. -/
def F.ZEN_WRAPST_WRAPCNT : Fld := ⟨0x70003, 40, 8⟩
/-- ZEN.WRAPST[LASTBLK], R340. -/
def F.ZEN_WRAPST_LASTBLK : Fld := ⟨0x70003, 18, 10⟩
/-- ZEN.WRAPST[FIRSTBLK], R340. -/
def F.ZEN_WRAPST_FIRSTBLK : Fld := ⟨0x70003, 8, 10⟩
/-- ZEN.WRAPST[FVALID], R340. -/
def F.ZEN_WRAPST_FVALID : Fld := ⟨0x70003, 0, 1⟩
/-- The address of ZEN.WRAPST. -/
def F.ZEN_WRAPST : Nat := 0x70003
/-- ZEN.SWTRG0[TRG], R341. -/
def F.ZEN_SWTRG0_TRG : Fld := ⟨0x70004, 0, 48⟩
/-- The address of ZEN.SWTRG0. -/
def F.ZEN_SWTRG0 : Nat := 0x70004
/-- ZEN.SWTRG1[TRG], R341. -/
def F.ZEN_SWTRG1_TRG : Fld := ⟨0x70005, 0, 16⟩
/-- The address of ZEN.SWTRG1. -/
def F.ZEN_SWTRG1 : Nat := 0x70005
/-- ZEN.PGRST0[RST], R341. -/
def F.ZEN_PGRST0_RST : Fld := ⟨0x70006, 0, 48⟩
/-- The address of ZEN.PGRST0. -/
def F.ZEN_PGRST0 : Nat := 0x70006
/-- ZEN.PGRST1[RST], R341. -/
def F.ZEN_PGRST1_RST : Fld := ⟨0x70007, 0, 16⟩
/-- The address of ZEN.PGRST1. -/
def F.ZEN_PGRST1 : Nat := 0x70007
/-- ZEN.LANE.STAT[TESTS], R339. -/
def F.ZEN_LANE_STAT_TESTS (i : Nat) : Fld := ⟨0x70010 + 1 * i, 16, 8⟩
/-- ZEN.LANE.STAT[LOG], R339. -/
def F.ZEN_LANE_STAT_LOG (i : Nat) : Fld := ⟨0x70010 + 1 * i, 8, 4⟩
/-- ZEN.LANE.STAT[BUSY], R339. -/
def F.ZEN_LANE_STAT_BUSY (i : Nat) : Fld := ⟨0x70010 + 1 * i, 4, 1⟩
/-- ZEN.LANE.STAT[STATE], R339. -/
def F.ZEN_LANE_STAT_STATE (i : Nat) : Fld := ⟨0x70010 + 1 * i, 0, 4⟩
/-- The address of ZEN.LANE.STAT. -/
def F.ZEN_LANE_STAT (i : Nat) : Nat := 0x70010 + 1 * i
/-- ZEN.PG.CFG[EN], R342. -/
def F.ZEN_PG_CFG_EN (i : Nat) : Fld := ⟨0x70100 + 2 * i, 47, 1⟩
/-- ZEN.PG.CFG[EARLY], R342. -/
def F.ZEN_PG_CFG_EARLY (i : Nat) : Fld := ⟨0x70100 + 2 * i, 46, 1⟩
/-- ZEN.PG.CFG[PRIO], R342. -/
def F.ZEN_PG_CFG_PRIO (i : Nat) : Fld := ⟨0x70100 + 2 * i, 44, 2⟩
/-- ZEN.PG.CFG[LANE], R342. -/
def F.ZEN_PG_CFG_LANE (i : Nat) : Fld := ⟨0x70100 + 2 * i, 40, 3⟩
/-- ZEN.PG.CFG[CHEN], R342. -/
def F.ZEN_PG_CFG_CHEN (i : Nat) : Fld := ⟨0x70100 + 2 * i, 39, 1⟩
/-- ZEN.PG.CFG[CHPG], R342. -/
def F.ZEN_PG_CFG_CHPG (i : Nat) : Fld := ⟨0x70100 + 2 * i, 32, 6⟩
/-- ZEN.PG.CFG[AXV], R342. -/
def F.ZEN_PG_CFG_AXV (i : Nat) : Fld := ⟨0x70100 + 2 * i, 31, 1⟩
/-- ZEN.PG.CFG[AXIS], R342. -/
def F.ZEN_PG_CFG_AXIS (i : Nat) : Fld := ⟨0x70100 + 2 * i, 28, 2⟩
/-- ZEN.PG.CFG[NST], R342. -/
def F.ZEN_PG_CFG_NST (i : Nat) : Fld := ⟨0x70100 + 2 * i, 8, 9⟩
/-- ZEN.PG.CFG[FIRST], R342. -/
def F.ZEN_PG_CFG_FIRST (i : Nat) : Fld := ⟨0x70100 + 2 * i, 0, 8⟩
/-- The address of ZEN.PG.CFG. -/
def F.ZEN_PG_CFG (i : Nat) : Nat := 0x70100 + 2 * i
/-- ZEN.PG.STAT[CYCMAX], R343. -/
def F.ZEN_PG_STAT_CYCMAX (i : Nat) : Fld := ⟨0x70101 + 2 * i, 36, 12⟩
/-- ZEN.PG.STAT[CYCLAST], R343. -/
def F.ZEN_PG_STAT_CYCLAST (i : Nat) : Fld := ⟨0x70101 + 2 * i, 24, 12⟩
/-- ZEN.PG.STAT[SEQ], R343. -/
def F.ZEN_PG_STAT_SEQ (i : Nat) : Fld := ⟨0x70101 + 2 * i, 16, 8⟩
/-- ZEN.PG.STAT[OVRUN], R343. -/
def F.ZEN_PG_STAT_OVRUN (i : Nat) : Fld := ⟨0x70101 + 2 * i, 8, 8⟩
/-- ZEN.PG.STAT[ABORT], R343. -/
def F.ZEN_PG_STAT_ABORT (i : Nat) : Fld := ⟨0x70101 + 2 * i, 3, 1⟩
/-- ZEN.PG.STAT[QUEUED], R343. -/
def F.ZEN_PG_STAT_QUEUED (i : Nat) : Fld := ⟨0x70101 + 2 * i, 2, 1⟩
/-- ZEN.PG.STAT[RUNNING], R343. -/
def F.ZEN_PG_STAT_RUNNING (i : Nat) : Fld := ⟨0x70101 + 2 * i, 1, 1⟩
/-- ZEN.PG.STAT[DONE], R343. -/
def F.ZEN_PG_STAT_DONE (i : Nat) : Fld := ⟨0x70101 + 2 * i, 0, 1⟩
/-- The address of ZEN.PG.STAT. -/
def F.ZEN_PG_STAT (i : Nat) : Nat := 0x70101 + 2 * i
/-- ZEN.ST.CFG[ADAPT], R344. -/
def F.ZEN_ST_CFG_ADAPT (i : Nat) : Fld := ⟨0x70400 + 4 * i, 47, 1⟩
/-- ZEN.ST.CFG[EXP], R344. -/
def F.ZEN_ST_CFG_EXP (i : Nat) : Fld := ⟨0x70400 + 4 * i, 32, 8⟩
/-- ZEN.ST.CFG[EMIN], R344. -/
def F.ZEN_ST_CFG_EMIN (i : Nat) : Fld := ⟨0x70400 + 4 * i, 24, 8⟩
/-- ZEN.ST.CFG[EMAX], R344. -/
def F.ZEN_ST_CFG_EMAX (i : Nat) : Fld := ⟨0x70400 + 4 * i, 16, 8⟩
/-- ZEN.ST.CFG[ESTEP], R344. -/
def F.ZEN_ST_CFG_ESTEP (i : Nat) : Fld := ⟨0x70400 + 4 * i, 12, 4⟩
/-- ZEN.ST.CFG[HT], R344. -/
def F.ZEN_ST_CFG_HT (i : Nat) : Fld := ⟨0x70400 + 4 * i, 6, 6⟩
/-- The address of ZEN.ST.CFG. -/
def F.ZEN_ST_CFG (i : Nat) : Nat := 0x70400 + 4 * i
/-- ZEN.ST.BLK[COUNT], R344. -/
def F.ZEN_ST_BLK_COUNT (i : Nat) : Fld := ⟨0x70401 + 4 * i, 16, 10⟩
/-- ZEN.ST.BLK[FIRST], R344. -/
def F.ZEN_ST_BLK_FIRST (i : Nat) : Fld := ⟨0x70401 + 4 * i, 0, 10⟩
/-- The address of ZEN.ST.BLK. -/
def F.ZEN_ST_BLK (i : Nat) : Nat := 0x70401 + 4 * i
/-- ZEN.ST.EXP[E], R344. -/
def F.ZEN_ST_EXP_E (i : Nat) : Fld := ⟨0x70402 + 4 * i, 32, 8⟩
/-- ZEN.ST.EXP[ECHG], R344. -/
def F.ZEN_ST_EXP_ECHG (i : Nat) : Fld := ⟨0x70402 + 4 * i, 24, 8⟩
/-- ZEN.ST.EXP[HRMIN], R344. -/
def F.ZEN_ST_EXP_HRMIN (i : Nat) : Fld := ⟨0x70402 + 4 * i, 0, 6⟩
/-- The address of ZEN.ST.EXP. -/
def F.ZEN_ST_EXP (i : Nat) : Nat := 0x70402 + 4 * i
/-- ZEN.BK.CFG[TYPE], R347. -/
def F.ZEN_BK_CFG_TYPE (i : Nat) : Fld := ⟨0x72000 + 8 * i, 40, 8⟩
/-- ZEN.BK.CFG[ZEXP], R347. -/
def F.ZEN_BK_CFG_ZEXP (i : Nat) : Fld := ⟨0x72000 + 8 * i, 32, 8⟩
/-- ZEN.BK.CFG[OPT], R347. -/
def F.ZEN_BK_CFG_OPT (i : Nat) : Fld := ⟨0x72000 + 8 * i, 16, 8⟩
/-- ZEN.BK.CFG[BASE], R347. -/
def F.ZEN_BK_CFG_BASE (i : Nat) : Fld := ⟨0x72000 + 8 * i, 0, 12⟩
/-- The address of ZEN.BK.CFG. -/
def F.ZEN_BK_CFG (i : Nat) : Nat := 0x72000 + 8 * i
/-- ZEN.BK.STAT[EXEC], R358. -/
def F.ZEN_BK_STAT_EXEC (i : Nat) : Fld := ⟨0x72001 + 8 * i, 40, 8⟩
/-- ZEN.BK.STAT[WRAP], R358. -/
def F.ZEN_BK_STAT_WRAP (i : Nat) : Fld := ⟨0x72001 + 8 * i, 7, 1⟩
/-- ZEN.BK.STAT[LIM], R358. -/
def F.ZEN_BK_STAT_LIM (i : Nat) : Fld := ⟨0x72001 + 8 * i, 6, 1⟩
/-- ZEN.BK.STAT[INV], R358. -/
def F.ZEN_BK_STAT_INV (i : Nat) : Fld := ⟨0x72001 + 8 * i, 5, 1⟩
/-- ZEN.BK.STAT[RESTART], R358. -/
def F.ZEN_BK_STAT_RESTART (i : Nat) : Fld := ⟨0x72001 + 8 * i, 4, 1⟩
/-- ZEN.BK.STAT[FBACT], R358. -/
def F.ZEN_BK_STAT_FBACT (i : Nat) : Fld := ⟨0x72001 + 8 * i, 3, 1⟩
/-- ZEN.BK.STAT[LIMACT], R358. -/
def F.ZEN_BK_STAT_LIMACT (i : Nat) : Fld := ⟨0x72001 + 8 * i, 2, 1⟩
/-- ZEN.BK.STAT[INVACT], R358. -/
def F.ZEN_BK_STAT_INVACT (i : Nat) : Fld := ⟨0x72001 + 8 * i, 1, 1⟩
/-- The address of ZEN.BK.STAT. -/
def F.ZEN_BK_STAT (i : Nat) : Nat := 0x72001 + 8 * i
/-- ZEN.BK.SRC0[A], R349. -/
def F.ZEN_BK_SRC0_A (i : Nat) : Fld := ⟨0x72002 + 8 * i, 24, 24⟩
/-- ZEN.BK.SRC0[B], R349. -/
def F.ZEN_BK_SRC0_B (i : Nat) : Fld := ⟨0x72002 + 8 * i, 0, 24⟩
/-- The address of ZEN.BK.SRC0. -/
def F.ZEN_BK_SRC0 (i : Nat) : Nat := 0x72002 + 8 * i
/-- ZEN.BK.SRC1[A], R349. -/
def F.ZEN_BK_SRC1_A (i : Nat) : Fld := ⟨0x72003 + 8 * i, 24, 24⟩
/-- ZEN.BK.SRC1[B], R349. -/
def F.ZEN_BK_SRC1_B (i : Nat) : Fld := ⟨0x72003 + 8 * i, 0, 24⟩
/-- The address of ZEN.BK.SRC1. -/
def F.ZEN_BK_SRC1 (i : Nat) : Nat := 0x72003 + 8 * i
/-- ZEN.BK.SRC2[A], R349. -/
def F.ZEN_BK_SRC2_A (i : Nat) : Fld := ⟨0x72004 + 8 * i, 24, 24⟩
/-- ZEN.BK.SRC2[B], R349. -/
def F.ZEN_BK_SRC2_B (i : Nat) : Fld := ⟨0x72004 + 8 * i, 0, 24⟩
/-- The address of ZEN.BK.SRC2. -/
def F.ZEN_BK_SRC2 (i : Nat) : Nat := 0x72004 + 8 * i
/-- ZEN.BK.P0[P], R346. -/
def F.ZEN_BK_P0_P (i : Nat) : Fld := ⟨0x72005 + 8 * i, 0, 48⟩
/-- The address of ZEN.BK.P0. -/
def F.ZEN_BK_P0 (i : Nat) : Nat := 0x72005 + 8 * i
/-- ZEN.BK.P1[P], R346. -/
def F.ZEN_BK_P1_P (i : Nat) : Fld := ⟨0x72006 + 8 * i, 0, 48⟩
/-- The address of ZEN.BK.P1. -/
def F.ZEN_BK_P1 (i : Nat) : Nat := 0x72006 + 8 * i
/-- ZEN.BK.P2[P], R346. -/
def F.ZEN_BK_P2_P (i : Nat) : Fld := ⟨0x72007 + 8 * i, 0, 48⟩
/-- The address of ZEN.BK.P2. -/
def F.ZEN_BK_P2 (i : Nat) : Nat := 0x72007 + 8 * i

/-- Words of the Zen region, part 0. -/
def wordsZen0 : List WordDef := [
  ⟨"ZEN.STAT", 0x70000, [], [fd 8 4 .ro 0x8, fd 3 1 .ro 0x0, fd 2 1 .ro 0x0, fd 1 1 .w1c 0x0, fd 0 1 .w1c 0x0]⟩,
  ⟨"ZEN.LMAP", 0x70001, [], [fd 36 4 .ro 0x8, fd 32 4 .ro 0xf, fd 0 32 .ro 0x76543210]⟩,
  ⟨"ZEN.MIG", 0x70002, [], [fd 40 8 .rc 0x0, fd 32 8 .rc 0x0, fd 20 4 .ro 0xf, fd 16 4 .ro 0xf, fd 15 1 .wo 0x0, fd 12 3 .wo 0x0, fd 0 4 .ro 0x0]⟩,
  ⟨"ZEN.WRAPST", 0x70003, [], [fd 40 8 .rc 0x0, fd 18 10 .ro 0x0, fd 8 10 .ro 0x0, fd 0 1 .w1c 0x0]⟩,
  ⟨"ZEN.SWTRG0", 0x70004, [], [fd 0 48 .wo 0x0]⟩,
  ⟨"ZEN.SWTRG1", 0x70005, [], [fd 0 16 .wo 0x0]⟩,
  ⟨"ZEN.PGRST0", 0x70006, [], [fd 0 48 .wo 0x0]⟩,
  ⟨"ZEN.PGRST1", 0x70007, [], [fd 0 16 .wo 0x0]⟩,
  ⟨"ZEN.LANE.STAT", 0x70010, [], [fd 16 8 .ro 0x0, fd 8 4 .ro 0x0, fd 4 1 .ro 0x0, fd 0 4 .ro 0x0]⟩,
  ⟨"ZEN.LANE.STAT", 0x70011, [], [fd 16 8 .ro 0x0, fd 8 4 .ro 0x1, fd 4 1 .ro 0x0, fd 0 4 .ro 0x0]⟩,
  ⟨"ZEN.LANE.STAT", 0x70012, [], [fd 16 8 .ro 0x0, fd 8 4 .ro 0x2, fd 4 1 .ro 0x0, fd 0 4 .ro 0x0]⟩,
  ⟨"ZEN.LANE.STAT", 0x70013, [], [fd 16 8 .ro 0x0, fd 8 4 .ro 0x3, fd 4 1 .ro 0x0, fd 0 4 .ro 0x0]⟩,
  ⟨"ZEN.LANE.STAT", 0x70014, [], [fd 16 8 .ro 0x0, fd 8 4 .ro 0x4, fd 4 1 .ro 0x0, fd 0 4 .ro 0x0]⟩,
  ⟨"ZEN.LANE.STAT", 0x70015, [], [fd 16 8 .ro 0x0, fd 8 4 .ro 0x5, fd 4 1 .ro 0x0, fd 0 4 .ro 0x0]⟩,
  ⟨"ZEN.LANE.STAT", 0x70016, [], [fd 16 8 .ro 0x0, fd 8 4 .ro 0x6, fd 4 1 .ro 0x0, fd 0 4 .ro 0x0]⟩,
  ⟨"ZEN.LANE.STAT", 0x70017, [], [fd 16 8 .ro 0x0, fd 8 4 .ro 0x7, fd 4 1 .ro 0x0, fd 0 4 .ro 0x0]⟩,
  ⟨"ZEN.LANE.STAT", 0x70018, [], [fd 16 8 .ro 0x0, fd 8 4 .ro 0xf, fd 4 1 .ro 0x0, fd 0 4 .ro 0x1]⟩,
  ⟨"ZEN.PG.CFG", 0x70100, [(64, 0x2)], [fd 47 1 .rw 0x0, fd 46 1 .rw 0x0 .cs, fd 44 2 .rw 0x0 .cs, fd 40 3 .rw 0x0 .cs, fd 39 1 .rw 0x0 .cs, fd 32 6 .rw 0x0 .cs, fd 31 1 .rw 0x0 .cs, fd 28 2 .rw 0x0 .cs, fd 8 9 .rw 0x1 .cs (.clamp 1 511), fd 0 8 .rw 0x0 .cs]⟩,
  ⟨"ZEN.PG.STAT", 0x70101, [(64, 0x2)], [fd 36 12 .rc 0x0, fd 24 12 .ro 0x0, fd 16 8 .ro 0x0, fd 8 8 .rc 0x0, fd 3 1 .w1c 0x0, fd 2 1 .ro 0x0, fd 1 1 .ro 0x0, fd 0 1 .w1c 0x0]⟩,
  ⟨"ZEN.ST.CFG", 0x70400, [(256, 0x4)], [fd 47 1 .rw 0x0 .cfg, fd 32 8 .rw 0x0 .cfg, fd 24 8 .rw 0x80 .cfg, fd 16 8 .rw 0x7f .cfg, fd 12 4 .rw 0x1 .cfg (.clamp 1 15), fd 6 6 .rw 0x4 .cfg (.clamp 0 47)]⟩]

/-- Words of the Zen region, part 1. -/
def wordsZen1 : List WordDef := [
  ⟨"ZEN.ST.BLK", 0x70401, [(256, 0x4)], [fd 16 10 .rw 0x1 .cfg (.clamp 1 1023), fd 0 10 .rw 0x0 .cfg]⟩,
  ⟨"ZEN.ST.EXP", 0x70402, [(256, 0x4)], [fd 32 8 .ro 0x0, fd 24 8 .rc 0x0, fd 0 6 .ro 0x0]⟩,
  ⟨"ZEN.BK.CFG", 0x72000, [(1024, 0x8)], [fd 40 8 .rw 0x0 .cfg, fd 32 8 .rw 0x0 .cfg, fd 16 8 .rw 0x0 .cfg, fd 0 12 .rw 0x0 .cfg]⟩,
  ⟨"ZEN.BK.STAT", 0x72001, [(1024, 0x8)], [fd 40 8 .ro 0x0, fd 7 1 .w1c 0x0, fd 6 1 .w1c 0x0, fd 5 1 .w1c 0x0, fd 4 1 .w1c 0x0, fd 3 1 .ro 0x0, fd 2 1 .ro 0x0, fd 1 1 .ro 0x0]⟩,
  ⟨"ZEN.BK.SRC0", 0x72002, [(1024, 0x8)], [fd 24 24 .rw 0x0 .cfg, fd 0 24 .rw 0x0 .cfg]⟩,
  ⟨"ZEN.BK.SRC1", 0x72003, [(1024, 0x8)], [fd 24 24 .rw 0x0 .cfg, fd 0 24 .rw 0x0 .cfg]⟩,
  ⟨"ZEN.BK.SRC2", 0x72004, [(1024, 0x8)], [fd 24 24 .rw 0x0 .cfg, fd 0 24 .rw 0x0 .cfg]⟩,
  ⟨"ZEN.BK.P0", 0x72005, [(1024, 0x8)], [fd 0 48 .rw 0x0 .cs]⟩,
  ⟨"ZEN.BK.P1", 0x72006, [(1024, 0x8)], [fd 0 48 .rw 0x0 .cs]⟩,
  ⟨"ZEN.BK.P2", 0x72007, [(1024, 0x8)], [fd 0 48 .rw 0x0 .cs]⟩]

/-- The Zen region, its words. -/
def wordsZen : List WordDef := wordsZen0 ++ wordsZen1

/-! ### The Mot region -/

/-- MOT.CFG[PP], R391. -/
def F.MOT_CFG_PP (i : Nat) : Fld := ⟨0x90000 + 0x40 * i, 40, 8⟩
/-- MOT.CFG[ADV], R391. -/
def F.MOT_CFG_ADV (i : Nat) : Fld := ⟨0x90000 + 0x40 * i, 32, 8⟩
/-- MOT.CFG[PG], R391. -/
def F.MOT_CFG_PG (i : Nat) : Fld := ⟨0x90000 + 0x40 * i, 22, 6⟩
/-- MOT.CFG[AT], R391. -/
def F.MOT_CFG_AT (i : Nat) : Fld := ⟨0x90000 + 0x40 * i, 19, 3⟩
/-- MOT.CFG[CTRL], R391. -/
def F.MOT_CFG_CTRL (i : Nat) : Fld := ⟨0x90000 + 0x40 * i, 15, 1⟩
/-- MOT.CFG[FLYEN], R391. -/
def F.MOT_CFG_FLYEN (i : Nat) : Fld := ⟨0x90000 + 0x40 * i, 14, 1⟩
/-- MOT.CFG[START], R391. -/
def F.MOT_CFG_START (i : Nat) : Fld := ⟨0x90000 + 0x40 * i, 12, 2⟩
/-- MOT.CFG[PAIR], R391. -/
def F.MOT_CFG_PAIR (i : Nat) : Fld := ⟨0x90000 + 0x40 * i, 11, 1⟩
/-- MOT.CFG[GRP], R391. -/
def F.MOT_CFG_GRP (i : Nat) : Fld := ⟨0x90000 + 0x40 * i, 8, 3⟩
/-- MOT.CFG[CRST], R391. -/
def F.MOT_CFG_CRST (i : Nat) : Fld := ⟨0x90000 + 0x40 * i, 7, 1⟩
/-- MOT.CFG[FUNC], R391. -/
def F.MOT_CFG_FUNC (i : Nat) : Fld := ⟨0x90000 + 0x40 * i, 0, 4⟩
/-- The address of MOT.CFG. -/
def F.MOT_CFG (i : Nat) : Nat := 0x90000 + 0x40 * i
/-- MOT.SP[SP], R426. -/
def F.MOT_SP_SP (i : Nat) : Fld := ⟨0x90001 + 0x40 * i, 0, 48⟩
/-- The address of MOT.SP. -/
def F.MOT_SP (i : Nat) : Nat := 0x90001 + 0x40 * i
/-- MOT.SPE[SPE], R426. -/
def F.MOT_SPE_SPE (i : Nat) : Fld := ⟨0x90002 + 0x40 * i, 0, 48⟩
/-- The address of MOT.SPE. -/
def F.MOT_SPE (i : Nat) : Nat := 0x90002 + 0x40 * i
/-- MOT.MEAS[MEAS], R426. -/
def F.MOT_MEAS_MEAS (i : Nat) : Fld := ⟨0x90003 + 0x40 * i, 0, 48⟩
/-- The address of MOT.MEAS. -/
def F.MOT_MEAS (i : Nat) : Nat := 0x90003 + 0x40 * i
/-- MOT.FLAGS[STOP], R396. -/
def F.MOT_FLAGS_STOP (i : Nat) : Fld := ⟨0x90004 + 0x40 * i, 7, 1⟩
/-- MOT.FLAGS[SIX], R396. -/
def F.MOT_FLAGS_SIX (i : Nat) : Fld := ⟨0x90004 + 0x40 * i, 6, 1⟩
/-- MOT.FLAGS[SYNC], R396. -/
def F.MOT_FLAGS_SYNC (i : Nat) : Fld := ⟨0x90004 + 0x40 * i, 5, 1⟩
/-- MOT.FLAGS[REVB], R396. -/
def F.MOT_FLAGS_REVB (i : Nat) : Fld := ⟨0x90004 + 0x40 * i, 4, 1⟩
/-- MOT.FLAGS[INJQ], R396. -/
def F.MOT_FLAGS_INJQ (i : Nat) : Fld := ⟨0x90004 + 0x40 * i, 3, 1⟩
/-- MOT.FLAGS[HFI], R396. -/
def F.MOT_FLAGS_HFI (i : Nat) : Fld := ⟨0x90004 + 0x40 * i, 2, 1⟩
/-- MOT.FLAGS[SEQREF], R396. -/
def F.MOT_FLAGS_SEQREF (i : Nat) : Fld := ⟨0x90004 + 0x40 * i, 1, 1⟩
/-- MOT.FLAGS[RUN], R396. -/
def F.MOT_FLAGS_RUN (i : Nat) : Fld := ⟨0x90004 + 0x40 * i, 0, 1⟩
/-- The address of MOT.FLAGS. -/
def F.MOT_FLAGS (i : Nat) : Nat := 0x90004 + 0x40 * i
/-- MOT.IDREF[IDREF], R426. -/
def F.MOT_IDREF_IDREF (i : Nat) : Fld := ⟨0x90005 + 0x40 * i, 0, 48⟩
/-- The address of MOT.IDREF. -/
def F.MOT_IDREF (i : Nat) : Nat := 0x90005 + 0x40 * i
/-- MOT.IQREF[IQREF], R426. -/
def F.MOT_IQREF_IQREF (i : Nat) : Fld := ⟨0x90006 + 0x40 * i, 0, 48⟩
/-- The address of MOT.IQREF. -/
def F.MOT_IQREF (i : Nat) : Nat := 0x90006 + 0x40 * i
/-- MOT.STAT[CAUSE], R427. -/
def F.MOT_STAT_CAUSE (i : Nat) : Fld := ⟨0x90007 + 0x40 * i, 32, 8⟩
/-- MOT.STAT[STEP], R427. -/
def F.MOT_STAT_STEP (i : Nat) : Fld := ⟨0x90007 + 0x40 * i, 24, 4⟩
/-- MOT.STAT[OWN], R427. -/
def F.MOT_STAT_OWN (i : Nat) : Fld := ⟨0x90007 + 0x40 * i, 23, 1⟩
/-- MOT.STAT[CDIR], R427. -/
def F.MOT_STAT_CDIR (i : Nat) : Fld := ⟨0x90007 + 0x40 * i, 22, 1⟩
/-- MOT.STAT[POLOK], R427. -/
def F.MOT_STAT_POLOK (i : Nat) : Fld := ⟨0x90007 + 0x40 * i, 21, 1⟩
/-- MOT.STAT[ALIGNED], R427. -/
def F.MOT_STAT_ALIGNED (i : Nat) : Fld := ⟨0x90007 + 0x40 * i, 20, 1⟩
/-- MOT.STAT[CLRREF], R427. -/
def F.MOT_STAT_CLRREF (i : Nat) : Fld := ⟨0x90007 + 0x40 * i, 7, 1⟩
/-- MOT.STAT[SUPPR], R427. -/
def F.MOT_STAT_SUPPR (i : Nat) : Fld := ⟨0x90007 + 0x40 * i, 6, 1⟩
/-- MOT.STAT[KEWARN], R427. -/
def F.MOT_STAT_KEWARN (i : Nat) : Fld := ⟨0x90007 + 0x40 * i, 5, 1⟩
/-- MOT.STAT[STOPTO], R427. -/
def F.MOT_STAT_STOPTO (i : Nat) : Fld := ⟨0x90007 + 0x40 * i, 4, 1⟩
/-- The address of MOT.STAT. -/
def F.MOT_STAT (i : Nat) : Nat := 0x90007 + 0x40 * i
/-- MOT.CLR[CLR], R427. -/
def F.MOT_CLR_CLR (i : Nat) : Fld := ⟨0x90008 + 0x40 * i, 0, 1⟩
/-- The address of MOT.CLR. -/
def F.MOT_CLR (i : Nat) : Nat := 0x90008 + 0x40 * i
/-- MOT.SEQ[DCT], R428. -/
def F.MOT_SEQ_DCT (i : Nat) : Fld := ⟨0x90009 + 0x40 * i, 40, 8⟩
/-- MOT.SEQ[DCA], R428. -/
def F.MOT_SEQ_DCA (i : Nat) : Fld := ⟨0x90009 + 0x40 * i, 32, 8⟩
/-- MOT.SEQ[HFIT], R428. -/
def F.MOT_SEQ_HFIT (i : Nat) : Fld := ⟨0x90009 + 0x40 * i, 24, 8⟩
/-- MOT.SEQ[MAGT], R428. -/
def F.MOT_SEQ_MAGT (i : Nat) : Fld := ⟨0x90009 + 0x40 * i, 16, 8⟩
/-- MOT.SEQ[IDMAG], R428. -/
def F.MOT_SEQ_IDMAG (i : Nat) : Fld := ⟨0x90009 + 0x40 * i, 0, 16⟩
/-- The address of MOT.SEQ. -/
def F.MOT_SEQ (i : Nat) : Nat := 0x90009 + 0x40 * i
/-- MOT.PLS[PLSA], R428. -/
def F.MOT_PLS_PLSA (i : Nat) : Fld := ⟨0x9000a + 0x40 * i, 40, 8⟩
/-- MOT.PLS[PLSN], R428. -/
def F.MOT_PLS_PLSN (i : Nat) : Fld := ⟨0x9000a + 0x40 * i, 36, 4⟩
/-- MOT.PLS[PRST], R428. -/
def F.MOT_PLS_PRST (i : Nat) : Fld := ⟨0x9000a + 0x40 * i, 32, 4⟩
/-- MOT.PLS[PTHR], R428. -/
def F.MOT_PLS_PTHR (i : Nat) : Fld := ⟨0x9000a + 0x40 * i, 24, 8⟩
/-- MOT.PLS[PTRY], R428. -/
def F.MOT_PLS_PTRY (i : Nat) : Fld := ⟨0x9000a + 0x40 * i, 20, 4⟩
/-- The address of MOT.PLS. -/
def F.MOT_PLS (i : Nat) : Nat := 0x9000a + 0x40 * i
/-- MOT.CSTP[CSPD], R428. -/
def F.MOT_CSTP_CSPD (i : Nat) : Fld := ⟨0x9000b + 0x40 * i, 32, 16⟩
/-- MOT.CSTP[STOPSPD], R428. -/
def F.MOT_CSTP_STOPSPD (i : Nat) : Fld := ⟨0x9000b + 0x40 * i, 16, 16⟩
/-- MOT.CSTP[CDET], R428. -/
def F.MOT_CSTP_CDET (i : Nat) : Fld := ⟨0x9000b + 0x40 * i, 8, 8⟩
/-- MOT.CSTP[CLCK], R428. -/
def F.MOT_CSTP_CLCK (i : Nat) : Fld := ⟨0x9000b + 0x40 * i, 0, 8⟩
/-- The address of MOT.CSTP. -/
def F.MOT_CSTP (i : Nat) : Nat := 0x9000b + 0x40 * i
/-- MOT.CVS[CSET], R428. -/
def F.MOT_CVS_CSET (i : Nat) : Fld := ⟨0x9000c + 0x40 * i, 44, 4⟩
/-- MOT.CVS[STOPTMO], R428. -/
def F.MOT_CVS_STOPTMO (i : Nat) : Fld := ⟨0x9000c + 0x40 * i, 32, 8⟩
/-- MOT.CVS[ENOISE], R428. -/
def F.MOT_CVS_ENOISE (i : Nat) : Fld := ⟨0x9000c + 0x40 * i, 16, 16⟩
/-- MOT.CVS[BRKT], R428. -/
def F.MOT_CVS_BRKT (i : Nat) : Fld := ⟨0x9000c + 0x40 * i, 0, 16⟩
/-- The address of MOT.CVS. -/
def F.MOT_CVS (i : Nat) : Nat := 0x9000c + 0x40 * i
/-- MOT.CVG[CVG], R426. -/
def F.MOT_CVG_CVG (i : Nat) : Fld := ⟨0x9000d + 0x40 * i, 0, 48⟩
/-- The address of MOT.CVG. -/
def F.MOT_CVG (i : Nat) : Nat := 0x9000d + 0x40 * i
/-- MOT.CRES[EAMP], R428. -/
def F.MOT_CRES_EAMP (i : Nat) : Fld := ⟨0x9000e + 0x40 * i, 32, 16⟩
/-- MOT.CRES[NCAT], R428. -/
def F.MOT_CRES_NCAT (i : Nat) : Fld := ⟨0x9000e + 0x40 * i, 16, 16⟩
/-- MOT.CRES[PSIC], R428. -/
def F.MOT_CRES_PSIC (i : Nat) : Fld := ⟨0x9000e + 0x40 * i, 0, 16⟩
/-- The address of MOT.CRES. -/
def F.MOT_CRES (i : Nat) : Nat := 0x9000e + 0x40 * i
/-- MOT.MON[MONADDR], R429. -/
def F.MOT_MON_MONADDR (i : Nat) : Fld := ⟨0x9000f + 0x40 * i, 32, 16⟩
/-- MOT.MON[MONEXP], R429. -/
def F.MOT_MON_MONEXP (i : Nat) : Fld := ⟨0x9000f + 0x40 * i, 24, 8⟩
/-- The address of MOT.MON. -/
def F.MOT_MON (i : Nat) : Nat := 0x9000f + 0x40 * i
/-- MOT.KE[KEW], R429. -/
def F.MOT_KE_KEW (i : Nat) : Fld := ⟨0x90010 + 0x40 * i, 32, 16⟩
/-- MOT.KE[KEF], R429. -/
def F.MOT_KE_KEF (i : Nat) : Fld := ⟨0x90010 + 0x40 * i, 16, 16⟩
/-- MOT.KE[KEN], R429. -/
def F.MOT_KE_KEN (i : Nat) : Fld := ⟨0x90010 + 0x40 * i, 8, 8⟩
/-- MOT.KE[KEMIN], R429. -/
def F.MOT_KE_KEMIN (i : Nat) : Fld := ⟨0x90010 + 0x40 * i, 0, 8⟩
/-- The address of MOT.KE. -/
def F.MOT_KE (i : Nat) : Nat := 0x90010 + 0x40 * i
/-- MOT.KER[RATIO], R426. -/
def F.MOT_KER_RATIO (i : Nat) : Fld := ⟨0x90011 + 0x40 * i, 0, 24⟩
/-- The address of MOT.KER. -/
def F.MOT_KER (i : Nat) : Nat := 0x90011 + 0x40 * i
/-- MOT.OBS[FOBLK], R429. -/
def F.MOT_OBS_FOBLK (i : Nat) : Fld := ⟨0x90012 + 0x40 * i, 38, 10⟩
/-- MOT.OBS[AIBLK], R429. -/
def F.MOT_OBS_AIBLK (i : Nat) : Fld := ⟨0x90012 + 0x40 * i, 28, 10⟩
/-- MOT.OBS[FOEN], R429. -/
def F.MOT_OBS_FOEN (i : Nat) : Fld := ⟨0x90012 + 0x40 * i, 27, 1⟩
/-- MOT.OBS[AIEN], R429. -/
def F.MOT_OBS_AIEN (i : Nat) : Fld := ⟨0x90012 + 0x40 * i, 26, 1⟩
/-- MOT.OBS[HFISPD], R429. -/
def F.MOT_OBS_HFISPD (i : Nat) : Fld := ⟨0x90012 + 0x40 * i, 10, 16⟩
/-- The address of MOT.OBS. -/
def F.MOT_OBS (i : Nat) : Nat := 0x90012 + 0x40 * i
/-- MOT.SMP[EN], R399. -/
def F.MOT_SMP_EN (i : Nat) : Fld := ⟨0x90013 + 0x40 * i, 47, 1⟩
/-- MOT.SMP[XC], R399. -/
def F.MOT_SMP_XC (i : Nat) : Fld := ⟨0x90013 + 0x40 * i, 45, 2⟩
/-- MOT.SMP[SET], R399. -/
def F.MOT_SMP_SET (i : Nat) : Fld := ⟨0x90013 + 0x40 * i, 41, 4⟩
/-- MOT.SMP[POINT], R399. -/
def F.MOT_SMP_POINT (i : Nat) : Fld := ⟨0x90013 + 0x40 * i, 40, 1⟩
/-- The address of MOT.SMP. -/
def F.MOT_SMP (i : Nat) : Nat := 0x90013 + 0x40 * i
/-- MOT.LAD[EN], R429. -/
def F.MOT_LAD_EN (i : Nat) : Fld := ⟨0x90014 + 0x40 * i, 47, 1⟩
/-- MOT.LAD[P6], R429. -/
def F.MOT_LAD_P6 (i : Nat) : Fld := ⟨0x90014 + 0x40 * i, 44, 3⟩
/-- MOT.LAD[P6EN], R429. -/
def F.MOT_LAD_P6EN (i : Nat) : Fld := ⟨0x90014 + 0x40 * i, 43, 1⟩
/-- MOT.LAD[LADT], R429. -/
def F.MOT_LAD_LADT (i : Nat) : Fld := ⟨0x90014 + 0x40 * i, 32, 8⟩
/-- MOT.LAD[HYS], R429. -/
def F.MOT_LAD_HYS (i : Nat) : Fld := ⟨0x90014 + 0x40 * i, 24, 8⟩
/-- MOT.LAD[LSTEP], R429. -/
def F.MOT_LAD_LSTEP (i : Nat) : Fld := ⟨0x90014 + 0x40 * i, 6, 2⟩
/-- MOT.LAD[LPAT], R429. -/
def F.MOT_LAD_LPAT (i : Nat) : Fld := ⟨0x90014 + 0x40 * i, 3, 3⟩
/-- The address of MOT.LAD. -/
def F.MOT_LAD (i : Nat) : Nat := 0x90014 + 0x40 * i
/-- MOT.LORG[LORG], R426. -/
def F.MOT_LORG_LORG (i : Nat) : Fld := ⟨0x90015 + 0x40 * i, 0, 48⟩
/-- The address of MOT.LORG. -/
def F.MOT_LORG (i : Nat) : Nat := 0x90015 + 0x40 * i
/-- MOT.IDC[IDI], R429. -/
def F.MOT_IDC_IDI (i : Nat) : Fld := ⟨0x90016 + 0x40 * i, 32, 16⟩
/-- MOT.IDC[IDT], R429. -/
def F.MOT_IDC_IDT (i : Nat) : Fld := ⟨0x90016 + 0x40 * i, 24, 8⟩
/-- MOT.IDC[LRNF], R429. -/
def F.MOT_IDC_LRNF (i : Nat) : Fld := ⟨0x90016 + 0x40 * i, 16, 8⟩
/-- MOT.IDC[LRNI], R429. -/
def F.MOT_IDC_LRNI (i : Nat) : Fld := ⟨0x90016 + 0x40 * i, 0, 16⟩
/-- The address of MOT.IDC. -/
def F.MOT_IDC (i : Nat) : Nat := 0x90016 + 0x40 * i
/-- MOT.IDRES[DONE], R429. -/
def F.MOT_IDRES_DONE (i : Nat) : Fld := ⟨0x90017 + 0x40 * i, 8, 4⟩
/-- MOT.IDRES[FAIL], R429. -/
def F.MOT_IDRES_FAIL (i : Nat) : Fld := ⟨0x90017 + 0x40 * i, 4, 4⟩
/-- The address of MOT.IDRES. -/
def F.MOT_IDRES (i : Nat) : Nat := 0x90017 + 0x40 * i
/-- MOT.RS[RS], R426. -/
def F.MOT_RS_RS (i : Nat) : Fld := ⟨0x90018 + 0x40 * i, 0, 48⟩
/-- The address of MOT.RS. -/
def F.MOT_RS (i : Nat) : Nat := 0x90018 + 0x40 * i
/-- MOT.LD[LD], R426. -/
def F.MOT_LD_LD (i : Nat) : Fld := ⟨0x90019 + 0x40 * i, 0, 48⟩
/-- The address of MOT.LD. -/
def F.MOT_LD (i : Nat) : Nat := 0x90019 + 0x40 * i
/-- MOT.LQ[LQ], R426. -/
def F.MOT_LQ_LQ (i : Nat) : Fld := ⟨0x9001a + 0x40 * i, 0, 48⟩
/-- The address of MOT.LQ. -/
def F.MOT_LQ (i : Nat) : Nat := 0x9001a + 0x40 * i
/-- MOT.PSI[PSI], R426. -/
def F.MOT_PSI_PSI (i : Nat) : Fld := ⟨0x9001b + 0x40 * i, 0, 48⟩
/-- The address of MOT.PSI. -/
def F.MOT_PSI (i : Nat) : Nat := 0x9001b + 0x40 * i
/-- MOT.PAT[EN], R429. -/
def F.MOT_PAT_EN (i j : Nat) : Fld := ⟨0x90020 + 0x40 * i + 1 * j, 47, 1⟩
/-- MOT.PAT[FLO], R429. -/
def F.MOT_PAT_FLO (i j : Nat) : Fld := ⟨0x90020 + 0x40 * i + 1 * j, 32, 15⟩
/-- MOT.PAT[FHI], R429. -/
def F.MOT_PAT_FHI (i j : Nat) : Fld := ⟨0x90020 + 0x40 * i + 1 * j, 17, 15⟩
/-- MOT.PAT[MLO], R429. -/
def F.MOT_PAT_MLO (i j : Nat) : Fld := ⟨0x90020 + 0x40 * i + 1 * j, 8, 8⟩
/-- MOT.PAT[MHI], R429. -/
def F.MOT_PAT_MHI (i j : Nat) : Fld := ⟨0x90020 + 0x40 * i + 1 * j, 0, 8⟩
/-- The address of MOT.PAT. -/
def F.MOT_PAT (i j : Nat) : Nat := 0x90020 + 0x40 * i + 1 * j

/-- Words of the Mot region, part 0. -/
def wordsMot0 : List WordDef := [
  ⟨"MOT.CFG", 0x90000, [(4, 0x40)], [fd 40 8 .rw 0x1 .cfg (.clamp 1 255), fd 32 8 .rw 0x0 .cfg, fd 22 6 .rw 0x0 .cfg, fd 19 3 .rw 0x7 .cfg, fd 15 1 .rw 0x0 .cfg, fd 14 1 .rw 0x0 .cfg, fd 12 2 .rw 0x0 .cfg, fd 11 1 .rw 0x0 .cfg, fd 8 3 .rw 0x7 .cfg, fd 7 1 .rw 0x0 .cfg, fd 0 4 .rw 0x0 .cfg]⟩,
  ⟨"MOT.SP", 0x90001, [(4, 0x40)], [fd 0 48 .ro 0x0]⟩,
  ⟨"MOT.SPE", 0x90002, [(4, 0x40)], [fd 0 48 .ro 0x0]⟩,
  ⟨"MOT.MEAS", 0x90003, [(4, 0x40)], [fd 0 48 .ro 0x0]⟩,
  ⟨"MOT.FLAGS", 0x90004, [(4, 0x40)], [fd 7 1 .ro 0x0, fd 6 1 .ro 0x0, fd 5 1 .ro 0x0, fd 4 1 .ro 0x0, fd 3 1 .ro 0x0, fd 2 1 .ro 0x0, fd 1 1 .ro 0x0, fd 0 1 .ro 0x0]⟩,
  ⟨"MOT.IDREF", 0x90005, [(4, 0x40)], [fd 0 48 .ro 0x0]⟩,
  ⟨"MOT.IQREF", 0x90006, [(4, 0x40)], [fd 0 48 .ro 0x0]⟩,
  ⟨"MOT.STAT", 0x90007, [(4, 0x40)], [fd 32 8 .ro 0x0, fd 24 4 .ro 0x0, fd 23 1 .ro 0x1, fd 22 1 .ro 0x0, fd 21 1 .ro 0x0, fd 20 1 .ro 0x0, fd 7 1 .w1c 0x0, fd 6 1 .w1c 0x0, fd 5 1 .w1c 0x0, fd 4 1 .w1c 0x0]⟩,
  ⟨"MOT.CLR", 0x90008, [(4, 0x40)], [fd 0 1 .wo 0x0]⟩,
  ⟨"MOT.SEQ", 0x90009, [(4, 0x40)], [fd 40 8 .rw 0x32 .cs (.clamp 1 255), fd 32 8 .rw 0x20 .cs, fd 24 8 .rw 0x1e .cs (.clamp 1 255), fd 16 8 .rw 0x19 .cs (.clamp 1 255), fd 0 16 .rw 0x0 .cs]⟩,
  ⟨"MOT.PLS", 0x9000a, [(4, 0x40)], [fd 40 8 .rw 0x40 .cs, fd 36 4 .rw 0x2 .cs (.clamp 1 15), fd 32 4 .rw 0x4 .cs (.clamp 1 15), fd 24 8 .rw 0xa .cs (.clamp 1 100), fd 20 4 .rw 0x3 .cs (.clamp 1 15)]⟩,
  ⟨"MOT.CSTP", 0x9000b, [(4, 0x40)], [fd 32 16 .rw 0x12c .cs, fd 16 16 .rw 0x32 .cs, fd 8 8 .rw 0x2 .cs (.clamp 1 255), fd 0 8 .rw 0xa .cs (.clamp 1 255)]⟩]

/-- Words of the Mot region, part 1. -/
def wordsMot1 : List WordDef := [
  ⟨"MOT.CVS", 0x9000c, [(4, 0x40)], [fd 44 4 .rw 0x0 .cs, fd 32 8 .rw 0x32 .cs, fd 16 16 .rw 0xa .cs, fd 0 16 .rw 0x0 .cs]⟩,
  ⟨"MOT.CVG", 0x9000d, [(4, 0x40)], [fd 0 48 .rw 0x0 .cs]⟩,
  ⟨"MOT.CRES", 0x9000e, [(4, 0x40)], [fd 32 16 .ro 0x0, fd 16 16 .ro 0x0, fd 0 16 .ro 0x0]⟩,
  ⟨"MOT.MON", 0x9000f, [(4, 0x40)], [fd 32 16 .rw 0x0 .cfg, fd 24 8 .rw 0x0 .cfg]⟩,
  ⟨"MOT.KE", 0x90010, [(4, 0x40)], [fd 32 16 .rw 0x32 .cs, fd 16 16 .rw 0x64 .cs, fd 8 8 .rw 0x5 .cs (.clamp 1 255), fd 0 8 .rw 0xa .cs]⟩,
  ⟨"MOT.KER", 0x90011, [(4, 0x40)], [fd 0 24 .ro 0x0]⟩,
  ⟨"MOT.OBS", 0x90012, [(4, 0x40)], [fd 38 10 .rw 0x0 .cfg, fd 28 10 .rw 0x0 .cfg, fd 27 1 .rw 0x0 .cfg, fd 26 1 .rw 0x0 .cfg, fd 10 16 .rw 0x0 .cfg]⟩,
  ⟨"MOT.SMP", 0x90013, [(4, 0x40)], [fd 47 1 .rw 0x0 .cs, fd 45 2 .rw 0x0 .cs, fd 41 4 .rw 0x0 .cs, fd 40 1 .rw 0x0 .cs]⟩,
  ⟨"MOT.LAD", 0x90014, [(4, 0x40)], [fd 47 1 .rw 0x0 .cs, fd 44 3 .rw 0x0 .cs, fd 43 1 .rw 0x0 .cs, fd 32 8 .rw 0xa .cs (.clamp 1 255), fd 24 8 .rw 0x8 .cs, fd 6 2 .ro 0x0 .cs, fd 3 3 .ro 0x0 .cs]⟩,
  ⟨"MOT.LORG", 0x90015, [(4, 0x40)], [fd 0 48 .rw 0xc00000000000 .cs]⟩,
  ⟨"MOT.IDC", 0x90016, [(4, 0x40)], [fd 32 16 .rw 0x0 .cs, fd 24 8 .rw 0x64 .cs (.clamp 1 255), fd 16 8 .rw 0x5 .cs (.clamp 1 255), fd 0 16 .rw 0x0 .cs]⟩,
  ⟨"MOT.IDRES", 0x90017, [(4, 0x40)], [fd 8 4 .ro 0x0, fd 4 4 .ro 0x0]⟩]

/-- Words of the Mot region, part 2. -/
def wordsMot2 : List WordDef := [
  ⟨"MOT.RS", 0x90018, [(4, 0x40)], [fd 0 48 .rw 0x0 .cs]⟩,
  ⟨"MOT.LD", 0x90019, [(4, 0x40)], [fd 0 48 .rw 0x0 .cs]⟩,
  ⟨"MOT.LQ", 0x9001a, [(4, 0x40)], [fd 0 48 .rw 0x0 .cs]⟩,
  ⟨"MOT.PSI", 0x9001b, [(4, 0x40)], [fd 0 48 .rw 0x0 .cs]⟩,
  ⟨"MOT.PAT", 0x90020, [(4, 0x40), (8, 0x1)], [fd 47 1 .rw 0x0 .cs, fd 32 15 .rw 0x0 .cs, fd 17 15 .rw 0x0 .cs, fd 8 8 .rw 0x0 .cs, fd 0 8 .rw 0x0 .cs]⟩]

/-- The Mot region, its words. -/
def wordsMot : List WordDef := wordsMot0 ++ wordsMot1 ++ wordsMot2

/-! ### The Cnv region -/

/-- CNV.BCFG[BSLEW], R454. -/
def F.CNV_BCFG_BSLEW : Fld := ⟨0xa0000, 32, 16⟩
/-- CNV.BCFG[BTMO], R454. -/
def F.CNV_BCFG_BTMO : Fld := ⟨0xa0000, 16, 16⟩
/-- CNV.BCFG[BSRC], R454. -/
def F.CNV_BCFG_BSRC : Fld := ⟨0xa0000, 8, 2⟩
/-- CNV.BCFG[BTOL], R454. -/
def F.CNV_BCFG_BTOL : Fld := ⟨0xa0000, 0, 8⟩
/-- The address of CNV.BCFG. -/
def F.CNV_BCFG : Nat := 0xa0000
/-- CNV.BLIM[MINPWR], R454. -/
def F.CNV_BLIM_MINPWR : Fld := ⟨0xa0001, 32, 16⟩
/-- CNV.BLIM[BFALL], R454. -/
def F.CNV_BLIM_BFALL : Fld := ⟨0xa0001, 16, 16⟩
/-- CNV.BLIM[BCOORD], R454. -/
def F.CNV_BLIM_BCOORD : Fld := ⟨0xa0001, 6, 10⟩
/-- CNV.BLIM[BPU], R454. -/
def F.CNV_BLIM_BPU : Fld := ⟨0xa0001, 5, 1⟩
/-- The address of CNV.BLIM. -/
def F.CNV_BLIM : Nat := 0xa0001
/-- CNV.HGRANT[HG], R454. -/
def F.CNV_HGRANT_HG : Fld := ⟨0xa0002, 0, 16⟩
/-- The address of CNV.HGRANT. -/
def F.CNV_HGRANT : Nat := 0xa0002
/-- CNV.BSTAT[GRANT], R455. -/
def F.CNV_BSTAT_GRANT : Fld := ⟨0xa0003, 32, 16⟩
/-- CNV.BSTAT[BL], R455. -/
def F.CNV_BSTAT_BL : Fld := ⟨0xa0003, 16, 16⟩
/-- CNV.BSTAT[USE], R455. -/
def F.CNV_BSTAT_USE : Fld := ⟨0xa0003, 0, 16⟩
/-- The address of CNV.BSTAT. -/
def F.CNV_BSTAT : Nat := 0xa0003
/-- CNV.BFLG[RAMPREM], R455. -/
def F.CNV_BFLG_RAMPREM : Fld := ⟨0xa0004, 32, 16⟩
/-- CNV.BFLG[CUTCNT], R455. -/
def F.CNV_BFLG_CUTCNT : Fld := ⟨0xa0004, 16, 8⟩
/-- CNV.BFLG[LEASE], R455. -/
def F.CNV_BFLG_LEASE : Fld := ⟨0xa0004, 5, 1⟩
/-- CNV.BFLG[BUSOK], R455. -/
def F.CNV_BFLG_BUSOK : Fld := ⟨0xa0004, 4, 1⟩
/-- CNV.BFLG[RAMP], R455. -/
def F.CNV_BFLG_RAMP : Fld := ⟨0xa0004, 3, 1⟩
/-- CNV.BFLG[BUDFLT], R455. -/
def F.CNV_BFLG_BUDFLT : Fld := ⟨0xa0004, 2, 1⟩
/-- CNV.BFLG[BUDGET_OVER], R455. -/
def F.CNV_BFLG_BUDGET_OVER : Fld := ⟨0xa0004, 1, 1⟩
/-- CNV.BFLG[BOVL], R455. -/
def F.CNV_BFLG_BOVL : Fld := ⟨0xa0004, 0, 1⟩
/-- The address of CNV.BFLG. -/
def F.CNV_BFLG : Nat := 0xa0004
/-- CNV.CCFG[PMAX], R456. -/
def F.CNV_CCFG_PMAX (i : Nat) : Fld := ⟨0xa0010 + 0x10 * i, 32, 16⟩
/-- CNV.CCFG[SYNCT], R456. -/
def F.CNV_CCFG_SYNCT (i : Nat) : Fld := ⟨0xa0010 + 0x10 * i, 24, 8⟩
/-- CNV.CCFG[SYNCTMO], R456. -/
def F.CNV_CCFG_SYNCTMO (i : Nat) : Fld := ⟨0xa0010 + 0x10 * i, 16, 8⟩
/-- CNV.CCFG[PSTOP], R456. -/
def F.CNV_CCFG_PSTOP (i : Nat) : Fld := ⟨0xa0010 + 0x10 * i, 8, 8⟩
/-- CNV.CCFG[STOPTMO], R456. -/
def F.CNV_CCFG_STOPTMO (i : Nat) : Fld := ⟨0xa0010 + 0x10 * i, 1, 7⟩
/-- CNV.CCFG[BUDEN], R456. -/
def F.CNV_CCFG_BUDEN (i : Nat) : Fld := ⟨0xa0010 + 0x10 * i, 0, 1⟩
/-- The address of CNV.CCFG. -/
def F.CNV_CCFG (i : Nat) : Nat := 0xa0010 + 0x10 * i
/-- CNV.MON[MONADDR], R456. -/
def F.CNV_MON_MONADDR (i : Nat) : Fld := ⟨0xa0011 + 0x10 * i, 32, 16⟩
/-- CNV.MON[MONEXP], R456. -/
def F.CNV_MON_MONEXP (i : Nat) : Fld := ⟨0xa0011 + 0x10 * i, 24, 8⟩
/-- CNV.MON[VGMIN], R456. -/
def F.CNV_MON_VGMIN (i : Nat) : Fld := ⟨0xa0011 + 0x10 * i, 8, 16⟩
/-- The address of CNV.MON. -/
def F.CNV_MON (i : Nat) : Nat := 0xa0011 + 0x10 * i
/-- CNV.ILV[EN], R456. -/
def F.CNV_ILV_EN (i : Nat) : Fld := ⟨0xa0012 + 0x10 * i, 47, 1⟩
/-- CNV.ILV[NC], R456. -/
def F.CNV_ILV_NC (i : Nat) : Fld := ⟨0xa0012 + 0x10 * i, 40, 4⟩
/-- CNV.ILV[OFS], R456. -/
def F.CNV_ILV_OFS (i : Nat) : Fld := ⟨0xa0012 + 0x10 * i, 0, 24⟩
/-- The address of CNV.ILV. -/
def F.CNV_ILV (i : Nat) : Nat := 0xa0012 + 0x10 * i
/-- CNV.IEP[EPOCH], R456. -/
def F.CNV_IEP_EPOCH (i : Nat) : Fld := ⟨0xa0013 + 0x10 * i, 0, 48⟩
/-- The address of CNV.IEP. -/
def F.CNV_IEP (i : Nat) : Nat := 0xa0013 + 0x10 * i
/-- CNV.DAB[PHADDR], R456. -/
def F.CNV_DAB_PHADDR (i : Nat) : Fld := ⟨0xa0014 + 0x10 * i, 32, 16⟩
/-- CNV.DAB[PHEXP], R456. -/
def F.CNV_DAB_PHEXP (i : Nat) : Fld := ⟨0xa0014 + 0x10 * i, 24, 8⟩
/-- CNV.DAB[PHMAX], R456. -/
def F.CNV_DAB_PHMAX (i : Nat) : Fld := ⟨0xa0014 + 0x10 * i, 16, 8⟩
/-- CNV.DAB[PSTEP], R456. -/
def F.CNV_DAB_PSTEP (i : Nat) : Fld := ⟨0xa0014 + 0x10 * i, 0, 16⟩
/-- The address of CNV.DAB. -/
def F.CNV_DAB (i : Nat) : Nat := 0xa0014 + 0x10 * i
/-- CNV.VLIM[VLIM], R456. -/
def F.CNV_VLIM_VLIM (i : Nat) : Fld := ⟨0xa0015 + 0x10 * i, 0, 48⟩
/-- The address of CNV.VLIM. -/
def F.CNV_VLIM (i : Nat) : Nat := 0xa0015 + 0x10 * i
/-- CNV.SPE[SPE], R456. -/
def F.CNV_SPE_SPE (i : Nat) : Fld := ⟨0xa0016 + 0x10 * i, 0, 48⟩
/-- The address of CNV.SPE. -/
def F.CNV_SPE (i : Nat) : Nat := 0xa0016 + 0x10 * i
/-- CNV.PLIM[PLIM], R456. -/
def F.CNV_PLIM_PLIM (i : Nat) : Fld := ⟨0xa0017 + 0x10 * i, 0, 48⟩
/-- The address of CNV.PLIM. -/
def F.CNV_PLIM (i : Nat) : Nat := 0xa0017 + 0x10 * i
/-- CNV.STAT[PHM], R456. -/
def F.CNV_STAT_PHM (i : Nat) : Fld := ⟨0xa0018 + 0x10 * i, 24, 24⟩
/-- CNV.STAT[CCAUSE], R456. -/
def F.CNV_STAT_CCAUSE (i : Nat) : Fld := ⟨0xa0018 + 0x10 * i, 8, 8⟩
/-- CNV.STAT[CSTEP], R456. -/
def F.CNV_STAT_CSTEP (i : Nat) : Fld := ⟨0xa0018 + 0x10 * i, 0, 4⟩
/-- The address of CNV.STAT. -/
def F.CNV_STAT (i : Nat) : Nat := 0xa0018 + 0x10 * i

/-- Words of the Cnv region, part 0. -/
def wordsCnv0 : List WordDef := [
  ⟨"CNV.BCFG", 0xa0000, [], [fd 32 16 .rw 0x32 .cs (.clamp 1 65535), fd 16 16 .rw 0x1f4 .cs, fd 8 2 .rw 0x0 .cs, fd 0 8 .rw 0xa .cs]⟩,
  ⟨"CNV.BLIM", 0xa0001, [], [fd 32 16 .rw 0x0 .cs, fd 16 16 .rw 0x0 .cs, fd 6 10 .rw 0x0 .cs, fd 5 1 .rw 0x0 .cs]⟩,
  ⟨"CNV.HGRANT", 0xa0002, [], [fd 0 16 .rw 0xffff]⟩,
  ⟨"CNV.BSTAT", 0xa0003, [], [fd 32 16 .ro 0xffff, fd 16 16 .ro 0xffff, fd 0 16 .ro 0x0]⟩,
  ⟨"CNV.BFLG", 0xa0004, [], [fd 32 16 .ro 0x0, fd 16 8 .rc 0x0, fd 5 1 .ro 0x0, fd 4 1 .ro 0x0, fd 3 1 .ro 0x0, fd 2 1 .w1c 0x0, fd 1 1 .ro 0x0, fd 0 1 .w1c 0x0]⟩,
  ⟨"CNV.CCFG", 0xa0010, [(4, 0x10)], [fd 32 16 .rw 0x0 .cs, fd 24 8 .rw 0x14 .cs (.clamp 1 255), fd 16 8 .rw 0x64 .cs (.clamp 1 255), fd 8 8 .rw 0x5 .cs, fd 1 7 .rw 0x32 .cs, fd 0 1 .rw 0x0 .cs]⟩,
  ⟨"CNV.MON", 0xa0011, [(4, 0x10)], [fd 32 16 .rw 0x0 .cs, fd 24 8 .rw 0x0 .cs, fd 8 16 .rw 0x0 .cs]⟩,
  ⟨"CNV.ILV", 0xa0012, [(4, 0x10)], [fd 47 1 .rw 0x0 .cs, fd 40 4 .rw 0x4 .cs, fd 0 24 .rw 0x0 .cs]⟩,
  ⟨"CNV.IEP", 0xa0013, [(4, 0x10)], [fd 0 48 .rw 0x0 .cs]⟩,
  ⟨"CNV.DAB", 0xa0014, [(4, 0x10)], [fd 32 16 .rw 0x0 .cs, fd 24 8 .rw 0x0 .cs, fd 16 8 .rw 0x40 .cs (.clamp 1 64), fd 0 16 .rw 0x2000 .cs (.clamp 1 65535)]⟩,
  ⟨"CNV.VLIM", 0xa0015, [(4, 0x10)], [fd 0 48 .rw 0x0]⟩,
  ⟨"CNV.SPE", 0xa0016, [(4, 0x10)], [fd 0 48 .ro 0x0]⟩]

/-- Words of the Cnv region, part 1. -/
def wordsCnv1 : List WordDef := [
  ⟨"CNV.PLIM", 0xa0017, [(4, 0x10)], [fd 0 48 .ro 0x0]⟩,
  ⟨"CNV.STAT", 0xa0018, [(4, 0x10)], [fd 24 24 .ro 0x0, fd 8 8 .ro 0x0, fd 0 4 .ro 0x0]⟩]

/-- The Cnv region, its words. -/
def wordsCnv : List WordDef := wordsCnv0 ++ wordsCnv1

/-! ### The Prt region -/

/-- PRT.GEN[L19], R476. -/
def F.PRT_GEN_L19 : Fld := ⟨0xb000e, 1, 1⟩
/-- PRT.GEN[L18], R476. -/
def F.PRT_GEN_L18 : Fld := ⟨0xb000e, 0, 1⟩
/-- The address of PRT.GEN. -/
def F.PRT_GEN : Nat := 0xb000e
/-- PRT.DCL[SET], R485. -/
def F.PRT_DCL_SET : Fld := ⟨0xb0000, 44, 4⟩
/-- PRT.DCL[SLOT], R485. -/
def F.PRT_DCL_SLOT : Fld := ⟨0xb0000, 40, 4⟩
/-- PRT.DCL[CMPEN], R485. -/
def F.PRT_DCL_CMPEN : Fld := ⟨0xb0000, 39, 1⟩
/-- PRT.DCL[CMP], R485. -/
def F.PRT_DCL_CMP : Fld := ⟨0xb0000, 34, 5⟩
/-- PRT.DCL[VTMO], R485. -/
def F.PRT_DCL_VTMO : Fld := ⟨0xb0000, 16, 8⟩
/-- PRT.DCL[HYST], R485. -/
def F.PRT_DCL_HYST : Fld := ⟨0xb0000, 8, 8⟩
/-- PRT.DCL[UV1PCT], R485. -/
def F.PRT_DCL_UV1PCT : Fld := ⟨0xb0000, 0, 8⟩
/-- The address of PRT.DCL. -/
def F.PRT_DCL : Nat := 0xb0000
/-- PRT.VSC[VSC], R485. -/
def F.PRT_VSC_VSC : Fld := ⟨0xb0001, 0, 48⟩
/-- The address of PRT.VSC. -/
def F.PRT_VSC : Nat := 0xb0001
/-- PRT.DCT0[UV2], R485. -/
def F.PRT_DCT0_UV2 : Fld := ⟨0xb0002, 32, 16⟩
/-- PRT.DCT0[UV1], R485. -/
def F.PRT_DCT0_UV1 : Fld := ⟨0xb0002, 16, 16⟩
/-- PRT.DCT0[OV1], R485. -/
def F.PRT_DCT0_OV1 : Fld := ⟨0xb0002, 0, 16⟩
/-- The address of PRT.DCT0. -/
def F.PRT_DCT0 : Nat := 0xb0002
/-- PRT.DCT1[OV2OFF], R485. -/
def F.PRT_DCT1_OV2OFF : Fld := ⟨0xb0003, 32, 16⟩
/-- PRT.DCT1[OV2ON], R485. -/
def F.PRT_DCT1_OV2ON : Fld := ⟨0xb0003, 16, 16⟩
/-- PRT.DCT1[OV3], R485. -/
def F.PRT_DCT1_OV3 : Fld := ⟨0xb0003, 0, 16⟩
/-- The address of PRT.DCT1. -/
def F.PRT_DCT1 : Nat := 0xb0003
/-- PRT.PCH[PCEN], R485. -/
def F.PRT_PCH_PCEN : Fld := ⟨0xb0004, 47, 1⟩
/-- PRT.PCH[GPIO], R485. -/
def F.PRT_PCH_GPIO : Fld := ⟨0xb0004, 44, 3⟩
/-- PRT.PCH[PCEND], R485. -/
def F.PRT_PCH_PCEND : Fld := ⟨0xb0004, 32, 12⟩
/-- PRT.PCH[PCTMIN], R485. -/
def F.PRT_PCH_PCTMIN : Fld := ⟨0xb0004, 24, 8⟩
/-- PRT.PCH[PCT1], R485. -/
def F.PRT_PCH_PCT1 : Fld := ⟨0xb0004, 16, 8⟩
/-- PRT.PCH[PCV1], R485. -/
def F.PRT_PCH_PCV1 : Fld := ⟨0xb0004, 8, 8⟩
/-- PRT.PCH[PCTMAX], R485. -/
def F.PRT_PCH_PCTMAX : Fld := ⟨0xb0004, 0, 8⟩
/-- The address of PRT.PCH. -/
def F.PRT_PCH : Nat := 0xb0004
/-- PRT.CHP[LEG], R485. -/
def F.PRT_CHP_LEG : Fld := ⟨0xb0005, 46, 2⟩
/-- PRT.CHP[SW], R485. -/
def F.PRT_CHP_SW : Fld := ⟨0xb0005, 45, 1⟩
/-- PRT.CHP[MODE], R485. -/
def F.PRT_CHP_MODE : Fld := ⟨0xb0005, 44, 1⟩
/-- PRT.CHP[CMPEN], R485. -/
def F.PRT_CHP_CMPEN : Fld := ⟨0xb0005, 43, 1⟩
/-- PRT.CHP[CMP], R485. -/
def F.PRT_CHP_CMP : Fld := ⟨0xb0005, 38, 5⟩
/-- The address of PRT.CHP. -/
def F.PRT_CHP : Nat := 0xb0005
/-- PRT.DIS[PATH], R485. -/
def F.PRT_DIS_PATH : Fld := ⟨0xb0006, 46, 2⟩
/-- PRT.DIS[LEG], R485. -/
def F.PRT_DIS_LEG : Fld := ⟨0xb0006, 44, 2⟩
/-- PRT.DIS[SW], R485. -/
def F.PRT_DIS_SW : Fld := ⟨0xb0006, 43, 1⟩
/-- PRT.DIS[AXIS], R485. -/
def F.PRT_DIS_AXIS : Fld := ⟨0xb0006, 38, 2⟩
/-- PRT.DIS[DUTY], R485. -/
def F.PRT_DIS_DUTY : Fld := ⟨0xb0006, 28, 8⟩
/-- PRT.DIS[DTMO], R485. -/
def F.PRT_DIS_DTMO : Fld := ⟨0xb0006, 16, 12⟩
/-- PRT.DIS[DTGT], R485. -/
def F.PRT_DIS_DTGT : Fld := ⟨0xb0006, 0, 16⟩
/-- The address of PRT.DIS. -/
def F.PRT_DIS : Nat := 0xb0006
/-- PRT.FR[UV2], R487. -/
def F.PRT_FR_UV2 : Fld := ⟨0xb0007, 40, 4⟩
/-- PRT.FR[REFFLT], R487. -/
def F.PRT_FR_REFFLT : Fld := ⟨0xb0007, 36, 4⟩
/-- PRT.FR[CONV_DEAD], R487. -/
def F.PRT_FR_CONV_DEAD : Fld := ⟨0xb0007, 32, 4⟩
/-- PRT.FR[DLFAIL], R487. -/
def F.PRT_FR_DLFAIL : Fld := ⟨0xb0007, 28, 4⟩
/-- PRT.FR[DEGRADED], R487. -/
def F.PRT_FR_DEGRADED : Fld := ⟨0xb0007, 24, 4⟩
/-- PRT.FR[WRAP_DEV], R487. -/
def F.PRT_FR_WRAP_DEV : Fld := ⟨0xb0007, 20, 4⟩
/-- PRT.FR[BUDFLT], R487. -/
def F.PRT_FR_BUDFLT : Fld := ⟨0xb0007, 16, 4⟩
/-- PRT.FR[TRACKER], R487. -/
def F.PRT_FR_TRACKER : Fld := ⟨0xb0007, 12, 4⟩
/-- PRT.FR[WRAP], R487. -/
def F.PRT_FR_WRAP : Fld := ⟨0xb0007, 8, 4⟩
/-- PRT.FR[KEMF], R487. -/
def F.PRT_FR_KEMF : Fld := ⟨0xb0007, 4, 4⟩
/-- The address of PRT.FR. -/
def F.PRT_FR : Nat := 0xb0007
/-- PRT.STAT[VDC], R488. -/
def F.PRT_STAT_VDC : Fld := ⟨0xb0008, 32, 16⟩
/-- PRT.STAT[LEVEL], R488. -/
def F.PRT_STAT_LEVEL : Fld := ⟨0xb0008, 28, 4⟩
/-- PRT.STAT[PCRSN], R488. -/
def F.PRT_STAT_PCRSN : Fld := ⟨0xb0008, 8, 2⟩
/-- PRT.STAT[OV3X], R488. -/
def F.PRT_STAT_OV3X : Fld := ⟨0xb0008, 5, 1⟩
/-- PRT.STAT[OV2X], R488. -/
def F.PRT_STAT_OV2X : Fld := ⟨0xb0008, 4, 1⟩
/-- PRT.STAT[OV1X], R488. -/
def F.PRT_STAT_OV1X : Fld := ⟨0xb0008, 3, 1⟩
/-- PRT.STAT[UV1X], R488. -/
def F.PRT_STAT_UV1X : Fld := ⟨0xb0008, 2, 1⟩
/-- PRT.STAT[UV2X], R488. -/
def F.PRT_STAT_UV2X : Fld := ⟨0xb0008, 1, 1⟩
/-- PRT.STAT[VOK], R488. -/
def F.PRT_STAT_VOK : Fld := ⟨0xb0008, 0, 1⟩
/-- The address of PRT.STAT. -/
def F.PRT_STAT : Nat := 0xb0008
/-- PRT.RLIM[RLIM], R488. -/
def F.PRT_RLIM_RLIM : Fld := ⟨0xb0009, 0, 8⟩
/-- The address of PRT.RLIM. -/
def F.PRT_RLIM : Nat := 0xb0009
/-- PRT.MLIM[MLIM], R488. -/
def F.PRT_MLIM_MLIM : Fld := ⟨0xb000a, 0, 8⟩
/-- The address of PRT.MLIM. -/
def F.PRT_MLIM : Nat := 0xb000a
/-- PRT.CHS[CHONCNT], R488. -/
def F.PRT_CHS_CHONCNT : Fld := ⟨0xb000b, 40, 8⟩
/-- PRT.CHS[CHSTUCK], R488. -/
def F.PRT_CHS_CHSTUCK : Fld := ⟨0xb000b, 7, 1⟩
/-- PRT.CHS[CHDSAT], R488. -/
def F.PRT_CHS_CHDSAT : Fld := ⟨0xb000b, 6, 1⟩
/-- PRT.CHS[CHNOI], R488. -/
def F.PRT_CHS_CHNOI : Fld := ⟨0xb000b, 5, 1⟩
/-- PRT.CHS[CHFAIL], R488. -/
def F.PRT_CHS_CHFAIL : Fld := ⟨0xb000b, 4, 1⟩
/-- PRT.CHS[CHON], R488. -/
def F.PRT_CHS_CHON : Fld := ⟨0xb000b, 0, 1⟩
/-- The address of PRT.CHS. -/
def F.PRT_CHS : Nat := 0xb000b
/-- PRT.DFLT[VLOST], R488. -/
def F.PRT_DFLT_VLOST : Fld := ⟨0xb000c, 6, 1⟩
/-- PRT.DFLT[DISCH_TMO], R488. -/
def F.PRT_DFLT_DISCH_TMO : Fld := ⟨0xb000c, 5, 1⟩
/-- PRT.DFLT[PRECH], R488. -/
def F.PRT_DFLT_PRECH : Fld := ⟨0xb000c, 4, 1⟩
/-- PRT.DFLT[UV2], R488. -/
def F.PRT_DFLT_UV2 : Fld := ⟨0xb000c, 3, 1⟩
/-- PRT.DFLT[CHOPPER_STUCK], R488. -/
def F.PRT_DFLT_CHOPPER_STUCK : Fld := ⟨0xb000c, 2, 1⟩
/-- PRT.DFLT[OV2_NOCHOP], R488. -/
def F.PRT_DFLT_OV2_NOCHOP : Fld := ⟨0xb000c, 1, 1⟩
/-- PRT.DFLT[OV3], R488. -/
def F.PRT_DFLT_OV3 : Fld := ⟨0xb000c, 0, 1⟩
/-- The address of PRT.DFLT. -/
def F.PRT_DFLT : Nat := 0xb000c
/-- PRT.DISW[DISI], R485. -/
def F.PRT_DISW_DISI : Fld := ⟨0xb000d, 32, 16⟩
/-- PRT.DISW[DWSPD], R485. -/
def F.PRT_DISW_DWSPD : Fld := ⟨0xb000d, 16, 16⟩
/-- The address of PRT.DISW. -/
def F.PRT_DISW : Nat := 0xb000d
/-- PRT.SSC[ASCSPD], R489. -/
def F.PRT_SSC_ASCSPD (i : Nat) : Fld := ⟨0xb0010 + 4 * i, 32, 16⟩
/-- PRT.SSC[ASCOFF], R489. -/
def F.PRT_SSC_ASCOFF (i : Nat) : Fld := ⟨0xb0010 + 4 * i, 16, 16⟩
/-- PRT.SSC[SIDE], R489. -/
def F.PRT_SSC_SIDE (i : Nat) : Fld := ⟨0xb0010 + 4 * i, 14, 2⟩
/-- PRT.SSC[ASCEN], R489. -/
def F.PRT_SSC_ASCEN (i : Nat) : Fld := ⟨0xb0010 + 4 * i, 13, 1⟩
/-- PRT.SSC[ASCTMAX], R489. -/
def F.PRT_SSC_ASCTMAX (i : Nat) : Fld := ⟨0xb0010 + 4 * i, 0, 8⟩
/-- The address of PRT.SSC. -/
def F.PRT_SSC (i : Nat) : Nat := 0xb0010 + 4 * i
/-- PRT.SST[SCAUSE], R489. -/
def F.PRT_SST_SCAUSE (i : Nat) : Fld := ⟨0xb0011 + 4 * i, 8, 8⟩
/-- PRT.SST[UNKSPD], R489. -/
def F.PRT_SST_UNKSPD (i : Nat) : Fld := ⟨0xb0011 + 4 * i, 5, 1⟩
/-- PRT.SST[ASCABORT], R489. -/
def F.PRT_SST_ASCABORT (i : Nat) : Fld := ⟨0xb0011 + 4 * i, 4, 1⟩
/-- PRT.SST[STATE], R489. -/
def F.PRT_SST_STATE (i : Nat) : Fld := ⟨0xb0011 + 4 * i, 0, 2⟩
/-- The address of PRT.SST. -/
def F.PRT_SST (i : Nat) : Nat := 0xb0011 + 4 * i

/-- Words of the Prt region, part 0. -/
def wordsPrt0 : List WordDef := [
  ⟨"PRT.GEN", 0xb000e, [], [fd 1 1 .rw 0x0 .cfg, fd 0 1 .rw 0x0 .cfg]⟩,
  ⟨"PRT.DCL", 0xb0000, [], [fd 44 4 .rw 0x0 .cs, fd 40 4 .rw 0x0 .cs, fd 39 1 .rw 0x0 .cs, fd 34 5 .rw 0x0 .cs, fd 16 8 .rw 0xa .cs (.clamp 1 255), fd 8 8 .rw 0x5 .cs (.clamp 1 255), fd 0 8 .rw 0x32 .cs (.clamp 0 100)]⟩,
  ⟨"PRT.VSC", 0xb0001, [], [fd 0 48 .rw 0x0 .cs]⟩,
  ⟨"PRT.DCT0", 0xb0002, [], [fd 32 16 .rw 0x1c2 .cs, fd 16 16 .rw 0x208 .cs, fd 0 16 .rw 0x334 .cs]⟩,
  ⟨"PRT.DCT1", 0xb0003, [], [fd 32 16 .rw 0x348 .cs, fd 16 16 .rw 0x35c .cs, fd 0 16 .rw 0x384 .cs]⟩,
  ⟨"PRT.PCH", 0xb0004, [], [fd 47 1 .rw 0x0 .cs, fd 44 3 .rw 0x0 .cs, fd 32 12 .rw 0x0 .cs, fd 24 8 .rw 0x14 .cs, fd 16 8 .rw 0xa .cs, fd 8 8 .rw 0x32 .cs, fd 0 8 .rw 0xa .cs (.clamp 1 255)]⟩,
  ⟨"PRT.CHP", 0xb0005, [], [fd 46 2 .rw 0x0 .cs, fd 45 1 .rw 0x0 .cs, fd 44 1 .rw 0x0 .cs, fd 43 1 .rw 0x0 .cs, fd 38 5 .rw 0x0 .cs]⟩,
  ⟨"PRT.DIS", 0xb0006, [], [fd 46 2 .rw 0x0 .cs, fd 44 2 .rw 0x0 .cs, fd 43 1 .rw 0x0 .cs, fd 38 2 .rw 0x0 .cs, fd 28 8 .rw 0xff .cs, fd 16 12 .rw 0x32 .cs (.clamp 1 4095), fd 0 16 .rw 0x3c .cs]⟩,
  ⟨"PRT.FR", 0xb0007, [], [fd 40 4 .rw 0x3 .cfg (.dflt 1 6 3), fd 36 4 .rw 0x3 .cfg (.dflt 0 6 3), fd 32 4 .rw 0x3 .cfg (.dflt 0 6 3), fd 28 4 .rw 0x4 .cfg (.dflt 0 6 4), fd 24 4 .rw 0x0 .cfg (.dflt 0 6 0), fd 20 4 .rw 0x3 .cfg (.dflt 0 6 3), fd 16 4 .rw 0x1 .cfg (.dflt 1 6 1), fd 12 4 .rw 0x2 .cfg (.dflt 1 3 2), fd 8 4 .rw 0x1 .cfg (.dflt 1 3 1), fd 4 4 .rw 0x2 .cfg (.dflt 1 3 2)]⟩,
  ⟨"PRT.STAT", 0xb0008, [], [fd 32 16 .ro 0x0, fd 28 4 .ro 0x0, fd 8 2 .ro 0x0, fd 5 1 .w1c 0x0, fd 4 1 .w1c 0x0, fd 3 1 .w1c 0x0, fd 2 1 .w1c 0x0, fd 1 1 .w1c 0x0, fd 0 1 .ro 0x0]⟩,
  ⟨"PRT.RLIM", 0xb0009, [], [fd 0 8 .ro 0x64]⟩,
  ⟨"PRT.MLIM", 0xb000a, [], [fd 0 8 .ro 0x64]⟩]

/-- Words of the Prt region, part 1. -/
def wordsPrt1 : List WordDef := [
  ⟨"PRT.CHS", 0xb000b, [], [fd 40 8 .rc 0x0, fd 7 1 .w1c 0x0, fd 6 1 .w1c 0x0, fd 5 1 .w1c 0x0, fd 4 1 .w1c 0x0, fd 0 1 .ro 0x0]⟩,
  ⟨"PRT.DFLT", 0xb000c, [], [fd 6 1 .w1c 0x0, fd 5 1 .w1c 0x0, fd 4 1 .w1c 0x0, fd 3 1 .w1c 0x0, fd 2 1 .w1c 0x0, fd 1 1 .w1c 0x0, fd 0 1 .w1c 0x0]⟩,
  ⟨"PRT.DISW", 0xb000d, [], [fd 32 16 .rw 0x0 .cs, fd 16 16 .rw 0xa .cs]⟩,
  ⟨"PRT.SSC", 0xb0010, [(4, 0x4)], [fd 32 16 .rw 0x0 .cs, fd 16 16 .rw 0x0 .cs, fd 14 2 .rw 0x0 .cs, fd 13 1 .rw 0x0 .cs, fd 0 8 .rw 0x32 .cs (.clamp 1 255)]⟩,
  ⟨"PRT.SST", 0xb0011, [(4, 0x4)], [fd 8 8 .ro 0x0, fd 5 1 .w1c 0x0, fd 4 1 .w1c 0x0, fd 0 2 .ro 0x0]⟩]

/-- The Prt region, its words. -/
def wordsPrt : List WordDef := wordsPrt0 ++ wordsPrt1

/-! ### The Saf region -/

/-- SAF.STAT[ACKCNT], R525. -/
def F.SAF_STAT_ACKCNT : Fld := ⟨0xc0000, 40, 8⟩
/-- SAF.STAT[PROOFH], R525. -/
def F.SAF_STAT_PROOFH : Fld := ⟨0xc0000, 32, 8⟩
/-- SAF.STAT[DKIND], R525. -/
def F.SAF_STAT_DKIND : Fld := ⟨0xc0000, 26, 2⟩
/-- SAF.STAT[DEMACT], R525. -/
def F.SAF_STAT_DEMACT : Fld := ⟨0xc0000, 25, 1⟩
/-- SAF.STAT[DEFER], R525. -/
def F.SAF_STAT_DEFER : Fld := ⟨0xc0000, 24, 1⟩
/-- SAF.STAT[SS1RUN], R525. -/
def F.SAF_STAT_SS1RUN : Fld := ⟨0xc0000, 23, 1⟩
/-- SAF.STAT[STOPROOF], R525. -/
def F.SAF_STAT_STOPROOF : Fld := ⟨0xc0000, 22, 1⟩
/-- SAF.STAT[SELFOK], R525. -/
def F.SAF_STAT_SELFOK : Fld := ⟨0xc0000, 21, 1⟩
/-- SAF.STAT[PSETOK], R525. -/
def F.SAF_STAT_PSETOK : Fld := ⟨0xc0000, 20, 1⟩
/-- SAF.STAT[STOREQ], R525. -/
def F.SAF_STAT_STOREQ : Fld := ⟨0xc0000, 19, 1⟩
/-- SAF.STAT[SS1EXP], R525. -/
def F.SAF_STAT_SS1EXP : Fld := ⟨0xc0000, 18, 1⟩
/-- SAF.STAT[RVER], R525. -/
def F.SAF_STAT_RVER : Fld := ⟨0xc0000, 8, 8⟩
/-- The address of SAF.STAT. -/
def F.SAF_STAT : Nat := 0xc0000
/-- SAF.DEMAND[SIN], R525. -/
def F.SAF_DEMAND_SIN : Fld := ⟨0xc0001, 12, 1⟩
/-- SAF.DEMAND[SS1RAMP], R525. -/
def F.SAF_DEMAND_SS1RAMP : Fld := ⟨0xc0001, 11, 1⟩
/-- SAF.DEMAND[SSCHK], R525. -/
def F.SAF_DEMAND_SSCHK : Fld := ⟨0xc0001, 10, 1⟩
/-- SAF.DEMAND[ANGLE], R525. -/
def F.SAF_DEMAND_ANGLE : Fld := ⟨0xc0001, 9, 1⟩
/-- SAF.DEMAND[TREF], R525. -/
def F.SAF_DEMAND_TREF : Fld := ⟨0xc0001, 8, 1⟩
/-- SAF.DEMAND[REF], R525. -/
def F.SAF_DEMAND_REF : Fld := ⟨0xc0001, 7, 1⟩
/-- SAF.DEMAND[XCMP], R525. -/
def F.SAF_DEMAND_XCMP : Fld := ⟨0xc0001, 6, 1⟩
/-- SAF.DEMAND[TM], R525. -/
def F.SAF_DEMAND_TM : Fld := ⟨0xc0001, 4, 2⟩
/-- SAF.DEMAND[RCMP], R525. -/
def F.SAF_DEMAND_RCMP : Fld := ⟨0xc0001, 0, 4⟩
/-- The address of SAF.DEMAND. -/
def F.SAF_DEMAND : Nat := 0xc0001
/-- SAF.DIAG[MISMATCH], R525. -/
def F.SAF_DIAG_MISMATCH : Fld := ⟨0xc0002, 8, 1⟩
/-- SAF.DIAG[PSETCRC], R525. -/
def F.SAF_DIAG_PSETCRC : Fld := ⟨0xc0002, 7, 1⟩
/-- SAF.DIAG[STORB], R525. -/
def F.SAF_DIAG_STORB : Fld := ⟨0xc0002, 6, 1⟩
/-- SAF.DIAG[SACAL], R525. -/
def F.SAF_DIAG_SACAL : Fld := ⟨0xc0002, 5, 1⟩
/-- SAF.DIAG[SCLKMON], R525. -/
def F.SAF_DIAG_SCLKMON : Fld := ⟨0xc0002, 4, 1⟩
/-- SAF.DIAG[SOSCMON], R525. -/
def F.SAF_DIAG_SOSCMON : Fld := ⟨0xc0002, 3, 1⟩
/-- SAF.DIAG[RAMERR], R525. -/
def F.SAF_DIAG_RAMERR : Fld := ⟨0xc0002, 2, 1⟩
/-- SAF.DIAG[ROMCRC], R525. -/
def F.SAF_DIAG_ROMCRC : Fld := ⟨0xc0002, 1, 1⟩
/-- SAF.DIAG[LOCKSTEP], R525. -/
def F.SAF_DIAG_LOCKSTEP : Fld := ⟨0xc0002, 0, 1⟩
/-- The address of SAF.DIAG. -/
def F.SAF_DIAG : Nat := 0xc0002
/-- SAF.RB[STOA], R525. -/
def F.SAF_RB_STOA : Fld := ⟨0xc0003, 5, 1⟩
/-- SAF.RB[STOB], R525. -/
def F.SAF_RB_STOB : Fld := ⟨0xc0003, 4, 1⟩
/-- SAF.RB[SSOA], R525. -/
def F.SAF_RB_SSOA : Fld := ⟨0xc0003, 3, 1⟩
/-- SAF.RB[SSOB], R525. -/
def F.SAF_RB_SSOB : Fld := ⟨0xc0003, 2, 1⟩
/-- The address of SAF.RB. -/
def F.SAF_RB : Nat := 0xc0003
/-- SAF.PCRC[VALID], R525. -/
def F.SAF_PCRC_VALID : Fld := ⟨0xc0004, 32, 1⟩
/-- SAF.PCRC[CRC], R525. -/
def F.SAF_PCRC_CRC : Fld := ⟨0xc0004, 0, 32⟩
/-- The address of SAF.PCRC. -/
def F.SAF_PCRC : Nat := 0xc0004
/-- SAF.R[CODE], R525. -/
def F.SAF_R_CODE (i : Nat) : Fld := ⟨0xc0008 + 1 * i, 32, 12⟩
/-- SAF.R[VAL], R525. -/
def F.SAF_R_VAL (i : Nat) : Fld := ⟨0xc0008 + 1 * i, 0, 32⟩
/-- The address of SAF.R. -/
def F.SAF_R (i : Nat) : Nat := 0xc0008 + 1 * i
/-- SAF.TM.EST[TEST], R525. -/
def F.SAF_TM_EST_TEST (i : Nat) : Fld := ⟨0xc0010 + 2 * i, 32, 16⟩
/-- SAF.TM.EST[TREF], R525. -/
def F.SAF_TM_EST_TREF (i : Nat) : Fld := ⟨0xc0010 + 2 * i, 16, 16⟩
/-- SAF.TM.EST[SPD], R525. -/
def F.SAF_TM_EST_SPD (i : Nat) : Fld := ⟨0xc0010 + 2 * i, 0, 16⟩
/-- The address of SAF.TM.EST. -/
def F.SAF_TM_EST (i : Nat) : Nat := 0xc0010 + 2 * i
/-- SAF.TM.SST[FCNT], R525. -/
def F.SAF_TM_SST_FCNT (i : Nat) : Fld := ⟨0xc0011 + 2 * i, 8, 8⟩
/-- SAF.TM.SST[EXPECT], R525. -/
def F.SAF_TM_SST_EXPECT (i : Nat) : Fld := ⟨0xc0011 + 2 * i, 4, 2⟩
/-- SAF.TM.SST[MAINST], R525. -/
def F.SAF_TM_SST_MAINST (i : Nat) : Fld := ⟨0xc0011 + 2 * i, 2, 2⟩
/-- SAF.TM.SST[ANGOK], R525. -/
def F.SAF_TM_SST_ANGOK (i : Nat) : Fld := ⟨0xc0011 + 2 * i, 1, 1⟩
/-- SAF.TM.SST[ACTIVE], R525. -/
def F.SAF_TM_SST_ACTIVE (i : Nat) : Fld := ⟨0xc0011 + 2 * i, 0, 1⟩
/-- The address of SAF.TM.SST. -/
def F.SAF_TM_SST (i : Nat) : Nat := 0xc0011 + 2 * i

/-- Words of the Saf region, part 0. -/
def wordsSaf0 : List WordDef := [
  ⟨"SAF.STAT", 0xc0000, [], [fd 40 8 .ri 0x0, fd 32 8 .ri 0x0, fd 26 2 .ri 0x0, fd 25 1 .ri 0x0, fd 24 1 .ri 0x0, fd 23 1 .ri 0x0, fd 22 1 .ri 0x0, fd 21 1 .ri 0x0, fd 20 1 .ri 0x0, fd 19 1 .ri 0x1, fd 18 1 .ri 0x0, fd 8 8 .ri 0x1]⟩,
  ⟨"SAF.DEMAND", 0xc0001, [], [fd 12 1 .ri 0x0, fd 11 1 .ri 0x0, fd 10 1 .ri 0x0, fd 9 1 .ri 0x0, fd 8 1 .ri 0x0, fd 7 1 .ri 0x0, fd 6 1 .ri 0x0, fd 4 2 .ri 0x0, fd 0 4 .ri 0x0]⟩,
  ⟨"SAF.DIAG", 0xc0002, [], [fd 8 1 .ri 0x0, fd 7 1 .ri 0x0, fd 6 1 .ri 0x0, fd 5 1 .ri 0x0, fd 4 1 .ri 0x0, fd 3 1 .ri 0x0, fd 2 1 .ri 0x0, fd 1 1 .ri 0x0, fd 0 1 .ri 0x0]⟩,
  ⟨"SAF.RB", 0xc0003, [], [fd 5 1 .ri 0x0, fd 4 1 .ri 0x0, fd 3 1 .ri 0x0, fd 2 1 .ri 0x0]⟩,
  ⟨"SAF.PCRC", 0xc0004, [], [fd 32 1 .ri 0x0, fd 0 32 .ri 0x0]⟩,
  ⟨"SAF.R", 0xc0008, [(8, 0x1)], [fd 32 12 .ri 0x0, fd 0 32 .ri 0x0]⟩,
  ⟨"SAF.TM.EST", 0xc0010, [(2, 0x2)], [fd 32 16 .ri 0x0, fd 16 16 .ri 0x0, fd 0 16 .ri 0x0]⟩,
  ⟨"SAF.TM.SST", 0xc0011, [(2, 0x2)], [fd 8 8 .ri 0x0, fd 4 2 .ri 0x0, fd 2 2 .ri 0x0, fd 1 1 .ri 0x0, fd 0 1 .ri 0x0]⟩]

/-- The Saf region, its words. -/
def wordsSaf : List WordDef := wordsSaf0

/-! ### The Sin region -/

/-- SIN.SEC[PWSTG], R556. -/
def F.SIN_SEC_PWSTG : Fld := ⟨0xd0000, 5, 1⟩
/-- SIN.SEC[PWSET], R556. -/
def F.SIN_SEC_PWSET : Fld := ⟨0xd0000, 4, 1⟩
/-- SIN.SEC[CONFOK], R556. -/
def F.SIN_SEC_CONFOK : Fld := ⟨0xd0000, 3, 1⟩
/-- SIN.SEC[MODE], R556. -/
def F.SIN_SEC_MODE : Fld := ⟨0xd0000, 0, 2⟩
/-- The address of SIN.SEC. -/
def F.SIN_SEC : Nat := 0xd0000
/-- SIN.TP[PER], R556. -/
def F.SIN_TP_PER : Fld := ⟨0xd0001, 38, 10⟩
/-- SIN.TP[WID], R556. -/
def F.SIN_TP_WID : Fld := ⟨0xd0001, 31, 7⟩
/-- SIN.TP[EN], R556. -/
def F.SIN_TP_EN : Fld := ⟨0xd0001, 0, 4⟩
/-- The address of SIN.TP. -/
def F.SIN_TP : Nat := 0xd0001
/-- SIN.SSTAT[PERMIT], R556. -/
def F.SIN_SSTAT_PERMIT : Fld := ⟨0xd0002, 40, 8⟩
/-- SIN.SSTAT[LATCH], R556. -/
def F.SIN_SSTAT_LATCH : Fld := ⟨0xd0002, 32, 8⟩
/-- SIN.SSTAT[TPLVL], R556. -/
def F.SIN_SSTAT_TPLVL : Fld := ⟨0xd0002, 24, 4⟩
/-- SIN.SSTAT[STUPOK], R556. -/
def F.SIN_SSTAT_STUPOK : Fld := ⟨0xd0002, 16, 8⟩
/-- SIN.SSTAT[LVL], R556. -/
def F.SIN_SSTAT_LVL : Fld := ⟨0xd0002, 0, 16⟩
/-- The address of SIN.SSTAT. -/
def F.SIN_SSTAT : Nat := 0xd0002
/-- SIN.SRST[RST], R556. -/
def F.SIN_SRST_RST : Fld := ⟨0xd0003, 0, 8⟩
/-- The address of SIN.SRST. -/
def F.SIN_SRST : Nat := 0xd0003
/-- SIN.PCHK[STAGED], R556. -/
def F.SIN_PCHK_STAGED : Fld := ⟨0xd0004, 0, 32⟩
/-- The address of SIN.PCHK. -/
def F.SIN_PCHK : Nat := 0xd0004
/-- SIN.ACHK[INFORCE], R556. -/
def F.SIN_ACHK_INFORCE : Fld := ⟨0xd0005, 0, 32⟩
/-- The address of SIN.ACHK. -/
def F.SIN_ACHK : Nat := 0xd0005
/-- SIN.PWCTL[STG], R556. -/
def F.SIN_PWCTL_STG : Fld := ⟨0xd0006, 8, 1⟩
/-- SIN.PWCTL[LEN], R556. -/
def F.SIN_PWCTL_LEN : Fld := ⟨0xd0006, 0, 8⟩
/-- The address of SIN.PWCTL. -/
def F.SIN_PWCTL : Nat := 0xd0006
/-- SIN.LOGINFO[NEWSEQ], R556. -/
def F.SIN_LOGINFO_NEWSEQ : Fld := ⟨0xd0007, 16, 32⟩
/-- SIN.LOGINFO[COUNT], R556. -/
def F.SIN_LOGINFO_COUNT : Fld := ⟨0xd0007, 0, 11⟩
/-- The address of SIN.LOGINFO. -/
def F.SIN_LOGINFO : Nat := 0xd0007
/-- SIN.LOGSEL[IDX], R556. -/
def F.SIN_LOGSEL_IDX : Fld := ⟨0xd0008, 0, 10⟩
/-- The address of SIN.LOGSEL. -/
def F.SIN_LOGSEL : Nat := 0xd0008
/-- SIN.LOGE0[SEQ], R556. -/
def F.SIN_LOGE0_SEQ : Fld := ⟨0xd0009, 16, 32⟩
/-- SIN.LOGE0[EVENT], R556. -/
def F.SIN_LOGE0_EVENT : Fld := ⟨0xd0009, 8, 8⟩
/-- SIN.LOGE0[DETAIL], R556. -/
def F.SIN_LOGE0_DETAIL : Fld := ⟨0xd0009, 0, 8⟩
/-- The address of SIN.LOGE0. -/
def F.SIN_LOGE0 : Nat := 0xd0009
/-- SIN.LOGE1[TIME], R556. -/
def F.SIN_LOGE1_TIME : Fld := ⟨0xd000a, 0, 48⟩
/-- The address of SIN.LOGE1. -/
def F.SIN_LOGE1 : Nat := 0xd000a
/-- SIN.LOGE2[NEWCHK], R556. -/
def F.SIN_LOGE2_NEWCHK : Fld := ⟨0xd000b, 0, 32⟩
/-- The address of SIN.LOGE2. -/
def F.SIN_LOGE2 : Nat := 0xd000b
/-- SIN.LOGE3[OLDCHK], R556. -/
def F.SIN_LOGE3_OLDCHK : Fld := ⟨0xd000c, 0, 32⟩
/-- The address of SIN.LOGE3. -/
def F.SIN_LOGE3 : Nat := 0xd000c
/-- SIN.PW[BYTES], R556. -/
def F.SIN_PW_BYTES (i : Nat) : Fld := ⟨0xd0010 + 1 * i, 0, 48⟩
/-- The address of SIN.PW. -/
def F.SIN_PW (i : Nat) : Nat := 0xd0010 + 1 * i
/-- SIN.F.CFG[TYPE], R557. -/
def F.SIN_F_CFG_TYPE (i : Nat) : Fld := ⟨0xd0020 + 4 * i, 44, 4⟩
/-- SIN.F.CFG[CHA], R557. -/
def F.SIN_F_CFG_CHA (i : Nat) : Fld := ⟨0xd0020 + 4 * i, 40, 4⟩
/-- SIN.F.CFG[CHB], R557. -/
def F.SIN_F_CFG_CHB (i : Nat) : Fld := ⟨0xd0020 + 4 * i, 36, 4⟩
/-- SIN.F.CFG[CHC], R557. -/
def F.SIN_F_CFG_CHC (i : Nat) : Fld := ⟨0xd0020 + 4 * i, 32, 4⟩
/-- SIN.F.CFG[CHD], R557. -/
def F.SIN_F_CFG_CHD (i : Nat) : Fld := ⟨0xd0020 + 4 * i, 28, 4⟩
/-- SIN.F.CFG[ANTI], R557. -/
def F.SIN_F_CFG_ANTI (i : Nat) : Fld := ⟨0xd0020 + 4 * i, 27, 1⟩
/-- SIN.F.CFG[KIND], R557. -/
def F.SIN_F_CFG_KIND (i : Nat) : Fld := ⟨0xd0020 + 4 * i, 25, 2⟩
/-- SIN.F.CFG[AUTOR], R557. -/
def F.SIN_F_CFG_AUTOR (i : Nat) : Fld := ⟨0xd0020 + 4 * i, 24, 1⟩
/-- SIN.F.CFG[RSEL], R557. -/
def F.SIN_F_CFG_RSEL (i : Nat) : Fld := ⟨0xd0020 + 4 * i, 23, 1⟩
/-- SIN.F.CFG[RFN], R557. -/
def F.SIN_F_CFG_RFN (i : Nat) : Fld := ⟨0xd0020 + 4 * i, 20, 3⟩
/-- SIN.F.CFG[BYPEN], R557. -/
def F.SIN_F_CFG_BYPEN (i : Nat) : Fld := ⟨0xd0020 + 4 * i, 19, 1⟩
/-- SIN.F.CFG[BYPF], R557. -/
def F.SIN_F_CFG_BYPF (i : Nat) : Fld := ⟨0xd0020 + 4 * i, 16, 3⟩
/-- SIN.F.CFG[DISC], R557. -/
def F.SIN_F_CFG_DISC (i : Nat) : Fld := ⟨0xd0020 + 4 * i, 8, 8⟩
/-- SIN.F.CFG[FILT], R557. -/
def F.SIN_F_CFG_FILT (i : Nat) : Fld := ⟨0xd0020 + 4 * i, 0, 8⟩
/-- The address of SIN.F.CFG. -/
def F.SIN_F_CFG (i : Nat) : Nat := 0xd0020 + 4 * i
/-- SIN.F.SRC[MASK], R557. -/
def F.SIN_F_SRC_MASK (i : Nat) : Fld := ⟨0xd0021 + 4 * i, 16, 9⟩
/-- SIN.F.SRC[SRCD], R557. -/
def F.SIN_F_SRC_SRCD (i : Nat) : Fld := ⟨0xd0021 + 4 * i, 9, 3⟩
/-- SIN.F.SRC[SRCC], R557. -/
def F.SIN_F_SRC_SRCC (i : Nat) : Fld := ⟨0xd0021 + 4 * i, 6, 3⟩
/-- SIN.F.SRC[SRCB], R557. -/
def F.SIN_F_SRC_SRCB (i : Nat) : Fld := ⟨0xd0021 + 4 * i, 3, 3⟩
/-- SIN.F.SRC[SRCA], R557. -/
def F.SIN_F_SRC_SRCA (i : Nat) : Fld := ⟨0xd0021 + 4 * i, 0, 3⟩
/-- The address of SIN.F.SRC. -/
def F.SIN_F_SRC (i : Nat) : Nat := 0xd0021 + 4 * i
/-- SIN.F.STAT[CLVL], R557. -/
def F.SIN_F_STAT_CLVL (i : Nat) : Fld := ⟨0xd0022 + 4 * i, 12, 4⟩
/-- SIN.F.STAT[BYPACT], R557. -/
def F.SIN_F_STAT_BYPACT (i : Nat) : Fld := ⟨0xd0022 + 4 * i, 11, 1⟩
/-- SIN.F.STAT[SYNCX], R557. -/
def F.SIN_F_STAT_SYNCX (i : Nat) : Fld := ⟨0xd0022 + 4 * i, 10, 1⟩
/-- SIN.F.STAT[RSTSTUCK], R557. -/
def F.SIN_F_STAT_RSTSTUCK (i : Nat) : Fld := ⟨0xd0022 + 4 * i, 9, 1⟩
/-- SIN.F.STAT[FCLR], R557. -/
def F.SIN_F_STAT_FCLR (i : Nat) : Fld := ⟨0xd0022 + 4 * i, 8, 1⟩
/-- SIN.F.STAT[TPF], R557. -/
def F.SIN_F_STAT_TPF (i : Nat) : Fld := ⟨0xd0022 + 4 * i, 7, 1⟩
/-- SIN.F.STAT[DISCF], R557. -/
def F.SIN_F_STAT_DISCF (i : Nat) : Fld := ⟨0xd0022 + 4 * i, 6, 1⟩
/-- SIN.F.STAT[STUP], R557. -/
def F.SIN_F_STAT_STUP (i : Nat) : Fld := ⟨0xd0022 + 4 * i, 5, 1⟩
/-- SIN.F.STAT[LATCH], R557. -/
def F.SIN_F_STAT_LATCH (i : Nat) : Fld := ⟨0xd0022 + 4 * i, 4, 1⟩
/-- SIN.F.STAT[EFFP], R557. -/
def F.SIN_F_STAT_EFFP (i : Nat) : Fld := ⟨0xd0022 + 4 * i, 3, 1⟩
/-- SIN.F.STAT[PERMIT], R557. -/
def F.SIN_F_STAT_PERMIT (i : Nat) : Fld := ⟨0xd0022 + 4 * i, 2, 1⟩
/-- The address of SIN.F.STAT. -/
def F.SIN_F_STAT (i : Nat) : Nat := 0xd0022 + 4 * i
/-- SIN.RSCAN[CH], R521. -/
def F.SIN_RSCAN_CH (k : Nat) : Fld := ⟨0xd0100, 0 + 6 * k, 6⟩
/-- The address of SIN.RSCAN. -/
def F.SIN_RSCAN : Nat := 0xd0100
/-- SIN.RROLE[ROLE], R521. -/
def F.SIN_RROLE_ROLE (k : Nat) : Fld := ⟨0xd0101, 0 + 4 * k, 4⟩
/-- The address of SIN.RROLE. -/
def F.SIN_RROLE : Nat := 0xd0101
/-- SIN.RSTOP[DEFKIND], R521. -/
def F.SIN_RSTOP_DEFKIND : Fld := ⟨0xd0102, 46, 2⟩
/-- SIN.RSTOP[SS1MODE], R521. -/
def F.SIN_RSTOP_SS1MODE : Fld := ⟨0xd0102, 44, 2⟩
/-- SIN.RSTOP[SS1T], R521. -/
def F.SIN_RSTOP_SS1T : Fld := ⟨0xd0102, 32, 12⟩
/-- SIN.RSTOP[RDEC], R521. -/
def F.SIN_RSTOP_RDEC : Fld := ⟨0xd0102, 16, 16⟩
/-- SIN.RSTOP[RTOL], R521. -/
def F.SIN_RSTOP_RTOL : Fld := ⟨0xd0102, 8, 8⟩
/-- SIN.RSTOP[SSTILL], R521. -/
def F.SIN_RSTOP_SSTILL : Fld := ⟨0xd0102, 0, 8⟩
/-- The address of SIN.RSTOP. -/
def F.SIN_RSTOP : Nat := 0xd0102
/-- SIN.RSCL[OFS], R521. -/
def F.SIN_RSCL_OFS (i : Nat) : Fld := ⟨0xd0108 + 1 * i, 36, 12⟩
/-- SIN.RSCL[G], R521. -/
def F.SIN_RSCL_G (i : Nat) : Fld := ⟨0xd0108 + 1 * i, 8, 24⟩
/-- SIN.RSCL[F], R521. -/
def F.SIN_RSCL_F (i : Nat) : Fld := ⟨0xd0108 + 1 * i, 0, 8⟩
/-- The address of SIN.RSCL. -/
def F.SIN_RSCL (i : Nat) : Nat := 0xd0108 + 1 * i
/-- SIN.RXC[EN], R522. -/
def F.SIN_RXC_EN (i : Nat) : Fld := ⟨0xd0110 + 1 * i, 47, 1⟩
/-- SIN.RXC[SET], R522. -/
def F.SIN_RXC_SET (i : Nat) : Fld := ⟨0xd0110 + 1 * i, 43, 4⟩
/-- SIN.RXC[SLOT], R522. -/
def F.SIN_RXC_SLOT (i : Nat) : Fld := ⟨0xd0110 + 1 * i, 39, 4⟩
/-- SIN.RXC[TOL], R522. -/
def F.SIN_RXC_TOL (i : Nat) : Fld := ⟨0xd0110 + 1 * i, 16, 12⟩
/-- SIN.RXC[WIN], R522. -/
def F.SIN_RXC_WIN (i : Nat) : Fld := ⟨0xd0110 + 1 * i, 8, 8⟩
/-- SIN.RXC[NMISS], R522. -/
def F.SIN_RXC_NMISS (i : Nat) : Fld := ⟨0xd0110 + 1 * i, 0, 8⟩
/-- The address of SIN.RXC. -/
def F.SIN_RXC (i : Nat) : Nat := 0xd0110 + 1 * i
/-- SIN.RXS[OFSm], R522. -/
def F.SIN_RXS_OFSm (i : Nat) : Fld := ⟨0xd0118 + 1 * i, 32, 16⟩
/-- SIN.RXS[Gm], R522. -/
def F.SIN_RXS_Gm (i : Nat) : Fld := ⟨0xd0118 + 1 * i, 8, 24⟩
/-- SIN.RXS[Fm], R522. -/
def F.SIN_RXS_Fm (i : Nat) : Fld := ⟨0xd0118 + 1 * i, 0, 8⟩
/-- The address of SIN.RXS. -/
def F.SIN_RXS (i : Nat) : Nat := 0xd0118 + 1 * i
/-- SIN.RCMP[EN], R522. -/
def F.SIN_RCMP_EN (i : Nat) : Fld := ⟨0xd0120 + 1 * i, 47, 1⟩
/-- SIN.RCMP[MODE], R522. -/
def F.SIN_RCMP_MODE (i : Nat) : Fld := ⟨0xd0120 + 1 * i, 45, 2⟩
/-- SIN.RCMP[DEFER], R522. -/
def F.SIN_RCMP_DEFER (i : Nat) : Fld := ⟨0xd0120 + 1 * i, 44, 1⟩
/-- SIN.RCMP[CH], R522. -/
def F.SIN_RCMP_CH (i : Nat) : Fld := ⟨0xd0120 + 1 * i, 36, 6⟩
/-- SIN.RCMP[FILT], R522. -/
def F.SIN_RCMP_FILT (i : Nat) : Fld := ⟨0xd0120 + 1 * i, 32, 4⟩
/-- SIN.RCMP[HI], R522. -/
def F.SIN_RCMP_HI (i : Nat) : Fld := ⟨0xd0120 + 1 * i, 12, 12⟩
/-- SIN.RCMP[LO], R522. -/
def F.SIN_RCMP_LO (i : Nat) : Fld := ⟨0xd0120 + 1 * i, 0, 12⟩
/-- The address of SIN.RCMP. -/
def F.SIN_RCMP (i : Nat) : Nat := 0xd0120 + 1 * i
/-- SIN.RTM.CFG[EN], R523. -/
def F.SIN_RTM_CFG_EN (i : Nat) : Fld := ⟨0xd0128 + 8 * i, 47, 1⟩
/-- SIN.RTM.CFG[TAPCHK], R523. -/
def F.SIN_RTM_CFG_TAPCHK (i : Nat) : Fld := ⟨0xd0128 + 8 * i, 46, 1⟩
/-- SIN.RTM.CFG[AXIS], R523. -/
def F.SIN_RTM_CFG_AXIS (i : Nat) : Fld := ⟨0xd0128 + 8 * i, 44, 2⟩
/-- SIN.RTM.CFG[ASRC], R523. -/
def F.SIN_RTM_CFG_ASRC (i : Nat) : Fld := ⟨0xd0128 + 8 * i, 41, 3⟩
/-- SIN.RTM.CFG[TAPAT], R523. -/
def F.SIN_RTM_CFG_TAPAT (i : Nat) : Fld := ⟨0xd0128 + 8 * i, 38, 3⟩
/-- SIN.RTM.CFG[RRATIO], R523. -/
def F.SIN_RTM_CFG_RRATIO (i : Nat) : Fld := ⟨0xd0128 + 8 * i, 33, 5⟩
/-- SIN.RTM.CFG[PP], R523. -/
def F.SIN_RTM_CFG_PP (i : Nat) : Fld := ⟨0xd0128 + 8 * i, 24, 8⟩
/-- SIN.RTM.CFG[TFILT], R523. -/
def F.SIN_RTM_CFG_TFILT (i : Nat) : Fld := ⟨0xd0128 + 8 * i, 16, 8⟩
/-- SIN.RTM.CFG[AOFS], R523. -/
def F.SIN_RTM_CFG_AOFS (i : Nat) : Fld := ⟨0xd0128 + 8 * i, 8, 8⟩
/-- SIN.RTM.CFG[ADIFF], R523. -/
def F.SIN_RTM_CFG_ADIFF (i : Nat) : Fld := ⟨0xd0128 + 8 * i, 0, 8⟩
/-- The address of SIN.RTM.CFG. -/
def F.SIN_RTM_CFG (i : Nat) : Nat := 0xd0128 + 8 * i
/-- SIN.RTM.PSI[G], R523. -/
def F.SIN_RTM_PSI_G (i : Nat) : Fld := ⟨0xd0129 + 8 * i, 8, 24⟩
/-- SIN.RTM.PSI[F], R523. -/
def F.SIN_RTM_PSI_F (i : Nat) : Fld := ⟨0xd0129 + 8 * i, 0, 8⟩
/-- The address of SIN.RTM.PSI. -/
def F.SIN_RTM_PSI (i : Nat) : Nat := 0xd0129 + 8 * i
/-- SIN.RTM.LDQ[G], R523. -/
def F.SIN_RTM_LDQ_G (i : Nat) : Fld := ⟨0xd012a + 8 * i, 8, 24⟩
/-- SIN.RTM.LDQ[F], R523. -/
def F.SIN_RTM_LDQ_F (i : Nat) : Fld := ⟨0xd012a + 8 * i, 0, 8⟩
/-- The address of SIN.RTM.LDQ. -/
def F.SIN_RTM_LDQ (i : Nat) : Nat := 0xd012a + 8 * i
/-- SIN.RTM.LIM[TMAX], R523. -/
def F.SIN_RTM_LIM_TMAX (i : Nat) : Fld := ⟨0xd012b + 8 * i, 32, 16⟩
/-- SIN.RTM.LIM[TTOL], R523. -/
def F.SIN_RTM_LIM_TTOL (i : Nat) : Fld := ⟨0xd012b + 8 * i, 16, 16⟩
/-- SIN.RTM.LIM[T0], R523. -/
def F.SIN_RTM_LIM_T0 (i : Nat) : Fld := ⟨0xd012b + 8 * i, 8, 8⟩
/-- SIN.RTM.LIM[TREL], R523. -/
def F.SIN_RTM_LIM_TREL (i : Nat) : Fld := ⟨0xd012b + 8 * i, 0, 8⟩
/-- The address of SIN.RTM.LIM. -/
def F.SIN_RTM_LIM (i : Nat) : Nat := 0xd012b + 8 * i
/-- SIN.RTM.TREF[ADDR], R523. -/
def F.SIN_RTM_TREF_ADDR (i : Nat) : Fld := ⟨0xd012c + 8 * i, 32, 16⟩
/-- SIN.RTM.TREF[EXP], R523. -/
def F.SIN_RTM_TREF_EXP (i : Nat) : Fld := ⟨0xd012c + 8 * i, 24, 8⟩
/-- SIN.RTM.TREF[TRAGE], R523. -/
def F.SIN_RTM_TREF_TRAGE (i : Nat) : Fld := ⟨0xd012c + 8 * i, 16, 8⟩
/-- The address of SIN.RTM.TREF. -/
def F.SIN_RTM_TREF (i : Nat) : Nat := 0xd012c + 8 * i
/-- SIN.RTM.ASC[RASCSPD], R523. -/
def F.SIN_RTM_ASC_RASCSPD (i : Nat) : Fld := ⟨0xd012d + 8 * i, 32, 16⟩
/-- SIN.RTM.ASC[RISC], R523. -/
def F.SIN_RTM_ASC_RISC (i : Nat) : Fld := ⟨0xd012d + 8 * i, 16, 16⟩
/-- SIN.RTM.ASC[RASCMAX], R523. -/
def F.SIN_RTM_ASC_RASCMAX (i : Nat) : Fld := ⟨0xd012d + 8 * i, 8, 8⟩
/-- The address of SIN.RTM.ASC. -/
def F.SIN_RTM_ASC (i : Nat) : Nat := 0xd012d + 8 * i
/-- SIN.RACK[ACK], R523. -/
def F.SIN_RACK_ACK : Fld := ⟨0xd0140, 0, 1⟩
/-- The address of SIN.RACK. -/
def F.SIN_RACK : Nat := 0xd0140

/-- Words of the Sin region, part 0. -/
def wordsSin0 : List WordDef := [
  ⟨"SIN.SEC", 0xd0000, [], [fd 5 1 .ro 0x0, fd 4 1 .ro 0x0, fd 3 1 .ro 0x0, fd 0 2 .sl 0x2]⟩,
  ⟨"SIN.TP", 0xd0001, [], [fd 38 10 .sl 0x64 .any (.clamp 10 1000), fd 31 7 .sl 0x32 .any (.clamp 5 100), fd 0 4 .sl 0x0]⟩,
  ⟨"SIN.SSTAT", 0xd0002, [], [fd 40 8 .ri 0x0, fd 32 8 .ri 0x0, fd 24 4 .ri 0x0, fd 16 8 .ri 0x0, fd 0 16 .ri 0x0]⟩,
  ⟨"SIN.SRST", 0xd0003, [], [fd 0 8 .wo 0x0]⟩,
  ⟨"SIN.PCHK", 0xd0004, [], [fd 0 32 .ro 0x0]⟩,
  ⟨"SIN.ACHK", 0xd0005, [], [fd 0 32 .ro 0x0]⟩,
  ⟨"SIN.PWCTL", 0xd0006, [], [fd 8 1 .wo 0x0, fd 0 8 .wo 0x0]⟩,
  ⟨"SIN.LOGINFO", 0xd0007, [], [fd 16 32 .ro 0x0, fd 0 11 .ro 0x0]⟩,
  ⟨"SIN.LOGSEL", 0xd0008, [], [fd 0 10 .rw 0x0]⟩,
  ⟨"SIN.LOGE0", 0xd0009, [], [fd 16 32 .ro 0x0, fd 8 8 .ro 0x0, fd 0 8 .ro 0x0]⟩,
  ⟨"SIN.LOGE1", 0xd000a, [], [fd 0 48 .ro 0x0]⟩,
  ⟨"SIN.LOGE2", 0xd000b, [], [fd 0 32 .ro 0x0]⟩]

/-- Words of the Sin region, part 1. -/
def wordsSin1 : List WordDef := [
  ⟨"SIN.LOGE3", 0xd000c, [], [fd 0 32 .ro 0x0]⟩,
  ⟨"SIN.PW", 0xd0010, [(15, 0x1)], [fd 0 48 .wo 0x0]⟩,
  ⟨"SIN.F.CFG", 0xd0020, [(8, 0x4)], [fd 44 4 .sl 0x0, fd 40 4 .sl 0x0, fd 36 4 .sl 0x0, fd 32 4 .sl 0x0, fd 28 4 .sl 0x0, fd 27 1 .sl 0x0, fd 25 2 .sl 0x0, fd 24 1 .sl 0x0, fd 23 1 .sl 0x0, fd 20 3 .sl 0x0, fd 19 1 .sl 0x0, fd 16 3 .sl 0x0, fd 8 8 .sl 0x32 .any (.clamp 1 255), fd 0 8 .sl 0x2]⟩,
  ⟨"SIN.F.SRC", 0xd0021, [(8, 0x4)], [fd 16 9 .sl 0x0 .any (.clamp 0 299), fd 9 3 .sl 0x0, fd 6 3 .sl 0x0, fd 3 3 .sl 0x0, fd 0 3 .sl 0x0]⟩,
  ⟨"SIN.F.STAT", 0xd0022, [(8, 0x4)], [fd 12 4 .ri 0x0, fd 11 1 .ri 0x0, fd 10 1 .ri 0x0, fd 9 1 .ri 0x0, fd 8 1 .ri 0x0, fd 7 1 .ri 0x0, fd 6 1 .ri 0x0, fd 5 1 .ri 0x0, fd 4 1 .ri 0x0, fd 3 1 .ri 0x0, fd 2 1 .ri 0x0]⟩,
  ⟨"SIN.RSCAN", 0xd0100, [], [fd 0 6 .sl 0x3f, fd 6 6 .sl 0x3f, fd 12 6 .sl 0x3f, fd 18 6 .sl 0x3f, fd 24 6 .sl 0x3f, fd 30 6 .sl 0x3f, fd 36 6 .sl 0x3f, fd 42 6 .sl 0x3f]⟩,
  ⟨"SIN.RROLE", 0xd0101, [], [fd 0 4 .sl 0x0, fd 4 4 .sl 0x0, fd 8 4 .sl 0x0, fd 12 4 .sl 0x0, fd 16 4 .sl 0x0, fd 20 4 .sl 0x0, fd 24 4 .sl 0x0, fd 28 4 .sl 0x0]⟩,
  ⟨"SIN.RSTOP", 0xd0102, [], [fd 46 2 .sl 0x2, fd 44 2 .sl 0x0, fd 32 12 .sl 0x64 .any (.clamp 1 4095), fd 16 16 .sl 0x0, fd 8 8 .sl 0xa, fd 0 8 .sl 0xa]⟩,
  ⟨"SIN.RSCL", 0xd0108, [(8, 0x1)], [fd 36 12 .sl 0x0, fd 8 24 .sl 0x0, fd 0 8 .sl 0x0]⟩,
  ⟨"SIN.RXC", 0xd0110, [(8, 0x1)], [fd 47 1 .sl 0x0, fd 43 4 .sl 0x0, fd 39 4 .sl 0x0, fd 16 12 .sl 0x20, fd 8 8 .sl 0xa .any (.clamp 1 255), fd 0 8 .sl 0x3 .any (.clamp 1 255)]⟩,
  ⟨"SIN.RXS", 0xd0118, [(8, 0x1)], [fd 32 16 .sl 0x0, fd 8 24 .sl 0x0, fd 0 8 .sl 0x0]⟩,
  ⟨"SIN.RCMP", 0xd0120, [(4, 0x1)], [fd 47 1 .sl 0x0, fd 45 2 .sl 0x0, fd 44 1 .sl 0x0, fd 36 6 .sl 0x0, fd 32 4 .sl 0x0, fd 12 12 .sl 0xfff, fd 0 12 .sl 0x0]⟩]

/-- Words of the Sin region, part 2. -/
def wordsSin2 : List WordDef := [
  ⟨"SIN.RTM.CFG", 0xd0128, [(2, 0x8)], [fd 47 1 .sl 0x0, fd 46 1 .sl 0x0, fd 44 2 .sl 0x0, fd 41 3 .sl 0x0, fd 38 3 .sl 0x7, fd 33 5 .sl 0x1 .any (.clamp 1 31), fd 24 8 .sl 0x1 .any (.clamp 1 255), fd 16 8 .sl 0xa .any (.clamp 1 255), fd 8 8 .sl 0x0, fd 0 8 .sl 0x8]⟩,
  ⟨"SIN.RTM.PSI", 0xd0129, [(2, 0x8)], [fd 8 24 .sl 0x0, fd 0 8 .sl 0x0]⟩,
  ⟨"SIN.RTM.LDQ", 0xd012a, [(2, 0x8)], [fd 8 24 .sl 0x0, fd 0 8 .sl 0x0]⟩,
  ⟨"SIN.RTM.LIM", 0xd012b, [(2, 0x8)], [fd 32 16 .sl 0x0, fd 16 16 .sl 0x0, fd 8 8 .sl 0x0, fd 0 8 .sl 0x0]⟩,
  ⟨"SIN.RTM.TREF", 0xd012c, [(2, 0x8)], [fd 32 16 .sl 0x0, fd 24 8 .sl 0x0, fd 16 8 .sl 0xa .any (.clamp 1 255)]⟩,
  ⟨"SIN.RTM.ASC", 0xd012d, [(2, 0x8)], [fd 32 16 .sl 0x0, fd 16 16 .sl 0xffff, fd 8 8 .sl 0x0]⟩,
  ⟨"SIN.RACK", 0xd0140, [], [fd 0 1 .wo 0x0]⟩]

/-- The Sin region, its words. -/
def wordsSin : List WordDef := wordsSin0 ++ wordsSin1 ++ wordsSin2

/-! ### The Thm region -/

/-- THM.CFG[XTOL], R580. -/
def F.THM_CFG_XTOL : Fld := ⟨0xe0000, 40, 8⟩
/-- THM.CFG[XN], R580. -/
def F.THM_CFG_XN : Fld := ⟨0xe0000, 32, 8⟩
/-- THM.CFG[DINH], R580. -/
def F.THM_CFG_DINH : Fld := ⟨0xe0000, 16, 16⟩
/-- THM.CFG[PCTSLEW], R580. -/
def F.THM_CFG_PCTSLEW : Fld := ⟨0xe0000, 8, 8⟩
/-- The address of THM.CFG. -/
def F.THM_CFG : Nat := 0xe0000
/-- THM.STAT[TTH], R580. -/
def F.THM_STAT_TTH : Fld := ⟨0xe0001, 32, 16⟩
/-- THM.STAT[NTD], R580. -/
def F.THM_STAT_NTD : Fld := ⟨0xe0001, 28, 4⟩
/-- THM.STAT[PAIRDIS], R580. -/
def F.THM_STAT_PAIRDIS : Fld := ⟨0xe0001, 8, 1⟩
/-- THM.STAT[DEGR], R580. -/
def F.THM_STAT_DEGR : Fld := ⟨0xe0001, 7, 1⟩
/-- THM.STAT[DINH], R580. -/
def F.THM_STAT_DINH : Fld := ⟨0xe0001, 6, 1⟩
/-- THM.STAT[CHWIN], R580. -/
def F.THM_STAT_CHWIN : Fld := ⟨0xe0001, 5, 1⟩
/-- THM.STAT[STWIN], R580. -/
def F.THM_STAT_STWIN : Fld := ⟨0xe0001, 4, 1⟩
/-- THM.STAT[CHENT], R580. -/
def F.THM_STAT_CHENT : Fld := ⟨0xe0001, 3, 1⟩
/-- THM.STAT[STEP], R580. -/
def F.THM_STAT_STEP : Fld := ⟨0xe0001, 0, 3⟩
/-- The address of THM.STAT. -/
def F.THM_STAT : Nat := 0xe0001
/-- THM.THR[PCT], R580. -/
def F.THM_THR_PCT : Fld := ⟨0xe0002, 0, 8⟩
/-- The address of THM.THR. -/
def F.THM_THR : Nat := 0xe0002
/-- THM.EXCL[TEX], R580. -/
def F.THM_EXCL_TEX : Fld := ⟨0xe0003, 12, 12⟩
/-- THM.EXCL[TDX], R580. -/
def F.THM_EXCL_TDX : Fld := ⟨0xe0003, 0, 12⟩
/-- The address of THM.EXCL. -/
def F.THM_EXCL : Nat := 0xe0003
/-- THM.SHD[SHUT], R580. -/
def F.THM_SHD_SHUT : Fld := ⟨0xe0004, 12, 1⟩
/-- THM.SHD[TRIP], R580. -/
def F.THM_SHD_TRIP : Fld := ⟨0xe0004, 0, 12⟩
/-- The address of THM.SHD. -/
def F.THM_SHD : Nat := 0xe0004
/-- THM.STEP[THR], R580. -/
def F.THM_STEP_THR (i : Nat) : Fld := ⟨0xe0009 + 1 * i, 32, 16⟩
/-- THM.STEP[HYS], R580. -/
def F.THM_STEP_HYS (i : Nat) : Fld := ⟨0xe0009 + 1 * i, 24, 8⟩
/-- THM.STEP[LIM], R580. -/
def F.THM_STEP_LIM (i : Nat) : Fld := ⟨0xe0009 + 1 * i, 0, 8⟩
/-- The address of THM.STEP. -/
def F.THM_STEP (i : Nat) : Nat := 0xe0009 + 1 * i
/-- THM.TD[SHC], R581. -/
def F.THM_TD_SHC (i : Nat) : Fld := ⟨0xe0010 + 1 * i, 20, 1⟩
/-- THM.TD[XRSN], R581. -/
def F.THM_TD_XRSN (i : Nat) : Fld := ⟨0xe0010 + 1 * i, 18, 2⟩
/-- THM.TD[EXCL], R581. -/
def F.THM_TD_EXCL (i : Nat) : Fld := ⟨0xe0010 + 1 * i, 17, 1⟩
/-- THM.TD[VALID], R581. -/
def F.THM_TD_VALID (i : Nat) : Fld := ⟨0xe0010 + 1 * i, 16, 1⟩
/-- THM.TD[TEMP], R581. -/
def F.THM_TD_TEMP (i : Nat) : Fld := ⟨0xe0010 + 1 * i, 0, 16⟩
/-- The address of THM.TD. -/
def F.THM_TD (i : Nat) : Nat := 0xe0010 + 1 * i
/-- THM.TE.CFG[SET], R581. -/
def F.THM_TE_CFG_SET (i : Nat) : Fld := ⟨0xe0020 + 4 * i, 44, 4⟩
/-- THM.TE.CFG[SLOT], R581. -/
def F.THM_TE_CFG_SLOT (i : Nat) : Fld := ⟨0xe0020 + 4 * i, 40, 4⟩
/-- THM.TE.CFG[KIND], R581. -/
def F.THM_TE_CFG_KIND (i : Nat) : Fld := ⟨0xe0020 + 4 * i, 38, 2⟩
/-- THM.TE.CFG[ROLE], R581. -/
def F.THM_TE_CFG_ROLE (i : Nat) : Fld := ⟨0xe0020 + 4 * i, 36, 2⟩
/-- THM.TE.CFG[GRP], R581. -/
def F.THM_TE_CFG_GRP (i : Nat) : Fld := ⟨0xe0020 + 4 * i, 33, 3⟩
/-- THM.TE.CFG[OFS], R581. -/
def F.THM_TE_CFG_OFS (i : Nat) : Fld := ⟨0xe0020 + 4 * i, 16, 16⟩
/-- THM.TE.CFG[BETA], R581. -/
def F.THM_TE_CFG_BETA (i : Nat) : Fld := ⟨0xe0020 + 4 * i, 0, 16⟩
/-- The address of THM.TE.CFG. -/
def F.THM_TE_CFG (i : Nat) : Nat := 0xe0020 + 4 * i
/-- THM.TE.PAR[RNOM], R581. -/
def F.THM_TE_PAR_RNOM (i : Nat) : Fld := ⟨0xe0021 + 4 * i, 24, 24⟩
/-- THM.TE.PAR[RPU], R581. -/
def F.THM_TE_PAR_RPU (i : Nat) : Fld := ⟨0xe0021 + 4 * i, 0, 24⟩
/-- The address of THM.TE.PAR. -/
def F.THM_TE_PAR (i : Nat) : Nat := 0xe0021 + 4 * i
/-- THM.TE.WIN[LO], R581. -/
def F.THM_TE_WIN_LO (i : Nat) : Fld := ⟨0xe0022 + 4 * i, 32, 16⟩
/-- THM.TE.WIN[HI], R581. -/
def F.THM_TE_WIN_HI (i : Nat) : Fld := ⟨0xe0022 + 4 * i, 16, 16⟩
/-- THM.TE.WIN[WHYS], R581. -/
def F.THM_TE_WIN_WHYS (i : Nat) : Fld := ⟨0xe0022 + 4 * i, 8, 8⟩
/-- The address of THM.TE.WIN. -/
def F.THM_TE_WIN (i : Nat) : Nat := 0xe0022 + 4 * i
/-- THM.TE.VAL[OUTWIN], None. -/
def F.THM_TE_VAL_OUTWIN (i : Nat) : Fld := ⟨0xe0023 + 4 * i, 20, 1⟩
/-- THM.TE.VAL[XRSN], None. -/
def F.THM_TE_VAL_XRSN (i : Nat) : Fld := ⟨0xe0023 + 4 * i, 18, 2⟩
/-- THM.TE.VAL[EXCL], None. -/
def F.THM_TE_VAL_EXCL (i : Nat) : Fld := ⟨0xe0023 + 4 * i, 17, 1⟩
/-- THM.TE.VAL[VALID], None. -/
def F.THM_TE_VAL_VALID (i : Nat) : Fld := ⟨0xe0023 + 4 * i, 16, 1⟩
/-- THM.TE.VAL[TEMP], None. -/
def F.THM_TE_VAL_TEMP (i : Nat) : Fld := ⟨0xe0023 + 4 * i, 0, 16⟩
/-- The address of THM.TE.VAL. -/
def F.THM_TE_VAL (i : Nat) : Nat := 0xe0023 + 4 * i

/-- Words of the Thm region, part 0. -/
def wordsThm0 : List WordDef := [
  ⟨"THM.CFG", 0xe0000, [], [fd 40 8 .rw 0x78 .cs, fd 32 8 .rw 0x3 .cs (.clamp 1 255), fd 16 16 .rw 0x4b0 .cs, fd 8 8 .rw 0x2 .cs]⟩,
  ⟨"THM.STAT", 0xe0001, [], [fd 32 16 .ro 0x0 .cs, fd 28 4 .ro 0x0 .cs, fd 8 1 .w1c 0x0 .cs, fd 7 1 .ro 0x0 .cs, fd 6 1 .ro 0x0 .cs, fd 5 1 .ro 0x0 .cs, fd 4 1 .ro 0x0 .cs, fd 3 1 .ro 0x0 .cs, fd 0 3 .ro 0x0 .cs]⟩,
  ⟨"THM.THR", 0xe0002, [], [fd 0 8 .ro 0x64 .cs]⟩,
  ⟨"THM.EXCL", 0xe0003, [], [fd 12 12 .w1c 0x0 .cs, fd 0 12 .w1c 0x0 .cs]⟩,
  ⟨"THM.SHD", 0xe0004, [], [fd 12 1 .ri 0x0 .cs, fd 0 12 .ri 0x0 .cs]⟩,
  ⟨"THM.STEP", 0xe0009, [], [fd 32 16 .rw 0x398 .cs, fd 24 8 .rw 0x18 .cs, fd 0 8 .rw 0x5a .cs (.clamp 0 100)]⟩,
  ⟨"THM.STEP", 0xe000a, [], [fd 32 16 .rw 0x3c0 .cs, fd 24 8 .rw 0x18 .cs, fd 0 8 .rw 0x50 .cs (.clamp 0 100)]⟩,
  ⟨"THM.STEP", 0xe000b, [], [fd 32 16 .rw 0x3e8 .cs, fd 24 8 .rw 0x18 .cs, fd 0 8 .rw 0x46 .cs (.clamp 0 100)]⟩,
  ⟨"THM.STEP", 0xe000c, [], [fd 32 16 .rw 0x410 .cs, fd 24 8 .rw 0x18 .cs, fd 0 8 .rw 0x3c .cs (.clamp 0 100)]⟩,
  ⟨"THM.STEP", 0xe000d, [], [fd 32 16 .rw 0x438 .cs, fd 24 8 .rw 0x18 .cs, fd 0 8 .rw 0x32 .cs (.clamp 0 100)]⟩,
  ⟨"THM.STEP", 0xe000e, [], [fd 32 16 .rw 0x460 .cs, fd 24 8 .rw 0x18 .cs, fd 0 8 .rw 0x28 .cs (.clamp 0 100)]⟩,
  ⟨"THM.STEP", 0xe000f, [], [fd 32 16 .rw 0x488 .cs, fd 24 8 .rw 0x18 .cs, fd 0 8 .rw 0x19 .cs (.clamp 0 100)]⟩,
  ⟨"THM.TD", 0xe0010, [(12, 0x1)], [fd 20 1 .ro 0x0, fd 18 2 .ro 0x0, fd 17 1 .ro 0x0, fd 16 1 .ro 0x0, fd 0 16 .ro 0x0]⟩,
  ⟨"THM.TE.CFG", 0xe0020, [(12, 0x4)], [fd 44 4 .rw 0x0 .cs, fd 40 4 .rw 0x0 .cs, fd 38 2 .rw 0x0 .cs, fd 36 2 .rw 0x0 .cs, fd 33 3 .rw 0x0 .cs, fd 16 16 .rw 0x0 .cs, fd 0 16 .rw 0x0 .cs]⟩,
  ⟨"THM.TE.PAR", 0xe0021, [(12, 0x4)], [fd 24 24 .rw 0x0 .cs, fd 0 24 .rw 0x0 .cs]⟩,
  ⟨"THM.TE.WIN", 0xe0022, [(12, 0x4)], [fd 32 16 .rw 0x0 .cs, fd 16 16 .rw 0x0 .cs, fd 8 8 .rw 0x0 .cs]⟩,
  ⟨"THM.TE.VAL", 0xe0023, [(12, 0x4)], [fd 20 1 .ro 0x0, fd 18 2 .ro 0x0, fd 17 1 .ro 0x0, fd 16 1 .ro 0x0, fd 0 16 .ro 0x0]⟩]

/-- The Thm region, its words. -/
def wordsThm : List WordDef := wordsThm0

/-! ### The Pur region -/

/-- PUR.CFG[RETRY], R613. -/
def F.PUR_CFG_RETRY (i : Nat) : Fld := ⟨0xf0000 + 0x100 * i, 40, 8⟩
/-- PUR.CFG[TXPRI], R613. -/
def F.PUR_CFG_TXPRI (i : Nat) : Fld := ⟨0xf0000 + 0x100 * i, 34, 2⟩
/-- PUR.CFG[IDCHK], R613. -/
def F.PUR_CFG_IDCHK (i : Nat) : Fld := ⟨0xf0000 + 0x100 * i, 33, 1⟩
/-- PUR.CFG[SNOOP], R613. -/
def F.PUR_CFG_SNOOP (i : Nat) : Fld := ⟨0xf0000 + 0x100 * i, 32, 1⟩
/-- PUR.CFG[DEFACT], R613. -/
def F.PUR_CFG_DEFACT (i : Nat) : Fld := ⟨0xf0000 + 0x100 * i, 16, 2⟩
/-- PUR.CFG[TXINH], R613. -/
def F.PUR_CFG_TXINH (i : Nat) : Fld := ⟨0xf0000 + 0x100 * i, 2, 1⟩
/-- PUR.CFG[MODE], R613. -/
def F.PUR_CFG_MODE (i : Nat) : Fld := ⟨0xf0000 + 0x100 * i, 0, 2⟩
/-- The address of PUR.CFG. -/
def F.PUR_CFG (i : Nat) : Nat := 0xf0000 + 0x100 * i
/-- PUR.NBT[BRP], R613. -/
def F.PUR_NBT_BRP (i : Nat) : Fld := ⟨0xf0001 + 0x100 * i, 24, 8⟩
/-- PUR.NBT[TSEG1], R613. -/
def F.PUR_NBT_TSEG1 (i : Nat) : Fld := ⟨0xf0001 + 0x100 * i, 16, 8⟩
/-- PUR.NBT[TSEG2], R613. -/
def F.PUR_NBT_TSEG2 (i : Nat) : Fld := ⟨0xf0001 + 0x100 * i, 8, 7⟩
/-- PUR.NBT[SJW], R613. -/
def F.PUR_NBT_SJW (i : Nat) : Fld := ⟨0xf0001 + 0x100 * i, 0, 7⟩
/-- The address of PUR.NBT. -/
def F.PUR_NBT (i : Nat) : Nat := 0xf0001 + 0x100 * i
/-- PUR.DBT[TDCV], R613. -/
def F.PUR_DBT_TDCV (i : Nat) : Fld := ⟨0xf0002 + 0x100 * i, 41, 7⟩
/-- PUR.DBT[TDCEN], R613. -/
def F.PUR_DBT_TDCEN (i : Nat) : Fld := ⟨0xf0002 + 0x100 * i, 40, 1⟩
/-- PUR.DBT[TDCO], R613. -/
def F.PUR_DBT_TDCO (i : Nat) : Fld := ⟨0xf0002 + 0x100 * i, 32, 8⟩
/-- PUR.DBT[BRP], R613. -/
def F.PUR_DBT_BRP (i : Nat) : Fld := ⟨0xf0002 + 0x100 * i, 24, 8⟩
/-- PUR.DBT[TSEG1], R613. -/
def F.PUR_DBT_TSEG1 (i : Nat) : Fld := ⟨0xf0002 + 0x100 * i, 16, 8⟩
/-- PUR.DBT[TSEG2], R613. -/
def F.PUR_DBT_TSEG2 (i : Nat) : Fld := ⟨0xf0002 + 0x100 * i, 8, 7⟩
/-- PUR.DBT[SJW], R613. -/
def F.PUR_DBT_SJW (i : Nat) : Fld := ⟨0xf0002 + 0x100 * i, 0, 7⟩
/-- The address of PUR.DBT. -/
def F.PUR_DBT (i : Nat) : Nat := 0xf0002 + 0x100 * i
/-- PUR.ERR[IDERRS], R614. -/
def F.PUR_ERR_IDERRS (i : Nat) : Fld := ⟨0xf0003 + 0x100 * i, 40, 8⟩
/-- PUR.ERR[BOCNT], R614. -/
def F.PUR_ERR_BOCNT (i : Nat) : Fld := ⟨0xf0003 + 0x100 * i, 32, 8⟩
/-- PUR.ERR[TEC], R614. -/
def F.PUR_ERR_TEC (i : Nat) : Fld := ⟨0xf0003 + 0x100 * i, 24, 8⟩
/-- PUR.ERR[REC], R614. -/
def F.PUR_ERR_REC (i : Nat) : Fld := ⟨0xf0003 + 0x100 * i, 16, 8⟩
/-- PUR.ERR[LEC], R614. -/
def F.PUR_ERR_LEC (i : Nat) : Fld := ⟨0xf0003 + 0x100 * i, 13, 3⟩
/-- PUR.ERR[DATAPH], R614. -/
def F.PUR_ERR_DATAPH (i : Nat) : Fld := ⟨0xf0003 + 0x100 * i, 12, 1⟩
/-- PUR.ERR[RECSEQ], R614. -/
def F.PUR_ERR_RECSEQ (i : Nat) : Fld := ⟨0xf0003 + 0x100 * i, 5, 7⟩
/-- PUR.ERR[IDCOLL], R614. -/
def F.PUR_ERR_IDCOLL (i : Nat) : Fld := ⟨0xf0003 + 0x100 * i, 4, 1⟩
/-- PUR.ERR[BOFF], R614. -/
def F.PUR_ERR_BOFF (i : Nat) : Fld := ⟨0xf0003 + 0x100 * i, 3, 1⟩
/-- PUR.ERR[EPASS], R614. -/
def F.PUR_ERR_EPASS (i : Nat) : Fld := ⟨0xf0003 + 0x100 * i, 2, 1⟩
/-- PUR.ERR[STATE], R614. -/
def F.PUR_ERR_STATE (i : Nat) : Fld := ⟨0xf0003 + 0x100 * i, 0, 2⟩
/-- The address of PUR.ERR. -/
def F.PUR_ERR (i : Nat) : Nat := 0xf0003 + 0x100 * i
/-- PUR.TXCTL[ABORT], R614. -/
def F.PUR_TXCTL_ABORT (i : Nat) : Fld := ⟨0xf0004 + 0x100 * i, 0, 3⟩
/-- The address of PUR.TXCTL. -/
def F.PUR_TXCTL (i : Nat) : Nat := 0xf0004 + 0x100 * i
/-- PUR.TXST[ATT], R614. -/
def F.PUR_TXST_ATT (i k : Nat) : Fld := ⟨0xf0005 + 0x100 * i, 24 + 8 * k, 8⟩
/-- PUR.TXST[LOSTCNT], R614. -/
def F.PUR_TXST_LOSTCNT (i : Nat) : Fld := ⟨0xf0005 + 0x100 * i, 16, 8⟩
/-- PUR.TXST[ST], R614. -/
def F.PUR_TXST_ST (i k : Nat) : Fld := ⟨0xf0005 + 0x100 * i, 0 + 4 * k, 4⟩
/-- The address of PUR.TXST. -/
def F.PUR_TXST (i : Nat) : Nat := 0xf0005 + 0x100 * i
/-- PUR.FIFOST[RXOVR], R614. -/
def F.PUR_FIFOST_RXOVR (i : Nat) : Fld := ⟨0xf0006 + 0x100 * i, 40, 8⟩
/-- PUR.FIFOST[FULLN], R614. -/
def F.PUR_FIFOST_FULLN (i : Nat) : Fld := ⟨0xf0006 + 0x100 * i, 8, 7⟩
/-- PUR.FIFOST[USED], R614. -/
def F.PUR_FIFOST_USED (i : Nat) : Fld := ⟨0xf0006 + 0x100 * i, 0, 7⟩
/-- The address of PUR.FIFOST. -/
def F.PUR_FIFOST (i : Nat) : Nat := 0xf0006 + 0x100 * i
/-- PUR.PBSTAT[TS], R614. -/
def F.PUR_PBSTAT_TS (i : Nat) : Fld := ⟨0xf0007 + 0x100 * i, 8, 40⟩
/-- PUR.PBSTAT[OVR], R614. -/
def F.PUR_PBSTAT_OVR (i : Nat) : Fld := ⟨0xf0007 + 0x100 * i, 1, 1⟩
/-- PUR.PBSTAT[VALID], R614. -/
def F.PUR_PBSTAT_VALID (i : Nat) : Fld := ⟨0xf0007 + 0x100 * i, 0, 1⟩
/-- The address of PUR.PBSTAT. -/
def F.PUR_PBSTAT (i : Nat) : Nat := 0xf0007 + 0x100 * i
/-- PUR.PB[W], R614. -/
def F.PUR_PB_W (i j : Nat) : Fld := ⟨0xf0010 + 0x100 * i + 1 * j, 0, 48⟩
/-- The address of PUR.PB. -/
def F.PUR_PB (i j : Nat) : Nat := 0xf0010 + 0x100 * i + 1 * j
/-- PUR.FLTID[ACT], R615. -/
def F.PUR_FLTID_ACT (i j : Nat) : Fld := ⟨0xf0040 + 0x100 * i + 2 * j, 46, 2⟩
/-- PUR.FLTID[IDE], R615. -/
def F.PUR_FLTID_IDE (i j : Nat) : Fld := ⟨0xf0040 + 0x100 * i + 2 * j, 45, 1⟩
/-- PUR.FLTID[ID], R615. -/
def F.PUR_FLTID_ID (i j : Nat) : Fld := ⟨0xf0040 + 0x100 * i + 2 * j, 0, 29⟩
/-- The address of PUR.FLTID. -/
def F.PUR_FLTID (i j : Nat) : Nat := 0xf0040 + 0x100 * i + 2 * j
/-- PUR.FLTMSK[MASK], R615. -/
def F.PUR_FLTMSK_MASK (i j : Nat) : Fld := ⟨0xf0041 + 0x100 * i + 2 * j, 0, 29⟩
/-- The address of PUR.FLTMSK. -/
def F.PUR_FLTMSK (i j : Nat) : Nat := 0xf0041 + 0x100 * i + 2 * j
/-- PUR.BRCFG[EN], R615. -/
def F.PUR_BRCFG_EN : Fld := ⟨0xf0200, 47, 1⟩
/-- PUR.BRCFG[DROP10], R615. -/
def F.PUR_BRCFG_DROP10 : Fld := ⟨0xf0200, 24, 8⟩
/-- PUR.BRCFG[DROP01], R615. -/
def F.PUR_BRCFG_DROP01 : Fld := ⟨0xf0200, 16, 8⟩
/-- PUR.BRCFG[Q10], R615. -/
def F.PUR_BRCFG_Q10 : Fld := ⟨0xf0200, 4, 4⟩
/-- PUR.BRCFG[Q01], R615. -/
def F.PUR_BRCFG_Q01 : Fld := ⟨0xf0200, 0, 4⟩
/-- The address of PUR.BRCFG. -/
def F.PUR_BRCFG : Nat := 0xf0200
/-- PUR.BRFID[DIR], R615. -/
def F.PUR_BRFID_DIR (i : Nat) : Fld := ⟨0xf0210 + 2 * i, 46, 2⟩
/-- PUR.BRFID[IDE], R615. -/
def F.PUR_BRFID_IDE (i : Nat) : Fld := ⟨0xf0210 + 2 * i, 45, 1⟩
/-- PUR.BRFID[ID], R615. -/
def F.PUR_BRFID_ID (i : Nat) : Fld := ⟨0xf0210 + 2 * i, 0, 29⟩
/-- The address of PUR.BRFID. -/
def F.PUR_BRFID (i : Nat) : Nat := 0xf0210 + 2 * i
/-- PUR.BRFMSK[MASK], R615. -/
def F.PUR_BRFMSK_MASK (i : Nat) : Fld := ⟨0xf0211 + 2 * i, 0, 29⟩
/-- The address of PUR.BRFMSK. -/
def F.PUR_BRFMSK (i : Nat) : Nat := 0xf0211 + 2 * i

/-- Words of the Pur region, part 0. -/
def wordsPur0 : List WordDef := [
  ⟨"PUR.CFG", 0xf0000, [(2, 0x100)], [fd 40 8 .rw 0x3 .cfg (.clamp 1 255), fd 34 2 .rw 0x0 .cfg, fd 33 1 .rw 0x1 .cfg, fd 32 1 .rw 0x0 .cfg, fd 16 2 .rw 0x0 .cfg, fd 2 1 .ro 0x0 .cfg, fd 0 2 .rw 0x0 .cfg]⟩,
  ⟨"PUR.NBT", 0xf0001, [(2, 0x100)], [fd 24 8 .rw 0x0 .cfg, fd 16 8 .rw 0x1 .cfg, fd 8 7 .rw 0x0 .cfg, fd 0 7 .rw 0x0 .cfg]⟩,
  ⟨"PUR.DBT", 0xf0002, [(2, 0x100)], [fd 41 7 .ro 0x0 .cfg, fd 40 1 .rw 0x0 .cfg, fd 32 8 .rw 0x0 .cfg, fd 24 8 .rw 0x0 .cfg, fd 16 8 .rw 0x1 .cfg, fd 8 7 .rw 0x0 .cfg, fd 0 7 .rw 0x0 .cfg]⟩,
  ⟨"PUR.ERR", 0xf0003, [(2, 0x100)], [fd 40 8 .ro 0x0, fd 32 8 .rc 0x0, fd 24 8 .ro 0x0, fd 16 8 .ro 0x0, fd 13 3 .ro 0x0, fd 12 1 .ro 0x0, fd 5 7 .ro 0x0, fd 4 1 .w1c 0x0, fd 3 1 .w1c 0x0, fd 2 1 .w1c 0x0, fd 0 2 .ro 0x3]⟩,
  ⟨"PUR.TXCTL", 0xf0004, [(2, 0x100)], [fd 0 3 .wo 0x0]⟩,
  ⟨"PUR.TXST", 0xf0005, [(2, 0x100)], [fd 24 8 .ro 0x0, fd 32 8 .ro 0x0, fd 40 8 .ro 0x0, fd 16 8 .rc 0x0, fd 0 4 .ro 0x0, fd 4 4 .ro 0x0, fd 8 4 .ro 0x0]⟩,
  ⟨"PUR.FIFOST", 0xf0006, [(2, 0x100)], [fd 40 8 .rc 0x0, fd 8 7 .ro 0x0, fd 0 7 .ro 0x0]⟩,
  ⟨"PUR.PBSTAT", 0xf0007, [(2, 0x100)], [fd 8 40 .ro 0x0, fd 1 1 .w1c 0x0, fd 0 1 .w1c 0x0]⟩,
  ⟨"PUR.PB", 0xf0010, [(2, 0x100), (12, 0x1)], [fd 0 48 .ro 0x0]⟩,
  ⟨"PUR.FLTID", 0xf0040, [(2, 0x100), (32, 0x2)], [fd 46 2 .rw 0x0 .cfg, fd 45 1 .rw 0x1 .cfg, fd 0 29 .rw 0x0 .cfg]⟩,
  ⟨"PUR.FLTMSK", 0xf0041, [(2, 0x100), (32, 0x2)], [fd 0 29 .rw 0x1fffffff .cfg]⟩,
  ⟨"PUR.BRCFG", 0xf0200, [], [fd 47 1 .rw 0x0 .cfg, fd 24 8 .rc 0x0 .cfg, fd 16 8 .rc 0x0 .cfg, fd 4 4 .ro 0x0 .cfg, fd 0 4 .ro 0x0 .cfg]⟩]

/-- Words of the Pur region, part 1. -/
def wordsPur1 : List WordDef := [
  ⟨"PUR.BRFID", 0xf0210, [(16, 0x2)], [fd 46 2 .rw 0x0 .cfg, fd 45 1 .rw 0x1 .cfg, fd 0 29 .rw 0x0 .cfg]⟩,
  ⟨"PUR.BRFMSK", 0xf0211, [(16, 0x2)], [fd 0 29 .rw 0x1fffffff .cfg]⟩]

/-- The Pur region, its words. -/
def wordsPur : List WordDef := wordsPur0 ++ wordsPur1

/-! ### The Mtr region -/

/-- MTR.STAT[MFLT], R641. -/
def F.MTR_STAT_MFLT : Fld := ⟨0x100000, 8, 4⟩
/-- MTR.STAT[RDIFF], R641. -/
def F.MTR_STAT_RDIFF : Fld := ⟨0x100000, 7, 1⟩
/-- MTR.STAT[OVR], R641. -/
def F.MTR_STAT_OVR : Fld := ⟨0x100000, 6, 1⟩
/-- MTR.STAT[GAP], R641. -/
def F.MTR_STAT_GAP : Fld := ⟨0x100000, 5, 1⟩
/-- MTR.STAT[PFLOSS], R641. -/
def F.MTR_STAT_PFLOSS : Fld := ⟨0x100000, 4, 1⟩
/-- MTR.STAT[SNAPFAIL], R641. -/
def F.MTR_STAT_SNAPFAIL : Fld := ⟨0x100000, 3, 1⟩
/-- MTR.STAT[LOGFULL], R641. -/
def F.MTR_STAT_LOGFULL : Fld := ⟨0x100000, 2, 1⟩
/-- MTR.STAT[KEYOK], R641. -/
def F.MTR_STAT_KEYOK : Fld := ⟨0x100000, 1, 1⟩
/-- MTR.STAT[CALOK], R641. -/
def F.MTR_STAT_CALOK : Fld := ⟨0x100000, 0, 1⟩
/-- The address of MTR.STAT. -/
def F.MTR_STAT : Nat := 0x100000
/-- MTR.SESS[SESSNO], R641. -/
def F.MTR_SESS_SESSNO : Fld := ⟨0x100001, 16, 32⟩
/-- MTR.SESS[LASTEND], R641. -/
def F.MTR_SESS_LASTEND : Fld := ⟨0x100001, 8, 8⟩
/-- MTR.SESS[STATE], R641. -/
def F.MTR_SESS_STATE : Fld := ⟨0x100001, 0, 4⟩
/-- The address of MTR.SESS. -/
def F.MTR_SESS : Nat := 0x100001
/-- MTR.CHAL[NONCE], R641. -/
def F.MTR_CHAL_NONCE : Fld := ⟨0x100002, 0, 48⟩
/-- The address of MTR.CHAL. -/
def F.MTR_CHAL : Nat := 0x100002
/-- MTR.CALID[CALSEQ], R641. -/
def F.MTR_CALID_CALSEQ : Fld := ⟨0x100003, 0, 32⟩
/-- The address of MTR.CALID. -/
def F.MTR_CALID : Nat := 0x100003
/-- MTR.CFG[G], R640. -/
def F.MTR_CFG_G : Fld := ⟨0x100004, 46, 2⟩
/-- MTR.CFG[G1], R640. -/
def F.MTR_CFG_G1 : Fld := ⟨0x100004, 44, 2⟩
/-- MTR.CFG[G2], R640. -/
def F.MTR_CFG_G2 : Fld := ⟨0x100004, 42, 2⟩
/-- MTR.CFG[G3], R640. -/
def F.MTR_CFG_G3 : Fld := ⟨0x100004, 40, 2⟩
/-- MTR.CFG[REN], R640. -/
def F.MTR_CFG_REN : Fld := ⟨0x100004, 39, 1⟩
/-- MTR.CFG[CREEP], R640. -/
def F.MTR_CFG_CREEP : Fld := ⟨0x100004, 16, 16⟩
/-- MTR.CFG[RTOL], R640. -/
def F.MTR_CFG_RTOL : Fld := ⟨0x100004, 8, 8⟩
/-- MTR.CFG[RN], R640. -/
def F.MTR_CFG_RN : Fld := ⟨0x100004, 0, 4⟩
/-- The address of MTR.CFG. -/
def F.MTR_CFG : Nat := 0x100004
/-- MTR.CALCRC[CALCRC], R641. -/
def F.MTR_CALCRC_CALCRC : Fld := ⟨0x100005, 0, 32⟩
/-- The address of MTR.CALCRC. -/
def F.MTR_CALCRC : Nat := 0x100005
/-- MTR.CAL[OFS], R640. -/
def F.MTR_CAL_OFS (i : Nat) : Fld := ⟨0x100008 + 1 * i, 24, 24⟩
/-- MTR.CAL[GC], R640. -/
def F.MTR_CAL_GC (i : Nat) : Fld := ⟨0x100008 + 1 * i, 0, 24⟩
/-- The address of MTR.CAL. -/
def F.MTR_CAL (i : Nat) : Nat := 0x100008 + 1 * i
/-- MTR.K[K], R640. -/
def F.MTR_K_K (i : Nat) : Fld := ⟨0x10000c + 1 * i, 0, 48⟩
/-- The address of MTR.K. -/
def F.MTR_K (i : Nat) : Nat := 0x10000c + 1 * i
/-- MTR.EL[E], None. -/
def F.MTR_EL_E (i : Nat) : Fld := ⟨0x100010 + 2 * i, 0, 48⟩
/-- The address of MTR.EL. -/
def F.MTR_EL (i : Nat) : Nat := 0x100010 + 2 * i
/-- MTR.EH[E], None. -/
def F.MTR_EH_E (i : Nat) : Fld := ⟨0x100011 + 2 * i, 0, 16⟩
/-- The address of MTR.EH. -/
def F.MTR_EH (i : Nat) : Nat := 0x100011 + 2 * i
/-- MTR.MEAN[MEAN], None. -/
def F.MTR_MEAN_MEAN (i : Nat) : Fld := ⟨0x100014 + 1 * i, 0, 48⟩
/-- The address of MTR.MEAN. -/
def F.MTR_MEAN (i : Nat) : Nat := 0x100014 + 1 * i
/-- MTR.MD[RAW], R641. -/
def F.MTR_MD_RAW (i : Nat) : Fld := ⟨0x100018 + 1 * i, 0, 24⟩
/-- The address of MTR.MD. -/
def F.MTR_MD (i : Nat) : Nat := 0x100018 + 1 * i
/-- MTR.LOGINFO[COUNT], R642. -/
def F.MTR_LOGINFO_COUNT : Fld := ⟨0x100020, 0, 13⟩
/-- The address of MTR.LOGINFO. -/
def F.MTR_LOGINFO : Nat := 0x100020
/-- MTR.LOGSEL[IDX], R642. -/
def F.MTR_LOGSEL_IDX : Fld := ⟨0x100021, 0, 12⟩
/-- The address of MTR.LOGSEL. -/
def F.MTR_LOGSEL : Nat := 0x100021
/-- MTR.LOGE[W], None. -/
def F.MTR_LOGE_W (i : Nat) : Fld := ⟨0x100022 + 1 * i, 0, 48⟩
/-- The address of MTR.LOGE. -/
def F.MTR_LOGE (i : Nat) : Nat := 0x100022 + 1 * i
/-- MTR.PUB[KEY], None. -/
def F.MTR_PUB_KEY (i : Nat) : Fld := ⟨0x100030 + 1 * i, 0, 48⟩
/-- The address of MTR.PUB. -/
def F.MTR_PUB (i : Nat) : Nat := 0x100030 + 1 * i
/-- MTR.AUTH[KEY], None. -/
def F.MTR_AUTH_KEY (i : Nat) : Fld := ⟨0x100040 + 1 * i, 0, 48⟩
/-- The address of MTR.AUTH. -/
def F.MTR_AUTH (i : Nat) : Nat := 0x100040 + 1 * i

/-- Words of the Mtr region, part 0. -/
def wordsMtr0 : List WordDef := [
  ⟨"MTR.STAT", 0x100000, [], [fd 8 4 .ro 0x0, fd 7 1 .w1c 0x0, fd 6 1 .w1c 0x0, fd 5 1 .w1c 0x0, fd 4 1 .w1c 0x0, fd 3 1 .w1c 0x0, fd 2 1 .ro 0x0, fd 1 1 .ro 0x0, fd 0 1 .ro 0x0]⟩,
  ⟨"MTR.SESS", 0x100001, [], [fd 16 32 .ro 0x0, fd 8 8 .ro 0x0, fd 0 4 .ro 0x0]⟩,
  ⟨"MTR.CHAL", 0x100002, [], [fd 0 48 .ro 0x0]⟩,
  ⟨"MTR.CALID", 0x100003, [], [fd 0 32 .ro 0x0]⟩,
  ⟨"MTR.CFG", 0x100004, [], [fd 46 2 .sl 0x0, fd 44 2 .sl 0x0, fd 42 2 .sl 0x0, fd 40 2 .sl 0x0, fd 39 1 .sl 0x0, fd 16 16 .sl 0xa, fd 8 8 .sl 0xa, fd 0 4 .sl 0x3 .any (.clamp 1 15)]⟩,
  ⟨"MTR.CALCRC", 0x100005, [], [fd 0 32 .ro 0x0]⟩,
  ⟨"MTR.CAL", 0x100008, [(4, 0x1)], [fd 24 24 .sl 0x0, fd 0 24 .sl 0x0]⟩,
  ⟨"MTR.K", 0x10000c, [(4, 0x1)], [fd 0 48 .sl 0x0]⟩,
  ⟨"MTR.EL", 0x100010, [(2, 0x2)], [fd 0 48 .ro 0x0]⟩,
  ⟨"MTR.EH", 0x100011, [(2, 0x2)], [fd 0 16 .ro 0x0]⟩,
  ⟨"MTR.MEAN", 0x100014, [(4, 0x1)], [fd 0 48 .ro 0x0]⟩,
  ⟨"MTR.MD", 0x100018, [(4, 0x1)], [fd 0 24 .ro 0x0]⟩]

/-- Words of the Mtr region, part 1. -/
def wordsMtr1 : List WordDef := [
  ⟨"MTR.LOGINFO", 0x100020, [], [fd 0 13 .ro 0x0]⟩,
  ⟨"MTR.LOGSEL", 0x100021, [], [fd 0 12 .rw 0x0]⟩,
  ⟨"MTR.LOGE", 0x100022, [(6, 0x1)], [fd 0 48 .ro 0x0]⟩,
  ⟨"MTR.PUB", 0x100030, [(11, 0x1)], [fd 0 48 .ro 0x0]⟩,
  ⟨"MTR.AUTH", 0x100040, [(11, 0x1)], [fd 0 48 .sl 0x0]⟩]

/-- The Mtr region, its words. -/
def wordsMtr : List WordDef := wordsMtr0 ++ wordsMtr1

/-! ### The Nvs region -/

/-- NVS.STAT[LASTOP], R675. -/
def F.NVS_STAT_LASTOP : Fld := ⟨0x110000, 40, 8⟩
/-- NVS.STAT[LASTST], R675. -/
def F.NVS_STAT_LASTST : Fld := ⟨0x110000, 32, 8⟩
/-- NVS.STAT[LASTPART], R675. -/
def F.NVS_STAT_LASTPART : Fld := ⟨0x110000, 28, 4⟩
/-- NVS.STAT[BUSY], R675. -/
def F.NVS_STAT_BUSY : Fld := ⟨0x110000, 15, 1⟩
/-- NVS.STAT[HBUSY], R675. -/
def F.NVS_STAT_HBUSY : Fld := ⟨0x110000, 14, 1⟩
/-- NVS.STAT[PREEMPT], R675. -/
def F.NVS_STAT_PREEMPT : Fld := ⟨0x110000, 13, 1⟩
/-- NVS.STAT[INHIB], R675. -/
def F.NVS_STAT_INHIB : Fld := ⟨0x110000, 12, 1⟩
/-- NVS.STAT[UNC], R675. -/
def F.NVS_STAT_UNC : Fld := ⟨0x110000, 11, 1⟩
/-- NVS.STAT[USERFULL], R675. -/
def F.NVS_STAT_USERFULL : Fld := ⟨0x110000, 10, 1⟩
/-- NVS.STAT[RFULL], R675. -/
def F.NVS_STAT_RFULL : Fld := ⟨0x110000, 9, 1⟩
/-- NVS.STAT[PSTAGED], R675. -/
def F.NVS_STAT_PSTAGED : Fld := ⟨0x110000, 8, 1⟩
/-- The address of NVS.STAT. -/
def F.NVS_STAT : Nat := 0x110000
/-- NVS.CNT[CORCNT], R675. -/
def F.NVS_CNT_CORCNT : Fld := ⟨0x110001, 32, 16⟩
/-- NVS.CNT[UNCCNT], R675. -/
def F.NVS_CNT_UNCCNT : Fld := ⟨0x110001, 16, 16⟩
/-- NVS.CNT[FAILCNT], R675. -/
def F.NVS_CNT_FAILCNT : Fld := ⟨0x110001, 8, 8⟩
/-- The address of NVS.CNT. -/
def F.NVS_CNT : Nat := 0x110001
/-- NVS.IMG[AVALID], R675. -/
def F.NVS_IMG_AVALID : Fld := ⟨0x110002, 47, 1⟩
/-- NVS.IMG[BVALID], R675. -/
def F.NVS_IMG_BVALID : Fld := ⟨0x110002, 46, 1⟩
/-- NVS.IMG[NEWEST], R675. -/
def F.NVS_IMG_NEWEST : Fld := ⟨0x110002, 44, 2⟩
/-- NVS.IMG[GENA], R675. -/
def F.NVS_IMG_GENA : Fld := ⟨0x110002, 16, 16⟩
/-- NVS.IMG[GENB], R675. -/
def F.NVS_IMG_GENB : Fld := ⟨0x110002, 0, 16⟩
/-- The address of NVS.IMG. -/
def F.NVS_IMG : Nat := 0x110002
/-- NVS.UFIND[KEY], R675. -/
def F.NVS_UFIND_KEY : Fld := ⟨0x110003, 0, 16⟩
/-- The address of NVS.UFIND. -/
def F.NVS_UFIND : Nat := 0x110003
/-- NVS.ULOC[FOUND], R675. -/
def F.NVS_ULOC_FOUND : Fld := ⟨0x110004, 47, 1⟩
/-- NVS.ULOC[LEN], R675. -/
def F.NVS_ULOC_LEN : Fld := ⟨0x110004, 32, 8⟩
/-- NVS.ULOC[ADDR], R675. -/
def F.NVS_ULOC_ADDR : Fld := ⟨0x110004, 0, 24⟩
/-- The address of NVS.ULOC. -/
def F.NVS_ULOC : Nat := 0x110004

/-- Words of the Nvs region, part 0. -/
def wordsNvs0 : List WordDef := [
  ⟨"NVS.STAT", 0x110000, [], [fd 40 8 .ro 0x0, fd 32 8 .ro 0x0, fd 28 4 .ro 0x0, fd 15 1 .ro 0x0, fd 14 1 .ro 0x0, fd 13 1 .w1c 0x0, fd 12 1 .w1c 0x0, fd 11 1 .w1c 0x0, fd 10 1 .ro 0x0, fd 9 1 .ro 0x0, fd 8 1 .ro 0x0]⟩,
  ⟨"NVS.CNT", 0x110001, [], [fd 32 16 .rc 0x0, fd 16 16 .rc 0x0, fd 8 8 .rc 0x0]⟩,
  ⟨"NVS.IMG", 0x110002, [], [fd 47 1 .ro 0x0, fd 46 1 .ro 0x0, fd 44 2 .ro 0x0, fd 16 16 .ro 0x0, fd 0 16 .ro 0x0]⟩,
  ⟨"NVS.UFIND", 0x110003, [], [fd 0 16 .rw 0x0]⟩,
  ⟨"NVS.ULOC", 0x110004, [], [fd 47 1 .ro 0x0, fd 32 8 .ro 0x0, fd 0 24 .ro 0x0]⟩]

/-- The Nvs region, its words. -/
def wordsNvs : List WordDef := wordsNvs0

/-! ### The Bst region -/

/-- BST.STAT[RUNS], R676. -/
def F.BST_STAT_RUNS : Fld := ⟨0x120000, 40, 8⟩
/-- BST.STAT[OPFAIL], R676. -/
def F.BST_STAT_OPFAIL : Fld := ⟨0x120000, 32, 8⟩
/-- BST.STAT[CUR], R676. -/
def F.BST_STAT_CUR : Fld := ⟨0x120000, 27, 5⟩
/-- BST.STAT[PHASE], R676. -/
def F.BST_STAT_PHASE : Fld := ⟨0x120000, 20, 4⟩
/-- BST.STAT[UNREP], R676. -/
def F.BST_STAT_UNREP : Fld := ⟨0x120000, 19, 1⟩
/-- BST.STAT[SRUN], R676. -/
def F.BST_STAT_SRUN : Fld := ⟨0x120000, 18, 1⟩
/-- BST.STAT[OPRUN], R676. -/
def F.BST_STAT_OPRUN : Fld := ⟨0x120000, 17, 1⟩
/-- BST.STAT[INVAL], R676. -/
def F.BST_STAT_INVAL : Fld := ⟨0x120000, 3, 1⟩
/-- BST.STAT[FAIL], R676. -/
def F.BST_STAT_FAIL : Fld := ⟨0x120000, 2, 1⟩
/-- BST.STAT[REPAIRED], R676. -/
def F.BST_STAT_REPAIRED : Fld := ⟨0x120000, 1, 1⟩
/-- BST.STAT[DONE], R676. -/
def F.BST_STAT_DONE : Fld := ⟨0x120000, 0, 1⟩
/-- The address of BST.STAT. -/
def F.BST_STAT : Nat := 0x120000
/-- BST.COND[CLKOK], R676. -/
def F.BST_COND_CLKOK : Fld := ⟨0x120002, 4, 1⟩
/-- BST.COND[VOK], R676. -/
def F.BST_COND_VOK : Fld := ⟨0x120002, 3, 1⟩
/-- BST.COND[TOK], R676. -/
def F.BST_COND_TOK : Fld := ⟨0x120002, 2, 1⟩
/-- BST.COND[NOFLT], R676. -/
def F.BST_COND_NOFLT : Fld := ⟨0x120002, 1, 1⟩
/-- BST.COND[ALLOK], R676. -/
def F.BST_COND_ALLOK : Fld := ⟨0x120002, 0, 1⟩
/-- The address of BST.COND. -/
def F.BST_COND : Nat := 0x120002
/-- BST.FUSE[FERR], R676. -/
def F.BST_FUSE_FERR : Fld := ⟨0x120004, 16, 1⟩
/-- BST.FUSE[FUSED], R676. -/
def F.BST_FUSE_FUSED : Fld := ⟨0x120004, 8, 8⟩
/-- BST.FUSE[SOFT], R676. -/
def F.BST_FUSE_SOFT : Fld := ⟨0x120004, 0, 8⟩
/-- The address of BST.FUSE. -/
def F.BST_FUSE : Nat := 0x120004
/-- BST.RSEL[IDX], R676. -/
def F.BST_RSEL_IDX : Fld := ⟨0x120005, 0, 6⟩
/-- The address of BST.RSEL. -/
def F.BST_RSEL : Nat := 0x120005
/-- BST.RENT[VALID], R676. -/
def F.BST_RENT_VALID : Fld := ⟨0x120006, 47, 1⟩
/-- BST.RENT[KIND], R676. -/
def F.BST_RENT_KIND : Fld := ⟨0x120006, 40, 4⟩
/-- BST.RENT[INST], R676. -/
def F.BST_RENT_INST : Fld := ⟨0x120006, 32, 8⟩
/-- BST.RENT[ADDR], R676. -/
def F.BST_RENT_ADDR : Fld := ⟨0x120006, 16, 16⟩
/-- BST.RENT[SPARE], R676. -/
def F.BST_RENT_SPARE : Fld := ⟨0x120006, 8, 8⟩
/-- The address of BST.RENT. -/
def F.BST_RENT : Nat := 0x120006
/-- BST.RTIME[TIME], R676. -/
def F.BST_RTIME_TIME : Fld := ⟨0x120007, 0, 48⟩
/-- The address of BST.RTIME. -/
def F.BST_RTIME : Nat := 0x120007
/-- BST.OPCFG[EN], R676. -/
def F.BST_OPCFG_EN : Fld := ⟨0x120001, 47, 1⟩
/-- BST.OPCFG[PERIOD], R676. -/
def F.BST_OPCFG_PERIOD : Fld := ⟨0x120001, 24, 16⟩
/-- BST.OPCFG[LMASK], R676. -/
def F.BST_OPCFG_LMASK : Fld := ⟨0x120001, 0, 8⟩
/-- The address of BST.OPCFG. -/
def F.BST_OPCFG : Nat := 0x120001
/-- BST.RES[R], R676. -/
def F.BST_RES_R (k : Nat) : Fld := ⟨0x120003, 0 + 2 * k, 2⟩
/-- The address of BST.RES. -/
def F.BST_RES : Nat := 0x120003

/-- Words of the Bst region, part 0. -/
def wordsBst0 : List WordDef := [
  ⟨"BST.STAT", 0x120000, [], [fd 40 8 .ro 0x0, fd 32 8 .rc 0x0, fd 27 5 .ro 0x1f, fd 20 4 .ro 0x0, fd 19 1 .ro 0x0, fd 18 1 .ro 0x0, fd 17 1 .ro 0x0, fd 3 1 .w1c 0x0, fd 2 1 .w1c 0x0, fd 1 1 .w1c 0x0, fd 0 1 .w1c 0x0]⟩,
  ⟨"BST.COND", 0x120002, [], [fd 4 1 .ro 0x0, fd 3 1 .ro 0x0, fd 2 1 .ro 0x0, fd 1 1 .ro 0x0, fd 0 1 .ro 0x0]⟩,
  ⟨"BST.FUSE", 0x120004, [], [fd 16 1 .w1c 0x0, fd 8 8 .ro 0x0, fd 0 8 .ro 0x0]⟩,
  ⟨"BST.RSEL", 0x120005, [], [fd 0 6 .rw 0x0]⟩,
  ⟨"BST.RENT", 0x120006, [], [fd 47 1 .ro 0x0, fd 40 4 .ro 0x0, fd 32 8 .ro 0x0, fd 16 16 .ro 0x0, fd 8 8 .ro 0x0]⟩,
  ⟨"BST.RTIME", 0x120007, [], [fd 0 48 .ro 0x0]⟩,
  ⟨"BST.OPCFG", 0x120001, [], [fd 47 1 .rw 0x1 .cs, fd 24 16 .rw 0x3c .cs (.clamp 1 65535), fd 0 8 .rw 0xff .cs]⟩,
  ⟨"BST.RES", 0x120003, [], [fd 0 2 .ro 0x0, fd 2 2 .ro 0x0, fd 4 2 .ro 0x0, fd 6 2 .ro 0x0, fd 8 2 .ro 0x0, fd 10 2 .ro 0x0, fd 12 2 .ro 0x0, fd 14 2 .ro 0x0, fd 16 2 .ro 0x0, fd 18 2 .ro 0x0, fd 20 2 .ro 0x0, fd 22 2 .ro 0x0, fd 24 2 .ro 0x0, fd 26 2 .ro 0x0, fd 28 2 .ro 0x0, fd 30 2 .ro 0x0, fd 32 2 .ro 0x0, fd 34 2 .ro 0x0, fd 36 2 .ro 0x0, fd 38 2 .ro 0x0]⟩]

/-- The Bst region, its words. -/
def wordsBst : List WordDef := wordsBst0

/-! ### The Obs region -/

/-- OBS.WCFG[DIV], R689. -/
def F.OBS_WCFG_DIV : Fld := ⟨0x130000, 1, 2⟩
/-- OBS.WCFG[EN], R689. -/
def F.OBS_WCFG_EN : Fld := ⟨0x130000, 0, 1⟩
/-- The address of OBS.WCFG. -/
def F.OBS_WCFG : Nat := 0x130000
/-- OBS.WSTAT[DROPS], R689. -/
def F.OBS_WSTAT_DROPS : Fld := ⟨0x130001, 16, 32⟩
/-- OBS.WSTAT[LEVEL], R689. -/
def F.OBS_WSTAT_LEVEL : Fld := ⟨0x130001, 0, 7⟩
/-- The address of OBS.WSTAT. -/
def F.OBS_WSTAT : Nat := 0x130001
/-- OBS.CCTL[SNAP], R689. -/
def F.OBS_CCTL_SNAP : Fld := ⟨0x130002, 32, 1⟩
/-- OBS.CCTL[CLRL], R689. -/
def F.OBS_CCTL_CLRL : Fld := ⟨0x130002, 0, 32⟩
/-- The address of OBS.CCTL. -/
def F.OBS_CCTL : Nat := 0x130002
/-- OBS.PRB[EN], R689. -/
def F.OBS_PRB_EN (i : Nat) : Fld := ⟨0x130010 + 1 * i, 47, 1⟩
/-- OBS.PRB[SRC], R689. -/
def F.OBS_PRB_SRC (i : Nat) : Fld := ⟨0x130010 + 1 * i, 44, 3⟩
/-- OBS.PRB[BLK], R689. -/
def F.OBS_PRB_BLK (i : Nat) : Fld := ⟨0x130010 + 1 * i, 34, 10⟩
/-- OBS.PRB[OUT], R689. -/
def F.OBS_PRB_OUT (i : Nat) : Fld := ⟨0x130010 + 1 * i, 30, 4⟩
/-- OBS.PRB[DECIM], R689. -/
def F.OBS_PRB_DECIM (i : Nat) : Fld := ⟨0x130010 + 1 * i, 16, 8⟩
/-- OBS.PRB[ADDR], R689. -/
def F.OBS_PRB_ADDR (i : Nat) : Fld := ⟨0x130010 + 1 * i, 0, 16⟩
/-- The address of OBS.PRB. -/
def F.OBS_PRB (i : Nat) : Nat := 0x130010 + 1 * i
/-- OBS.TEV[EN], R689. -/
def F.OBS_TEV_EN (i : Nat) : Fld := ⟨0x130020 + 1 * i, 12, 1⟩
/-- OBS.TEV[EVT], R689. -/
def F.OBS_TEV_EVT (i : Nat) : Fld := ⟨0x130020 + 1 * i, 6, 6⟩
/-- OBS.TEV[ARG], R689. -/
def F.OBS_TEV_ARG (i : Nat) : Fld := ⟨0x130020 + 1 * i, 0, 6⟩
/-- The address of OBS.TEV. -/
def F.OBS_TEV (i : Nat) : Nat := 0x130020 + 1 * i
/-- OBS.CNT[COUNT], R689. -/
def F.OBS_CNT_COUNT (i : Nat) : Fld := ⟨0x130100 + 1 * i, 0, 48⟩
/-- The address of OBS.CNT. -/
def F.OBS_CNT (i : Nat) : Nat := 0x130100 + 1 * i
/-- OBS.CSEL[CLRH], R689. -/
def F.OBS_CSEL_CLRH (i : Nat) : Fld := ⟨0x130140 + 1 * i, 32, 16⟩
/-- OBS.CSEL[WRAPPED], R689. -/
def F.OBS_CSEL_WRAPPED (i : Nat) : Fld := ⟨0x130140 + 1 * i, 12, 1⟩
/-- OBS.CSEL[EVT], R689. -/
def F.OBS_CSEL_EVT (i : Nat) : Fld := ⟨0x130140 + 1 * i, 6, 6⟩
/-- OBS.CSEL[ARG], R689. -/
def F.OBS_CSEL_ARG (i : Nat) : Fld := ⟨0x130140 + 1 * i, 0, 6⟩
/-- The address of OBS.CSEL. -/
def F.OBS_CSEL (i : Nat) : Nat := 0x130140 + 1 * i
/-- OBS.CSNP[COUNT], R689. -/
def F.OBS_CSNP_COUNT (i : Nat) : Fld := ⟨0x130180 + 1 * i, 0, 48⟩
/-- The address of OBS.CSNP. -/
def F.OBS_CSNP (i : Nat) : Nat := 0x130180 + 1 * i

/-- Words of the Obs region, part 0. -/
def wordsObs0 : List WordDef := [
  ⟨"OBS.WCFG", 0x130000, [], [fd 1 2 .rw 0x0, fd 0 1 .rw 0x0]⟩,
  ⟨"OBS.WSTAT", 0x130001, [], [fd 16 32 .rc 0x0, fd 0 7 .ro 0x0]⟩,
  ⟨"OBS.CCTL", 0x130002, [], [fd 32 1 .wo 0x0, fd 0 32 .wo 0x0]⟩,
  ⟨"OBS.PRB", 0x130010, [(16, 0x1)], [fd 47 1 .rw 0x0, fd 44 3 .rw 0x0, fd 34 10 .rw 0x0, fd 30 4 .rw 0x0, fd 16 8 .rw 0x0, fd 0 16 .rw 0x0]⟩,
  ⟨"OBS.TEV", 0x130020, [(8, 0x1)], [fd 12 1 .rw 0x0, fd 6 6 .rw 0x0, fd 0 6 .rw 0x3f]⟩,
  ⟨"OBS.CNT", 0x130100, [(64, 0x1)], [fd 0 48 .ro 0x0]⟩,
  ⟨"OBS.CSEL", 0x130140, [(64, 0x1)], [fd 32 16 .wo 0x0, fd 12 1 .w1c 0x0, fd 6 6 .rw 0x0, fd 0 6 .rw 0x3f]⟩,
  ⟨"OBS.CSNP", 0x130180, [(64, 0x1)], [fd 0 48 .ro 0x0]⟩]

/-- The Obs region, its words. -/
def wordsObs : List WordDef := wordsObs0

/-- The words of the region whose number (address bits [23:16]) is `r` (R80). -/
def regionWords : Nat → List WordDef
  | 0 => wordsDev
  | 1 => wordsClk
  | 2 => wordsNwt
  | 3 => wordsAng
  | 4 => wordsAdc
  | 5 => wordsPwm
  | 6 => wordsGds
  | 7 => wordsZen
  | 9 => wordsMot
  | 10 => wordsCnv
  | 11 => wordsPrt
  | 12 => wordsSaf
  | 13 => wordsSin
  | 14 => wordsThm
  | 15 => wordsPur
  | 16 => wordsMtr
  | 17 => wordsNvs
  | 18 => wordsBst
  | 19 => wordsObs
  | _ => []

end Sys2Proof.Machine
end

