-- ==== Sys2Proof/Machine/Ops.lean ====
section
/-! DEFINITION. The named operations over the parameter words, the memories and the lists of like things, and the free values:
every meaning is written over these. -/

namespace Sys2Proof.Machine

/-! ### Sparse memories -/

/-- The word listed at an address. -/
def Mem.find : Mem → Nat → Option Word
  | [], _ => none
  | (b, w) :: m, a => if a = b then some w else Mem.find m a

/-- List a word at an address, keeping addresses rising. -/
def Mem.insert : Mem → Nat → Word → Mem
  | [], a, w => [(a, w)]
  | (b, v) :: m, a, w =>
    if a = b then (a, w) :: m else if a < b then (a, w) :: (b, v) :: m else (b, v) :: Mem.insert m a w

/-- Take an address off the list. -/
def Mem.erase : Mem → Nat → Mem
  | [], _ => []
  | (b, v) :: m, a => if a = b then Mem.erase m a else (b, v) :: Mem.erase m a

/-- Store a word where unlisted words read `d`: an entry equal to `d` is not kept. -/
def Mem.put (m : Mem) (d : Word) (a : Nat) (w : Word) : Mem := if w = d then m.erase a else m.insert a w

/-- Addresses strictly rising from a bound on, and no entry equal to what its address reads as unlisted. -/
def Mem.canon (dflt : Nat → Word) : Nat → Mem → Bool
  | _, [] => true
  | lo, (b, v) :: m => decide (lo ≤ b) && decide (v ≠ dflt b) && Mem.canon dflt (b + 1) m

/-! ### Reset words -/

/-- The first word definition of a list that covers an address. -/
def findWord (ds : List WordDef) (a : Nat) : Option WordDef := ds.find? (·.covers a)

/-- The word definition at a parameter address (R80, R81). -/
def wordAt (a : Nat) : Option WordDef := findWord (regionWords (a / 0x10000)) a

/-- What a parameter word reads at the end of RESET (R20). -/
def resetWord (a : Nat) : Word :=
  match wordAt a with
  | some d => resetOf d.fields
  | none => 0

/-! ### Words and fields of the chip -/

/-- A parameter word as the device holds it. -/
def Chip.rd (c : Chip) (a : Nat) : Word := (c.regs.find a).getD (resetWord a)

/-- Replace a parameter word. -/
def Chip.wr (c : Chip) (a : Nat) (w : Word) : Chip := { c with regs := c.regs.put (resetWord a) a w }

/-- A field of a parameter word. -/
def Chip.get (c : Chip) (f : Fld) : Nat := (c.rd f.addr).field f.lo f.width

/-- A one-bit field as a truth value. -/
def Chip.is (c : Chip) (f : Fld) : Bool := c.get f == 1

/-- A field read as two's complement. -/
def Chip.geti (c : Chip) (f : Fld) : Int := signed f.width (c.get f)

/-- Set a field (modulo its range). -/
def Chip.set (c : Chip) (f : Fld) (v : Nat) : Chip := c.wr f.addr ((c.rd f.addr).setField f.lo f.width v)

/-- Set a one-bit field. -/
def Chip.setb (c : Chip) (f : Fld) (b : Bool) : Chip := c.set f (bit b)

/-- Set a field from an integer, two's complement. -/
def Chip.seti (c : Chip) (f : Fld) (z : Int) : Chip := c.set f (unsigned f.width z)

/-- Raise a flag. -/
def Chip.raise (c : Chip) (f : Fld) : Chip := c.set f 1

/-- Count up, saturating at the field's largest value. -/
def Chip.countSat (c : Chip) (f : Fld) (n : Nat) : Chip := c.set f (min (c.get f + n) (2 ^ f.width - 1))

/-- Count up modulo the field's range. -/
def Chip.countMod (c : Chip) (f : Fld) (n : Nat) : Chip := c.set f (c.get f + n)

/-- One bit of a field as a truth value. -/
def Chip.getBit (c : Chip) (f : Fld) (k : Nat) : Bool := (c.rd f.addr).field (f.lo + k) 1 == 1

/-- Set one bit of a field. -/
def Chip.setBit (c : Chip) (f : Fld) (k : Nat) (b : Bool) : Chip :=
  c.wr f.addr ((c.rd f.addr).setField (f.lo + k) 1 (bit b))

/-- Do something only when a condition holds. -/
def Chip.when (c : Chip) (b : Bool) (f : Chip → Chip) : Chip := if b then f c else c

/-- Do something for every number below `n`, in ascending order. -/
def Chip.forN (c : Chip) (n : Nat) (f : Nat → Chip → Chip) : Chip := (List.range n).foldl (fun c k => f k c) c

/-- Do something for every element of a list, in order. -/
def Chip.forEach {α : Type} (c : Chip) (l : List α) (f : α → Chip → Chip) : Chip := l.foldl (fun c x => f x c) c

/-- Draw a free value: the next of the values that the spec leaves open (log entry 3). -/
def Chip.free (c : Chip) : Word × Chip := (Config.freeWord c.freeCtr, { c with freeCtr := c.freeCtr + 1 })

/-! ### Memories of the engine and the store -/

/-- A word of physical lane `z` (R307). -/
def Chip.laneRd (c : Chip) (z a : Nat) : Word := (c.lanes.find (4096 * z + a)).getD 0

/-- Write a word of physical lane `z`. -/
def Chip.laneWr (c : Chip) (z a : Nat) (w : Word) : Chip := { c with lanes := c.lanes.put 0 (4096 * z + a) w }

/-- A ZMEM word (R308). -/
def Chip.zmemRd (c : Chip) (a : Nat) : Word := (c.zmem.find a).getD 0

/-- Write a ZMEM word. -/
def Chip.zmemWr (c : Chip) (a : Nat) (w : Word) : Chip := { c with zmem := c.zmem.put 0 a w }

/-- A store word (R643). -/
def Chip.storeRd (c : Chip) (k : Nat) : Word := (c.store.find k).getD 0

/-- Write a store word. -/
def Chip.storeWr (c : Chip) (k : Nat) (w : Word) : Chip := { c with store := c.store.put 0 k w }

/-! ### Modes -/

/-- The mode of a code (R21); codes 0xC to 0xF are never taken. -/
def Mode.ofCode : Nat → Mode
  | 0 => .reset | 1 => .boot | 2 => .config | 3 => .selftest | 4 => .standby | 5 => .precharge | 6 => .identify
  | 7 => .drive | 8 => .charge | 9 => .safestop | 10 => .discharge | _ => .latched

/-- The code of a mode (R21). -/
def Mode.code : Mode → Nat
  | .reset => 0 | .boot => 1 | .config => 2 | .selftest => 3 | .standby => 4 | .precharge => 5 | .identify => 6
  | .drive => 7 | .charge => 8 | .safestop => 9 | .discharge => 10 | .latched => 11

/-- The value of a cause (R23). -/
def Cause.code : Cause → Nat
  | .powerOn => 0 | .host => 1 | .complete => 2 | .safety => 3 | .protect => 4 | .watchdog => 5 | .thermal => 6
  | .clock => 7 | .resetOther => 8 | .internal => 9

/-- The substate of a code (R25). -/
def Sub.ofCode : Nat → Sub
  | 1 => .catch | 2 => .align | 3 => .run | 4 => .stopping | _ => .off

/-- The code of a substate (R25). -/
def Sub.code : Sub → Nat
  | .off => 0 | .catch => 1 | .align => 2 | .run => 3 | .stopping => 4

/-- The present mode (R21). -/
def Chip.mode (c : Chip) : Mode := Mode.ofCode (c.get F.DEV_MODE_MODE)

/-- The substate of axis An (R25). -/
def Chip.sub (c : Chip) (n : Nat) : Sub := Sub.ofCode (c.get (F.DEV_AXST_SUB n))

/-! ### Time -/

/-- The integer part of NWT (R137). -/
def Chip.now (c : Chip) : Word := BitVec.ofNat 48 (c.time.nwt.toNat / 2 ^ 24)

/-- The integer part of FWT (R147). -/
def Chip.fnow (c : Chip) : Word := BitVec.ofNat 48 (c.time.fwt.toNat / 2 ^ 24)

/-- Whether a target lies at or before a time (R139). -/
def reached (now target : Word) : Bool := decide (0 ≤ sdiff48 now target)

/-- Whether a time lies in the half-open window [opens, closes) (R139, R140); one whose close does not lie 1 to 2^47 - 1 ns after its open
holds no instant. -/
def inWindow (t opens closes : Word) : Bool :=
  decide (0 < sdiff48 closes opens) && decide (0 ≤ sdiff48 t opens) && decide (sdiff48 t closes < 0)

/-- Fine steps of 39.0625 ps as units of 2^-24 ns (one fine step is 655,360 of them). -/
def fineUnits (steps : Nat) : Nat := steps * 655360

/-! ### CRC-32 (R53) -/

/-- One bit of the CRC. -/
def crcBit (c : BitVec 32) : BitVec 32 := if c.getLsbD 0 then (c >>> 1) ^^^ 0xEDB88320#32 else c >>> 1

/-- One byte of the CRC. -/
def crcByte (c : BitVec 32) (b : Nat) : BitVec 32 :=
  (List.range 8).foldl (fun c _ => crcBit c) (c ^^^ BitVec.ofNat 32 (b % 256))

/-- One word, as six bytes, most significant byte first. -/
def crcWord (c : BitVec 32) (w : Word) : BitVec 32 :=
  [40, 32, 24, 16, 8, 0].foldl (fun c s => crcByte c (w.toNat >>> s)) c

/-- The CRC-32 of IEEE 802.3 over words (R53). -/
def crc32 (ws : List Word) : BitVec 32 := (ws.foldl crcWord 0xFFFFFFFF#32) ^^^ 0xFFFFFFFF#32

/-! ### Lists of like things -/

/-- The `k`-th element of a list of truth values. -/
def List.bitD (l : List Bool) (k : Nat) : Bool := l.getD k false

/-- Change tracker n. -/
def Chip.modTracker (c : Chip) (n : Nat) (f : Tracker → Tracker) : Chip := { c with trackers := c.trackers.modify n f }

/-- Change Kerf table n. -/
def Chip.modKerf (c : Chip) (n : Nat) (f : Kerf → Kerf) : Chip := { c with kerfs := c.kerfs.modify n f }

/-- Tracker n. -/
def Chip.tracker (c : Chip) (n : Nat) : Tracker := c.trackers.getD n {}

/-- Kerf table n. -/
def Chip.kerf (c : Chip) (n : Nat) : Kerf := c.kerfs.getD n {}

/-- Timebase g (6 is GB). -/
def Chip.pwmg (c : Chip) (g : Nat) : PwmGroup := c.pwmG.getD g {}

/-- Change timebase g. -/
def Chip.modPwmg (c : Chip) (g : Nat) (f : PwmGroup → PwmGroup) : Chip := { c with pwmG := c.pwmG.modify g f }

/-- Leg n in the PWM generator. -/
def Chip.leg (c : Chip) (n : Nat) : PwmLeg := c.pwmL.getD n {}

/-- Change leg n in the PWM generator. -/
def Chip.modLeg (c : Chip) (n : Nat) (f : PwmLeg → PwmLeg) : Chip := { c with pwmL := c.pwmL.modify n f }

/-- Strength line g (6 is GB). -/
def Chip.gdsg (c : Chip) (g : Nat) : GdsGroup := c.gdsG.getD g {}

/-- Change strength line g. -/
def Chip.modGdsg (c : Chip) (g : Nat) (f : GdsGroup → GdsGroup) : Chip := { c with gdsG := c.gdsG.modify g f }

/-- Leg n in gate-drive supervision. -/
def Chip.gdsl (c : Chip) (n : Nat) : GdsLeg := c.gdsL.getD n {}

/-- Change leg n in gate-drive supervision. -/
def Chip.modGdsl (c : Chip) (n : Nat) (f : GdsLeg → GdsLeg) : Chip := { c with gdsL := c.gdsL.modify n f }

/-- The legs of a group (R5); 6 is the pseudo-group GB. -/
def legsOf (g : Nat) : List Nat := if g = 6 then [18, 19] else [3 * g, 3 * g + 1, 3 * g + 2]

/-- The group of a leg (R5); 6 is GB. -/
def groupOf (n : Nat) : Nat := if 18 ≤ n then 6 else n / 3

/-- The position of a leg in its group. -/
def legPos (n : Nat) : Nat := if 18 ≤ n then n - 18 else n % 3

/-- The switch index of a leg's switch within its group (R7). -/
def swIndex (n : Nat) (high : Bool) : Nat := 2 * legPos n + (if high then 0 else 1)

/-! ### Event words -/

/-- Set one bit of DEV.EVTn (R91). -/
def Chip.evt (c : Chip) (n k : Nat) : Chip := c.wr (0x10 + n) ((c.rd (0x10 + n)).setField k 1 1)

end Sys2Proof.Machine
end

