-- ==== Sys2Proof/Machine/Flags.lean ====
section
/-! DEFINITION. The event bits of DEV.EVT0 to DEV.EVT3 by name (R92 to R95), the occurrences that counters and trace see (R684 to R686),
and the triggers a unit raises for the end of the step (R30). -/

namespace Sys2Proof.Machine

/-! ### DEV.EVT0 (R92) -/

/-- MODE_CHG. -/
def Chip.evModeChg (c : Chip) : Chip := c.evt 0 0
/-- PEND_DONE. -/
def Chip.evPendDone (c : Chip) : Chip := c.evt 0 1
/-- LINK_OVR. -/
def Chip.evLinkOvr (c : Chip) : Chip := c.evt 0 2
/-- HWD_EXP. -/
def Chip.evHwdExp (c : Chip) : Chip := c.evt 0 3
/-- SEAL_CHG. -/
def Chip.evSealChg (c : Chip) : Chip := c.evt 0 4
/-- SEAL_AUTO. -/
def Chip.evSealAuto (c : Chip) : Chip := c.evt 0 5
/-- CFG_FAIL. -/
def Chip.evCfgFail (c : Chip) : Chip := c.evt 0 6
/-- CLK_EVT. -/
def Chip.evClk (c : Chip) : Chip := c.evt 0 7
/-- BOOT_DONE. -/
def Chip.evBootDone (c : Chip) : Chip := c.evt 0 8
/-- BIST_EVT. -/
def Chip.evBist (c : Chip) : Chip := c.evt 0 9
/-- STORE_EVT. -/
def Chip.evStore (c : Chip) : Chip := c.evt 0 10
/-- TIME_EVT. -/
def Chip.evTime (c : Chip) : Chip := c.evt 0 11
/-- SWEV. -/
def Chip.evSw (c : Chip) : Chip := c.evt 0 12

/-! ### DEV.EVT1 (R93) -/

/-- STO_CHG. -/
def Chip.evStoChg (c : Chip) : Chip := c.evt 1 0
/-- SAFE_DEMAND. -/
def Chip.evSafeDemand (c : Chip) : Chip := c.evt 1 1
/-- SIN_DIAG. -/
def Chip.evSinDiag (c : Chip) : Chip := c.evt 1 2
/-- RIND_DIAG. -/
def Chip.evRindDiag (c : Chip) : Chip := c.evt 1 3
/-- DCLINK. -/
def Chip.evDclink (c : Chip) : Chip := c.evt 1 4
/-- CHOPPER. -/
def Chip.evChopper (c : Chip) : Chip := c.evt 1 5
/-- SAFE_STATE. -/
def Chip.evSafeState (c : Chip) : Chip := c.evt 1 6
/-- THERM_STEP. -/
def Chip.evThermStep (c : Chip) : Chip := c.evt 1 7
/-- THERM_WIN. -/
def Chip.evThermWin (c : Chip) : Chip := c.evt 1 8
/-- SENSOR. -/
def Chip.evSensor (c : Chip) : Chip := c.evt 1 9

/-! ### DEV.EVT2 (R94) -/

/-- GFLT bit g, or GBFLT for GB. -/
def Chip.evGflt (c : Chip) (g : Nat) : Chip := c.evt 2 g
/-- AXFLT of axis An. -/
def Chip.evAxflt (c : Chip) (n : Nat) : Chip := c.evt 2 (8 + n)
/-- AXMON of axis An. -/
def Chip.evAxmon (c : Chip) (n : Nat) : Chip := c.evt 2 (12 + n)
/-- WRAP. -/
def Chip.evWrap (c : Chip) : Chip := c.evt 2 16
/-- LANE. -/
def Chip.evLane (c : Chip) : Chip := c.evt 2 17
/-- ADC_SPARE. -/
def Chip.evAdcSpare (c : Chip) : Chip := c.evt 2 18
/-- PWM_WARN. -/
def Chip.evPwmWarn (c : Chip) : Chip := c.evt 2 19

/-! ### DEV.EVT3 (R95) -/

/-- RXFIFO of PUc. -/
def Chip.evRxfifo (c : Chip) (p : Nat) : Chip := c.evt 3 p
/-- PRIO of PUc. -/
def Chip.evPrio (c : Chip) (p : Nat) : Chip := c.evt 3 (2 + p)
/-- BUSERR of PUc. -/
def Chip.evBuserr (c : Chip) (p : Nat) : Chip := c.evt 3 (4 + p)
/-- ID_COLL. -/
def Chip.evIdColl (c : Chip) : Chip := c.evt 3 6
/-- BUDGET. -/
def Chip.evBudget (c : Chip) : Chip := c.evt 3 7
/-- METER. -/
def Chip.evMeter (c : Chip) : Chip := c.evt 3 8
/-- POWER_FAIL. -/
def Chip.evPowerFail (c : Chip) : Chip := c.evt 3 9

/-! ### Triggers for the end of the step -/

/-- Raise a trigger (R30). -/
def Chip.notice (c : Chip) (n : Notice) : Chip := { c with notices := c.notices ++ [n] }

/-! ### Counters and trace -/

/-- The place of a packet among those of one PCLK cycle (R682): SYNC, then EVENT by CODE and ARG, then PROBE by index. -/
def Packet.rank (p : Packet) : Nat := (if p.kind = 1 then 0 else if p.kind = 3 then 1 else 2) * 4096 + p.code * 64 + p.arg

/-- Whether a packet goes ahead of one that waits: both of one capture instant, the waiting one of a later place. -/
def Packet.before (p q : Packet) : Bool := p.ts == q.ts && q.kind != 4 && decide (p.rank < q.rank)

/-- The FIFO with a packet in its place. -/
def placePacket (l : List Packet) (p : Packet) : List Packet :=
  let k := (l.reverse.takeWhile p.before).length
  l.take (l.length - k) ++ p :: l.drop (l.length - k)

/-- A packet is queued in the order of R682: of more packets than the FIFO of 64 entries holds, the last is dropped and counted. -/
def Obs.queue (o : Obs) (p : Packet) : Obs :=
  let l := placePacket o.fifo p
  if o.fifo.length < 64 then { o with fifo := l }
  else { o with fifo := l.take 64, lost := o.lost + 1, drops := min (o.drops + 1) 0xFFFFFFFF }

/-- Whether the Whey port runs (R678): enabled, and neither RESET nor clock hold. -/
def Chip.wheyOn (c : Chip) : Bool := c.is F.OBS_WCFG_EN && c.mode != .reset

/-- The SYNC packet of an instant (R680, R681). -/
def syncPacket (now : Word) : Packet := ⟨1, 0, 0, 0, now.toNat % 2 ^ 24, now⟩

/-- Queue a SYNC packet when the port runs (R681). -/
def Chip.queueSync (c : Chip) : Chip :=
  if c.wheyOn then { c with obs := { c.obs.queue (syncPacket c.now) with lastSync := c.now } } else c

/-- Whether a selection (EVT, ARG) names an occurrence: ARG 0x3F matches every instance (R684); an event without an
instance must be selected with 0x3F (R685). -/
def selects (evt arg e : Nat) (inst : Option Nat) : Bool :=
  e != 0 && evt == e && (arg == 0x3F || (match inst with | some i => arg == i | none => false))

/-- Count one occurrence in counter n (R686). -/
def Obs.count (o : Obs) (n : Nat) : Obs :=
  let w := o.cnt.getD n 0
  { o with cnt := o.cnt.set n (w + 1), wrapped := if w + 1 = 0 then o.wrapped ||| (1 <<< n) else o.wrapped }

/-- One occurrence of an event of R685: the counters that select it count, and a selected event queues an EVENT packet. -/
def Chip.occur (c : Chip) (e : Nat) (inst : Option Nat) (detail : Word) : Chip :=
  if c.mode = .reset then c else
  let counted := (List.range 64).foldl (fun o n =>
    if selects (c.get (F.OBS_CSEL_EVT n)) (c.get (F.OBS_CSEL_ARG n)) e inst then o.count n else o) c.obs
  let traced := c.wheyOn && (List.range 8).any (fun j =>
    c.is (F.OBS_TEV_EN j) && selects (c.get (F.OBS_TEV_EVT j)) (c.get (F.OBS_TEV_ARG j)) e inst)
  { c with obs := if traced then counted.queue ⟨3, e, inst.getD 0, 0, c.now.toNat % 2 ^ 24, detail⟩ else counted }

/-- A probe capture (R683): every enabled probe whose source matches skips DECIM captures between two it queues. `m k` says
whether the settings of probe k name the source. -/
def Chip.probe (c : Chip) (m : Nat → Bool) (value : Word) (exp : Nat) : Chip :=
  if c.wheyOn then
    { c with obs := (List.range 16).foldl (fun o k =>
        if c.is (F.OBS_PRB_EN k) && m k then
          if o.skipped.getD k 0 = 0 then
            { o.queue ⟨2, k, 0, exp, c.now.toNat % 2 ^ 24, value⟩ with skipped := o.skipped.set k (c.get (F.OBS_PRB_DECIM k)) }
          else { o with skipped := o.skipped.set k (o.skipped.getD k 0 - 1) }
        else o) c.obs }
  else c

/-- Queue a soft-repair record for the store (R671). -/
def Chip.dueRepair (c : Chip) (r : RepairRec) : Chip := { c with repairs := c.repairs ++ [r] }

/-- A CAPTURE event of a source (R157, R158): every enabled unit that names it takes the integer part of NWT, if the edge and the gate
qualify. `rising` is the edge; an event source has none and every event counts. -/
def captureUnit (src : Nat) (rising : Bool) (n : Nat) (c : Chip) : Chip :=
  let eventSrc := src = 5 || src = 6 || (8 ≤ src && src ≤ 13) || src = 0x18 || src = 0x19
  let pinSrc := src ≤ 4 || (0x10 ≤ src && src ≤ 0x17)
  let edge := c.get (F.NWT_NCAPn_CTL_EDGE n)
  let edgeOk := eventSrc || edge = 3 || (rising && edge ≠ 2) || (!rising && edge = 2)
  let gate := c.get (F.NWT_NCAPn_CTL_GATE n)
  let gateOk := gate = 0 || 4 < gate || c.time.tio.getLsbD (gate - 1)
  if c.is (F.NWT_NCAPn_CTL_EN n) && c.get (F.NWT_NCAPn_CTL_SRC n) == src && (eventSrc || pinSrc) && edgeOk && gateOk then
    let full := c.is (F.NWT_NCAPn_CTL_VALID n)
    let c := if full then c.raise (F.NWT_NCAPn_CTL_OVR n) else c
    if full && c.is (F.NWT_NCAPn_CTL_KEEP n) then c
    else (c.wr (F.NWT_NCAPn_VAL n) c.now).raise (F.NWT_NCAPn_CTL_VALID n)
  else c

/-- An edge or event at a capture source, seen by all sixteen units (R157). -/
def Chip.captureAt (c : Chip) (src : Nat) (rising : Bool) : Chip := c.forN 16 (captureUnit src rising)

end Sys2Proof.Machine
end

