-- ==== Sys2Proof/Machine/Engine.lean ====
section
/-! DEFINITION. The Zaensan engine's programs, starts and lanes (10_zaensan_engine): starts and queues, runs, program resets, migrations and
the mapping of lanes. What a run computes is in Blocks. -/

namespace Sys2Proof.Machine

/-- Sets run in every mode except RESET, BOOT and SELFTEST (R211); so do timebases (R235) and programs (R324). -/
def runMode (m : Mode) : Bool := m != .reset && m != .boot && m != .selftest

/-! ### The mapping of lanes (R306, R337) -/

/-- The physical lane of logical lane j; none where LMAP reads 0xF. -/
def physLane (c : Chip) (j : Nat) : Option Nat :=
  let z := (c.rd F.ZEN_LMAP).field (4 * j) 4
  if z = 15 then none else some z

/-- The spare physical lane. -/
def spareLane (c : Chip) : Option Nat := if c.get F.ZEN_LMAP_SPARE = 15 then none else some (c.get F.ZEN_LMAP_SPARE)

/-- Map logical lane j to physical lane z (15: none). -/
def mapLane (j z : Nat) (c : Chip) : Chip := c.wr F.ZEN_LMAP ((c.rd F.ZEN_LMAP).setField (4 * j) 4 z)

/-- NACT counts the physical lanes that are ACTIVE (R338). -/
def countActive (c : Chip) : Chip :=
  c.set F.ZEN_STAT_NACT ((List.range 9).filter (fun z => c.get (F.ZEN_LANE_STAT_STATE z) == 0)).length

/-- Give a physical lane a state and the logical lane it holds (R339). -/
def setLane (z st log : Nat) (c : Chip) : Chip := (c.set (F.ZEN_LANE_STAT_STATE z) st).set (F.ZEN_LANE_STAT_LOG z) log

/-- Map the lanes that are not retired (R337). -/
def mapLanes (c : Chip) : Chip :=
  let good := (List.range 9).filter (fun z => c.get (F.ZEN_LANE_STAT_STATE z) != 4)
  let n := good.length
  let c := c.forN 8 (fun j c => mapLane j (if j < n then good.getD j 15 else 15) c)
  let c := c.forEach good (fun z c =>
    let k := good.findIdx (· == z)
    if k < 8 then setLane z 0 k c else setLane z 1 15 c)
  let c := (c.set F.ZEN_LMAP_SPARE (if n = 9 then good.getD 8 15 else 15)).set F.ZEN_LMAP_TESTL 15
  let c := if n ≤ 8 then c.raise F.ZEN_STAT_NOSPARE else c
  let c := if n ≤ 7 then (c.raise F.ZEN_STAT_DEGRADED).notice (.device .degraded) else c
  countActive c

/-! ### Starts and queues (R321 to R323) -/

/-- A start of program p is dropped (R322, R337). -/
def dropStart (p : Nat) (c : Chip) : Chip := (c.countSat (F.ZEN_PG_STAT_OVRUN p) 1).occur 0x05 (some p) 0

/-- The ZCLK cycle in which the present PCLK cycle begins, counted since power-on: ZCLK runs at 600 MHz, PCLK at 400 MHz. -/
def zclkNow (c : Chip) : Nat := 3 * c.up / 2

/-- The ZCLK cycle of the last start that reached program p (R322). -/
def noteStart (p : Nat) (at_ : Option Nat) (c : Chip) : Chip := { c with zen := { c.zen with startAt := c.zen.startAt.set p at_ } }

/-- A start reaches program p, an early start with its set and SEQ (R321, R322, R324, R337): ignored while EN is 0 and where programs do not run, one with a
start of the same ZCLK cycle; else it queues the program, or is dropped. -/
def reachProgram (p : Nat) (early : Option (Nat × Nat)) (c : Chip) : Chip :=
  if !runMode c.mode || !c.is (F.ZEN_PG_CFG_EN p) then c
  else if c.zen.startAt.getD p none = some (zclkNow c) then c
  else
    let c := noteStart p (some (zclkNow c)) c
    if (physLane c (c.get (F.ZEN_PG_CFG_LANE p))).isNone || c.is (F.ZEN_PG_STAT_QUEUED p) || c.is (F.ZEN_PG_STAT_RUNNING p) then dropStart p c
    else
      let c := match early with | some x => { c with zen := { c.zen with early := (p, x) :: c.zen.early } } | none => c
      c.raise (F.ZEN_PG_STAT_QUEUED p)

/-- A start reaches program p. -/
def startProgram (p : Nat) (c : Chip) : Chip := reachProgram p none c

/-- Start every program whose bit is 1, from number `base` on (R341). -/
def startMask (base n : Nat) (w : Word) (c : Chip) : Chip := c.forN n (fun k c => if w.getLsbD k then startProgram (base + k) c else c)

/-- The run on logical lane j. -/
def laneRun (c : Chip) (j : Nat) : Option ZRun := c.zen.running.getD j none

/-- Replace the run on logical lane j. -/
def laneRunTo (j : Nat) (r : Option ZRun) (c : Chip) : Chip := { c with zen := { c.zen with running := c.zen.running.set j r } }

/-- The programs queued on logical lane j, in ascending order. -/
def queuedOn (c : Chip) (j : Nat) : List Nat :=
  (List.range 64).filter (fun p => c.is (F.ZEN_PG_STAT_QUEUED p) && c.get (F.ZEN_PG_CFG_LANE p) == j)

/-- The queued program that an idle lane takes: highest PRIO, then lowest number (R323). -/
def nextProgram (c : Chip) (j : Nat) : Option Nat :=
  (queuedOn c j).foldl (fun best p =>
    match best with
    | none => some p
    | some b => if c.get (F.ZEN_PG_CFG_PRIO b) < c.get (F.ZEN_PG_CFG_PRIO p) then some p else some b) none

/-- Number of stages and first stage of a program's configuration word (R342). -/
def stagesOf (cfg : Word) : List Nat := (List.range (max 1 (cfg.field 8 9))).map (fun k => cfg.field 0 8 + k) |>.filter (· < 256)

/-- The blocks of stage s (R314), those that exist. -/
def blocksOf (c : Chip) (s : Nat) : List Nat :=
  (List.range (c.get (F.ZEN_ST_BLK_COUNT s))).map (fun k => c.get (F.ZEN_ST_BLK_FIRST s) + k) |>.filter (· < 1024)

/-- Every program reset that was requested and can take effect is left to PROGRAM_RESET; requests add up (R325). -/
def requestReset (base n : Nat) (w : Word) (c : Chip) : Chip :=
  let bits := (List.range n).foldl (fun b k => if w.getLsbD k then b ||| (1#64 <<< (base + k)) else b) c.zen.pgrst
  { c with zen := { c.zen with pgrst := bits } }

/-- Entry into SELFTEST abandons runs and empties queues (R324). -/
def abandonPrograms (c : Chip) : Chip :=
  let c := c.forN 64 (fun p c =>
    let c := if c.is (F.ZEN_PG_STAT_RUNNING p) then (c.setb (F.ZEN_PG_STAT_RUNNING p) false).raise (F.ZEN_PG_STAT_ABORT p) else c
    if c.is (F.ZEN_PG_STAT_QUEUED p) then c.setb (F.ZEN_PG_STAT_QUEUED p) false else c)
  let c := c.forN 9 (fun z c => if c.is (F.ZEN_LANE_STAT_BUSY z) then c.setb (F.ZEN_LANE_STAT_BUSY z) false else c)
  { c with zen := { c.zen with running := List.replicate 8 none, early := [], startAt := List.replicate 64 none } }

/-! ### Migration (R332 to R336) -/

/-- The logical lane of the migration in progress: the one its destination holds in MIRROR (R339). -/
def migLogical (c : Chip) : Nat := c.get (F.ZEN_LANE_STAT_LOG (c.get F.ZEN_MIG_DST))

/-- A migration of logical lane j is requested, by the BIST scheduler or by the host (R332). -/
def requestMigration (j : Nat) (bist : Bool) (c : Chip) : Chip :=
  match spareLane c, physLane c j with
  | some d, some z =>
    if c.get F.ZEN_MIG_PHASE ≠ 0 ∨ !runMode c.mode then c.raise F.ZEN_STAT_MIGREF
    else
      let c := ((c.set F.ZEN_MIG_SRC z).set F.ZEN_MIG_DST d).set F.ZEN_MIG_PHASE 1
      let c := (setLane d 2 j c).set F.ZEN_LMAP_SPARE 15
      { c with zen := { c.zen with migBist := bist } }
  | _, _ => c.raise F.ZEN_STAT_MIGREF

/-- Whether a migration of requestMigration would be taken (R332, R670). -/
def mayMigrate (c : Chip) (j : Nat) : Bool :=
  (spareLane c).isSome && (physLane c j).isSome && c.get F.ZEN_MIG_PHASE == 0 && runMode c.mode

/-- The words of physical lane z, as addresses within the lane. -/
def laneWords (c : Chip) (z : Nat) : List (Nat × Word) :=
  (c.lanes.filter (fun e => e.1 / 4096 == z)).map (fun e => (e.1 % 4096, e.2))

/-- The copy is complete: the destination holds the source's memory (R332). -/
def migrationCopyDone (c : Chip) : Chip :=
  if c.get F.ZEN_MIG_PHASE = 1 then
    let d := c.get F.ZEN_MIG_DST
    let src := laneWords c (c.get F.ZEN_MIG_SRC)
    let c := { c with lanes := c.lanes.filter (fun e => e.1 / 4096 != d) }
    (c.forEach src (fun e c => c.laneWr d e.1 e.2)).set F.ZEN_MIG_PHASE 2
  else c

/-- The switch instant (R333): the lane is idle and nothing is queued on it. -/
def switchInstant (c : Chip) : Chip :=
  let j := migLogical c
  if c.get F.ZEN_MIG_PHASE = 2 ∧ (laneRun c j).isNone ∧ (queuedOn c j).isEmpty then
    let z := c.get F.ZEN_MIG_SRC
    let d := c.get F.ZEN_MIG_DST
    let c := setLane d 0 j (mapLane j d c)
    let c := if c.zen.migBist then (setLane z 3 15 c).set F.ZEN_LMAP_TESTL z else (setLane z 1 15 c).set F.ZEN_LMAP_SPARE z
    let c := ((c.countSat F.ZEN_MIG_MIGCNT 1).raise F.ZEN_STAT_LANEEVT).evLane
    countActive (c.set F.ZEN_MIG_PHASE 0)
  else c

/-- A migration is abandoned (R334): the destination is the spare again. -/
def abandonMigration (counted : Bool) (c : Chip) : Chip :=
  let d := c.get F.ZEN_MIG_DST
  let c := (setLane d 1 15 c).set F.ZEN_LMAP_SPARE d
  let c := if counted then c.countSat F.ZEN_MIG_MIGSKIP 1 else c
  c.set F.ZEN_MIG_PHASE 0

/-- 10 ms of SWITCH without a switch instant (R334). -/
def migrationTimeout (c : Chip) : Chip := if c.get F.ZEN_MIG_PHASE = 2 then abandonMigration true c else c

/-- A lane under operation-time test passes or fails (R336). -/
def laneTested (pass : Bool) (c : Chip) : Chip :=
  let z := c.get F.ZEN_LMAP_TESTL
  if z = 15 then c else
  let c := c.set F.ZEN_LMAP_TESTL 15
  if pass then ((setLane z 1 15 c).set F.ZEN_LMAP_SPARE z).countMod (F.ZEN_LANE_STAT_TESTS z) 1
  else ((((setLane z 4 15 c).raise F.ZEN_STAT_NOSPARE).raise F.ZEN_STAT_LANEEVT).evLane)

/-! ### Lane memory by physical lane -/

/-- A write to the lane memory of logical lane j: while it migrates, the destination is written too (R332). -/
def laneStore (j a : Nat) (w : Word) (c : Chip) : Chip :=
  match physLane c j with
  | some z =>
    let c := c.laneWr z a w
    if c.get F.ZEN_MIG_PHASE ≠ 0 ∧ c.get F.ZEN_MIG_SRC = z then c.laneWr (c.get F.ZEN_MIG_DST) a w else c
  | none => c

/-- A word of the lane window of logical lane j (R307, R309). -/
def laneLoad (c : Chip) (j a : Nat) : Word :=
  match physLane c j with
  | some z => if a < 0xF00 then c.laneRd z a else (c.window.find (a - 0xF00)).getD 0
  | none => 0

/-- The exponent in force of stage s (R314). -/
def stageExp (c : Chip) (s : Nat) : Int := c.geti (F.ZEN_ST_EXP_E s)

/-- The exponent of a stage returns to EXP (R318). -/
def resetStage (s : Nat) (c : Chip) : Chip := c.set (F.ZEN_ST_EXP_E s) (c.get (F.ZEN_ST_CFG_EXP s))

/-- Every stage takes its EXP, at the end of BOOT (R318). -/
def resetStages (c : Chip) : Chip := c.forN 256 resetStage

end Sys2Proof.Machine
end

