-- ==== Sys2Proof/Machine/Adc.lean ====
section
/-! DEFINITION. Analog acquisition (07_analog_acquisition): references, sample-set runs, results, calibration and spare slices, window
comparators. What a comparator's condition does to legs and groups stands in the files of those. -/

namespace Sys2Proof.Machine

/-! ### References (R193 to R197) -/

/-- The source that a REFSEL value names: 0b11 is taken as INTERNAL (R193). -/
def refOf (sel : Nat) : Nat := if sel = 3 then 0 else sel

/-- A change of the source in use restarts settling (R193). -/
def changeRef (src : Nat) (c : Chip) : Chip := (c.set F.ADC_STAT_REFACT src).setb F.ADC_STAT_REF_SETTLED false

/-- REFFLT while EXTERNAL is in use and REFPOK is 0, with the fall-back of REFAUTO (R196). -/
def refFault (c : Chip) : Chip :=
  if c.get F.ADC_STAT_REFACT = 1 ∧ ¬ c.is F.ADC_STAT_REFPOK then
    let c := (c.raise F.ADC_STAT_REFFLT).notice (.device .refflt)
    if c.is F.ADC_CFG_REFAUTO then changeRef 0 (c.raise F.ADC_STAT_REFFB) else c
  else c

/-- The effect of a REFSEL value in force after a write or a restore: a selection that differs from the source in use changes
it at once (R197), and R196 applies to the new source. -/
def refSelected (c : Chip) : Chip :=
  let sel := refOf (c.get F.ADC_CFG_REFSEL)
  if sel = c.get F.ADC_STAT_REFACT then c else refFault (changeRef sel c)

/-- The settling time of the reference has passed. -/
def referenceSettled (c : Chip) : Chip :=
  if c.mode = .reset then c else c.setb F.ADC_STAT_REF_SETTLED true

/-- REFP has been outside or inside its window for 16 SOSC cycles (R196). -/
def refpMonitor (inside : Bool) (c : Chip) : Chip :=
  if inside = c.is F.ADC_STAT_REFPOK then c
  else if inside then c.raise F.ADC_STAT_REFPOK
  else refFault (c.setb F.ADC_STAT_REFPOK false)

/-! ### Slots and sets -/

/-- SLk[EN]. -/
def slotEn (w : Word) : Bool := w.field 15 1 == 1
/-- SLk[RANK]. -/
def slotRank (w : Word) : Nat := w.field 13 2
/-- SLk[DIFF]. -/
def slotDiff (w : Word) : Bool := w.field 12 1 == 1
/-- SLk[CONV]. -/
def slotConv (w : Word) : Nat := w.field 6 4
/-- SLk[CH]. -/
def slotCh (w : Word) : Nat := w.field 0 6

/-- The slots of SETs as its words hold them. -/
def slotsOf (c : Chip) (s : Nat) : List Word := (List.range 16).map (fun k => c.rd (F.ADC_SET_SL s k))

/-- The ranks that hold an enabled slot, ascending (R205). -/
def ranksOf (slots : List Word) : List Nat :=
  [0, 1, 2, 3].filter (fun r => slots.any (fun w => slotEn w && slotRank w == r))

/-- Whether an enabled slot names converter `cv`. -/
def names (slots : List Word) (cv : Nat) : Bool := slots.any (fun w => slotEn w && slotConv w == cv)

/-- The run of SETs. -/
def setRun (c : Chip) (s : Nat) : Option SetRun := c.adc.runs.getD s none

/-- Replace the run of SETs. -/
def setRunTo (s : Nat) (r : Option SetRun) (c : Chip) : Chip := { c with adc := { c.adc with runs := c.adc.runs.set s r } }

/-- The ACLK edge, counted since power-on, at which a trigger issued in the present PCLK cycle is taken (R204): ACLK edges fall at 0 and at 6.25 ns of the
12.5 ns that five PCLK cycles last. The model lets this period begin with the power-on count (log entry 75). -/
def takeEdge (c : Chip) : Nat := 2 * (c.up / 5) + (if c.up % 5 ≤ 1 then 1 else 2)

/-- The last ACLK edge in or before the present PCLK cycle. -/
def aclkNow (c : Chip) : Nat := 2 * (c.up / 5) + (if c.up % 5 ≤ 1 then 0 else 1)

/-- A trigger for SETs is taken (R200, R204, R206, R211): ignored where sets do not run or EN is 0, one with a trigger taken at the same ACLK edge, dropped
and counted while a run of the set is pending or running, else it starts a run with the words in force. -/
def triggerSet (s : Nat) (c : Chip) : Chip :=
  if runMode c.mode && c.is (F.ADC_SET_CFG_EN s) then
    match setRun c s with
    | some r => if r.takeAt = takeEdge c then c else ((setRunTo s (some { r with ovr := true }) c).countSat (F.ADC_SET_STAT_TRGDROP s) 1).occur 0x03 (some s) 0
    | none =>
      let slots := slotsOf c s
      setRunTo s (some { cfg := c.rd (F.ADC_SET_CFG s), slots := slots, ranks := ranksOf slots, takeAt := takeEdge c }) c
  else c

/-- Every set whose own source is the one given takes its trigger (R201). -/
def triggerSource (src : Nat) (c : Chip) : Chip :=
  c.forN 16 (fun s c => if c.get (F.ADC_SET_CFG_TRG s) = src then triggerSet s c else c)

/-! ### Roles of converters and spares -/

/-- The bank of a converter (R191). -/
def bankOf (cv : Nat) : Nat := cv / 8

/-- Bank b's background cycle. -/
def bank (c : Chip) (b : Nat) : Bank := c.adc.banks.getD b {}

/-- Change bank b. -/
def modBank (b : Nat) (f : Bank → Bank) (c : Chip) : Chip := { c with adc := { c.adc with banks := c.adc.banks.modify b f } }

/-- Whether the spare of its bank holds the role of a converter: for good, or in CONVCAL, VERIFY or SWAPBACK (R217, R219). -/
def spareHolds (c : Chip) (cv : Nat) : Bool :=
  let st := c.get (F.ADC_CS_STAT_STATE (bankOf cv))
  (st == 4 && c.get (F.ADC_C_STAT_STATE cv) == 3) || (st == 2 && c.get (F.ADC_CAL_CUR (bankOf cv)) == cv)

/-- Whether the role of a converter is calibrated away to its spare: CONVCAL, VERIFY or SWAPBACK runs on it (R221). -/
def inCalibration (c : Chip) (cv : Nat) : Bool :=
  let b := bankOf cv
  4 ≤ c.get (F.ADC_CAL_PHASE b) && c.get (F.ADC_CAL_PHASE b) ≤ 6 && c.get (F.ADC_CAL_CUR b) == cv

/-- Bits of the converters for which a property holds. -/
def convBits (p : Nat → Bool) : BitVec 16 := BitVec.ofNat 16 ((List.range 16).foldl (fun n k => n + (if p k then 2 ^ k else 0)) 0)

/-- Whether two runs name a common converter. -/
def shareConverter (p q : SetRun) : Bool := (List.range 16).any (fun cv => names p.slots cv && names q.slots cv)

/-- Whether the run of SETs is pending with its DLY over (R205 steps 1 and 2). -/
def reservable (c : Chip) (r : SetRun) : Bool := !r.reserved && decide (r.takeAt + r.cfg.field 32 8 ≤ aclkNow c)

/-- Whether another run has reserved a converter that the run of SETs names. -/
def blocked (c : Chip) (s : Nat) (r : SetRun) : Bool :=
  (List.range 16).any (fun t => t != s && (match setRun c t with | some q => q.reserved && shareConverter q r | none => false))

/-- Whether the run of SETs could reserve now (R205, R220). -/
def canReserve (c : Chip) (s : Nat) : Bool :=
  match setRun c s with
  | some r => reservable c r && !blocked c s r
  | none => false

/-- Whether a lower-numbered set that could reserve now shares a converter with the run of SETs: it reserves first (R205 step 2). -/
def precededBy (c : Chip) (s : Nat) (r : SetRun) : Bool :=
  (List.range s).any (fun t => canReserve c t && (match setRun c t with | some q => shareConverter q r | none => false))

/-- The run of SETs asks for its converters once its DLY has passed (R205 step 2): it reserves all of them if no other run has reserved one and no
lower-numbered run that can reserve shares one, else it stays pending with DEFER set. -/
def converterReservation (s : Nat) (c : Chip) : Chip :=
  match setRun c s with
  | none => c
  | some r =>
    if !reservable c r then c else
    if blocked c s r || precededBy c s r then c.raise (F.ADC_SET_STAT_DEFER s) else
    let waited := aclkNow c - (r.takeAt + r.cfg.field 32 8)
    let c := if 0 < waited then c.raise (F.ADC_SET_STAT_DEFER s) else c
    let c := c.set (F.ADC_SET_STAT_WAITMAX s) (max (c.get (F.ADC_SET_STAT_WAITMAX s)) (min waited 255))
    setRunTo s (some { r with reserved := true, bySpare := convBits (spareHolds c) }) c

/-- The sampling instant of the present rank (R205); at that of the first rank, trackers that latch on the set copy their angle
and speed (R174). -/
def samplingInstant (s : Nat) (c : Chip) : Chip :=
  match setRun c s with
  | none => c
  | some r =>
    if r.reserved && !r.sampled && !r.ranks.isEmpty then
      let first := r.ranks.length == (ranksOf r.slots).length
      let c := setRunTo s (some { r with sampled := true, refns := !c.is F.ADC_STAT_REF_SETTLED }) c
      if first then
        c.forN 6 (fun n c =>
          if c.is (F.AT_CFG_LEN n) && c.get (F.AT_CFG_LSET n) == s then
            let c := (c.wr (F.AT_SANG n) (c.rd (F.AT_ANG n))).wr (F.AT_SSPD n) (c.rd (F.AT_SPD n))
            c.probe (fun k => c.get (F.OBS_PRB_SRC k) == 4 && (c.get (F.OBS_PRB_ADDR k)) % 8 == n) (c.rd (F.AT_ANG n)) 0
          else c) |>.forN 6 (fun n c =>
          if c.get (F.AT_SRC_SET n) = s then c.modTracker n (fun t => { t with held := c.rd (F.AT_ANG n) }) else c)
      else c
    else c

/-! ### Results (R208, R212) -/

/-- The corrected code of a slice (R212), with its clamp: the code as its 16-bit pattern, and whether it stands at an end of its range. -/
def corrected (gain offs : Int) (diff : Bool) (raw : Nat) : Nat × Bool :=
  let r : Int := if diff then signed 16 raw else (raw % 65536 : Nat)
  let v := roundDiv (r * (4194304 + gain) - offs * 262144) 4194304
  let (lo, hi) : Int × Int := if diff then (-32768, 32767) else (0, 65535)
  let v := clampInt lo hi v
  (unsigned 16 v, v == lo || v == hi)

/-- The corrected code of slice `sl` (0 to 15 converters, 16 and 17 spares) for a raw code. -/
def sliceCode (c : Chip) (sl : Nat) (diff : Bool) (raw : Nat) : Nat × Bool :=
  if sl < 16 then corrected (c.geti (F.ADC_C_STAT_GAIN sl)) (c.geti (F.ADC_C_STAT_OFFS sl)) diff raw
  else corrected (c.geti (F.ADC_CS_STAT_GAIN (sl - 16))) (c.geti (F.ADC_CS_STAT_OFFS (sl - 16))) diff raw

/-- The VALUE field of a code (R208). -/
def alignCode (left diff : Bool) (code : Nat) : Nat :=
  if left then code * 256 else if diff && 32768 ≤ code then code + 0xFF0000 else code

/-- A result word from its fields (R208). -/
def resultWord (stale ovr range cal spare refns : Bool) (seq conv ch value : Nat) : Word :=
  BitVec.ofNat 48 (bit stale * 2 ^ 47 + bit ovr * 2 ^ 46 + bit range * 2 ^ 45 + bit cal * 2 ^ 44 + bit spare * 2 ^ 43 +
    bit refns * 2 ^ 42 + seq % 256 * 2 ^ 34 + conv % 16 * 2 ^ 30 + ch % 64 * 2 ^ 24 + value % 2 ^ 24)

/-- The result of slot k of a run (R208, R221, R225): a DEAD converter repeats the previous run's VALUE with STALE. -/
def slotResult (c : Chip) (s : Nat) (r : SetRun) (k : Nat) (w : Word) (raw : List Nat) : Word :=
  let cv := slotConv w
  let seq := c.get (F.ADC_SET_STAT_SEQ s) + 1
  if c.get (F.ADC_C_STAT_STATE cv) = 6 then
    resultWord true r.ovr false false false r.refns seq cv (slotCh w) (c.get (F.ADC_SET_R_VALUE s k))
  else
    let sp := r.bySpare.getLsbD cv
    let sl := if sp then 16 + bankOf cv else cv
    let (code, range) := sliceCode c sl (slotDiff w) (raw.getD sl 0)
    resultWord false r.ovr range (sp && inCalibration c cv) sp r.refns seq cv (slotCh w)
      (alignCode (r.cfg.field 46 1 == 1) (slotDiff w) code)

/-! ### The background cycle (R215 to R222) -/

/-- Whether an enabled set uses a converter (R218). -/
def convUsed (c : Chip) (cv : Nat) : Bool :=
  (List.range 16).any (fun s => c.is (F.ADC_SET_CFG_EN s) && names (slotsOf c s) cv)

/-- The converter of bank b's cycle. -/
def curConv (c : Chip) (b : Nat) : Nat := c.get (F.ADC_CAL_CUR b)

/-- A converter is replaced for good by its spare (R219), and a repair has been made (R92). -/
def makePermanent (b : Nat) (cv : Nat) (c : Chip) : Chip :=
  let c := (c.set (F.ADC_C_STAT_STATE cv) 3).set (F.ADC_CS_STAT_STATE b) 4
  let c := (c.raise (F.ADC_CAL_HALT b)).set (F.ADC_CAL_PHASE b) 0
  (((modBank b (fun k => { k with failing := false, abandoned := false, miss := 0, compares := 0, prev := none }) c).evAdcSpare).evBist).dueRepair ⟨3, cv, 0, 0⟩

/-- A converter is dead, its spare being permanent or failed (R225): a device fault if an enabled slot names it (R480). -/
def makeDead (cv : Nat) (c : Chip) : Chip :=
  let c := c.set (F.ADC_C_STAT_STATE cv) 6
  if convUsed c cv then c.notice (.device .convDead) else c

/-- A converter fails (R219, R225). -/
def convFails (cv : Nat) (c : Chip) : Chip :=
  let b := bankOf cv
  let st := c.get (F.ADC_CS_STAT_STATE b)
  if st = 4 ∨ st = 5 then makeDead cv c
  else if st = 2 ∨ c.mode = .boot then makePermanent b cv c
  else modBank b (fun k => { k with failing := true }) c

/-- A spare fails its reference calibration (R222); a converter it stood in for has then no slice left (R225). -/
def spareFails (b : Nat) (c : Chip) : Chip :=
  let wasPermanent := c.get (F.ADC_CS_STAT_STATE b) = 4
  let c := ((c.set (F.ADC_CS_STAT_STATE b) 5).raise (F.ADC_CAL_HALT b)).set (F.ADC_CAL_PHASE b) 0
  let c := ((c.evAdcSpare).evBist).dueRepair ⟨4, b, 0, 0⟩
  if wasPermanent then
    c.forN 8 (fun k c => if c.get (F.ADC_C_STAT_STATE (8 * b + k)) = 3 then makeDead (8 * b + k) c else c)
  else c

/-- A shadow or verify phase passes (R218). -/
def phasePasses (b : Nat) (c : Chip) : Chip :=
  let c := modBank b (fun k => { k with miss := 0, compares := 0 }) c
  if c.get (F.ADC_CAL_PHASE b) = 2 then c.set (F.ADC_CAL_PHASE b) 3
  else if c.get (F.ADC_CAL_PHASE b) = 5 then c.set (F.ADC_CAL_PHASE b) 6
  else c

/-- A shadow or verify phase begins; where no enabled set uses the converter it passes at once (R218). -/
def beginCompare (b phase : Nat) (c : Chip) : Chip :=
  let c := modBank b (fun k => { k with miss := 0, compares := 0 }) (c.set (F.ADC_CAL_PHASE b) phase)
  if convUsed c (curConv c b) then c else phasePasses b c

/-- One compare of a shadow or verify phase (R218), from the difference of the two corrected codes. -/
def shadowCompare (b : Nat) (diff : Nat) (c : Chip) : Chip :=
  if diff ≤ c.get F.ADC_CALCFG_TOL then
    let c := modBank b (fun k => { k with miss := 0, compares := k.compares + 1 }) c
    if c.get F.ADC_CALCFG_NCMP ≤ (bank c b).compares then phasePasses b c else c
  else
    let c := (modBank b (fun k => { k with miss := k.miss + 1, compares := k.compares + 1 }) c).countSat (F.ADC_CAL_MISSES b) 1
    if c.get F.ADC_CALCFG_NFAIL ≤ (bank c b).miss then convFails (curConv c b) c
    else if c.get F.ADC_CALCFG_NCMP ≤ (bank c b).compares then phasePasses b c else c

/-- A PERIOD tick (R216): a cycle starts for the next converter after the one last treated, retired and dead ones skipped. -/
def calibrationTick (b : Nat) (c : Chip) : Chip :=
  let okMode := match c.mode with
    | .config | .standby | .precharge | .identify | .drive | .charge | .safestop | .discharge => true
    | _ => false
  if c.is F.ADC_CALCFG_EN && okMode && !c.is (F.ADC_CAL_HALT b) && c.get (F.ADC_CAL_PHASE b) == 0
      && !(bank c b).failing && !(bank c b).abandoned then
    let start := match (bank c b).last with | some cv => cv % 8 + 1 | none => 0
    let order := (List.range 8).map (fun k => 8 * b + (start + k) % 8)
    match order.find? (fun cv => c.get (F.ADC_C_STAT_STATE cv) != 3 && c.get (F.ADC_C_STAT_STATE cv) != 6) with
    | none => c
    | some cv =>
      let c := modBank b (fun k => { k with last := some cv }) ((c.set (F.ADC_CAL_CUR b) cv).set (F.ADC_CAL_PHASE b) 1)
      { c.set (F.ADC_CS_STAT_STATE b) 7 with adc := { c.adc with calRunning := c.adc.calRunning ||| (1 <<< (16 + b)) } }
  else c

/-- The coefficients of a slice that has passed a reference calibration (R213, R224). -/
def takeCoefficients (sl : Nat) (gain offs : Int) (c : Chip) : Chip :=
  if sl < 16 then
    ((c.seti (F.ADC_C_STAT_GAIN sl) gain).seti (F.ADC_C_STAT_OFFS sl) offs).countMod (F.ADC_C_STAT_CALCNT sl) 1
  else
    ((c.seti (F.ADC_CS_STAT_GAIN (sl - 16)) gain).seti (F.ADC_CS_STAT_OFFS (sl - 16)) offs).countMod (F.ADC_CS_STAT_CALCNT (sl - 16)) 1

/-- The ideal codes of the nine conversions of a reference calibration: ZERO, HALF, and the ladder at 1/8 to 7/8 of the reference (R213). -/
def idealCodes : List Int := [0, 32768, 8192, 16384, 24576, 32768, 40960, 49152, 57344]

/-- The coefficients (GAIN, OFFS) that fit the corrected codes of nine raw codes to their ideal codes by least squares, each rounded to nearest; none for
codes that determine no line (R213). That the corrected codes are fitted, and the rounding, is the model's reading (log entry 73). -/
def fitCoefficients (raw : List Int) : Option (Int × Int) :=
  let n : Int := 9
  let sr := raw.foldl (· + ·) 0
  let sy := idealCodes.foldl (· + ·) 0
  let srr := raw.foldl (fun t r => t + r * r) 0
  let sry := (raw.zip idealCodes).foldl (fun t p => t + p.1 * p.2) 0
  let num := n * sry - sr * sy
  let den := n * srr - sr * sr
  if den ≤ 0 then none
  else some (roundDiv ((num - den) * 2 ^ 22) den.toNat, roundDiv (16 * (num * sr - den * sy)) (9 * den).toNat)

/-- Whether a calibration with these coefficients passes: their limits, and every ladder point within 4 LSB of its ideal corrected code (R213). -/
def calibrationPasses (raw : List Int) (gain offs : Int) : Bool :=
  decide (-4096 ≤ offs ∧ offs ≤ 4096 ∧ -20972 ≤ gain ∧ gain ≤ 20972) &&
    ((raw.zip idealCodes).drop 2).all (fun p => decide ((((corrected gain offs false p.1.toNat).1 : Int) - p.2).natAbs ≤ 4))

/-- The coefficients of a slice at present. -/
def coefficients (c : Chip) (cv : Nat) : Int × Int := (c.geti (F.ADC_C_STAT_GAIN cv), c.geti (F.ADC_C_STAT_OFFS cv))

/-- A reference calibration ends with the raw codes of ZERO, HALF and the seven ladder points (R213); a failed one sets ADC_SPARE (R94). -/
def referenceCalibrationDone (sl : Nat) (codes : List (BitVec 16)) (c : Chip) : Chip :=
  if c.adc.calRunning.getLsbD sl && c.is F.ADC_STAT_REF_SETTLED then
    let c := { c with adc := { c.adc with calRunning := c.adc.calRunning &&& ~~~(1#18 <<< sl) } }
    let raw := (List.range 9).map (fun k => ((codes.getD k 0).toNat : Int))
    let fit := fitCoefficients raw
    let pass := match fit with | some (g, o) => calibrationPasses raw g o | none => false
    let (gain, offs) := fit.getD (0, 0)
    let c := if sl < 16 then modBank (bankOf sl) (fun k => { k with prev := if pass then some (coefficients c sl) else k.prev }) c else c
    let c := if pass then takeCoefficients sl gain offs c else c.evAdcSpare
    if c.mode = .boot then
      if pass then
        (if sl < 16 then (if c.get (F.ADC_C_STAT_STATE sl) = 7 then c.set (F.ADC_C_STAT_STATE sl) 0 else c)
         else if c.get (F.ADC_CS_STAT_STATE (sl - 16)) = 7 then c.set (F.ADC_CS_STAT_STATE (sl - 16)) 0 else c)
      else if sl < 16 then convFails sl c else spareFails (sl - 16) c
    else if sl < 16 then
      let b := bankOf sl
      if c.get (F.ADC_CAL_PHASE b) = 4 ∧ curConv c b = sl then
        (if pass then beginCompare b 5 c else convFails sl c)
      else c
    else
      let b := sl - 16
      if c.get (F.ADC_CAL_PHASE b) = 1 then
        if pass then
          beginCompare b 2 ((c.set (F.ADC_C_STAT_STATE (curConv c b)) 1).set (F.ADC_CS_STAT_STATE b) 1)
        else spareFails b c
      else c
  else c

/-- 100 ms have elapsed since the phase started (R218). -/
def phaseTimeLimit (b : Nat) (c : Chip) : Chip :=
  if (c.get (F.ADC_CAL_PHASE b) = 2 ∨ c.get (F.ADC_CAL_PHASE b) = 5) ∧ ¬ (bank c b).failing then phasePasses b c else c

/-- Whether an ACLK cycle is a gap of bank b (R220): neither the converter of the cycle nor its spare is reserved, and no pending run that names the
converter is able to reserve. -/
def inGap (c : Chip) (b : Nat) : Bool :=
  (List.range 16).all (fun s => match setRun c s with
    | some r => !(names r.slots (curConv c b) && (r.reserved || canReserve c s))
    | none => true)

/-- The converter of an abandoned cycle has its previous coefficients again (R216). -/
def restoreCoefficients (b : Nat) (c : Chip) : Chip :=
  match (bank c b).prev with
  | some (g, o) => (c.seti (F.ADC_C_STAT_GAIN (curConv c b)) g).seti (F.ADC_C_STAT_OFFS (curConv c b)) o
  | none => c

/-- The cycle of bank b ends with both slices in their own roles. -/
def endCycle (b : Nat) (c : Chip) : Chip :=
  modBank b (fun k => { k with abandoned := false, failing := false, miss := 0, compares := 0, prev := none })
    (((c.set (F.ADC_CAL_PHASE b) 0).set (F.ADC_C_STAT_STATE (curConv c b)) 0).set (F.ADC_CS_STAT_STATE b) 0)

/-- A gap comes for bank b (R219, R220): a failed converter hands its role over for good, an abandoned cycle gives the role back, SWAPIN
and SWAPBACK swap. R224 names two states that fit a converter in CONVCAL, SUBST and REFCAL, and none for SWAPIN and SWAPBACK: the model shows SUBST in CONVCAL,
keeps SHADOWED on both slices through SWAPIN and SUBST on both through SWAPBACK (DESIGN CHOICE, log entry 76). -/
def swapRoles (b : Nat) (c : Chip) : Chip :=
  if !inGap c b then c
  else if (bank c b).failing then makePermanent b (curConv c b) c
  else if (bank c b).abandoned then endCycle b (restoreCoefficients b c)
  else if c.get (F.ADC_CAL_PHASE b) = 3 then
    let c := ((c.set (F.ADC_CAL_PHASE b) 4).set (F.ADC_C_STAT_STATE (curConv c b)) 2).set (F.ADC_CS_STAT_STATE b) 2
    { c with adc := { c.adc with calRunning := c.adc.calRunning ||| (1 <<< curConv c b) } }
  else if c.get (F.ADC_CAL_PHASE b) = 6 then endCycle b c
  else c

/-- No gap came within 10 ms of SWAPIN (R220). -/
def swapinTimeout (b : Nat) (c : Chip) : Chip :=
  if c.get (F.ADC_CAL_PHASE b) = 3 ∧ ¬ (bank c b).failing then endCycle b (c.countSat (F.ADC_CAL_CALSKIP b) 1) else c

/-- A converter cycle in progress is abandoned on entry into a mode in which the background cycle does not run (R216); a converter that has failed still
waits for the gap that retires it (R219). -/
def abandonCycles (c : Chip) : Chip :=
  c.forN 2 (fun b c =>
    if c.get (F.ADC_CAL_PHASE b) = 0 ∨ (bank c b).failing then c
    else
      let c := { c with adc := { c.adc with calRunning := c.adc.calRunning &&& ~~~((1#18 <<< (16 + b)) ||| (1#18 <<< curConv c b)) } }
      if c.get (F.ADC_CS_STAT_STATE b) = 2 then
        modBank b (fun k => { k with abandoned := true, failing := false, miss := 0, compares := 0 }) (c.set (F.ADC_CAL_PHASE b) 0)
      else endCycle b c)

/-- On entry into SELFTEST every run in progress is abandoned and writes no result (R211). -/
def abandonRuns (c : Chip) : Chip := { c with adc := { c.adc with runs := List.replicate 16 none } }

/-! ### Conversion end and completion -/

/-- A shadowed or verified converter's compare in a run (R217, R218). -/
def compareSlot (w : Word) (raw : List Nat) (c : Chip) : Chip :=
  let cv := slotConv w
  let b := bankOf cv
  let ph := c.get (F.ADC_CAL_PHASE b)
  if (ph = 2 ∨ ph = 5) ∧ curConv c b = cv ∧ ¬ (bank c b).failing then
    let a := (sliceCode c cv (slotDiff w) (raw.getD cv 0)).1
    let d := (sliceCode c (16 + b) (slotDiff w) (raw.getD (16 + b) 0)).1
    let z : Int := if slotDiff w then signed 16 a - signed 16 d else (a : Int) - (d : Int)
    shadowCompare b z.natAbs c
  else c

/-- A result is written to the engine's input window (R205 step 4, R307), and traced (R683). -/
def writeWindow (s k : Nat) (w : Word) (c : Chip) : Chip :=
  let c := { c with window := c.window.put 0 (16 * s + k) w }
  c.probe (fun j => c.get (F.OBS_PRB_SRC j) == 3 && (c.get (F.OBS_PRB_ADDR j)) % 256 == 16 * s + k) w 0

/-- Whether the program that a run names under PGEN takes early starts (R321). -/
def setProgramEarly (c : Chip) (r : SetRun) : Bool :=
  r.cfg.field 23 1 == 1 && c.is (F.ZEN_PG_CFG_EN (r.cfg.field 16 6)) && c.is (F.ZEN_PG_CFG_EARLY (r.cfg.field 16 6))

/-- The conversions of the present rank end: its results are written to the engine (R205 steps 3 and 4) and compared where a
background cycle shadows them (R218). `raw` holds the raw code of each slice, converters 0 to 15, spares 16 and 17. -/
def rankConversionEnd (s : Nat) (raw : List Nat) (c : Chip) : Chip :=
  match setRun c s with
  | none => c
  | some r =>
    match r.ranks with
    | [] => c
    | rank :: rest =>
      if !r.sampled then c else
      let ks := (List.range 16).filter (fun k => slotEn (r.slots.getD k 0) && slotRank (r.slots.getD k 0) == rank)
      let rs := ks.map (fun k => (k, slotResult c s r k (r.slots.getD k 0) raw))
      let c := setRunTo s (some { r with ranks := rest, sampled := false, results := r.results ++ rs }) c
      let c := c.forEach rs (fun p c => writeWindow s p.1 p.2 c)
      let first := r.ranks.length == (ranksOf r.slots).length
      let c := if first && setProgramEarly c r then 
          reachProgram (r.cfg.field 16 6) (some (s, (c.get (F.ADC_SET_STAT_SEQ s) + 1) % 256)) (setRunTo s ((setRun c s).map (fun q => { q with early := true })) c)
        else c
      c.forEach ks (fun k c => compareSlot (r.slots.getD k 0) raw c)

/-- The waits of runs that an early start of SETs began end with its completion (R328). -/
def waitsOver (s : Nat) (c : Chip) : Chip :=
  { c with zen := { c.zen with
      early := c.zen.early.filter (fun e => e.2.1 != s),
      running := c.zen.running.map (fun r => r.map (fun q => match q.wait with | some w => if w.1 = s then { q with wait := none } else q | none => q)) } }

/-- The run is complete (R205 step 5, R209): converters released, DONE, SEQ, the host's result words, the program and the chained sets. -/
def completeRun (s : Nat) (c : Chip) : Chip :=
  match setRun c s with
  | none => c
  | some r =>
    if r.reserved && r.ranks.isEmpty then
      let c := waitsOver s (setRunTo s none c)
      let c := (c.raise (F.ADC_SET_STAT_DONE s)).countMod (F.ADC_SET_STAT_SEQ s) 1
      let c := c.forEach r.results (fun p c => c.wr (F.ADC_SET_R s p.1) (if r.ovr then p.2.setField 46 1 1 else p.2))
      let c := c.occur 0x02 (some s) (BitVec.ofNat 48 (c.get (F.ADC_SET_STAT_SEQ s)))
      let c := if r.cfg.field 23 1 = 1 && !r.early then startProgram (r.cfg.field 16 6) c else c
      c.forN 16 (fun t c =>
        if c.get (F.ADC_SET_CFG_TRG t) = 1 ∧ c.get (F.ADC_SET_CFG_CHS t) = s then triggerSet t c else c)
    else c

/-- Whether the run of SETs is about to complete: reserved, with no rank left. -/
def runReady (c : Chip) (s : Nat) : Bool :=
  match setRun c s with
  | some r => r.reserved && r.ranks.isEmpty
  | none => false

/-- The source of tracker n, in the encoding of R164. -/
def srcOf (c : Chip) (n : Nat) : Nat := c.get (F.AT_CFG_SRC n)

/-- The alternative source of tracker n (R164): only RESOLVER, ENCODER, HALL and OBSERVER, and only if it differs from SRC; none otherwise. -/
def altOf (c : Chip) (n : Nat) : Option Nat :=
  let a := c.get (F.AT_CFG_ALT n)
  if 1 ≤ a ∧ a ≤ 4 ∧ a ≠ srcOf c n ∧ 1 ≤ srcOf c n ∧ srcOf c n ≤ 4 then some a else none

/-- Whether tracker n uses a source, as primary or as alternative. -/
def usesSrc (c : Chip) (n src : Nat) : Bool := srcOf c n == src || altOf c n == some src

/-- Whether an enabled tracker uses exciter u (R167, R207): RESOLVER as source or alternative, on UNIT u. -/
def exciterUsed (c : Chip) (u : Nat) : Bool := (List.range 6).any (fun n => usesSrc c n 1 && c.get (F.AT_SRC_UNIT n) == u)

/-- The excitation frequency of a tracker's exciter, in Hz (R167): P1 held to 2,000 to 20,000, 0 taken as 2,000. -/
def excHz (c : Chip) (n : Nat) : Nat := clampNat 2000 20000 (c.get (F.AT_SRC_P1 n))

/-- The excitation trigger of exciter u (R207). -/
def exciterTrigger (u : Nat) (c : Chip) : Chip := if exciterUsed c u then triggerSource (2 + u) c else c

/-! ### Window comparators (R227 to R232) -/

/-- The condition of comparator w (R228, R231). -/
def compCond (c : Chip) (w : Nat) : Bool :=
  let a := c.adc.above.getLsbD w
  let b := c.adc.below.getLsbD w
  c.adc.compSettled && c.is (F.ADC_CMP_CTL_EN w) &&
    (match c.get (F.ADC_CMP_CTL_MODE w) with
     | 0 => a || b
     | 1 => a
     | 2 => b
     | _ => !a && !b)

/-- New above-HI and below-LO conditions of comparator w: HIL and LOL note those that have become true (R231). -/
def compInputs (w : Nat) (above below : Bool) (c : Chip) : Chip :=
  let c := if above && !c.adc.above.getLsbD w && c.adc.compSettled then c.raise (F.ADC_CMP_CTL_HIL w) else c
  let c := if below && !c.adc.below.getLsbD w && c.adc.compSettled then c.raise (F.ADC_CMP_CTL_LOL w) else c
  let m : BitVec 24 := 1 <<< w
  { c with adc := { c.adc with above := if above then c.adc.above ||| m else c.adc.above &&& ~~~m,
                               below := if below then c.adc.below ||| m else c.adc.below &&& ~~~m } }

/-- Whether the condition of comparator w acts: it has held true for FILT PCLK cycles (R231). -/
def compActs (c : Chip) (w : Nat) : Bool :=
  compCond c w && (match c.adc.condUp.getD w none with
    | some t => decide (c.get (F.ADC_CMP_CTL_FILT w) ≤ c.up - t)
    | none => c.get (F.ADC_CMP_CTL_FILT w) == 0)

/-- Whether a voltage in µV lies above the voltage of threshold code t, t × 3.000 V / 1,024 (R227). -/
def aboveCode (uv : Nat) (t : Int) : Bool := decide (t * 3000000 < (uv : Int) * 1024)

/-- Whether a voltage in µV lies below the voltage of threshold code t. -/
def belowCode (uv : Nat) (t : Int) : Bool := decide ((uv : Int) * 1024 < t * 3000000)

/-- Above-HI with its hysteresis (R227). -/
def aboveHi (uv : Nat) (hi h : Int) (was : Bool) : Bool := aboveCode uv hi || (was && !belowCode uv (hi - h))

/-- Below-LO with its hysteresis (R227). -/
def belowLo (uv : Nat) (lo h : Int) (was : Bool) : Bool := belowCode uv lo || (was && !aboveCode uv (lo + h))

/-- The former THR word of a comparator whose threshold still moves (R229): for 200 ns, 80 PCLK cycles, after the write. -/
def movingFrom (c : Chip) (w : Nat) : Option Word :=
  match c.adc.moves.find? (fun m => m.1 == w) with
  | some m => if c.up < m.2.2 + 80 then some m.2.1 else none
  | none => none

/-- The conditions of comparator w are formed from its input and its thresholds (R227). While a threshold moves, an input for which the old and the new value
differ has crossed it or not: the spec leaves the instant open, so a free value decides (R229, log entry 3). -/
def compEval (w : Nat) (c : Chip) : Chip :=
  let uv := c.adc.levels.getD w 0
  let thr := c.rd (F.ADC_CMP_THR_HI w).addr
  let old := (movingFrom c w).getD thr
  let h : Int := (c.get (F.ADC_CMP_CTL_HYST w) : Nat)
  let a (t : Word) : Bool := aboveHi uv ((t.field 16 10 : Nat) : Int) h (c.adc.above.getLsbD w)
  let b (t : Word) : Bool := belowLo uv ((t.field 0 10 : Nat) : Int) h (c.adc.below.getLsbD w)
  if a old == a thr && b old == b thr then compInputs w (a thr) (b thr) c
  else
    let r := c.free
    compInputs w (if a old == a thr then a thr else r.1.getLsbD 0) (if b old == b thr then b thr else r.1.getLsbD 1) r.2

/-- The input of comparator w stands at a voltage, in µV (R227). -/
def compLevel (w uv : Nat) (c : Chip) : Chip := compEval w { c with adc := { c.adc with levels := c.adc.levels.set w uv } }

/-- A host or engine write of THR (R229): the effective thresholds set out from the former word. -/
def thrWritten (w : Nat) (old : Word) (c : Chip) : Chip :=
  compEval w { c with adc := { c.adc with moves := (w, (movingFrom c w).getD old, c.up) :: c.adc.moves.filter (fun m => m.1 != w) } }

/-- Moved thresholds hold from 200 ns after their write (R229). -/
def settleThresholds (c : Chip) : Chip :=
  if c.adc.moves.isEmpty then c else
  let done := c.adc.moves.filter (fun m => decide (m.2.2 + 80 ≤ c.up))
  { c with adc := { c.adc with moves := c.adc.moves.filter (fun m => decide (c.up < m.2.2 + 80)) } }.forEach done (fun m c => compEval m.1 c)

/-- The cycles in which conditions became true (R231). -/
def noteConditions (c : Chip) : Chip :=
  { c with adc := { c.adc with condUp := (List.range 24).map (fun w =>
      if compCond c w then some ((c.adc.condUp.getD w none).getD c.up) else none) } }

/-- The comparators' settling time of this BOOT has ended (R228): conditions that the inputs meet become true. -/
def comparatorSettled (c : Chip) : Chip :=
  if c.mode = .reset ∨ c.adc.compSettled then c else
  let c := { c with adc := { c.adc with compSettled := true } }
  c.forN 24 (fun w c =>
    let c := if c.adc.above.getLsbD w then c.raise (F.ADC_CMP_CTL_HIL w) else c
    if c.adc.below.getLsbD w then c.raise (F.ADC_CMP_CTL_LOL w) else c)

end Sys2Proof.Machine
end

