-- ==== Sys2Proof/Machine/Pwm.lean ====
section
/-! DEFINITION. The PWM generator (08_pwm_generator): timebases, windows, staging and taking, restarts, the output stage, pulse cut and
bootstrap refresh; and who owns a group or a brace leg (R5 to R11). -/

namespace Sys2Proof.Machine

/-! ### Owners of groups and legs -/

/-- The function of axis n; values above 5 are taken as NONE (R391). -/
def axisFunc (c : Chip) (n : Nat) : Nat := if c.get (F.MOT_CFG_FUNC n) ≤ 5 then c.get (F.MOT_CFG_FUNC n) else 0

/-- The groups of axis n (R8, R9, R391): none without a function or with GRP 6 or 7. -/
def axisGroups (c : Chip) (n : Nat) : List Nat :=
  let g := c.get (F.MOT_CFG_GRP n)
  if axisFunc c n = 0 ∨ 5 < g then [] else if c.is (F.MOT_CFG_PAIR n) then [g, g + 1] else [g]

/-- The axis that holds group g (R9). -/
def groupAxis (c : Chip) (g : Nat) : Option Nat := (List.range 4).find? (fun n => (axisGroups c n).contains g)

/-- Whether axis n is a motor axis (R391). -/
def isMotor (c : Chip) (n : Nat) : Bool := 1 ≤ axisFunc c n && axisFunc c n ≤ 3

/-- Whether axis n is a converter axis (R391). -/
def isConverter (c : Chip) (n : Nat) : Bool := axisFunc c n == 4 || axisFunc c n == 5

/-- The brace leg that a two-bit LEG field names (R465): 0b10 L18, 0b11 L19. -/
def braceLeg (v : Nat) : Option Nat := if v = 2 then some 18 else if v = 3 then some 19 else none

/-- The chopper's leg (R465). -/
def chopLeg (c : Chip) : Option Nat := braceLeg (c.get F.PRT_CHP_LEG)

/-- The discharge leg (R473): only with PATH = BRACE. -/
def dischLeg (c : Chip) : Option Nat := if c.get F.PRT_DIS_PATH = 1 then braceLeg (c.get F.PRT_DIS_LEG) else none

/-- Whether PRT.GEN gives a brace leg the general function (R476). -/
def isGeneral (c : Chip) (n : Nat) : Bool := (n == 18 && c.is F.PRT_GEN_L18) || (n == 19 && c.is F.PRT_GEN_L19)

/-- Whether a brace leg has a function (R11). -/
def braceHasFunction (c : Chip) (n : Nat) : Bool := chopLeg c == some n || dischLeg c == some n || isGeneral c n

/-- Whether Rind's STO request releases STOA and STOB as it stands in the main domain (R37). -/
def stoReleased (c : Chip) : Bool := !c.sto.request

/-- Whether axis n holds an active short circuit (R469, R472). -/
def ascOn (c : Chip) (n : Nat) : Bool := c.get (F.PRT_SST_STATE n) == 1 || c.get (F.PRT_SST_STATE n) == 2

/-- Whether the axis of group g holds an active short circuit. -/
def ascGroup (c : Chip) (g : Nat) : Bool := match groupAxis c g with | some n => ascOn c n | none => false

/-- Whether the function of a brace leg lets it switch now (R37, R465, R466, R473, R476). -/
def braceSwitches (c : Chip) (n : Nat) : Bool :=
  (dischLeg c == some n && c.mode == .discharge && stoReleased c) ||
  (chopLeg c == some n && stoReleased c && runMode c.mode &&
    (!c.is F.PRT_CHS_CHFAIL || (if c.is F.PRT_CHP_SW then (c.gdsl n).lo.softWait else (c.gdsl n).hi.softWait))) ||
  (isGeneral c n && (c.mode == .drive || c.mode == .charge) && stoReleased c)

/-- Whether the mode and the axis substate let axis n switch (R36, R38): in DRIVE and CHARGE in ALIGN, RUN and STOPPING; in
IDENTIFY while a task runs; in SAFESTOP while the axis is being brought to its stop; in DISCHARGE the winding axis. -/
def axisSwitches (c : Chip) (n : Nat) : Bool :=
  match c.mode with
  | .drive | .charge => c.sub n == .run || c.sub n == .align || c.sub n == .stopping
  | .identify => c.is (F.DEV_AXST_IDACT n) || ascOn c n
  | .safestop => c.sub n == .stopping
  | .discharge => c.get F.PRT_DIS_PATH == 2 && c.get F.PRT_DIS_AXIS == n && !c.prot.pathLost
  | _ => false

/-- Whether the mode and the axis let group g switch (R10, R36 to R38); for GB, whether a brace function lets its leg switch (R37). -/
def groupMay (c : Chip) (g : Nat) : Bool :=
  if g = 6 then braceSwitches c 18 || braceSwitches c 19
  else match groupAxis c g with
    | some n => axisSwitches c n
    | none => false

/-- PWM.Gg.STAT[OUTEN] (R256). -/
def outen (c : Chip) (g : Nat) : Bool :=
  groupMay c g && !c.is (F.GDS_G_STAT_FAULT g) && !c.clk.gateHeld.getD g false && (c.pwmg g).dlEver

/-- Whether a Kerf table drives group g (R186, R239). -/
def angleMode (c : Chip) (g : Nat) : Bool := c.is (F.PWM_G_STAT_ANGLE g)

/-! ### Instants (R137, R147, R237) -/

/-- The largest part of a slew in one PCLK cycle, FSLEW times 100 ppm of 2.5 ns, in units of 2^-24 ns (R147, R150). -/
def slewLimit (c : Chip) : Int := ((c.get F.NWT_CFG_FSLEW * 41943040 / 10000 : Nat) : Int)

/-- What NWT advances by in one PCLK cycle, in units of 2^-24 ns (R137, R150). -/
def nwtInc (c : Chip) : Int := 41943040 + c.geti F.NWT_OFFS_RATE + clampInt (-slewLimit c) (slewLimit c) c.time.slew

/-- What FWT advances by in one PCLK cycle once it is aligned, in units of 2^-24 ns (R147). -/
def fwtInc (c : Chip) : Int := nwtInc c + clampInt (-slewLimit c) (slewLimit c) (-(sdiff48 c.fnow c.now * 2 ^ 24))

/-- Whether an instant of FWT falls in the present PCLK cycle or before it (R237). -/
def fallen (c : Chip) (t : BitVec 72) : Bool := decide ((t - c.time.fwt).toInt < fwtInc c)

/-- The fine position of an instant of FWT in its PCLK cycle, 0 to 63; 0 for an instant that has passed (R237). -/
def finePos (c : Chip) (t : BitVec 72) : Nat :=
  let d := (t - c.time.fwt).toInt
  if d < fwtInc c then (clampInt 0 63 (d / 655360)).toNat else (d / 655360).toNat % 64

/-- The instant of position p of the running period of group g: B plus p fine steps (R237). -/
def instantOf (c : Chip) (g p : Nat) : BitVec 72 := (c.pwmg g).b + BitVec.ofNat 72 (fineUnits p)

/-- The position of group g at the end of the present cycle, within its period (R237). -/
def positionNow (c : Chip) (g : Nat) : Nat :=
  min (((c.time.fwt - (c.pwmg g).b).toInt + fwtInc c - 1) / 655360).toNat (c.get (F.PWM_G_LPER_LPER g) - 1)

/-! ### Windows and commands (R240 to R242) -/

/-- The on-window [ON, OFF) of a duty and a shift (R240); also the duty the minimum pulse leaves and the range of the shift (R246). -/
def window (cmode minp duty : Nat) (shift : Int) (p : Nat) : Nat × Nat :=
  let m := minp * 256
  let d := if minp = 0 then duty else if duty < m then 0 else if p - duty < m then p else duty
  let ctr : Int := if cmode = 0 then 0 else (p / 2 : Nat) - (d / 2 : Nat)
  let s := clampInt (-ctr) ((p : Int) - d - ctr) shift
  let on := (ctr + s).toNat
  (on, on + d)

/-- The shift law of R400, in fine steps: a duty `d` below twice the settling window `w` is moved past it by w + ceil(d / 2).
A program forms it in blocks (per leg CMP, GAIN, SUM and SEL; STAGE with SHEN = 1); no unit of the device applies it. -/
def openingShift (w d : Nat) : Nat := if d < 2 * w then w + (d + 1) / 2 else 0

/-- The shift a taking leaves (R246 step 3). -/
def clampShift (cmode minp duty : Nat) (shift : Int) (p : Nat) : Int :=
  let m := minp * 256
  let d := if minp = 0 then duty else if duty < m then 0 else if p - duty < m then p else duty
  let ctr : Int := if cmode = 0 then 0 else (p / 2 : Nat) - (d / 2 : Nat)
  clampInt (-ctr) ((p : Int) - d - ctr) shift

/-- The commands of the high and the low switch under a leg mode (R241), `act` saying whether the position lies in the window. -/
def legCommands (lmode : Nat) (act : Bool) : Bool × Bool :=
  match lmode with
  | 0 => (act, !act)
  | 1 => (act, false)
  | 2 => (false, act)
  | 4 => (true, false)
  | 5 => (false, true)
  | _ => (false, false)

/-- The commands of a Kerf leg state (R179). -/
def kerfCommands (st : Nat) : Bool × Bool := (st == 2, st == 1)

/-- The refresh time r of a group, in PCLK cycles: min(BSON × 10 ns, floor(P / 2) fine steps) (R260). -/
def refreshCycles (c : Chip) (g : Nat) : Nat := min (4 * max 1 (c.get (F.PWM_G_BSR_BSON g))) ((c.get (F.PWM_G_LPER_LPER g) / 2 + 63) / 64)

/-- Whether the low command of leg n has been on without a break for the refresh time (R260). -/
def lowLasts (c : Chip) (n : Nat) : Bool :=
  (c.leg n).cmdL && decide (refreshCycles c (groupOf n) ≤ c.up - (c.leg n).lowUp)

/-- Leg n takes new stage-1 commands; a low command that ends after the refresh time has restarted the refresh monitor (R260). -/
def setCommands (n : Nat) (h lo : Bool) (c : Chip) : Chip :=
  let lasted := lowLasts c n
  c.modLeg n (fun l =>
    { l with
      cmdH := h, cmdL := lo,
      lowUp := if lo && !l.cmdL then c.up else l.lowUp,
      monUp := if lasted && !lo then c.up else l.monUp,
      refreshDue := if lasted then false else l.refreshDue })

/-- Give leg n the commands of position p of its period (R240 to R242), of its Kerf leg state in the angle-driven mode, or of a refresh
being inserted (R260). -/
def commandLeg (n p : Nat) (c : Chip) : Chip :=
  let l := c.leg n
  let (h, lo) :=
    if l.refresh then (false, true)
    else if angleMode c (groupOf n) then kerfCommands l.kerf
    else legCommands (c.get (F.PWM_L_LDUTY_LMODE n)) (decide (l.on ≤ p) && decide (p < l.off))
  setCommands n h lo c

/-- Give every leg of a group the commands of position p. -/
def commandGroup (g p : Nat) (c : Chip) : Chip := c.forEach (legsOf g) (fun n => commandLeg n p)

/-- Recompute the windows of a group from its live values (R240). -/
def computeWindows (g : Nat) (c : Chip) : Chip :=
  let q := c.pwmg g
  c.forEach (legsOf g) (fun n c =>
    let w := window q.cmode q.minp (c.get (F.PWM_L_LDUTY_DUTY n)) (c.geti (F.PWM_L_LSHIFT_SHIFT n)) (c.get (F.PWM_G_LPER_LPER g))
    c.modLeg n (fun l => { l with on := w.1, off := w.2 }))

/-! ### Staging and commit (R243, R244) -/

/-- Mark a staging word of group g as staged (R243), by its place. -/
def markStaged (g : Nat) (f : PwmMarks → PwmMarks) (c : Chip) : Chip := c.modPwmg g (fun q => { q with marks := f q.marks })

/-- Mark the staged period. -/
def stagePer (g : Nat) (c : Chip) : Chip := markStaged g (fun m => { m with per := true }) c
/-- Mark a staged extra compare. -/
def stageXc (g n : Nat) (c : Chip) : Chip := markStaged g (fun m => { m with xc := m.xc.set n true }) c
/-- Mark a leg's staged duty. -/
def stageDuty (n : Nat) (c : Chip) : Chip := markStaged (groupOf n) (fun m => { m with duty := m.duty.set (legPos n) true }) c
/-- Mark a leg's staged shift. -/
def stageShift (n : Nat) (c : Chip) : Chip := markStaged (groupOf n) (fun m => { m with shift := m.shift.set (legPos n) true }) c

/-- Write a leg's staged duty word (leg mode and duty) from inside the device (R243). -/
def writeDuty (n lmode duty : Nat) (c : Chip) : Chip :=
  stageDuty n ((c.set (F.PWM_L_DUTY_LMODE n) lmode).set (F.PWM_L_DUTY_DUTY n) duty)

/-- Write a leg's staged shift from inside the device (R243). -/
def writeShift (n : Nat) (v : Int) (c : Chip) : Chip := stageShift n (c.seti (F.PWM_L_SHIFT_SHIFT n) v)

/-- Whether a group has a staged word. -/
def anyStaged (m : PwmMarks) : Bool := m.per || m.xc.any id || m.duty.any id || m.shift.any id

/-- A commit of group g completes (R244): the staged words join the pending set, marks clear. -/
def commitGroup (g : Nat) (c : Chip) : Chip :=
  let q := c.pwmg g
  let m := q.marks
  if anyStaged m then
    let old := q.pend.getD {}
    let legs := legsOf g
    let pset : PwmSet :=
      { per := if m.per then some (c.get (F.PWM_G_PER_PER g)) else old.per,
        xc := (List.range 4).map (fun k => if m.xc.getD k false then some (c.rd (F.PWM_G_XC g k)) else old.xc.getD k none),
        duty := (List.range 3).map (fun k => if m.duty.getD k false then some (c.rd (F.PWM_L_DUTY (legs.getD k 0))) else old.duty.getD k none),
        shift := (List.range 3).map (fun k =>
          if m.shift.getD k false then some (c.get (F.PWM_L_SHIFT_SHIFT (legs.getD k 0))) else old.shift.getD k none) }
    (c.modPwmg g (fun q => { q with pend := some pset, marks := {}, commitUp := c.up })).occur 0x06 (some g) 0
  else c

/-! ### Taking a set (R245 to R247) -/

/-- A clamp at a taking: DUTY_CLAMP, CLAMPCNT and the event (R246, R265). -/
def dutyClamp (g : Nat) (c : Chip) : Chip :=
  (((c.raise (F.PWM_G_STAT_DUTY_CLAMP g)).countSat (F.PWM_G_CNT_CLAMPCNT g) 1).evPwmWarn).occur 0x09 (some g) 0

/-- The live values of one leg after a taking with period p (R246 steps 2 and 3); the truth value says whether one was clamped. -/
def takeLeg (q : PwmGroup) (s : PwmSet) (p n : Nat) (cb : Chip × Bool) : Chip × Bool :=
  let (c, b) := cb
  let c := match s.duty.getD (legPos n) none with
    | some w => (c.set (F.PWM_L_LDUTY_LMODE n) (w.field 40 3)).set (F.PWM_L_LDUTY_DUTY n) (w.field 0 30)
    | none => c
  let d := c.get (F.PWM_L_LDUTY_DUTY n)
  let c' := if p < d then c.set (F.PWM_L_LDUTY_DUTY n) p else c
  let sh : Int := match s.shift.getD (legPos n) none with
    | some v => signed 30 v
    | none => c.geti (F.PWM_L_LSHIFT_SHIFT n)
  let sh' := clampShift q.cmode q.minp (min d p) sh p
  (c'.seti (F.PWM_L_LSHIFT_SHIFT n) sh', b || decide (p < d) || decide (sh' ≠ sh))

/-- The pending set of group g becomes live, in one cycle (R245, R246). `mid` says that it is taken at MID: the boundary then stays where it was in
the positions of the new period (R247), and a replaced extra compare issues only at or beyond that position (R252). -/
def takeSet (g : Nat) (mid : Bool) (c : Chip) : Chip :=
  let q := c.pwmg g
  match q.pend with
  | none => c
  | some s =>
    let want := s.per.getD (c.get (F.PWM_G_LPER_LPER g))
    let p := clampNat 25600 25600000 want
    let x := if mid then p / 2 else 0
    let xc := (List.range 4).map (fun k => (s.xc.getD k none).getD (q.xc.getD k 0))
    let done := (List.range 4).map (fun k => match s.xc.getD k none with
      | some w => decide (w.field 0 30 < x)
      | none => q.xcDone.getD k false)
    let b := if mid then q.b + BitVec.ofNat 72 (fineUnits (c.get (F.PWM_G_LPER_LPER g) / 2)) - BitVec.ofNat 72 (fineUnits (p / 2)) else q.b
    let c := c.modPwmg g (fun q => { q with pend := none, xc := xc, xcDone := done, b := b })
    let c := c.set (F.PWM_G_LPER_LPER g) p
    let (c, clamped) := (legsOf g).foldl (fun cb n => takeLeg q s p n cb) (c, decide (p ≠ want))
    let c := if clamped then dutyClamp g c else c
    c.occur 0x07 (some g) (BitVec.ofNat 48 p)

/-- A commit is taken one update point later (R245, R265). -/
def commitLate (g : Nat) (c : Chip) : Chip :=
  (((c.raise (F.PWM_G_STAT_COMMIT_LATE g)).countSat (F.PWM_G_CNT_LATECNT g) 1).evPwmWarn).occur 0x08 (some g) 0

/-- An update point of group g falls in the present PCLK cycle u (R245): a pending set is taken if its last commit completed in cycle u - 9 or earlier; one that
completed in u - 8 to u - 1 waits and is late, one of cycle u waits. -/
def updatePoint (g : Nat) (mid : Bool) (c : Chip) : Chip :=
  let q := c.pwmg g
  if q.pend.isNone then c
  else if q.commitUp + 9 ≤ c.up then takeSet g mid c
  else if q.commitUp < c.up then commitLate g c
  else c

/-- An enabled extra compare whose position lies at or beyond the live period issues nothing in it (R252). -/
def markXcskip (g : Nat) (c : Chip) : Chip :=
  if (c.pwmg g).xc.any (fun w => w.field 47 1 == 1 && decide (c.get (F.PWM_G_LPER_LPER g) ≤ w.field 0 30)) then c.raise (F.PWM_G_STAT_XCSKIP g) else c

/-! ### Pulse cut (R258, R259) -/

/-- Whether a cut source of leg n is true (R258). -/
def cutSource (c : Chip) (n : Nat) : Bool :=
  c.get (F.PWM_L_CUT_MASK n) != 0 && (List.range 24).any (fun w => c.getBit (F.PWM_L_CUT_MASK n) w && c.is (F.ADC_CMP_CTL_CUT w) && compActs c w)

/-- The cut latch of leg n sets (R258). -/
def setCut (n : Nat) (c : Chip) : Chip :=
  if (c.leg n).cut then c else
  let g := groupOf n
  ((((c.modLeg n (fun l => { l with cut := true })).raise (F.PWM_G_STAT_CUT g)).countSat (F.PWM_G_CNT_CUTCNT g) 1)).occur 0x0B (some n) 0

/-- Set the cut latch of every leg whose source is true (R258). -/
def evalCuts (legs : List Nat) (c : Chip) : Chip := c.forEach legs (fun n c => if cutSource c n then setCut n c else c)

/-- Cut latches are released at a boundary; one whose source is still true sets again (R259). -/
def releaseCuts (g : Nat) (c : Chip) : Chip :=
  evalCuts (legsOf g) (c.forEach (legsOf g) (fun n c => c.modLeg n (fun l => { l with cut := false })))

/-- The switch commands of leg n behind stage 2 (R258, R259); an active short circuit is not cut (R471). -/
def cutCommands (c : Chip) (n : Nat) : Bool × Bool :=
  let l := c.leg n
  if !l.cut || ascGroup c (groupOf n) then (l.cmdH, l.cmdL)
  else if angleMode c (groupOf n) then (false, false)
  else match c.get (F.PWM_L_CUT_CUTM n) with
    | 0 => (false, l.cmdL)
    | 1 => (l.cmdH, false)
    | 2 => (false, false)
    | _ => (false, if c.get (F.PWM_L_LDUTY_LMODE n) = 0 then l.cmdL || l.cmdH else l.cmdL)

/-! ### Bootstrap refresh (R260) -/

/-- Whether a refresh can be inserted in leg n: enabled, outputs enabled, not in modes OFF, LOW_ONLY and LOW, and no active
short circuit holds (R471). -/
def mayRefresh (c : Chip) (n : Nat) : Bool :=
  let g := groupOf n
  let m := c.get (F.PWM_L_LDUTY_LMODE n)
  c.is (F.PWM_G_BSR_EN g) && outen c g && !ascGroup c g && (angleMode c g || m == 0 || m == 1 || m == 4)

/-- Insert a due refresh in leg n: the monitor restarts. -/
def insertRefresh (n : Nat) (c : Chip) : Chip :=
  if (c.leg n).refreshDue && !lowLasts c n && mayRefresh c n then
    let g := groupOf n
    let c := c.modLeg n (fun l => { l with refresh := true, refreshDue := false, monUp := c.up, refUp := c.up })
    (c.raise (F.PWM_G_STAT_BSINS g)).countSat (F.PWM_G_CNT_BSCNT g) 1
  else c

/-- In the angle-driven mode a due refresh is inserted at once, while OUTEN = 1 (R260). -/
def angleRefresh (n : Nat) (c : Chip) : Chip :=
  if (c.leg n).refreshDue && !(c.leg n).refresh && angleMode c (groupOf n) && !lowLasts c n && mayRefresh c n then commandLeg n 0 (insertRefresh n c) else c

/-- The refresh monitor of leg n (R260): once it has run for BSMAX the refresh is due; the present low command restarts it when it has lasted. -/
def bootstrapRefreshDue (n : Nat) (c : Chip) : Chip :=
  let g := groupOf n
  if c.is (F.PWM_G_BSR_EN g) && (c.pwmg g).running && !lowLasts c n && decide (400 * max 1 (c.get (F.PWM_G_BSR_BSMAX g)) ≤ c.up - (c.leg n).monUp) then
    angleRefresh n (c.modLeg n (fun l => { l with refreshDue := true }))
  else c

/-- BSR of group g has been written: a monitor that is enabled starts (R260). -/
def bsrWritten (g : Nat) (was : Bool) (c : Chip) : Chip :=
  if !was && c.is (F.PWM_G_BSR_EN g) then c.forEach (legsOf g) (fun n c => c.modLeg n (fun l => { l with monUp := c.up, refreshDue := false })) else c

/-! ### Points of the period -/

/-- Whether ZERO is an update point under UPD (R264). -/
def updZero (u : Nat) : Bool := u != 2
/-- Whether MID is an update point under UPD (R264). -/
def updMid (u : Nat) : Bool := u == 2 || u == 3

/-- A written CMODE, UPD and MINP take effect (R239). -/
def takeCtl (g : Nat) (c : Chip) : Chip :=
  c.modPwmg g (fun q => { q with cmode := c.get (F.PWM_G_CTL_CMODE g), upd := c.get (F.PWM_G_CTL_UPD g), minp := c.get (F.PWM_G_CTL_MINP g) })

/-- A period opens at position 0 with its boundary at `t` (R237): cuts released, due refreshes inserted, commands and windows from position 0,
outputs that follow from this boundary, ZERO issued (R238, R256, R259, R260). Outputs that a forced clock switch holds off return with the first ZERO at which
ZERO is an update point, after both PLLs have locked (R120); a group without such a point (UPD = MID, or engaged by a Kerf table) is held until it has one:
R120 names no other point, and which it then would be is the model's choice (log entry 71). -/
def openPeriod (g : Nat) (t : BitVec 72) (c : Chip) : Chip :=
  let c := computeWindows g c
  let c := markXcskip g (c.modPwmg g (fun q => { q with b := t, half := false, xcDone := List.replicate 4 false }))
  let c := { c with fine := finePos c t }
  let c := releaseCuts g c
  let c := if c.is F.CLK_STAT_PLLALK && c.is F.CLK_STAT_PLLBLK && !c.clk.gated && c.clk.switchTo.isNone && updZero (c.pwmg g).upd then
      { c with clk := { c.clk with gateHeld := c.clk.gateHeld.set g false } } else c
  let c := c.modPwmg g (fun q => { q with follow := outen c g })
  let c := c.forEach (legsOf g) (fun n c => insertRefresh n (c.modLeg n (fun l => { l with refresh := false })))
  let c := commandGroup g 0 c
  if g < 6 then (triggerSource (8 + g) c).captureAt (8 + g) true else c

/-- The MID point (R238, R245, R247), position floor(P / 2), once its instant falls and before the next boundary. -/
def midPoint (g : Nat) (c : Chip) : Chip :=
  if (c.pwmg g).running && !angleMode c g && !(c.pwmg g).half && fallen c (instantOf c g (c.get (F.PWM_G_LPER_LPER g) / 2)) then
    let c := { c with fine := finePos c (instantOf c g (c.get (F.PWM_G_LPER_LPER g) / 2)) }
    let c := c.modPwmg g (fun q => { q with half := true })
    let waits := (c.pwmg g).pend.isSome
    let c := if updMid (c.pwmg g).upd then updatePoint g true c else c
    let c := if waits && (c.pwmg g).pend.isNone then commandGroup g (c.get (F.PWM_G_LPER_LPER g) / 2) (computeWindows g (markXcskip g c)) else c
    if g < 6 then triggerSource (0x10 + g) c else c
  else c

/-- The position of extra compare n is reached (R252): once per period, and not beyond it. -/
def xcTrigger (g n : Nat) (c : Chip) : Chip :=
  let w := (c.pwmg g).xc.getD n 0
  let pos := w.field 0 30
  if (c.pwmg g).running && !angleMode c g && w.field 47 1 == 1 && !(c.pwmg g).xcDone.getD n false && decide (pos < c.get (F.PWM_G_LPER_LPER g))
      && fallen c (instantOf c g pos) then
    triggerSource (0x20 + 4 * g + n) (c.modPwmg g (fun q => { q with xcDone := q.xcDone.set n true }))
  else c

/-- The points of the running period that have fallen and are not yet issued, before a boundary or an engagement ends it (R238, R251, R252). -/
def issuePoints (g : Nat) (c : Chip) : Chip := if g < 6 then (midPoint g c).forN 4 (xcTrigger g) else midPoint g c

/-- Whether the boundary B + P of group g falls in the present PCLK cycle or has fallen (R237). -/
def boundaryDue (c : Chip) (g : Nat) : Bool :=
  (c.pwmg g).running && !angleMode c g && fallen c (instantOf c g (c.get (F.PWM_G_LPER_LPER g)))

/-- A period boundary (R237 to R239, R245), once B + P falls: the pending set is taken if ZERO is an update point and its last commit was early enough. -/
def periodBoundary (g : Nat) (c : Chip) : Chip :=
  if boundaryDue c g then
    let c := issuePoints g c
    let t := instantOf c g (c.get (F.PWM_G_LPER_LPER g))
    let c := takeCtl g c
    openPeriod g t (if updZero (c.pwmg g).upd then updatePoint g false c else c)
  else c

/-- The latest of the boundaries `t` + k P of group g that has fallen; `t` itself if it has not (R156, R249). -/
def lastBoundary (c : Chip) (g : Nat) (t : BitVec 72) : BitVec 72 :=
  let per : Int := (fineUnits (c.get (F.PWM_G_LPER_LPER g)) : Nat)
  let d := (c.time.fwt - t).toInt
  if 0 ≤ d ∧ 0 < per then t + BitVec.ofInt 72 (d / per * per) else t

/-- A timebase restarts with a boundary at `t` in FWT and keeps its boundaries at t + k P (R156, R249); `take` says whether a pending set is taken. -/
def restartAt (take step : Bool) (t : BitVec 72) (g : Nat) (c : Chip) : Chip :=
  if (c.pwmg g).running && !angleMode c g then
    let c := takeCtl g c
    let c := if take then takeSet g false c else c
    let c := openPeriod g (lastBoundary c g t) c
    if step then c.raise (F.PWM_G_STAT_TSTEP g) else c.raise (F.PWM_G_STAT_RESTARTED g)
  else c

/-- A CARRIER restart of a timebase (R249), or a step of FWT acting as one (R250): a set is taken unless its commit completes in the very cycle. -/
def restartCarrier (step : Bool) (t : BitVec 72) (g : Nat) (c : Chip) : Chip := restartAt (decide ((c.pwmg g).commitUp < c.up)) step t g c

/-- The restart that follows a commit of the device's own in the next PCLK cycle and takes its set (R404, R470). -/
def restartAfterCommit (g : Nat) (c : Chip) : Chip := restartAt true false c.time.fwt g c

/-- Every timebase starts with a period boundary, after BOOT or SELFTEST, taking what is pending (R236). -/
def startTimebases (c : Chip) : Chip :=
  c.forN 7 (fun g c =>
    let c := c.modPwmg g (fun q => { q with running := true })
    let c := c.forEach (legsOf g) (fun n c => c.modLeg n (fun l => { l with monUp := c.up, refreshDue := false }))
    openPeriod g c.time.fwt (takeSet g false (takeCtl g c)))

/-- Timebases stop in RESET, BOOT and SELFTEST (R235). -/
def stopTimebases (c : Chip) : Chip := c.forN 7 (fun g c => c.modPwmg g (fun q => { q with running := false }))

/-- The bits of a group mask commit their groups (R248). -/
def commitMask (mask : Nat) (c : Chip) : Chip := c.forN 7 (fun g c => if Nat.bitAt mask g then commitGroup g c else c)

/-! ### Kerf engagement (R186, R251) -/

/-- A Kerf table engages group g: its timebase stops at the boundary instant, points before it still issued (R251). A leg follows on if its group did; else it
follows from its next HIGH or LOW entry (R256). -/
def engageGroup (g : Nat) (c : Chip) : Chip :=
  let c := (issuePoints g c).raise (F.PWM_G_STAT_ANGLE g)
  c.forEach (legsOf g) (fun n c => c.modLeg n (fun l => { l with kerf := if l.cmdH then 2 else if l.cmdL then 1 else 0, kfollow := (c.pwmg g).follow }))

/-- The engagement of group g is released, with a CARRIER restart at `t` (R186, R249). -/
def releaseGroup (g : Nat) (t : BitVec 72) (c : Chip) : Chip := restartCarrier false t g (c.setb (F.PWM_G_STAT_ANGLE g) false)

/-- A Kerf entry gives leg n a state (R179, R181, R256): HIGH or LOW releases a cut and lets the leg follow; KEEP changes nothing. -/
def kerfLeg (n st : Nat) (c : Chip) : Chip :=
  if st = 3 then c else
  let c := c.modLeg n (fun l => { l with kerf := st, cut := if st = 0 then l.cut else false,
                                         kfollow := if st = 0 then l.kfollow else outen c (groupOf n) })
  commandLeg n 0 (if st = 0 then c else evalCuts [n] c)

/-! ### The output stage (R253 to R257) -/

/-- A window edge of leg n at position `pos`, once its instant falls: its commands are those of the present position; a refresh that has lasted its time r
ends (R240, R260). -/
def commandEdge (n pos : Nat) (c : Chip) : Chip :=
  let g := groupOf n
  let ends := (c.leg n).refresh && decide (refreshCycles c g ≤ c.up - (c.leg n).refUp)
  let c := if ends then c.modLeg n (fun l => { l with refresh := false }) else c
  if angleMode c g then (if ends then commandLeg n 0 c else c)
  else if (c.pwmg g).running && fallen c (instantOf c g pos) then
    commandLeg n (positionNow c g) { c with fine := finePos c (instantOf c g pos) }
  else if ends then commandLeg n (positionNow c g) c
  else c

/-- The delays in effect for an output: rise and fall (R254). -/
def delaysOf (l : PwmLeg) (high : Bool) : Nat × Nat := if high then (l.riseH, l.fallH) else (l.riseL, l.fallL)

/-- A command edge enters a delay line at the instant `at'` (R254): a pulse or a gap that the delays swallow leaves none of its two edges. -/
def lineEdge (rise fall at' : Nat) (on : Bool) (line : List (Nat × Bool)) : List (Nat × Bool) :=
  let due := at' + (if on then rise else fall)
  match line.getLast? with
  | some e => if due ≤ e.1 then line.dropLast else line ++ [(due, on)]
  | none => line ++ [(due, on)]

/-- The delay lines of leg n take a change of its commands behind stage 2 (R253, R254), at the fine position of the step. -/
def feedLines (n : Nat) (c : Chip) : Chip :=
  let l := c.leg n
  let now := cutCommands c n
  if now.1 == l.seenH && now.2 == l.seenL then c else
  let at' := 64 * c.up + c.fine
  c.modLeg n (fun l =>
    { l with
      seenH := now.1, seenL := now.2,
      lineH := if now.1 == l.seenH then l.lineH else lineEdge l.riseH l.fallH at' now.1 l.lineH,
      lineL := if now.2 == l.seenL then l.lineL else lineEdge l.riseL l.fallL at' now.2 l.lineL })

/-- Whether the interlock holds both outputs of leg n off: both delayed signals are on (R255). -/
def interlocked (c : Chip) (n : Nat) : Bool := (c.leg n).outH && (c.leg n).outL

/-- The interlock begins to hold leg n off (R255, R265). -/
def interlockBegins (n : Nat) (c : Chip) : Chip :=
  let g := groupOf n
  let c := c.modLeg n (fun l => { l with ilk := some c.time.fwt })
  (((c.raise (F.PWM_G_STAT_LEG_INTERLOCK g)).countSat (F.PWM_G_CNT_ILKCNT g) 1).evPwmWarn).occur 0x0A (some n) 0

/-- A delay word takes effect for an output whose command is off and whose delay line holds no edge (R254). -/
def delayUpdate (n : Nat) (high : Bool) (c : Chip) : Chip :=
  let l := c.leg n
  if high then
    if (cutCommands c n).1 || !l.lineH.isEmpty then c
    else c.modLeg n (fun l => { l with riseH := c.get (F.PWM_L_DLYH_RISE n), fallH := c.get (F.PWM_L_DLYH_FALL n) })
  else if (cutCommands c n).2 || !l.lineL.isEmpty then c
  else c.modLeg n (fun l => { l with riseL := c.get (F.PWM_L_DLYL_RISE n), fallL := c.get (F.PWM_L_DLYL_FALL n) })

/-- A measurement of a timebase's replica line (R261). -/
def delayLineMeasurement (g taps : Nat) (c : Chip) : Chip :=
  if c.mode = .reset then c
  else if 72 ≤ taps ∧ taps ≤ 160 then
    ((c.set (F.PWM_G_DLC_TAPS g) taps).raise (F.PWM_G_DLC_DLOK g)).modPwmg g (fun q => { q with dlEver := true, dlBad := 0 })
  else
    let c := c.modPwmg g (fun q => { q with dlBad := q.dlBad + 1 })
    if (c.pwmg g).dlBad = 4 then
      ((c.setb (F.PWM_G_DLC_DLOK g) false).raise (F.PWM_G_DLC_DLFAIL g)).notice (.device .dlfail)
    else c

end Sys2Proof.Machine
end

