-- ==== Sys2Proof/Machine/Gate.lean ====
section
/-! DEFINITION. Gate-drive supervision (09_gate_drive): driver enables, strength frames, edge sense and adaptation, learning,
desaturation and overdue faults, escalation and the group fault state. -/

namespace Sys2Proof.Machine

/-! ### Small accessors -/

/-- The number of a leg's event kind (R280): HON, HOFF, LON, LOFF. -/
def kindOf (high on : Bool) : Nat := (if high then 0 else 2) + (if on then 0 else 1)

/-- The number of switches of a group (R7). -/
def switchCount (g : Nat) : Nat := if g = 6 then 4 else 6

/-- The leg of a switch index (R7). -/
def legOfSwitch (g sw : Nat) : Nat := (legsOf g).getD (sw / 2) 0

/-- The kind of a switch index and an edge. -/
def kindOfSwitch (sw : Nat) (on : Bool) : Nat := kindOf (sw % 2 == 0) on

/-- A switch of leg n. -/
def switchOf (c : Chip) (n : Nat) (high : Bool) : GdsSwitch := if high then (c.gdsl n).hi else (c.gdsl n).lo

/-- Change a switch of leg n. -/
def modSwitch (n : Nat) (high : Bool) (f : GdsSwitch → GdsSwitch) (c : Chip) : Chip :=
  c.modGdsl n (fun l => if high then { l with hi := f l.hi } else { l with lo := f l.lo })

/-- Change every switch of a group. -/
def modSwitches (g : Nat) (f : GdsSwitch → GdsSwitch) (c : Chip) : Chip :=
  c.forEach (legsOf g) (fun n c => c.modGdsl n (fun l => { l with hi := f l.hi, lo := f l.lo }))

/-- An event kind of leg n. -/
def kindAt (c : Chip) (n k : Nat) : GdsKind := (c.gdsl n).kinds.getD k {}

/-- Change an event kind of leg n. -/
def modKind (n k : Nat) (f : GdsKind → GdsKind) (c : Chip) : Chip := c.modGdsl n (fun l => { l with kinds := l.kinds.modify k f })

/-- The fault latch of a switch. -/
def latchFld (n : Nat) (high : Bool) : Fld := if high then F.GDS_L_FLT_LATH n else F.GDS_L_FLT_LATL n

/-- Whether a switch of a group waits for its soft force-off instant. -/
def anySoft (c : Chip) (g : Nat) : Bool := (legsOf g).any (fun n => (c.gdsl n).hi.softWait || (c.gdsl n).lo.softWait)

/-! ### Stage 5 and the balls (R253, R256, R273, R291) -/

/-- Whether a switch is forced off at stage 5: OUTEN or its following boundary, LOADED, a fault latch, a request of the group, a brace
leg without a function that lets it switch, a failed chopper. -/
def forcedOff (c : Chip) (n : Nat) (high : Bool) : Bool :=
  let g := groupOf n
  !outen c g || !(if angleMode c g then (c.leg n).kfollow else (c.pwmg g).follow) || !c.is (F.GDS_G_STAT_LOADED g) ||
    (switchOf c n high).forced || (switchOf c n high).grp || (g == 6 && !braceSwitches c n)

/-- Whether a switch is on at the output of stage 5 (the input of stage 6, PWM.Ln.OUT[LIVEH] and [LIVEL]). -/
def outOn (c : Chip) (n : Nat) (high : Bool) : Bool :=
  (if high then (c.leg n).outH else (c.leg n).outL) && !interlocked c n && !forcedOff c n high

/-- The level of a PWM ball (R257). -/
def ballHigh (c : Chip) (n : Nat) (high : Bool) : Bool :=
  if high then outOn c n true != c.is (F.PWM_L_OUT_POLH n) else outOn c n false != c.is (F.PWM_L_OUT_POLL n)

/-! ### Driver enables and frames (R272 to R277) -/

/-- The level R272 gives DRVENg. -/
def drvenRule (c : Chip) (g : Nat) : Bool :=
  (match c.mode with
   | .standby | .precharge | .identify | .drive | .charge | .safestop | .discharge => true
   | _ => false) &&
  (if g = 6 then braceHasFunction c 18 || braceHasFunction c 19 else (groupAxis c g).isSome) &&
  !c.is (F.GDS_G_CFG_DOFF g) && !(c.gdsg g).clearPulse

/-- DRVENg takes the level of R272; when it falls, LOADED falls, the frame on the line is aborted and waiting frames are discarded
(R273). -/
def updateDrven (g : Nat) (c : Chip) : Chip :=
  let want := drvenRule c g
  if (c.gdsg g).drven && !want then
    (c.setb (F.GDS_G_STAT_LOADED g) false).modGdsg g (fun q =>
      { q with drven := false, queue := [], cur := none, dupDue := false, loading := false, toLoad := [] })
  else c.modGdsg g (fun q => { q with drven := want })

/-- The smaller and the larger of CMIN and CMAX (R283). -/
def codeRange (c : Chip) (n k : Nat) : Nat × Nat :=
  let a := c.get (F.GDS_L_A_CMIN n k)
  let b := c.get (F.GDS_L_A_CMAX n k)
  (min a b, max a b)

/-- A code clamped to its range (R283). -/
def clampCode (c : Chip) (n k code : Nat) : Nat := let r := codeRange c n k; clampNat r.1 r.2 code

/-- The next waiting frame goes on an idle line (R275, R276), unless a break is held. -/
def startFrame (g : Nat) (c : Chip) : Chip :=
  let q := c.gdsg g
  if q.cur.isSome || c.is (F.GDS_G_STAT_BREAK g) then c else
  match q.queue with
  | [] => c
  | (sw, on) :: rest =>
    let n := legOfSwitch g sw
    let k := kindOfSwitch sw on
    let f : Frame := ⟨sw, on, clampCode c n k (c.get (F.GDS_L_A_CODE n k)), q.seq⟩
    c.modGdsg g (fun q => { q with queue := rest, cur := some f, dupDue := false })

/-- Queue a frame for a switch and edge (R276); while DRVENg is low nothing is queued (R273). -/
def queueFrame (g sw : Nat) (on : Bool) (c : Chip) : Chip :=
  let q := c.gdsg g
  if !q.drven then c
  else if q.queue.contains (sw, on) then c
  else startFrame g (c.modGdsg g (fun q => { q with queue := q.queue ++ [(sw, on)] }))

/-- Queue a frame for every switch and edge, ascending, turn-on before turn-off (R273). -/
def queueAll (g : Nat) (c : Chip) : Chip :=
  c.forN (switchCount g) (fun sw c => queueFrame g sw false (queueFrame g sw true c))

/-- DRVWAIT has passed since DRVENg rose: the initial load starts (R273). -/
def initialLoad (g : Nat) (c : Chip) : Chip :=
  let q := c.gdsg g
  if q.drven && !c.is (F.GDS_G_STAT_LOADED g) && !q.loading then
    queueAll g (c.modGdsg g (fun q =>
      { q with loading := true, toLoad := (List.range (switchCount g)).flatMap (fun sw => [(sw, true), (sw, false)]) }))
  else c

/-- The sixteen bits of a frame (R274): odd parity. -/
def frameBits (f : Frame) : Nat :=
  let b := 2 * 2 ^ 14 + f.sw % 8 * 2 ^ 11 + bit f.on * 2 ^ 10 + f.code % 16 * 2 ^ 6 + f.seq % 8 * 2 ^ 3
  let ones := (List.range 16).foldl (fun n k => n + b / 2 ^ k % 2) 0
  b + (if ones % 2 = 0 then 1 else 0)

/-- The frame on the line has been sent (R276): with DUP it is sent again with the same SEQ; its code takes effect after the first. -/
def strengthFrameSent (g : Nat) (c : Chip) : Chip :=
  let q := c.gdsg g
  match q.cur with
  | none => c
  | some f =>
    let c := c.occur 0x0E (some g) (BitVec.ofNat 48 (frameBits f))
    if c.is (F.GDS_G_CFG_DUP g) && !q.dupDue then
      c.modGdsg g (fun q => { q with dupDue := true, latching := q.latching ++ [f] })
    else
      let c := c.modGdsg g (fun q =>
        { q with cur := none, dupDue := false, seq := (q.seq + 1) % 8, latching := if q.dupDue then q.latching else q.latching ++ [f] })
      startFrame g c

/-- A sent code takes effect in the driver (R277); the last of the initial load sets LOADED (R273). -/
def codeLatch (g : Nat) (c : Chip) : Chip :=
  let q := c.gdsg g
  match q.latching with
  | [] => c
  | f :: rest =>
    let c := c.set (F.GDS_L_A_CUR (legOfSwitch g f.sw) (kindOfSwitch f.sw f.on)) f.code
    let c := c.modGdsg g (fun q => { q with latching := rest, toLoad := q.toLoad.filter (· != (f.sw, f.on)) })
    if q.loading && q.drven && (c.gdsg g).toLoad.isEmpty then
      (c.raise (F.GDS_G_STAT_LOADED g)).modGdsg g (fun q => { q with loading := false })
    else c

/-- The refresh interval has passed with an empty queue (R276). -/
def refreshFrame (g : Nat) (c : Chip) : Chip :=
  let q := c.gdsg g
  if q.drven && q.queue.isEmpty && c.get (F.GDS_G_CFG_REFINT g) ≠ 0 then
    let i := q.refresh % (2 * switchCount g)
    queueFrame g (i / 2) (i % 2 == 0) (c.modGdsg g (fun q => { q with refresh := (i + 1) % (2 * switchCount g) }))
  else c

/-- CODE of every kind of a leg becomes its SCODE, clamped, and ACC is cleared (R273, R284). -/
def loadStartCodes (n : Nat) (c : Chip) : Chip :=
  c.forN 4 (fun k c => modKind n k (fun q => { q with acc := 0 })
    (c.set (F.GDS_L_A_CODE n k) (clampCode c n k (c.get (F.GDS_L_A_SCODE n k)))))

/-- CODE of every kind at the end of BOOT and of a restore (R273). -/
def loadAllStartCodes (c : Chip) : Chip := c.forN 20 loadStartCodes

/-- A write of 1 to CLR[RELOAD] (R284). -/
def reloadGroup (g : Nat) (c : Chip) : Chip := queueAll g (c.forEach (legsOf g) loadStartCodes)

/-! ### Adaptation and learning (R280 to R286) -/

/-- Whether learning runs on a group: in IDENTIFY only (R285). A group whose IDENTIFY was left keeps ACTIVE until its kinds have failed by LTMO: its
learning is then still ending (R33, R286; log entry 72). -/
def learningRuns (c : Chip) (g : Nat) : Bool := (c.gdsg g).learning && c.mode == .identify

/-- Whether adaptation is active for a group (R284). -/
def adaptActive (c : Chip) (g : Nat) : Bool := (c.is (F.GDS_G_CFG_ADAPT g) || learningRuns c g) && outen c g

/-- A kind's learning ends, converged or failed (R286). -/
def learnEnds (n k : Nat) (converged : Bool) (c : Chip) : Chip :=
  let g := groupOf n
  let b := 4 * legPos n + k
  let c := if converged then
      (c.set (F.GDS_L_A_SCODE n k) (c.get (F.GDS_L_A_CODE n k))).setBit (F.GDS_G_LRN_DONE g) b true
    else c.setBit (F.GDS_G_LRN_FAIL g) b true
  let c := modKind n k (fun q => { q with ended := true }) c
  if (legsOf g).all (fun m => (c.gdsl m).kinds.all (·.ended)) then
    (c.setb (F.GDS_G_LRN_ACTIVE g) false).modGdsg g (fun q => { q with learning := false })
  else c

/-- Learning starts on group g (R285): every kind from its SCODE. -/
def startLearning (g : Nat) (c : Chip) : Chip :=
  let c := ((c.raise (F.GDS_G_LRN_ACTIVE g)).set (F.GDS_G_LRN_DONE g) 0).set (F.GDS_G_LRN_FAIL g) 0
  let c := c.modGdsg g (fun q => { q with learning := true })
  let c := c.forEach (legsOf g) (fun n c => c.forN 4 (fun k c => modKind n k (fun q => { q with ended := false, stable := 0, atLimit := 0 }) c))
  reloadGroup g c

/-- The time-out of learning for one kind (R285). -/
def learningTimeout (n k : Nat) (c : Chip) : Chip :=
  if (c.gdsg (groupOf n)).learning && !(kindAt c n k).ended then learnEnds n k false c else c

/-- Learning's account of an admitted measurement (R285): inside the band, at the limit, or neither. -/
def learnCount (n k : Nat) (inBand atLimit : Bool) (c : Chip) : Chip :=
  let g := groupOf n
  if learningRuns c g && !(kindAt c n k).ended then
    let c := modKind n k (fun q => { q with stable := if inBand then q.stable + 1 else 0, atLimit := if atLimit then q.atLimit + 1 else 0 }) c
    let lim := c.get (F.GDS_G_ADP_LSTAB g)
    if lim ≤ (kindAt c n k).stable then learnEnds n k true c
    else if lim ≤ (kindAt c n k).atLimit then learnEnds n k false c
    else c
  else c

/-- The adaptation law on an admitted measurement of width `wid` (R283). -/
def adaptLaw (n k wid : Nat) (c : Chip) : Chip :=
  let g := groupOf n
  let learning := learningRuns c g
  let band := if learning then c.get (F.GDS_G_ADP_LDBAND g) else c.get (F.GDS_L_A_DBAND n k)
  let step : Int := if learning then 0 else (c.get (F.GDS_G_ADP_STEP g) : Nat)
  let err : Int := (wid : Int) - c.get (F.GDS_L_A_TGT n k)
  if err.natAbs ≤ band then learnCount n k true false (modKind n k (fun q => { q with acc := 0 }) c)
  else
    let acc := (kindAt c n k).acc + err
    let code := c.get (F.GDS_L_A_CODE n k)
    let new : Option Int := if acc > step * 64 then some ((code : Int) + 1) else if acc < -(step * 64) then some ((code : Int) - 1) else none
    match new with
    | none => learnCount n k false false (modKind n k (fun q => { q with acc := acc }) c)
    | some z =>
      let c := modKind n k (fun q => { q with acc := 0 }) c
      let r := codeRange c n k
      if z > (r.2 : Int) ∨ z < (r.1 : Int) then learnCount n k false true (c.raise (F.GDS_G_STAT_LIM g))
      else
        let c := c.set (F.GDS_L_A_CODE n k) z.toNat
        learnCount n k false false (queueFrame g (2 * legPos n + (if k < 2 then 0 else 1)) (k % 2 == 0) c)

/-- EDGn rises at the instant `ts` (R280): the pulse belongs to the latest launch of the leg at or before it, unless that lies more than ATTW back. -/
def edgeRises (n ts : Nat) (c : Chip) : Chip :=
  let l := c.gdsl n
  let p : Option GdsPulse := match l.lastLaunch with
    | some (k, t) => if t ≤ ts ∧ ts ≤ t + c.get (F.GDS_G_CFG_ATTW (groupOf n)) * 256 then some ⟨k, ts - t, (kindAt c n k).codeAt, true⟩ else none
    | none => none
  c.modGdsl n (fun l => { l with edgAt := some ts, pulse := p })

/-- EDGn falls at the instant `tf` (R280 to R283): an attributed pulse is measured, and used by adaptation if R282 admits it; one without a launch is an orphan. -/
def edgeFalls (n tf : Nat) (c : Chip) : Chip :=
  let g := groupOf n
  let l := c.gdsl n
  let c := c.modGdsl n (fun l => { l with edgAt := none, pulse := none })
  match l.edgAt, l.pulse with
  | none, _ => c
  | some _, none => c.countSat (F.GDS_G_CNT_ORPHAN g) 1
  | some ts, some p =>
    let wid := tf - ts
    let c := (c.countMod (F.GDS_L_M_CNT n p.kind) 1).set (F.GDS_L_M_CODEM n p.kind) p.code
    let c := (c.set (F.GDS_L_M_DLY n p.kind) (min p.dly 0xFFFFF)).set (F.GDS_L_M_WID n p.kind) (min wid 0xFFFFF)
    if p.clean && p.code == c.get (F.GDS_L_A_CODE n p.kind) && !(kindAt c n p.kind).faultSince && adaptActive c g then adaptLaw n p.kind wid c else c

/-- The level of EDGn changes at fine position `f` of the present PCLK cycle (R280, R304); while DRVENg is low the pulse is ignored. -/
def edgeSensePulse (n : Nat) (level : Bool) (f : Nat) (c : Chip) : Chip :=
  let was := c.is (F.GDS_L_FLT_LIVEEDG n)
  let c := c.setb (F.GDS_L_FLT_LIVEEDG n) level
  if was == level then c
  else if !(c.gdsg (groupOf n)).drven then c.modGdsl n (fun l => { l with edgAt := none, pulse := none })
  else if level then edgeRises n (64 * c.up + f) c
  else edgeFalls n (64 * c.up + f) c

/-! ### The group fault state (R293 to R297) -/

/-- The group enters its fault state (R295, R297): entries counted, GLOCK, the event, and a cause of the axis that owns it. -/
def enterFault (g : Nat) (c : Chip) : Chip :=
  if c.is (F.GDS_G_STAT_FAULT g) then c else
  let c := modSwitches g (fun s => { s with softWait := false, grp := true }) c
  let c := (c.raise (F.GDS_G_STAT_FAULT g)).countSat (F.GDS_G_CNT_GFCNT g) 1
  let entries := ((c.gdsg g).entries ++ [c.now]).reverse.take 15 |>.reverse
  let c := c.modGdsg g (fun q => { q with entering := false, entries := entries, faultUp := c.up })
  let recent := entries.filter (fun t => decide ((c.now - t).toNat ≤ c.get (F.GDS_G_ESC_GFT g) * 1000000000))
  let c := if c.get (F.GDS_G_ESC_GFN g) ≤ recent.length then c.raise (F.GDS_G_STAT_GLOCK g) else c
  let c := (c.evGflt g).occur 0x0D (some g) (BitVec.ofNat 48 ((c.rd (F.GDS_G_STAT g)).field 0 8))
  match (if g = 6 then none else groupAxis c g) with
  | some n => c.notice (.axis n .group)
  | none => c

/-- A cause of the fault state that allows soft force-off instants to pass first (R294, R295). -/
def requestFault (g : Nat) (c : Chip) : Chip :=
  let c := modSwitches g (fun s => if s.softWait then s else { s with grp := true }) c
  if anySoft c g then c.modGdsg g (fun q => { q with entering := true }) else enterFault g c

/-- A comparator trip of group g (R231, R295): the fault state at once. -/
def groupTrip (g : Nat) (c : Chip) : Chip :=
  if c.is (F.GDS_G_STAT_FAULT g) then c else enterFault g (c.raise (F.GDS_G_STAT_TRIP g))

/-- The live period, or 100 µs for GB and in the angle-driven mode, in units of 2^-24 ns (R255, R294). -/
def multiSpan (c : Chip) (g : Nat) : Nat :=
  if g = 6 || angleMode c g then 100000 * 2 ^ 24 else fineUnits (c.get (F.PWM_G_LPER_LPER g))

/-- Whether the interlock has held leg n for longer than the span of its group (R255). -/
def interlockLasts (c : Chip) (n : Nat) : Bool :=
  interlocked c n && (match (c.leg n).ilk with
    | some t => decide (((multiSpan c (groupOf n) : Nat) : Int) < (c.time.fwt - t).toInt)
    | none => false)

/-- An interlock interval has lasted too long (R255, R295). -/
def interlockFault (g : Nat) (c : Chip) : Chip :=
  if (legsOf g).any (interlockLasts c) && !c.is (F.GDS_G_STAT_FAULT g) then
    enterFault g ((c.raise (F.PWM_G_STAT_ILKFLT g)).raise (F.GDS_G_STAT_ILK g))
  else c

/-- The comparator conditions that trip a group (R231). -/
def tripActive (c : Chip) (g : Nat) : Bool :=
  (List.range 24).any (fun w => c.is (F.ADC_CMP_CTL_TRIP w) && (c.get (F.ADC_CMP_CTL_TGRP w) == g || c.get (F.ADC_CMP_CTL_TGRP w) == 7)
    && compCond c w)

/-- A write of 1 to CLR[CLR] (R297, R298): a new cause in the same cycle is taken first, which the order of commands gives. -/
def gdsClear (g : Nat) (c : Chip) : Chip :=
  if !c.is (F.GDS_G_STAT_FAULT g) then c
  else if c.is (F.GDS_G_STAT_GLOCK g) || (legsOf g).any (fun n => c.is (F.GDS_L_FLT_LIVEDS n)) || tripActive c g
      || (legsOf g).any (interlocked c) then c.raise (F.GDS_G_STAT_CLRREF g)
  else
    let c := c.setb (F.GDS_G_STAT_FAULT g) false
    let c := modSwitches g (fun s => { s with forced := false, grp := false, softWait := false, edge := false }) c
    let c := c.forEach (legsOf g) (fun n c => (c.setb (latchFld n true) false).setb (latchFld n false) false)
    c.modGdsg g (fun q => { q with clearPulse := true, entering := false })

/-- The enable pulse of a fault clear ends (R297). -/
def drvenClearPulseEnd (g : Nat) (c : Chip) : Chip := c.modGdsg g (fun q => { q with clearPulse := false })

/-! ### Switch faults (R287 to R292) -/

/-- The other legs of a group whose last switch fault lies within the span (R294). -/
def multiLegs (c : Chip) (g n : Nat) : List Nat :=
  (legsOf g).filter (fun m => m != n && (match (c.gdsl m).lastFault with
    | some t => decide ((c.fnow - t).toNat * 2 ^ 24 < multiSpan c g)
    | none => false))

/-- Faults of a switch within the present ESCT window (R293). -/
def escCount (c : Chip) (n : Nat) (high : Bool) : Nat :=
  ((switchOf c n high).faults.filter (fun t => decide ((c.now - t).toNat ≤ c.get (F.GDS_G_ESC_ESCT (groupOf n)) * 1000000))).length

/-- The flag of a switch fault (R291). -/
def faultFlag (n : Nat) (high desat : Bool) : Fld :=
  if desat then (if high then F.GDS_L_FLT_DSATH n else F.GDS_L_FLT_DSATL n)
  else if high then F.GDS_L_FLT_OVDH n else F.GDS_L_FLT_OVDL n

/-- A switch fault of the chopper switch (R466). -/
def chopperDesat (n : Nat) (high : Bool) (c : Chip) : Chip :=
  if chopLeg c == some n && (c.get F.PRT_CHP_SW == (if high then 0 else 1)) then
    (((c.raise F.PRT_CHS_CHDSAT).raise F.PRT_CHS_CHFAIL)).evChopper
  else c

/-- A break on the strength line (R278): the frame in progress is queued again at the head. -/
def assertBreak (g : Nat) (c : Chip) : Chip :=
  if c.is (F.GDS_G_STAT_BREAK g) then c else
  let c := (c.raise (F.GDS_G_STAT_BREAK g)).countSat (F.GDS_G_CNT_BRKCNT g) 1
  c.modGdsg g (fun q => match q.cur with
    | some f => { q with cur := none, dupDue := false, queue := (f.sw, f.on) :: q.queue.filter (· != (f.sw, f.on)) }
    | none => q)

/-- A switch fault of a switch of leg n (R291, R293, R294). `wasOff`: the switch is already off, so no break follows (R298). One that falls in the very
PCLK cycle in which the group entered its fault state still counts for escalation and MULTI (R298); a later one is recorded only (R293). -/
def switchFault (n : Nat) (high desat wasOff : Bool) (c : Chip) : Chip :=
  let g := groupOf n
  let c := c.raise (faultFlag n high desat)
  if c.is (latchFld n high) then c else
  let c := ((c.raise (latchFld n high)).raise (F.GDS_G_STAT_SWF g)).countSat (F.GDS_G_CNT_SWFCNT g) 1
  let c := c.forN 4 (fun k c => modKind n k (fun q => { q with faultSince := true }) c)
  let c := chopperDesat n high c
  let c := modSwitch n high (fun s => { s with latUp := c.up, edge := false }) c
  let c := c.occur 0x0C (some n) (BitVec.ofNat 48 ((c.rd (F.GDS_L_FLT n)).field 0 12))
  let infault := c.is (F.GDS_G_STAT_FAULT g)
  if infault && (c.gdsg g).faultUp != c.up then modSwitch n high (fun s => { s with forced := true }) c else
  let c := if wasOff || infault then modSwitch n high (fun s => { s with forced := true }) c
    else if c.is (F.GDS_G_CFG_SOFTEN g) then assertBreak g (modSwitch n high (fun s => { s with softWait := true }) c)
    else modSwitch n high (fun s => { s with forced := true }) c
  let c := modSwitch n high (fun s => { s with faults := (s.faults ++ [c.now]).reverse.take 15 |>.reverse }) c
  let others := multiLegs c g n
  let c := c.modGdsl n (fun l => { l with lastFault := some c.fnow })
  let esc := c.get (F.GDS_G_ESC_ESCN g) ≤ escCount c n high
  let c := if esc then c.raise (F.GDS_G_STAT_ESC g) else c
  let c := if others.isEmpty then c else
    (c.raise (F.GDS_G_STAT_MULTI g)).set (F.GDS_G_STAT_FLEGS g) ((n :: others).foldl (fun b m => b + 2 ^ legPos m) 0)
  if !infault && (esc || !others.isEmpty) then requestFault g c else c

/-- The end of a switch's blanking (R288, R289). -/
def endBlanking (n : Nat) (high wasOff : Bool) (c : Chip) : Chip :=
  let s := switchOf c n high
  let c := modSwitch n high (fun s => { s with blanking := false, early := false }) c
  if s.blanking && s.early then
    if c.is (F.GDS_L_FLT_LIVEDS n) then switchFault n high true wasOff c
    else c.countSat (F.GDS_G_CNT_DSNOISE (groupOf n)) 1
  else c

/-- The blanking time of a switch, in PCLK cycles: BLANKH or BLANKL times 20 ns, held to 5 to 250 (R288, R304). -/
def blankCycles (c : Chip) (n : Nat) (high : Bool) : Nat :=
  8 * clampNat 5 250 (c.get (if high then F.GDS_L_BLANK_BLANKH n else F.GDS_L_BLANK_BLANKL n))

/-- The blanking of a switch ends once its time has passed since the launch (R288). -/
def blankingEnd (n : Nat) (high : Bool) (c : Chip) : Chip :=
  if (switchOf c n high).blanking && decide (blankCycles c n high ≤ c.up - (switchOf c n high).onUp) then endBlanking n high false c else c

/-- The filtered level of DSATn changes (R287, R289); while DRVENg is low the level shows and nothing else follows. -/
def dsatLevel (n : Nat) (level : Bool) (c : Chip) : Chip :=
  let g := groupOf n
  let was := c.is (F.GDS_L_FLT_LIVEDS n)
  let c := c.setb (F.GDS_L_FLT_LIVEDS n) level
  if !(c.gdsg g).drven || !level || was then c
  else
    let act (high : Bool) (c : Chip) : Chip :=
      if (switchOf c n high).blanking then
        (modSwitch n high (fun s => { s with early := true }) c).raise (if high then F.GDS_L_FLT_DSAT_EARLY_H n else F.GDS_L_FLT_DSAT_EARLY_L n)
      else switchFault n high true false c
    if outOn c n true then act true c
    else if outOn c n false then act false c
    else (c.raise (F.GDS_L_FLT_DSIDLE n)).countSat (F.GDS_G_CNT_DSIDLE g) 1

/-- Whether EDGn has been high for TOVD since the later of its rise and the turn-on launch of the switch that is on (R290). -/
def overdue (c : Chip) (n : Nat) (high : Bool) : Bool :=
  match (c.gdsl n).edgAt with
  | some t => decide (64 * 4 * max 5 (c.get (F.GDS_G_CFG_TOVD (groupOf n))) ≤ 64 * c.up + 63 - max t (64 * (switchOf c n high).onUp))
  | none => false

/-- EDGn has been high for TOVD while exactly one switch of the leg is on (R290). -/
def overdueFault (n : Nat) (c : Chip) : Chip :=
  if !(c.gdsg (groupOf n)).drven || outOn c n true == outOn c n false then c
  else if overdue c n (outOn c n true) then switchFault n (outOn c n true) false false c
  else c

/-- The soft force-off instant of a switch (R291); the last one of a group lets a waiting fault state be entered (R295). -/
def softForceOff (n : Nat) (high : Bool) (c : Chip) : Chip :=
  if (switchOf c n high).softWait then
    let c := modSwitch n high (fun s => { s with softWait := false, forced := c.is (latchFld n high) }) c
    if (c.gdsg (groupOf n)).entering && !anySoft c (groupOf n) then enterFault (groupOf n) c else c
  else c

/-- The break ends, 40 ns after the last soft force-off instant of the group (R278). -/
def breakEnd (g : Nat) (c : Chip) : Chip :=
  if c.is (F.GDS_G_STAT_BREAK g) && !anySoft c g then startFrame g (c.setb (F.GDS_G_STAT_BREAK g) false) else c

/-- A command edge of a switch after its fault latch was set clears the latch, outside the group fault state (R292). -/
def faultLatchClear (n : Nat) (high : Bool) (c : Chip) : Chip :=
  if c.is (latchFld n high) && (switchOf c n high).edge && !c.is (F.GDS_G_STAT_FAULT (groupOf n)) then
    modSwitch n high (fun s => { s with forced := false, edge := false }) (c.setb (latchFld n high) false)
  else c

/-- A stage-1 command edge of a latched switch, after the PCLK cycle that set the latch (R292). -/
def noteEdge (before : Chip) (n : Nat) (c : Chip) : Chip :=
  let see (high : Bool) (c : Chip) : Chip :=
    let s := switchOf c n high
    let moved := if high then (before.leg n).cmdH != (c.leg n).cmdH else (before.leg n).cmdL != (c.leg n).cmdL
    if moved && c.is (latchFld n high) && decide (s.latUp < c.up) then modSwitch n high (fun s => { s with edge := true }) c else c
  see false (see true c)

/-- A switch's output has changed at stage 6: a launch (R280), with blanking started or ended (R288). Blanking that ends because the fault latch turned the
switch off leaves its assertion to that fault (R289). -/
def launch (n : Nat) (high on : Bool) (c : Chip) : Chip :=
  let k := kindOf high on
  let c := modKind n k (fun q => { q with launched := true, codeAt := c.get (F.GDS_L_A_CUR n k), faultSince := false }) c
  let c := c.modGdsl n (fun l => { l with lastLaunch := some (k, 64 * c.up + c.fine), pulse := l.pulse.map (fun p => { p with clean := false }) })
  let c := modSwitch n high (fun s => { s with on := on, onUp := if on then c.up else s.onUp }) c
  if on then modSwitch n high (fun s => { s with blanking := true, early := false }) c
  else if (switchOf c n high).forced then modSwitch n high (fun s => { s with blanking := false, early := false }) c
  else endBlanking n high true c

/-- The launches of leg n: turn-offs before turn-ons (R280). -/
def launches (n : Nat) (c : Chip) : Chip :=
  let see (on high : Bool) (c : Chip) : Chip := if outOn c n high == on && (switchOf c n high).on != on then launch n high on c else c
  see true false (see true true (see false false (see false true c)))

/-- The edge at the head of a delay line is due, in this PCLK cycle or before it (R254). -/
def lineDue (c : Chip) (line : List (Nat × Bool)) (on : Bool) : Bool :=
  match line with
  | e :: _ => e.2 == on && decide (e.1 < 64 * (c.up + 1))
  | [] => false

/-- A delayed edge reaches stage 4 (R254, R255), once it is due: the interlock may begin or cease to hold the leg off. The output at stage 6 follows
(`launches`). -/
def edgeLaunch (n : Nat) (high on : Bool) (c : Chip) : Chip :=
  let l := c.leg n
  let line := if high then l.lineH else l.lineL
  if lineDue c line on then
    let was := interlocked c n
    let c := { c with fine := (line.headD (0, on)).1 - 64 * c.up }
    let c := c.modLeg n (fun l => if high then { l with outH := on, lineH := l.lineH.tail } else { l with outL := on, lineL := l.lineL.tail })
    if interlocked c n then (if was then c else interlockBegins n c) else c.modLeg n (fun l => { l with ilk := none })
  else c

/-- Whether a comparator that trips group g acts (R231, R295). -/
def tripActs (c : Chip) (g : Nat) : Bool :=
  (List.range 24).any (fun w => c.is (F.ADC_CMP_CTL_TRIP w) && (c.get (F.ADC_CMP_CTL_TGRP w) == g || c.get (F.ADC_CMP_CTL_TGRP w) == 7) && compActs c w)

/-- What true comparator conditions do once their filters have passed (R231, R258, R295): cut latches of the legs they are sources of, and the trips of their
groups. The comparators act once they have settled (R228). -/
def watchComparators (c : Chip) : Chip :=
  if c.mode = .reset ∨ !c.adc.compSettled then c else
  let c := evalCuts (List.range 20) (noteConditions (settleThresholds c))
  c.forN 7 (fun g c => if !c.is (F.GDS_G_STAT_FAULT g) && tripActs c g then groupTrip g c else c)

/-- What follows an effect in the drive itself, in the same PCLK cycle: comparator conditions (R231, R258), driver enables (R272), outputs that no longer follow
(R256), a due refresh in the angle-driven mode (R260), the delay lines (R254), and the launches at stage 6 (R280). -/
def watchDrive (before c : Chip) : Chip :=
  let c := (watchComparators c).forN 7 updateDrven
  let c := c.forN 7 (fun g c => if (c.pwmg g).follow && !outen c g then c.modPwmg g (fun q => { q with follow := false }) else c)
  let c := c.forN 20 (fun n c => if (c.leg n).kfollow && !outen c (groupOf n) then c.modLeg n (fun l => { l with kfollow := false }) else c)
  c.forN 20 (fun n c => launches n (noteEdge before n (feedLines n (angleRefresh n c))))

end Sys2Proof.Machine
end

