-- ==== Sys2Proof/Machine/Time.lean ====
section
/-! DEFINITION. Network time (05_network_time): the counter, the servo, the host's settings of time, the compare and capture units. -/

namespace Sys2Proof.Machine

/-! ### Steps and the passing of time -/

/-- A time as a 72-bit count of 2^-24 ns, from its integer part (R137). -/
def ofNs (t : Word) : BitVec 72 := BitVec.ofNat 72 (t.toNat * 2 ^ 24)

/-- The time of compare unit n: NWT for NC0 to NC3, FWT for NC4 to NC15 (R148). -/
def ncTime (c : Chip) (n : Nat) : Word := if n < 4 then c.now else c.fnow

/-- Units whose armed target lay ahead before a step and does not after it (R153). -/
def markStepped (before after : Chip) : Chip :=
  let hit (n : Nat) : Bool :=
    after.is (F.NWT_NCn_CTL_ARM n) && !reached (ncTime before n) (after.rd (F.NWT_NCn_TGT n)) &&
      reached (ncTime after n) (after.rd (F.NWT_NCn_TGT n))
  let bits := (List.range 16).foldl (fun b n => if hit n then b ||| (1#16 <<< n) else b) after.time.stepped
  { after with time := { after.time with stepped := bits } }

/-- NWT takes a new value by a step; before FALIGNED, or with `both`, FWT takes it too (R143, R147, R149), and a step of FWT restarts every
running carrier (R250). STEPPED and TIME_EVT are set. -/
def stepTime (both : Bool) (nwt : BitVec 72) (c : Chip) : Chip :=
  let fsteps := both || !c.is F.NWT_STAT_FALIGNED
  let c' := { c with time := { c.time with nwt := nwt, fwt := if fsteps then nwt else c.time.fwt } }
  let c' := ((markStepped c c').raise F.NWT_STAT_STEPPED).evTime.queueSync
  if fsteps then c'.forN 7 (restartCarrier true nwt) else c'

/-- A signed number of nanoseconds added to NWT in one step, its fraction kept. -/
def stepBy (d : Int) (c : Chip) : Chip := stepTime false (c.time.nwt + BitVec.ofInt 72 (d * 2 ^ 24)) c

/-- One PCLK cycle of NWT and FWT (R137, R147, R150). -/
def tickTime (c : Chip) : Chip :=
  let part := clampInt (-slewLimit c) (slewLimit c) c.time.slew
  let nwt := c.time.nwt + BitVec.ofInt 72 (nwtInc c)
  let fwt := if c.is F.NWT_STAT_FALIGNED then c.time.fwt + BitVec.ofInt 72 (fwtInc c) else nwt
  { c with time := { c.time with nwt := nwt, fwt := fwt, slew := c.time.slew - part } }

/-- A TIME_ADJUST slew finishes: SLEWING clears once nothing of it is left to add (R150). -/
def slewDone (c : Chip) : Chip := if c.time.slew = 0 then c.setb F.NWT_STAT_SLEWING false else c

/-! ### Role and servo (R141 to R144) -/

/-- Whether the device is a slave (R141: 0b11 is taken as FREE). -/
def isSlave (c : Chip) : Bool := c.get F.NWT_CFG_ROLE == 2

/-- Whether the device is the time master. -/
def isMaster (c : Chip) : Bool := c.get F.NWT_CFG_ROLE == 1

/-- The servo takes a state; a change sets TIME_EVT (R144), and leaving or entering LOCKED sets its flag (R151). -/
def setSrv (v : Nat) (c : Chip) : Chip :=
  let old := c.get F.NWT_STAT_SRV
  if old = v then c else
  let c := (c.set F.NWT_STAT_SRV v).evTime
  if old = 2 then c.raise F.NWT_STAT_LOCKLOST else if v = 2 then c.raise F.NWT_STAT_LOCKGAIN else c

/-- The role as taken has changed from `old` (R144). -/
def roleChanged (old : Nat) (c : Chip) : Chip :=
  let taken (r : Nat) : Nat := if r = 3 then 0 else r
  if taken old = taken (c.get F.NWT_CFG_ROLE) then c
  else if isSlave c then setSrv 1 { c with time := { c.time with integ := 0, good := 0 } }
  else setSrv 0 (c.raise F.NWT_STAT_FALIGNED)

/-- The servo runs on one offset e, in ns (R143); R151 shows the last offset. -/
def servoOffset (e : Int) (c : Chip) : Chip :=
  let c := c.seti F.NWT_OFFS_OFFSET (clampInt (-134217727) 134217727 e)
  let mag : Int := if e < 0 then -e else e
  let thr : Int := (c.get F.NWT_SERVO_STEPTHR * 1000 : Nat)
  if c.get F.NWT_STAT_SRV = 1 ∧ thr < mag then
    stepBy (-e) { c with time := { c.time with integ := 0, good := 0 } }
  else
    let ki : Int := (c.get F.NWT_SERVO_KI : Nat)
    let kp : Int := (c.get F.NWT_SERVO_KP : Nat)
    let integ := clampInt (-209715) 209715 (c.time.integ - ki * e / 256)
    let good := if mag ≤ (c.get F.NWT_SERVO_LOCKTHR : Nat) then c.time.good + 1 else 0
    let c := { c with time := { c.time with integ := integ, good := good } }
    let c := c.seti F.NWT_OFFS_RATE (clampInt (-209715) 209715 (integ - kp * e / 256))
    let c :=
      if (c.get F.NWT_STAT_SRV = 1 ∨ c.get F.NWT_STAT_SRV = 3) ∧ 8 ≤ good then
        (setSrv 2 c).raise F.NWT_STAT_FALIGNED
      else c
    let c := if c.get F.NWT_STAT_SRV = 2 ∧ thr < mag then setSrv 1 c else c
    if c.get F.NWT_STAT_SRV = 3 ∧ good = 0 then setSrv 1 c else c

/-- No offset for four SYNCINT: HOLDOVER (R144). -/
def servoHoldover (c : Chip) : Chip :=
  if isSlave c ∧ (c.get F.NWT_STAT_SRV = 1 ∨ c.get F.NWT_STAT_SRV = 2) then setSrv 3 c else c

/-- A slave's servo returns to ACQUIRE after a host setting of time (R149, R150). -/
def servoRestart (clearInteg : Bool) (c : Chip) : Chip :=
  if isSlave c then setSrv 1 (if clearInteg then { c with time := { c.time with integ := 0 } } else c) else c

/-- TIME_SET (R149). -/
def timeSet (w : Word) (c : Chip) : Chip := servoRestart true (stepTime true (ofNs w) c)

/-- TIME_ADJUST STEP (R150); a running slew is replaced. -/
def adjustStep (d : Int) (c : Chip) : Chip :=
  let c := ({ c with time := { c.time with slew := 0 } }).setb F.NWT_STAT_SLEWING false
  servoRestart false (stepBy d c)

/-- TIME_ADJUST SLEW (R150): it replaces what is left of a running slew. -/
def adjustSlew (d : Int) (c : Chip) : Chip :=
  ({ c with time := { c.time with slew := d * 2 ^ 24 } }).setb F.NWT_STAT_SLEWING (d != 0)

/-- TIME_ADJUST RATE (R150), clamped under R137. -/
def adjustRate (r : Int) (c : Chip) : Chip := c.seti F.NWT_OFFS_RATE (clampInt (-209715) 209715 r)

/-! ### Compare units (R152 to R156) -/

/-- Drive the level of a pin of the compare units: TIO0 to TIO3 are 0 to 3, SYNCO is 4. -/
def driveTio (pin : Nat) (level : Bool) (c : Chip) : Chip :=
  let m : BitVec 5 := 1#5 <<< pin
  { c with time := { c.time with tio := if level then c.time.tio ||| m else c.time.tio &&& ~~~m } }

/-- Begin a pulse at a pin (R154). -/
def pulseTio (pin : Nat) (c : Chip) : Chip :=
  let c := driveTio pin true c
  { c with time := { c.time with pulsing := c.time.pulsing ||| (1#5 <<< pin) } }

/-- Give a pin a lasting level (R154). -/
def levelTio (pin : Nat) (level : Bool) (c : Chip) : Chip :=
  let c := driveTio pin level c
  { c with time := { c.time with pulsing := c.time.pulsing &&& ~~~(1#5 <<< pin) } }

/-- Do an action on an object unless a compare unit has done the same in this PCLK cycle (R155). -/
def onceInCycle (action obj : Nat) (f : Chip → Chip) (c : Chip) : Chip :=
  let done := if c.time.actedUp = c.up then c.time.acted else []
  if done.contains (action, obj) then c
  else f { c with time := { c.time with actedUp := c.up, acted := (action, obj) :: done } }

/-- The action of a compare unit with target `tgt` (R154): a CARRIER restart places its boundary at the target in FWT (R156). -/
def ncAction (action arg : Nat) (tgt : Word) (c : Chip) : Chip :=
  match action with
  | 1 => onceInCycle 1 (arg % 16) (triggerSet (arg % 16)) c
  | 2 => onceInCycle 2 (arg % 64) (startProgram (arg % 64)) c
  | 3 => c.forN 6 (fun g c => if Nat.bitAt arg g then onceInCycle 3 g (restartCarrier false (ofNs tgt) g) c else c)
  | 4 => pulseTio (arg % 4) c
  | 5 => levelTio (arg % 4) (Nat.bitAt arg 2) c
  | 6 => pulseTio 4 c
  | _ => c

/-- Whether unit n is armed and its target reached (R152). -/
def ncDue (c : Chip) (n : Nat) : Bool := c.is (F.NWT_NCn_CTL_ARM n) && reached (ncTime c n) (c.rd (F.NWT_NCn_TGT n))

/-- Unit n fires (R152, R153). -/
def ncFire (n : Nat) (c : Chip) : Chip :=
  if ncDue c n then
    let stepped := c.time.stepped.getLsbD n
    let late := stepped || c.time.lateArm.getLsbD n
    let per := c.get (F.NWT_NCn_CTL_PERIOD n)
    let tgt := c.rd (F.NWT_NCn_TGT n)
    let c := c.raise (F.NWT_NCn_CTL_FIRED n)
    let c := if late then c.raise (F.NWT_NCn_CTL_LATE n) else c
    let c :=
      if per = 0 then c.setb (F.NWT_NCn_CTL_ARM n) false
      else if stepped then
        let k := (sdiff48 (ncTime c n) tgt).toNat / per + 1
        (c.wr (F.NWT_NCn_TGT n) (tgt + BitVec.ofNat 48 (k * per))).countSat (F.NWT_NCn_CTL_MISSED n) (k - 1)
      else c.wr (F.NWT_NCn_TGT n) (tgt + BitVec.ofNat 48 per)
    let clr (b : BitVec 16) : BitVec 16 := b &&& ~~~(1#16 <<< n)
    let c := { c with time := { c.time with stepped := clr c.time.stepped, lateArm := clr c.time.lateArm } }
    ncAction (c.get (F.NWT_NCn_CTL_ACTION n)) (c.get (F.NWT_NCn_CTL_ARG n)) tgt (c.occur 0x12 (some n) 0)
  else c

/-- Unit n has been armed: with its target already reached it is due late (R152). -/
def ncArmed (n : Nat) (c : Chip) : Chip :=
  let m : BitVec 16 := 1#16 <<< n
  let late := if ncDue c n then c.time.lateArm ||| m else c.time.lateArm &&& ~~~m
  { c with time := { c.time with lateArm := late, stepped := c.time.stepped &&& ~~~m } }

/-- A write to NCn.TGT or NCn.CTL, `was` saying whether the unit was armed before it: ARM going to 1 arms the unit; a unit that is no longer due, its
target moved ahead or ARM written 0, keeps no mark of an arming or a step behind it. -/
def ncWritten (n : Nat) (was : Bool) (c : Chip) : Chip :=
  if !was && c.is (F.NWT_NCn_CTL_ARM n) then ncArmed n c
  else if ncDue c n then c
  else
    let m : BitVec 16 := ~~~(1#16 <<< n)
    { c with time := { c.time with lateArm := c.time.lateArm &&& m, stepped := c.time.stepped &&& m } }

/-- A pulse driven by a compare unit ends (R154). -/
def comparePulseEnd (pin : Nat) (c : Chip) : Chip := if c.time.pulsing.getLsbD pin then levelTio pin false c else c

/-- A qualifying edge at a pin, or an event, for the capture units (R157). -/
def captureEvent (src : Nat) (rising : Bool) (c : Chip) : Chip := if c.mode = .reset then c else c.captureAt src rising

/-- NWT starts from zero at the start of BOOT (R127, R137). -/
def resetTime (c : Chip) : Chip := { c with time := {} }

/-- FALIGNED at the end of BOOT for FREE and MASTER (R147). -/
def alignAtBootEnd (c : Chip) : Chip := if isSlave c then c else c.raise F.NWT_STAT_FALIGNED

end Sys2Proof.Machine
end

