-- ==== Sys2Proof/Machine/Angle.lean ====
section
/-! DEFINITION. Angle trackers and Kerf tables (06_angle_scheduling). -/

namespace Sys2Proof.Machine

/-! ### Sources of a tracker -/

/-- The source that feeds the loop of tracker n (R171). -/
def activeSrc (c : Chip) (n : Nat) : Nat := if c.is (F.AT_STAT_ALTACT n) then (altOf c n).getD 0 else srcOf c n

/-- The lines per turn of an encoder (R167): 0 is taken as 1. -/
def encLines (c : Chip) (n : Nat) : Nat := max 1 (c.get (F.AT_SRC_P1 n))

/-- The speed of `num / den` Hz in angle units per PCLK cycle, rounded (R160, R169). -/
def speedOf (num : Int) (den : Nat) : Int := roundDiv (num * 2 ^ 48) (400000000 * den)

/-- The range of SPD (R169): plus and minus SPDLIM, or the band of P2 about the nominal frequency for GRID (R167). -/
def speedRange (c : Chip) (n : Nat) : Int × Int :=
  if srcOf c n = 5 then
    let nom : Int := (clampNat 4500 6500 (c.get (F.AT_SRC_P1 n)) : Nat)
    let band : Int := (10 * c.get (F.AT_SRC_P2 n) : Nat)
    (speedOf (nom - band) 100, speedOf (nom + band) 100)
  else
    let lim := speedOf (c.get (F.AT_LOOP_FMAX n) : Nat) 1
    (-lim, lim)

/-- The axes whose functions use tracker n (R173). -/
def trackerAxes (c : Chip) (n : Nat) : List Nat := (List.range 4).filter (fun a => axisFunc c a != 0 && c.get (F.MOT_CFG_AT a) == n)

/-- A fault of tracker n is a fault of every axis that uses it (R173). -/
def trackerFault (n : Nat) (c : Chip) : Chip := c.forEach (trackerAxes c n) (fun a c => c.notice (.axis a .tracker))

/-- SPD takes a value, held to its range; OVSPD if the limit acts (R169). -/
def setSpeed (n : Nat) (v : Int) (c : Chip) : Chip :=
  let r := speedRange c n
  let w := clampInt r.1 r.2 v
  let c := c.seti (F.AT_SPD_SPD n) w
  if w = v then c else trackerFault n (c.raise (F.AT_STAT_OVSPD n))

/-! ### Windows (R177) -/

/-- Whether an angle lies in a window: [LO, HI) in forward travel, (LO, HI] in reverse; LO = HI holds no angle. -/
def inAngleWindow (lo hi a : Word) (reverse : Bool) : Bool :=
  let span := (hi - lo).toNat
  let d := (if reverse then hi - a else a - lo).toNat
  decide (d < span)

/-- Recompute the flag of window w of tracker n from ANG and the present direction (R177). -/
def recomputeWindow (n w : Nat) (c : Chip) : Chip :=
  c.setBit (F.AT_STAT_WIN n) w
    (inAngleWindow (c.rd (F.AT_WIN_LO n w)) (c.rd (F.AT_WIN_HI n w)) (c.rd (F.AT_ANG n)) (c.is (F.AT_STAT_DIR n)))

/-- Whether a travel from `th` by `inc` crosses the angle `a`, with its fine position (R162). -/
def crossed (a th : Word) (inc : Int) : Option Nat :=
  let d : Int := ((if 0 < inc then a - th else th - a).toNat : Nat)
  let m : Int := if inc < 0 then -inc else inc
  if inc = 0 then none else if d < m then some (64 * d / m).toNat else none

/-- The flag of a window after a travel (R177): the bound crossed last decides; entering sets it, leaving clears it. LO = HI holds no angle. -/
def windowAfter (lo hi th : Word) (inc : Int) (was : Bool) : Bool :=
  let enters := if 0 < inc then lo else hi
  let leaves := if 0 < inc then hi else lo
  let dist (a : Word) : Nat := (if 0 < inc then a - th else th - a).toNat
  if lo = hi then false
  else if (crossed enters th inc).isSome then !(crossed leaves th inc).isSome || decide (dist leaves < dist enters)
  else was && !(crossed leaves th inc).isSome

/-- The windows of tracker n after a travel from `th` by `inc` (R177). -/
def travelWindows (n : Nat) (th : Word) (inc : Int) (c : Chip) : Chip :=
  c.forN 4 (fun w c =>
    let was := c.getBit (F.AT_STAT_WIN n) w
    let now := windowAfter (c.rd (F.AT_WIN_LO n w)) (c.rd (F.AT_WIN_HI n w)) th inc was
    if now == was then c else c.setBit (F.AT_STAT_WIN n) w now)

/-- A bound of window w has been crossed in the last PCLK cycle of tracker n (R162, R177); a bound that was not changes nothing. -/
def windowCrossing (n w : Nat) (hi : Bool) (c : Chip) : Chip :=
  let t := c.tracker n
  let bound := c.rd (if hi then F.AT_WIN_HI n w else F.AT_WIN_LO n w)
  if (crossed bound t.th t.inc).isNone then c
  else c.setBit (F.AT_STAT_WIN n) w (windowAfter (c.rd (F.AT_WIN_LO n w)) (c.rd (F.AT_WIN_HI n w)) t.th t.inc (c.getBit (F.AT_STAT_WIN n) w))

/-! ### Patterns, and where a Kerf table stands in its own (R163, R180, R182) -/

/-- The number of entries of pattern p of table n (R182). -/
def patCount (c : Chip) (n p : Nat) : Nat := min (c.get (F.KT_PAT_COUNT n p)) (512 - c.get (F.KT_PAT_FIRST n p))

/-- The boundaries per turn of pattern p of table n (R182). -/
def patSegs (c : Chip) (n p : Nat) : Nat :=
  match c.get (F.KT_PAT_NSEG n p) with
  | 1 => 2 | 2 => 3 | 3 => 6 | _ => 1

/-- The relative angle of boundary j (R182). -/
def boundaryAngle (segs j : Nat) : Word := BitVec.ofInt 48 (roundDiv (j * 2 ^ 48 : Nat) segs)

/-- The relative angles of a pattern's boundaries. -/
def boundaryAngles (segs : Nat) : List Word := (List.range segs).map (boundaryAngle segs)

/-- The angle of entry k of pattern p of table n, relative to ORG. -/
def patAngle (c : Chip) (n p k : Nat) : Word := c.rd (F.KT_E_ANG n (c.get (F.KT_PAT_FIRST n p) + k))

/-- The angles of the entries of pattern p of table n, relative to ORG. -/
def patAngles (c : Chip) (n p : Nat) : List Word := (List.range (patCount c n p)).map (patAngle c n p)

/-- The cursor that stands at relative angle b (R185): in forward travel before the first entry at or above b, in reverse travel behind the
entry at b, or else behind the last entry below b. -/
def cursorAt (angs : List Word) (b : Word) (reverse : Bool) : Nat :=
  if reverse then
    ((List.range angs.length).foldl (fun acc k => if (angs.getD k 0).toNat ≤ b.toNat then k + 1 else acc) 0)
  else angs.findIdx (fun a => decide (b.toNat ≤ a.toNat))

/-- The lead angle of tracker n (R163). -/
def leadAngle (c : Chip) (n : Nat) : Word := c.rd (F.AT_ANG n) + 8 * c.rd (F.AT_SPD n)

/-- Whether table n runs (R178, R188). -/
def kerfRuns (c : Chip) (n : Nat) : Bool :=
  c.is (F.KT_CTL_EN n) && c.is (F.AT_STAT_VALID n) && c.mode != .reset && c.mode != .boot

/-- The unwrapped angle of item K of a pattern that repeats its `cnt` angles every turn. -/
def unwrapped (angleOf : Nat → Word) (cnt : Nat) (K : Int) : Int := K / cnt * 2 ^ 48 + ((angleOf (K % cnt).toNat).toNat : Int)

/-- Whether a position lies beyond an unwrapped angle in the direction of travel: an angle is crossed when the lead angle leaves it behind (R162). -/
def beyond (rev : Bool) (pos a : Int) : Bool := if rev then decide (pos < a) else decide (a < pos)

/-- The item that a cursor examines next in the direction of travel (R180). -/
def nextItem (rev : Bool) (cursor : Int) : Int := if rev then cursor - 1 else cursor

/-- The unwrapped angle of the next entry of table n; none without entries. -/
def nextEntryAngle (c : Chip) (n : Nat) : Option Int :=
  let p := c.get (F.KT_STAT_CURPAT n)
  let k := c.kerf n
  if patCount c n p = 0 then none else some (unwrapped (patAngle c n p) (patCount c n p) (nextItem k.rev k.cursor))

/-- The unwrapped angle of the next boundary of table n (R182). -/
def nextBoundaryAngle (c : Chip) (n : Nat) : Int :=
  let segs := patSegs c n (c.get (F.KT_STAT_CURPAT n))
  let k := c.kerf n
  unwrapped (boundaryAngle segs) segs (nextItem k.rev k.bnd)

/-- Whether the lead angle has crossed the next entry of table n. -/
def entryCrossed (c : Chip) (n : Nat) : Bool :=
  match nextEntryAngle c n with
  | some a => beyond (c.kerf n).rev (c.kerf n).pos a
  | none => false

/-- Whether the lead angle has crossed the next boundary of table n. -/
def boundaryCrossed (c : Chip) (n : Nat) : Bool := beyond (c.kerf n).rev (c.kerf n).pos (nextBoundaryAngle c n)

/-- The fine position of the crossing of an unwrapped angle in the present cycle (R162); 0 for one that was crossed before (R180). -/
def crossFine (c : Chip) (n : Nat) (a : Int) : Nat :=
  let k := c.kerf n
  let m := (k.pos - k.prev).natAbs
  if beyond k.rev k.prev a || m == 0 then 0 else min 63 (64 * (a - k.prev).natAbs / m)

/-- The lead angle of table n has moved (R163): by the increment of a PCLK cycle, or by a jump, which leaves every entry in between already crossed (R169,
R180). -/
def advanceKerf (jump : Bool) (n : Nat) (c : Chip) : Chip :=
  if !kerfRuns c n then c else
  let lam := leadAngle c n
  let d := sdiff48 lam (c.kerf n).lam
  let c := c.modKerf n (fun k =>
    { k with lam := lam, pos := k.pos + d, prev := if jump then k.pos + d else k.pos, rev := if d = 0 then k.rev else decide (d < 0) })
  let x := boundaryCrossed c n
  c.modKerf n (fun k => { k with bndUp := if x then some (k.bndUp.getD c.up) else none })

/-- Table n begins to run: its cursor and its next boundary are placed at the lead angle. The spec names no position for the start; the model places them when
EN is written and when VALID rises (DESIGN CHOICE, log entry 78). -/
def startKerf (n : Nat) (c : Chip) : Chip :=
  if !c.is (F.KT_CTL_EN n) then c else
  let p := c.get (F.KT_STAT_CURPAT n)
  let lam := leadAngle c n
  let rel := lam - c.rd (F.KT_ORG n)
  let rev := c.is (F.AT_STAT_DIR n)
  c.modKerf n (fun k =>
    { k with
      lam := lam, pos := (rel.toNat : Int), prev := (rel.toNat : Int), rev := rev, execUp := none, bndUp := none,
      cursor := (cursorAt (patAngles c n p) rel rev : Nat), bnd := (cursorAt (boundaryAngles (patSegs c n p)) rel rev : Nat) })

/-- ANG is set directly: by a first measurement (R172), a jump (R169) or an index edge (R166). The flags of the windows are then formed anew, which R177 says
of a write to a bound and of the enabling only (DESIGN CHOICE, log entry 79), and the Kerf finds what lies between jumped over. -/
def setAngle (n : Nat) (a : Word) (c : Chip) : Chip :=
  advanceKerf true n ((c.wr (F.AT_ANG n) a).forN 4 (fun w c => recomputeWindow n w c))

/-! ### Engagement and the loss of VALID -/

/-- The groups bound by table n (R188). -/
def boundGroups (c : Chip) (n : Nat) : List Nat := [c.get (F.KT_CTL_GA n), c.get (F.KT_CTL_GB n)].filter (· < 6)

/-- Discard a pending set of table n (R184). -/
def discardPending (n : Nat) (c : Chip) : Chip := (c.modKerf n (fun k => { k with pending := none })).setb (F.KT_COMMIT_PENDING n) false

/-- The instant at which an action found in this cycle with fine position f is carried out: 8 PCLK cycles and f fine steps on (R163). -/
def actInstant (c : Chip) (f : Nat) : BitVec 72 := c.time.fwt + BitVec.ofNat 72 (fineUnits (8 * 64 + f))

/-- Table n engages or releases its groups (R186), at the instant `t`. -/
def setEngaged (n : Nat) (eng : Bool) (t : BitVec 72) (c : Chip) : Chip :=
  if c.is (F.KT_STAT_ENGD n) = eng then c
  else
    let c := c.setb (F.KT_STAT_ENGD n) eng
    c.forEach (boundGroups c n) (fun g c => if eng then engageGroup g c else releaseGroup g t c)

/-- Tracker n loses VALID: its table drops a pending set, and an engaged table turns its groups off and disengages (R184, R187). -/
def validLost (n : Nat) (c : Chip) : Chip :=
  let engd := c.is (F.KT_STAT_ENGD n)
  let c := setEngaged n false c.time.fwt (discardPending n c)
  if engd then c.forEach (boundGroups c n) (fun g c => c.modPwmg g (fun q => { q with follow := false })) else c

/-- FOLLOW tracker n takes angle, speed and validity of its parent (R165, R166, R169, R172); `tick` says that a PCLK cycle passes. -/
def followParent (tick : Bool) (n : Nat) (c : Chip) : Chip :=
  let p := c.get (F.AT_CFG_PARENT n)
  if srcOf c n ≠ 6 ∨ n ≤ p then c else
  let ratio := c.get (F.AT_CFG_RATIO n)
  let was := c.is (F.AT_STAT_VALID n)
  let th := c.rd (F.AT_ANG n)
  let ang := BitVec.ofNat 48 ((c.rd (F.AT_ANG p)).toNat * ratio) + c.rd (F.AT_OFFS n)
  let spd := c.geti (F.AT_SPD_SPD p) * ratio
  let c := c.seti (F.AT_SPD_SPD n) spd
  let c := ((c.setb (F.AT_STAT_VALID n) (c.is (F.AT_STAT_VALID p))).setb (F.AT_STAT_HOMED n) (c.is (F.AT_STAT_HOMED p))).setb
    (F.AT_STAT_DIR n) (c.is (F.AT_STAT_DIR p))
  let c :=
    if tick then
      let inc := sdiff48 ang th
      travelWindows n th inc ((c.wr (F.AT_ANG n) ang).modTracker n (fun t => { t with th := th, inc := inc }))
    else if ang = th then c else setAngle n ang c
  let lim := (speedRange c n).2
  let c := if (lim < spd ∨ spd < -lim) ∧ !c.is (F.AT_STAT_OVSPD n) then trackerFault n (c.raise (F.AT_STAT_OVSPD n)) else c
  if was && !c.is (F.AT_STAT_VALID n) then validLost n c
  else if !was && c.is (F.AT_STAT_VALID n) then startKerf n c
  else c

/-- FOLLOW trackers after a change of their parents, in ascending order. -/
def updateFollow (c : Chip) : Chip := c.forN 6 (followParent false)

/-! ### Faults, hold and the alternative source (R171, R172) -/

/-- HOMED of tracker n (R166): for ENCODER it tells of the first index edge, for any other source that feeds the loop it equals VALID. -/
def showHomed (n : Nat) (c : Chip) : Chip :=
  c.setb (F.AT_STAT_HOMED n) (if activeSrc c n = 2 then (c.tracker n).indexed else c.is (F.AT_STAT_VALID n))

/-- A fault of the source that feeds tracker n (R171). -/
def sourceFault (n : Nat) (c : Chip) : Chip :=
  if srcOf c n = 0 then c else
  let c := trackerFault n (c.raise (F.AT_STAT_SRCFLT n))
  if (altOf c n).isSome && (c.tracker n).altFresh && !c.is (F.AT_STAT_ALTACT n) then showHomed n (c.raise (F.AT_STAT_ALTACT n))
  else c.modTracker n (fun t => { t with holding := true })

/-- The hold time has run out (R171): VALID clears. -/
def holdExpiry (n : Nat) (c : Chip) : Chip :=
  if (c.tracker n).holding then
    let c := c.modTracker n (fun t => { t with holding := false })
    let c := (c.setb (F.AT_STAT_VALID n) false).raise (F.AT_STAT_HOLDEXP n)
    updateFollow (trackerFault n (validLost n (showHomed n c)))
  else c

/-- SRCFLT has been cleared by the host or the engine (R171): with a fresh primary the tracker returns to it. A hold that runs then ends without HOLDEXP, since
the loop is fed again: R171 does not say so (DESIGN CHOICE, log entry 80). -/
def srcfltCleared (n : Nat) (c : Chip) : Chip :=
  if (c.tracker n).primFresh then
    showHomed n ((c.modTracker n (fun t => { t with holding := false })).setb (F.AT_STAT_ALTACT n) false)
  else c

/-! ### The tracking loop (R169) -/

/-- A first measurement after the tracker was enabled, or after HOLDEXP, sets ANG directly and VALID (R172); the table on it starts. -/
def firstMeasurement (n : Nat) (ang : Word) (c : Chip) : Chip :=
  startKerf n (showHomed n ((setAngle n ang c).raise (F.AT_STAT_VALID n)))

/-- An error enters the loop of tracker n. -/
def loopError (n : Nat) (e : Int) (c : Chip) : Chip :=
  if 2 ^ 46 ≤ e ∨ e ≤ -(2 ^ 46) then
    (setAngle n (c.rd (F.AT_ANG n) + BitVec.ofInt 48 e) c).raise (F.AT_STAT_JUMP n)
  else
    let c := setSpeed n (c.geti (F.AT_SPD_SPD n) + e / 2 ^ c.get (F.AT_LOOP_SW n)) c
    c.modTracker n (fun t => { t with corr := t.corr + e / 2 ^ c.get (F.AT_LOOP_SA n), corrLeft := 64 })

/-- A measurement of the active source: the measured angle, and the angle held at its instant. -/
def loopMeasure (n : Nat) (m held : Word) (c : Chip) : Chip :=
  let c := c.modTracker n (fun t => { t with holding := false })
  updateFollow (if c.is (F.AT_STAT_VALID n) then loopError n (sdiff48 m held) c else firstMeasurement n m c)

/-- A source of tracker n has delivered a measurement: it is fresh, and feeds the loop if it is the active one (R171). -/
def deliver (n src : Nat) (m held : Word) (c : Chip) : Chip :=
  let prim := src == srcOf c n
  let c := c.modTracker n (fun t => if prim then { t with primFresh := true } else { t with altFresh := true })
  if src = activeSrc c n then loopMeasure n m held c else c

/-- A source of tracker n shows a fault: it counts if it is the active one. -/
def deliverFault (n src : Nat) (c : Chip) : Chip := if src = activeSrc c n then sourceFault n c else c

/-- The measured angle of a quadrature count (R165). -/
def encoderAngle (c : Chip) (n : Nat) (cnt : Int) : Word :=
  BitVec.ofInt 48 (cnt * (c.get (F.AT_CFG_RATIO n) : Nat) * 2 ^ 48 / (4 * encLines c n : Nat)) + c.rd (F.AT_OFFS n)

/-- The sector of a Hall code (R165); none for 0b000 and 0b111. -/
def hallSector (code : Nat) : Option Nat :=
  match code with
  | 1 => some 0 | 3 => some 1 | 2 => some 2 | 6 => some 3 | 4 => some 4 | 5 => some 5 | _ => none

/-- One sixth of a turn times k, rounded to nearest (R165). -/
def sixth (k : Nat) : Word := BitVec.ofInt 48 (roundDiv (k * 2 ^ 48 : Nat) 6)

/-- A Hall code arrives (R165). The first code after the tracker was enabled shows the sector and no edge. On a jump over a sector, a source fault, SECTOR takes
the new sector: the spec does not say which is present afterwards (DESIGN CHOICE, log entry 81). -/
def hallCode (n code : Nat) (c : Chip) : Chip :=
  match hallSector code with
  | none => deliverFault n 3 c
  | some s =>
    let old := c.get (F.AT_STAT_SECTOR n)
    let c := c.set (F.AT_STAT_SECTOR n) (s + 1)
    if old = 0 ∨ old = s + 1 then c
    else if old % 6 = s then deliver n 3 (sixth s + c.rd (F.AT_OFFS n)) (c.rd (F.AT_ANG n)) c
    else if (s + 1) % 6 = old - 1 then deliver n 3 (sixth (s + 1) + c.rd (F.AT_OFFS n)) (c.rd (F.AT_ANG n)) c
    else deliverFault n 3 c

/-- The code of result k of SETs, signed (R165, R208). -/
def resolverCode (c : Chip) (s k : Nat) : Int :=
  let v := (c.rd (F.ADC_SET_R_VALUE s k).addr).field 0 24
  signed 16 (if c.is (F.ADC_SET_CFG_ALIGN s) then v / 256 else v % 65536)

/-- The resolver's angle from its first and second results, sine and cosine (R165); the rounding to an angle unit is left open. -/
def resolverAngle (s co : Int) : Word := BitVec.ofInt 48 (atan2Near s co + ((Config.resolverRounding s co % 4 : Nat) : Int) - 1)

/-- A resolver measurement of tracker n (R165, R167): an amplitude below P2 % or above 150 % of full scale is a source fault. The first and second results are
R0 and R1 of the set, and full scale is 2^15 codes (log entry 77). -/
def resolverMeasure (n : Nat) (c : Chip) : Chip :=
  let set := c.get (F.AT_SRC_SET n)
  let s := resolverCode c set 0
  let co := resolverCode c set 1
  let sq : Int := (s * s + co * co) * 10000
  let p2 : Int := (c.get (F.AT_SRC_P2 n) : Nat)
  if sq < p2 * p2 * 2 ^ 30 ∨ 150 * 150 * 2 ^ 30 < sq then deliverFault n 1 c
  else deliver n 1 (BitVec.ofNat 48 ((resolverAngle s co).toNat * c.get (F.AT_CFG_RATIO n)) + c.rd (F.AT_OFFS n)) (c.tracker n).held c

/-- A measurement of a tracker (R165). -/
def trackerMeasure (n : Nat) (m : TrackerMeas) (c : Chip) : Chip :=
  if c.mode = .reset ∨ c.mode = .boot then c else
  match m with
  | .resolver => if usesSrc c n 1 then resolverMeasure n c else c
  | .encoder up =>
    if usesSrc c n 2 then
      let full : Int := (4 * encLines c n : Nat)
      let cnt := (((c.tracker n).cnt : Int) + (if up then 1 else -1)) % full
      let c := c.modTracker n (fun t => { t with cnt := cnt.toNat })
      deliver n 2 (encoderAngle c n cnt) (c.rd (F.AT_ANG n)) c
    else c
  | .encoderBoth => if usesSrc c n 2 then deliverFault n 2 c else c
  | .hall code => if usesSrc c n 3 then hallCode n code.toNat c else c

/-- An index edge of an encoder (R166). An encoder that is not the active source keeps its count and is otherwise ignored (R171). -/
def indexEdge (n : Nat) (c : Chip) : Chip :=
  if usesSrc c n 2 && c.is (F.AT_SRC_P3 n) && c.mode != .reset && c.mode != .boot then
    let full : Int := (4 * encLines c n : Nat)
    let cnt : Int := ((c.tracker n).cnt : Nat)
    let active := activeSrc c n = 2
    if !(c.tracker n).indexed then
      let c := c.modTracker n (fun t => { t with cnt := 0, indexed := true })
      if active then updateFollow (showHomed n (setAngle n (encoderAngle c n 0) c)) else c
    else if min cnt (full - cnt) ≤ (c.get (F.AT_SRC_P2 n) : Nat) then
      let e := sdiff48 (encoderAngle c n 0) (encoderAngle c n cnt)
      let c := c.modTracker n (fun t => { t with cnt := 0 })
      if active then updateFollow (loopError n e c) else c
    else if active then sourceFault n (trackerFault n (c.raise (F.AT_STAT_IDXERR n)))
    else c
  else c

/-- A source of tracker n has given no measurement for TMO (R165, R171). -/
def sourceTimeout (n : Nat) (alt : Bool) (c : Chip) : Chip :=
  let c := c.modTracker n (fun t => if alt then { t with altFresh := false } else { t with primFresh := false })
  if alt = c.is (F.AT_STAT_ALTACT n) then
    match activeSrc c n with
    | 1 | 4 | 5 => sourceFault n c
    | 2 | 3 => updateFollow ((c.seti (F.AT_SPD_SPD n) 0).modTracker n (fun t => { t with corr := 0, corrLeft := 0 }))
    | _ => c
  else c

/-- A write to ATn.MEAS, by the host or the engine (R165, R172, R176). For GRID, whose measurement is the error, the measured angle is SANG plus the error, so a first
measurement sets ANG to it: R172 names an angle m only (DEDUCED, log entry 82). -/
def measWritten (n : Nat) (c : Chip) : Chip :=
  let v := c.rd (F.AT_MEAS n)
  if srcOf c n = 7 then updateFollow (setSpeed n v.toInt c)
  else if srcOf c n = 5 then deliver n 5 (c.rd (F.AT_SANG n) + v) (c.rd (F.AT_SANG n)) c
  else if usesSrc c n 4 then deliver n 4 v (c.rd (F.AT_SANG n)) c
  else c

/-- Tracker n is enabled with the source that its configuration names, or turned off (R161, R164, R172, R177). -/
def enableTracker (n : Nat) (c : Chip) : Chip :=
  let wasValid := c.is (F.AT_STAT_VALID n)
  let c := c.modTracker n (fun _ => {})
  let c := [F.AT_STAT_VALID n, F.AT_STAT_ALTACT n, F.AT_STAT_DIR n, F.AT_STAT_HOMED n].foldl (fun c f => c.setb f false) c
  let c := c.set (F.AT_STAT_SECTOR n) 0
  let c := if wasValid then validLost n c else c
  let c :=
    if srcOf c n = 0 then (c.wr (F.AT_ANG n) 0).wr (F.AT_SPD n) 0
    else if srcOf c n = 7 then
      let c := ((c.wr (F.AT_ANG n) (c.rd (F.AT_OFFS n))).raise (F.AT_STAT_VALID n)).raise (F.AT_STAT_HOMED n)
      startKerf n (setSpeed n (c.rd (F.AT_MEAS n)).toInt c)
    else c
  updateFollow (c.forN 4 (fun w c => recomputeWindow n w c))

/-! ### Motion (R161, R162, R169) -/

/-- The increment of a tracker on HALL stops at the far boundary of the present sector (R165). -/
def hallBound (c : Chip) (n : Nat) (inc : Int) : Int :=
  let sec := c.get (F.AT_STAT_SECTOR n)
  if activeSrc c n = 3 ∧ sec ≠ 0 then
    let b := (if inc < 0 then sixth (sec - 1) else sixth sec) + c.rd (F.AT_OFFS n)
    let th := c.rd (F.AT_ANG n)
    let d : Int := ((if 0 < inc then b - th else th - b).toNat : Nat)
    if (crossed b th inc).isSome then (if inc < 0 then -d else d) else inc
  else inc

/-- One PCLK cycle of tracker n (R161, R169, R177), and of the Kerf table on it. -/
def tickTracker (n : Nat) (c : Chip) : Chip :=
  if srcOf c n = 0 then c
  else if srcOf c n = 6 then advanceKerf false n (followParent true n c)
  else
    let t := c.tracker n
    let th := c.rd (F.AT_ANG n)
    let share := if t.corrLeft = 0 then 0 else t.corr / (t.corrLeft : Nat)
    let inc := hallBound c n (c.geti (F.AT_SPD_SPD n) + share)
    let c := c.modTracker n (fun t => { t with corr := t.corr - share, corrLeft := t.corrLeft - 1, th := th, inc := inc })
    let c := travelWindows n th inc (c.wr (F.AT_ANG n) (th + BitVec.ofInt 48 inc))
    advanceKerf false n (if inc = 0 then c else c.setb (F.AT_STAT_DIR n) (decide (inc < 0)))

/-- One PCLK cycle of every tracker, parents before those that follow them. -/
def tickTrackers (c : Chip) : Chip := c.forN 6 tickTracker

/-! ### Kerf tables (R178 to R189) -/

/-- EN of table n has been written: a table that starts places its cursor at the lead angle; one that stops drops its pending set and
releases its groups (R184, R188). GA or GB written anew while the table is engaged leaves the former group in the angle-driven mode: the spec does not say what
such a write does (DESIGN CHOICE, log entry 78). -/
def kerfCtlWritten (n : Nat) (wasEn : Bool) (c : Chip) : Chip :=
  if c.is (F.KT_CTL_EN n) then (if wasEn then c else startKerf n c)
  else setEngaged n false c.time.fwt (discardPending n c)

/-- A commit of table n (R184): the staging words become the pending set. -/
def commitKerf (n : Nat) (c : Chip) : Chip :=
  let pset : KerfSet := ⟨c.rd (F.KT_NORG n), c.get (F.KT_NSEL_PAT n), c.is (F.KT_NSEL_ENG n)⟩
  (c.modKerf n (fun k => { k with pending := some pset, commitUp := c.up })).raise (F.KT_COMMIT_PENDING n)

/-- The trigger of a Kerf entry found with fine position f (R163, R178). -/
def kerfTrigger (kind arg f : Nat) (c : Chip) : Chip :=
  match kind with
  | 1 => triggerSet (arg % 16) c
  | 2 => startProgram (arg % 64) c
  | 3 => c.forN 6 (fun g c => if Nat.bitAt arg g then restartCarrier false (actInstant c f) g c else c)
  | _ => c

/-- Entry i of table n acts with fine position f (R163, R178, R179, R181): leg states while the table is engaged, and its trigger. -/
def kerfAct (n i : Nat) (reverse : Bool) (f : Nat) (c : Chip) : Chip :=
  let a := c.rd (F.KT_ORG n) + c.rd (F.KT_E_ANG n i)
  let w := c.get (F.KT_E_ACT_WIN n i)
  let gated := c.is (F.KT_E_ACT_WEN n i) && !inAngleWindow (c.rd (F.AT_WIN_LO n w)) (c.rd (F.AT_WIN_HI n w)) a reverse
  if gated then c else
  let c := { c with fine := f }
  let st := if reverse then c.get (F.KT_E_ACT_RST n i) else c.get (F.KT_E_ACT_FST n i)
  let g := if c.is (F.KT_E_ACT_GSEL n i) then c.get (F.KT_CTL_GB n) else c.get (F.KT_CTL_GA n)
  let c := if c.is (F.KT_STAT_ENGD n) && g < 6 then c.forN 3 (fun k c => kerfLeg (3 * g + k) (st / 4 ^ k % 4) c) else c
  let fires := if reverse then c.is (F.KT_E_ACT_TREV n i) else c.is (F.KT_E_ACT_TFWD n i)
  let c := if fires then kerfTrigger (c.get (F.KT_E_ACT_TKIND n i)) (c.get (F.KT_E_ACT_TARG n i)) f c else c
  c.occur 0x0F (some n) (BitVec.ofNat 48 i)

/-- A pending set of table n is taken at relative angle b of the turn `turn`, with fine position f (R185, R186). The position, measured from the new origin,
leaves the entries passed by the change crossed (step 4); the cursor stands at b, and b counts as passed (steps 2 and 6). -/
def takeKerf (n : Nat) (ks : KerfSet) (b : Word) (turn : Int) (f : Nat) (c : Chip) : Chip :=
  let lim : Int := (c.get (F.KT_CTL_ORGMAX n) * 2 ^ 40 : Nat)
  let d := sdiff48 ks.norg (c.rd (F.KT_ORG n))
  let d' := clampInt (-lim) lim d
  let c := if d' = d then c else c.raise (F.KT_STAT_ORGCLAMP n)
  let c := c.wr (F.KT_ORG n) (c.rd (F.KT_ORG n) + BitVec.ofInt 48 d')
  let c := c.set (F.KT_STAT_CURPAT n) ks.pat
  let angs := patAngles c n ks.pat
  let segs := patSegs c n ks.pat
  let passed := ((boundaryAngles segs).filter (fun a => if (c.kerf n).rev then decide (a.toNat < b.toNat) else decide (a.toNat ≤ b.toNat))).length
  let c := c.modKerf n (fun k =>
    { k with
      pos := k.pos - d', prev := k.prev - d',
      cursor := turn * (angs.length : Nat) + (cursorAt angs b k.rev : Nat), bnd := turn * (segs : Nat) + (passed : Nat) })
  let c := if angs.contains b then c else c.raise (F.KT_STAT_NOBND n)
  setEngaged n ks.eng (actInstant c f) ((discardPending n c).raise (F.KT_STAT_SWITCHED n))

/-- Whether the next entry of table n has been crossed and lies before the unwrapped angle a in the direction of travel. -/
def entryBefore (c : Chip) (n : Nat) (a : Int) : Bool :=
  entryCrossed c n && (match nextEntryAngle c n with
    | some e => if (c.kerf n).rev then decide (a < e) else decide (e < a)
    | none => false)

/-- Boundary j of the running pattern of table n, once the lead angle has crossed it and every entry before it has executed (R162, R182, R184, R185). A set whose
commit completed in or after the cycle in which the crossing was found, within 8 PCLK cycles of the instant at which it takes effect, is late. -/
def kerfBoundary (n j : Nat) (c : Chip) : Chip :=
  let segs := patSegs c n (c.get (F.KT_STAT_CURPAT n))
  let k := c.kerf n
  let item := nextItem k.rev k.bnd
  let a := nextBoundaryAngle c n
  if !kerfRuns c n || item % segs != j || !boundaryCrossed c n || entryBefore c n a then c else
  let f := crossFine c n a
  let c := c.set (F.KT_STAT_SEG n) j
  let c := c.modKerf n (fun q => { q with bnd := if q.rev then item else item + 1, bndUp := none })
  match k.pending with
  | none => c
  | some ks =>
    if k.bndUp.getD c.up ≤ k.commitUp then c.raise (F.KT_STAT_COMMIT_LATE n)
    else takeKerf n ks (boundaryAngle segs j) (item / segs) f c

/-- Whether entry `up` of a pattern does not lie above its predecessor (R180). -/
def disordered (c : Chip) (n p up : Nat) : Bool :=
  1 ≤ up && up < patCount c n p && decide ((patAngle c n p up).toNat ≤ (patAngle c n p (up - 1)).toNat)

/-- The next entry of table n in the direction of travel executes, once the lead angle has crossed it (R178, R180): one per PCLK cycle; late if it had been
crossed before this cycle. A boundary that lies before it is taken first. -/
def kerfEntry (n : Nat) (c : Chip) : Chip :=
  let c := kerfBoundary n (nextItem (c.kerf n).rev (c.kerf n).bnd % patSegs c n (c.get (F.KT_STAT_CURPAT n))).toNat c
  let p := c.get (F.KT_STAT_CURPAT n)
  let q := c.kerf n
  let item := nextItem q.rev q.cursor
  match nextEntryAngle c n with
  | none => c
  | some a =>
    if !kerfRuns c n || !entryCrossed c n || q.execUp == some c.up then c else
    let k := (item % patCount c n p).toNat
    let f := crossFine c n a
    let i := c.get (F.KT_PAT_FIRST n p) + k
    let c := c.modKerf n (fun q => { q with cursor := if q.rev then item else item + 1, execUp := some c.up })
    let dis := disordered c n p (if q.rev then k + 1 else k)
    let c := if dis then c.raise (F.KT_STAT_ORDER n) else c
    let c := if dis || beyond q.rev q.prev a then
        ((c.raise (F.KT_STAT_LATE n)).countSat (F.KT_STAT_LATECNT n) 1).occur 0x10 (some n) (BitVec.ofNat 48 i)
      else c
    kerfAct n i q.rev f c

end Sys2Proof.Machine
end

