-- ==== Sys2Proof/Machine/Clock.lean ====
section
/-! DEFINITION. Reference sources, the choice and the switching of REFCLK, the PLL locks and the trim of ROSC (04_clocks_and_reset). What a
reset or clock hold does to the rest of the device is in Modes. -/

namespace Sys2Proof.Machine

/-! ### Readiness (R111, R112) -/

/-- The divider code of a standard HCLK rate in kHz (R112, R132). -/
def stdRate (khz : Nat) : Option Nat :=
  if khz = 25000 then some 0 else if khz = 50000 then some 1 else if khz = 100000 then some 2 else if khz = 200000 then some 3 else none

/-- Whether a measured frequency lies within plus or minus `pct` percent of another. -/
def withinPct (pct khz nom : Nat) : Bool := decide (nom * (100 - pct) ≤ khz * 100) && decide (khz * 100 ≤ nom * (100 + pct))

/-- The frequency under which HCLK is judged (R112): the declared one, or with AUTO the nearest standard rate; none if the measured
frequency is not within 5 % of it. -/
def hclkTaken (c : Chip) (khz : Nat) : Option Nat :=
  let decl := c.get F.CLK_CFG_HKHZ
  if decl ≠ 0 then (if withinPct 5 khz decl then some decl else none)
  else [25000, 50000, 100000, 200000].find? (fun r => withinPct 5 khz r)

/-- The frequency taken shows in HSTD and HDIV (R112, R132). -/
def showRate (c : Chip) : Chip :=
  match stdRate c.clk.hkhzTaken with
  | some d => (c.raise F.CLK_STAT_HSTD).set F.CLK_STAT_HDIV d
  | none => c.setb F.CLK_STAT_HSTD false

/-- The frequency under which HCLK is judged is taken anew after a change of CLK.CFG[HKHZ] (R112): the declared one, or with AUTO the standard rate nearest to the
measured frequency. Whether HCLK is within it the next window tells. -/
def takeRate (c : Chip) : Chip :=
  let decl := c.get F.CLK_CFG_HKHZ
  let t := if decl ≠ 0 then decl else if c.clk.hMeas = 0 then 0 else (hclkTaken c c.clk.hMeas).getD 0
  showRate { c with clk := { c.clk with hkhzTaken := t } }

/-- Whether HCLK (true) or ROSC (false) can feed REFCLK (R112, R117). -/
def refUsable (c : Chip) (hclk : Bool) : Bool :=
  if hclk then c.is F.CLK_STAT_HRDY && c.is F.CLK_STAT_HSTD else c.is F.CLK_STAT_RRDY

/-! ### The trim source (R114) -/

/-- The trim source: 1 HCLK, 2 Purlin frames, 0 none. One second is 400,000,000 PCLK cycles. -/
def trimSource (c : Chip) : Nat :=
  if c.is F.CLK_STAT_HRDY then 1
  else if c.is F.CLK_CFG_BUSTRIM then
    match c.clk.pairAt.getD (c.get F.CLK_CFG_BUSPU) none with
    | some t => if c.up - t ≤ 400000000 then 2 else 0
    | none => 0
  else 0

/-- The trim source as chosen shows in TRIMSRC and HOLDOVER. -/
def chooseTrim (c : Chip) : Chip := let s := trimSource c; (c.set F.CLK_STAT_TRIMSRC s).setb F.CLK_STAT_HOLDOVER (s == 0)

/-- A trim measurement (R115): HCLK gates ROSC over 256 µs, and two frame pairs lie at least 10 ms of master time apart. ERR is clamped as the pseudocode of
R115 has it, at −32,768, where R133 speaks of ±32,767 (log entry 69). -/
def trimMeasurement (counted gate : Nat) (c : Chip) : Chip :=
  let c := chooseTrim c
  let src := c.get F.CLK_STAT_TRIMSRC
  let gateNs := if src = 1 then 256000 else gate
  if src = 0 ∨ gateNs < 256000 ∨ (src = 2 ∧ gateNs < 10000000) then c else
  let num : Int := ((1000 * counted : Nat) - (200 * gateNs : Nat) : Int) * 1000000
  let den := 200 * gateNs
  let mag : Int := if num < 0 then -num else num
  let lim : Int := if !c.is F.CLK_STAT_TRIMOK then 256 else if src = 1 then 16 else 4
  let code := clampInt 0 4095 ((c.get F.CLK_TRIM_CODE : Nat) - clampInt (-lim) lim (roundDiv num (den * 200)))
  let c := (c.set F.CLK_TRIM_CODE code.toNat).seti F.CLK_TRIM_ERR (clampInt (-32768) 32767 (roundDiv num den))
  let good := if mag ≤ 500 * (den : Nat) then c.clk.trimGood + 1 else 0
  let c := { c with clk := { c.clk with trimGood := good } }
  let c := if 8 ≤ good then c.raise F.CLK_STAT_TRIMOK else c
  let c := if 1000 * ((den : Nat) : Int) < mag then c.setb F.CLK_STAT_TRIMOK false else c
  chooseTrim c

/-! ### Choosing and switching the reference (R117 to R121) -/

/-- Both PLLs are locked. -/
def pllsLocked (c : Chip) : Bool := c.is F.CLK_STAT_PLLALK && c.is F.CLK_STAT_PLLBLK

/-- A switch of REFCLK to a source starts (R119): both PLLs hold until they have locked on it. -/
def startSwitch (hclk : Bool) (c : Chip) : Chip :=
  let c := { c with clk := { c.clk with switchTo := some hclk, switchForced := false } }
  ((c.raise F.CLK_STAT_SWBUSY).setb F.CLK_STAT_PLLALK false).setb F.CLK_STAT_PLLBLK false

/-- The source that R117 chooses: the preferred one if it can feed REFCLK, else the other, else none. -/
def chosenRef (c : Chip) : Option Bool :=
  let p := c.is F.CLK_CFG_REFSEL
  if refUsable c p then some p else if refUsable c !p then some !p else none

/-- The cause of a clock hold when the source feeding REFCLK is lost (R135). -/
def lossCause (c : Chip) : Nat := if c.is F.CLK_STAT_REFACT then 1 else 2

/-- Act on the choice of R117. Before REFCLK has a source a usable one is fed without a switch; a switch whose target becomes unready turns to the other source. With
no usable source the device enters clock hold (R122); in clock hold REFCLK waits for one (R124). -/
def chooseRef (c : Chip) : Chip :=
  match chosenRef c with
  | some r =>
    if !c.clk.refFed then ({ c with clk := { c.clk with refFed := true } }).setb F.CLK_STAT_REFACT r
    else match c.clk.switchTo with
      | some t => if refUsable c t then c else startSwitch r c
      | none => if c.is F.CLK_STAT_REFACT = r then c else startSwitch r c
  | none =>
    if !c.clk.refFed then c
    else if c.clk.hold then { c with clk := { c.clk with refFed := false, switchTo := none, switchForced := false } }
    else c.notice (.clockHold (lossCause c))

/-- A switch of REFCLK counts (R121). -/
def countSwitch (c : Chip) : Chip := (c.countSat F.CLK_SWSTAT_SWCNT 1).evClk

/-- A switch ends when both PLLs have locked on the new source; the preferred source may then be switched back to (R117, R119). -/
def endSwitch (c : Chip) : Chip :=
  match c.clk.switchTo with
  | some r =>
    if pllsLocked c then
      let forced := c.clk.switchForced
      let c := { c with clk := { c.clk with switchTo := none, switchForced := false } }
      let c := (c.setb F.CLK_STAT_SWBUSY false).setb F.CLK_STAT_REFACT r
      let c := if forced then c else countSwitch (c.raise F.CLK_SWSTAT_SWITCHED)
      chooseRef c
    else c
  | none => c

/-- A source has become ready (R111, R112): its measured frequency is `khz`. -/
def sourceReady (hclk : Bool) (khz : Nat) (c : Chip) : Chip :=
  if hclk then
    match hclkTaken c khz with
    | some t => chooseRef (chooseTrim (showRate (({ c with clk := { c.clk with hkhzTaken := t, hMeas := khz } }).raise F.CLK_STAT_HRDY)))
    | none => c
  else if c.clk.roscRunning && withinPct 14 khz 200000 then chooseRef (c.raise F.CLK_STAT_RRDY)
  else c

/-- A source has become unready (R111, R114, R117, R122). -/
def sourceLost (hclk : Bool) (c : Chip) : Chip :=
  let was := if hclk then c.is F.CLK_STAT_HRDY else c.is F.CLK_STAT_RRDY
  if was then
    let c := if hclk then (c.setb F.CLK_STAT_HRDY false).raise F.CLK_SWSTAT_HLOSS else (c.setb F.CLK_STAT_RRDY false).raise F.CLK_SWSTAT_RLOSS
    chooseRef (chooseTrim c)
  else c

/-- The multiplexer forces a switch whose old source shows no low phase (R120, R122). -/
def forcedSwitch (c : Chip) : Chip :=
  if c.clk.switchTo.isSome && !c.clk.switchForced then
    if refUsable c true || refUsable c false then
      let c := { c with clk := { c.clk with switchForced := true, gated := true, gateHeld := List.replicate 7 true } }
      countSwitch (c.raise F.CLK_SWSTAT_CLKSW_FORCED)
    else c.notice (.clockHold 3)
  else c

/-- The four gated REFCLK cycles end (R120). -/
def clockGatingEnd (c : Chip) : Chip := { c with clk := { c.clk with gated := false } }

/-- A PLL has locked (R113). -/
def pllLock (pllb : Bool) (c : Chip) : Chip :=
  if c.clk.refFed then endSwitch (c.raise (if pllb then F.CLK_STAT_PLLBLK else F.CLK_STAT_PLLALK)) else c

/-- The cause of a clock hold on a PLL (R135). -/
def pllCause (pllb : Bool) : Nat := if pllb then 5 else 4

/-- A PLL loses lock (R113, R122). -/
def pllLockLoss (pllb : Bool) (c : Chip) : Chip :=
  let f := if pllb then F.CLK_STAT_PLLBLK else F.CLK_STAT_PLLALK
  if c.is f then
    let c := c.setb f false
    if c.clk.hold ∨ c.clk.switchTo.isSome then c else c.notice (.clockHold (pllCause pllb))
  else c

/-- 50 µs after a switch a PLL has not locked (R121). -/
def pllLockTimeout (c : Chip) : Chip :=
  if c.clk.switchTo.isSome && !pllsLocked c then c.notice (.clockHold (pllCause (c.is F.CLK_STAT_PLLALK))) else c

/-- CLK.CFG has been written by the host or restored (R112, R117). -/
def clkCfgTaken (c : Chip) : Chip := chooseRef (chooseTrim (takeRate c))

/-- Whether a host write of CLK.CFG is refused with NOT_READY (R118): `refsel` is the REFSEL it names. -/
def clkCfgRefused (c : Chip) (refsel : Bool) : Bool := c.is F.CLK_STAT_SWBUSY || !refUsable c refsel

/-- ROSC starts oscillating (R716). -/
def roscStart (c : Chip) : Chip := if c.clk.vcoreLow then c else { c with clk := { c.clk with roscRunning := true } }

end Sys2Proof.Machine
end

