-- ==== Sys2Proof/Machine/Live.lean ====
section
/-! DEFINITION. What a read of a parameter word returns (R15, R16): the stored word, with the fields that show the present state of a unit
(levels, mirrors, lists, memories) formed from that state. -/

namespace Sys2Proof.Machine

/-- DEV.HRQ[ACTIVE] (R97). -/
def hrqActive (c : Chip) : Nat :=
  (List.range 4).foldl (fun n k => if c.rd (0x10 + k) &&& c.rd (0x14 + k) ≠ 0 then n + 2 ^ k else n) 0

/-- Words of the DEV, CLK and NWT regions (R87, R88, R97, R133, R138, R151). -/
def liveBase (c : Chip) (a : Nat) (w : Word) : Word :=
  if a = 0 then (w.setField 28 4 c.fuses.variant).setField 16 8 c.fuses.romver
  else if a = 1 then c.fuses.serial0
  else if a = 2 then c.fuses.serial1
  else if a = 0x18 then w.setField 0 4 (hrqActive c)
  else if a = 0x10002 then w.setField 12 12 c.fuses.trimCode
  else if a = 0x20000 then c.now
  else if a = 0x20003 then w.setField 24 24 (unsigned 24 (clampInt (-8388607) 8388607 (sdiff48 c.fnow c.now)))
  else w

/-- Words of the ADC region (R210, R231, R232). -/
def liveAdc (c : Chip) (a : Nat) (w : Word) : Word :=
  let o := a - 0x40000
  if o = 0x840 then BitVec.ofNat 48 ((List.range 24).foldl (fun n k => if compCond c k then n + 2 ^ k else n) 0)
  else if 0x800 ≤ o then (if o % 2 = 1 then w.withBit 7 (compCond c ((o - 0x800) / 2)) else w)
  else if 0x100 ≤ o ∧ o % 0x40 = 1 then w.withBit 1 (setRun c ((o - 0x100) / 0x40)).isSome
  else w

/-- Words of the PWM region (R265, R266, R269). -/
def livePwm (c : Chip) (a : Nat) (w : Word) : Word :=
  let o := a - 0x50000
  if o < 0xE0 then
    let g := o / 0x20
    if o % 0x20 = 1 then
      (((w.withBit 14 (outen c g)).withBit 13 (c.is (F.GDS_G_STAT_FAULT g))).withBit 12 (c.pwmg g).pend.isSome).withBit 11 (c.pwmg g).half
    else if o % 0x20 = 4 then w.withBit 0 (c.pwmg g).pend.isSome
    else w
  else if 0x200 ≤ o ∧ o < 0x2A0 ∧ o % 8 = 6 then
    let n := (o - 0x200) / 8
    (w.withBit 5 (outOn c n true)).withBit 4 (outOn c n false)
  else w

/-- Words of the GDS region (R302, R304). -/
def liveGds (c : Chip) (a : Nat) (w : Word) : Word :=
  let o := a - 0x60000
  if o < 0x70 then (if o % 0x10 = 3 then w.withBit 11 (adaptActive c (o / 0x10)) else w)
  else if 0x100 ≤ o ∧ o % 0x10 = 1 then
    let n := (o - 0x100) / 0x10
    (w.setField 36 4 (min 15 (escCount c n true))).setField 32 4 (min 15 (escCount c n false))
  else w

/-- Words of the block instances (R358, R367, R371): FBACT shows the fall-back of a RAMP's axis; P2[15:0] of an FBSP is reserved. -/
def liveBlock (c : Chip) (a : Nat) (w : Word) : Word :=
  let b := (a - 0x72000) / 8
  let type := c.get (F.ZEN_BK_CFG_TYPE b)
  if a % 8 = 1 then w.withBit 3 (type == 0x25 && (c.rd (F.ZEN_BK_P2 b)).field 2 1 == 1 && c.zen.fallback.getLsbD ((c.rd (F.ZEN_BK_P2 b)).field 0 2))
  else if a % 8 = 7 ∧ type = 0x02 then w.setField 0 16 0
  else w

/-- Words of the OBS region (R689). -/
def liveObs (c : Chip) (a : Nat) (w : Word) : Word :=
  let o := a - 0x130000
  if o = 1 then BitVec.ofNat 48 (c.obs.drops * 2 ^ 16 + c.obs.fifo.length)
  else if 0x100 ≤ o ∧ o < 0x140 then c.obs.cnt.getD (o - 0x100) 0
  else if 0x140 ≤ o ∧ o < 0x180 then w.withBit 12 (c.obs.wrapped.getLsbD (o - 0x140))
  else if 0x180 ≤ o ∧ o < 0x1C0 then c.obs.snp.getD (o - 0x180) 0
  else w

/-- A parameter word as it reads. -/
def Chip.live (c : Chip) (a : Nat) : Word :=
  let w := c.rd a
  match a / 0x10000 with
  | 0 | 1 | 2 => liveBase c a w
  | 4 => liveAdc c a w
  | 5 => livePwm c a w
  | 6 => liveGds c a w
  | 7 => if 0x78000 ≤ a then laneLoad c ((a - 0x78000) / 0x1000) (a % 0x1000) else if 0x72000 ≤ a ∧ a < 0x74000 then liveBlock c a w else w
  | 8 => c.zmemRd (a - 0x80000)
  | 0x13 => liveObs c a w
  | _ => if 0x200000 ≤ a then c.storeRd (a - 0x200000) else w

end Sys2Proof.Machine
end

