-- ==== Sys2Proof/Machine/Blocks.lean ====
section
/-! DEFINITION. Block instances (11_engine_blocks): what a block reads, what it leaves in lane memory and in its status word, what the output
types write, and the run of a program. -/

namespace Sys2Proof.Machine

/-! ### Writes that a host and a program share -/

/-- A ZMEM word is written, by a lane (with the ZEXP of the writing block) or by the host (R308, R683). -/
def writeZmem (a : Nat) (w : Word) (exp : Nat) (c : Chip) : Chip :=
  (c.zmemWr a w).probe (fun k => c.get (F.OBS_PRB_SRC k) == 2 && c.get (F.OBS_PRB_ADDR k) == a) w exp

/-! ### Inputs (R349 to R352) -/

/-- The selector of input k of block b (R349). -/
def selector (c : Chip) (b k : Nat) : Nat :=
  match k with
  | 0 => c.get (F.ZEN_BK_SRC0_A b) | 1 => c.get (F.ZEN_BK_SRC0_B b) | 2 => c.get (F.ZEN_BK_SRC1_A b)
  | 3 => c.get (F.ZEN_BK_SRC1_B b) | 4 => c.get (F.ZEN_BK_SRC2_A b) | _ => c.get (F.ZEN_BK_SRC2_B b)

/-- What a run knows of itself: logical lane, the program's stages, the stage and block that execute. -/
structure RunCtx where
  lane : Nat
  prog : Nat
  cfg : Word
  stage : Nat

/-- The exponent of the stage of the run's program that holds block b; that of the reading stage if none does. -/
def producerExp (c : Chip) (r : RunCtx) (b : Nat) : Int :=
  match (stagesOf r.cfg).find? (fun s => c.get (F.ZEN_ST_BLK_FIRST s) ≤ b && b < c.get (F.ZEN_ST_BLK_FIRST s) + c.get (F.ZEN_ST_BLK_COUNT s)) with
  | some s => stageExp c s
  | none => stageExp c r.stage

/-- Item `i` of a tracker (R349). -/
def trackerItem (c : Chip) (n i : Nat) : Word :=
  match i with
  | 0 => c.rd (F.AT_SANG n) | 1 => c.rd (F.AT_SSPD n) | 2 => c.rd (F.AT_ANG n) | 3 => c.rd (F.AT_SPD n) | 4 => c.rd (F.AT_STAT n) | _ => 0

/-- The base of a PARAM region (R349). -/
def paramBase (r : Nat) : Nat :=
  match r with
  | 0 => 0x50000 | 1 => 0x90000 | 2 => 0xA0000 | 3 => 0xB0000 | _ => 0xE0000

/-- Word `off` of the input that a selector names, as a mantissa of the reading stage, with the wrap of its alignment (R315, R349 to R351). -/
def readSelector (c : Chip) (r : RunCtx) (zexp : Int) (sel off : Nat) : Int × Bool :=
  let e := stageExp c r.stage
  match sel / 2 ^ 21 with
  | 1 =>
    let b := sel / 2 ^ 10 % 1024
    let w := laneLoad c r.lane ((c.get (F.ZEN_BK_CFG_BASE b) + sel % 16 + off) % 4096)
    alignTo w.toInt (producerExp c r b - e)
  | 2 => ((laneLoad c r.lane (0xF00 + sel % 256)).toInt, false)
  | 3 => alignTo (c.zmemRd ((sel % 65536 + off) % 65536)).toInt (zexp - e)
  | 4 => ((trackerItem c (sel / 16 % 8) (sel % 8)).toInt, false)
  | 5 => ((c.live (paramBase (sel / 65536 % 8) + sel % 65536)).toInt, false)
  | _ => (0, false)

/-- The code that a pulse meter holds under a block's PMODE, when its source is valid but for LO and HI (R372). -/
def pulseCode (c : Chip) (u : Nat) (p0 : Word) : Option Nat :=
  let m := c.zen.meters.getD u {}
  let tmo := max 1 (p0.field 0 8)
  let near (n d : Nat) : Nat := (2 * n + d) / (2 * d)
  if m.edges < 2 ∨ m.period < 20000 ∨ 100000000 < m.period ∨ tmo * 1000000 < (c.now - m.edgeAt).toNat then none
  else
    let x := match p0.field 8 4 with
      | 1 => near 1000000000 m.period
      | 2 => near m.high 1000
      | _ => near (65536 * m.high) m.period
    some (min x 65535)

/-- The pulse input that FBSP's SRCSEL names (R371). -/
def pulseInput (sel : Nat) : Option Nat := if sel = 2 ∨ sel = 4 then some 0 else if sel = 3 ∨ sel = 5 then some 1 else none

/-- The fall-back is in force for axis n (R367). -/
def fallbackFor (c : Chip) (n : Nat) : Bool := c.zen.fallback.getLsbD n

/-- The number of inputs of each type (R360 to R385). -/
def inputCount (type : Nat) : Nat :=
  match type with
  | 0x01 => 4 | 0x02 => 1 | 0x10 => 6 | 0x11 => 3 | 0x12 => 6 | 0x13 => 2 | 0x14 => 4 | 0x15 => 3 | 0x16 => 2 | 0x17 => 3
  | 0x20 => 3 | 0x21 => 3 | 0x22 => 5 | 0x23 => 3 | 0x24 => 1 | 0x25 => 4 | 0x30 => 3 | 0x31 => 4 | 0x32 => 4 | 0x33 => 1 | 0x34 => 3
  | 0x40 => 6 | 0x41 => 6 | 0x42 => 4 | 0x43 => 3 | 0x44 => 1 | 0x50 => 6 | 0x51 => 5 | 0x52 => 1 | 0x53 => 3 | 0x54 => 2 | 0x55 => 5 | 0x56 => 1
  | _ => 0

/-- Whether a selector names a source (R349). -/
def connected (c : Chip) (b k : Nat) : Bool := selector c b k / 2 ^ 21 != 0

/-- Whether block b reads its input k: the inputs of its type, without IN2 of CLARKE with TWO and IN2 of PARK and IPARK with IN3 (R375). -/
def readsInput (c : Chip) (b k : Nat) : Bool :=
  let type := c.get (F.ZEN_BK_CFG_TYPE b)
  connected c b k && decide (k < inputCount type) &&
    !(k == 2 && ((type == 0x30 && Nat.bitAt (c.get (F.ZEN_BK_CFG_OPT b)) 0) || ((type == 0x31 || type == 0x32) && connected c b 3)))

/-- Whether input k of a type is a vector: it reads two words (R351). -/
def isVector (type k : Nat) : Bool := (k == 3 && (type == 0x31 || type == 0x32)) || (k == 5 && type == 0x41)

/-- The blocks of enabled programs. -/
def enabledBlocks (c : Chip) : List Nat :=
  ((List.range 64).filter (fun p => c.is (F.ZEN_PG_CFG_EN p))).flatMap (fun p => (stagesOf (c.rd (F.ZEN_PG_CFG p))).flatMap (blocksOf c))

/-- Whether axis n has a fall-back set-point source configured (R370): a RAMP block of the axis takes ALT from an FBSP block with a source. -/
def hasFallbackSource (c : Chip) (n : Nat) : Bool :=
  (enabledBlocks c).any (fun b =>
    let p2 := c.rd (F.ZEN_BK_P2 b)
    let s := selector c b 2
    let fb := s / 2 ^ 10 % 1024
    let sel := (c.rd (F.ZEN_BK_P0 fb)).field 12 4
    c.get (F.ZEN_BK_CFG_TYPE b) == 0x25 && p2.field 2 1 == 1 && p2.field 0 2 == n && s / 2 ^ 21 == 1 &&
      c.get (F.ZEN_BK_CFG_TYPE fb) == 0x02 && decide (1 ≤ sel) && decide (sel ≤ 5))

/-- ALT_SOURCE acts for axis n (R74, R370): without a source configured it acts as ZERO_RAMP. -/
def altSourceFor (c : Chip) (n : Nat) : Bool := c.get F.DEV_HWD_FALLBACK == 4 && hasFallbackSource c n

/-- What block b reads at the start of an execution (R354, R356); the truth value says that an alignment wrapped. The preset angle of ANGINT is not
aligned (R364). -/
def blockInputs (c : Chip) (r : RunCtx) (b : Nat) : BIn × Bool :=
  let zexp := c.geti (F.ZEN_BK_CFG_ZEXP b)
  let sels := (List.range 6).map (selector c b)
  let type := c.get (F.ZEN_BK_CFG_TYPE b)
  let rd (off k : Nat) : Int × Bool :=
    if readsInput c b k then readSelector c r (if type = 0x21 ∧ k = 1 then stageExp c r.stage else zexp) (sels.getD k 0) off else (0, false)
  let xs := (List.range 6).map (rd 0)
  let ys := (List.range 6).map (fun k => if isVector type k then rd 1 k else (0, false))
  let base := c.get (F.ZEN_BK_CFG_BASE b)
  let p2 := c.rd (F.ZEN_BK_P2 b)
  let axv := Nat.bitAt p2.toNat 2
  let ax := p2.field 0 2
  let i : BIn := {
    e := stageExp c r.stage, opt := c.get (F.ZEN_BK_CFG_OPT b), p0 := c.rd (F.ZEN_BK_P0 b), p1 := c.rd (F.ZEN_BK_P1 b), p2 := p2,
    conn := connected c b, x := fun k => (xs.getD k (0, false)).1, y := fun k => (ys.getD k (0, false)).1,
    old := fun k => (laneLoad c r.lane ((base + k) % 4096)).toInt,
    left := fun k => c.is (F.ADC_SET_CFG_ALIGN (sels.getD k 0 % 256 / 16)),
    sub := if type = 0x25 ∧ !axv then 3 else (c.sub ax).code,
    fresh := if type = 0x25 then c.zen.rampPend.getLsbD b else !c.zen.executed.getLsbD b,
    fallback := axv && fallbackFor c ax, altSource := altSourceFor c ax,
    pulse := match pulseInput ((c.rd (F.ZEN_BK_P0 b)).field 12 4) with | some u => pulseCode c u (c.rd (F.ZEN_BK_P0 b)) | none => none,
    free := fun k => Config.freeWord (c.freeCtr + k) }
  (i, xs.any (·.2) || ys.any (·.2))

/-! ### Wraps (R313) -/

/-- A wrap in block b of program p. -/
def blockWrap (b : Nat) (r : RunCtx) (c : Chip) : Chip :=
  let c := (c.raise (F.ZEN_BK_STAT_WRAP b)).countSat F.ZEN_WRAPST_WRAPCNT 1
  let c := c.set F.ZEN_WRAPST_LASTBLK b
  let c := if c.is F.ZEN_WRAPST_FVALID then c else (c.set F.ZEN_WRAPST_FIRSTBLK b).raise F.ZEN_WRAPST_FVALID
  let c := c.evWrap.occur 0x11 none (BitVec.ofNat 48 b)
  if r.cfg.field 31 1 = 1 then c.notice (.axis (r.cfg.field 28 2) .wrap) else c.notice (.device .wrapDev)

/-! ### Output types (R383 to R385) -/

/-- The period of group g in force for STAGE and TBW: one that a TBW block of this run wrote, else LPER (R384). -/
def runPeriod (c : Chip) (tbw : List (Nat × Nat)) (g : Nat) : Nat :=
  match tbw.find? (·.1 == g) with
  | some p => p.2
  | none => c.get (F.PWM_G_LPER_LPER g)

/-- round(value × P) for a mantissa of exponent e (R384). -/
def ratioSteps (m e : Int) (p : Nat) : Int := shiftBy (m * (p : Int)) e

/-- A converter axis in RAMPDN that has not switched since its START keeps its legs OFF, whatever OWN shows (R439, R453; log entry 87). -/
def neverSwitched (c : Chip) (a : Nat) : Bool := isConverter c a && c.get (F.CNV_STAT_CSTEP a) == 4 && !c.conv.bridging.getLsbD a

/-- The axis whose sequencer owns the outputs of group g (R387), if any. -/
def ownerOf (c : Chip) (g : Nat) : Option Nat :=
  match groupAxis c g with
  | some a => if c.is (F.MOT_STAT_OWN a) || neverSwitched c a then some a else none
  | none => none

/-- The axis whose sequencer owns tracker n (R387), if any. -/
def trackerOwner (c : Chip) (n : Nat) : Option Nat :=
  (List.range 4).find? (fun a => axisFunc c a != 0 && c.get (F.MOT_CFG_AT a) == n && c.is (F.MOT_STAT_OWN a))

/-- An output of a program is suppressed for axis a (R387). -/
def suppress (a : Nat) (c : Chip) : Chip := c.raise (F.MOT_STAT_SUPPR a)

/-- STAGE (R384), suppressed under R387. -/
def doStage (i : BIn) (tbw : List (Nat × Nat)) (c : Chip) : Chip × Bool :=
  let g := i.p0.field 0 3
  if g = 7 then (c, false) else
  match ownerOf c g with
  | some a => (suppress a c, false)
  | none =>
  let p := runPeriod c tbw g
  (List.range (if g = 6 then 2 else 3)).foldl (fun (cl : Chip × Bool) k =>
    if i.p0.field (3 + k) 1 = 1 then
      let n := (legsOf g).getD k 0
      let d := ratioSteps (i.x k) i.e p
      let d' := clampInt 0 p d
      let c := writeDuty n (i.p0.field (9 + 3 * k) 3) d'.toNat cl.1
      let sh := ratioSteps (i.x (k + 3)) i.e p
      let sh' := clampInt (-(p : Int)) p sh
      let shen := i.p0.field 6 1 == 1
      (if shen then stageShift n (c.seti (F.PWM_L_SHIFT_SHIFT n) sh') else c, cl.2 || d' != d || (shen && sh' != sh))
    else cl) (c, false)

/-- TBW (R384, R357): what it leaves, the list with the period it wrote, and whether a clamp acted. -/
def doTbw (i : BIn) (tbw : List (Nat × Nat)) (c : Chip) : Chip × List (Nat × Nat) × Bool :=
  let g := i.p0.field 0 3
  if g = 7 then (c, tbw, false) else
  match ownerOf c g with
  | some a => (suppress a c, tbw, false)
  | none =>
  let hold (x : Int) : Nat × Bool := let y := clampInt 0 (2 ^ 30 - 1) x; (y.toNat, y != x)
  let wper := i.p0.field 3 1 == 1
  let per := hold (shiftBy (i.x 0) i.e)
  let c := if wper then stagePer g (c.set (F.PWM_G_PER_PER g) per.1) else c
  let p := if wper then per.1 else c.get (F.PWM_G_LPER_LPER g)
  let r := (List.range (if g = 6 then 0 else 4)).foldl (fun (cl : Chip × Bool) n =>
    if i.p0.field (4 + n) 1 = 1 then
      let pos := hold (ratioSteps (i.x (n + 1)) i.e p)
      (stageXc g n ((cl.1.set (F.PWM_G_XC_POS g n) pos.1).set (F.PWM_G_XC_EN g n) (i.p0.field (8 + n) 1)), cl.2 || pos.2)
    else cl) (c, wper && per.2)
  (r.1, if wper then (g, per.1) :: tbw else tbw, r.2)

/-- A condition input: true when not connected (R353). -/
def BIn.cond (i : BIn) (k : Nat) : Bool := !i.conn k || i.x k != 0

/-- A commit of group g by a program: it completes in the first PCLK cycle that begins at least 5 ns after the end of its lane cycle, two cycles on (R330). -/
def engineCommit (g : Nat) (c : Chip) : Chip :=
  if anyStaged (c.pwmg g).marks then (commitGroup g c).modPwmg g (fun q => { q with commitUp := c.up + 2 }) else c

/-- COMMIT (R385): groups and Kerf tables of its masks. -/
def doCommit (i : BIn) (c : Chip) : Chip :=
  if i.cond 0 then
    let c := c.forN 7 (fun g c =>
      if i.p0.field g 1 = 1 then (match ownerOf c g with | some a => suppress a c | none => engineCommit g c) else c)
    c.forN 6 (fun n c => if i.p0.field (8 + n) 1 = 1 then commitKerf n c else c)
  else c

/-- KSTAGE (R385). -/
def doKstage (i : BIn) (c : Chip) : Chip :=
  let n := i.p0.field 0 3
  if i.cond 2 && n < 6 then
    let c := if i.p0.field 3 1 = 1 then c.wr (F.KT_NORG n) (BitVec.ofInt 48 (i.x 0)) else c
    let v := unsigned 48 (i.x 1)
    if i.p0.field 4 1 = 1 then (c.set (F.KT_NSEL_ENG n) (v / 128)).set (F.KT_NSEL_PAT n) v else c
  else c

/-- MEASW (R385). -/
def doMeasw (i : BIn) (c : Chip) : Chip :=
  let n := i.p0.field 0 3
  if i.cond 1 && n < 6 then
    match trackerOwner c n with
    | some a => suppress a c
    | none => measWritten n (c.wr (F.AT_MEAS n) (BitVec.ofInt 48 (i.x 0)))
  else c

/-- ZWR (R385): the truth value says that an alignment wrapped (R327). -/
def doZwr (i : BIn) (zexp : Int) (c : Chip) : Chip × Bool :=
  if i.cond 4 then
    let r := (List.range 4).foldl (fun (a : Chip × Nat × Bool) k =>
      if i.conn k then
        let m := alignTo (i.x k) (i.e - zexp)
        (writeZmem (a.2.1 % 65536) (BitVec.ofInt 48 m.1) (unsigned 8 zexp) a.1, a.2.1 + 1, a.2.2 || m.2)
      else a) (c, i.p0.field 0 16, false)
    (r.1, r.2.2)
  else (c, false)

/-- TRIG (R385). -/
def doTrig (i : BIn) (c : Chip) : Chip :=
  if i.cond 0 then (if i.p0.field 0 1 = 1 then startProgram (i.p0.field 4 6) c else triggerSet (i.p0.field 4 4) c) else c

/-! ### One execution -/

/-- The status word of a block after an execution (R358). -/
def blockStatus (b : Nat) (lim inv restart : Bool) (c : Chip) : Chip :=
  let c := ((c.countMod (F.ZEN_BK_STAT_EXEC b) 1).setb (F.ZEN_BK_STAT_LIMACT b) lim).setb (F.ZEN_BK_STAT_INVACT b) inv
  let c := if lim then c.raise (F.ZEN_BK_STAT_LIM b) else c
  let c := if inv then c.raise (F.ZEN_BK_STAT_INV b) else c
  if restart then c.raise (F.ZEN_BK_STAT_RESTART b) else c

/-- The words of a block are written to lane memory; outputs are traced (R683). -/
def storeWords (r : RunCtx) (b base outs : Nat) (words : List Int) (c : Chip) : Chip :=
  let e := unsigned 8 (stageExp c r.stage)
  (words.zipIdx).foldl (fun c wk =>
    let w := BitVec.ofInt 48 wk.1
    let c := laneStore r.lane ((base + wk.2) % 4096) w c
    if wk.2 < outs then
      c.probe (fun j => c.get (F.OBS_PRB_SRC j) == 1 && c.get (F.OBS_PRB_BLK j) == b && c.get (F.OBS_PRB_OUT j) == wk.2) w e
    else c) c

/-- Set bit b of a set of blocks. -/
def markBlock (s : BitVec 1024) (b : Nat) (v : Bool) : BitVec 1024 := if v then s ||| (1#1024 <<< b) else s &&& ~~~(1#1024 <<< b)

/-- Block b executes (R356 to R358). -/
def execBlock (r : RunCtx) (b : Nat) (ct : Chip × List (Nat × Nat)) : Chip × List (Nat × Nat) :=
  let (c, tbw) := ct
  let type := c.get (F.ZEN_BK_CFG_TYPE b)
  if type = 0 then ct else
  let (i, wrapIn) := blockInputs c r b
  if 0x50 ≤ type then
    let (c, tbw, lim, wrap) : Chip × List (Nat × Nat) × Bool × Bool :=
      match type with
      | 0x50 => let x := doStage i tbw c; (x.1, tbw, x.2, false)
      | 0x51 => let x := doTbw i tbw c; (x.1, x.2.1, x.2.2, false)
      | 0x52 => (doCommit i c, tbw, false, false)
      | 0x53 => (doKstage i c, tbw, false, false)
      | 0x54 => (doMeasw i c, tbw, false, false)
      | 0x55 => let x := doZwr i (c.geti (F.ZEN_BK_CFG_ZEXP b)) c; (x.1, tbw, false, x.2)
      | 0x56 => (doTrig i c, tbw, false, false)
      | _ => (c, tbw, false, false)
    let c := blockStatus b lim false false c
    (if wrap || wrapIn then blockWrap b r c else c, tbw)
  else
    let o := computeBlock type i
    let c := storeWords r b (c.get (F.ZEN_BK_CFG_BASE b)) (outputCount type) o.words c
    let c := blockStatus b o.lim o.inv o.restart c
    let tracks := type == 0x25 && i.sub ≤ 2
    let c := { c with
      freeCtr := if o.drew then c.freeCtr + 3 else c.freeCtr,
      zen := { c.zen with executed := markBlock c.zen.executed b true,
                          rampPend := if type = 0x25 && !tracks then markBlock c.zen.rampPend b false else c.zen.rampPend } }
    (if (o.wrap || wrapIn) && type != 0x21 then blockWrap b r c else c, tbw)

/-! ### Runs (R317, R320, R323, R343) -/

/-- The addresses of the stage state (R317): the signal words of every block of stage s. -/
def stageState (c : Chip) (s : Nat) : List Nat :=
  (blocksOf c s).flatMap (fun b => (List.range (signalCount (c.get (F.ZEN_BK_CFG_TYPE b)))).map (fun k => c.get (F.ZEN_BK_CFG_BASE b) + k))

/-- The rescale of an adaptive stage before its first block runs (R317). -/
def rescaleStage (lane s : Nat) (c : Chip) : Chip :=
  if !c.is (F.ZEN_ST_CFG_ADAPT s) then c else
  let ws := stageState c s
  let h := ws.foldl (fun h a => min h (headroom (laneLoad c lane a).toInt)) 47
  let st : Int := (c.get (F.ZEN_ST_CFG_ESTEP s) : Nat)
  let d := clampInt (-st) st ((h : Int) - (c.get (F.ZEN_ST_CFG_HT s) : Nat))
  let e := stageExp c s
  let e' := clampInt (c.geti (F.ZEN_ST_CFG_EMIN s)) (c.geti (F.ZEN_ST_CFG_EMAX s)) (e - d)
  let c := c.forEach ws (fun a c => laneStore lane a (BitVec.ofInt 48 (shiftBy (laneLoad c lane a).toInt (e - e'))) c)
  let c := (c.seti (F.ZEN_ST_EXP_E s) e').set (F.ZEN_ST_EXP_HRMIN s) h
  if e' = e then c else c.countSat (F.ZEN_ST_EXP_ECHG s) 1

/-- What a run carries out, in order: each stage starts, then its blocks execute (R314, R320). -/
def runItems (c : Chip) (cfg : Word) : List (Nat × Option Nat) :=
  (stagesOf cfg).flatMap (fun s => (s, none) :: (blocksOf c s).map (fun b => (s, some b)))

/-- The next thing that a run carries out. -/
def runNext (c : Chip) (r : ZRun) : Option (Nat × Option Nat) := (runItems c r.cfg)[r.pos]?

/-- How many of the first n inputs of block b have a property. -/
def countInputs (n : Nat) (f : Nat → Bool) : Nat := ((List.range n).filter f).length

/-- The base cost of block b in lane cycles (R350, R360 to R383). -/
def baseCost (c : Chip) (b : Nat) : Nat :=
  let conn := connected c b
  let p0 := c.rd (F.ZEN_BK_P0 b)
  match c.get (F.ZEN_BK_CFG_TYPE b) with
  | 0x01 => 2 + 3 * countInputs 4 conn | 0x02 => 20 | 0x10 => 1 + countInputs 6 conn | 0x11 => 2 * countInputs 3 conn
  | 0x12 => 2 * countInputs 3 (fun j => conn (2 * j) && conn (2 * j + 1)) + c.get (F.ZEN_BK_CFG_OPT b) % 2
  | 0x13 => 16 | 0x14 => if conn 3 then 6 else 3 | 0x15 => 20 | 0x16 => 3 | 0x17 => 2 | 0x20 => 3 | 0x21 => 3 | 0x22 => 8
  | 0x23 => 2 * countInputs 3 conn | 0x24 => 7 | 0x25 => 6 | 0x30 => 5 | 0x31 => if conn 3 then 5 else 23 | 0x32 => if conn 3 then 5 else 23
  | 0x33 => 18 | 0x34 => 24 | 0x40 => 12 | 0x41 => 56 | 0x42 => 34 | 0x43 => 44 | 0x44 => 6
  | 0x50 => 8 + 4 * countInputs (if p0.field 0 3 = 6 then 2 else 3) (fun k => p0.field (3 + k) 1 == 1)
  | 0x51 => 2 + 3 * countInputs (if p0.field 0 3 = 6 then 1 else 5) (fun k => p0.field (3 + k) 1 == 1)
  | 0x52 => 2 | 0x53 => 3 | 0x54 => 3 | 0x55 => countInputs 4 conn | 0x56 => 2 | _ => 0

/-- The ZMEM words that block b reads (R351). -/
def zmemReads (c : Chip) (b : Nat) : Nat :=
  (List.range 6).foldl (fun n k =>
    if readsInput c b k && selector c b k / 2 ^ 21 == 3 then n + (if isVector (c.get (F.ZEN_BK_CFG_TYPE b)) k then 2 else 1) else n) 0

/-- The lane cycles of one thing that a run carries out, without waits (R317, R326, R350): a rescale 4, a block its base cost and its reads. -/
def itemCost (c : Chip) (it : Nat × Option Nat) : Nat :=
  match it.2 with
  | none => if c.is (F.ZEN_ST_CFG_ADAPT it.1) then 4 else 0
  | some b =>
    baseCost c b + zmemReads c b + 6 * countInputs 6 (fun k => readsInput c b k && (selector c b k / 2 ^ 21 == 4 || selector c b k / 2 ^ 21 == 5))

/-- The accesses to ZMEM in it, each of which waits at most one lane cycle (R308). -/
def itemAccesses (c : Chip) (it : Nat × Option Nat) : Nat :=
  match it.2 with
  | none => 0
  | some b => zmemReads c b + (if c.get (F.ZEN_BK_CFG_TYPE b) = 0x55 then countInputs 4 (connected c b) else 0)

/-- Whether a run waits (R328): it was begun by an early start, and the next block reads the window word of a slot of the starting set that carries a SEQ
other than that of the run. -/
def itemWaits (c : Chip) (r : ZRun) (it : Nat × Option Nat) : Bool :=
  match r.wait, it.2 with
  | some (s, q), some b => (List.range 6).any (fun k =>
      let sel := selector c b k
      readsInput c b k && sel / 2 ^ 21 == 2 && sel % 256 / 16 == s && ((c.window.find (sel % 256)).getD 0).field 34 8 != q)
  | _, _ => false

/-- The run on logical lane j carries out one thing. -/
def doItem (j : Nat) (r : ZRun) (it : Nat × Option Nat) (c : Chip) : Chip :=
  let r' := { r with pos := r.pos + 1, half := r.half - 2 * itemCost c it, cyc := r.cyc + itemCost c it, acc := r.acc + itemAccesses c it }
  match it.2 with
  | none => laneRunTo j (some r') (rescaleStage j it.1 c)
  | some b =>
    let x := execBlock ⟨j, r.prog, r.cfg, it.1⟩ b (c, r.tbw)
    laneRunTo j (some { r' with tbw := x.2 }) x.1

/-- The run on logical lane j carries out at most n things: while nothing waits, and with `timed` while the lane cycles that have passed suffice. -/
def carryOut (timed : Bool) : Nat → Nat → Chip → Chip
  | 0, _, c => c
  | n + 1, j, c =>
    match laneRun c j with
    | none => c
    | some r =>
      match runNext c r with
      | none => c
      | some it => if itemWaits c r it || (timed && decide (r.half < 2 * itemCost c it)) then c else carryOut timed n j (doItem j r it c)

/-- An idle logical lane takes its next queued program and starts its first stage (R317, R320, R323). -/
def runBegin (j : Nat) (c : Chip) : Chip :=
  if (laneRun c j).isSome || !runMode c.mode then c else
  match nextProgram c j, physLane c j with
  | some p, some z =>
    let cfg := c.rd (F.ZEN_PG_CFG p)
    let wait := (c.zen.early.find? (·.1 == p)).map (·.2)
    let c := (c.setb (F.ZEN_PG_STAT_QUEUED p) false).raise (F.ZEN_PG_STAT_RUNNING p)
    let c := { c with zen := { c.zen with early := c.zen.early.filter (fun e => e.1 != p) } }
    carryOut false 1 j (laneRunTo j (some { prog := p, cfg := cfg, wait := wait }) (noteStart p none (c.raise (F.ZEN_LANE_STAT_BUSY z))))
  | _, _ => c

/-- One PCLK cycle, one and a half lane cycles, of the run on logical lane j: what its lane cycles suffice for is carried out (R324, R330). A block acts in
the last of its lane cycles (log entry 36). -/
def tickRun (j : Nat) (c : Chip) : Chip :=
  match laneRun c j with
  | none => c
  | some r =>
    match runNext c r with
    | none => c
    | some it =>
      if itemWaits c r it then laneRunTo j (some { r with half := 0, spent := r.spent + 3 }) c
      else carryOut true (runItems c r.cfg).length j (laneRunTo j (some { r with half := r.half + 3 }) c)

/-- One PCLK cycle of every run. -/
def tickRuns (c : Chip) : Chip := c.forN 8 tickRun

/-- Whether the run on logical lane j has carried out everything. -/
def runOver (c : Chip) (j : Nat) : Bool := match laneRun c j with | some r => (runNext c r).isNone | none => false

/-- The run on logical lane j carries out what is left of it, up to a block that waits (R328). -/
def finishItems (j : Nat) (c : Chip) : Chip :=
  match laneRun c j with
  | none => c
  | some r => carryOut false (runItems c r.cfg).length j c

/-- The lane cycles of a run with the waits of its accesses to ZMEM, at most one for each (R308, R328, R343). -/
def runCycles (r : ZRun) (waits : Nat) : Nat := r.cyc + min waits r.acc + r.spent / 2

/-- The run on logical lane j ends, once nothing in it waits (R320, R321, R328, R343); `waits` are the lane cycles that its accesses to ZMEM waited. -/
def runEnd (j waits : Nat) (c : Chip) : Chip :=
  let c := finishItems j c
  match laneRun c j with
  | none => c
  | some r =>
    if (runNext c r).isSome then c else
    let c := laneRunTo j none c
    let p := r.prog
    let cycles := runCycles r waits
    let c := match physLane c j with | some z => c.setb (F.ZEN_LANE_STAT_BUSY z) false | none => c
    let c := (c.setb (F.ZEN_PG_STAT_RUNNING p) false).raise (F.ZEN_PG_STAT_DONE p)
    let c := (c.set (F.ZEN_PG_STAT_CYCLAST p) (min cycles 4095)).countMod (F.ZEN_PG_STAT_SEQ p) 1
    let c := c.set (F.ZEN_PG_STAT_CYCMAX p) (max (c.get (F.ZEN_PG_STAT_CYCMAX p)) (min cycles 4095))
    let c := c.occur 0x04 (some p) (BitVec.ofNat 48 (c.get (F.ZEN_PG_STAT_CYCLAST p)))
    if r.cfg.field 39 1 = 1 then startProgram (r.cfg.field 32 6) c else c

/-- The RAMP blocks: those of TYPE 0x25, which the listed words hold. -/
def rampBlocks (c : Chip) : List Nat :=
  (c.regs.filter (fun e => decide (0x72000 ≤ e.1) && decide (e.1 < 0x74000) && e.1 % 8 == 0 && e.2.field 40 8 == 0x25)).map (fun e => (e.1 - 0x72000) / 8)

/-- A restart becomes pending for every RAMP block of axis n (R368). -/
def pendRamps (n : Nat) (c : Chip) : Chip :=
  { c with zen := { c.zen with rampPend := (rampBlocks c).foldl (fun s b =>
      let p2 := c.rd (F.ZEN_BK_P2 b)
      if p2.field 2 1 = 1 ∧ p2.field 0 2 = n then markBlock s b true else s) c.zen.rampPend } }

/-- A requested reset of program p takes effect when it is neither running nor queued (R325, R318, R366, R368). -/
def programReset (p : Nat) (c : Chip) : Chip :=
  if c.zen.pgrst.getLsbD p && !c.is (F.ZEN_PG_STAT_RUNNING p) && !c.is (F.ZEN_PG_STAT_QUEUED p) then
    let c := { c with zen := { c.zen with pgrst := c.zen.pgrst &&& ~~~(1#64 <<< p) } }
    let j := c.get (F.ZEN_PG_CFG_LANE p)
    c.forEach (stagesOf (c.rd (F.ZEN_PG_CFG p))) (fun s c =>
      (c.forEach (blocksOf c s) (fun b c =>
        let type := c.get (F.ZEN_BK_CFG_TYPE b)
        let c := c.forN (signalCount type) (fun k c => laneStore j ((c.get (F.ZEN_BK_CFG_BASE b) + k) % 4096) 0 c)
        { c with zen := { c.zen with executed := markBlock c.zen.executed b false,
                                     rampPend := if type = 0x25 then markBlock c.zen.rampPend b true else c.zen.rampPend } })) |> resetStage s)
  else c

/-- Whether an FBSP block of an enabled program names pulse input u (R372). -/
def pulseUsed (c : Chip) (u : Nat) : Bool :=
  (enabledBlocks c).any (fun b => c.get (F.ZEN_BK_CFG_TYPE b) == 0x02 && pulseInput ((c.rd (F.ZEN_BK_P0 b)).field 12 4) == some u)

/-- A rising edge on PSETu: the high time and the period that it ends, in ns, with a resolution of 5 ns; the meter ignores an edge that ends a pulse or a gap
shorter than 50 ns (R372). -/
def pulseEdge (u high period : Nat) (c : Chip) : Chip :=
  if runMode c.mode && pulseUsed c u && decide (50 ≤ high) && decide (high + 50 ≤ period) then
    { c with zen := { c.zen with meters := c.zen.meters.modify u (fun m =>
        { edges := min 2 (m.edges + 1), high := high / 5 * 5, period := period / 5 * 5, edgeAt := c.now }) } }
  else c


end Sys2Proof.Machine
end

