-- ==== Sys2Proof/Machine/Motor.lean ====
section
/-! DEFINITION. The axis sequencers of motor axes (12_motor_control): starts, catches, alignment, polarity, the modulation ladder, block commutation,
back-EMF monitoring, identification tasks, stops and axis faults. Quantities of physics are exact rationals, rounded where the chapter says. -/

namespace Sys2Proof.Machine

/-! ### Rational quantities -/

/-- Two to a power, as a rational. -/
def twoTo (k : Int) : Rat := if k < 0 then 1 / ((2 ^ k.natAbs : Nat) : Rat) else ((2 ^ k.toNat : Nat) : Rat)

/-- A rational rounded to the nearest integer, halves away from zero. -/
def roundRat (q : Rat) : Int := roundDiv q.num q.den

/-- Two pi, to better than 2^-64. -/
def twoPi : Rat := 115904311329233965478 * twoTo (-64)

/-- The value of a coefficient word (R311). -/
def coefRat (w : Word) : Rat := let c := coef w; ((c.1 : Int) : Rat) * twoTo c.2

/-- A positive value as a coefficient word with a 40-bit mantissa, rounded to nearest (R311, R424). -/
def toCoef (q : Rat) : Word :=
  let k : Int := (Nat.log2 q.num.natAbs : Nat) - (Nat.log2 q.den : Nat)
  let e := if roundRat (q * twoTo (38 - k)) < 2 ^ 38 then k - 39 else k - 38
  let m := roundRat (q * twoTo (-e))
  let (m, e) := if m = 2 ^ 39 then (2 ^ 38, e + 1) else (m, e)
  BitVec.ofNat 48 (unsigned 40 m * 2 ^ 8 + unsigned 8 e)

/-- The absolute value of a rational. -/
def absRat (q : Rat) : Rat := if q < 0 then -q else q

/-- The cosine of an angle, as a rational. -/
def cosRat (a : Word) : Rat := ((sinExact (a + 0x400000000000) : Int) : Rat) * twoTo (-64)

/-- The sine of an angle, as a rational. -/
def sinRat (a : Word) : Rat := ((sinExact a : Int) : Rat) * twoTo (-64)

/-! ### Accessors -/

/-- The sequencer of axis a. -/
def axisSeq (c : Chip) (a : Nat) : AxisSeq := c.axes.getD a {}

/-- Change the sequencer of axis a. -/
def modAxis (a : Nat) (f : AxisSeq → AxisSeq) (c : Chip) : Chip := { c with axes := c.axes.modify a f }

/-- The tracker of axis a (R391). -/
def axisTracker (c : Chip) (a : Nat) : Option Nat := if c.get (F.MOT_CFG_AT a) < 6 then some (c.get (F.MOT_CFG_AT a)) else none

/-- The source of the tracker of axis a; 0 if it has none. -/
def axisSource (c : Chip) (a : Nat) : Nat := match axisTracker c a with | some t => activeSrc c t | none => 0

/-- The pole pairs of axis a. -/
def polePairs (c : Chip) (a : Nat) : Nat := max 1 (c.get (F.MOT_CFG_PP a))

/-- MEAS in r/min with 16 fractional bits. -/
def measOf (c : Chip) (a : Nat) : Int := (c.rd (F.MOT_MEAS_MEAS a).addr).toInt

/-- The magnitude of MEAS. -/
def measMag (c : Chip) (a : Nat) : Nat := (measOf c a).natAbs

/-- The signed electrical frequency of axis a in Hz (R401). -/
def elecHz (c : Chip) (a : Nat) : Rat :=
  match axisTracker c a with
  | some t => ((c.geti (F.AT_SPD_SPD t) * 400000000 : Int) : Rat) * twoTo (-48)
  | none => 0

/-- Monitor word k of axis a as a signal of exponent MONEXP (R406). -/
def monRat (c : Chip) (a k : Nat) : Rat := ((((axisSeq c a).mon.getD k 0).toInt : Int) : Rat) * twoTo (c.geti (F.MOT_MON_MONEXP a))

/-- Whether axis a is in IDENTIFY's care. -/
def identifying (c : Chip) (a : Nat) : Bool := c.is (F.DEV_AXST_IDACT a)

/-- Whether axis a uses its tracker now (R388, R440). -/
def usesTracker (c : Chip) (a : Nat) : Bool :=
  if isMotor c a then c.sub a != .off || identifying c a
  else if axisFunc c a = 4 then decide (1 ≤ c.get (F.CNV_STAT_CSTEP a)) && decide (c.get (F.CNV_STAT_CSTEP a) ≤ 4)
  else false

/-! ### Substates, steps and outputs -/

/-- Axis a takes a substate (R38), shown in FLAGS (R396); entry into RUN makes the restart of its RAMP blocks pending (R368). -/
def setSub (a : Nat) (x : Sub) (c : Chip) : Chip :=
  if c.sub a = x then c else
  let c := (c.set (F.DEV_AXST_SUB a) x.code).evModeChg
  let c := (c.setb (F.MOT_FLAGS_STOP a) (x == .stopping)).setb (F.MOT_FLAGS_RUN a) (x == .run || x == .stopping)
  if x = .run then pendRamps a c else c

/-- The sequencer takes a step with its owner (R387, R409). -/
def setStep (a step : Nat) (own : Bool) (c : Chip) : Chip := (c.set (F.MOT_STAT_STEP a) step).setb (F.MOT_STAT_OWN a) own

/-- Stage and commit every leg of the axis groups with LMODE OFF (R390). -/
def stageOff (a : Nat) (c : Chip) : Chip :=
  c.forEach (axisGroups c a) (fun g c => engineCommit g (c.forEach (legsOf g) (fun n c => writeDuty n 3 0 c)))

/-- Whether a leg of the axis is staged, or written, otherwise than OFF. -/
def axisStray (c : Chip) (a : Nat) : Bool :=
  (axisGroups c a).any (fun g => (c.pwmg g).marks.duty.any id || (legsOf g).any (fun n => c.get (F.PWM_L_DUTY_LMODE n) != 3))

/-- While the sequencer owns the outputs in OFF and CATCH, every leg of the axis is kept staged and committed with LMODE OFF (R390). -/
def keepOff (a : Nat) (c : Chip) : Chip :=
  let held := (c.sub a == .off || c.sub a == .catch) && c.is (F.MOT_STAT_OWN a) && !ascOn c a
  if held && axisStray c a then stageOff a c else c

/-- Stage a ratio of the period on a leg, as COMP (R411, R413). -/
def stageRatio (n : Nat) (r : Rat) (c : Chip) : Chip :=
  let p : Nat := c.get (F.PWM_G_LPER_LPER (groupOf n))
  writeDuty n 0 (clampInt 0 p (roundRat (r * ((p : Nat) : Rat)))).toNat c

/-- Stage and commit a voltage vector of amplitude amp / 512 of duty along an electrical angle; the second group is turned by -30°
(R391, R411, R413). -/
def stageVector (a amp : Nat) (phi : Word) (c : Chip) : Chip :=
  c.forEach (axisGroups c a).zipIdx (fun gk c =>
    engineCommit gk.1 (c.forN 3 (fun x c =>
      let th := phi - BitVec.ofInt 48 (roundDiv (gk.2 * 2 ^ 48 : Nat) 12) - BitVec.ofInt 48 (roundDiv (x * 2 ^ 48 : Nat) 3)
      stageRatio (3 * gk.1 + x) (1 / 2 + ((amp : Nat) : Rat) / 512 * cosRat th) c)))

/-- Stage and commit every leg at 1/2. -/
def stageHalf (a : Nat) (c : Chip) : Chip := stageVector a 0 0 c

/-- The current references (R397), in A. -/
def setRefs (a : Nat) (idr iqr : Rat) (c : Chip) : Chip :=
  (c.wr (F.MOT_IDREF_IDREF a).addr (BitVec.ofInt 48 (roundRat (idr * 65536)))).wr (F.MOT_IQREF_IQREF a).addr
    (BitVec.ofInt 48 (roundRat (iqr * 65536)))

/-- SEQREF, HFI and INJQ (R396). -/
def setInject (a : Nat) (seqref hfi injq : Bool) (c : Chip) : Chip :=
  ((c.setb (F.MOT_FLAGS_SEQREF a) seqref).setb (F.MOT_FLAGS_HFI a) hfi).setb (F.MOT_FLAGS_INJQ a) injq

/-- Request a reset of the axis program (R389). -/
def resetAxisProgram (a : Nat) (c : Chip) : Chip := requestReset (c.get (F.MOT_CFG_PG a)) 1 1 c

/-- Whether a reset of the axis program has not taken effect. -/
def resetWaits (c : Chip) (a : Nat) : Bool := c.zen.pgrst.getLsbD (c.get (F.MOT_CFG_PG a))

/-- The effective set-point (R394). -/
def updateSpe (a : Nat) (c : Chip) : Chip :=
  if !isMotor c a then c
  else
    let sp := c.rd (F.MOT_SP_SP a).addr
    let v : Word :=
      if !c.is (F.MOT_FLAGS_REVB a) then sp
      else if c.is (F.MOT_CFG_CTRL a) then 0
      else
        let t : Int := (c.get (F.MOT_CVS_BRKT a) * 65536 : Nat)
        BitVec.ofInt 48 (if 0 ≤ measOf c a then -t else t)
    c.wr (F.MOT_SPE_SPE a).addr v

/-- The ladder's indications (R401): LSTEP and LPAT, SYNC and SIX, as the table of the axis stands. -/
def ladderShown (a : Nat) (c : Chip) : Chip :=
  match axisTracker c a with
  | some t =>
    if isMotor c a then
      let engd := c.is (F.KT_STAT_ENGD t)
      let p := c.get (F.KT_STAT_CURPAT t)
      let six := engd && c.is (F.MOT_LAD_P6EN a) && p == c.get (F.MOT_LAD_P6 a)
      let c := (c.set (F.MOT_LAD_LSTEP a) (if six then 2 else if engd then 1 else 0)).set (F.MOT_LAD_LPAT a) p
      (c.setb (F.MOT_FLAGS_SYNC a) engd).setb (F.MOT_FLAGS_SIX a) six
    else c
  | none => c

/-- Axis a goes to OFF (R38, R390, R396): outputs staged OFF, the sequencer idle and owner, and an engaged table asked to release (R401,
R425). -/
def enterOff (a : Nat) (c : Chip) : Chip :=
  let c := setStep a 0 true (setSub a .off c)
  let c := [F.MOT_FLAGS_REVB a, F.MOT_FLAGS_INJQ a, F.MOT_FLAGS_HFI a, F.MOT_FLAGS_SEQREF a].foldl
    (fun c f => c.setb f false) c
  let c := modAxis a (fun q => { mon := q.mon, tasks := q.tasks, task := q.task, phase := q.phase, failed := q.failed }) c
  let c := stageOff a c
  let c := match axisTracker c a with
    | some t => if isMotor c a && c.is (F.MOT_LAD_EN a) && c.is (F.KT_STAT_ENGD t) then commitKerf t (c.setb (F.KT_NSEL_ENG t) false) else c
    | none => c
  updateSpe a c

/-- Entry into RUN (R389): the program reset is requested, and the entry takes effect when it and the presets have been made. -/
def enterRun (a : Nat) (c : Chip) : Chip := modAxis a (fun q => { q with runDue := true }) (resetAxisProgram a c)

/-- HFI in RUN (R415): it rises with a copy of the FLUXOBS angle, and falls with hysteresis. -/
def hfiRule (a : Nat) (c : Chip) : Chip :=
  let lim := c.get (F.MOT_OBS_HFISPD a) * 65536
  if c.sub a != .run || !isMotor c a then c
  else if measMag c a < lim then
    if c.is (F.MOT_FLAGS_HFI a) then c
    else (modAxis a (fun q => { q with angDue := some .fromFlux }) c).raise (F.MOT_FLAGS_HFI a)
  else if lim * 9 < measMag c a * 8 ∨ lim = 0 then c.setb (F.MOT_FLAGS_HFI a) false
  else c

/-- Whether presets wait for axis a (R416): only those whose block is enabled. -/
def presetsWait (c : Chip) (a : Nat) : Bool :=
  ((axisSeq c a).fluxDue.isSome && c.is (F.MOT_OBS_FOEN a)) || ((axisSeq c a).angDue.isSome && c.is (F.MOT_OBS_AIEN a)) ||
    (axisSeq c a).flipDue

/-- Stage the duties of a BLOCK120 axis for a sector (R403). -/
def commutate (a s : Nat) (all : Bool) (c : Chip) : Chip :=
  match axisGroups c a with
  | [] => c
  | g :: _ =>
    let d := monRat c a 4
    let p := c.get (F.PWM_G_LPER_LPER g)
    let duty := (clampInt 0 p (roundRat (absRat d * ((p : Nat) : Rat)))).toNat
    let (h, l) : Nat × Nat := match s with
      | 0 => (0, 1) | 1 => (0, 2) | 2 => (1, 2) | 3 => (1, 0) | 4 => (2, 0) | _ => (2, 1)
    let (h, l) := if d < 0 then (l, h) else (h, l)
    let c := writeDuty (3 * g + h) 1 duty c
    let c := if all then writeDuty (3 * g + (3 - h - l)) 3 0 (writeDuty (3 * g + l) 5 0 c) else c
    engineCommit g (if all then modAxis a (fun q => { q with sector := some s }) c else c)

/-- The sector of a BLOCK120 axis (R403). -/
def sectorOf (c : Chip) (a : Nat) : Nat :=
  match axisTracker c a with
  | some t =>
    if axisSource c a = 3 then c.get (F.AT_STAT_SECTOR t) - 1
    else
      let th := c.rd (F.AT_ANG_ANG t).addr + BitVec.ofInt 48 (c.geti (F.MOT_CFG_ADV a) * 2 ^ 40)
      6 * th.toNat / 2 ^ 48
  | none => 0

/-- The entry into RUN takes effect (R38, R389, R403, R417). -/
def finishRun (a : Nat) (c : Chip) : Chip :=
  let q := axisSeq c a
  if q.runDue && !resetWaits c a && !presetsWait c a then
    let reverse := c.sub a == .catch && c.is (F.MOT_STAT_CDIR a)
    let c := modAxis a (fun q => { q with runDue := false, keWarn := 0, keFault := 0 }) (setSub a .run c)
    let c := c.setb (F.MOT_FLAGS_SEQREF a) false
    let c := hfiRule a (c.setb (F.MOT_FLAGS_REVB a) reverse)
    let c := if axisFunc c a = 3 then commutate a (sectorOf c a) true (setStep a 7 true c) else setStep a 0 false c
    updateSpe a c
  else c

/-! ### Axis faults (R419) -/

/-- The CAUSE code of an axis-scoped fault (R419). -/
def axisCauseCode : FaultCause → Nat
  | .group => 1 | .tracker => 2 | .wrap => 3 | .polarity => 4 | .kemf => 5 | .catch => 6 | .align => 8 | _ => 7

/-- The CCAUSE code of a converter axis's fault (R446, R456). -/
def convCauseCode : FaultCause → Nat
  | .gridsync => 1 | .armto => 2 | .budflt => 3 | _ => 0

/-- The IDENTIFY tasks of axis a that have not ended fail (R423). -/
def failTasks (a : Nat) (c : Chip) : Chip :=
  if identifying c a then
    let q := axisSeq c a
    let cur : BitVec 4 := match q.task with | some k => 1#4 <<< k.val | none => 0
    let c := c.set (F.MOT_IDRES_FAIL a) (c.get (F.MOT_IDRES_FAIL a) ||| (q.tasks ||| cur).toNat)
    modAxis a (fun q => { q with tasks := 0, task := none, phase := 0 }) (c.setb (F.DEV_AXST_IDACT a) false)
  else c

/-- An axis fault (R38, R419): OFF with AXFLT, the first cause kept. -/
def axisFault (a : Nat) (k : FaultCause) (c : Chip) : Chip :=
  let c := failTasks a c
  let c := if c.get (F.MOT_STAT_CAUSE a) = 0 then c.set (F.MOT_STAT_CAUSE a) (axisCauseCode k) else c
  let c := if isConverter c a && convCauseCode k != 0 && c.get (F.CNV_STAT_CCAUSE a) == 0 then c.set (F.CNV_STAT_CCAUSE a) (convCauseCode k) else c
  let c := if isConverter c a then c.set (F.CNV_STAT_CSTEP a) 0 else c
  enterOff a ((c.raise (F.DEV_AXST_AXFLT a)).evAxflt a)

/-! ### Alignment (R410 to R412) -/

/-- The alignment that runs for axis a (R410, R423): the START method, and in IDENTIFY DC for an encoder without index under method NONE. -/
def alignMethod (c : Chip) (a : Nat) : Nat :=
  let m := c.get (F.MOT_CFG_START a)
  let noIndex := match axisTracker c a with | some t => axisSource c a == 2 && !c.is (F.AT_SRC_P3 t) | none => false
  if identifying c a && m == 0 && noIndex then 1 else m

/-- The first action of an alignment. -/
def beginAlign (a : Nat) (c : Chip) : Chip :=
  match alignMethod c a with
  | 1 => stageVector a (c.get (F.MOT_SEQ_DCA a)) 0 (setStep a 3 true c)
  | 2 => setStep a 4 false (setRefs a 0 0 (setInject a true true false c))
  | 3 => setStep a 6 false (setRefs a ((c.get (F.MOT_SEQ_IDMAG a) : Nat) : Rat) 0 (setInject a true false false c))
  | _ => setStep a 0 false c

/-- Entry into ALIGN (R38, R389). -/
def enterAlign (a : Nat) (c : Chip) : Chip := beginAlign a (resetAxisProgram a (setSub a .align c))

/-- START of a motor axis (R38, R388, R405). -/
def startMotor (a : Nat) (c : Chip) : Chip :=
  let c := match axisTracker c a with
    | some t =>
      if srcOf c t = 4 then
        srcfltCleared t (((c.setb (F.AT_STAT_SRCFLT t) false).setb (F.AT_STAT_HOLDEXP t) false).setb (F.AT_STAT_OVSPD t) false)
      else c
    | none => c
  if c.is (F.MOT_CFG_FLYEN a) then
    let c := modAxis a (fun q => { mon := q.mon }) c
    stageOff a (setStep a 1 true (setSub a .catch c))
  else enterAlign a c

/-- STOP of a motor axis (R38, R418). -/
def stopMotor (a : Nat) (c : Chip) : Chip :=
  match c.sub a with
  | .catch | .align => enterOff a c
  | .run => setSub a .stopping c
  | _ => c

/-! ### Identification tasks (R423, R424) -/

/-- The task that follows: catch, position detection, parameters, learning; the last two need the angle. -/
def pickTask (c : Chip) (a : Nat) : Option (Fin 4) :=
  let t := (axisSeq c a).tasks
  if t.getLsbD 1 then some 1
  else if t.getLsbD 0 then some 0
  else if t.getLsbD 2 || t.getLsbD 3 then
    if !c.is (F.MOT_STAT_ALIGNED a) && !Nat.bitAt (c.get (F.MOT_IDRES_DONE a)) 0 then some 0
    else if t.getLsbD 2 then some 2 else some 3
  else none

/-- Begin parameter identification's phase: 0 and 1 the two current levels, 2 and 3 the injection on d and on q. -/
def beginPhase (a ph : Nat) (c : Chip) : Chip :=
  let idi : Rat := ((c.get (F.MOT_IDC_IDI a) : Nat) : Rat)
  let c := modAxis a (fun q => { q with phase := ph, samples := [] }) c
  match ph with
  | 0 => setStep a 8 false (setRefs a (idi / 2) 0 (setInject a true false false c))
  | 1 => setRefs a idi 0 c
  | 2 => setStep a 9 false (setRefs a 0 0 (setInject a true true false c))
  | _ => setInject a true true true c

/-- The next task of axis a begins, or its part in IDENTIFY ends. -/
def nextTask (a : Nat) (c : Chip) : Chip :=
  match pickTask c a with
  | none =>
    let c := modAxis a (fun q => { q with task := none }) c
    enterOff a (c.setb (F.DEV_AXST_IDACT a) false)
  | some k =>
    let c := modAxis a (fun q => { mon := q.mon, task := some k, tasks := q.tasks &&& ~~~(1#4 <<< k.val) }) c
    match k.val with
    | 0 =>
      let m := alignMethod c a
      if m = 1 ∨ m = 2 then beginAlign a (resetAxisProgram a c) else c
    | 1 => stageOff a (setStep a 1 true (setInject a false false false c))
    | 2 => beginPhase a 0 c
    | _ => (setStep a 10 false (setRefs a 0 0 (setInject a true false false c))).forEach (axisGroups c a) startLearning

/-- The task that runs ends (R423). -/
def endTask (a : Nat) (ok : Bool) (c : Chip) : Chip :=
  match (axisSeq c a).task with
  | some k =>
    let f := if ok then F.MOT_IDRES_DONE a else F.MOT_IDRES_FAIL a
    nextTask a (c.setBit f k.val true)
  | none => c

/-- Position detection with a method that needs no alignment ends at once. -/
def skipPosition (a : Nat) (c : Chip) : Chip :=
  if identifying c a && (axisSeq c a).task == some 0 && alignMethod c a != 1 && alignMethod c a != 2 then endTask a true c else c

/-- IDENTIFY starts on axis a with the tasks of R26. -/
def startIdentify (a : Nat) (tasks : BitVec 4) (c : Chip) : Chip :=
  let c := (c.raise (F.DEV_AXST_IDACT a)).wr (F.MOT_IDRES_DONE a).addr 0
  skipPosition a (nextTask a (modAxis a (fun q => { mon := q.mon, tasks := tasks }) c))

/-- IDENTIFY is left with tasks of axis a running: they end without a result. -/
def abandonIdentify (a : Nat) (c : Chip) : Chip :=
  if identifying c a then
    let c := modAxis a (fun q => { mon := q.mon }) (c.setb (F.DEV_AXST_IDACT a) false)
    enterOff a c
  else c

/-- An alignment has succeeded: RUN, or in IDENTIFY the end of position detection. -/
def aligned (a : Nat) (c : Chip) : Chip :=
  if identifying c a then skipPosition a (endTask a true c) else enterRun a c

/-- Means of the last half of the samples (R424): of one monitor word, as a sum and a count. -/
def lastHalf (l : List (List Word)) : List (List Word) := l.drop (l.length / 2)

/-- The sum of a function over samples. -/
def sumOf (f : List Word → Int) (l : List (List Word)) : Int := l.foldl (fun s w => s + f w) 0

/-- A mean of the last half; zero without samples. -/
def meanOf (c : Chip) (a k : Nat) : Rat :=
  let h := lastHalf (axisSeq c a).samples
  if h.isEmpty then 0
  else ((sumOf (fun w => (w.getD k 0).toInt) h : Int) : Rat) / ((h.length : Nat) : Rat) * twoTo (c.geti (F.MOT_MON_MONEXP a))

/-- The largest |id| of the samples (R424). -/
def peakId (c : Chip) (a : Nat) : Rat :=
  ((((axisSeq c a).samples.foldl (fun m w => max m (w.getD 2 0).toInt.natAbs) 0 : Nat) : Nat) : Rat) * twoTo (c.geti (F.MOT_MON_MONEXP a))

/-- mean|v| × Ts / mean|Δi| over the last half of the samples (R424); none without a change of current. Ts, the mean interval between the runs, cancels the
count of the changes, so that the time from the first to the last of them stands for both. -/
def inductance (c : Chip) (a kv ki : Nat) : Option Rat :=
  let h := lastHalf (axisSeq c a).samples
  let cycles : Nat := ((h.getLastD []).getD 6 0).toNat - ((h.headD []).getD 6 0).toNat
  let v : Nat := h.foldl (fun s w => s + (w.getD kv 0).toInt.natAbs) 0
  let d : Nat := (h.zip (h.drop 1)).foldl (fun s p => s + ((p.2.getD ki 0).toInt - (p.1.getD ki 0).toInt).natAbs) 0
  if d = 0 then none
  else some (((v : Nat) : Rat) / ((h.length : Nat) : Rat) * ((cycles : Nat) : Rat) / 400000000 / ((d : Nat) : Rat))

/-- A result is written if it is positive; else the task has failed (R424). -/
def idResult (a addr : Nat) (r : Option Rat) (c : Chip) : Chip :=
  match r with
  | some q => if 0 < q then c.wr addr (toCoef q) else modAxis a (fun s => { s with failed := true }) c
  | none => modAxis a (fun s => { s with failed := true }) c

/-- A value kept as an integer of 2^-32. -/
def fix32 (q : Rat) : Int := roundRat (q * twoTo 32)

/-- A test time of parameter identification ends (R424). -/
def idTestEnd (a : Nat) (c : Chip) : Chip :=
  if !(identifying c a && (axisSeq c a).task == some 2) then c else
  let q := axisSeq c a
  match q.phase with
  | 0 =>
    beginPhase a 1 (modAxis a (fun s => { s with level1 := (fix32 (meanOf c a 0), fix32 (meanOf c a 2), (fix32 (peakId c a)).natAbs), failed := false }) c)
  | 1 =>
    let v1 : Rat := ((q.level1.1 : Int) : Rat) * twoTo (-32)
    let i1 : Rat := ((q.level1.2.1 : Int) : Rat) * twoTo (-32)
    let di := meanOf c a 2 - i1
    let idi : Rat := ((c.get (F.MOT_IDC_IDI a) : Nat) : Rat)
    let low := decide (peakId c a < idi / 2) && decide (((q.level1.2.2 : Nat) : Rat) * twoTo (-32) < idi / 2)
    let r := if low || di == 0 then none else some ((meanOf c a 0 - v1) / di)
    beginPhase a 2 (idResult a (F.MOT_RS_RS a).addr r c)
  | 2 => beginPhase a 3 (idResult a (F.MOT_LD_LD a).addr (inductance c a 0 2) c)
  | _ =>
    let c := idResult a (F.MOT_LQ_LQ a).addr (inductance c a 1 3) c
    skipPosition a (endTask a (!(axisSeq c a).failed) c)

/-- Learning on axis a has ended on every group (R286, R423). -/
def learnDone (a : Nat) (c : Chip) : Chip :=
  if identifying c a && (axisSeq c a).task == some 3 && !(axisGroups c a).any (fun g => c.is (F.GDS_G_LRN_ACTIVE g)) then
    endTask a (!(axisGroups c a).any (fun g => c.get (F.GDS_G_LRN_FAIL g) != 0)) c
  else c

/-! ### Catching (R405 to R408) -/

/-- The corrected codes of phases a, b and c in the catch set's results. -/
def catchCode (c : Chip) (s k : Nat) : Int :=
  let v := c.get (F.ADC_SET_R_VALUE s k)
  ((if c.is (F.ADC_SET_CFG_ALIGN s) then v / 256 else v % 65536 : Nat) : Int)

/-- The square root of 3 in units of 2^-44. -/
def sqrt3 : Int := 30470560045133

/-- The back-EMF amplitude in V of a root in units of 2^-16 code (R405). -/
def emfVolts (c : Chip) (a root : Nat) : Rat := ((root : Nat) : Rat) * twoTo (-16) * 2 / 3 * coefRat (c.rd (F.MOT_CVG_CVG a).addr)

/-- The detected mechanical speed in r/min (R405, R407): an IM axis with a RESOLVER or ENCODER takes its tracker's. -/
def caughtSpeed (c : Chip) (a : Nat) : Rat :=
  let q := axisSeq c a
  if axisFunc c a = 2 ∧ (axisSource c a = 1 ∨ axisSource c a = 2) then ((measOf c a : Int) : Rat) / 65536
  else if q.steps = 0 then 0
  else ((q.travel : Int) : Rat) * twoTo (-48) * 25600000000 / ((q.steps : Nat) : Rat) * 60 / ((polePairs c a : Nat) : Rat)

/-- The rotor angle of a back-EMF angle, under the sign of the speed (R405). -/
def rotorAngle (th : Word) (negative : Bool) : Word := if negative then th + 0x400000000000 else th - 0x400000000000

/-- The lock of an OBSERVER tracker is complete: the flux and the angle are preset, and RUN follows (R407, R416). -/
def lockComplete (a : Nat) (thr : Word) (c : Chip) : Chip :=
  enterRun a (modAxis a (fun q => { q with fluxDue := some (q.psic, thr), angDue := some (.value thr) }) c)

/-- A completion of the catch set during a catch (R405, R407). -/
def catchSample (a s : Nat) (c : Chip) : Chip :=
  let step := c.get (F.MOT_STAT_STEP a)
  if !(isMotor c a && (step == 1 || step == 2) && c.get (F.MOT_CVS_CSET a) == s && !(axisSeq c a).runDue) then c else
  let vab := catchCode c s 0 - catchCode c s 1
  let vbc := catchCode c s 1 - catchCode c s 2
  let root := sqrtNear ((vab * vab + vab * vbc + vbc * vbc).natAbs * 2 ^ 32)
  let th := atan2Of (vbc * sqrt3) ((2 * vab + vbc) * 2 ^ 44)
  let q := axisSeq c a
  if step = 1 then
    let low := decide (emfVolts c a root < ((c.get (F.MOT_CVS_ENOISE a) : Nat) : Rat))
    let per := match axisGroups c a with | g :: _ => c.get (F.PWM_G_LPER_LPER g) | [] => 0
    let (dt, dn) : Int × Nat := match q.lastTh with | some l => (sdiff48 th l, per) | none => (0, 0)
    modAxis a (fun q => { q with catchN := q.catchN + 1, catchLow := q.catchLow + (if low then 1 else 0), lastTh := some th, amp := root,
                                 travel := q.travel + dt, steps := q.steps + dn }) c
  else
    match axisTracker c a with
    | none => c
    | some t =>
      let thr := rotorAngle th q.negative
      let e := sdiff48 thr (c.rd (F.AT_SANG_SANG t).addr)
      let c := measWritten t (c.wr (F.AT_MEAS_MEAS t).addr thr)
      let run := if e.natAbs < 2 ^ 40 then q.lockRun + 1 else 0
      let c := modAxis a (fun q => { q with lockRun := run, lastTh := some th }) c
      if 8 ≤ run then lockComplete a thr c else c

/-- CRES at the end of the detect phase (R407): the rounded values; without rotation the flux has no value. -/
def writeCres (a : Nat) (c : Chip) : Chip × Rat :=
  let v := emfVolts c a (axisSeq c a).amp
  let rpm := caughtSpeed c a
  let w := absRat rpm / 60 * ((polePairs c a : Nat) : Rat) * twoPi
  let (psi, c) : Rat × Chip :=
    if w = 0 then let f := c.free; (((f.1.field 0 16 : Nat) : Rat) / 10000, f.2) else (v / w, c)
  let c := c.set (F.MOT_CRES_EAMP a) (clampInt 0 65535 (roundRat (v * 10))).toNat
  let c := c.seti (F.MOT_CRES_NCAT a) (clampInt (-32768) 32767 (roundRat rpm))
  (c.set (F.MOT_CRES_PSIC a) (clampInt 0 65535 (roundRat (psi * 10000))).toNat, psi)

/-- Set the tracker of axis a so that it reads an angle, by its offset (R407, R411). -/
def placeTracker (a : Nat) (ang : Word) (c : Chip) : Chip :=
  match axisTracker c a with
  | some t =>
    let d := ang - c.rd (F.AT_ANG_ANG t).addr
    let c := (c.wr (F.AT_OFFS_OFFS t).addr (c.rd (F.AT_OFFS_OFFS t).addr + d)).wr (F.AT_ANG_ANG t).addr ang
    (updateFollow c).raise (F.MOT_STAT_ALIGNED a)
  | none => c

/-- The detect phase ends (R407, R408, R423). -/
def catchDetectEnd (a : Nat) (c : Chip) : Chip :=
  if !(isMotor c a && c.get (F.MOT_STAT_STEP a) == 1) then c else
  let q := axisSeq c a
  let (c, psi) := writeCres a c
  let rpm := caughtSpeed c a
  let neg := decide (rpm < 0)
  let c := modAxis a (fun q => { q with negative := neg, psic := roundRat (psi * twoTo 40) }) c
  let src := axisSource c a
  let homed := match axisTracker c a with | some t => c.is (F.AT_STAT_HOMED t) | none => false
  let place (c : Chip) : Chip := if src = 2 ∧ !homed then placeTracker a (rotorAngle (q.lastTh.getD 0) neg) c else c
  if identifying c a then (if q.catchLow < q.catchN then skipPosition a (endTask a true (place c)) else skipPosition a (endTask a false c))
  else if q.catchN < 2 * q.catchLow ∨ q.catchN = 0 ∨ absRat rpm < ((c.get (F.MOT_CSTP_CSPD a) : Nat) : Rat) then enterAlign a c
  else
    let psiP := coefRat (c.rd (F.MOT_PSI_PSI a).addr)
    let kef : Rat := ((c.get (F.MOT_KE_KEF a) : Nat) : Rat) / 1000
    let c := c.setb (F.MOT_STAT_CDIR a) (decide ((c.rd (F.MOT_SPE_SPE a).addr).toInt < 0) != neg)
    let c := place c
    if axisFunc c a = 1 ∧ psiP ≠ 0 ∧ kef < absRat (psi / psiP - 1) then c.notice (.axis a .kemf)
    else if src = 4 then setStep a 2 true (modAxis a (fun q => { q with lockRun := 0 }) c)
    else enterRun a c

/-- Lock has not ended after CLCK (R407). -/
def catchLockTimeout (a : Nat) (c : Chip) : Chip :=
  if isMotor c a && c.get (F.MOT_STAT_STEP a) == 2 && !(axisSeq c a).runDue then c.notice (.axis a .catch) else c

/-! ### Alignment, continued (R410 to R414) -/

/-- With method NONE, ALIGN ends once the tracker is VALID and the program reset has taken effect (R410). -/
def alignNoneDone (a : Nat) (c : Chip) : Chip :=
  let valid := match axisTracker c a with | some t => c.is (F.AT_STAT_VALID t) | none => false
  if isMotor c a && c.sub a == .align && alignMethod c a == 0 && !(axisSeq c a).runDue && valid && !resetWaits c a then enterRun a c else c

/-- With method NONE the tracker has not become VALID within 10 ms (R410). -/
def alignTimeout (a : Nat) (c : Chip) : Chip :=
  let valid := match axisTracker c a with | some t => c.is (F.AT_STAT_VALID t) | none => false
  if isMotor c a && c.sub a == .align && alignMethod c a == 0 && !valid then c.notice (.axis a .align) else c

/-- DC alignment has been held for DCT (R411): the tracker is made to read 0, and all legs stand at 1/2 for one period. -/
def dcAlignEnd (a : Nat) (c : Chip) : Chip :=
  if !(isMotor c a && c.get (F.MOT_STAT_STEP a) == 3 && (axisSeq c a).dcRest == 0) then c else
  let c :=
    if axisSource c a = 4 then
      match axisTracker c a with
      | some t => modAxis a (fun q => { q with angDue := some (.value 0) }) (measWritten t (c.wr (F.AT_MEAS_MEAS t).addr 0))
      | none => c
    else if axisSource c a = 1 ∨ axisSource c a = 2 then placeTracker a 0 c
    else c
  modAxis a (fun q => { q with dcRest := 2 }) (stageHalf a (c.raise (F.MOT_STAT_ALIGNED a)))

/-- A polarity pulse pair begins (R413). -/
def beginPolarity (a : Nat) (c : Chip) : Chip :=
  let phi := match axisTracker c a with | some t => c.rd (F.AT_ANG_ANG t).addr | none => 0
  stageVector a (c.get (F.MOT_PLS_PLSA a)) phi
    (modAxis a (fun q => { q with polPhi := phi, polCount := 0, polPairs := q.polPairs + 1, iPlus := none, iMinus := none }) c)

/-- Injection has run for HFIT: the polarity pulses start (R410, R413). -/
def hfiEnd (a : Nat) (c : Chip) : Chip :=
  if isMotor c a && c.get (F.MOT_STAT_STEP a) == 4 then
    beginPolarity a (modAxis a (fun q => { q with polPairs := 0 }) (setStep a 5 true (setInject a false false false c)))
  else c

/-- A period of the polarity sequence ends: the next part of the pair is staged at its beginning (R413). -/
def polarityPeriod (a : Nat) (c : Chip) : Chip :=
  let n := (axisSeq c a).polCount + 1
  let c := modAxis a (fun q => { q with polCount := n }) c
  let pn := c.get (F.MOT_PLS_PLSN a)
  let pr := c.get (F.MOT_PLS_PRST a)
  let phi := (axisSeq c a).polPhi
  if n = pn ∨ n = 2 * pn + pr then stageHalf a c
  else if n = pn + pr then stageVector a (c.get (F.MOT_PLS_PLSA a)) (phi + 0x800000000000) c
  else c

/-- Whether a polarity pulse pair is over: the first ZERO took the first pulse, and the rest after the second ends with the ZERO after PLSN and PRST periods
of each (R413). -/
def pairOver (c : Chip) (a : Nat) : Bool := 2 * (c.get (F.MOT_PLS_PLSN a) + c.get (F.MOT_PLS_PRST a)) < (axisSeq c a).polCount

/-- A polarity pulse pair ends (R413): r in percent decides; without a current r has no value. -/
def polarityPulseEnd (a : Nat) (c : Chip) : Chip :=
  if !(isMotor c a && c.get (F.MOT_STAT_STEP a) == 5 && !(axisSeq c a).flipDue && pairOver c a) then c else
  let q := axisSeq c a
  let ip : Int := q.iPlus.getD 0
  let im : Int := q.iMinus.getD 0
  let top := max ip im
  let (num, den, c) : Int × Int × Chip := if top = 0 then let f := c.free; (signed 8 (f.1.field 0 8), 100, f.2) else (ip - im, top, c)
  let thr : Int := (c.get (F.MOT_PLS_PTHR a) : Nat)
  let r100 : Rat := ((num * 100 : Int) : Rat) / ((den : Int) : Rat)
  if ((thr : Int) : Rat) ≤ r100 then aligned a ((c.raise (F.MOT_STAT_POLOK a)).raise (F.MOT_STAT_ALIGNED a))
  else if r100 ≤ ((-thr : Int) : Rat) then
    modAxis a (fun q => { q with flipDue := true }) ((c.raise (F.MOT_STAT_POLOK a)).raise (F.MOT_STAT_ALIGNED a))
  else if q.polPairs < c.get (F.MOT_PLS_PTRY a) then beginPolarity a c
  else c.notice (.axis a .polarity)

/-! ### Observer presets (R414, R416) -/

/-- Whether the axis program is neither running nor queued. -/
def programIdle (c : Chip) (a : Nat) : Bool :=
  let p := c.get (F.MOT_CFG_PG a)
  !c.is (F.ZEN_PG_STAT_RUNNING p) && !c.is (F.ZEN_PG_STAT_QUEUED p)

/-- The run context of the axis program, as a reader of exponents. -/
def axisCtx (c : Chip) (a : Nat) : RunCtx :=
  let p := c.get (F.MOT_CFG_PG a)
  let cfg := c.rd (F.ZEN_PG_CFG p)
  ⟨c.get (F.ZEN_PG_CFG_LANE p), p, cfg, cfg.field 0 8⟩

/-- Write lane word k of block b in the axis program's lane. -/
def presetWord (a b k : Nat) (m : Int) (c : Chip) : Chip :=
  laneStore (axisCtx c a).lane ((c.get (F.ZEN_BK_CFG_BASE b) + k) % 4096) (BitVec.ofInt 48 (to48 m).1) c

/-- The lane word k of block b in the axis program's lane. -/
def presetRead (c : Chip) (a b k : Nat) : Word := laneLoad c (axisCtx c a).lane ((c.get (F.ZEN_BK_CFG_BASE b) + k) % 4096)

/-- The sequencer makes the presets that wait (R416), while the axis program is idle; those of a block not enabled are not made. -/
def observerPreset (a : Nat) (c : Chip) : Chip :=
  if !programIdle c a || resetWaits c a then c else
  let q := axisSeq c a
  let fo := c.get (F.MOT_OBS_FOBLK a)
  let ai := c.get (F.MOT_OBS_AIBLK a)
  let c := match q.fluxDue with
    | some (psi, th) =>
      if c.is (F.MOT_OBS_FOEN a) then
        let e := producerExp c (axisCtx c a) fo
        let p : Rat := ((psi : Int) : Rat) * twoTo (-40) * twoTo (-e)
        presetWord a fo 3 (roundRat (p * sinRat th)) (presetWord a fo 2 (roundRat (p * cosRat th)) c)
      else c
    | none => c
  let c := match q.angDue with
    | some (.value w) => if c.is (F.MOT_OBS_AIEN a) then presetWord a ai 0 w.toInt c else c
    | some .fromFlux => if c.is (F.MOT_OBS_AIEN a) then presetWord a ai 0 (presetRead c a fo 0).toInt c else c
    | none => c
  modAxis a (fun q => { q with fluxDue := none, angDue := none }) c

/-- The flip of a decided polarity is made in a free lane cycle (R413, R414). -/
def polarityFlip (a : Nat) (c : Chip) : Chip :=
  if (axisSeq c a).flipDue && programIdle c a then
    let ai := c.get (F.MOT_OBS_AIBLK a)
    let c := if c.is (F.MOT_OBS_AIEN a) then presetWord a ai 0 (presetRead c a ai 0 + 0x800000000000).toInt c else c
    aligned a (modAxis a (fun q => { q with flipDue := false }) c)
  else c

/-- Magnetising ends (R410). -/
def magnEnd (a : Nat) (c : Chip) : Chip :=
  if isMotor c a && c.get (F.MOT_STAT_STEP a) == 6 && !(axisSeq c a).runDue then enterRun a c else c

/-! ### At the end of a run, at a period boundary, at the tick (R386) -/

/-- The axis program of axis a has run: the monitor words are read (R386, R406), and serve the pulses and the tests. -/
def motorRunEnd (a : Nat) (c : Chip) : Chip :=
  if !isMotor c a then c else
  let base := c.get (F.MOT_MON_MONADDR a)
  let mon := (List.range 6).map (fun k => c.zmemRd ((base + k) % 65536))
  let c := modAxis a (fun q => { q with mon := mon }) c
  let step := c.get (F.MOT_STAT_STEP a)
  let idv := (mon.getD 2 0).toInt
  if step = 5 then
    let half := c.get (F.MOT_PLS_PLSN a) + c.get (F.MOT_PLS_PRST a)
    modAxis a (fun q =>
      if q.polCount = 0 ∨ 2 * half < q.polCount then q
      else if q.polCount ≤ half then { q with iPlus := some (max (q.iPlus.getD idv) idv) }
      else { q with iMinus := some (max (q.iMinus.getD (-idv)) (-idv)) }) c
  else if step = 8 ∨ step = 9 then modAxis a (fun q => { q with samples := q.samples ++ [mon ++ [BitVec.ofNat 48 c.up]] }) c
  else c

/-- The ZERO of axis a's first group has been issued. -/
def motorZero (a : Nat) (c : Chip) : Chip :=
  if !isMotor c a then c
  else if c.get (F.MOT_STAT_STEP a) = 5 then polarityPeriod a c
  else if c.get (F.MOT_STAT_STEP a) = 7 then commutate a (sectorOf c a) false c
  else
    match (axisSeq c a).dcRest with
    | 0 => c
    | 1 => aligned a (modAxis a (fun q => { q with dcRest := 0 }) c)
    | n + 1 => modAxis a (fun q => { q with dcRest := n }) c

/-- A sector change of a BLOCK120 axis (R404): its sector is another than the one it is commutated for. -/
def sectorChange (a : Nat) (c : Chip) : Chip :=
  if isMotor c a && c.get (F.MOT_STAT_STEP a) == 7 && (axisSeq c a).sector != some (sectorOf c a) then
    let c := commutate a (sectorOf c a) true c
    if c.is (F.MOT_CFG_CRST a) then (match axisGroups c a with | g :: _ => restartAfterCommit g c | [] => c) else c
  else c

/-- Reverse braking ends (R417): MEAS below STOPSPD or of the other sign, or a set-point of the rotation's sign. -/
def revbRule (a : Nat) (c : Chip) : Chip :=
  if c.is (F.MOT_FLAGS_REVB a) then
    let m := measOf c a
    let sp := (c.rd (F.MOT_SP_SP a).addr).toInt
    let turned := decide (0 ≤ m) == (axisSeq c a).negative
    if turned || measMag c a < c.get (F.MOT_CSTP_STOPSPD a) * 65536 || (sp != 0 && decide (sp < 0) == decide (m < 0)) then
      c.setb (F.MOT_FLAGS_REVB a) false
    else c
  else c

/-- The refresh of MEAS (R395). -/
def refreshMeas (a : Nat) (c : Chip) : Chip :=
  let m : Int := match axisTracker c a with
    | some t => if c.is (F.AT_STAT_VALID t) then roundDiv (c.geti (F.AT_SPD_SPD t) * 24000000000) (2 ^ 32 * polePairs c a) else 0
    | none => 0
  c.wr (F.MOT_MEAS_MEAS a).addr (BitVec.ofInt 48 m)

/-- The learning current of R423, at tick n of 10 µs. -/
def learnTick (a : Nat) (c : Chip) : Chip :=
  if c.get (F.MOT_STAT_STEP a) = 10 then
    let n := (axisSeq c a).ticks + 1
    let ang := BitVec.ofNat 48 (c.get (F.MOT_IDC_LRNF a) * n * 2 ^ 48 / 100000)
    setRefs a (((c.get (F.MOT_IDC_LRNI a) : Nat) : Rat) * sinRat ang) 0 (modAxis a (fun q => { q with ticks := n }) c)
  else c

/-- The 10 µs tick of a motor axis (R386, R394, R395, R415, R417). -/
def motorTick (a : Nat) (c : Chip) : Chip :=
  if isMotor c a then learnTick a (updateSpe a (hfiRule a (revbRule a (refreshMeas a (keepOff a c))))) else c

/-! ### The sampling instant (R398) -/

/-- Write the extra compare that MOT.An.SMP places. -/
def placeSample (a : Nat) (c : Chip) : Chip :=
  match axisGroups c a with
  | g :: _ =>
    if c.is (F.MOT_SMP_EN a) && g < 6 then
      let s := c.get (F.MOT_SMP_SET a)
      let p := c.get (F.PWM_G_LPER_LPER g)
      let t : Int := ((if c.is (F.MOT_SMP_POINT a) then p else p / 2 : Nat) : Int)
      let d := c.get (F.ADC_SET_CFG_DLY s) + c.get (F.ADC_SET_CFG_ACQ s)
      let pos := t - roundDiv ((500 + d * 625) * 100000 : Nat) 390625
      let n := c.get (F.MOT_SMP_XC a)
      stageXc g n ((c.seti (F.PWM_G_XC_POS g n) pos).set (F.PWM_G_XC_EN g n) 1)
    else c
  | [] => c

/-- The axes whose first group took a set that changed LPER place their sampling instants (R398). -/
def placeSamples (before : Chip) (c : Chip) : Chip :=
  c.forN 4 (fun a c => match axisGroups c a with
    | g :: _ => if before.get (F.PWM_G_LPER_LPER g) ≠ c.get (F.PWM_G_LPER_LPER g) then placeSample a c else c
    | [] => c)

/-! ### The modulation ladder (R401) -/

/-- qual(p, h) of R401, with h in 1/256. -/
def ladderQual (c : Chip) (a p h : Nat) (f mi : Rat) : Bool :=
  let hr : Rat := ((h : Nat) : Rat) / 256
  let n (x : Nat) : Rat := ((x : Nat) : Rat)
  let mhi : Rat := if c.get (F.MOT_PAT_MHI a p) = 255 then 257 / 256 else n (c.get (F.MOT_PAT_MHI a p)) / 256
  c.is (F.MOT_PAT_EN a p) && (p != c.get (F.MOT_LAD_P6 a) || c.is (F.MOT_LAD_P6EN a)) &&
    decide (n (c.get (F.MOT_PAT_FLO a p)) * (1 - hr) ≤ f) && decide (f < n (c.get (F.MOT_PAT_FHI a p)) * (1 + hr)) &&
    decide (n (c.get (F.MOT_PAT_MLO a p)) / 256 - hr ≤ mi) && decide (mi < mhi + hr)

/-- A ladder tick (R401). -/
def ladderTick (a : Nat) (c : Chip) : Chip :=
  match axisTracker c a with
  | none => c
  | some t =>
    let engd := c.is (F.KT_STAT_ENGD t)
    let off := c.sub a == .off
    let runs := c.sub a == .run || c.sub a == .stopping || (off && engd)
    if !(isMotor c a && c.is (F.MOT_LAD_EN a) && runs) || c.is (F.KT_COMMIT_PENDING t) then c else
    let f := absRat (elecHz c a)
    let mi := if off then 0 else monRat c a 4
    let cur := c.get (F.KT_STAT_CURPAT t)
    let sel : Option Nat :=
      if off then none
      else if engd && cur < 8 && ladderQual c a cur (c.get (F.MOT_LAD_HYS a)) f mi then some cur
      else (List.range 8).find? (fun p => ladderQual c a p 0 f mi)
    let c := c.wr (F.KT_NORG_NORG t).addr (c.rd (F.MOT_LORG_LORG a).addr - (axisSeq c a).mon.getD 5 0)
    let c := c.setb (F.KT_NSEL_ENG t) sel.isSome
    let c := match sel with | some p => c.set (F.KT_NSEL_PAT t) p | none => c
    commitKerf t c

/-! ### Back-EMF monitoring and stops (R418, R422) -/

/-- The 10 ms evaluation of the back-EMF constant (R422). -/
def kemfEvaluation (a : Nat) (c : Chip) : Chip :=
  let f := elecHz c a
  let psi := coefRat (c.rd (F.MOT_PSI_PSI a).addr)
  if !(axisFunc c a == 1 && psi != 0 && c.sub a == .run && !c.is (F.MOT_FLAGS_SYNC a)) ||
      decide (absRat f < ((c.get (F.MOT_KE_KEMIN a) : Nat) : Rat)) then c else
  let w := twoPi * f
  let (r, c) : Rat × Chip :=
    if w = 0 then let d := c.free; (((d.1.field 0 24 : Nat) : Rat) / 65536, d.2)
    else ((monRat c a 1 - coefRat (c.rd (F.MOT_RS_RS a).addr) * monRat c a 3 - w * coefRat (c.rd (F.MOT_LD_LD a).addr) * monRat c a 2)
      / (w * psi), c)
  let c := c.set (F.MOT_KER_RATIO a) (clampInt 0 0xFFFFFF (roundRat (r * 65536))).toNat
  let outside (x : Nat) : Bool := decide (((x : Nat) : Rat) / 1000 < absRat (r - 1))
  let ow := outside (c.get (F.MOT_KE_KEW a))
  let ok := outside (c.get (F.MOT_KE_KEF a))
  let c := modAxis a (fun q => { q with keWarn := if ow then q.keWarn + 1 else 0, keFault := if ok then q.keFault + 1 else 0 }) c
  let n := c.get (F.MOT_KE_KEN a)
  let c := if n ≤ (axisSeq c a).keWarn then (c.raise (F.MOT_STAT_KEWARN a)).evAxmon a else c
  if n ≤ (axisSeq c a).keFault then c.notice (.axis a .kemf) else c

/-- Whether axes run as in STOPPING: in the mode given, and in SAFESTOP with stop kind SS1 (R508). -/
def stopRuns (c : Chip) (m : Mode) : Bool := c.mode == m || (c.mode == .safestop && c.ms.stop == .ss1 && !c.is F.DEV_MODE_HOLD)

/-- Whether the stop rules of R418 act on axis a: not while an active short circuit holds (R472). -/
def stopActs (c : Chip) (a : Nat) : Bool := isMotor c a && stopRuns c .drive && c.sub a == .stopping && !ascOn c a

/-- |MEAS| has stayed below STOPSPD for 10 ms in STOPPING (R418). -/
def motorStopComplete (a : Nat) (c : Chip) : Chip :=
  if stopActs c a && measMag c a < c.get (F.MOT_CSTP_STOPSPD a) * 65536 then enterOff a c else c

/-- STOPTMO has passed in STOPPING (R418). -/
def motorStopTimeout (a : Nat) (c : Chip) : Chip :=
  if stopActs c a && c.get (F.MOT_CVS_STOPTMO a) != 0 then
    enterOff a (c.raise (F.MOT_STAT_STOPTO a))
  else c

/-- SP of a motor axis has been written by SETPOINT (R393, R394, R425). -/
def motorSetpoint (a : Nat) (w : Word) (c : Chip) : Chip := updateSpe a (revbRule a (c.wr (F.MOT_SP_SP a).addr w))

end Sys2Proof.Machine
end

