-- ==== Sys2Proof/Machine/Conv.lean ====
section
/-! DEFINITION. Converter axes and the power budget (13_charge_and_power_budget): starts, the carrier restart, the phase servo of a dual active bridge,
the grant and the budget limit, power limits and stops. -/

namespace Sys2Proof.Machine

/-! ### Monitor words and use -/

/-- Monitor word k of a converter axis (R434): P, V, I, G. -/
def cnvRat (c : Chip) (a k : Nat) : Rat := ((((axisSeq c a).mon.getD k 0).toInt : Int) : Rat) * twoTo (c.geti (F.CNV_MON_MONEXP a))

/-- The present use in W (R445). -/
def budgetUse (c : Chip) : Rat :=
  (List.range 4).foldl (fun s a =>
    if isConverter c a && c.is (F.CNV_CCFG_BUDEN a) && c.sub a == .run then s + absRat (cnvRat c a 0) else s) 0

/-- A power in units of 100 W, rounded to nearest, saturating (R455). -/
def hundredW (q : Rat) : Nat := (clampInt 0 65535 (roundRat (q / 100))).toNat

/-- The budget limit BL in W. -/
def blW (c : Chip) : Rat := ((c.conv.bl : Nat) : Rat) * twoTo (-16)

/-- Set BL. -/
def setBl (q : Rat) (c : Chip) : Chip := { c with conv := { c.conv with bl := (roundRat (q * 65536)).toNat } }

/-- The words that show the budget (R455). -/
def showBudget (c : Chip) : Chip :=
  let rem : Nat := match c.conv.deadline with
    | some d => (sdiff48 d c.now + 999999).toNat / 1000000
    | none => 0
  ((c.set F.CNV_BSTAT_BL (hundredW (blW c))).set F.CNV_BSTAT_USE (hundredW (budgetUse c))).set F.CNV_BFLG_RAMPREM (min rem 65535)

/-! ### The grant (R444, R445) -/

/-- The bus grant as it counts: BFALL while the lease has expired. -/
def busGrant (c : Chip) : Nat := if c.is F.CNV_BFLG_LEASE then c.get F.CNV_BLIM_BFALL else c.conv.busGrant

/-- The grant that BSRC selects (R444). -/
def grantOf (c : Chip) : Nat :=
  match c.get F.CNV_BCFG_BSRC with
  | 1 => busGrant c
  | 2 => min (c.get F.CNV_HGRANT_HG) (busGrant c)
  | _ => c.get F.CNV_HGRANT_HG

/-- A tolerance over the grant, in W. -/
def grantLimit (c : Chip) : Rat := ((100 * (c.get F.CNV_BSTAT_GRANT + c.get F.CNV_BCFG_BTOL) : Nat) : Rat)

/-- What the budget is, before a grant change. -/
def budgetMark (frame : Bool) (c : Chip) : BudgetMark :=
  { up := c.up, frame := frame, grant := c.get F.CNV_BSTAT_GRANT, bl := c.conv.bl, deadline := c.conv.deadline, ramp := c.is F.CNV_BFLG_RAMP,
    exceeded := c.is F.CNV_BFLG_BUDGET_OVER, bovl := c.is F.CNV_BFLG_BOVL, cuts := c.get F.CNV_BFLG_CUTCNT, event := c.is F.DEV_EVT3_BUDGET }

/-- The budget as it was at a mark. -/
def budgetBack (m : BudgetMark) (c : Chip) : Chip :=
  let c := { c with conv := { c.conv with bl := m.bl, deadline := m.deadline } }
  let c := ((c.set F.CNV_BSTAT_GRANT m.grant).setb F.CNV_BFLG_RAMP m.ramp).setb F.CNV_BFLG_BUDGET_OVER m.exceeded
  ((c.setb F.CNV_BFLG_BOVL m.bovl).set F.CNV_BFLG_CUTCNT m.cuts).setb F.DEV_EVT3_BUDGET m.event

/-- A host write to HGRANT and a grant frame of one cycle are one grant change with BSRC = MIN (R453): the second of them starts from the budget before the first. -/
def grantMerge (frame : Bool) (c : Chip) : Chip :=
  match c.conv.before with
  | some m => if m.up = c.up ∧ m.frame ≠ frame ∧ c.get F.CNV_BCFG_BSRC = 2 then budgetBack m c else c
  | none => c

/-- The grant in force follows its sources (R444, R445): at a grant frame, at the expiry of the lease and at a write of HGRANT or BFALL, with BSRC as it then is. -/
def grantUpdate (frame : Bool) (c : Chip) : Chip :=
  let g := grantOf c
  if g = c.get F.CNV_BSTAT_GRANT then c else
  let c := grantMerge frame c
  if g = c.get F.CNV_BSTAT_GRANT then c else
  let c := { c with conv := { c.conv with before := some (budgetMark frame c) } }
  let c := (c.set F.CNV_BSTAT_GRANT g).evBudget
  let gw : Rat := ((100 * g : Nat) : Rat)
  let use := budgetUse c
  if blW c ≤ gw ∨ use ≤ grantLimit c then
    let c := { setBl gw c with conv := { (setBl gw c).conv with deadline := none } }
    showBudget ((c.setb F.CNV_BFLG_RAMP false).setb F.CNV_BFLG_BUDGET_OVER false)
  else
    let bl := if use < blW c then use else blW c
    let per : Rat := ((100 * c.get F.CNV_BCFG_BSLEW : Nat) : Rat)
    let ms : Int := 2 * ((bl - gw) / per).ceil
    let c := setBl bl c
    let c := { c with conv := { c.conv with deadline := some (c.now + BitVec.ofInt 48 (ms * 1000000)) } }
    showBudget ((((c.raise F.CNV_BFLG_RAMP).raise F.CNV_BFLG_BUDGET_OVER).raise F.CNV_BFLG_BOVL).countSat F.CNV_BFLG_CUTCNT 1)

/-- A grant frame has arrived from the coordinator (R444). -/
def grantFrame (g : Nat) (c : Chip) : Chip :=
  let c := { c with conv := { c.conv with busGrant := g, frameUp := some c.up } }
  grantUpdate true ((c.raise F.CNV_BFLG_BUSOK).setb F.CNV_BFLG_LEASE false)

/-- The lease of the bus grant has run out (R444); a grant frame of the same cycle is taken in its place (R453). -/
def leaseExpiry (c : Chip) : Chip :=
  if c.is F.CNV_BFLG_BUSOK && c.get F.CNV_BCFG_BTMO != 0 && c.conv.frameUp != some c.up then
    grantUpdate false ((c.setb F.CNV_BFLG_BUSOK false).raise F.CNV_BFLG_LEASE)
  else c

/-- BUDGET_OVER with the use back within the grant (R445). -/
def overEnds (c : Chip) : Chip :=
  if c.is F.CNV_BFLG_BUDGET_OVER && decide (budgetUse c ≤ grantLimit c) then
    { c.setb F.CNV_BFLG_BUDGET_OVER false with conv := { c.conv with deadline := none } }
  else c

/-- The deadline of a cut with use still over the grant (R445, R446). -/
def deadlineReached (c : Chip) : Chip :=
  if c.is F.CNV_BFLG_BUDGET_OVER then
    let c := { c with conv := { c.conv with deadline := none } }
    (((c.setb F.CNV_BFLG_BUDGET_OVER false).raise F.CNV_BFLG_BUDFLT)).notice (.device .budflt)
  else c

/-- The budget's part of the 10 µs tick (R445). -/
def budgetTick (c : Chip) : Chip :=
  let gw : Rat := ((100 * c.get F.CNV_BSTAT_GRANT : Nat) : Rat)
  let c :=
    if c.is F.CNV_BFLG_RAMP then
      let bl := blW c - ((c.get F.CNV_BCFG_BSLEW : Nat) : Rat)
      if bl ≤ gw then (setBl gw c).setb F.CNV_BFLG_RAMP false else setBl bl c
    else c
  let c := overEnds c
  let late := match c.conv.deadline with | some d => reached c.now d | none => false
  showBudget (if late then deadlineReached c else c)

/-- The deadline of a cut comes (R445): a use back within the tolerance at the same instant clears BUDGET_OVER (R453). -/
def budgetDeadline (c : Chip) : Chip :=
  let c := overEnds c
  showBudget (if c.conv.deadline.isSome then deadlineReached c else c)

/-! ### Limits and set-points (R433, R447) -/

/-- PMAX × THR / 100, in W (R447). -/
def throttledMax (c : Chip) (a : Nat) : Nat := c.get (F.CNV_CCFG_PMAX a) * c.get F.THM_THR_PCT

/-- The power that axis a ramps down to falls by BSLEW W (R447). -/
def rampStep (a : Nat) (c : Chip) : Chip :=
  { c with conv := { c.conv with ramp := c.conv.ramp.set a (max 0 (c.conv.ramp.getD a 0 - (c.get F.CNV_BCFG_BSLEW : Nat))) } }

/-- PLIM shows the ramp of axis a. -/
def showRamp (a : Nat) (c : Chip) : Chip := c.wr (F.CNV_PLIM_PLIM a).addr (BitVec.ofInt 48 (c.conv.ramp.getD a 0))

/-- A ramp of axis a begins at its present |P| (R447). -/
def rampFrom (a : Nat) (c : Chip) : Chip := { c with conv := { c.conv with ramp := c.conv.ramp.set a (roundRat (absRat (cnvRat c a 0))) } }

/-- Whether the fall-back of the host watchdog ramps the power of converter axis a to zero (R74). -/
def zeroRamps (c : Chip) (a : Nat) : Bool := fallbackFor c a && !altSourceFor c a

/-- The refresh of PLIM (R447). While a fall-back ramps the power to zero (R74), PLIM is the lower of its value in RUN and of the ramp (log entry 84). -/
def refreshPlim (a : Nat) (c : Chip) : Chip :=
  match c.sub a with
  | .run =>
    let m : Rat := ((throttledMax c a : Nat) : Rat)
    let q := roundRat (if c.is (F.CNV_CCFG_BUDEN a) && decide (blW c < m) then blW c else m)
    if zeroRamps c a then
      let c := rampStep a c
      c.wr (F.CNV_PLIM_PLIM a).addr (BitVec.ofInt 48 (min q (c.conv.ramp.getD a 0)))
    else c.wr (F.CNV_PLIM_PLIM a).addr (BitVec.ofInt 48 q)
  | .stopping => showRamp a (rampStep a c)
  | _ => c.wr (F.CNV_PLIM_PLIM a).addr 0

/-- The refresh of CNV.An.SPE (R433). -/
def refreshSpe (a : Nat) (c : Chip) : Chip :=
  let sp := (c.rd (F.MOT_SP_SP a).addr).toInt
  let v : Int :=
    if axisFunc c a = 4 then min sp (c.rd (F.CNV_VLIM_VLIM a).addr).toInt
    else
      let volts := if cnvRat c a 1 < 10 then 10 else cnvRat c a 1
      let ilim := roundRat ((((c.rd (F.CNV_PLIM_PLIM a).addr).toNat : Nat) : Rat) / volts * 65536)
      let m : Int := min (sp.natAbs : Nat) ilim
      if sp < 0 then -m else m
  c.wr (F.CNV_SPE_SPE a).addr (BitVec.ofInt 48 v)

/-- In OFF, GSYNC and ARM, and in RAMPDN of an axis that has not switched, every leg of a converter axis is kept staged and committed with LMODE OFF (R436). -/
def convKeepOff (a : Nat) (c : Chip) : Chip :=
  let step := c.get (F.CNV_STAT_CSTEP a)
  let held := c.sub a == .off || step == 1 || step == 2 || (step == 4 && !c.conv.bridging.getLsbD a)
  if held && axisStray c a then stageOff a c else c

/-- The 10 µs tick of a converter axis. -/
def convTick (a : Nat) (c : Chip) : Chip := if isConverter c a then convKeepOff a (refreshSpe a (refreshPlim a c)) else c

/-- The program of converter axis a has run: its monitor words are read (R434). -/
def convRunEnd (a : Nat) (c : Chip) : Chip :=
  if !isConverter c a then c else
  let base := c.get (F.CNV_MON_MONADDR a)
  let n := if axisFunc c a = 4 then 4 else 3
  modAxis a (fun q => { q with mon := (List.range n).map (fun k => c.zmemRd ((base + k) % 65536)) }) c

/-! ### Starting (R436 to R439) -/

/-- CSTEP. -/
def setCstep (a v : Nat) (c : Chip) : Chip := c.set (F.CNV_STAT_CSTEP a) v

/-- The smallest target of the EPOCH grid that lies at least 1 ms ahead (R438). -/
def gridTarget (c : Chip) (a : Nat) : Word :=
  match axisGroups c a with
  | g :: _ =>
    let base := c.rd (F.CNV_IEP_EPOCH a).addr + BitVec.ofNat 48 (c.get (F.CNV_ILV_OFS a))
    let t : Int := (max 1 (c.get (F.PWM_G_LPER_LPER g) * 5 / 128) : Nat)
    let d := sdiff48 base c.fnow
    base + BitVec.ofInt 48 ((1000000 - d + t - 1) / t * t)
  | [] => c.fnow

/-- Entry into ARM (R438): the compare unit's words are written as one. -/
def enterArm (a : Nat) (c : Chip) : Chip :=
  let c := setCstep a 2 c
  let n := c.get (F.CNV_ILV_NC a)
  let tgt := if c.is (F.CNV_ILV_EN a) then gridTarget c a else c.fnow + 100000
  let mask := (axisGroups c a).foldl (fun m g => m + 2 ^ g) 0
  let c := c.wr (F.NWT_NCn_TGT_TGT n).addr tgt
  let c := ((c.set (F.NWT_NCn_CTL_PERIOD n) 0).set (F.NWT_NCn_CTL_ACTION n) 3).set (F.NWT_NCn_CTL_ARG n) mask
  ncArmed n (c.raise (F.NWT_NCn_CTL_ARM n))

/-- START of a converter axis (R40, R436). -/
def startConverter (a : Nat) (c : Chip) : Chip :=
  let m : BitVec 4 := ~~~(1#4 <<< a)
  let c := { c with conv := { c.conv with stopDue := c.conv.stopDue &&& m, bridging := c.conv.bridging &&& m } }
  let c := setStep a 0 true (setSub a .run c)
  let c := stageOff a c
  if axisFunc c a = 4 then setCstep a 1 c else enterArm a c

/-- The grid has held steady for SYNCT (R437). -/
def gsyncSteady (a : Nat) (c : Chip) : Chip :=
  let ok := match axisTracker c a with | some t => c.is (F.AT_STAT_VALID t) && !c.is (F.AT_STAT_SRCFLT t) | none => false
  if isConverter c a && c.get (F.CNV_STAT_CSTEP a) == 1 && ok && decide (((c.get (F.CNV_MON_VGMIN a) : Nat) : Rat) ≤ cnvRat c a 3) then
    enterArm a c
  else c

/-- SYNCTMO has passed in GSYNC (R437). -/
def gsyncTimeout (a : Nat) (c : Chip) : Chip :=
  if isConverter c a && c.get (F.CNV_STAT_CSTEP a) == 1 then c.notice (.axis a .gridsync) else c

/-- No restart within 10 ms of the target (R439). -/
def armTimeout (a : Nat) (c : Chip) : Chip :=
  if isConverter c a && c.get (F.CNV_STAT_CSTEP a) == 2 then c.notice (.axis a .armto) else c

/-- The windows of R442 for a bridge of period l. -/
def stageBridge (g l : Nat) (c : Chip) : Chip :=
  let leg (x lmode duty : Nat) (shift : Nat) (c : Chip) : Chip :=
    stageShift (3 * g + x) ((writeDuty (3 * g + x) lmode duty c).set (F.PWM_L_SHIFT_SHIFT (3 * g + x)) shift)
  leg 2 3 0 0 (leg 1 0 (l - l / 2) (l / 2) (leg 0 0 (l / 2) 0 c))

/-- The restart instant of an armed axis (R439). -/
def convActive (a : Nat) (c : Chip) : Chip :=
  let c := setCstep a 3 { c with conv := { c.conv with bridging := c.conv.bridging ||| (1#4 <<< a) } }
  if axisFunc c a = 4 then (resetAxisProgram a c).setb (F.MOT_STAT_OWN a) false
  else
    let p := match axisGroups c a with | g :: _ => c.get (F.PWM_G_LPER_LPER g) | [] => 0
    c.forEach (axisGroups c a) (fun g c => engineCommit g (stageBridge g p c))

/-- A carrier restart of the groups of a mask: the armed axes whose groups it holds become ACTIVE (R439). -/
def convRestart (mask : Nat) (c : Chip) : Chip :=
  c.forN 4 (fun a c =>
    if isConverter c a && c.get (F.CNV_STAT_CSTEP a) == 2 && !(axisGroups c a).isEmpty && (axisGroups c a).all (Nat.bitAt mask) then
      convActive a c
    else c)

/-- Compare unit n fires, and a restart it makes is the restart instant of armed axes. -/
def ncFireAll (n : Nat) (c : Chip) : Chip :=
  let restarts := ncDue c n && c.get (F.NWT_NCn_CTL_ACTION n) == 3
  let mask := c.get (F.NWT_NCn_CTL_ARG n)
  let c := ncFire n c
  if restarts then convRestart mask c else c

/-! ### The phase servo (R441 to R443) -/

/-- φ* in fine steps, clamped (R441). -/
def phaseTarget (c : Chip) (a p : Nat) : Int :=
  let m := (c.zmemRd (c.get (F.CNV_DAB_PHADDR a))).toInt
  let x := roundRat (((m : Int) : Rat) * twoTo (c.geti (F.CNV_DAB_PHEXP a)) * ((p : Nat) : Rat))
  let lim : Int := (c.get (F.CNV_DAB_PHMAX a) * p / 256 : Nat)
  clampInt (-lim) lim x

/-- The servo at a ZERO of the secondary (R443): Bs and Bp are the instants of the last boundaries of the two groups. A difference beyond one half of the period on either
side is taken as the neighbouring boundary of the primary, whose period is P throughout. -/
def phaseServo (a gp gs : Nat) (c : Chip) : Chip :=
  let p := c.get (F.PWM_G_LPER_LPER gp)
  let d : Int := ((c.pwmg gs).b - (c.pwmg gp).b).toInt / 655360
  let phm : Int := if ((p / 2 : Nat) : Int) ≤ d then d - (p : Nat) else d
  let pred : Int := phm + (c.get (F.PWM_G_LPER_LPER gs) : Nat) - (p : Nat)
  let st : Int := (c.get (F.CNV_DAB_PSTEP a) : Nat)
  let ln := ((p : Nat) + clampInt (-st) st (phaseTarget c a p - pred)).toNat
  let c := stagePer gs (c.set (F.PWM_G_PER_PER gs) ln)
  let c := engineCommit gs (stageBridge gs ln c)
  c.seti (F.CNV_STAT_PHM a) (clampInt (-8388608) 8388607 phm)

/-- The ZERO of group g has been issued: the phase servo of a DAB axis whose secondary it is (R441, R443). -/
def convZero (g : Nat) (c : Chip) : Chip :=
  c.forN 4 (fun a c =>
    if axisFunc c a = 5 && c.conv.bridging.getLsbD a && (c.get (F.CNV_STAT_CSTEP a) == 3 || c.get (F.CNV_STAT_CSTEP a) == 4) then
      match axisGroups c a with
      | [gp, gs] => if g = gs then phaseServo a gp gs c else c
      | _ => c
    else c)

/-! ### Stopping (R448, R449) -/

/-- A converter axis enters STOPPING (R447, R448); OWN of an AFE is 0 in RAMPDN (R435). -/
def beginRampdown (a : Nat) (c : Chip) : Chip :=
  if c.sub a = .run then
    let c := showRamp a (rampFrom a { c with conv := { c.conv with stopDue := c.conv.stopDue &&& ~~~(1#4 <<< a) } })
    let c := if axisFunc c a = 4 then c.setb (F.MOT_STAT_OWN a) false else c
    setCstep a 4 (setSub a .stopping c)
  else c

/-- Whether every DAB axis is OFF. -/
def dabsOff (c : Chip) : Bool := (List.range 4).all (fun a => axisFunc c a != 5 || c.sub a == .off)

/-- STOP reaches the converter axes of a list (R449): an AFE waits for the DABs. -/
def stopConverters (l : List Nat) (c : Chip) : Chip :=
  let dabNamed := l.any (fun a => axisFunc c a == 5 && c.sub a != .off)
  let dabStopping := (List.range 4).any (fun a => axisFunc c a == 5 && c.sub a == .stopping)
  c.forEach l (fun a c =>
    if axisFunc c a = 4 && (dabNamed || dabStopping) && c.sub a == .run then
      { c with conv := { c.conv with stopDue := c.conv.stopDue ||| (1#4 <<< a) } }
    else beginRampdown a c)

/-- An AFE whose STOP waited enters STOPPING once every DAB is OFF (R449). -/
def afeStopDue (c : Chip) : Chip :=
  if dabsOff c then c.forN 4 (fun a c => if c.conv.stopDue.getLsbD a then beginRampdown a c else c) else c

/-- A converter axis goes to OFF. -/
def convOff (a : Nat) (c : Chip) : Chip :=
  let m : BitVec 4 := ~~~(1#4 <<< a)
  let c := { c with conv := { c.conv with stopDue := c.conv.stopDue &&& m, bridging := c.conv.bridging &&& m } }
  enterOff a ((setCstep a 0 c).wr (F.CNV_PLIM_PLIM a).addr 0)

/-- |P| has stayed at or below PSTOP for 1 ms (R448). -/
def converterStopComplete (a : Nat) (c : Chip) : Chip :=
  if isConverter c a && stopRuns c .charge && c.sub a == .stopping &&
      decide (absRat (cnvRat c a 0) ≤ ((100 * c.get (F.CNV_CCFG_PSTOP a) : Nat) : Rat)) then convOff a c
  else c

/-- STOPTMO has passed in RAMPDN (R448). -/
def converterStopTimeout (a : Nat) (c : Chip) : Chip :=
  if isConverter c a && stopRuns c .charge && c.sub a == .stopping && c.get (F.CNV_CCFG_STOPTMO a) != 0 then
    convOff a (c.raise (F.MOT_STAT_STOPTO a))
  else c

/-! ### Hooks of both kinds of axis -/

/-- A run on logical lane j ends, and the sequencers of its program's axes read their monitor words (R386). -/
def runEndAll (j waits : Nat) (c : Chip) : Chip :=
  match laneRun c j with
  | none => c
  | some r =>
    let c := runEnd j waits c
    if (laneRun c j).isSome then c else c.forN 4 (fun a c => if c.get (F.MOT_CFG_PG a) = r.prog then convRunEnd a (motorRunEnd a c) else c)

/-- A run of SETs completes, and catches that use it compute (R405). -/
def completeRunAll (s : Nat) (c : Chip) : Chip :=
  if runReady c s then (completeRun s c).forN 4 (fun a c => catchSample a s c) else c

/-- A period boundary of group g with what the sequencers do at its ZERO (R404, R413, R443). -/
def periodBoundaryAll (g : Nat) (c : Chip) : Chip :=
  let issues := boundaryDue c g
  let c := periodBoundary g c
  if issues then convZero g (c.forN 4 (fun a c => if (axisGroups c a).head? = some g then motorZero a c else c)) else c

/-- The 10 µs tick of the sequencers (R386, R395, R433, R447). -/
def sequencerTick (c : Chip) : Chip := if c.mode = .reset then c else c.forN 4 (fun a c => convTick a (motorTick a c))

/-- SETPOINT reaches axis a (R64, R393, R433). -/
def axisSetpoint (a : Nat) (w : Word) (c : Chip) : Chip :=
  if isMotor c a then motorSetpoint a w c else c.wr (F.MOT_SP_SP a).addr w

end Sys2Proof.Machine
end

