-- ==== Sys2Proof/Machine/Protect.lean ====
section
/-! DEFINITION. Power-stage protection (14_power_stage_protection): the DC-link voltage and its ladder, precharge, the brake chopper, the protective safe
state, discharge, and which reaction a fault cause has. Carrying a reaction out is in Modes. -/

namespace Sys2Proof.Machine

/-! ### Small accessors -/

/-- Protection acts in every mode except RESET, BOOT, SELFTEST and LATCHED. -/
def protActs (m : Mode) : Bool := m != .reset && m != .boot && m != .selftest && m != .latched

/-- Change protection's own state. -/
def modProt (f : Prot → Prot) (c : Chip) : Chip := { c with prot := f c.prot }

/-- A voltage threshold field as a rational. -/
def volts (c : Chip) (f : Fld) : Rat := ((c.get f : Nat) : Rat)

/-- PCLK cycles of a number of microseconds. -/
def cyclesUs (us : Nat) : Nat := 400 * us

/-- LINK_OK is cleared, and the precharge output with it (R22, R463). -/
def linkDown (c : Chip) : Chip := modProt (fun p => { p with pchOut := false }) (c.setb F.DEV_MODE_LINK_OK false)

/-- Whether brace group GB has its outputs enabled (R468). -/
def gbEnabled (c : Chip) : Bool := outen c 6

/-- Whether there is no working chopper (R468). -/
def noChopper (c : Chip) : Bool := (chopLeg c).isNone || c.is F.PRT_CHS_CHFAIL || !gbEnabled c

/-- A device cause with a flag in PRT.DFLT becomes active (R480). -/
def raiseCause (f : Fld) (k : FaultCause) (c : Chip) : Chip := if c.is f then c else (c.raise f).notice (.device k)

/-- A crossing of a level (R461). -/
def crossing (f : Fld) (c : Chip) : Chip := (c.raise f).evDclink

/-! ### The ladder (R461, R462) -/

/-- PRT.STAT[LEVEL] (R461). -/
def showLevel (c : Chip) : Chip :=
  let p := c.prot
  c.set F.PRT_STAT_LEVEL (if p.ov3 then 5 else if p.ov2 then 4 else if p.ov1 then 3 else if p.uv2 then 1 else if p.uv1 then 2 else 0)

/-- A level with hysteresis: held, the entry and the release conditions; the new state and whether it crossed. -/
def levelStep (held enter leave : Bool) : Bool × Bool := if held then (!leave, leave) else (enter, enter)

/-- UV2 is entered: LINK_OK falls (R461). -/
def uv2Cause (c : Chip) : Chip :=
  if c.mode = .identify ∨ c.mode = .drive ∨ c.mode = .charge then raiseCause F.PRT_DFLT_UV2 .uv2 c else c

/-- The lower bound of quarter q (1 to 4) of [OV1, OV2ON) (R462). -/
def quarterBound (c : Chip) (q : Nat) : Rat :=
  volts c F.PRT_DCT0_OV1 + (volts c F.PRT_DCT1_OV2ON - volts c F.PRT_DCT0_OV1) * ((q - 1 : Nat) : Rat) / 4

/-- The quarter in which V lies: 0 below OV1, 4 from the fourth quarter on. -/
def quarterOf (c : Chip) (v : Rat) : Nat := ([1, 2, 3, 4].filter (fun q => decide (quarterBound c q ≤ v))).length

/-- RLIM and MLIM (R461, R462). -/
def setLimits (v : Rat) (c : Chip) : Chip :=
  let r := c.prot.quarter
  let q := quarterOf c v
  let r' := if !c.prot.ov1 then 0 else if r < q then q
    else if 0 < r ∧ v < quarterBound c r - volts c F.PRT_DCL_HYST then r - 1 else r
  let c := modProt (fun p => { p with quarter := r' }) c
  (c.set F.PRT_RLIM_RLIM (100 - 25 * min r' 4)).set F.PRT_MLIM_MLIM (if c.prot.uv1 then c.get F.PRT_DCL_UV1PCT else 100)

/-- The five levels at a sample V; `comp` is the comparator of R460. -/
def ladder (v : Rat) (comp : Bool) (c : Chip) : Chip :=
  let h := volts c F.PRT_DCL_HYST
  let p := c.prot
  let uv2 := levelStep p.uv2 (decide (v < volts c F.PRT_DCT0_UV2)) (decide (volts c F.PRT_DCT0_UV2 + h ≤ v))
  let uv1 := levelStep p.uv1 (decide (v < volts c F.PRT_DCT0_UV1)) (decide (volts c F.PRT_DCT0_UV1 + h ≤ v))
  let ov1 := levelStep p.ov1 (decide (volts c F.PRT_DCT0_OV1 ≤ v)) (decide (v < volts c F.PRT_DCT0_OV1 - h))
  let ov2 := levelStep p.ov2 (decide (volts c F.PRT_DCT1_OV2ON ≤ v)) (decide (v < volts c F.PRT_DCT1_OV2OFF))
  let ov3 := levelStep p.ov3 (decide (volts c F.PRT_DCT1_OV3 ≤ v) || comp) (decide (v < volts c F.PRT_DCT1_OV3 - h) && !comp)
  let c := modProt (fun p => { p with uv2 := uv2.1, uv1 := uv1.1, ov1 := ov1.1, ov2 := ov2.1, ov3 := ov3.1 }) c
  let c := if uv2.2 then crossing F.PRT_STAT_UV2X c else c
  let c := if uv2.2 && uv2.1 then linkDown c else c
  let c := if uv2.1 then uv2Cause c else c
  let c := if uv1.2 then crossing F.PRT_STAT_UV1X c else c
  let c := if ov1.2 then crossing F.PRT_STAT_OV1X c else c
  let c := if ov2.2 then crossing F.PRT_STAT_OV2X c else c
  let c := if ov3.2 then crossing F.PRT_STAT_OV3X c else c
  let c := if ov3.2 && ov3.1 then raiseCause F.PRT_DFLT_OV3 .ov3 c else c
  showLevel (setLimits v c)

/-- Whether the comparator of R460 holds OV3. -/
def ov3Comparator (c : Chip) : Bool := c.is F.PRT_DCL_CMPEN && compActs c (c.get F.PRT_DCL_CMP)

/-- The comparator of R460 has become true: OV3 is entered. -/
def ov3Enter (c : Chip) : Chip :=
  if protActs c.mode && ov3Comparator c && !c.prot.ov3 then
    showLevel (raiseCause F.PRT_DFLT_OV3 .ov3 (crossing F.PRT_STAT_OV3X (modProt (fun p => { p with ov3 := true }) c)))
  else c

/-! ### Precharge (R463, R464) -/

/-- Entry into PRECHARGE: the output is set and the envelope timer starts at 0. -/
def startPrecharge (c : Chip) : Chip := modProt (fun p => { p with pchOut := true, pchAt := c.up, pchRun := none }) c

/-- The level that protection drives on ball GPIOn, if it drives it (R463). -/
def prechargeBall (c : Chip) (n : Nat) : Option Bool := if c.is F.PRT_PCH_PCEN && c.get F.PRT_PCH_GPIO == n then some c.prot.pchOut else none

/-- The envelope is violated: 1 FAST, 2 SLOW, 3 TIMEOUT. -/
def envelopeViolated (kind : Nat) (c : Chip) : Chip :=
  let c := linkDown (raiseCause F.PRT_DFLT_PRECH .prech (c.set F.PRT_STAT_PCRSN kind))
  c.notice (.complete .standby .complete)

/-- The envelope at a sample V in PRECHARGE (R464). -/
def envelope (v : Rat) (c : Chip) : Chip :=
  if c.mode ≠ .precharge then c else
  let t := c.up - c.prot.pchAt
  let ended := decide (volts c F.PRT_PCH_PCEND ≤ v)
  let tmin := cyclesUs (1000 * c.get F.PRT_PCH_PCTMIN)
  let run : Option Nat := if t < tmin ∨ !ended then none else some (c.prot.pchRun.getD c.up)
  let c := modProt (fun p => { p with pchRun := run }) c
  let met := match run with | some s => decide (cyclesUs 10000 ≤ c.up - s) | none => false
  if ended && decide (t < tmin) then envelopeViolated 1 c
  else if cyclesUs (10000 * c.get F.PRT_PCH_PCT1) ≤ t ∧ v * 100 < volts c F.PRT_PCH_PCV1 * volts c F.PRT_PCH_PCEND then envelopeViolated 2 c
  else if met then (c.raise F.DEV_MODE_LINK_OK).notice (.complete .standby .complete)
  else if cyclesUs (100000 * c.get F.PRT_PCH_PCTMAX) ≤ t then envelopeViolated 3 c
  else c

/-- PCTMAX has passed without the envelope met (R464). -/
def prechargeTimeout (c : Chip) : Chip := if c.mode = .precharge then envelopeViolated 3 c else c

/-! ### The brake chopper (R465 to R468) -/

/-- A duty ratio of GB's period in fine steps, rounded to the nearest as a STAGE block's is (R384): R465 and R473 state the ratio alone (log entry 89). -/
def braceDuty (c : Chip) (r : Rat) : Nat :=
  let p := c.get (F.PWM_G_LPER_LPER 6)
  (clampInt 0 p (roundRat (r * ((p : Nat) : Rat)))).toNat

/-- Stage a brace leg's switch and commit GB. The function writes DUTY and SHIFT (R243); no rule states the shift: a free value (log entry 83). -/
def stageBrace (leg : Nat) (low : Bool) (kind duty : Nat) (c : Chip) : Chip :=
  let lmode := match kind with | 0 => 3 | 1 => (if low then 5 else 4) | _ => (if low then 2 else 1)
  let (w, c) := c.free
  commitGroup 6 (writeShift leg w.toInt (writeDuty leg lmode duty c))

/-- CHON, with its turn-ons counted (R465). -/
def setChon (on : Bool) (c : Chip) : Chip :=
  let c := if on && !c.is F.PRT_CHS_CHON then c.countSat F.PRT_CHS_CHONCNT 1 else c
  c.setb F.PRT_CHS_CHON on

/-- The chopper's command at a sample V (R465): none while GB has its outputs disabled, and OFF from a failure on (R466). -/
def chopper (v : Rat) (c : Chip) : Chip :=
  match chopLeg c with
  | none => c
  | some leg =>
    if !gbEnabled c then setChon false c else
    let low := c.is F.PRT_CHP_SW
    if c.is F.PRT_CHS_CHFAIL then setChon false (stageBrace leg low 0 0 c) else
    if !c.is F.PRT_CHP_MODE then setChon c.prot.ov2 (stageBrace leg low (bit c.prot.ov2) 0 c)
    else
      let off := volts c F.PRT_DCT1_OV2OFF
      let span := volts c F.PRT_DCT1_OV2ON - off
      if v < off then setChon false (stageBrace leg low 0 0 c)
      else
        let r : Rat := if v - off < span then (v - off) / span else 1
        let duty := braceDuty c r
        setChon (duty != 0) (stageBrace leg low 2 duty c)

/-- The chopper has failed (R466). -/
def chopperFailed (c : Chip) : Chip := setChon false ((c.raise F.PRT_CHS_CHFAIL).evChopper)

/-- Whether the chopper switch is on at stage 6. -/
def chopperOn (c : Chip) : Bool := match chopLeg c with | some n => outOn c n (!c.is F.PRT_CHP_SW) | none => false

/-- Whether the chopper comparator shows current. -/
def chopperCurrent (c : Chip) : Bool := c.is F.PRT_CHP_CMPEN && compActs c (c.get F.PRT_CHP_CMP)

/-- 5 µs after a turn-on launch of the chopper switch (R466). -/
def chnoiCheck (c : Chip) : Chip :=
  let due := c.prot.chopDue
  let seen := c.prot.chopSeen
  let c := modProt (fun p => { p with chopDue := false }) c
  if due && !seen && chopperOn c && c.is F.PRT_CHP_CMPEN then chopperFailed (c.raise F.PRT_CHS_CHNOI) else c

/-- The chopper watch: launches of its switch, current seen, and current with the switch off (R466, R467). -/
def watchChopper (before : Bool) (c : Chip) : Chip :=
  let now := chopperOn c
  let cur := chopperCurrent c
  let c :=
    if now && !before then modProt (fun p => { p with chopDue := true, chopSeen := cur }) c
    else if before && !now then modProt (fun p => { p with chopOffAt := some c.up, chopDue := false }) c
    else if cur then modProt (fun p => { p with chopSeen := true }) c
    else c
  let stuck := match c.prot.chopOffAt with | some t => decide (cyclesUs 20 ≤ c.up - t) | none => false
  if !now && cur && stuck && protActs c.mode then
    if c.is F.PRT_CHS_CHSTUCK then c
    else (raiseCause F.PRT_DFLT_CHOPPER_STUCK .chopperStuck (c.raise F.PRT_CHS_CHSTUCK)).evChopper
  else c

/-- A host clear of CHFAIL (R466): accepted only while neither switch of the leg holds a fault latch. -/
def chfailClear (c : Chip) : Chip :=
  let held := match chopLeg c with | some n => c.is (latchFld n true) || c.is (latchFld n false) | none => false
  if held then c else c.setb F.PRT_CHS_CHFAIL false

/-- OV2 held with no working chopper: the cause arises when the last of the two becomes true (R468). -/
def watchOv2 (c : Chip) : Chip :=
  let now := c.prot.ov2 && noChopper c && protActs c.mode
  let was := c.prot.nochop
  let c := modProt (fun p => { p with nochop := now }) c
  if now && !was then raiseCause F.PRT_DFLT_OV2_NOCHOP .ov2NoChop c else c

/-! ### Discharge (R473 to R475) -/

/-- Whether a discharge path is available (R474). -/
def dischargeAvailable (c : Chip) : Bool :=
  match c.get F.PRT_DIS_PATH with
  | 1 => (dischLeg c).isSome && !c.is (F.GDS_G_STAT_FAULT 6)
  | 2 =>
    let a := c.get F.PRT_DIS_AXIS
    let valid := match axisTracker c a with | some t => c.is (F.AT_STAT_VALID t) | none => false
    (axisFunc c a == 1 || axisFunc c a == 2) && !c.is (F.DEV_AXST_AXFLT a) &&
      !(axisGroups c a).any (fun g => c.is (F.GDS_G_STAT_FAULT g)) && valid && decide (measMag c a ≤ c.get F.PRT_DISW_DWSPD * 65536)
  | _ => false

/-- Entry into DISCHARGE (R473, R463). -/
def startDischarge (c : Chip) : Chip :=
  let c := modProt (fun p => { p with pchOut := false, pathLost := false }) c
  match c.get F.PRT_DIS_PATH with
  | 1 =>
    match dischLeg c with
    | some n =>
      stageBrace n (c.is F.PRT_DIS_SW) 2 (braceDuty c (((c.get F.PRT_DIS_DUTY + 1 : Nat) : Rat) / 256)) c
    | none => c
  | 2 =>
    let a := c.get F.PRT_DIS_AXIS
    let c := (resetAxisProgram a c).setb (F.MOT_STAT_OWN a) false
    setRefs a ((c.get F.PRT_DISW_DISI : Nat) : Rat) 0 (setInject a true false false c)
  | _ => c

/-- The outputs of the discharge path turn off when DISCHARGE is left. -/
def endDischarge (c : Chip) : Chip :=
  let c := match c.get F.PRT_DIS_PATH with
    | 1 => (match dischLeg c with | some n => stageBrace n (c.is F.PRT_DIS_SW) 0 0 c | none => c)
    | 2 => enterOff (c.get F.PRT_DIS_AXIS) c
    | _ => c
  linkDown (modProt (fun p => { p with dischargeEnd := true }) c)

/-- A sample V in DISCHARGE (R475). -/
def dischargeSample (v : Rat) (c : Chip) : Chip :=
  if c.mode = .discharge ∧ v ≤ volts c F.PRT_DIS_DTGT then c.notice (.complete .standby .complete) else c

/-- DTMO has passed in DISCHARGE (R475). -/
def dischargeTimeout (c : Chip) : Chip :=
  if c.mode = .discharge then (raiseCause F.PRT_DFLT_DISCH_TMO .dischTmo c).notice (.complete .standby .complete) else c

/-- The winding axis turns faster than DWSPD in DISCHARGE (R475). -/
def watchWinding (c : Chip) : Chip :=
  let a := c.get F.PRT_DIS_AXIS
  if c.mode = .discharge && c.get F.PRT_DIS_PATH == 2 && !c.prot.pathLost && decide (c.get F.PRT_DISW_DWSPD * 65536 < measMag c a) then
    stageOff a (modProt (fun p => { p with pathLost := true }) c)
  else c

/-! ### Samples (R458 to R460) -/

/-- V of the result word of the DC-link slot (R458). -/
def linkVolts (c : Chip) (w : Word) : Rat :=
  ((resultCode (c.is (F.ADC_SET_CFG_ALIGN (c.get F.PRT_DCL_SET))) (w.field 0 24) : Nat) : Rat) * coefRat (c.rd (F.PRT_VSC_VSC).addr)

/-- A completion of the DC-link set: the sample is taken unless its result carries STALE or REFNS (R458). -/
def protSample (c : Chip) : Chip :=
  let w := c.rd (F.ADC_SET_R_VALUE (c.get F.PRT_DCL_SET) (c.get F.PRT_DCL_SLOT)).addr
  if !protActs c.mode || w.field 47 1 == 1 || w.field 42 1 == 1 then c else
  let v := linkVolts c w
  let c := modProt (fun p => { p with v := v }) ((c.set F.PRT_STAT_VDC (clampInt 0 65535 (roundRat (v * 10))).toNat).raise F.PRT_STAT_VOK)
  dischargeSample v (envelope v (chopper v (ladder v (ov3Comparator c) c)))

/-- No sample has been taken for VTMO (R459). -/
def vlostTimeout (c : Chip) : Chip :=
  let c := c.setb F.PRT_STAT_VOK false
  if protActs c.mode && c.mode != .config then raiseCause F.PRT_DFLT_VLOST .vlost c else c

/-! ### The protective safe state (R469 to R472) -/

/-- Whether a low or a high switch of axis a holds a fault latch. -/
def axisLatch (c : Chip) (a : Nat) (high : Bool) : Bool := (axisGroups c a).any (fun g => (legsOf g).any (fun n => c.is (latchFld n high)))

/-- Whether a group of axis a is in its fault state. -/
def axisGroupFault (c : Chip) (a : Nat) : Bool := (axisGroups c a).any (fun g => c.is (F.GDS_G_STAT_FAULT g))

/-- Whether the tracker of axis a is VALID. -/
def trackerValid (c : Chip) (a : Nat) : Bool := match axisTracker c a with | some t => c.is (F.AT_STAT_VALID t) | none => false

/-- The safe state of axis a (R469): 1 ASC_LOW, 2 ASC_HIGH, 3 FREEWHEEL. -/
def selectSafe (c : Chip) (a : Nat) : Nat :=
  let side := c.get (F.PRT_SSC_SIDE a)
  if axisFunc c a ≠ 1 ∨ !c.is (F.PRT_SSC_ASCEN a) then 3
  else if axisGroupFault c a then 3
  else if trackerValid c a && decide (measMag c a < c.get (F.PRT_SSC_ASCSPD a) * 65536) then 3
  else if side ≠ 1 ∧ !axisLatch c a false then 1
  else if (side = 1 ∨ side = 2) ∧ !axisLatch c a true then 2
  else 3

/-- Record a safe state and its cause (R470). -/
def recordSafe (a st idx : Nat) (c : Chip) : Chip := ((c.set (F.PRT_SST_STATE a) st).set (F.PRT_SST_SCAUSE a) idx).evSafeState

/-- Apply an active short circuit (R470). -/
def applyAsc (a st : Nat) (c : Chip) : Chip :=
  let c := setStep a 0 true c
  let c := c.forN 6 (fun t c =>
    if c.is (F.KT_STAT_ENGD t) && (boundGroups c t).any (axisGroups c a).contains then setEngaged t false c.time.fwt (discardPending t c) else c)
  let c := if trackerValid c a then c else c.raise (F.PRT_SST_UNKSPD a)
  c.forEach (axisGroups c a) (fun g c =>
    restartAfterCommit g (commitGroup g (c.forEach (legsOf g) (fun n c => writeDuty n (if st = 1 then 5 else 4) 0 c))))

/-- The protective safe state of axis a is selected and applied with the cause of an index (R469, R470). -/
def safeState (a idx : Nat) (c : Chip) : Chip :=
  let st := selectSafe c a
  let c := recordSafe a st idx c
  if st = 3 then enterOff a c else applyAsc a st c

/-- An active short circuit ends in FREEWHEEL (R472). -/
def ascEnd (a : Nat) (c : Chip) : Chip := enterOff a (recordSafe a 3 (c.get (F.PRT_SST_SCAUSE a)) c)

/-- The second event of R472: ASCTMAX has passed without a valid tracker. -/
def ascTimeout (a : Nat) (c : Chip) : Chip := if ascOn c a && !trackerValid c a then ascEnd a c else c

/-- The first event of R472, at a refresh of MEAS. -/
def ascSpeed (a : Nat) (c : Chip) : Chip :=
  if ascOn c a && trackerValid c a && decide (measMag c a < c.get (F.PRT_SSC_ASCOFF a) * 65536) then ascEnd a c else c

/-- The 10 µs tick of the axes, with the first event of R472 at each refresh of MEAS. -/
def axesTick (c : Chip) : Chip := if c.mode = .reset then c else (sequencerTick c).forN 4 ascSpeed

/-- The third event of R472. -/
def ascAbort (a : Nat) (c : Chip) : Chip :=
  if ascOn c a && (axisGroupFault c a || axisLatch c a (c.get (F.PRT_SST_STATE a) == 2)) then ascEnd a (c.raise (F.PRT_SST_ASCABORT a)) else c

/-- STATE returns to NONE (R489). -/
def clearSafe (a : Nat) (c : Chip) : Chip := c.set (F.PRT_SST_STATE a) 0

/-! ### Reactions (R477 to R482) -/

/-- The index of a cause in the table of R480, from 1. -/
def causeIndex : FaultCause → Nat
  | .ov3 => 1 | .ov2NoChop => 2 | .chopperStuck => 3 | .uv2 => 4 | .prech => 5 | .dischTmo => 6 | .vlost => 7 | .refflt => 8 | .convDead => 9
  | .dlfail => 10 | .degraded => 11 | .wrapDev => 12 | .budflt => 13 | .group => 14 | .tracker => 15 | .wrap => 16 | .kemf => 17
  | .polarity => 18 | .catch => 19 | .align => 20 | .gridsync => 21 | .armto => 22

/-- The reaction of a cause (R480, R487), by its value in R477. -/
def reactionOf (c : Chip) (k : FaultCause) : Nat :=
  match k with
  | .ov3 | .ov2NoChop | .vlost => 3
  | .chopperStuck => 7
  | .prech | .dischTmo => 0
  | .uv2 => c.get F.PRT_FR_UV2
  | .refflt => c.get F.PRT_FR_REFFLT
  | .convDead => c.get F.PRT_FR_CONV_DEAD
  | .dlfail => c.get F.PRT_FR_DLFAIL
  | .degraded => c.get F.PRT_FR_DEGRADED
  | .wrapDev => c.get F.PRT_FR_WRAP_DEV
  | .budflt => c.get F.PRT_FR_BUDFLT
  | .tracker => c.get F.PRT_FR_TRACKER
  | .wrap => c.get F.PRT_FR_WRAP
  | .kemf => c.get F.PRT_FR_KEMF
  | .group | .polarity | .catch | .align | .gridsync | .armto => 1

/-- Whether a device cause is active (R480). -/
def deviceActive (c : Chip) (k : FaultCause) : Bool :=
  match k with
  | .ov3 => c.is F.PRT_DFLT_OV3
  | .ov2NoChop => c.is F.PRT_DFLT_OV2_NOCHOP
  | .chopperStuck => c.is F.PRT_DFLT_CHOPPER_STUCK
  | .uv2 => c.is F.PRT_DFLT_UV2
  | .prech => c.is F.PRT_DFLT_PRECH
  | .dischTmo => c.is F.PRT_DFLT_DISCH_TMO
  | .vlost => c.is F.PRT_DFLT_VLOST
  | .refflt => c.is F.ADC_STAT_REFFLT
  | .convDead => (List.range 16).any (fun cv => c.get (F.ADC_C_STAT_STATE cv) == 6 && convUsed c cv)
  | .dlfail => (List.range 7).any (fun g => c.is (F.PWM_G_DLC_DLFAIL g))
  | .degraded => c.is F.ZEN_STAT_DEGRADED
  | .wrapDev => c.prot.wrapDev && (c.rd 0x12).field 16 1 == 1
  | .budflt => c.is F.CNV_BFLG_BUDFLT
  | _ => false

/-- The device causes of R480. -/
def deviceCauses : List FaultCause :=
  [.ov3, .ov2NoChop, .chopperStuck, .uv2, .prech, .dischTmo, .vlost, .refflt, .convDead, .dlfail, .degraded, .wrapDev, .budflt]

/-- Whether an active device cause has a reaction other than REPORT (R481). -/
def faultPending (c : Chip) : Bool := deviceCauses.any (fun k => deviceActive c k && reactionOf c k != 0)

/-- Whether a reaction of protection that names axis a is active (R421). -/
def axisNamed (c : Chip) (a : Nat) : Bool :=
  deviceCauses.any (fun k => deviceActive c k && (if k == .budflt then isConverter c a && c.is (F.CNV_CCFG_BUDEN a) else reactionOf c k != 0))

/-- A write of 1 to MOT.An.CLR[CLR] (R421). -/
def motClear (a : Nat) (c : Chip) : Chip :=
  let cause := c.get (F.MOT_STAT_CAUSE a)
  let trackerOk := match axisTracker c a with
    | some t => c.is (F.AT_STAT_VALID t) && !c.is (F.AT_STAT_SRCFLT t)
    | none => false
  if c.sub a == .off && !ascOn c a && !axisGroupFault c a && (trackerOk || cause != 2) && !(cause == 7 && axisNamed c a) then
    let c := (c.setb (F.DEV_AXST_AXFLT a) false).set (F.MOT_STAT_CAUSE a) 0
    clearSafe a (c.set (F.CNV_STAT_CCAUSE a) 0)
  else c.raise (F.MOT_STAT_CLRREF a)

/-- A host write of PRT.DFLT (R482): bits whose condition has ended clear. -/
def dfltClear (w : Word) (c : Chip) : Chip :=
  let h := volts c F.PRT_DCL_HYST
  let v := c.prot.v
  let ok : Nat → Bool := fun k => match k with
    | 0 => decide (v < volts c F.PRT_DCT1_OV3 - h) && !ov3Comparator c
    | 1 => !c.prot.ov2 || (!c.is F.PRT_CHS_CHFAIL && (chopLeg c).isSome)
    | 2 => false
    | 3 => decide (volts c F.PRT_DCT0_UV2 + h ≤ v)
    | 6 => c.is F.PRT_STAT_VOK
    | _ => true
  c.forN 7 (fun k c => if w.getLsbD k && ok k then c.wr 0xB000C ((c.rd 0xB000C).setField k 1 0) else c)

/-- A completion of SETs with what catches and protection do (R405, R458). -/
def completeRunProt (s : Nat) (c : Chip) : Chip :=
  if runReady c s then
    let c := completeRunAll s c
    if c.get F.PRT_DCL_SET = s then protSample c else c
  else c

/-- What comparator conditions do at once (R227, R460): cuts and trips, and OV3. -/
def watchAll (before c : Chip) : Chip :=
  let c := watchDrive before c
  if c.adc.compSettled then ov3Enter c else c

end Sys2Proof.Machine
end

