-- ==== Sys2Proof/Machine/Rind.lean ====
section
/-! DEFINITION. The Rind safety island (15_rind_safety_island): its parameter set, conversions, comparisons and torque monitors, demands and
their acknowledgement, internal faults and the STO outputs. What a demand does to the mode is in Modes. -/

namespace Sys2Proof.Machine

/-! ### The parameter set in force (R491, R544) -/

/-- The bits of a word that SL fields hold. -/
def slMask (a : Nat) : Word :=
  match wordAt a with
  | some d => d.fields.foldl (fun w f => if f.acc = .sl then w ||| BitVec.ofNat 48 ((2 ^ f.width - 1) * 2 ^ f.lo) else w) 0
  | none => 0

/-- The addresses of the SIN words that hold SL fields, ascending. -/
def sinWords : List Nat := ((List.range 0x150).map (· + 0xD0000)).filter (fun a => slMask a != 0)

/-- The SL fields of the SIN words as they stand, taken whole with other fields as zero (R544). -/
def slImage (c : Chip) : List (Nat × Word) := sinWords.map (fun a => (a, c.rd a &&& slMask a))

/-- The check value of a set (R53, R544). -/
def checkValue (l : List (Nat × Word)) : Nat := (crc32 (l.map (·.2))).toNat

/-- The CRC of the Rind block of a set (R491). -/
def rindCrc (l : List (Nat × Word)) : Nat := (crc32 ((l.filter (fun e => decide (0xD0100 ≤ e.1) && decide (e.1 < 0xD0140))).map (·.2))).toNat

/-- A field of the set in force. -/
def Chip.pf (c : Chip) (f : Fld) : Nat := (((c.rind.inForce.find? (·.1 == f.addr)).map (·.2)).getD (resetWord f.addr)).field f.lo f.width

/-- A one-bit field of the set in force. -/
def Chip.pb (c : Chip) (f : Fld) : Bool := c.pf f == 1

/-- A signed field of the set in force. -/
def Chip.pi (c : Chip) (f : Fld) : Int := signed f.width (c.pf f)

/-- A coefficient of a signed mantissa and a signed exponent of the set in force (R521). -/
def coefPf (c : Chip) (g f : Fld) : Rat := ((c.pi g : Int) : Rat) * twoTo (c.pi f)

/-- Change Rind. -/
def modRind (f : Rind → Rind) (c : Chip) : Chip := { c with rind := f c.rind }

/-- Change torque monitor m. -/
def modMon (m : Nat) (f : RindMon → RindMon) (c : Chip) : Chip := modRind (fun r => { r with mon := r.mon.modify m f }) c

/-- Torque monitor m. -/
def rindMon (c : Chip) (m : Nat) : RindMon := c.rind.mon.getD m {}

/-- Milliseconds as PCLK cycles. -/
def cyclesMs (ms : Nat) : Nat := 400000 * ms

/-! ### Demands (R507, R511) -/

/-- The default stop kind (R521): true for SS1. -/
def defaultSs1 (c : Chip) : Bool := c.pf F.SIN_RSTOP_DEFKIND == 1

/-- A condition of demand bit k is present or absent. -/
def setCond (k : Nat) (on : Bool) (c : Chip) : Chip :=
  let was := c.rind.cond.getLsbD k
  modRind (fun r => { r with cond := if on then r.cond ||| (1#13 <<< k) else r.cond &&& ~~~(1#13 <<< k),
                             absentAt := if was && !on then r.absentAt.set k c.up else r.absentAt }) c

/-- Rind raises demand bit k (R507, R511): stop kind STO, unless a kind is given. -/
def demand (k : Nat) (kind : StopKind) (c : Chip) : Chip :=
  let was := (c.rd 0xC0001).field k 1 == 1
  let c := setCond k true (c.wr 0xC0001 ((c.rd 0xC0001).setField k 1 1))
  if was then c else (c.evSafeDemand).notice (.safety kind)

/-- A condition that comes and goes: it demands while it is true. -/
def demandIf (k : Nat) (on : Bool) (c : Chip) : Chip := if on then demand k .sto c else setCond k false c

/-- A write of 1 to SIN.RACK[ACK] (R511). -/
def rackWrite (c : Chip) : Chip :=
  let c := c.forN 12 (fun k c =>
    if !c.rind.cond.getLsbD k && decide (cyclesMs 100 ≤ c.up - c.rind.absentAt.getD k 0) then c.wr 0xC0001 ((c.rd 0xC0001).setField k 1 0) else c)
  (c.setb F.SAF_DIAG_MISMATCH false).countMod F.SAF_STAT_ACKCNT 1

/-- The Rind latch is set with the cause that it holds (R36, R43). -/
def setRindLatch (cause : Cause) (c : Chip) : Chip :=
  modRind (fun r => if r.latch then r else { r with latch := true, latchCause := cause }) (c.raise F.DEV_MODE_LATCH)

/-- An internal fault (R514): bit of SAF.DIAG, STO, SSOA and SSOB low, the Rind latch, LATCHED. -/
def internalFault (k : Nat) (c : Chip) : Chip :=
  if (c.rd 0xC0002).field k 1 == 1 then c else
  let c := (c.wr 0xC0002 ((c.rd 0xC0002).setField k 1 1)).evRindDiag
  (setRindLatch .internal c).notice (.latch .internal)

/-- Whether a Rind internal fault is latched. -/
def rindFaulted (c : Chip) : Bool := (c.rd 0xC0002).field 0 8 != 0

/-! ### Conversions (R496 to R499) -/

/-- The role of a slot (R499). -/
def slotRole (c : Chip) (k : Nat) : Nat := if c.pf (F.SIN_RROLE_ROLE k) ≤ 13 then c.pf (F.SIN_RROLE_ROLE k) else 0

/-- The slot that holds a role. -/
def roleSlot (c : Chip) (r : Nat) : Option Nat := (List.range 8).find? (fun k => slotRole c k == r)

/-- VAL of slot k for a code (R499). -/
def slotVal (c : Chip) (k code : Nat) : Rat :=
  (((code : Int) - (c.pf (F.SIN_RSCL_OFS k) : Nat) : Int) : Rat) * coefPf c (F.SIN_RSCL_G k) (F.SIN_RSCL_F k)

/-- The latest VAL of the slot of a role; zero without one. -/
def roleVal (c : Chip) (r : Nat) : Rat := match roleSlot c r with | some k => slotVal c k (c.get (F.SAF_R_CODE k)) | none => 0

/-- An angle from its sine and cosine as ratios. -/
def atanRat (s k : Rat) : Word := atan2Of (roundRat (s * twoTo 32)) (roundRat (k * twoTo 32))

/-- The resolver angle of monitor m follows new values of its slots (R502). -/
def resolverUpdate (m : Nat) (c : Chip) : Chip :=
  let th := BitVec.ofNat 48 ((atanRat (roleVal c (8 + 2 * m)) (roleVal c (9 + 2 * m))).toNat * max 1 (c.pf (F.SIN_RTM_CFG_RRATIO m)))
  let q := rindMon c m
  let dt := c.up - q.resAt
  let spd := if q.resOk && dt != 0 then ((sdiff48 th q.resTh : Int) : Rat) / ((dt : Nat) : Rat) else q.resSpd
  modMon m (fun q => { q with resTh := th, resAt := c.up, resSpd := spd, resOk := true }) c

/-- A scan's self-test result of converter v is out of range (R498). -/
def scanResult (v : Nat) (bad last : Bool) (c : Chip) : Chip :=
  let b := bad || c.rind.scanBad.getD v false
  if last then
    let c' := modRind (fun r => { r with scanBad := r.scanBad.set v false, lastBad := r.lastBad.set v b }) c
    if b && c.rind.lastBad.getD v false then internalFault 5 c' else c'
  else modRind (fun r => { r with scanBad := r.scanBad.set v b }) c

/-- A conversion of a Rind converter ends with a code (R496 to R499): items 0 to 7 the slots, 8 and 9 ZERO and RHALF of SA0, 10 and 11 of
SA1. A slot that names no channel is not converted. -/
def saConversion (item code : Nat) (c : Chip) : Chip :=
  if item < 8 && decide (0x31 < c.pf (F.SIN_RSCAN_CH item)) then c else
  match item with
  | 8 => scanResult 0 (decide (8 < code)) false c
  | 9 => scanResult 0 (decide (code < 2032 ∨ 2064 < code)) true c
  | 10 => scanResult 1 (decide (8 < code)) false c
  | 11 => scanResult 1 (decide (code < 2032 ∨ 2064 < code)) true c
  | k =>
    let v := slotVal c k code
    let c := (c.set (F.SAF_R_CODE k) code).seti (F.SAF_R_VAL k) (clampInt (-2147483648) 2147483647 (roundRat (v * 65536)))
    let c := modRind (fun r => { r with seen := r.seen ||| (1#8 <<< k), cmp := r.cmp.modify k (fun x => { x with sumR := x.sumR + v, nR := x.nR + 1 }) }) c
    match slotRole c k with
    | 8 | 9 => resolverUpdate 0 c
    | 10 | 11 => resolverUpdate 1 c
    | 12 =>
      if c.get F.ADC_STAT_REFACT = 1 then
        let bad := decide (v * 100 < 240) || decide (340 < v * 100)
        let run := if bad then c.rind.refRun + 1 else 0
        demandIf 7 (decide (2 ≤ run)) (modRind (fun r => { r with refRun := run }) c)
      else setCond 7 false (modRind (fun r => { r with refRun := 0 }) c)
    | _ => c

/-- Whether a voltage in µV is the condition of comparator RCk (R500, R522): a threshold code t stands for t × 3.300 V / 4,096. -/
def rcmpCond (c : Chip) (k uv : Nat) : Bool :=
  let above := decide (c.pf (F.SIN_RCMP_HI k) * 3300000 < uv * 4096)
  let below := decide (uv * 4096 < c.pf (F.SIN_RCMP_LO k) * 3300000)
  match c.pf (F.SIN_RCMP_MODE k) with
  | 1 => below
  | 2 => above || below
  | _ => above

/-- Comparator RCk is judged: it demands while it is enabled on an AIN channel and its condition is true. -/
def rcmpEval (k : Nat) (c : Chip) : Chip :=
  match c.rind.rcmpUv.getD k none with
  | some uv => demandIf k (c.pb (F.SIN_RCMP_EN k) && decide (c.pf (F.SIN_RCMP_CH k) < 48) && rcmpCond c k uv) c
  | none => c

/-- The input of Rind comparator k has stood at a voltage, in µV, through its filter (R500). -/
def rcmpLevel (k uv : Nat) (c : Chip) : Chip := rcmpEval k (modRind (fun r => { r with rcmpUv := r.rcmpUv.set k (some uv) }) c)

/-! ### Cross-comparison (R501) -/

/-- A main result word, written to the engine, is seen by the comparisons that name it. -/
def tapResult (s slot : Nat) (w : Word) (c : Chip) : Chip :=
  if w.field 47 1 == 1 || w.field 42 1 == 1 then c else
  c.forN 8 (fun k c =>
    if c.pb (F.SIN_RXC_EN k) && c.pf (F.SIN_RXC_SET k) == s && c.pf (F.SIN_RXC_SLOT k) == slot then
      let code := resultCode (c.is (F.ADC_SET_CFG_ALIGN s)) (w.field 0 24 : Nat)
      let x : Int := if slotDiff (c.rd (F.ADC_SET_SL s slot)) then signed 16 code else (code : Int)
      modRind (fun r => { r with cmp := r.cmp.modify k (fun q => { q with sumM := q.sumM + x - (c.pf (F.SIN_RXS_OFSm k) : Nat), nM := q.nM + 1 }) }) c
    else c)

/-- The present rank of a run ends, and Rind's taps see the results (R491). -/
def rankEndAll (s : Nat) (raw : List Nat) (c : Chip) : Chip :=
  let before := match setRun c s with | some r => r.results.length | none => 0
  let c := rankConversionEnd s raw c
  let new := match setRun c s with | some r => r.results.drop before | none => []
  c.forEach new (fun p c => tapResult s p.1 p.2 c)

/-- Whether an enabled comparison has missed NMISS times in a row (R501). -/
def crossMissed (c : Chip) : Bool :=
  (List.range 8).any (fun j => c.pb (F.SIN_RXC_EN j) && decide (max 1 (c.pf (F.SIN_RXC_NMISS j)) ≤ (c.rind.cmp.getD j {}).run))

/-- A comparison window of slot k ends (R501); a mean of no conversions has no value. -/
def crossWindow (k : Nat) (c : Chip) : Chip :=
  if !c.pb (F.SIN_RXC_EN k) then demandIf 6 (crossMissed c) (modRind (fun r => { r with cmp := r.cmp.set k {} }) c) else
  let q := c.rind.cmp.getD k {}
  let (mr, c) : Rat × Chip := if q.nR = 0 then let f := c.free; (((f.1.toInt : Int) : Rat), f.2) else (q.sumR / ((q.nR : Nat) : Rat), c)
  let mm : Rat := ((q.sumM : Int) : Rat) / ((max 1 q.nM : Nat) : Rat) * coefPf c (F.SIN_RXS_Gm k) (F.SIN_RXS_Fm k)
  let tol : Rat := ((c.pf (F.SIN_RXC_TOL k) : Nat) : Rat) * absRat (coefPf c (F.SIN_RSCL_G k) (F.SIN_RSCL_F k))
  let miss := q.nM == 0 || decide (tol < absRat (mr - mm))
  let run := if miss then q.run + 1 else 0
  let c := modRind (fun r => { r with cmp := r.cmp.set k { run := run } }) c
  demandIf 6 (crossMissed c) c

/-! ### The torque monitor (R502 to R506, R510) -/

/-- Whether monitor m is enabled. -/
def monOn (c : Chip) (m : Nat) : Bool := c.pb (F.SIN_RTM_CFG_EN m)

/-- The axis that monitor m follows. -/
def monAxis (c : Chip) (m : Nat) : Nat := c.pf (F.SIN_RTM_CFG_AXIS m)

/-- The tracker that monitor m taps. -/
def monTracker (c : Chip) (m : Nat) : Option Nat := if c.pf (F.SIN_RTM_CFG_TAPAT m) < 6 then some (c.pf (F.SIN_RTM_CFG_TAPAT m)) else none

/-- The angle source of a monitor before its offset (R502), none where it has no angle; `hall` is the code that Rind reads. -/
def monAngle (c : Chip) (m : Nat) (hall : Nat) : Option Word :=
  let q := rindMon c m
  match c.pf (F.SIN_RTM_CFG_ASRC m) with
  | 1 => if q.resOk then some (q.resTh + BitVec.ofInt 48 (roundRat (q.resSpd * ((c.up - q.resAt : Nat) : Rat)))) else none
  | 2 | 3 => (hallSector hall).map (fun s => sixth s + BitVec.ofInt 48 (roundDiv (2 ^ 48) 12))
  | 4 => (monTracker c m).map (fun t => c.rd (F.AT_ANG_ANG t).addr)
  | _ => none

/-- The offset AOFS. -/
def monOffset (c : Chip) (m : Nat) : Word := BitVec.ofInt 48 (c.pi (F.SIN_RTM_CFG_AOFS m) * 2 ^ 40)

/-- The pole pairs of a monitor. -/
def monPp (c : Chip) (m : Nat) : Rat := ((max 1 (c.pf (F.SIN_RTM_CFG_PP m)) : Nat) : Rat)

/-- The mechanical speed of a monitor in r/min (R502): from its angles over the last 1 ms, or from the interval between sector edges. -/
def monSpeed (c : Chip) (m : Nat) (hist : List Word) (edgeNs : Nat) (backwards : Bool) : Rat :=
  let src := c.pf (F.SIN_RTM_CFG_ASRC m)
  if src = 2 ∨ src = 3 then
    if edgeNs = 0 then 0
    else let r : Rat := 10000000000 / ((edgeNs : Nat) : Rat) / monPp c m; if backwards then -r else r
  else match hist with
    | [] => 0
    | [_] => 0
    | th :: rest =>
      let d : Rat := ((sdiff48 th (rest.getLastD th) : Int) : Rat) * twoTo (-48)
      d * 60 * 100000 / ((rest.length : Nat) : Rat) / monPp c m

/-- Whether the phase roles of a monitor name slots, and its three phase currents (R499). -/
def monCurrents (c : Chip) (m : Nat) : Rat × Rat × Rat :=
  let r := 2 + 3 * m
  let has (k : Nat) : Bool := (roleSlot c (r + k)).isSome
  let a := roleVal c r
  let b := roleVal c (r + 1)
  let d := roleVal c (r + 2)
  if !has 0 then (-(b + d), b, d) else if !has 1 then (a, -(a + d), d) else if !has 2 then (a, b, -(a + b)) else (a, b, d)

/-- Whether a monitor has all three current roles. -/
def monThree (c : Chip) (m : Nat) : Bool := [0, 1, 2].all (fun k => (roleSlot c (2 + 3 * m + k)).isSome)

/-- One over the square root of three, in units of 2^-46. -/
def invSqrt3Rat : Rat := ((invSqrt3 : Int) : Rat) * twoTo (-46)

/-- The torque estimate for an angle (R503), in N·m. -/
def torqueEstimate (c : Chip) (m : Nat) (th : Word) : Rat :=
  let (a, b, d) := monCurrents c m
  let al := (2 * a - b - d) / 3
  let be := (b - d) * invSqrt3Rat
  let s := sinRat th
  let k := cosRat th
  let i_d := al * k + be * s
  let iq := be * k - al * s
  let psi := coefPf c (F.SIN_RTM_PSI_G m) (F.SIN_RTM_PSI_F m)
  let ldq := coefPf c (F.SIN_RTM_LDQ_G m) (F.SIN_RTM_LDQ_F m)
  3 / 2 * monPp c m * (psi * iq + ldq * i_d * iq)

/-- Whether axis a is in a switching state of R504. -/
def axisActive (c : Chip) (a : Nat) : Bool :=
  match c.sub a with
  | .align | .run | .stopping => true
  | _ => c.is (F.DEV_AXST_IDACT a) && c.get (F.MOT_STAT_STEP a) != 1

/-- Whether an evaluation of monitor m deviates (R504). -/
def deviates (c : Chip) (m : Nat) (t tref spd : Rat) : Bool :=
  let a := monAxis c m
  let n (f : Fld) : Rat := ((c.pf f : Nat) : Rat)
  let gatesOff := decide (n (F.SIN_RTM_LIM_T0 m) * 10 < absRat t) && ((decide (0 < t) && decide (0 < spd)) || (decide (t < 0) && decide (spd < 0)))
  if ascOn c a then gatesOff || decide (n (F.SIN_RTM_LIM_TMAX m) < absRat t)
  else if axisActive c a then
    decide (n (F.SIN_RTM_LIM_TTOL m) + n (F.SIN_RTM_LIM_TREL m) * absRat tref / 100 < absRat (t - tref)) ||
      decide (n (F.SIN_RTM_LIM_TMAX m) < absRat t)
  else c.get (F.PRT_SST_STATE a) == 0 && gatesOff

/-- A rounded value that saturates at 16 bits signed. -/
def sat16 (q : Rat) : Int := clampInt (-32768) 32767 (roundRat q)

/-- Whether the program of monitor j's axis has not changed SEQ for TRAGE evaluations of a switching state (R505). -/
def trefStale (c : Chip) (j : Nat) : Bool :=
  monOn c j && axisActive c (monAxis c j) && decide (max 1 (c.pf (F.SIN_RTM_TREF_TRAGE j)) ≤ (rindMon c j).seqRun)

/-- The age of SEQ at an evaluation (R505); the demand's condition is gone once no monitor's is stale. -/
def seqSeen (m : Nat) (c : Chip) : Chip :=
  let seq := c.get (F.ZEN_PG_STAT_SEQ (c.get (F.MOT_CFG_PG (monAxis c m))))
  let c := modMon m (fun q => { q with seq := seq, seqRun := if seq = q.seq && axisActive c (monAxis c m) then q.seqRun + 1 else 0 }) c
  if [0, 1].any (trefStale c) then c else setCond 8 false c

/-- The demands ANGLE and SSCHK of both monitors (R506, R510). -/
def judgeMons (c : Chip) : Chip :=
  let c := demandIf 9 ([0, 1].any (fun j => monOn c j && decide (max 1 (c.pf (F.SIN_RTM_CFG_TFILT j)) ≤ (rindMon c j).angRun))) c
  demandIf 10 ([0, 1].any (fun j => monOn c j && decide (3 ≤ (rindMon c j).ascRun))) c

/-- A monitor that is not enabled makes no evaluation, and its conditions are gone. -/
def monIdle (m : Nat) (c : Chip) : Chip :=
  setCond (4 + m) false <| judgeMons (modMon m (fun q => { q with seqRun := 0, sumRun := 0, angRun := 0, ascRun := 0 }) (c.setb (F.SAF_TM_SST_ACTIVE m) false))

/-- The evaluation of torque monitor m (R502 to R506, R510); `hall` and `edgeNs` are what Rind reads of its Hall unit. -/
def torqueEvaluation (m hall edgeNs : Nat) (c : Chip) : Chip :=
  if !monOn c m then monIdle m c else
  let q := rindMon c m
  let raw := monAngle c m hall
  let (th0, c) : Word × Chip := match raw with | some w => (w, c) | none => c.free
  let th := th0 + monOffset c m
  let sec := hallSector hall
  let back := match q.sector, sec with
    | some o, some s => if o = s then q.backwards else decide ((s + 1) % 6 = o)
    | _, _ => q.backwards
  let hist := (th :: q.hist).take 101
  let spd := monSpeed c m hist edgeNs back
  let c := modMon m (fun q => { q with hist := hist, speed := spd, sector := if sec.isSome then sec else q.sector, backwards := back }) c
  let t := torqueEstimate c m th
  let tref : Rat := (((c.zmemRd (c.pf (F.SIN_RTM_TREF_ADDR m))).toInt : Int) : Rat) * twoTo (c.pi (F.SIN_RTM_TREF_EXP m))
  let c := ((c.seti (F.SAF_TM_EST_TEST m) (sat16 t)).seti (F.SAF_TM_EST_TREF m) (sat16 tref)).seti (F.SAF_TM_EST_SPD m) (sat16 spd)
  let c := (c.raise (F.SAF_TM_SST_ACTIVE m)).setb (F.SAF_TM_SST_ANGOK m) raw.isSome
  let lim := max 1 (c.pf (F.SIN_RTM_CFG_TFILT m))
  let fcnt := if deviates c m t tref spd then min 255 (c.get (F.SAF_TM_SST_FCNT m) + 1) else 0
  let c := c.set (F.SAF_TM_SST_FCNT m) fcnt
  let (ia, ib, ic) := monCurrents c m
  let psi := coefPf c (F.SIN_RTM_PSI_G m) (F.SIN_RTM_PSI_F m)
  let sumBad := monThree c m && decide (((c.pf (F.SIN_RTM_LIM_TTOL m) : Nat) : Rat) < absRat (ia + ib + ic) * (3 / 2) * monPp c m * absRat psi)
  let sumRun := if sumBad then q.sumRun + 1 else 0
  let src := c.pf (F.SIN_RTM_CFG_ASRC m)
  let angBad := (src == 1 || src == 2 || src == 3) && c.pb (F.SIN_RTM_CFG_TAPCHK m) && (match monTracker c m with
    | some x => decide ((c.pf (F.SIN_RTM_CFG_ADIFF m) * 2 ^ 40 : Nat) < (sdiff48 th (c.rd (F.AT_ANG_ANG x).addr + monOffset c m)).natAbs)
    | none => false)
  let angRun := if angBad then q.angRun + 1 else 0
  let risc : Rat := ((c.pf (F.SIN_RTM_ASC_RISC m) : Nat) : Rat)
  let ascBad := ascOn c (monAxis c m) && (decide (risc < absRat ia) || decide (risc < absRat ib) || decide (risc < absRat ic))
  let ascRun := if ascBad then q.ascRun + 1 else 0
  let c := modMon m (fun q => { q with sumRun := sumRun, angRun := angRun, ascRun := ascRun }) c
  let c := demandIf (4 + m) (decide (lim ≤ fcnt) || decide (lim ≤ sumRun)) c
  seqSeen m (judgeMons c)

/-- The axis program's SEQ has not changed within TRAGE (R505). -/
def trefFreshness (m : Nat) (c : Chip) : Chip := if trefStale c m then demand 8 .sto c else c

/-- Rind reads PRT.An.SST of each monitored axis and forms its expectation when the state changes (R510). -/
def watchSafeState (c : Chip) : Chip :=
  c.forN 2 (fun m c =>
    let a := monAxis c m
    let st := c.get (F.PRT_SST_STATE a)
    if !monOn c m || st = c.get (F.SAF_TM_SST_MAINST m) then c
    else
      let c := c.set (F.SAF_TM_SST_MAINST m) st
      if st = 0 then c.set (F.SAF_TM_SST_EXPECT m) 0
      else
        let lim := c.pf (F.SIN_RTM_ASC_RASCSPD m)
        let asc := lim != 0 && decide (((lim : Nat) : Rat) ≤ absRat (rindMon c m).speed)
        let c := c.set (F.SAF_TM_SST_EXPECT m) (if asc then 1 else 2)
        if asc && st == 3 && !axisGroupFault c a then (c.raise F.SAF_DIAG_MISMATCH).evRindDiag else c)

/-! ### STO (R492 to R495, R509, R513, R516) -/

/-- Whether any axis holds an active short circuit. -/
def anyAsc (c : Chip) : Bool := (List.range 4).any (ascOn c)

/-- RASCMAX of the monitor of axis a; 0 without one (R509). -/
def rascMax (c : Chip) (a : Nat) : Nat :=
  match (List.range 2).find? (fun m => monOn c m && monAxis c m == a) with
  | some m => c.pf (F.SIN_RTM_ASC_RASCMAX m)
  | none => 0

/-- The bits of SAF.DEMAND that are deferrable (R509). -/
def deferrable (c : Chip) (k : Nat) : Bool := k == 12 || k == 6 || k == 7 || k == 8 || (decide (k < 4) && c.pb (F.SIN_RCMP_DEFER k))

/-- The stop kind of a safety function's demand (R532): true for SS1. -/
def fnSs1 (c : Chip) (f : Nat) : Bool :=
  match c.pf (F.SIN_F_CFG_KIND f) with | 0 => defaultSs1 c | 1 => true | _ => false

/-- Whether the safety-input demand has stop kind SS1: no demanding function asks for STO. -/
def sinSs1 (c : Chip) : Bool := (List.range 8).all (fun f => !c.is (F.SIN_F_STAT_LATCH f) || fnSs1 c f)

/-- The stop kind in force (SAF.STAT[DKIND]): 0 none, 1 SS1, 2 STO. -/
def demandKind (c : Chip) : Nat :=
  let d := (c.rd 0xC0001).field 0 13
  if d = 0 then 0 else if d % 4096 = 0 ∧ sinSs1 c then 1 else 2

/-- Whether the assertion of STO for the active demands waits (R509). -/
def deferNow (c : Chip) : Bool :=
  let d := (c.rd 0xC0001).field 0 13
  d != 0 && !c.sto.request && !c.rind.deferOver && anyAsc c && !rindFaulted c &&
    (List.range 13).all (fun k => !Nat.bitAt d k || deferrable c k) &&
    (List.range 4).all (fun a => !ascOn c a || rascMax c a != 0)

/-- Whether the main domain requests release (R36, R492). -/
def mainReleases (c : Chip) : Bool :=
  match c.mode with
  | .standby => !c.prot.dischargeEnd
  | .precharge | .identify | .drive | .charge => true
  | .discharge => !c.prot.pathLost
  | .safestop => !c.is F.DEV_MODE_HOLD
  | _ => false

/-- Whether Rind releases STO (R492). -/
def stoMayRelease (c : Chip) : Bool :=
  let k := demandKind c
  let held := k != 0 && !(k == 1 && c.is F.SAF_STAT_SS1RUN) && !deferNow c
  mainReleases c && !held && !rindFaulted c && !c.rind.latch && c.is F.SAF_STAT_SELFOK && c.is F.SAF_STAT_PSETOK && !c.clk.soscStopped && !c.clk.hold

/-- STOA and STOB fall (R492, R495). -/
def stoFall (c : Chip) : Chip :=
  let c' := { c with sto := { c.sto with stoa := false, stob := false } }
  if c.sto.stoa then ((c'.evStoChg).captureAt 0x18 true).occur 0x16 none 0 else c'

/-- The STO request and the indications of SAF.STAT follow their conditions (R492, R509, R525). -/
def rindSettle (c : Chip) : Chip :=
  let c := if anyAsc c && demandKind c != 0 then c else modRind (fun r => { r with deferOver := false }) c
  let defer := deferNow c
  let req := !stoMayRelease c
  let c := ((c.setb F.SAF_STAT_DEFER defer).set F.SAF_STAT_DKIND (demandKind c)).setb F.SAF_STAT_DEMACT (demandKind c != 0)
  let was := c.sto.request
  let c := ({ c with sto := { c.sto with request := req } }).setb F.SAF_STAT_STOREQ req
  let c := if rindFaulted c then { c with sto := { c.sto with ssoa := false, ssob := false } } else c
  if req then stoFall c
  else if was then { c with sto := { c.sto with ssoa := false, ssob := false } }
  else c

/-- The detectors have seen the toggles: the balls rise (R492). -/
def stoRelease (c : Chip) : Chip :=
  if !c.sto.request && !c.sto.stoa then ({ c with sto := { c.sto with stoa := true, stob := true } }).evStoChg else c

/-- The readback of STOA and STOB (R493, R494, R516): after an assertion both read low, or while released both read high. -/
def stoReadback (ok : Bool) (c : Chip) : Chip :=
  if !ok then internalFault 6 c
  else if c.sto.request then
    let c := (c.set F.SAF_STAT_PROOFH 0).setb F.SAF_STAT_STOPROOF false
    if rindFaulted c then c else { c with sto := { c.sto with ssoa := true, ssob := true } }
  else c

/-- An hour of released STO (R516). -/
def proofHour (c : Chip) : Chip :=
  if c.sto.stoa then
    let c := c.countSat F.SAF_STAT_PROOFH 1
    if 168 < c.get F.SAF_STAT_PROOFH && !c.is F.SAF_STAT_STOPROOF then (c.raise F.SAF_STAT_STOPROOF).evRindDiag else c
  else c

/-- RASCMAX has passed with a deferrable demand waiting (R509). -/
def ascDeferralEnd (c : Chip) : Chip := if deferNow c then modRind (fun r => { r with deferOver := true }) c else c

/-- The self-test of Rind ends (R513): passed, or an internal fault. -/
def rindSelfTestDone (fault : Option (Fin 8)) (c : Chip) : Chip :=
  match fault with
  | none => if c.clk.rindReset then c else c.raise F.SAF_STAT_SELFOK
  | some k => internalFault k.val c

/-- The CRC of the set in force is recomputed (R514). -/
def psetcrcCheck (ok : Bool) (c : Chip) : Chip := if c.is F.SAF_STAT_PSETOK && !ok then internalFault 7 c else c

/-- A window of the SCLK monitor, with the frequency measured in kHz (R514). -/
def sclkmonWindow (khz : Nat) (c : Chip) : Chip :=
  if c.mode = .reset then modRind (fun r => { r with sclkRun := 0 }) c else
  let run := if withinPct 10 khz 200000 then 0 else c.rind.sclkRun + 1
  let c := modRind (fun r => { r with sclkRun := run }) c
  if 8 ≤ run then internalFault 4 c else c

end Sys2Proof.Machine
end

