-- ==== Sys2Proof/Machine/SafetyIn.lean ====
section
/-! DEFINITION. Safety inputs and the safety parameter set (16_safety_inputs_and_safety_configuration): processed levels, test pulses, the function
types and their evaluation, resets, and taking a confirmed set in force. -/

namespace Sys2Proof.Machine

/-! ### Accessors -/

/-- Function f of the safety inputs. -/
def sinFn (c : Chip) (f : Nat) : SinFn := c.rind.fns.getD f {}

/-- Change function f. -/
def modFn (f : Nat) (g : SinFn → SinFn) (c : Chip) : Chip := modRind (fun r => { r with fns := r.fns.modify f g }) c

/-- The type of function f (R536). -/
def fnType (c : Chip) (f : Nat) : Nat := if c.pf (F.SIN_F_CFG_TYPE f) ≤ 5 then c.pf (F.SIN_F_CFG_TYPE f) else 0

/-- The number of channels of a type (R536). -/
def fnChannels (type : Nat) : Nat := match type with | 0 => 0 | 3 => 4 | 5 => 1 | _ => 2

/-- The safety input of channel x of function f. -/
def fnInput (c : Chip) (f x : Nat) : Nat :=
  match x with | 0 => c.pf (F.SIN_F_CFG_CHA f) | 1 => c.pf (F.SIN_F_CFG_CHB f) | 2 => c.pf (F.SIN_F_CFG_CHC f) | _ => c.pf (F.SIN_F_CFG_CHD f)

/-- The source of channel x of function f (R528). -/
def fnSource (c : Chip) (f x : Nat) : Nat :=
  match x with | 0 => c.pf (F.SIN_F_SRC_SRCA f) | 1 => c.pf (F.SIN_F_SRC_SRCB f) | 2 => c.pf (F.SIN_F_SRC_SRCC f) | _ => c.pf (F.SIN_F_SRC_SRCD f)

/-- Whether channel x of function f is sourced from TPn (R528). -/
def fromTp (c : Chip) (f x n : Nat) : Bool := decide (x < fnChannels (fnType c f)) && fnSource c f x == 4 + n

/-- The processed level of a channel. -/
def chanLvl (c : Chip) (f x : Nat) : Option Bool := ((sinFn c f).ch.getD x {}).lvl

/-- Change a channel. -/
def modChan (f x : Nat) (g : SinChan → SinChan) (c : Chip) : Chip := modFn f (fun q => { q with ch := q.ch.modify x g }) c

/-- Whether every channel of function f has a processed level (R535). -/
def allKnown (c : Chip) (f : Nat) : Bool := (List.range (fnChannels (fnType c f))).all (fun x => (chanLvl c f x).isSome)

/-- The contact of channel A or B of an ESTOP, GUARD or LCURTAIN function is closed (R530). -/
def contactClosed (c : Chip) (f x : Nat) : Bool :=
  let l := (chanLvl c f x).getD false
  if x = 1 && c.pb (F.SIN_F_CFG_ANTI f) && fnType c f != 4 then !l else l

/-- A hand of a two-hand control (0 left, 1 right) is actuated, or released (R539). -/
def handActuated (c : Chip) (f h : Nat) : Bool := (chanLvl c f (2 * h)) == some true && (chanLvl c f (2 * h + 1)) == some false
/-- A hand is released (R539). -/
def handReleased (c : Chip) (f h : Nat) : Bool := (chanLvl c f (2 * h)) == some false && (chanLvl c f (2 * h + 1)) == some true

/-- A fault that sets a fault latch (R534), seen by the event word each time it arises (R93). -/
def sinFault (fld : Fld) (f : Nat) (c : Chip) : Chip :=
  if c.is fld then c.evSinDiag
  else (((c.raise fld).setb (F.SIN_F_STAT_FCLR f) false).evSinDiag) |> modFn f (fun q => { q with ch := q.ch.map (fun k => { k with followed := 0 }) })

/-- A reset event reaches function f, if its type takes one (R533). -/
def resetEvent (f : Nat) (c : Chip) : Chip := modFn f (fun q => { q with resetDue := true }) c

/-- A write to SIN.SRST (R533). -/
def srstWrite (mask : Nat) (c : Chip) : Chip := c.forN 8 (fun f c => if Nat.bitAt mask f then resetEvent f c else c)

/-! ### Processed levels (R529, R537, R539, R540) -/

/-- SIN.SSTAT[LVL] and the function's CLVL show the levels. -/
def showLevels (f x : Nat) (l : Bool) (c : Chip) : Chip :=
  (c.setBit F.SIN_SSTAT_LVL (fnInput c f x) l).setBit (F.SIN_F_STAT_CLVL f) x l

/-- A two-hand control after a change of a level (R539): a second hand that comes late asks for both hands to be released. -/
def handsChanged (f : Nat) (c : Chip) : Chip :=
  let known (h : Nat) : Bool := (chanLvl c f (2 * h)).isSome && (chanLvl c f (2 * h + 1)).isSome
  let c := modFn f (fun q => { q with
    neither := (List.range 2).map (fun h =>
      if handActuated c f h || handReleased c f h || !known h then none else some ((q.neither.getD h none).getD c.up)),
    handAt := (List.range 2).map (fun h => if handActuated c f h then some ((q.handAt.getD h none).getD c.up) else none) }) c
  if handReleased c f 0 && handReleased c f 1 then modFn f (fun q => { q with released := true, inTime := false }) c
  else match (sinFn c f).handAt with
    | [some t, some u] =>
      if (sinFn c f).inTime then c
      else if max t u - min t u ≤ cyclesMs 500 then modFn f (fun q => { q with inTime := true }) c
      else ((c.raise (F.SIN_F_STAT_SYNCX f)).evSinDiag) |> modFn f (fun q => { q with released := false })
    | _ => modFn f (fun q => { q with inTime := false }) c

/-- A reset input's processed level has changed (R540): a high level of 100 ms to 2 s that ends is a reset event. -/
def resetInput (f : Nat) (l : Bool) (c : Chip) : Chip :=
  if l then modFn f (fun q => { q with riseAt := some c.up }) c
  else
    let ok := match (sinFn c f).riseAt with
      | some t => decide (cyclesMs 100 ≤ c.up - t) && decide (c.up - t ≤ cyclesMs 2000) && !c.is (F.SIN_F_STAT_RSTSTUCK f)
      | none => false
    let c := (modFn f (fun q => { q with riseAt := none }) c).setb (F.SIN_F_STAT_RSTSTUCK f) false
    if ok then c.forN 8 (fun k c => if c.pb (F.SIN_F_CFG_RSEL k) && c.pf (F.SIN_F_CFG_RFN k) == f then resetEvent k c else c) else c

/-- A channel's level has passed its source stage and its filter (R529). -/
def processedLevel (f x : Nat) (l : Bool) (c : Chip) : Chip :=
  if fnChannels (fnType c f) ≤ x || chanLvl c f x == some l then c else
  let first := (chanLvl c f x).isNone
  let c := showLevels f x l (modChan f x (fun k => { k with lvl := some l }) c)
  match fnType c f with
  | 3 => handsChanged f c
  | 5 => if first && !l then c else resetInput f l c
  | _ =>
    if !allKnown c f then c
    else if contactClosed c f 0 == contactClosed c f 1 then modFn f (fun q => { q with discAt := none }) c
    else modFn f (fun q => { q with discAt := some (q.discAt.getD c.up) }) c

/-- The samples of 1 µs for which a level must have been taken before it passes (R529): FILT × 100 µs, after MASK × 10 µs for a low run of an OSSD. -/
def filterSamples (c : Chip) (f x : Nat) (l : Bool) : Nat :=
  100 * c.pf (F.SIN_F_CFG_FILT f) + (if fnSource c f x = 1 && !l then 10 * min 299 (c.pf (F.SIN_F_SRC_MASK f)) else 0)

/-- Whether the window of the channel's test-pulse output is open: its samples are not taken (R529). -/
def windowed (c : Chip) (f x : Nat) : Bool :=
  decide (4 ≤ fnSource c f x) && c.pf F.SIN_TP_EN / 2 ^ (fnSource c f x - 4) % 2 == 1 && !(Nat.bitAt (c.get F.SIN_SSTAT_TPLVL) (fnSource c f x - 4))

/-- A channel's samples have shown a level for a number of samples in a row (R529). -/
def levelHeld (f x : Nat) (l : Bool) (samples : Nat) (c : Chip) : Chip :=
  if !windowed c f x && decide (filterSamples c f x l ≤ samples) then processedLevel f x l c else c

/-- A reset input has been high for more than 2 s (R540). -/
def rstStuck (f : Nat) (c : Chip) : Chip :=
  if fnType c f = 5 && chanLvl c f 0 == some true then c.raise (F.SIN_F_STAT_RSTSTUCK f) else c

/-! ### Test pulses (R527, R529, R534) -/

/-- TPn starts its low pulse while it is high, or the window of its pulse ends (R529). At its end, bit 4 f + x of `seen` says that channel x of function f showed 4 consecutive low samples
inside the window. -/
def testPulse (n : Nat) (low : Bool) (seen : BitVec 32) (c : Chip) : Chip :=
  if !Nat.bitAt (c.pf F.SIN_TP_EN) n then c.setBit F.SIN_SSTAT_TPLVL n false
  else if Nat.bitAt (c.get F.SIN_SSTAT_TPLVL) n == !low then c else
  let c := c.setBit F.SIN_SSTAT_TPLVL n (!low)
  c.forN 8 (fun f c => c.forN 4 (fun x c =>
    if fromTp c f x n then
      if low then modChan f x (fun k => { k with stoodHigh := k.lvl == some true }) c
      else if !((sinFn c f).ch.getD x {}).stoodHigh then c
      else if seen.getLsbD (4 * f + x) then modChan f x (fun k => { k with followed := k.followed + 1, stoodHigh := false }) c
      else sinFault (F.SIN_F_STAT_TPF f) f (modChan f x (fun k => { k with followed := 0, stoodHigh := false }) c)
    else c))

/-- The read-back of TPn has differed in 4 consecutive samples (R527). -/
def tpReadback (n : Nat) (c : Chip) : Chip :=
  c.forN 8 (fun f c => if (List.range 4).any (fun x => fromTp c f x n) then sinFault (F.SIN_F_STAT_TPF f) f c else c)

/-! ### The evaluation (R531 to R541) -/

/-- Whether every channel of function f is in its open or released state (R534). -/
def allOpen (c : Chip) (f : Nat) : Bool :=
  match fnType c f with
  | 3 => handReleased c f 0 && handReleased c f 1
  | 1 | 2 | 4 => allKnown c f && !contactClosed c f 0 && !contactClosed c f 1
  | _ => false

/-- DISC of function f in PCLK cycles (R537, R539). -/
def discTime (c : Chip) (f : Nat) : Nat :=
  let d := max 1 (c.pf (F.SIN_F_CFG_DISC f))
  cyclesMs (if fnType c f = 4 then min d 20 else d)

/-- Discrepancies of function f that have lasted DISC (R537, R539). -/
def checkDisc (f : Nat) (c : Chip) : Chip :=
  let q := sinFn c f
  let long (t : Option Nat) : Bool := match t with | some s => decide (discTime c f ≤ c.up - s) | none => false
  let bad := match fnType c f with
    | 3 => allKnown c f && q.neither.any long
    | 1 | 2 | 4 => allKnown c f && contactClosed c f 0 != contactClosed c f 1 && long q.discAt
    | _ => false
  let new := bad && (!q.disc || !c.is (F.SIN_F_STAT_DISCF f))
  let c := if q.disc = bad then c else modFn f (fun q => { q with disc := bad }) c
  if new then sinFault (F.SIN_F_STAT_DISCF f) f c else c

/-- PERMIT of function f at an evaluation instant (R536, R539). -/
def formPermit (f : Nat) (c : Chip) : Chip :=
  let was := c.is (F.SIN_F_STAT_PERMIT f)
  let q := sinFn c f
  let p : Bool := allKnown c f && (match fnType c f with
    | 1 | 2 | 4 => contactClosed c f 0 && contactClosed c f 1
    | 3 => handActuated c f 0 && handActuated c f 1 && !c.is (F.SIN_F_STAT_DISCF f) && (was || (q.inTime && q.released))
    | _ => false)
  let c := c.setb (F.SIN_F_STAT_PERMIT f) p
  if fnType c f = 3 && p && !was then (modFn f (fun q => { q with released := false }) c).setb (F.SIN_F_STAT_SYNCX f) false else c

/-- EFFP and BYPACT of function f (R531, R541). -/
def formEffp (f : Nat) (c : Chip) : Chip :=
  let p := c.is (F.SIN_F_STAT_PERMIT f)
  let b := c.pf (F.SIN_F_CFG_BYPF f)
  let byp := c.pb (F.SIN_F_CFG_BYPEN f) && (fnType c f == 2 || fnType c f == 4) && allKnown c f && !p && fnType c b == 3 && c.is (F.SIN_F_STAT_PERMIT b)
  (c.setb (F.SIN_F_STAT_BYPACT f) byp).setb (F.SIN_F_STAT_EFFP f) (p || byp)

/-- The fault latches and the LATCH of function f (R532 to R534, R538, R539). -/
def formLatch (f : Nat) (c : Chip) : Chip :=
  let type := fnType c f
  if type = 0 ∨ type = 5 then modFn f (fun q => { q with resetDue := false }) c else
  let c := if type = 2 && allOpen c f then c.raise (F.SIN_F_STAT_STUP f) else c
  let fault := c.is (F.SIN_F_STAT_DISCF f) || c.is (F.SIN_F_STAT_TPF f)
  let c := if fault && allOpen c f && !c.is (F.SIN_F_STAT_FCLR f) then
      modFn f (fun q => { q with ch := q.ch.map (fun k => { k with followed := 0 }) }) (c.raise (F.SIN_F_STAT_FCLR f))
    else c
  let effp := c.is (F.SIN_F_STAT_EFFP f)
  let due := (sinFn c f).resetDue
  let follows := (List.range (fnChannels type)).all (fun x => fnSource c f x < 4 || 2 ≤ ((sinFn c f).ch.getD x {}).followed)
  let mayClear := c.is (F.SIN_F_STAT_FCLR f) && (type == 3 || (due && effp))
  let c := if mayClear then c.setb (F.SIN_F_STAT_DISCF f) false else c
  let c := if mayClear && follows then c.setb (F.SIN_F_STAT_TPF f) false else c
  let fault := c.is (F.SIN_F_STAT_DISCF f) || c.is (F.SIN_F_STAT_TPF f)
  let c := if fault then c else c.setb (F.SIN_F_STAT_FCLR f) false
  let c :=
    if type = 3 then c
    else if !effp || fault then
      if c.is (F.SIN_F_STAT_LATCH f) then c else (c.raise (F.SIN_F_STAT_LATCH f)).evSafeDemand
    else if due || c.pb (F.SIN_F_CFG_AUTOR f) then c.setb (F.SIN_F_STAT_LATCH f) false
    else c
  modFn f (fun q => { q with resetDue := false }) c

/-- SIN.SSTAT shows the functions (R556). -/
def showFns (c : Chip) : Chip :=
  c.forN 8 (fun f c =>
    ((c.setBit F.SIN_SSTAT_PERMIT f (c.is (F.SIN_F_STAT_PERMIT f))).setBit F.SIN_SSTAT_LATCH f (c.is (F.SIN_F_STAT_LATCH f))).setBit
      F.SIN_SSTAT_STUPOK f (fnType c f != 2 || c.is (F.SIN_F_STAT_STUP f)))

/-- SAF.DEMAND[SIN] is 1 exactly while a function demands (R532); a new demand, or a severer kind, acts. -/
def sinDemand (wasKind : Nat) (c : Chip) : Chip :=
  let any := (List.range 8).any (fun f => c.is (F.SIN_F_STAT_LATCH f))
  let c := c.wr 0xC0001 ((c.rd 0xC0001).setField 12 1 (bit any))
  let now : Nat := if !any then 0 else if sinSs1 c then 1 else 2
  if wasKind < now then c.notice (.safety (if now = 1 then .ss1 else .sto)) else c

/-- An evaluation instant (R531). -/
def safetyEvaluation (c : Chip) : Chip :=
  if !c.is F.SAF_STAT_SELFOK || c.clk.rindReset then c else
  let was : Nat := if (c.rd 0xC0001).field 12 1 == 0 then 0 else if sinSs1 c then 1 else 2
  let c := c.forN 8 checkDisc
  let c := c.forN 8 formPermit
  let c := c.forN 8 formEffp
  let c := c.forN 8 formLatch
  sinDemand was (showFns c)

/-- Whether an enabled GUARD function has not passed its start-up test (R538). -/
def startupMissing (c : Chip) : Bool := (List.range 8).any (fun f => fnType c f == 2 && !c.is (F.SIN_F_STAT_STUP f))

/-! ### The set in force (R491, R543, R545, R549) -/

/-- The word at an address in a parameter set, or the one given. -/
def wordIn (l : List (Nat × Word)) (a : Nat) (d : Word) : Word :=
  ((l.find? (fun (e : Nat × Word) => e.1 == a)).map Prod.snd).getD d

/-- Type and channels of function f in a list of words. -/
def fnShape (l : List (Nat × Word)) (f : Nat) : Nat := (wordIn l (0xD0020 + 4 * f) 0).field 28 20

/-- Function f starts anew (R535). -/
def clearFn (f : Nat) (c : Chip) : Chip := (modFn f (fun _ => {}) c).wr (0xD0022 + 4 * f) 0

/-- Rind takes a set in force: functions whose type and channels are unchanged keep their latches (R491, R543). -/
def takeParamSet (l : List (Nat × Word)) (c : Chip) : Chip :=
  let old := c.rind.inForce
  let c := modRind (fun r => { r with inForce := l }) c
  let c := c.forN 8 (fun f c => if fnShape old f = fnShape l f then c else clearFn f c)
  let c := (c.set F.SAF_PCRC_CRC (rindCrc l)).raise F.SAF_PCRC_VALID
  let c := (c.raise F.SAF_STAT_PSETOK).raise F.SIN_SEC_CONFOK
  let c := c.set F.SIN_ACHK_INFORCE (checkValue l)
  let c := c.set F.SIN_SSTAT_TPLVL (c.pf F.SIN_TP_EN)
  (sinDemand 3 (showFns c)).forN 4 rcmpEval

/-- Every SL field of SIN returns to its value in the set in force (R549). -/
def dropStaged (c : Chip) : Chip :=
  let c := c.forEach sinWords (fun (a : Nat) (c : Chip) =>
    c.wr a ((c.rd a &&& ~~~(slMask a)) ||| (wordIn c.rind.inForce a (resetWord a) &&& slMask a)))
  c.setb F.SIN_SEC_PWSTG false

end Sys2Proof.Machine
end

