-- ==== Sys2Proof/Machine/Thermal.lean ====
section
/-! DEFINITION. Thermal management (17_thermal_management): readings, cross-checking and exclusion, the throttle, the windows, the shutdown. -/

namespace Sys2Proof.Machine

/-! ### Natural logarithm (R560) -/

/-- 2^128, the scale of the logarithm's fixed point. -/
def lnScale : Nat := 2 ^ 128

/-- The sum of the first terms of 2 artanh z = 2 (z + z^3/3 + z^5/5 + …), z in units of 2^-128. -/
def artanhSum : Nat → Int → Int → Nat → Int
  | 0, _, _, _ => 0
  | n + 1, p, z2, k => 2 * p / (k : Int) + artanhSum n (p * z2 / (lnScale : Int)) z2 (k + 2)

/-- ln of a / b for a / b in [1, 2], in units of 2^-128, exact to 2^-120. -/
def lnSmall (a b : Nat) : Int :=
  let z : Int := ((a : Int) - (b : Int)) * (lnScale : Int) / ((a + b : Nat) : Int)
  artanhSum 50 z (z * z / (lnScale : Int)) 1

/-- The natural logarithm of a positive rational a / b, exact to 2^-100. -/
def lnRat (a b : Nat) : Rat :=
  let k : Int := (Nat.log2 a : Int) - (Nat.log2 b : Int)
  let a' := if k < 0 then a * 2 ^ k.natAbs else a
  let b' := if k < 0 then b else b * 2 ^ k.toNat
  let m := if a' < b' then -lnSmall b' a' else lnSmall a' b'
  ((m + k * lnSmall 2 1 : Int) : Rat) * twoTo (-128)

/-! ### Sensors: 0 to 11 are TD0 to TD11, 12 to 23 TE0 to TE11 -/

/-- Change the thermal unit's own state. -/
def modTherm (f : Therm → Therm) (c : Chip) : Chip := { c with therm := f c.therm }

/-- The word that shows sensor k. -/
def sensorAddr (k : Nat) : Nat := if k < 12 then 0xE0010 + k else 0xE0023 + 4 * (k - 12)

/-- A field of the word of sensor k; TD and TE words share bits [19:0] (R581). -/
def sensorFld (k lo width : Nat) : Fld := ⟨sensorAddr k, lo, width⟩

/-- VALID of sensor k. -/
def sensorValid (c : Chip) (k : Nat) : Bool := c.is (sensorFld k 16 1)

/-- EXCL of sensor k. -/
def sensorExcl (c : Chip) (k : Nat) : Bool := c.is (sensorFld k 17 1)

/-- Whether sensor k is in use (R562, R564). -/
def inUse (c : Chip) (k : Nat) : Bool := sensorValid c k && !sensorExcl c k && !c.therm.returning.getLsbD k

/-- TEMP of sensor k in 0.125 °C. -/
def tempOf (c : Chip) (k : Nat) : Int := c.geti (sensorFld k 0 16)

/-- XRSN while VALID = 1 (R581). -/
def exclReason (c : Chip) (k : Nat) : Nat := if sensorExcl c k then 2 else 0

/-- A reading is formed for sensor k (R558, R560, R581). -/
def reading (k : Nat) (z : Int) (c : Chip) : Chip :=
  let ok := decide (-440 ≤ z) && decide (z ≤ 1600)
  let c := (c.seti (sensorFld k 0 16) (clampInt (-32768) 32767 z)).setb (sensorFld k 16 1) ok
  c.set (sensorFld k 18 2) (if ok then exclReason c k else 1)

/-- No reading can be formed for sensor k, with a reason (R560, R581). -/
def noReading (k reason : Nat) (c : Chip) : Chip := (c.setb (sensorFld k 16 1) false).set (sensorFld k 18 2) reason

/-- TD in use. -/
def tdInUse (c : Chip) : List Nat := (List.range 12).filter (inUse c)

/-- NTD and DEGR (R565, R580). -/
def showUse (c : Chip) : Chip :=
  let n := (tdInUse c).length
  (c.set F.THM_STAT_NTD n).setb F.THM_STAT_DEGR (decide (n < 6))

/-- A conversion of TDk, with the output of its shutdown comparator (R558, R574). -/
def tdConversion (k : Nat) (z : Int) (trip : Bool) (c : Chip) : Chip :=
  if c.mode = .reset then c else
  let c := (reading k z (modTherm (fun t => { t with converted := t.converted ||| (1#12 <<< k) }) c)).setb (F.THM_TD_SHC k) trip
  if c.therm.evaluated then showUse c else c

/-- KIND of TEk: 0 none, 1 NTC, 2 LINEAR (R581). -/
def teKind (c : Chip) (k : Nat) : Nat := let v := c.get (F.THM_TE_CFG_KIND k); if v = 3 then 0 else v

/-- Role of TEk (R561). -/
def teRole (c : Chip) (k : Nat) : Nat := c.get (F.THM_TE_CFG_ROLE k)

/-- The floor of a rational plus one half: nearest, ties towards +infinity. -/
def roundHalfUp (q : Rat) : Int := (q + 1 / 2).floor

/-- An NTC reading of a code (R560): a value the formula does not give (a zero coefficient, a vanishing denominator) is a free value. -/
def ntcReading (k x : Nat) (c : Chip) : Chip :=
  if x < 64 ∨ 65472 < x then noReading (12 + k) 1 c else
  let rpu := c.get (F.THM_TE_PAR_RPU k)
  let rnom := c.get (F.THM_TE_PAR_RNOM k)
  let beta := c.get (F.THM_TE_CFG_BETA k)
  let inv : Rat := 100 / 29815 + lnRat (rpu * x) (rnom * (65536 - x)) / ((beta : Nat) : Rat)
  if rpu = 0 ∨ rnom = 0 ∨ beta = 0 ∨ inv = 0 then
    let r := c.free
    reading (12 + k) (signed 16 r.1.toNat) r.2
  else reading (12 + k) (roundHalfUp (8 * (1 / inv - 27315 / 100))) c

/-- A LINEAR reading of a code (R560). -/
def linearReading (k x : Nat) (c : Chip) : Chip :=
  let z : Int := (c.rd (F.THM_TE_PAR k)).field 24 16
  let g : Int := c.geti (F.THM_TE_PAR_RPU k)
  reading (12 + k) (roundHalfUp (((((x : Int) - z) * g : Int) : Rat) / 8192)) c

/-- TEk takes its result at a completion of its set, unless it carries STALE or REFNS (R560). -/
def teSample (s k : Nat) (c : Chip) : Chip :=
  if teKind c k = 0 ∨ c.get (F.THM_TE_CFG_SET k) ≠ s then c else
  let w := c.rd (F.ADC_SET_R_VALUE s (c.get (F.THM_TE_CFG_SLOT k))).addr
  if w.field 47 1 = 1 ∨ w.field 42 1 = 1 then c else
  let x := resultCode (c.is (F.ADC_SET_CFG_ALIGN s)) (w.field 0 24)
  if teKind c k = 1 then ntcReading k x c else linearReading k x c

/-- A completion of SETs with everything that takes results from it (R405, R458, R560). -/
def completeRunTherm (s : Nat) (c : Chip) : Chip :=
  if runReady c s then (completeRunProt s c).forN 12 (teSample s) else c

/-- TEk has taken no result for 100 ms (R560). -/
def teNoSample (k : Nat) (c : Chip) : Chip := if c.mode = .reset then c else noReading (12 + k) 3 c

/-! ### Cross-checking (R559, R562 to R565) -/

/-- Insert into a rising list. -/
def insertRising (z : Int) : List Int → List Int
  | [] => [z]
  | a :: l => if z ≤ a then z :: a :: l else a :: insertRising z l

/-- The median of readings: for an even number, the mean of the two middle ones (R562). -/
def median (l : List Int) : Rat :=
  let s := l.foldl (fun s z => insertRising z s) []
  let n := s.length
  (((s.getD ((n - 1) / 2) 0 + s.getD (n / 2) 0 : Int)) : Rat) / 2

/-- Two TD sensors adjacent in a row or a column of the grid (R559). -/
def adjacent (i j : Nat) : Bool := (i / 4 == j / 4 && (i + 1 == j || j + 1 == i)) || i + 4 == j || j + 4 == i

/-- The group of TEk (R563). -/
def teGroup (c : Chip) (k : Nat) : Nat := c.get (F.THM_TE_CFG_GRP k)

/-- The neighbours of sensor k (R559, R563). -/
def neighbours (c : Chip) (k : Nat) : List Nat :=
  if k < 12 then (List.range 12).filter (adjacent k)
  else if teGroup c (k - 12) = 0 then []
  else ((List.range 24).drop 12).filter (fun j => j != k && teGroup c (j - 12) == teGroup c (k - 12))

/-- The check of sensor k (R562, R563). -/
def checkSensor (k : Nat) (c : Chip) : Chip :=
  let all := neighbours c k
  let used := all.filter (inUse c)
  let pair := 12 ≤ k ∧ all.length = 1
  if !inUse c k || used.isEmpty || (decide (used.length < 2) && !decide pair) then c else
  let off := absRat ((((tempOf c k : Int)) : Rat) - median (used.map (tempOf c)))
  let bad := decide (((c.get F.THM_CFG_XTOL : Nat) : Rat) < off)
  let n := if bad then c.therm.miss.getD k 0 + 1 else 0
  let c := modTherm (fun t => { t with miss := t.miss.set k n }) c
  if n < c.get F.THM_CFG_XN ∨ !bad then c
  else if pair then c.raise F.THM_STAT_PAIRDIS
  else
    let c := ((c.raise (sensorFld k 17 1)).set (sensorFld k 18 2) 2).evSensor
    c.wr 0xE0003 ((c.rd 0xE0003).setField k 1 1)

/-- A cross-check (R562 to R564): re-included sensors are in use again from it; it follows the first evaluation (R718). -/
def crossCheck (c : Chip) : Chip :=
  if c.mode = .reset ∨ !c.therm.evaluated then c else
  showUse ((modTherm (fun t => { t with returning := 0 }) c).forN 24 checkSensor)

/-- A host write of THM.EXCL (R564): sensors whose bit is written 1 return to use from the next check. -/
def exclWrite (w : Word) (c : Chip) : Chip :=
  c.forN 24 (fun k c =>
    if w.getLsbD k && sensorExcl c k then
      let c := c.wr 0xE0003 ((c.rd 0xE0003).setField k 1 0)
      let c := modTherm (fun t => { t with miss := t.miss.set k 0, returning := t.returning ||| (1#24 <<< k) }) (c.setb (sensorFld k 17 1) false)
      if sensorValid c k then c.set (sensorFld k 18 2) 0 else c
    else c)

/-! ### A controlled stop (R41, R450) -/

/-- A controlled stop of DRIVE or CHARGE towards STANDBY: every axis that is not OFF receives STOP; the host request it completes, if any,
and the cause that STANDBY records. -/
def controlledStop (pend : Option PendReq) (cause : Cause) (c : Chip) : Chip :=
  let c := (c.raise F.DEV_MODE_PEND).set F.DEV_MODE_TARGET 4
  let c := { c with ms := { c.ms with pend := pend, pendCause := cause } }
  let live := (List.range 4).filter (fun a => c.sub a != .off)
  if c.mode = .charge then stopConverters live c else c.forEach live stopMotor

/-! ### The evaluation (R566 to R573) -/

/-- The throttle temperature (R566): the highest reading, or the last value without a source. -/
def throttleTemp (c : Chip) : Int :=
  let td := (tdInUse c).map (tempOf c)
  let te := ((List.range 12).filter (fun k => inUse c (12 + k) && teRole c k == 1)).map
    (fun k => tempOf c (12 + k) + c.geti (F.THM_TE_CFG_OFS k))
  match td ++ te with
  | [] => c.geti F.THM_STAT_TTH
  | z :: l => l.foldl max z

/-- THR of step s, HYS of step s, for s from 1 (R568, R580). -/
def stepThr (c : Chip) (s : Nat) : Int := c.geti (F.THM_STEP_THR (s - 1))
/-- HYS of step s. -/
def stepHys (c : Chip) (s : Nat) : Int := (c.get (F.THM_STEP_HYS (s - 1)) : Nat)

/-- The rising loop of R566. -/
def stepUp (c : Chip) (tth : Int) : Nat → Nat → Nat
  | 0, s => s
  | n + 1, s => if s < 7 ∧ stepThr c (s + 1) ≤ tth then stepUp c tth n (s + 1) else s

/-- The falling loop of R566. -/
def stepDown (c : Chip) (tth : Int) : Nat → Nat → Nat
  | 0, s => s
  | n + 1, s => if 0 < s ∧ tth < stepThr c s - stepHys c s then stepDown c tth n (s - 1) else s

/-- STEP and PCT (R566); `first` says that this is the first evaluation since BOOT began. -/
def throttle (first : Bool) (c : Chip) : Chip :=
  let tth := throttleTemp c
  let c := c.seti F.THM_STAT_TTH (clampInt (-32768) 32767 tth)
  let was := c.get F.THM_STAT_STEP
  let s := if c.is F.THM_STAT_DEGR then 7 else stepDown c tth 8 (stepUp c tth 8 was)
  let target := if s = 0 then 100 else c.get (F.THM_STEP_LIM (s - 1))
  let pct := c.get F.THM_THR_PCT
  let slew := c.get F.THM_CFG_PCTSLEW
  let c := (c.set F.THM_STAT_STEP s).set F.THM_THR_PCT (if target < pct ∨ slew = 0 then target else min target (pct + slew))
  if s = was then c else
    let c := c.occur 0x17 none (BitVec.ofNat 48 s)
    if first then c else c.evThermStep

/-- A window flag takes a value; a change sets THERM_WIN except at the first evaluation (R573). -/
def windowFlag (f : Fld) (event : Bool) (v : Bool) (c : Chip) : Chip :=
  if c.is f = v then c else if event then (c.setb f v).evThermWin else c.setb f v

/-- DINH (R569). -/
def driveInhibit (first : Bool) (c : Chip) : Chip :=
  let tth := c.geti F.THM_STAT_TTH
  let lim := c.geti F.THM_CFG_DINH
  windowFlag F.THM_STAT_DINH (!first) (if lim ≤ tth then true else if tth < lim - 40 then false else c.is F.THM_STAT_DINH) c

/-- STWIN (R570): before the first evaluation the window is not closed by hysteresis. -/
def storeWindow (first : Bool) (c : Chip) : Chip :=
  let l := (tdInUse c).map (tempOf c)
  let inside (lo hi : Int) : Bool := !l.isEmpty && l.all (fun z => decide (lo ≤ z) && decide (z ≤ hi))
  windowFlag F.THM_STAT_STWIN (!first) (if first || c.is F.THM_STAT_STWIN then inside (-320) 1000 else inside (-304) 984) c

/-- Whether TEk governs charging. -/
def teWindowed (c : Chip) (k : Nat) : Bool := 2 ≤ teRole c k

/-- Whether TEk is inside its window, narrowed by a margin (R572). -/
def teInside (c : Chip) (k : Nat) (margin : Int) : Bool :=
  let t := tempOf c (12 + k)
  inUse c (12 + k) && decide (c.geti (F.THM_TE_WIN_LO k) + margin ≤ t) && decide (t ≤ c.geti (F.THM_TE_WIN_HI k) - margin)

/-- CHWIN, CHENT and OUTWIN (R572). -/
def chargeWindow (first : Bool) (c : Chip) : Chip :=
  let l := (List.range 12).filter (teWindowed c)
  let c := c.forN 12 (fun k c => c.setb (F.THM_TE_VAL_OUTWIN k) (teWindowed c k && !teInside c k 0))
  let c := windowFlag F.THM_STAT_CHWIN (!first) (l.all (fun k => teInside c k 0)) c
  c.setb F.THM_STAT_CHENT (l.all (fun k => teInside c k (c.get (F.THM_TE_WIN_WHYS k) : Nat)))

/-- The evaluation of the throttle and the windows (R566 to R573); the first waits for a conversion of every TD (R718). -/
def thermalEvaluation (c : Chip) : Chip :=
  if c.mode = .reset ∨ (!c.therm.evaluated ∧ c.therm.converted ≠ 0xFFF#12) then c else
  let first := !c.therm.evaluated
  let c := chargeWindow first (storeWindow first (driveInhibit first (throttle first (showUse c))))
  let c := modTherm (fun t => { t with evaluated := true }) c
  if c.mode = .charge && !c.is F.THM_STAT_CHWIN && !c.is F.DEV_MODE_PEND then controlledStop none .thermal c else c

/-! ### Shutdown (R574 to R576) -/

/-- The comparator of TDk has tripped for 16 SOSC cycles (R574): it acts in every mode while VSAFE is valid. -/
def thermalShutdown (k : Nat) (c : Chip) : Chip :=
  if c.clk.vsafeLow then c else
  let c := (c.raise F.THM_SHD_SHUT).setBit F.THM_SHD_TRIP k true
  let c := (setRindLatch .thermal c).setb (F.THM_TD_SHC k) true
  c.notice (.latch .thermal)

end Sys2Proof.Machine
end

