-- ==== Sys2Proof/Machine/Purlin.lean ====
section
/-! DEFINITION. The Purlin controllers (18_purlin_bus): frames, sending, errors and bus-off, receiving, time-reference and grant frames, bridging. -/

namespace Sys2Proof.Machine

/-! ### Frames (R589 to R592) -/

/-- FDF of a control word. -/
def cwFdf (w : Word) : Bool := w.field 47 1 == 1
/-- IDE of a control word. -/
def cwIde (w : Word) : Bool := w.field 45 1 == 1
/-- RTR of a control word. -/
def cwRtr (w : Word) : Bool := w.field 44 1 == 1
/-- DLC of a control word. -/
def cwDlc (w : Word) : Nat := w.field 39 4
/-- TXM of a control word: 0 AUTO, 1 ONESHOT, 2 COUNTED. -/
def cwTxm (w : Word) : Nat := w.field 37 2
/-- The identifier of a control word. -/
def cwId (w : Word) : Nat := w.field 0 29

/-- The bytes of a frame (R592). -/
def frameBytes (w : Word) : Nat :=
  if cwRtr w then 0
  else if cwDlc w ≤ 8 then cwDlc w
  else if cwFdf w then [12, 16, 20, 24, 32, 48, 64].getD (cwDlc w - 9) 64 else 8

/-- The data words of a frame: ceil(n / 6). -/
def dataWords (w : Word) : Nat := (frameBytes w + 5) / 6

/-- Byte k of data words (R592). -/
def frameByte (data : List Word) (k : Nat) : Nat := (data.getD (k / 6) 0).field (40 - 8 * (k % 6)) 8

/-- A received frame as it is kept (R591): TXM, ENTRY and reserved bits zero, as many data words as its bytes fill, unused bytes zero. -/
def receivedFrame (cw : Word) (data : List Word) : BusFrame :=
  let cw := ((cw.setField 37 2 0).setField 35 2 0).setField 29 6 0
  let n := frameBytes cw
  let word (i : Nat) : Word :=
    let w := data.getD i 0
    if 6 * (i + 1) ≤ n then w else w &&& ~~~(BitVec.ofNat 48 (2 ^ (8 * (6 * (i + 1) - n)) - 1))
  ⟨cw, (List.range (dataWords cw)).map word⟩

/-- A SYNC or FOLLOW frame of a type (R590, R606): classical, extended, class 0, DLC 0 for SYNC and 8 for FOLLOW. -/
def isTimeFrame (type : Nat) (w : Word) : Bool :=
  cwIde w && !cwFdf w && !cwRtr w && cwId w / 2 ^ 26 == 0 && cwId w / 2 ^ 8 % 2 ^ 8 == type && cwDlc w == (if type = 1 then 0 else 8)

/-- The node field of an identifier (R589). -/
def idNode (w : Word) : Nat := cwId w / 2 ^ 16 % 2 ^ 10

/-- The arbitration field as a number, in the order in which ISO 11898-1 sends it: the base identifier, RTR or SRR, IDE, the identifier
extension and RTR. PRESUMED: the standard's layout (log entry 17). -/
def arbitration (w : Word) : Nat :=
  let base := cwId w / 2 ^ 18
  if cwIde w then base * 2 ^ 21 + 2 ^ 20 + 2 ^ 19 + cwId w % 2 ^ 18 * 2 + bit (cwRtr w)
  else base * 2 ^ 21 + bit (cwRtr w) * 2 ^ 20

/-! ### Controllers -/

/-- Controller u. -/
def puOf (c : Chip) (u : Nat) : Purlin := c.pu.getD u {}

/-- Change controller u. -/
def modPu (u : Nat) (f : Purlin → Purlin) (c : Chip) : Chip := { c with pu := c.pu.modify u f }

/-- TXINH (R585). -/
def txInh (c : Chip) : Bool := !c.is F.CLK_STAT_REFACT && !c.is F.CLK_STAT_TRIMOK

/-- Whether PUc_TX is held recessive (R583, R613). -/
def puTxRecessive (c : Chip) (u : Nat) : Bool := c.mode == .reset || c.clk.hold || c.get (F.PUR_CFG_MODE u) != 1 || txInh c

/-- Whether PUc_STB is high (R583). -/
def puStbHigh (c : Chip) (u : Nat) : Bool := c.mode == .reset || c.clk.hold || c.get (F.PUR_CFG_MODE u) == 0

/-- The state of transmit buffer b: 0 EMPTY, 1 PENDING, 2 ACTIVE, 3 WAIT, 4 DONE, 5 LOST, 6 ABORTED (R614). -/
def bufState (c : Chip) (u b : Nat) : Nat := c.get (F.PUR_TXST_ST u b)

/-- Buffer b takes a state. -/
def setBuf (u b st : Nat) (c : Chip) : Chip := c.set (F.PUR_TXST_ST u b) st

/-- What stands in buffer b. -/
def bufOf (c : Chip) (u b : Nat) : TxBuf := (puOf c u).bufs.getD b {}

/-- Change buffer b. -/
def modBuf (u b : Nat) (f : TxBuf → TxBuf) (c : Chip) : Chip := modPu u (fun p => { p with bufs := p.bufs.modify b f }) c

/-- The error state: 0 ACTIVE, 1 PASSIVE, 2 BUSOFF, 3 OFF (R614). -/
def busState (c : Chip) (u : Nat) : Nat := c.get (F.PUR_ERR_STATE u)

/-- The error state takes a value; every change sets BUSERR (R597). -/
def setBusState (u st : Nat) (c : Chip) : Chip := if busState c u = st then c else (c.set (F.PUR_ERR_STATE u) st).evBuserr u

/-- PUc.CFG has been written or restored (R584): a disabled controller is OFF and takes no part in bus traffic. -/
def puCfgTaken (u : Nat) (c : Chip) : Chip :=
  if c.get (F.PUR_CFG_MODE u) = 0 then setBusState u 3 (modPu u (fun p => { p with joined := false, active := none }) c) else c

/-- 11 recessive bits: a started controller joins bus traffic (R584). -/
def busIntegration (u : Nat) (c : Chip) : Chip :=
  if c.mode = .reset ∨ c.get (F.PUR_CFG_MODE u) = 0 ∨ (puOf c u).joined then c
  else setBusState u 0 (modPu u (fun p => { p with joined := true }) c)

/-- Whether the controller may start an attempt: it takes part in traffic, sends (R583, R585) and is not in bus-off. -/
def maySend (c : Chip) (u : Nat) : Bool :=
  (puOf c u).joined && busState c u != 2 && ((c.get (F.PUR_CFG_MODE u) == 1 && !txInh c) || c.get (F.PUR_CFG_MODE u) == 3)

/-- The pending sources with their frames and orders: 0 to 2 the buffers, 3 the time buffer, 4 the bridge queue. -/
def pendingSources (c : Chip) (u : Nat) : List (Nat × TxBuf) :=
  let p := puOf c u
  let t := match p.time with | some t => [(3, t)] | none => []
  let q := match p.bridge with | t :: _ => [(4, t)] | [] => []
  t ++ ((List.range 3).filter (fun b => bufState c u b == 1)).map (fun b => (b, bufOf c u b)) ++ q

/-- The first of a list of sources by a key; the earlier stands before a later one with an equal key. -/
def firstBy (key : TxBuf → Nat) : List (Nat × TxBuf) → Option Nat
  | [] => none
  | x :: l => some (l.foldl (fun (m : Nat × TxBuf) y => if key y.2 < key m.2 then y else m) x).1

/-- The source that R593 offers first. -/
def nextSource (c : Chip) (u : Nat) : Option Nat :=
  let l := pendingSources c u
  match l.find? (·.1 == 3) with
  | some _ => some 3
  | none =>
    match c.get (F.PUR_CFG_TXPRI u) with
    | 1 => (l.head?).map (·.1)
    | 2 => firstBy (·.order) l
    | _ => firstBy (fun t => arbitration t.frame.cw) l

/-- An attempt starts: the source offered first, if any, is on the bus (R593). -/
def startAttempt (u : Nat) (c : Chip) : Chip :=
  if (puOf c u).active.isSome || !maySend c u then c else
  match nextSource c u with
  | some k => (if k < 3 then setBuf u k 2 c else c) |> modPu u (fun p => { p with active := some k })
  | none => c

/-- The source on the bus, and its frame. -/
def activeFrame (c : Chip) (u : Nat) : Option (Nat × BusFrame) :=
  let p := puOf c u
  match p.active with
  | some 3 => p.time.map (fun t => (3, t.frame))
  | some 4 => p.bridge.head?.map (fun t => (4, t.frame))
  | some b => some (b, (bufOf c u b).frame)
  | none => none

/-- The next order of becoming pending. -/
def nextOrder (u : Nat) (c : Chip) : Nat × Chip := ((puOf c u).sentOrder, modPu u (fun p => { p with sentOrder := p.sentOrder + 1 }) c)

/-! ### BUS_SEND, aborts and retries (R594 to R596) -/

/-- Load a frame into buffer b (R595); a COUNTED frame loaded in bus-off belongs to the episode (R598). -/
def busLoad (u b : Nat) (f : BusFrame) (c : Chip) : Chip :=
  let r := nextOrder u c
  let c := modBuf u b (fun _ => { frame := f, order := r.1, episode := cwTxm f.cw == 2 && busState c u == 2 }) r.2
  setBuf u b 1 (c.set (F.PUR_TXST_ATT u b) 0)

/-- Abort buffer b (R596). -/
def abortBuf (u b : Nat) (c : Chip) : Chip :=
  match bufState c u b with
  | 1 | 3 => setBuf u b 6 c
  | 2 => modBuf u b (fun t => { t with abort := true }) c
  | _ => c

/-- A frame is LOST (R594). -/
def loseFrame (u b : Nat) (c : Chip) : Chip := ((setBuf u b 5 c).countSat (F.PUR_TXST_LOSTCNT u) 1).evBuserr u

/-- Whether a COUNTED frame has used its attempts. -/
def attemptsUsed (c : Chip) (u b : Nat) : Bool := decide (c.get (F.PUR_CFG_RETRY u) ≤ c.get (F.PUR_TXST_ATT u b))

/-- Cellar returns a COUNTED buffer from WAIT (R594). -/
def countedRetry (u b : Nat) (c : Chip) : Chip :=
  if bufState c u b ≠ 3 then c
  else if attemptsUsed c u b then loseFrame u b c
  else
    let r := nextOrder u c
    setBuf u b 1 (modBuf u b (fun t => { t with order := r.1 }) r.2)

/-! ### Error counters (R597 to R599); PRESUMED: the counting rules of ISO 11898-1 (log entry 17) -/

/-- The error state follows the counters. -/
def errorState (u : Nat) (c : Chip) : Chip :=
  let passive := decide (127 < c.get (F.PUR_ERR_TEC u)) || decide (127 < c.get (F.PUR_ERR_REC u))
  match busState c u with
  | 0 => if passive then setBusState u 1 (c.raise (F.PUR_ERR_EPASS u)) else c
  | 1 => if passive then c else setBusState u 0 c
  | _ => c

/-- COUNTED frames that stand in the buffers belong to the episode that begins (R598). -/
def markEpisode (u : Nat) (c : Chip) : Chip :=
  c.forN 3 (fun b c => if bufState c u b != 0 && bufState c u b < 4 && cwTxm (bufOf c u b).frame.cw == 2 then
    modBuf u b (fun t => { t with episode := true }) c else c)

/-- Bus-off is entered (R597, R598). -/
def busOff (u : Nat) (c : Chip) : Chip :=
  setBusState u 2 (((markEpisode u c).raise (F.PUR_ERR_BOFF u)).countSat (F.PUR_ERR_BOCNT u) 1)

/-- An error while sending raises the transmit error counter by 8. -/
def transmitError (u : Nat) (exempt : Bool) (c : Chip) : Chip :=
  let n := c.get (F.PUR_ERR_TEC u) + (if exempt then 0 else 8)
  let c := c.set (F.PUR_ERR_TEC u) (min n 255)
  if 255 < n then busOff u c else errorState u c

/-- An error while receiving: the receive error counter rises by 1, and by 8 more where the first bit after the error flag is dominant. -/
def receiveError (u : Nat) (dominant : Bool) (c : Chip) : Chip :=
  errorState u (c.countSat (F.PUR_ERR_REC u) (if dominant then 9 else 1))

/-- A frame received without error lowers the receive error counter; above 127 it takes a value from 119 to 127, which the standard leaves
open. -/
def receiveGood (u : Nat) (c : Chip) : Chip :=
  let n := c.get (F.PUR_ERR_REC u)
  if 127 < n then
    let r := c.free
    errorState u (r.2.set (F.PUR_ERR_REC u) (119 + r.1.toNat % 9))
  else errorState u (c.set (F.PUR_ERR_REC u) (n - 1))

/-- LEC, DATAPH and the trace of an error frame. -/
def recordError (u lec : Nat) (dataPhase : Bool) (c : Chip) : Chip :=
  ((c.set (F.PUR_ERR_LEC u) lec).setb (F.PUR_ERR_DATAPH u) dataPhase).occur 0x15 (some u) (BitVec.ofNat 48 lec)

/-- PCLK cycles of one second. -/
def cyclesSecond : Nat := 400000000

/-- Own-identifier bit errors within the last second (R599). -/
def recentIdErrs (c : Chip) (u : Nat) : List Nat := (puOf c u).idErrs.filter (fun t => decide (c.up - t < cyclesSecond))

/-- A bit error after the arbitration field of an own extended frame (R599). -/
def ownBitError (u lec : Nat) (w : Word) (afterArb : Bool) (c : Chip) : Chip :=
  if afterArb && (lec == 4 || lec == 5) && cwIde w && idNode w == c.ms.naddr then
    let l := c.up :: recentIdErrs c u
    let c := modPu u (fun p => { p with idErrs := l }) c
    if 4 ≤ l.length then (c.raise (F.PUR_ERR_IDCOLL u)).evIdColl else c
  else c

/-- Recovery from bus-off (R598). -/
def busOffRecovery (u : Nat) (c : Chip) : Chip :=
  if busState c u ≠ 2 then c else
  let c := ((c.set (F.PUR_ERR_TEC u) 0).set (F.PUR_ERR_REC u) 0).set (F.PUR_ERR_RECSEQ u) 0
  let c := setBusState u 0 c
  c.forN 3 (fun b c =>
    if (bufOf c u b).episode then
      let c := (modBuf u b (fun t => { t with episode := false }) c).countSat (F.PUR_TXST_ATT u b) 1
      if attemptsUsed c u b && (bufState c u b == 1 || bufState c u b == 3) then loseFrame u b c else c
    else c)

/-! ### Receiving (R600 to R604) -/

/-- Whether a filter's ID and MSK words match a frame. -/
def filterMatch (idw msk w : Word) : Bool := cwIde idw == cwIde w && (Nat.xor (cwId w) (cwId idw)) &&& cwId msk == 0

/-- The action for a frame: 1 FIFO, 2 PRIO, 3 or 0 discarded (R600). -/
def filterAction (c : Chip) (u : Nat) (w : Word) : Nat :=
  match (List.range 32).find? (fun k => c.get (F.PUR_FLTID_ACT u k) != 0 && filterMatch (c.rd (F.PUR_FLTID u k)) (c.rd (F.PUR_FLTMSK u k)) w) with
  | some k => c.get (F.PUR_FLTID_ACT u k)
  | none => c.get (F.PUR_CFG_DEFACT u)

/-- FULLN and USED (R614). -/
def showFifo (u : Nat) (c : Chip) : Chip :=
  let l := (puOf c u).fifo
  (c.set (F.PUR_FIFOST_FULLN u) (l.countP (·.state == .full))).set (F.PUR_FIFOST_USED u) (l.countP (·.state != .free))

/-- A frame joins the FIFO (R601). -/
def fifoFrame (u : Nat) (f : BusFrame) (inst : Word) (c : Chip) : Chip :=
  match (puOf c u).fifo.findIdx? (·.state == .free) with
  | some k =>
    let e : RxEntry := ⟨.full, f, inst.field 0 40, (puOf c u).gotOrder⟩
    (showFifo u (modPu u (fun p => { p with fifo := p.fifo.set k e, gotOrder := p.gotOrder + 1 }) c)).evRxfifo u
  | none => c.countSat (F.PUR_FIFOST_RXOVR u) 1

/-- A frame replaces the one in the priority buffer (R604). -/
def prioFrame (u : Nat) (f : BusFrame) (inst : Word) (c : Chip) : Chip :=
  let c := c.forN 12 (fun i c => c.wr (F.PUR_PB u i) (if i = 0 then f.cw else f.data.getD (i - 1) 0))
  let c := if c.is (F.PUR_PBSTAT_VALID u) then c.raise (F.PUR_PBSTAT_OVR u) else c
  ((c.raise (F.PUR_PBSTAT_VALID u)).set (F.PUR_PBSTAT_TS u) (inst.field 0 40)).evPrio u

/-- A frame reaches the filters (R600). -/
def filterFrame (u : Nat) (f : BusFrame) (inst : Word) (c : Chip) : Chip :=
  match filterAction c u f.cw with
  | 1 => fifoFrame u f inst c
  | 2 => prioFrame u f inst c
  | _ => c

/-- The FULL entry that arrived first (R602). -/
def oldestFull (c : Chip) (u : Nat) : Option (Nat × RxEntry) :=
  let l := ((List.range 64).map (fun k => (k, (puOf c u).fifo.getD k {}))).filter (fun e => e.2.state == .full)
  match l with
  | [] => none
  | x :: r => some (r.foldl (fun (m : Nat × RxEntry) y => if y.2.order < m.2.order then y else m) x)

/-- An entry takes a state. -/
def setEntry (u k : Nat) (st : RxState) (c : Chip) : Chip :=
  showFifo u (modPu u (fun p => { p with fifo := p.fifo.modify k (fun e => { e with state := st }) }) c)

/-! ### Time-reference frames (R605 to R607) -/

/-- NWT some nanoseconds ago. -/
def instantAgo (c : Chip) (age : Nat) : Word := c.now - BitVec.ofNat 48 age

/-- The capture of a SYNC's frame instant by the units that name PUc_SYNC (R158, R605). -/
def captureSync (u : Nat) (inst : Word) (c : Chip) : Chip :=
  let t := c.time.nwt
  let c := ({ c with time := { c.time with nwt := ofNs inst } }).captureAt (5 + u) true
  { c with time := { c.time with nwt := t } }

/-- A SYNC or FOLLOW that forms no pair (R607). -/
def dropTime (c : Chip) : Chip := c.countSat F.NWT_STAT_DROPS 1

/-- Whether pairs are formed on controller u (R141, R607): for the servo on the slave's UPPU, for the trim on BUSPU. -/
def pairsOn (c : Chip) (u : Nat) : Bool := (isSlave c && c.get F.NWT_CFG_UPPU == u) || c.get F.CLK_CFG_BUSPU == u

/-- A SYNC that has waited 100 ms forms no pair. -/
def expireSync (u : Nat) (c : Chip) : Chip :=
  match (puOf c u).sync with
  | some s => if cyclesMs 100 < c.up - s.cameAt then dropTime (modPu u (fun p => { p with sync := none }) c) else c
  | none => c

/-- A SYNC is received (R605, R607). -/
def syncReceived (u : Nat) (f : BusFrame) (inst : Word) (c : Chip) : Chip :=
  let c := captureSync u inst c
  if pairsOn c u && idNode f.cw == c.get F.NWT_CFG_MADDR then
    let c := if (puOf c u).sync.isSome then dropTime c else c
    modPu u (fun p => { p with sync := some ⟨cwId f.cw % 256, inst, c.up⟩ }) c
  else dropTime c

/-- A pair is formed: the servo runs on its offset, and the trim sees it (R114, R142, R143). -/
def pairFormed (u : Nat) (capture sender : Word) (c : Chip) : Chip :=
  let c := if c.get F.CLK_CFG_BUSPU = u then { c with clk := { c.clk with pairAt := c.clk.pairAt.set u (some c.up) } } else c
  if isSlave c && c.get F.NWT_CFG_UPPU == u then
    servoOffset (sdiff48 capture (sender + BitVec.ofNat 48 (c.get F.NWT_CFG_PDLY))) c
  else c

/-- A FOLLOW is received (R607). -/
def followReceived (u : Nat) (f : BusFrame) (c : Chip) : Chip :=
  let own := pairsOn c u && idNode f.cw == c.get F.NWT_CFG_MADDR
  let locked := frameByte f.data 7 % 2 == 1
  match own, (puOf c u).sync with
  | true, some s =>
    let c := modPu u (fun p => { p with sync := none }) c
    if s.index = cwId f.cw % 256 ∧ locked then
      let sender := f.data.getD 0 0
      let c := if isSlave c && c.get F.NWT_CFG_UPPU == u then { c with hop := frameByte f.data 6 } else c
      pairFormed u s.capture sender c
    else dropTime (dropTime c)
  | _, _ => dropTime c

/-- The controllers on which a device of a role sends time frames (R606). -/
def sendsTime (c : Chip) (u : Nat) : Bool :=
  (isMaster c || (isSlave c && c.get F.NWT_CFG_UPPU != u)) && Nat.bitAt (c.get F.NWT_CFG_DNPU) u && c.get (F.PUR_CFG_MODE u) != 0

/-- A SYNC with an index, as it is loaded into the time buffer. -/
def syncFrame (c : Chip) (seq : Nat) : BusFrame :=
  ⟨BitVec.ofNat 48 (2 ^ 45 + c.ms.naddr * 2 ^ 16 + 2 ^ 8 + seq % 256), []⟩

/-- The FOLLOW of a SYNC sent with an index at an instant (R606). -/
def followFrame (c : Chip) (seq : Nat) (inst : Word) : BusFrame :=
  let hop := if isMaster c then 0 else (c.hop + 1) % 256
  let locked := isMaster c || c.get F.NWT_STAT_SRV == 2
  ⟨BitVec.ofNat 48 (2 ^ 45 + 8 * 2 ^ 39 + c.ms.naddr * 2 ^ 16 + 2 * 2 ^ 8 + seq % 256),
   [inst, BitVec.ofNat 48 (hop * 2 ^ 40 + bit locked * 2 ^ 32)]⟩

/-- A SYNCINT tick (R606). -/
def syncintTick (c : Chip) : Chip :=
  if c.mode = .reset then c else
  c.forN 2 (fun u c =>
    if sendsTime c u && (puOf c u).time.isNone then
      let r := nextOrder u c
      let f := syncFrame c (puOf c u).seq
      modPu u (fun p => { p with time := some { frame := f, order := r.1 }, seq := (p.seq + 1) % 256 }) r.2
    else c)

/-! ### Grant frames and bridging (R608 to R610) -/

/-- The grant that a GRANT frame holds for this device (R608). -/
def grantIn (c : Chip) (f : BusFrame) : Option Nat :=
  let n := frameBytes f.cw / 4
  let half (k : Nat) : Nat := frameByte f.data k * 256 + frameByte f.data (k + 1)
  ((List.range n).find? (fun j => half (4 * j) == c.ms.naddr)).map (fun j => half (4 * j + 2))

/-- The bus grant that a frame brings (R608): type 0x10 from BCOORD on BPU. -/
def busGrantIn (c : Chip) (u : Nat) (f : BusFrame) : Option Nat :=
  if cwIde f.cw && !cwRtr f.cw && cwId f.cw / 2 ^ 8 % 2 ^ 8 == 0x10 && idNode f.cw == c.get F.CNV_BLIM_BCOORD && c.get F.CNV_BLIM_BPU == u
  then grantIn c f else none

/-- Q01 and Q10 (R615). -/
def showQueues (c : Chip) : Chip :=
  (c.set F.PUR_BRCFG_Q01 (puOf c 1).bridge.length).set F.PUR_BRCFG_Q10 (puOf c 0).bridge.length

/-- Forward a frame to the other controller (R609, R610). -/
def bridgeFrame (u : Nat) (f : BusFrame) (c : Chip) : Chip :=
  let dst := 1 - u
  let dir := if u = 0 then 1 else 2
  let hit := (List.range 16).any (fun n =>
    (c.get (F.PUR_BRFID_DIR n) == dir || c.get (F.PUR_BRFID_DIR n) == 3) && filterMatch (c.rd (F.PUR_BRFID n)) (c.rd (F.PUR_BRFMSK n)) f.cw)
  if !c.is F.PUR_BRCFG_EN || !hit then c
  else if 8 ≤ (puOf c dst).bridge.length || c.get (F.PUR_CFG_MODE dst) != 1 || txInh c then
    c.countSat (if u = 0 then F.PUR_BRCFG_DROP01 else F.PUR_BRCFG_DROP10) 1
  else
    let r := nextOrder dst c
    let f' : BusFrame := ⟨f.cw.setField 43 1 (bit (cwFdf f.cw && busState c dst == 1)), f.data⟩
    showQueues (modPu dst (fun p => { p with bridge := p.bridge ++ [{ frame := f', order := r.1 }] }) r.2)

/-- A frame received without error on controller u (R600, R605 to R609). -/
def takeFrame (u : Nat) (f : BusFrame) (inst : Word) (c : Chip) : Chip :=
  let c := expireSync u (c.occur 0x13 (some u) (BitVec.ofNat 48 (cwId f.cw)))
  if isTimeFrame 1 f.cw || isTimeFrame 2 f.cw then
    let c := if isTimeFrame 1 f.cw then syncReceived u f inst c else followReceived u f c
    if c.is (F.PUR_CFG_SNOOP u) then filterFrame u f inst c else c
  else
    let c := match busGrantIn c u f with
      | some g =>
        let c := grantFrame g c
        if c.is (F.PUR_CFG_SNOOP u) then filterFrame u f inst c else c
      | none => filterFrame u f inst c
    bridgeFrame u f c

/-- FRAME_RECEIVED: a controller that takes part in bus traffic receives a frame of another node (R600); `age` is the time since its frame
instant in ns. -/
def frameReceived (u : Nat) (cw : Word) (data : List Word) (age : Nat) (c : Chip) : Chip :=
  if c.mode = .reset ∨ !(puOf c u).joined ∨ busState c u = 2 ∨ c.get (F.PUR_CFG_MODE u) = 3 then c
  else takeFrame u (receivedFrame cw data) (instantAgo c age) (receiveGood u c)

/-! ### The end of an attempt (R594, R596 to R599) -/

/-- An attempt of buffer b ends without success: `lost` by arbitration. -/
def bufFailed (u b : Nat) (lost : Bool) (c : Chip) : Chip :=
  let t := bufOf c u b
  let counted := cwTxm t.frame.cw == 2
  let c := if lost || (counted && busState c u == 2) then c else c.countSat (F.PUR_TXST_ATT u b) 1
  let c := modBuf u b (fun t => { t with abort := false }) c
  if t.abort then setBuf u b 6 c
  else if cwTxm t.frame.cw = 1 then loseFrame u b c
  else if counted && !lost then setBuf u b 3 c
  else setBuf u b 1 c

/-- The frame of a source has been sent (R606, R610). -/
def sourceSent (u k : Nat) (f : BusFrame) (inst : Word) (c : Chip) : Chip :=
  match k with
  | 3 =>
    if isTimeFrame 1 f.cw then
      let c := captureSync u inst c
      let r := nextOrder u c
      modPu u (fun p => { p with time := some { frame := followFrame c (cwId f.cw) inst, order := r.1 } }) r.2
    else modPu u (fun p => { p with time := none }) c
  | 4 => showQueues (modPu u (fun p => { p with bridge := p.bridge.drop 1 }) c)
  | b => setBuf u b 4 (modBuf u b (fun t => { t with abort := false }) c)

/-- TRANSMISSION_END: the attempt on the bus ends; where none was noted as started, the source offered first makes it (R593). -/
def transmissionEnd (u : Nat) (r : TxResult) (age : Nat) (c : Chip) : Chip :=
  if c.mode = .reset then c else
  let c := startAttempt u c
  match activeFrame c u with
  | none => c
  | some (k, f) =>
    let c := modPu u (fun p => { p with active := none }) c
    match r with
    | .success d =>
      let c := errorState u (c.set (F.PUR_ERR_TEC u) (c.get (F.PUR_ERR_TEC u) - 1))
      let c := match d with
        | some n => if c.is (F.PUR_DBT_TDCEN u) && cwFdf f.cw && f.cw.field 46 1 == 1 then c.set (F.PUR_DBT_TDCV u) (min n 127) else c
        | none => c
      let c := (sourceSent u k f (instantAgo c age) c).occur 0x14 (some u) (BitVec.ofNat 48 (cwId f.cw))
      if c.get (F.PUR_CFG_MODE u) = 3 then takeFrame u (receivedFrame f.cw f.data) (instantAgo c age) c else c
    | .arbitrationLost => if k < 3 then bufFailed u k true c else c
    | .error lec ph aft ex =>
      let c := ownBitError u lec.val f.cw aft (recordError u lec.val ph c)
      let c := transmitError u ex c
      if k < 3 then bufFailed u k false c else c

/-- ERROR_FRAME: an error while receiving (R597). -/
def errorFrame (u lec : Nat) (dataPhase dominant : Bool) (c : Chip) : Chip :=
  if c.mode = .reset ∨ !(puOf c u).joined ∨ busState c u = 2 then c
  else receiveError u dominant (recordError u lec dataPhase c)

/-- What passes on the buses in an idle PCLK cycle: attempts start, SYNCs that waited too long are dropped, errors older than 1 s leave
the count, and bus-off recovery makes progress that the bus decides (R593, R598, R599, R607). -/
def tickPurlin (c : Chip) : Chip :=
  c.forN 2 (fun u c =>
    let c := startAttempt u (expireSync u c)
    if busState c u = 2 then
      let r := c.free
      r.2.set (F.PUR_ERR_RECSEQ u) (r.1.field 0 7)
    else c)

end Sys2Proof.Machine
end

