-- ==== Sys2Proof/Machine/Logs.lean ====
section
/-! DEFINITION. What the store's writers share: the store-write window, DEV.PDONE, the two change logs, the closing of seals (R98, R100 to R103,
R549, R552, R571, R635, R636). -/

namespace Sys2Proof.Machine

/-! ### Refused writes, outcomes, commits -/

/-- Whether store writes are permitted (R570, R571). -/
def canStore (c : Chip) : Bool := c.is F.THM_STAT_STWIN

/-- A write is refused under R571 (R675). -/
def refuseStore (c : Chip) : Chip := (c.raise F.NVS_STAT_INHIB).evStore

/-- DEV.PDONE takes the outcome of a request answered with ACCEPTED_PENDING (R98). -/
def pdone (op tag status detail : Nat) (c : Chip) : Chip :=
  let c := if c.ms.pdoneUnread then c.countSat F.DEV_PDONE_LOST 1 else c
  let c := (((c.set F.DEV_PDONE_OPCODE op).set F.DEV_PDONE_TAG tag).set F.DEV_PDONE_DETAIL detail).set F.DEV_PDONE_STATUS status
  ({ c with ms := { c.ms with pdoneUnread := true } }).evPendDone

/-- The outcome of a pending request, if there is one. -/
def pdoneFor (r : Option PendReq) (status detail : Nat) (c : Chip) : Chip :=
  match r with | some q => pdone q.op q.tag status detail c | none => c

/-- A record has been committed (R684, event 0x18): its TYPE shows in the trace. -/
def committed (type : Nat) (c : Chip) : Chip := c.occur 0x18 none (BitVec.ofNat 48 (type * 2 ^ 40))

/-- A record of the SAFE (0x50 to 0x5F) or MLOG (0x60 to 0x6F) partition has been committed: which TYPE it has the spec leaves open. -/
def committedIn (base : Nat) (c : Chip) : Chip := let r := c.free; committed (base + r.1.toNat % 16) r.2

/-! ### The change logs (R552, R636) -/

/-- Change the SAFE partition. -/
def modSafe (f : Safe → Safe) (c : Chip) : Chip := { c with safe := f c.safe }

/-- Change the metrology partition. -/
def modMeter (f : Meter → Meter) (c : Chip) : Chip := { c with meter := f c.meter }

/-- Whether the metrology partition is present (R3). -/
def hasMeter (c : Chip) : Bool := c.fuses.variant != 1

/-- Append an entry to the safety change log, which keeps the newest 1,024 (R552). -/
def sinLog (event detail newchk oldchk : Nat) (c : Chip) : Chip :=
  let e : LogEntry := { seq := c.safe.lastSeq + 1, event := event, detail := detail, time := c.now, w2 := BitVec.ofNat 48 newchk, w3 := BitVec.ofNat 48 oldchk }
  committedIn 0x50 (modSafe (fun s => { s with log := (e :: s.log).take 1024, lastSeq := s.lastSeq + 1 }) c)

/-- The check value in force (R544, R556). -/
def inForceCheck (c : Chip) : Nat := c.get F.SIN_ACHK_INFORCE

/-- An entry of the safety log at which the set in force does not change. -/
def sinLogPlain (event detail : Nat) (c : Chip) : Chip := sinLog event detail (inForceCheck c) (inForceCheck c) c

/-- Append an entry to the metrology change log, unless it is full (R636). -/
def mtrLogAdd (e : LogEntry) (c : Chip) : Chip :=
  if 4096 ≤ c.meter.log.length then c else
  modMeter (fun m => { m with log := { e with seq := m.lastSeq + 1, time := c.now, w5 := BitVec.ofNat 48 m.eimp } :: m.log, lastSeq := m.lastSeq + 1 }) c

/-- An entry of the metrology log with its event and detail. -/
def mtrLog (event detail : Nat) (c : Chip) : Chip := committedIn 0x60 (mtrLogAdd { seq := 0, event := event, detail := detail } c)

/-! ### Lockouts (R102) -/

/-- The records of a seal: true for the metrology seal. -/
def sealLogOf (c : Chip) (mtr : Bool) : SealLog := if mtr then c.meter.sealLog else c.safe.sealLog

/-- Change the records of a seal. -/
def modSeal (mtr : Bool) (f : SealLog → SealLog) (c : Chip) : Chip :=
  if mtr then modMeter (fun m => { m with sealLog := f m.sealLog }) c else modSafe (fun s => { s with sealLog := f s.sealLog }) c

/-- The bit of DEV.SEAL that shows a seal open. -/
def sealFld (mtr : Bool) : Fld := if mtr then F.DEV_SEAL_MTROPEN else F.DEV_SEAL_SINOPEN

/-- Whether a seal is open. -/
def sealOpened (c : Chip) (mtr : Bool) : Bool := c.is (sealFld mtr)

/-- DEV.SEAL shows fail counts and lockouts (R104). -/
def showSeals (c : Chip) : Chip :=
  let c := (c.set F.DEV_SEAL_SINFAIL (min 255 c.safe.sealLog.fails)).set F.DEV_SEAL_MTRFAIL (min 255 c.meter.sealLog.fails)
  (c.setb F.DEV_SEAL_SINLOCK c.safe.sealLog.lockEnd.isSome).setb F.DEV_SEAL_MTRLOCK c.meter.sealLog.lockEnd.isSome

/-- An entry of the log of a seal. -/
def sealEntry (mtr : Bool) (event detail : Nat) (c : Chip) : Chip := if mtr then mtrLog event 0 c else sinLogPlain event detail c

/-- A wrong credential (R101, R102): after three in a row, a lockout, each further one doubling it up to 3,840 s. -/
def wrongCredential (mtr : Bool) (detail : Nat) (c : Chip) : Chip :=
  let s := sealLogOf c mtr
  let n := s.fails + 1
  let c := (sealEntry mtr 2 detail c).evSealChg
  let c := modSeal mtr (fun s => { s with fails := n }) c
  showSeals (if n < 3 then c else
    sealEntry mtr 3 0 (modSeal mtr (fun s => { s with lockEnd := some (c.up + s.lockNext * cyclesSecond), lockNext := min 3840 (2 * s.lockNext) }) c))

/-- The remaining lockout in whole seconds, rounded up (R102). -/
def lockRemaining (c : Chip) (mtr : Bool) : Nat :=
  match (sealLogOf c mtr).lockEnd with | some t => (t - c.up + cyclesSecond - 1) / cyclesSecond | none => 0

/-- A lockout ends (R102). -/
def lockoutEnd (mtr : Bool) (c : Chip) : Chip := showSeals (modSeal mtr (fun s => { s with lockEnd := none }) c)

/-- A seal opens with the right credential (R101, R102). -/
def openSeal (mtr : Bool) (detail : Nat) (c : Chip) : Chip :=
  let c := sealEntry mtr 1 detail c
  let c := modSeal mtr (fun s => { s with fails := 0, lockNext := 60, unclosed := true, byReset := false }) c
  showSeals ((c.raise (sealFld mtr)).evSealChg)

/-! ### Closing a seal (R101, R103, R549, R635) -/

/-- The twenty SL words of the MTR region (R635). -/
def calWords : List Nat :=
  [0x100004, 0x100008, 0x100009, 0x10000A, 0x10000B, 0x10000C, 0x10000D, 0x10000E, 0x10000F] ++ (List.range 11).map (0x100040 + ·)

/-- The calibration in force, or the one that takes force at the next sample boundary. -/
def calTaken (c : Chip) : List (Nat × Word) := c.meter.nextCal.getD c.meter.inForce

/-- The calibration words as they stand. -/
def calImage (c : Chip) : List (Nat × Word) := calWords.map (fun a => (a, c.rd a))

/-- The SL words of MTR return to the calibration in force (R635). -/
def dropCal (c : Chip) : Chip := c.forEach calWords (fun (a : Nat) (c : Chip) => c.wr a (wordIn (calTaken c) a (resetWord a)))

/-- A close of the metrology seal commits the staged calibration (R635). -/
def commitCal (event : Nat) (c : Chip) : Chip :=
  let changed := calWords.filter (fun a => c.rd a != wordIn (calTaken c) a (resetWord a))
  if changed.isEmpty then mtrLog event 0 c
  else
    let c := c.forEach changed (fun (a : Nat) (c : Chip) =>
      mtrLogAdd { seq := 0, event := 8, w2 := BitVec.ofNat 48 a, w3 := wordIn (calTaken c) a (resetWord a), w4 := c.rd a } c)
    let c := mtrLog event 0 c
    let img := calImage c
    let c := modMeter (fun m => { m with calRecord := some img, nextCal := some img, calSeq := m.lastSeq }) c
    (c.set F.MTR_CALID_CALSEQ c.meter.calSeq).set F.MTR_CALCRC_CALCRC (crc32 (img.map (·.2))).toNat

/-- A seal closes with the log entry of an event; an entry that cannot be committed is written at the next BOOT (R101). -/
def closeSeal (mtr : Bool) (event : Nat) (c : Chip) : Chip :=
  if !sealOpened c mtr then c else
  let ok := canStore c
  let c := if mtr then (if ok then commitCal event c else dropCal (refuseStore c))
    else
      let c := modSafe (fun s => { s with stagedPw := none }) (dropStaged c)
      if ok then sinLogPlain event 0 c else refuseStore c
  let c := modSeal mtr (fun s => { s with unclosed := !ok, byReset := false }) c
  (c.setb (sealFld mtr) false).evSealChg

/-- Close both seals. -/
def closeSeals (event : Nat) (c : Chip) : Chip := closeSeal true event (closeSeal false event c)

/-- An open seal closes on its time-out (R103). -/
def sealTimeout (c : Chip) : Chip :=
  if sealOpened c false || sealOpened c true then (closeSeals 5 c).evSealAuto else c

/-- Entry into LATCHED closes the open seal as a close by reset (R42, R101): staged values are discarded. -/
def closeSealsLatched (c : Chip) : Chip := closeSeals 6 (if sealOpened c true then dropCal c else c)

/-- A reset closes every seal (R101, R103); its entry is due at BOOT, and SIN.PW returns to its reset value (R127). -/
def closeByReset (c : Chip) : Chip :=
  let mark (mtr : Bool) (c : Chip) : Chip := if sealOpened c mtr then modSeal mtr (fun s => { s with byReset := true }) c else c
  modSafe (fun s => { s with stagedPw := none, confirming := none, pw := List.replicate 15 0 }) (mark true (mark false c))

/-- BOOT writes the close of an opening that has none (R101). -/
def closeAtBoot (mtr : Bool) (c : Chip) : Chip :=
  let s := sealLogOf c mtr
  if !s.unclosed then c
  else if !canStore c then modSeal mtr (fun s => { s with byReset := false }) (refuseStore c)
  else modSeal mtr (fun s => { s with unclosed := false, byReset := false })
    (sealEntry mtr (if s.byReset then 6 else if mtr then 7 else 9) 0 c)

/-- The entry selected by an index, 0 the newest (R553, R637). -/
def logAt (l : List LogEntry) (i : Nat) : LogEntry := l.getD i { seq := 0, event := 0 }

/-- Word 0 of an entry as it shows. -/
def logWord0 (e : LogEntry) : Word := BitVec.ofNat 48 (e.seq % 2 ^ 32 * 2 ^ 16 + e.event * 2 ^ 8 + e.detail)

end Sys2Proof.Machine
end

