-- ==== Sys2Proof/Machine/Meter.lean ====
section
/-! DEFINITION. The metrology partition (19_metrology): samples and energy, means and comparison, snapshots, sessions and their records. -/

namespace Sys2Proof.Machine

/-! ### Calibration in force (R618, R640) -/

/-- A word of the calibration in force. -/
def calVal (c : Chip) (a : Nat) : Word := wordIn c.meter.inForce a (resetWord a)

/-- A coefficient of the calibration in force: 0 KV, 1 KI, 2 KVR, 3 KIR. -/
def calCoef (c : Chip) (k : Nat) : Rat := coefRat (calVal c (0x10000C + k))

/-- The corrected code of modulator m (R618). -/
def correctedCode (c : Chip) (m : Nat) (x : Int) : Rat :=
  let w := calVal c (0x100008 + m)
  let ofs := signed 24 (w.field 24 24)
  let gc := signed 24 (w.field 0 24)
  ((x - ofs : Int) : Rat) * (1 + ((gc : Int) : Rat) * twoTo (-26))

/-- The code of a modulator, saturated (R616). -/
def satCode (x : Int) : Int := clampInt (-8388608) 8388607 x

/-- Whether a code is saturated. -/
def isSat (x : Int) : Bool := decide (x ≤ -8388608) || decide (8388607 ≤ x)

/-- Whether modulator m holds a fault (R621). -/
def modFault (c : Chip) (m : Nat) : Bool := c.getBit F.MTR_STAT_MFLT m

/-- The session state: 0 IDLE, 1 OPEN, 2 CLOSING (R641). -/
def sessState (c : Chip) : Nat := c.get F.MTR_SESS_STATE

/-- Whether samples are accumulated (R617). -/
def accumulates (c : Chip) : Bool :=
  hasMeter c && c.mode != .reset && c.mode != .boot && c.mode != .selftest && !c.meter.tripped && c.is F.MTR_STAT_CALOK &&
    !modFault c 0 && !modFault c 1 && (c.is F.CLK_STAT_REFACT || c.is F.CLK_STAT_TRIMOK)

/-- A flag of an open session with its bit of MTR.STAT. -/
def sessionFlag (f : Session → Session) (c : Chip) : Chip := if sessState c = 1 then modMeter (fun m => { m with session := f m.session }) c else c

/-- Add an energy in 2^-32 mWh to an import (true) or export register (R618). -/
def addEnergy (imp : Bool) (q : Nat) (c : Chip) : Chip :=
  modMeter (fun m =>
    if imp then { m with eimp := (m.eimp + (m.rimp + q) / 2 ^ 32) % 2 ^ 64, rimp := (m.rimp + q) % 2 ^ 32 }
    else { m with eexp := (m.eexp + (m.rexp + q) / 2 ^ 32) % 2 ^ 64, rexp := (m.rexp + q) % 2 ^ 32 }) c

/-- The power of a sample, zero below CREEP (R618). -/
def creepPower (c : Chip) (p : Rat) : Rat := if absRat p < (((calVal c 0x100004).field 16 16 : Nat) : Rat) then 0 else p

/-- The energy of a sample of power p in 2^-32 mWh (R618). -/
def sampleEnergy (p : Rat) : Nat := (roundRat (absRat p * 4294967296 / 14400)).toNat

/-! ### Sessions (R626 to R631) -/

/-- Whether the time is good for TQO and TQC (R630). -/
def timeQuality (c : Chip) : Bool := isMaster c || c.get F.NWT_STAT_SRV == 2

/-- A session state is taken (R95, R641). -/
def setSess (st : Nat) (c : Chip) : Chip := (c.set F.MTR_SESS_STATE st).evMeter

/-- The open values are taken at a sample boundary (R627). -/
def takeOpen (c : Chip) : Chip :=
  if c.meter.openDue then
    let s := { c.meter.session with openNwt := c.now, openImp := c.meter.eimp, openExp := c.meter.eexp, tqo := timeQuality c }
    modMeter (fun m => { m with openDue := false, session := s }) c
  else c

/-- Words W0 to W15 of the session record with the close values given (R630). -/
def sessionWords (c : Chip) (x : Closing) (nwt : Word) : List Word :=
  let m := c.meter
  let s := m.session
  let b (v : Bool) (k : Nat) : Nat := bit v * 2 ^ k
  let w3 := x.reason * 2 ^ 40 + b s.tqo 39 + b (timeQuality c) 38 + b s.gap 37 + b s.rdiff 36 + b s.ovr 35 + b x.recov 34 + s.ref % 2 ^ 32
  let upper (i e : Nat) : Nat := i / 2 ^ 48 % 2 ^ 16 * 2 ^ 32 + e / 2 ^ 48 % 2 ^ 16 * 2 ^ 16
  ([0x01 * 2 ^ 40 + 0x1B * 2 ^ 32 + c.get F.MTR_SESS_SESSNO].map (BitVec.ofNat 48)) ++ [c.fuses.serial0, c.fuses.serial1] ++
    [BitVec.ofNat 48 w3, s.openNwt, nwt] ++
    ([s.openImp, s.openExp, m.eimp, m.eexp, upper s.openImp s.openExp, upper m.eimp m.eexp, m.eimp - s.openImp, m.eexp - s.openExp,
      c.get F.MTR_CALID_CALSEQ, c.get F.MTR_CALCRC_CALCRC].map (BitVec.ofNat 48))

/-- The close values are taken at an instant (R629). -/
def takeClose (nwt : Word) (c : Chip) : Chip :=
  match c.meter.closing with
  | some x => if x.words.isSome then c else modMeter (fun m => { m with closing := some { x with words := some (sessionWords c x nwt) } }) c
  | none => c

/-- An open session starts closing for a reason (R628, R629). -/
def beginClose (reason : Nat) (recov : Bool) (pend : Option PendReq) (c : Chip) : Chip :=
  if sessState c = 1 then
    setSess 2 (modMeter (fun m => { m with closing := some { reason := reason, recov := recov, pend := pend } }) c)
  else c

/-- An accepted OPEN (R627). -/
def sessionOpen (ref : Nat) (c : Chip) : Chip :=
  setSess 1 ((modMeter (fun m => { m with session := { ref := ref }, openDue := true }) c).countMod F.MTR_SESS_SESSNO 1)

/-! ### Snapshots (R622, R629) -/

/-- Whether generation a is newer than b (R650). -/
def newerGen (a b : Nat) : Bool := let d := (a + 65535 - b % 65535) % 65535; decide (1 ≤ d) && decide (d ≤ 32767)

/-- The generation after one (R650). -/
def nextGen (g : Nat) : Nat := if 65535 ≤ g then 1 else g + 1

/-- The newest valid slot: its index and what it holds. -/
def newestSnap (c : Chip) : Option (Nat × Snap) :=
  match c.meter.slots.getD 0 none, c.meter.slots.getD 1 none with
  | some a, some b => if newerGen b.gen a.gen then some (1, b) else some (0, a)
  | some a, none => some (0, a)
  | none, some b => some (1, b)
  | none, none => none

/-- Write a snapshot slot (R622): the two slots alternate. -/
def writeSnap (pfail : Bool) (c : Chip) : Chip :=
  let m := c.meter
  let (k, g) := match newestSnap c with | some (i, s) => (1 - i, nextGen s.gen) | none => (0, 1)
  let s : Snap := { pfail := pfail, gen := g, eimp := m.eimp, eexp := m.eexp, rimp := m.rimp, rexp := m.rexp, nwt := m.lastNwt,
                    calSeq := c.get F.MTR_CALID_CALSEQ, state := sessState c, sessno := c.get F.MTR_SESS_SESSNO,
                    lastEnd := c.get F.MTR_SESS_LASTEND, session := m.session, closing := m.closing }
  committedIn 0x60 (modMeter (fun m => { m with slots := m.slots.set k (some s) }) c)

/-- The commit of a closing record with its checkpoint (R629); while the window is closed it is refused. -/
def commitSession (c : Chip) : Chip :=
  match c.meter.closing with
  | some x =>
    match x.words with
    | some w =>
      if sessState c ≠ 2 then c
      else if !canStore c then refuseStore c
      else
        let rec_ := (w ++ (Config.ecdsaSign w ++ List.replicate 11 0).take 11)
        let no := c.get F.MTR_SESS_SESSNO
        let c := modMeter (fun m => { m with records := ((no, rec_) :: m.records).take 2048, closing := none }) c
        let c := setSess 0 (c.set F.MTR_SESS_LASTEND x.reason)
        pdoneFor x.pend 0 0 (writeSnap false (committedIn 0x60 c))
    | none => c
  | none => c

/-- A retry of the commit while the store window is closed (R629). -/
def closeCommitRetry (c : Chip) : Chip := commitSession c

/-! ### Samples (R616 to R618) -/

/-- A calibration takes force at a sample boundary, after its sample (R635, R638). -/
def takeCal (c : Chip) : Chip :=
  match c.meter.nextCal with
  | some l => (modMeter (fun m => { m with inForce := l, nextCal := none }) c).raise F.MTR_STAT_CALOK
  | none => c

/-- Sums of the present second (R620). -/
def sumSample (v i p pr : Rat) (xs : List Int) (c : Chip) : Chip :=
  modMeter (fun m => { m with sumV := m.sumV + v, sumI := m.sumI + i, sumP := m.sumP + p, sumR := m.sumR + pr,
                              sumX := List.zipWith (· + ·) m.sumX xs, count := m.count + 1 }) c

/-- A modulator fault (R621). -/
def modulatorFault (k : Nat) (c : Chip) : Chip :=
  if !hasMeter c ∨ c.mode = .reset ∨ modFault c k then c else
  let c := c.setBit F.MTR_STAT_MFLT k true
  if k < 2 then
    let c := if canStore c then mtrLog 0x0A k c else refuseStore c
    beginClose 5 false none c.evMeter
  else c

/-- The samples in a row that each modulator has saturated: 4,000 of them are a fault (R621). -/
def countSaturated (xs : List Int) (c : Chip) : Chip :=
  let c := modMeter (fun m => { m with satRun := List.zipWith (fun x n => if isSat x then n + 1 else 0) xs m.satRun }) c
  c.forN 4 (fun k c => if 4000 ≤ c.meter.satRun.getD k 0 then modulatorFault k c else c)

/-- A metrology sample (R617, R618, R621) and its boundary (R627, R629). -/
def meterSample (x0 x1 x2 x3 : Int) (c : Chip) : Chip :=
  if !hasMeter c ∨ c.mode = .reset then c else
  let c := countSaturated [x0, x1, x2, x3] (modMeter (fun m => { m with boundary := c.now }) c)
  let v := correctedCode c 0 (satCode x0) * calCoef c 0
  let i := correctedCode c 1 (satCode x1) * calCoef c 1
  let p := creepPower c (v * i)
  let pr := correctedCode c 2 (satCode x2) * calCoef c 2 * (correctedCode c 3 (satCode x3) * calCoef c 3)
  let c := sumSample v i p pr ([x0, x1, x2, x3].map satCode) c
  let c := if isSat x0 || isSat x1 then (sessionFlag (fun s => { s with ovr := true }) c).raise F.MTR_STAT_OVR else c
  let c :=
    if accumulates c then
      let c := if p < 0 then addEnergy false (sampleEnergy p) c else if 0 < p then addEnergy true (sampleEnergy p) c else c
      modMeter (fun m => { m with lastNwt := c.now }) c
    else if sessState c = 1 then (sessionFlag (fun s => { s with gap := true }) c).raise F.MTR_STAT_GAP
    else c
  let c := if c.meter.openDue && canStore c then writeSnap false (takeOpen c) else takeOpen c
  takeCal (takeClose c.now c)

/-! ### Seconds (R620) -/

/-- A mean with 16 fractional bits. -/
def mean16 (q : Rat) : Word := BitVec.ofInt 48 (clampInt (-(2 ^ 47)) (2 ^ 47 - 1) (roundRat (q * 65536)))

/-- The comparison with the redundant pair (R620); a fault of MD2 or MD3 stops it (R621). -/
def comparePairs (p pr : Rat) (c : Chip) : Chip :=
  let cfg := calVal c 0x100004
  if cfg.field 39 1 = 0 ∨ modFault c 2 ∨ modFault c 3 then c else
  let big : Rat := if absRat p < 1000 then 1000 else absRat p
  let n := if ((cfg.field 8 8 : Nat) : Rat) / 1000 * big < absRat (p - pr) then c.meter.misses + 1 else 0
  let c := modMeter (fun m => { m with misses := n }) c
  let met := max 1 (cfg.field 0 4) ≤ n
  if met then
    (sessionFlag (fun s => { s with rdiff := true }) (if c.is F.MTR_STAT_RDIFF ∧ n ≠ max 1 (cfg.field 0 4) then c else (c.raise F.MTR_STAT_RDIFF).evMeter))
  else c

/-- The end of a second of the timebase (R620): means over its 4,000 samples. -/
def meterSecond (c : Chip) : Chip :=
  let m := c.meter
  if !hasMeter c ∨ c.mode = .reset ∨ m.count < 4000 then c else
  let n : Rat := ((m.count : Nat) : Rat)
  let c := c.forN 4 (fun k c => c.seti (F.MTR_MD_RAW k) (roundRat (((m.sumX.getD k 0 : Int) : Rat) / n)))
  let put (k : Nat) (q : Rat) (c : Chip) : Chip := c.wr (F.MTR_MEAN k) (mean16 q)
  let c := put 2 (m.sumP / n) (put 1 (m.sumI / n) (put 0 (m.sumV / n) c))
  let ren := (calVal c 0x100004).field 39 1 == 1
  let c := if ren then put 3 (m.sumR / n) c else c
  let c := modMeter (fun m => { m with sumV := 0, sumI := 0, sumP := 0, sumR := 0, sumX := [0, 0, 0, 0], count := 0 }) c
  comparePairs (m.sumP / n) (m.sumR / n) c

/-! ### BOOT (R622, R624, R628) -/

/-- The registers and the session state of a slot (R622). -/
def restoreSnap (s : Snap) (c : Chip) : Chip :=
  let c := modMeter (fun m => { m with eimp := s.eimp, eexp := s.eexp, rimp := s.rimp, rexp := s.rexp, lastNwt := s.nwt, session := s.session, closing := s.closing }) c
  ((c.set F.MTR_SESS_SESSNO s.sessno).set F.MTR_SESS_LASTEND s.lastEnd).set F.MTR_SESS_STATE s.state

/-- A session that BOOT finds open, or closing without its close values (R628, R629): the values of the last accumulated sample. -/
def closeAtBootEnd (reason : Nat) (c : Chip) : Chip := takeClose c.meter.lastNwt (beginClose reason true none c)

/-- Step 6 of R660: after a loss of the registers (power-on, VCORE supply reset) they come from the newest slot; otherwise they have survived. -/
def bootMeter (lost : Bool) (c : Chip) : Chip :=
  if !hasMeter c then c else
  let auth := (List.range 11).map (fun i => (0x100040 + i, c.fuses.auth.getD i 0))
  let cal := c.meter.calRecord.getD auth
  let c := modMeter (fun m => { m with inForce := cal, nextCal := none, openDue := false }) c
  let c := c.forEach calWords (fun (a : Nat) (c : Chip) => c.wr a (wordIn cal a (resetWord a)))
  let c := (c.setb F.MTR_STAT_CALOK c.meter.calRecord.isSome).setb F.MTR_STAT_KEYOK c.fuses.keyOk
  let c := if c.meter.calRecord.isSome then
      (c.set F.MTR_CALID_CALSEQ c.meter.calSeq).set F.MTR_CALCRC_CALCRC (crc32 ((calImage c).map (·.2))).toNat
    else c
  let r := c.free
  let c := r.2.wr 0x100002 r.1
  match lost, newestSnap c with
  | true, some (_, s) => let c := restoreSnap s c; if s.pfail then c else c.raise F.MTR_STAT_PFLOSS
  | _, _ => c

/-- The end of BOOT in the partition: the entry of a loss (R624), and a session that was open or closing is closed (R628, R629). -/
def bootMeterEnd (lost : Bool) (c : Chip) : Chip :=
  if !hasMeter c then c else
  match lost, newestSnap c with
  | true, some (_, s) =>
    closeAtBootEnd 3 (if s.pfail then c
      else if canStore c then committedIn 0x60 (mtrLogAdd { seq := 0, event := 9, w3 := BitVec.ofNat 48 s.eimp, w4 := BitVec.ofNat 48 s.eimp } c)
      else refuseStore c)
  | true, none => c
  | false, _ => closeAtBootEnd 4 c

end Sys2Proof.Machine
end

