-- ==== Sys2Proof/Machine/Store.lean ====
section
/-! DEFINITION. The store (20_store_and_self_test): records, writers and their order, configuration images, USER records, the patch, soft repairs, and
the power-fail detector that preempts a write. -/

namespace Sys2Proof.Machine

/-! ### Records (R646 to R650) -/

/-- Granules of a record with n payload words (R646). -/
def granules (n : Nat) : Nat := (n + 10) / 8

/-- A record of a type, key, payload and generation, with its commit word (R646, R647). -/
def mkRecord (type key : Nat) (payload : List Word) (gen : Nat) : List Word :=
  let n := payload.length
  let h := BitVec.ofNat 48 (type * 2 ^ 40 + n * 2 ^ 24 + key)
  let body := h :: payload
  let crc := BitVec.ofNat 48 (crc32 body).toNat
  body ++ [crc] ++ List.replicate (8 * granules n - n - 3) 0 ++ [BitVec.ofNat 48 (0x5A5AC0DE * 2 ^ 16 + gen)]

/-- Store words from p on. -/
def storeRange (c : Chip) (p n : Nat) : List Word := (List.range n).map (fun k => c.storeRd (p + k))

/-- The place of the commit word of the record at p. -/
def commitAt (c : Chip) (p : Nat) : Nat := p + 8 * granules ((c.storeRd p).field 24 16) - 1

/-- Whether a record exists at p in a partition that ends before `last` (R649). -/
def recordExists (c : Chip) (p last : Nat) : Bool :=
  let h := c.storeRd p
  let n := h.field 24 16
  if h.field 40 8 == 0 || h.field 40 8 == 0xFF then false
  else if last < p + 8 * granules n then false
  else
    let cw := c.storeRd (commitAt c p)
    if cw.field 16 32 != 0x5A5AC0DE || cw.field 0 16 == 0 then false
    else
      let w := c.storeRd (p + n + 1)
      w.field 32 16 == 0 && w.field 0 32 == (crc32 (storeRange c p (n + 1))).toNat

/-- The generation of the record at p. -/
def recordGen (c : Chip) (p : Nat) : Nat := (c.storeRd (commitAt c p)).field 0 16

/-- Write store words from p on. -/
def storeWrite (p : Nat) (ws : List Word) (c : Chip) : Chip :=
  (ws.foldl (fun (x : Nat × Chip) w => (x.1 + 1, x.2.storeWr x.1 w)) (p, c)).2

/-- Zero the commit word of the record at p, if one exists (R648). -/
def dropRecord (p last : Nat) (c : Chip) : Chip := if recordExists c p last then c.storeWr (commitAt c p) 0 else c

/-- A record in a slot of fixed place: zero the old commit word, write the granules, commit (R648). -/
def putRecord (p last type : Nat) (ws : List Word) (c : Chip) : Chip := committed type (storeWrite p ws (dropRecord p last c))

/-! ### Configuration images (R655, R656) -/

/-- The start of an image slot: CFG-A or CFG-B (R643). -/
def imageBase (b : Bool) : Nat := if b then 0xB000 else 0
/-- The first word after an image slot. -/
def imageEnd (b : Bool) : Nat := if b then 0x16000 else 0xB000

/-- Whether an image is valid (R656). -/
def imageValid (c : Chip) (b : Bool) : Bool :=
  let h := c.storeRd (imageBase b)
  h.field 40 8 == 0x10 && h.field 16 8 == c.get F.DEV_IDENT_MAPVER && recordExists c (imageBase b) (imageEnd b)

/-- GEN of an image; 0 when not valid (R675). -/
def imageGen (c : Chip) (b : Bool) : Nat := if imageValid c b then recordGen c (imageBase b) else 0

/-- The newest valid image. -/
def newestImage (c : Chip) : Option Bool :=
  match imageValid c false, imageValid c true with
  | true, true => some (newerGen (imageGen c true) (imageGen c false))
  | true, false => some false
  | false, true => some true
  | false, false => none

/-- Regions whose RW fields the configuration image holds (R105): DEV's own list, CLK to PUR without SAF and SIN, and OBS. -/
def imageRegion (r : Nat) : Bool := decide (r ≤ 0xB) || r == 0xE || r == 0xF || r == 0x13

/-- The image fields of a word: the RW fields of the regions of R105. -/
def imageMask (a : Nat) : Word :=
  if imageRegion (a / 0x10000) then
    match wordAt a with
    | some d => d.fields.foldl (fun w f => if f.acc = .rw then w ||| BitVec.ofNat 48 ((2 ^ f.width - 1) * 2 ^ f.lo) else w) 0
    | none => 0
  else 0

/-- The words of the parameter space below a bound and from another on that the image includes, with their image fields. -/
def imageRegs (c : Chip) (lo hi : Nat) : List (Nat × Word) :=
  ((c.regs.filter (fun e => decide (lo ≤ e.1) && decide (e.1 < hi))).map (fun e => (e.1, e.2 &&& imageMask e.1))).filter
    (fun e => e.2 != resetWord e.1 &&& imageMask e.1)

/-- The lane memory words of logical lane j that are not zero, by window address. -/
def imageLane (c : Chip) (j : Nat) : List (Nat × Word) :=
  match physLane c j with
  | some z => (laneWords c z).map (fun e => (0x78000 + 0x1000 * j + e.1, e.2))
  | none => []

/-- The words of an image of the present configuration, addresses rising (R655). -/
def imageWords (c : Chip) : List (Nat × Word) :=
  imageRegs c 0 0x78000 ++ (List.range 8).flatMap (imageLane c) ++ c.zmem.map (fun e => (0x80000 + e.1, e.2)) ++ imageRegs c 0x90000 0x200000

/-- Words grouped into runs of consecutive addresses: start and words, the latest run first. -/
def runsOf (l : List (Nat × Word)) : List (Nat × List Word) :=
  l.foldl (fun r e => match r with
    | (s, ws) :: t => if s + ws.length = e.1 then (s, ws ++ [e.2]) :: t else (e.1, [e.2]) :: (s, ws) :: t
    | [] => [(e.1, [e.2])]) []

/-- The payload of an image (R655). -/
def imagePayload (c : Chip) : List Word :=
  (runsOf (imageWords c)).reverse.flatMap (fun r => BitVec.ofNat 48 (r.2.length * 2 ^ 24 + r.1) :: r.2)

/-- The words that an image's payload names (R655): `n` bounds the runs read. -/
def readRuns : Nat → List Word → List (Nat × Word)
  | 0, _ => []
  | _ + 1, [] => []
  | n + 1, d :: l =>
    let k := d.field 24 16
    ((List.range k).map (fun i => (d.field 0 24 + i, l.getD i 0))) ++ readRuns n (l.drop k)

/-- The words of the image in a slot. -/
def imageContent (c : Chip) (b : Bool) : List (Nat × Word) :=
  let n := (c.storeRd (imageBase b)).field 24 16
  readRuns n (storeRange c (imageBase b + 1) n)

/-- The slot that a save with IMG goes to (R655). -/
def saveSlot (c : Chip) (img : Nat) : Bool :=
  match img with
  | 1 => false
  | 2 => true
  | _ => match newestImage c with | some b => !b | none => false

/-- The generation of a new image (R650, R655). -/
def newImageGen (c : Chip) : Nat := match newestImage c with | some b => nextGen (imageGen c b) | none => 1

/-! ### USER records (R657) -/

/-- The start of USER slot s. -/
def userBase (s : Nat) : Nat := 0x3E400 + 264 * s

/-- The record in USER slot s: key, payload length, generation. -/
def userRecord (c : Chip) (s : Nat) : Option (Nat × Nat × Nat) :=
  let h := c.storeRd (userBase s)
  if h.field 40 8 == 0x20 && recordExists c (userBase s) 0x40000 then some (h.field 0 16, h.field 24 16, recordGen c (userBase s)) else none

/-- The USER records held: slot, key, length, generation. -/
def userRecords (c : Chip) : List (Nat × Nat × Nat × Nat) :=
  (List.range 27).filterMap (fun s => (userRecord c s).map (fun r => (s, r.1, r.2.1, r.2.2)))

/-- The record held under a key: the newest. -/
def userFind (c : Chip) (key : Nat) : Option (Nat × Nat × Nat × Nat) :=
  ((userRecords c).filter (fun r => r.2.1 == key)).foldl (fun m r => match m with
    | some x => if newerGen r.2.2.2 x.2.2.2 then some r else some x
    | none => some r) none

/-- A free USER slot. -/
def userFree (c : Chip) : Option Nat := (List.range 27).find? (fun s => (userRecord c s).isNone)

/-- Whether a USER record can be saved (R657). -/
def userMaySave (c : Chip) (key : Nat) : Bool :=
  (userFree c).isSome && ((userFind c key).isSome || decide ((userRecords c).length < 26))

/-- Save a USER record: the new one commits, then the old one's commit word is zeroed (R657). -/
def userSave (key : Nat) (payload : List Word) (c : Chip) : Chip :=
  match userFree c with
  | some s =>
    let old := userFind c key
    let gen := match old with | some r => nextGen r.2.2.2 | none => 1
    let c := putRecord (userBase s) 0x40000 0x20 (mkRecord 0x20 key payload gen) c
    match old with
    | some r => dropRecord (userBase r.1) 0x40000 c
    | none => c
  | none => c

/-- Erase USER records: the one of a key, or all of them with 0xFFFF (R654). -/
def userErase (key : Nat) (c : Chip) : Chip :=
  c.forN 27 (fun s c => match userRecord c s with
    | some r => if key = 0xFFFF ∨ r.1 = key then dropRecord (userBase s) 0x40000 c else c
    | none => c)

/-- BOOT scans USER: of two records with one key the older loses its commit word, unless the window is closed (R660). -/
def userScan (c : Chip) : Chip :=
  if !canStore c then c else
  c.forN 27 (fun s c => match userRecord c s with
    | some r => match userFind c r.1 with
      | some x => if x.1 = s then c else dropRecord (userBase s) 0x40000 c
      | none => c
    | none => c)

/-! ### The patch (R659) -/

/-- A staged patch word. -/
def stagedWord (c : Chip) (k : Nat) : Word := wordIn c.nvm.staging k 0

/-- Words of the staged patch. -/
def stagedWords (c : Chip) (n : Nat) : List Word := (List.range n).map (stagedWord c)

/-- Change the store's own state. -/
def modNvm (f : Nvm → Nvm) (c : Chip) : Chip := { c with nvm := f c.nvm }

/-- PATCH_LOAD stages payload words (R659). -/
def patchStage (ofs : Nat) (ws : List Word) (c : Chip) : Chip :=
  let l := (List.range ws.length).map (fun i => (ofs + i, ws.getD i 0))
  modNvm (fun n => { n with staging := l ++ n.staging.filter (fun e => decide (e.1 < ofs) || decide (ofs + ws.length ≤ e.1)), staged := n.staged || ofs == 0 }) c

/-- The staging memory is cleared (R659). -/
def patchClear (c : Chip) : Chip := modNvm (fun n => { n with staging := [], staged := false }) c

/-- Whether the patch in words is signed for this ROM (R659). -/
def patchVerifies (c : Chip) (ws : List Word) : Bool :=
  let h := ws.getD 0 0
  let l := h.field 0 24
  h.field 24 8 == c.fuses.romver && Config.ecdsaVerify c.fuses.patchKey (ws.take (l + 1)) ((ws.drop (l + 1)).take 11)

/-- The patch held: its words, if the record exists. -/
def patchHeld (c : Chip) : Option (List Word) :=
  let h := c.storeRd 0x38400
  if h.field 40 8 == 0x30 && recordExists c 0x38400 0x3E400 then some (storeRange c 0x38401 (h.field 24 16)) else none

/-- BOOT verifies the patch and applies it (R660, step 4): PATCHOK and PATCHVER. -/
def bootPatch (c : Chip) : Chip :=
  let p := match patchHeld c with | some ws => if patchVerifies c ws then some ((ws.getD 0 0).field 32 8) else none | none => none
  (c.setb F.DEV_BOOTINFO_PATCHOK p.isSome).set F.DEV_IDENT_PATCHVER (p.getD 0)

/-! ### Soft repairs (R671) -/

/-- The start of REPAIR slot i. -/
def repairBase (i : Nat) : Nat := 0x38000 + 16 * i

/-- Whether slot i holds a record. -/
def repairAt (c : Chip) (i : Nat) : Bool := (c.storeRd (repairBase i)).field 40 8 == 0x40 && recordExists c (repairBase i) 0x38400

/-- The slots that hold records. -/
def repairSlots (c : Chip) : List Nat := (List.range 64).filter (repairAt c)

/-- A free slot. -/
def repairFree (c : Chip) : Option Nat := (List.range 64).find? (fun i => !repairAt c i)

/-- A repair in the layout of BST.RENT (R676). -/
def repairWord (r : RepairRec) : Word :=
  BitVec.ofNat 48 (2 ^ 47 + r.kind * 2 ^ 40 + r.inst % 256 * 2 ^ 32 + r.addr % 65536 * 2 ^ 16 + r.spare % 256 * 2 ^ 8)

/-- The repair of a word in that layout. -/
def repairOf (w : Word) : RepairRec := ⟨w.field 40 4, w.field 32 8, w.field 16 16, w.field 8 8⟩

/-- The repair in slot i. -/
def repairHeld (c : Chip) (i : Nat) : RepairRec := repairOf (c.storeRd (repairBase i + 1))

/-- Whether a fuse repairs the element of a record (R660, R671): the same kind, instance and row or column. -/
def fuseCovers (c : Chip) (r : RepairRec) : Bool := c.bist.fused.any (fun f => f.kind == r.kind && f.inst == r.inst && f.addr == r.addr)

/-- Whether an equal record, or a fuse, already covers an element (R671). -/
def repairCovered (c : Chip) (r : RepairRec) : Bool := fuseCovers c r || (repairSlots c).any (fun i => repairHeld c i == r)

/-- Write a repair record into a free slot (R671). -/
def putRepair (r : RepairRec) (c : Chip) : Chip :=
  match repairFree c with
  | some i => putRecord (repairBase i) 0x38400 0x40 (mkRecord 0x40 i [repairWord r, c.now] 1) c
  | none => c

/-! ### Writers (R651) -/

/-- The rank of a write (R651). -/
def jobRank : StoreJob → Nat
  | .snapshot true => 1
  | .snapshot false => 2
  | .confirm => 3
  | .repair _ => 4
  | .image _ _ => 5
  | .patch _ => 5

/-- Whether a write is a host request's. -/
def isHostJob : StoreJob → Bool
  | .image _ _ => true
  | .patch _ => true
  | _ => false

/-- Where a write places its words, for the partitions whose arrangement the spec gives. -/
def jobPlace (c : Chip) : StoreJob → Option (Nat × Nat × List Word)
  | .image b ws => some (imageBase b, imageEnd b, ws)
  | .patch ws => some (0x38400, 0x3E400, ws)
  | .repair r => (repairFree c).map (fun i => (repairBase i, 0x38400, mkRecord 0x40 i [repairWord r, c.now] 1))
  | _ => none

/-- The store begins a write: a record that stands in its place loses its commit word (R648). -/
def beginJob (j : StoreJob) (c : Chip) : Chip :=
  let c := modNvm (fun n => { n with cur := some j }) c
  match jobPlace c j with
  | some (p, last, _) => dropRecord p last c
  | none => c

/-- The waiting writer that is served first (R651): the lowest rank, the earliest of equals. -/
def nextJob (l : List StoreJob) : Option StoreJob :=
  match l with
  | [] => none
  | j :: t => some (t.foldl (fun m x => if jobRank x < jobRank m then x else m) j)

/-- A free store serves the next waiting writer (R651). -/
def serveStore (c : Chip) : Chip :=
  match c.nvm.cur, nextJob c.nvm.waiting with
  | none, some j => beginJob j (modNvm (fun n => { n with waiting := n.waiting.erase j }) c)
  | _, _ => c

/-- A writer asks for the store. -/
def enqueueJob (j : StoreJob) (c : Chip) : Chip := serveStore (modNvm (fun n => { n with waiting := n.waiting ++ [j] }) c)

/-- The write commits its record. -/
def commitJob (j : StoreJob) (c : Chip) : Chip :=
  match j with
  | .image b ws => committed 0x10 (storeWrite (imageBase b) ws c)
  | .patch ws => committed 0x30 (storeWrite 0x38400 ws c)
  | .repair r => if repairCovered c r then c else putRepair r c
  | .snapshot p => writeSnap p c
  | .confirm => committedIn 0x50 c

/-- A write leaves no record: as many granules as were completed hold new words, and no commit word (R648, R652). How many, the spec leaves
open. -/
def abandonJob (j : StoreJob) (c : Chip) : Chip :=
  let c := c.countSat F.NVS_CNT_FAILCNT 1
  match jobPlace c j with
  | some (p, _, ws) =>
    let r := c.free
    let n := 8 * (r.1.toNat % (ws.length / 8 + 1))
    storeWrite p (((ws.take (ws.length - 1)) ++ [0]).take n) r.2
  | none => c

/-- The host store request ends with a status (R655, R658, R675). -/
def endHostStore (status : Nat) (c : Chip) : Chip :=
  match c.nvm.host with
  | some h =>
    let c := modNvm (fun n => { n with host := none }) c
    let c := ((c.set F.NVS_STAT_LASTOP h.op).set F.NVS_STAT_LASTST status).set F.NVS_STAT_LASTPART h.part
    pdone h.op h.tag status 0 c.evStore
  | none => c

/-- A host store request that is answered at once ends (R675). -/
def hostStoreEnded (op part status : Nat) (c : Chip) : Chip :=
  (((c.set F.NVS_STAT_LASTOP op).set F.NVS_STAT_LASTST status).set F.NVS_STAT_LASTPART part).evStore

/-- What a write that left no record means for its writer. -/
def jobFailed (j : StoreJob) (c : Chip) : Chip :=
  match j with
  | .snapshot true => c.raise F.MTR_STAT_SNAPFAIL
  | _ => if isHostJob j then modNvm (fun n => { n with host := n.host.map (fun h => { h with failed := true }) }) c else c

/-- STORE_WRITE_COMPLETE: the write in progress ends, with its record committed or without one, and the next waiting writer is served (R651). A
confirmation ends with its own event. -/
def storeWriteComplete (ok : Bool) (c : Chip) : Chip :=
  match c.nvm.cur with
  | some .confirm => c
  | some j =>
    let c := if ok then commitJob j c else jobFailed j (abandonJob j c)
    serveStore (modNvm (fun n => { n with cur := none }) c)
  | none => c

/-- New soft repairs ask for their records (R671): deferred while the window is closed, written otherwise. -/
def takeRepairs (c : Chip) : Chip :=
  if c.repairs.isEmpty then c else
  let l := c.repairs.filter (fun r => !repairCovered c r)
  let c := ({ c with repairs := [] }).evBist
  if canStore c then c.forEach l (fun r c => enqueueJob (.repair r) c)
  else if l.isEmpty then c
  else refuseStore (modNvm (fun n => { n with deferred := n.deferred ++ l }) c)

/-- DEFERRED_STORE_WRITE: a deferred write is made once the window permits (R671). -/
def deferredStoreWrite (c : Chip) : Chip :=
  match c.nvm.deferred with
  | r :: l => if canStore c then enqueueJob (.repair r) (modNvm (fun n => { n with deferred := l }) c) else c
  | [] => c

/-- CHECKPOINT: a snapshot slot is written (R622). -/
def checkpoint (c : Chip) : Chip :=
  if !hasMeter c ∨ c.mode = .reset ∨ c.meter.tripped then c
  else if canStore c then enqueueJob (.snapshot false) c
  else refuseStore c

/-- The write in progress is abandoned for the power-fail snapshot (R651): the device's own writes are made again when the detector releases, a host
request ends with STORE_FAIL. -/
def preempt (c : Chip) : Chip :=
  match c.nvm.cur with
  | none => c
  | some (.snapshot true) => c
  | some j =>
    let c := ((modNvm (fun n => { n with cur := none }) (abandonJob j c)).raise F.NVS_STAT_PREEMPT).evStore
    if isHostJob j then endHostStore 0x30 c
    else modNvm (fun n => { n with again := n.again ++ [j] }) c

/-- POWER_FAIL_TRIP (R623, R651). -/
def powerFailTrip (c : Chip) : Chip :=
  if !hasMeter c ∨ c.mode = .reset ∨ c.meter.tripped then c else
  let c := (modMeter (fun m => { m with tripped := true }) c).evPowerFail.captureAt 0x19 true
  let c := preempt (modNvm (fun n => { n with waiting := n.waiting.filter (· != .snapshot false) }) c)
  if canStore c then enqueueJob (.snapshot true) c else serveStore (refuseStore (c.raise F.MTR_STAT_SNAPFAIL))

/-- POWER_FAIL_RELEASE (R623): accumulation resumes, and an open session carries GAP; abandoned writes are made again (R651). -/
def powerFailRelease (c : Chip) : Chip :=
  if c.meter.tripped then
    let c := modMeter (fun m => { m with tripped := false }) c
    let c := serveStore (modNvm (fun n => { n with waiting := n.waiting ++ n.again, again := [] }) c)
    if sessState c = 1 then (sessionFlag (fun s => { s with gap := true }) c).raise F.MTR_STAT_GAP else c
  else c

/-- A reset abandons every write (R652) and forgets the host request. -/
def resetStore (c : Chip) : Chip :=
  let c := match c.nvm.cur with | some j => abandonJob j c | none => c
  { c with nvm := {} }

/-- BOOT restores what the store holds of repairs: their number (R660, step 2). -/
def bootRepairs (c : Chip) : Chip := c.set F.DEV_BOOTINFO_REPAIRS (min 63 ((repairSlots c).filter (fun i => !fuseCovers c (repairHeld c i))).length)

end Sys2Proof.Machine
end

