-- ==== Sys2Proof/Machine/Bist.lean ====
section
/-! DEFINITION. Self-test and repair (20_store_and_self_test, R661 to R676): test conditions, SELFTEST, lane tests in operation, BIST_RUN, fusing. -/

namespace Sys2Proof.Machine

/-! ### Conditions (R664) -/

/-- CLKOK. -/
def clkOk (c : Chip) : Bool :=
  ((c.is F.CLK_STAT_REFACT && c.is F.CLK_STAT_HSTD) || (!c.is F.CLK_STAT_REFACT && c.is F.CLK_STAT_TRIMOK)) && pllsLocked c && c.clk.switchTo.isNone

/-- VOK: no event of the table gives VCORE's value beside its monitor (log entry 18). -/
def vOk (c : Chip) : Bool := !c.clk.vcoreLow

/-- NOFLT. -/
def noFlt (c : Chip) : Bool := !faultPending c

/-- Change self-test's own state. -/
def modBist (f : Bist → Bist) (c : Chip) : Chip := { c with bist := f c.bist }

/-! ### SELFTEST (R665 to R667) -/

/-- An operation-time lane test ends as invalid: the lane is SPARE without counting (R669). -/
def laneTestInvalid (c : Chip) : Chip :=
  let z := c.get F.ZEN_LMAP_TESTL
  if z = 15 then c else
  (((setLane z 1 15 (c.set F.ZEN_LMAP_TESTL 15)).set F.ZEN_LMAP_SPARE z).raise F.BST_STAT_INVAL).evBist

/-- A pending BIST_RUN LANE ends with a result (R670): 1 PASS, 2 FAIL, 3 INVALID, 4 ABANDONED. -/
def endLaneReq (res : Nat) (c : Chip) : Chip :=
  match c.bist.laneReq with
  | some q => pdone q.op q.tag 0 res ((modBist (fun b => { b with laneReq := none }) c).raise F.BST_STAT_DONE).evBist
  | none => c

/-- Entry into SELFTEST (R666): a migration is abandoned, a lane test is abandoned as invalid. -/
def enterSelftest (c : Chip) : Chip :=
  let testing := c.get F.ZEN_LMAP_TESTL != 15
  let migrating := c.get F.ZEN_MIG_PHASE != 0
  let c := if migrating then abandonMigration false c else c
  let c := laneTestInvalid c
  let c := if testing then endLaneReq 3 c else if migrating then endLaneReq 4 c else c
  ((c.raise F.BST_STAT_SRUN).set F.BST_STAT_CUR 0).set F.BST_STAT_PHASE 1

/-- SELFTEST is left, by its end or before it. -/
def exitSelftest (c : Chip) : Chip := (((modBist (fun b => { b with ending := false }) c).setb F.BST_STAT_SRUN false).set F.BST_STAT_CUR 0x1F).set F.BST_STAT_PHASE 0

/-- Whether region r is tested on this part and configuration (R666). -/
def regionRuns (c : Chip) (r : Nat) : Bool :=
  if r = 0x10 then c.get (F.PUR_CFG_MODE 0) == 0 && c.get (F.PUR_CFG_MODE 1) == 0
  else if r = 0x13 then hasMeter c else true

/-- The memories of the logical lanes, by logical lane. -/
def lanesHeld (c : Chip) : List (List (Nat × Word)) := (List.range 8).map (fun j => match physLane c j with | some z => laneWords c z | none => [])

/-- Lanes that failed are retired; the lanes are mapped again, as after every SELFTEST, each logical lane carrying its memory (R337, R667). -/
def retireLanes (failed : List Nat) (c : Chip) : Chip :=
  let held := lanesHeld c
  let c := c.forEach failed (fun z c => (setLane z 4 15 c).dueRepair ⟨5, z, 0, 0⟩)
  let c := { mapLanes c with lanes := [] }
  let c := c.forN 8 (fun j c => match physLane c j with
    | some z => c.forEach (held.getD j []) (fun e c => c.laneWr z e.1 e.2)
    | none => c)
  if failed.isEmpty then c else (c.raise F.ZEN_STAT_LANEEVT).evLane

/-- The result of region r as BST.RES shows it (R666, R667): 0 NOT_RUN, 1 PASS, 2 REPAIRED, 3 FAIL. -/
def regionResult (c : Chip) (results : List (Fin 4)) (r : Nat) : Nat :=
  let v := (results.getD r 0).val
  if !regionRuns c r then 0
  else if r < 9 ∧ v = 3 then (if (List.range 8).all (fun j => (physLane c j).isSome) then 2 else 3)
  else v

/-- Whether a repair record of the run is still to be committed. -/
def recording (c : Chip) : Bool :=
  let isRepair (j : StoreJob) : Bool := jobRank j == 4
  (match c.nvm.cur with | some j => isRepair j | none => false) || c.nvm.waiting.any isRepair || c.nvm.again.any isRepair

/-- The run ends once its repair records have been committed, or deferred (R667). -/
def endRun (c : Chip) : Chip :=
  if c.mode ≠ .selftest ∨ !c.bist.ending ∨ recording c then c
  else
    let c := (c.raise F.BST_STAT_DONE).countMod F.BST_STAT_RUNS 1
    (exitSelftest c.evBist).notice (.complete (if c.is F.BST_STAT_UNREP then .config else c.ms.cameFrom) .complete)

/-- SELFTEST_COMPLETE: the tests of the run are over (R667), with the result of each region, the memory spares assigned and whether a test was invalid. -/
def selftestComplete (results : List (Fin 4)) (spares : List SpareUse) (invalid : Bool) (c : Chip) : Chip :=
  if c.mode ≠ .selftest ∨ c.bist.ending then c else
  let failed := (List.range 9).filter (fun z => (results.getD z 0).val == 3)
  let anyFail := (List.range 20).any (fun r => regionRuns c r && (results.getD r 0).val == 3)
  let c := retireLanes failed c
  let c := c.forEach spares (fun s c => c.dueRepair ⟨if s.column then 2 else 1, s.region, s.addr, s.spare⟩)
  let res := (List.range 20).map (regionResult c results)
  let c := c.forN 20 (fun r c => c.set (F.BST_RES_R r) (res.getD r 0))
  let notRun := (List.range 20).any (fun r => res.getD r 0 == 0 && regionRuns c r)
  let unrep := res.contains 3 || notRun
  let c := if anyFail then c.raise F.BST_STAT_FAIL else c
  let c := if res.contains 2 then c.raise F.BST_STAT_REPAIRED else c
  let c := if invalid || notRun then c.raise F.BST_STAT_INVAL else c
  let c := takeRepairs ((((c.setb F.BST_STAT_UNREP unrep).set F.BST_STAT_CUR 0x1F).set F.BST_STAT_PHASE 3))
  endRun (modBist (fun b => { b with ending := true }) c)

/-- STORE_WRITE_COMPLETE, after which a SELFTEST run may end. -/
def storeWriteEnds (ok : Bool) (c : Chip) : Chip := endRun (storeWriteComplete ok c)

/-! ### Lane tests in operation (R668 to R670) -/

/-- The next logical lane that LMASK names, after one. -/
def nextTestLane (c : Chip) : Option Nat :=
  ((List.range 8).map (fun k => (c.bist.lastLane + 1 + k) % 8)).find? (fun j => Nat.bitAt (c.get F.BST_OPCFG_LMASK) j)

/-- BIST_SCHEDULER_TICK (R668): while a lane test or a migration runs, the scheduler waits; with no spare it has stopped (R336, R337). -/
def schedulerTick (c : Chip) : Chip :=
  if !c.is F.BST_OPCFG_EN || !runMode c.mode || c.get F.ZEN_MIG_PHASE != 0 || c.get F.ZEN_LMAP_TESTL != 15 || (spareLane c).isNone then c else
  match nextTestLane c with
  | some j => requestMigration j true (modBist (fun b => { b with lastLane := j }) c)
  | none => c

/-- An accepted BIST_RUN LANE (R670). -/
def bistLane (j : Nat) (q : PendReq) (c : Chip) : Chip := requestMigration j true (modBist (fun b => { b with laneReq := some q }) c)

/-- A migration is abandoned after 10 ms (R334): a BIST_RUN ends, and the scheduler asks again for the same lane. -/
def migrationAbandoned (c : Chip) : Chip :=
  if c.get F.ZEN_MIG_PHASE = 2 then
    let own := c.bist.laneReq.isNone && c.zen.migBist
    let c := endLaneReq 4 (migrationTimeout c)
    if own then modBist (fun b => { b with lastLane := (b.lastLane + 7) % 8 }) c else c
  else c

/-- LANE_TEST_DONE (R669): whether it passed, and whether the test was valid: CLKOK and VOK held from its start to its end (R664). -/
def laneTestDone (pass valid : Bool) (c : Chip) : Chip :=
  let z := c.get F.ZEN_LMAP_TESTL
  if z = 15 then c
  else if !valid || !clkOk c || !vOk c then endLaneReq 3 (laneTestInvalid c)
  else if pass then endLaneReq 1 (laneTested true c).evBist
  else endLaneReq 2 ((((laneTested false c).countSat F.BST_STAT_OPFAIL 1).raise F.BST_STAT_FAIL).evBist.dueRepair ⟨5, z, 0, 0⟩)

/-- SCRUB_DONE (R645, R670): words corrected, and words that could not be. -/
def scrubDone (corrected unc : Nat) (c : Chip) : Chip :=
  match c.bist.scrubReq with
  | some q =>
    let c := (modBist (fun b => { b with scrubReq := none }) c).countSat F.NVS_CNT_CORCNT corrected
    let c := if unc = 0 then c else ((c.countSat F.NVS_CNT_UNCCNT unc).raise F.NVS_STAT_UNC).evStore
    pdone q.op q.tag 0 (min 65535 corrected) (c.raise F.BST_STAT_DONE).evBist
  | none => c

/-! ### Fusing (R672) -/

/-- An accepted REPAIR_APPLY. -/
def startFuse (slots : List Nat) (q : PendReq) (c : Chip) : Chip := modBist (fun b => { b with fuseReq := some q, fuseSlots := slots }) c

/-- One record is fused: its entry passes its read-back, or is consumed without effect. -/
def fuseRecord (slot : Nat) (good : Bool) (c : Chip) : Chip :=
  let r := repairHeld c slot
  let c := modBist (fun b => { b with fusesUsed := b.fusesUsed + 1, fused := if good then r :: b.fused else b.fused }) c
  let c := c.set F.BST_FUSE_FUSED c.bist.fusesUsed
  if good then dropRecord (repairBase slot) 0x38400 c else c.raise F.BST_FUSE_FERR

/-- FUSE_DONE: each record is fused, or FERR is set; a record without an outcome in the list has passed. -/
def fuseDone (good : List Bool) (c : Chip) : Chip :=
  match c.bist.fuseReq with
  | some q =>
    let l := c.bist.fuseSlots
    let c := c.forN l.length (fun i c => fuseRecord (l.getD i 0) (good.getD i true) c)
    pdone q.op q.tag 0 0 (modBist (fun b => { b with fuseReq := none, fuseSlots := [] }) c)
  | none => c

end Sys2Proof.Machine
end

