-- ==== Sys2Proof/Machine/Reset.lean ====
section
/-! DEFINITION. Reset sources and their scopes, and clock hold (04_clocks_and_reset): what each keeps and what it returns to its reset
state. The way out of RESET is in Boot. -/

namespace Sys2Proof.Machine

/-- Change the clock and reset state. -/
def modClk (f : Clk → Clk) (c : Chip) : Chip := { c with clk := f c.clk }

/-- The words that a MAIN reset keeps (R127): CLK.HOLD, CLK.RSTLOG, the SAF region, THM.SHD, the state of the safety functions with their levels and
permits and the check value in force (R535), and the session word (R622). -/
def keptWord (a : Nat) : Bool :=
  a == 0x10004 || a == 0x10005 || a / 0x10000 == 0xC || a == F.THM_SHD || a == F.SIN_ACHK || a == F.SIN_SSTAT || a == F.MTR_SESS ||
    (decide (0xD0020 ≤ a) && decide (a < 0xD0040) && a % 4 == 2)

/-- The clock state after a reset of the main domain: the sources stay judged, unless VCORE has been lost, and the PLLs lock again. -/
def clkAfterReset (c : Chip) : Clk :=
  let k := c.clk
  { roscRunning := k.roscRunning && !k.vcoreLow, hMeas := if k.vcoreLow then 0 else k.hMeas, hold := k.hold, holdCause := k.holdCause,
    soscStopped := k.soscStopped, active := k.active, logged := k.logged, rindReset := k.rindReset, vioBelow := k.vioBelow,
    vcoreLow := k.vcoreLow, vsafeLow := k.vsafeLow }

/-- The fields that follow what outlives a reset: the judged sources, the trim code (R116) and the mirror of the Rind latch. -/
def showKept (old c : Chip) : Chip :=
  let c := c.setb F.DEV_MODE_LATCH c.rind.latch
  if c.clk.vcoreLow then c.set F.CLK_TRIM_CODE c.fuses.trimCode
  else
    let c := c.set F.CLK_TRIM_CODE (old.get F.CLK_TRIM_CODE)
    takeRate ([F.CLK_STAT_HRDY, F.CLK_STAT_RRDY, F.CLK_STAT_HDIV].foldl (fun c f => c.set f (old.get f)) c)

/-- Scope MAIN (R126, R127): the main domain returns to its reset state, and Rind keeps running. -/
def mainReset (c : Chip) : Chip :=
  let c := closeByReset (resetStore c)
  let n : Chip :=
    { regs := c.regs.filter (fun e => keptWord e.1), store := c.store, fuses := c.fuses, safe := c.safe, meter := c.meter,
      bist := { fused := c.bist.fused, fusesUsed := c.bist.fusesUsed }, rind := c.rind, sto := c.sto, up := c.up,
      freeCtr := c.freeCtr, clk := clkAfterReset c }
  chooseRef (showKept c n)

/-- Rind's logic goes to its reset state; the latch with its cause stays (R126, R513), and so do the internal faults of SAF.DIAG, which only power-on clears (R525). -/
def rindReset (c : Chip) : Chip :=
  let keep (a : Nat) : Bool := !(a / 0x10000 == 0xC || a == F.SIN_ACHK || a == F.SIN_SSTAT || (decide (0xD0020 ≤ a) && decide (a < 0xD0040) && a % 4 == 2))
  let n := { c with regs := c.regs.filter (fun e => keep e.1), rind := { latch := c.rind.latch, latchCause := c.rind.latchCause }, sto := {} }
  n.wr 0xC0002 (c.rd 0xC0002 &&& 0xFF#48)

/-- The bits of the sources of scope MAIN+RIND: VSAFE monitor and PORST_N. -/
def rindSources : BitVec 8 := 0x0A#8

/-- The reset in progress, with a source that has become active: the widest scope applies (R128). -/
def applyReset (c : Chip) : Chip :=
  let r := c.clk.active &&& rindSources ≠ 0
  let c := mainReset c
  if r then rindReset (modClk (fun k => { k with rindReset := true }) c) else c

/-- A source of R126, by its bit, becomes active: a new reset begins, or the one in progress records it (R128). `lasting` says that the source
stays active until it is released. -/
def resetSource (p : Nat) (lasting : Bool) (c : Chip) : Chip :=
  let bit : BitVec 8 := 1#8 <<< p
  let c := modClk (fun k => { k with active := if lasting then k.active ||| bit else k.active }) c
  let base := if c.mode = .reset then c.clk.logged else c.clk.active
  applyReset (modClk (fun k => { k with logged := base ||| bit }) c)

/-- A lasting source is released. -/
def releaseSource (p : Nat) (c : Chip) : Chip :=
  let c := modClk (fun k => { k with active := k.active &&& ~~~(1#8 <<< p) }) c
  if c.clk.active &&& rindSources = 0 then modClk (fun k => { k with rindReset := false }) c else c

/-- A source that follows the level of a pin or a monitor. -/
def levelSource (p : Nat) (low : Bool) (c : Chip) : Chip :=
  if low then (if c.clk.active.getLsbD p then c else resetSource p true c) else releaseSource p c

/-- VSAFE_MONITOR (R126). -/
def vsafeMonitor (low : Bool) (c : Chip) : Chip := levelSource 1 low (modClk (fun k => { k with vsafeLow := low }) c)

/-- VCORE_MONITOR (R126). -/
def vcoreMonitor (low : Bool) (c : Chip) : Chip := levelSource 2 low (modClk (fun k => { k with vcoreLow := low }) c)

/-- Scope FULL (R126): everything but what is stored without power returns to its reset state. -/
def powerOn (c : Chip) : Chip :=
  let c := closeByReset (resetStore c)
  let m := c.meter
  let n : Chip :=
    { store := c.store, fuses := c.fuses, up := c.up, freeCtr := c.freeCtr,
      safe := { record := c.safe.record, password := c.safe.password, log := c.safe.log, lastSeq := c.safe.lastSeq, sealLog := c.safe.sealLog },
      meter := { calRecord := m.calRecord, calSeq := m.calSeq, log := m.log, lastSeq := m.lastSeq, sealLog := m.sealLog,
                 records := m.records, slots := m.slots },
      bist := { fused := c.bist.fused, fusesUsed := c.bist.fusesUsed }, clk := { vioBelow := c.clk.vioBelow } }
  n.set F.CLK_TRIM_CODE n.fuses.trimCode

/-! ### Clock hold (R122 to R125, R135) -/

/-- Entry into clock hold with a cause of R135: recorded in CLK.HOLD, and the main domain is held in reset. -/
def enterHold (cause : Nat) (c : Chip) : Chip :=
  let c := (c.countSat F.CLK_HOLD_COUNT 1).set F.CLK_HOLD_CAUSE cause
  resetSource 4 true (modClk (fun k => { k with hold := true, holdCause := cause }) c)

/-- Whether clock hold can end (R124): a usable reference feeds REFCLK and both PLLs have locked on it. -/
def holdMayEnd (c : Chip) : Bool := c.clk.hold && c.clk.refFed && (refUsable c true || refUsable c false) && pllsLocked c

/-- Clock hold ends: its duration in windows of 1,024 SOSC cycles is recorded (R135). -/
def endHold (windows : Nat) (c : Chip) : Chip :=
  let c := (c.set F.CLK_HOLD_DUR (min 0xFFFF windows)).raise F.CLK_HOLD_NEW
  releaseSource 4 (modClk (fun k => { k with hold := false, holdCause := 0 }) c)

end Sys2Proof.Machine
end

