-- ==== Sys2Proof/Machine/Modes.lean ====
section
/-! DEFINITION. The operating modes (01_operating_modes): entry and exit, SAFESTOP, fault reactions and the other triggers of mode changes, and
what every step does after the effect of its command. -/

namespace Sys2Proof.Machine

/-- Change the bookkeeping of the modes. -/
def modMs (f : ModeState → ModeState) (c : Chip) : Chip := { c with ms := f c.ms }

/-! ### Axes -/

/-- Axis a goes to OFF from whatever it does; an active short circuit ends in FREEWHEEL. -/
def axisOff (a : Nat) (c : Chip) : Chip :=
  if ascOn c a then ascEnd a c
  else if c.sub a = .off then c
  else if isConverter c a then convOff a c
  else enterOff a c

/-- Every axis goes to OFF. -/
def allOff (c : Chip) : Chip := c.forN 4 axisOff

/-- Every axis is OFF and none holds an active short circuit. -/
def allAxesOff (c : Chip) : Bool := (List.range 4).all (fun a => c.sub a == .off && !ascOn c a)

/-- The safe state of an axis is over, unless its axis fault stands (R489). -/
def clearSafeStates (c : Chip) : Chip := c.forN 4 (fun a c => if c.is (F.DEV_AXST_AXFLT a) then c else clearSafe a c)

/-- A running SS1 stop ends; SS1EXP tells of the last one (R525). -/
def ss1Ended (c : Chip) : Chip := if c.is F.SAF_STAT_SS1RUN then (c.setb F.SAF_STAT_SS1RUN false).setb F.SAF_STAT_SS1EXP false else c

/-! ### Entry and exit (R22, R31, R36) -/

/-- What ends with BOOT, however BOOT ends: the node address, the programs' stages and start codes are taken, and every group commits what BOOT restored
(R90, R236, R273). -/
def bootEnds (c : Chip) : Chip :=
  let c := modMs (fun s => { s with naddr := c.get F.DEV_NADDR_NADDR }) c
  (loadAllStartCodes (resetStages (alignAtBootEnd c))).forN 7 commitGroup

/-- DRIVE or CHARGE is left (R75, R77). -/
def runModeLeft (c : Chip) : Chip := modMs (fun s => { s with hwdRunning := false }) { c with zen := { c.zen with fallback := 0 } }

/-- The exit actions of the present mode, on a change to mode m (R36, R452). -/
def leaveMode (m : Mode) (c : Chip) : Chip :=
  match c.mode with
  | .boot => bootEnds c
  | .config => patchClear (modMs (fun s => { s with naddr := c.get F.DEV_NADDR_NADDR }) c)
  | .selftest => exitSelftest c
  | .precharge => if c.is F.DEV_MODE_LINK_OK then c else linkDown c
  | .identify => (c.forN 4 abandonIdentify).forN 4 (fun a c => if ascOn c a && m != .safestop then ascEnd a c else c)
  | .drive => if m = .safestop then runModeLeft c else allOff (runModeLeft c)
  | .charge => if m = .safestop then runModeLeft c else beginClose 2 false none (allOff (runModeLeft c))
  | .safestop => beginClose 2 false none (allOff (ss1Ended c))
  | .discharge => endDischarge c
  | _ => c

/-- DEV.MODE as a mode is entered (R22): PREV, MODE, TARGET and CAUSE; PEND and HOLD fall. -/
def setMode (m : Mode) (cause : Cause) (c : Chip) : Chip :=
  let c := c.set F.DEV_MODE_PREV (c.get F.DEV_MODE_MODE)
  let c := ((c.set F.DEV_MODE_MODE m.code).set F.DEV_MODE_TARGET m.code).set F.DEV_MODE_CAUSE cause.code
  (c.setb F.DEV_MODE_PEND false).setb F.DEV_MODE_HOLD false

/-- The entry actions of a mode (R36, R42, R75). -/
def entryActions (m : Mode) (c : Chip) : Chip :=
  match m with
  | .selftest => stopTimebases (abandonRuns (abandonCycles (abandonPrograms (enterSelftest c))))
  | .standby => clearSafeStates c
  | .precharge => startPrecharge c
  | .drive | .charge => modMs (fun s => { s with hwdRunning := c.is F.DEV_HWD_ENABLE && !c.is F.DEV_HWD_EXPIRED }) c
  | .discharge => startDischarge c
  | .latched => beginClose 2 false none (abandonCycles (closeSealsLatched (modProt (fun p => { p with pchOut := false }) c)))
  | _ => c

/-- A change of mode (R31, R36). In the mode that follows BOOT or SELFTEST every timebase starts, and its first boundary issues triggers as any other (R236). -/
def enterMode (m : Mode) (cause : Cause) (c : Chip) : Chip :=
  let old := c.mode
  let c := setMode m cause (leaveMode m c)
  let c := if old = .boot ∨ old = .selftest then startTimebases c else c
  let c := modMs (fun s => { s with pend := none, cameFrom := old }) c
  entryActions m ((c.evModeChg).occur 0x01 none (c.rd F.DEV_MODE))

/-- Entry into LATCHED: the Rind latch is set, and CAUSE is the one that it holds (R36, R43). -/
def enterLatched (cause : Cause) (c : Chip) : Chip :=
  let c := setRindLatch cause c
  match c.mode with
  | .reset | .latched => c
  | _ => enterMode .latched c.rind.latchCause c

/-! ### SAFESTOP (R36, R477 to R479, R508) -/

/-- The rank of a stop kind (R479). -/
def stopRank : StopKind → Nat
  | .ss1 => 0 | .sto => 1 | .protective => 2

/-- The protective stop of axis a (R477): the safe state for a motor axis, FREEWHEEL for a converter axis. -/
def protectiveStop (idx a : Nat) (c : Chip) : Chip :=
  if ascOn c a then setSub a .stopping c
  else if c.sub a = .off then c
  else if isConverter c a then recordSafe a 3 idx (convOff a c)
  else
    let c := safeState a idx c
    if ascOn c a then setSub a .stopping c else c

/-- The stop of a kind begins, with the index of the cause that called for it (R477, R508). -/
def beginStop (k : StopKind) (idx : Nat) (c : Chip) : Chip :=
  let c := modMs (fun s => { s with stop := k }) c
  match k with
  | .ss1 =>
    let c := modRind (fun r =>
      { r with ss1Ticks := 0, stillTicks := 0, mon := r.mon.map (fun m => { m with v0 := m.speed, rampRun := 0 }) }) c
    (c.raise F.SAF_STAT_SS1RUN).forN 4 (fun a c =>
      if ascOn c a then setSub a .stopping c else if isConverter c a then beginRampdown a c else stopMotor a c)
  | .protective => (ss1Ended c).forN 4 (protectiveStop idx)
  | .sto => allOff (ss1Ended c)

/-- Entry into SAFESTOP with a stop kind (R31, R34); `after` says that DISCHARGE follows. -/
def enterSafestop (k : StopKind) (idx : Nat) (cause : Cause) (after : Bool) (c : Chip) : Chip :=
  let c := enterMode .safestop cause c
  beginStop k idx (modMs (fun s => { s with dischargeAfter := after, afterCause := cause }) c)

/-- A stop of higher rank replaces the running one (R35, R479). -/
def replaceStop (k : StopKind) (idx : Nat) (c : Chip) : Chip := if stopRank c.ms.stop < stopRank k then beginStop k idx c else c

/-- DISCHARGE is entered if a path is available (R474). -/
def tryDischarge (cause : Cause) (c : Chip) : Chip := if dischargeAvailable c then enterMode .discharge cause c else c

/-- The stop ends (R36, R508): every axis OFF, HOLD, an open session closes (R452), and DISCHARGE follows where it was called for (R32). -/
def endStop (c : Chip) : Chip :=
  let after := c.ms.dischargeAfter
  let c := beginClose 2 false none ((allOff (ss1Ended c)).raise F.DEV_MODE_HOLD)
  let c := modMs (fun s => { s with dischargeAfter := false }) c
  if after then tryDischarge c.ms.afterCause c else c

/-- The default stop kind (SIN.RSTOP[DEFKIND]). -/
def defaultStop (c : Chip) : StopKind := if defaultSs1 c then .ss1 else .sto

/-! ### Reactions (R477 to R480) -/

/-- The flags of an axis fault (R38, R419), without its outputs. -/
def flagFault (a : Nat) (k : FaultCause) (c : Chip) : Chip :=
  let c := failTasks a c
  let c := if c.get (F.MOT_STAT_CAUSE a) = 0 then c.set (F.MOT_STAT_CAUSE a) (axisCauseCode k) else c
  let c := if isConverter c a && convCauseCode k != 0 && c.get (F.CNV_STAT_CCAUSE a) == 0 then c.set (F.CNV_STAT_CCAUSE a) (convCauseCode k) else c
  (c.raise (F.DEV_AXST_AXFLT a)).evAxflt a

/-- Reaction AXIS_OFF: the axis goes to OFF with AXFLT; an active short circuit, of higher rank, is kept (R479). In DISCHARGE the winding
axis's outputs are forced off. -/
def axisOffReaction (a : Nat) (k : FaultCause) (c : Chip) : Chip :=
  if ascOn c a then flagFault a k c
  else
    let c := axisFault a k (if isConverter c a then convOff a c else c)
    if c.mode = .discharge ∧ c.get F.PRT_DIS_PATH = 2 ∧ c.get F.PRT_DIS_AXIS = a then modProt (fun p => { p with pathLost := true }) c else c

/-- Reaction AXIS_SAFE: AXFLT at once, and the safe state of R469; an axis that is OFF has its outputs off and reads FREEWHEEL. -/
def axisSafeReaction (a : Nat) (k : FaultCause) (c : Chip) : Chip :=
  let switching := c.sub a != .off || identifying c a
  let c := flagFault a k c
  if ascOn c a then c
  else if !switching then recordSafe a 3 (causeIndex k) c
  else if isConverter c a then recordSafe a 3 (causeIndex k) (convOff a c)
  else
    let c := safeState a (causeIndex k) c
    if ascOn c a && c.mode != .identify then setSub a .stopping c else c

/-- The stop kind of reactions 3 to 6. -/
def reactionStop (r : Nat) : StopKind := if r = 4 then .ss1 else if r = 5 then .sto else .protective

/-- Reactions 3 to 6 of R477 in each mode (R32, R474, R478, R479). -/
def stopReaction (r idx : Nat) (c : Chip) : Chip :=
  match c.mode with
  | .identify | .drive | .charge => enterSafestop (reactionStop r) idx .protect (r == 6) c
  | .precharge => if r = 6 then tryDischarge .protect c else enterSafestop (reactionStop r) idx .protect false c
  | .discharge => if r = 6 then c else enterSafestop (reactionStop r) idx .protect false c
  | .standby => if r = 6 then tryDischarge .protect c else c
  | .safestop =>
    if c.is F.DEV_MODE_HOLD then (if r = 6 then tryDischarge .protect c else c)
    else
      let c := replaceStop (reactionStop r) idx c
      if r = 6 then modMs (fun s => { s with dischargeAfter := true, afterCause := .protect }) c else c
  | _ => c

/-- Whether a device cause with reaction AXIS_OFF or AXIS_SAFE names axis a (R478, R480). -/
def deviceNames (c : Chip) (k : FaultCause) (a : Nat) : Bool :=
  (c.sub a != .off || identifying c a) && (k != .budflt || (isConverter c a && c.is (F.CNV_CCFG_BUDEN a)))

/-- The reaction of a device cause that has become active. -/
def deviceReaction (k : FaultCause) (c : Chip) : Chip :=
  let c := if k == .wrapDev then modProt (fun p => { p with wrapDev := true }) c else c
  match reactionOf c k with
  | 0 => c
  | 1 => c.forN 4 (fun a c => if deviceNames c k a then axisOffReaction a k c else c)
  | 2 => c.forN 4 (fun a c => if deviceNames c k a then axisSafeReaction a k c else c)
  | 7 => enterLatched .protect c
  | r => stopReaction r (causeIndex k) c

/-- The reaction of a cause of axis a (R173, R419, R480); a tracker fault counts only while the axis uses the tracker (R388). -/
def axisReaction (a : Nat) (k : FaultCause) (c : Chip) : Chip :=
  if k == .tracker && !usesTracker c a then c
  else if c.mode = .latched then flagFault a k c
  else match reactionOf c k with
    | 1 => axisOffReaction a k c
    | 2 => axisSafeReaction a k c
    | _ => stopReaction 3 (causeIndex k) (flagFault a k c)

/-- A safety demand with its stop kind (R31, R507). -/
def safetyReaction (k : StopKind) (c : Chip) : Chip :=
  match c.mode with
  | .precharge | .identify | .drive | .charge | .discharge => enterSafestop k 0 .safety false c
  | .safestop => if c.is F.DEV_MODE_HOLD ∨ c.ms.stop ≠ .ss1 then c else replaceStop k 0 c
  | _ => c

/-- The fall-back of the host watchdog (R32, R74, R76). -/
def watchdogFallback (c : Chip) : Chip :=
  let c := if c.mode = .charge then c.forN 4 (fun a c => if isConverter c a then rampFrom a c else c) else c
  let ramp : Chip := { c with zen := { c.zen with fallback := 0xF#4 } }
  match c.mode with
  | .drive | .charge =>
    match c.get F.DEV_HWD_FALLBACK with
    | 1 => enterSafestop .ss1 0 .watchdog false c
    | 2 => enterSafestop .sto 0 .watchdog false c
    | 3 => ramp
    | 4 => ramp
    | 5 => enterSafestop (defaultStop c) 0 .watchdog true c
    | _ => enterSafestop (defaultStop c) 0 .watchdog false c
  | _ => c

/-! ### Triggers in the order of R30 -/

/-- The rank of a reaction (R479). -/
def reactionRank : Nat → Nat
  | 0 => 0 | 1 => 1 | 2 => 2 | 4 => 3 | 5 => 4 | 3 => 5 | 6 => 6 | _ => 7

/-- The place of a trigger in the order of R30; a cause with reaction LATCHED is a trigger for LATCHED; among reactions, the higher rank first (R479). -/
def noticeKey (c : Chip) : Notice → Nat
  | .latch _ => 0
  | .clockHold _ => 1
  | .safety k => if k = .sto then 2 else 3
  | .device k => if reactionOf c k = 7 then 0 else 11 - reactionRank (reactionOf c k)
  | .axis _ k => 11 - reactionRank (reactionOf c k)
  | .watchdog => 20
  | .complete _ _ => 21

/-- The trigger of a list with the lowest key, the earliest among equals. -/
def firstNotice (c : Chip) : List Notice → Option Notice
  | [] => none
  | n :: l => match firstNotice c l with
    | some m => if noticeKey c m < noticeKey c n then some m else some n
    | none => some n

/-- Take one trigger, judged against the present mode (R30, R31). -/
def handle (n : Notice) (c : Chip) : Chip :=
  match c.mode, n with
  | .reset, .clockHold cause => if c.clk.hold then c else enterHold cause c
  | .reset, _ => c
  | _, .latch cause => enterLatched cause c
  | _, .clockHold cause => enterHold cause c
  | .boot, .device .chopperStuck => enterLatched .protect c
  | .boot, _ => c
  | _, .safety k => safetyReaction k c
  | _, .device k => deviceReaction k c
  | _, .axis a k => axisReaction a k c
  | _, .watchdog => watchdogFallback c
  | .precharge, .complete m cause => enterMode m cause c
  | .discharge, .complete m cause => enterMode m cause c
  | .selftest, .complete m cause => enterMode m cause c
  | _, .complete _ _ => c

/-- What follows of itself once the triggers are taken: late conditions of protection, axes and converters. -/
def sweep (c : Chip) : Chip :=
  if c.mode = .reset ∨ c.mode = .boot then c else
  let c := c.forN 4 ascAbort
  (afeStopDue c).forN 4 (fun a c => learnDone a (finishRun a (alignNoneDone a c)))

/-- The present mode has finished its work (R31, R36, R41): a controlled stop, the tasks of IDENTIFY, the stop of SAFESTOP. -/
def endings (c : Chip) : Chip :=
  match c.mode with
  | .drive | .charge =>
    if c.is F.DEV_MODE_PEND && allAxesOff c then pdoneFor c.ms.pend 0 0 (enterMode .standby c.ms.pendCause c) else c
  | .identify => if (List.range 4).any (fun a => identifying c a || ascOn c a) then c else enterMode .standby .complete c
  | .safestop => if !c.is F.DEV_MODE_HOLD && allAxesOff c then endStop c else c
  | _ => c

/-- OV2_NOCHOP is judged with the faults of the step, ahead of what they leave to the modes' own endings (R30, R468). -/
def raiseOv2 (c : Chip) : Chip := if c.mode = .reset ∨ c.mode = .boot then c else watchOv2 c

/-- Take every trigger raised so far in the order of R30, then what follows, until no trigger is left. -/
def reactLoop : Nat → Chip → Chip
  | 0, c => { c with notices := [] }
  | n + 1, c =>
    let c := raiseOv2 c
    match firstNotice c c.notices with
    | some x => reactLoop n (handle x { c with notices := c.notices.erase x })
    | none =>
      let c := endings (sweep c)
      if c.notices.isEmpty then c else reactLoop n c

/-- The triggers of a step. -/
def react (c : Chip) : Chip := reactLoop (64 + 2 * c.notices.length) c

/-! ### After every command -/

/-- What follows the state of the chip in the same step: ladder indications (R401), sampling
instants (R398), the Rind view of the safe states (R510), repair records (R671), the mode-change event (R92), and last the STO request (R492). -/
def settle (before c : Chip) : Chip :=
  let c := { c with fine := 0 }
  let c := if c.mode = .reset ∨ c.mode = .boot then c else
    watchSafeState (placeSamples before (c.forN 4 ladderShown))
  let c := if before.prot.dischargeEnd then modProt (fun p => { p with dischargeEnd := false }) c else c
  let c := if c.prot.wrapDev && (c.rd 0x12).field 16 1 == 0 then modProt (fun p => { p with wrapDev := false }) c else c
  let c := if c.mode != .reset && before.rd F.DEV_AXST != c.rd F.DEV_AXST then c.evModeChg else c
  rindSettle (takeRepairs c)

/-- A command's effect with everything that follows in the same step. -/
def after (before c : Chip) : Chip :=
  let c1 := watchAll before c
  let c2 := watchAll c1 (watchChopper (chopperOn before) (react c1))
  settle before (react (watchAll c2 (react c2)))

/-- A command whose effect can change outputs, modes, axes or demands. -/
def act (s : State) (f : Chip → Chip) : Host.Outcome State Fault Refusal := .next { s with chip := after s.chip (f s.chip) }

/-- A command whose effect touches none of these. -/
def quiet (s : State) (f : Chip → Chip) : Host.Outcome State Fault Refusal := .next { s with chip := f s.chip }

/-- One PCLK cycle passes on an empty queue: the model's time, and outside RESET and outside the gated cycles of a forced switch (R120) network time, the trackers,
the programs' runs, the buses. -/
def tickChip (c : Chip) : Chip :=
  let c := { c with up := c.up + 1 }
  if c.mode = .reset ∨ c.clk.gated then c else tickPurlin (watchWinding (tickRuns (tickTrackers (tickTime c))))

end Sys2Proof.Machine
end

