-- ==== Sys2Proof/Machine/Check.lean ====
section
/-! DEFINITION. The configuration check (R106, R107) with the rules that the owning chapters give its items: each item lists the addresses of the
words at fault, and WHERE takes the lowest of them (log entry 20). -/

namespace Sys2Proof.Machine

/-- The addresses of a list that are at fault. -/
def faultsOf {α : Type} (l : List α) (bad : α → Bool) (addr : α → Nat) : List Nat := (l.filter bad).map addr

/-- Whether a value occurs more than once in a list. -/
def twice (x : Nat) (l : List Nat) : Bool := 2 ≤ (l.filter (· == x)).length

/-! ### AXIS, CARRIER, TRACKER (R106, R168, R188, R263, R392, R432) -/

/-- Whether a program is undefined (R319). -/
def pgUndefined (c : Chip) (p : Nat) : Bool := !c.is (F.ZEN_PG_CFG_EN p)

/-- The groups that axis a names: GRP, and the next one with PAIR; GRP above 5 names none. -/
def namedGroups (c : Chip) (a : Nat) : List Nat :=
  let g := c.get (F.MOT_CFG_GRP a)
  if 5 < g then [] else if c.is (F.MOT_CFG_PAIR a) then [g, g + 1] else [g]

/-- Whether the source of axis a's tracker is HALL, RESOLVER, or ENCODER with index. -/
def blockSource (c : Chip) (a : Nat) : Bool :=
  match axisTracker c a with
  | some t => srcOf c t == 1 || srcOf c t == 3 || (srcOf c t == 2 && c.is (F.AT_SRC_P3 t))
  | none => false

/-- Item AXIS for axis a. -/
def axisBad (c : Chip) (a : Nat) : Bool :=
  let f := axisFunc c a
  let gs := namedGroups c a
  let held := ((List.range 4).filter (fun b => axisFunc c b != 0)).flatMap (namedGroups c)
  let pair := c.is (F.MOT_CFG_PAIR a)
  f != 0 && (gs.isEmpty || (pair && c.get (F.MOT_CFG_GRP a) % 2 == 1) || gs.any (fun g => twice g held) ||
    (isMotor c a && ((axisTracker c a).isNone || pgUndefined c (c.get (F.MOT_CFG_PG a)))) ||
    (f == 3 && (pair || c.get (F.MOT_CFG_START a) != 0 || !blockSource c a)) ||
    (f == 4 && (pair || (match axisTracker c a with | some t => srcOf c t != 5 | none => true))) || (f == 5 && !pair))

/-- Item AXIS. -/
def checkAxis (c : Chip) : List Nat := faultsOf (List.range 4) (axisBad c) F.MOT_CFG

/-- Whether a period in fine steps lies in 1 kHz to 1 MHz. -/
def periodOk (p : Nat) : Bool := 25600 ≤ p && p ≤ 25600000

/-- The groups that two Kerf tables bind, or one table twice. -/
def kerfBound (c : Chip) : List Nat := (List.range 6).flatMap (boundGroups c)

/-- Item CARRIER. -/
def checkCarrier (c : Chip) : List Nat :=
  let gs := (List.range 4).flatMap (axisGroups c)
  let conv (a : Nat) : Bool := isConverter c a && c.is (F.CNV_ILV_EN a)
  let first (a : Nat) : Nat := (axisGroups c a).headD 0
  faultsOf gs (fun g => !periodOk (c.get (F.PWM_G_PER_PER g)) || !periodOk (c.get (F.PWM_G_LPER_LPER g))) F.PWM_G_PER ++
    faultsOf gs (fun g => decide (c.get (F.PWM_G_PER_PER g) ≤ 2 * (c.get (F.PWM_G_CTL_MINP g) * 256))) F.PWM_G_CTL ++
    faultsOf gs (fun g => (match groupAxis c g with | some a => axisFunc c a == 5 | none => false) && c.is (F.PWM_G_CTL_CMODE g)) F.PWM_G_CTL ++
    faultsOf (List.range 4) (fun a => (conv a || axisFunc c a == 5) && c.get (F.PWM_G_LPER_LPER (first a)) % 128 != 0)
      (fun a => F.PWM_G_LPER (first a)) ++
    faultsOf (List.range 4) (fun a => isConverter c a && decide (c.get (F.CNV_ILV_NC a) < 4)) F.CNV_ILV ++
    faultsOf (List.range 6) (fun t => (boundGroups c t).any (fun g => twice g (kerfBound c))) F.KT_CTL

/-- Item TRACKER. -/
def checkTracker (c : Chip) : List Nat :=
  let used (t : Nat) : Bool := c.is (F.KT_CTL_EN t) || (List.range 4).any (fun a => axisFunc c a != 0 && axisTracker c a == some t)
  faultsOf (List.range 6) (fun t =>
    (used t && srcOf c t == 0) || (srcOf c t == 6 && decide (t ≤ c.get (F.AT_CFG_PARENT t))) ||
      ((srcOf c t == 4 || srcOf c t == 5 || altOf c t == some 4) && !c.is (F.AT_CFG_LEN t))) F.AT_CFG

/-! ### SAMPLESET (R199) -/

/-- Follow the chain relation `n` times from set s: whether it comes back to s. -/
def chainsBack (c : Chip) (s : Nat) : Nat → Nat → Bool
  | 0, _ => false
  | n + 1, t =>
    if c.is (F.ADC_SET_CFG_EN t) && c.get (F.ADC_SET_CFG_TRG t) == 1 then
      (c.get (F.ADC_SET_CFG_CHS t) == s) || chainsBack c s n (c.get (F.ADC_SET_CFG_CHS t))
    else false

/-- Item SAMPLESET for the configuration word of set s. -/
def setBad (c : Chip) (s : Nat) : Bool :=
  let trg := c.get (F.ADC_SET_CFG_TRG s)
  (c.is (F.ADC_SET_CFG_EN s) && (slotsOf c s).all (fun w => !slotEn w)) ||
    (trg == 1 && c.get (F.ADC_SET_CFG_CHS s) == s) || chainsBack c s 16 s ||
    (c.is (F.ADC_SET_CFG_PGEN s) && pgUndefined c (c.get (F.ADC_SET_CFG_PG s))) ||
    ((trg == 2 || trg == 3) && (List.range 6).all (fun t => !(usesSrc c t 1 && c.get (F.AT_SRC_UNIT t) == trg - 2)))

/-- Item SAMPLESET for slot k of set s. -/
def slotBad (c : Chip) (s k : Nat) : Bool :=
  let w := c.rd (F.ADC_SET_SL s k)
  decide (0x36 ≤ slotCh w) || (slotDiff w && (slotCh w % 2 == 1 || decide (0x30 ≤ slotCh w))) ||
    (slotEn w && (List.range 16).any (fun j =>
      let v := c.rd (F.ADC_SET_SL s j); j != k && slotEn v && slotConv v == slotConv w && slotRank v == slotRank w))

/-- Item SAMPLESET. -/
def checkSampleset (c : Chip) : List Nat :=
  (List.range 16).flatMap (fun s =>
    (if setBad c s then [F.ADC_SET_CFG s] else []) ++ faultsOf (List.range 16) (slotBad c s) (F.ADC_SET_SL s))

/-! ### PROGRAM (R319, R348 to R352, R359) -/

/-- The enabled programs. -/
def enabledPgs (c : Chip) : List Nat := (List.range 64).filter (fun p => c.is (F.ZEN_PG_CFG_EN p))

/-- The stages that program p names, those beyond 255 among them. -/
def pgStages (c : Chip) (p : Nat) : List Nat := (List.range (max 1 (c.get (F.ZEN_PG_CFG_NST p)))).map (c.get (F.ZEN_PG_CFG_FIRST p) + ·)

/-- The blocks that stage s names, those beyond 1023 among them. -/
def stBlocks (c : Chip) (s : Nat) : List Nat := (List.range (c.get (F.ZEN_ST_BLK_COUNT s))).map (c.get (F.ZEN_ST_BLK_FIRST s) + ·)

/-- A type of R348. -/
def typeKnown (t : Nat) : Bool := t == 0 || laneWordCount t != 0 || (0x50 ≤ t && t ≤ 0x56)

/-- Inputs marked ANGLE or FLAG (R352, R360 to R384); IN0 of CMP is one with BIT = 1 (R362). -/
def angleOrFlag (type opt k : Nat) : Bool :=
  match type, k with
  | 0x16, 0 => Nat.bitAt opt 3
  | 0x17, 2 | 0x20, 2 | 0x21, 1 | 0x21, 2 | 0x25, 3 | 0x31, 2 | 0x32, 2 | 0x33, 0 | 0x43, 2
  | 0x52, 0 | 0x53, 0 | 0x53, 2 | 0x54, 0 | 0x54, 1 | 0x55, 4 | 0x56, 0 => true
  | _, _ => false

/-- Inputs marked vector (R351). -/
def vectorIn (type k : Nat) : Bool := (type == 0x31 && k == 3) || (type == 0x32 && k == 3) || (type == 0x41 && k == 5)

/-- Inputs that name a result word (R360, R371). -/
def resultIn (type k : Nat) : Bool := (type == 1 && decide (k < 4)) || (type == 2 && k == 0)

/-- Types that may stand only in FIXED stages (R352). -/
def fixedOnly (t : Nat) : Bool := [0x01, 0x02, 0x16, 0x21, 0x41, 0x42, 0x43].contains t

/-- The stage of a list that holds block b. -/
def stageOfBlock (c : Chip) (ss : List Nat) (b : Nat) : Option Nat := ss.find? (fun s => (stBlocks c s).contains b)

/-- Whether the selector of input k of block b, in stage s of a program with stages ss, breaks R349 to R352. -/
def selBad (c : Chip) (ss : List Nat) (s b k : Nat) : Bool :=
  let type := c.get (F.ZEN_BK_CFG_TYPE b)
  let sel := selector c b k
  let low := sel % 2 ^ 21
  match sel / 2 ^ 21 with
  | 0 => low != 0
  | 1 =>
    let p := sel / 2 ^ 10 % 1024
    let n := sel % 16
    sel / 2 ^ 20 % 2 == 1 || sel / 16 % 64 != 0 ||
      (match stageOfBlock c ss p with
        | none => true
        | some q =>
          decide (outputCount (c.get (F.ZEN_BK_CFG_TYPE p)) ≤ (if vectorIn type k then n + 1 else n)) ||
            (angleOrFlag type (c.get (F.ZEN_BK_CFG_OPT b)) k && (c.is (F.ZEN_ST_CFG_ADAPT q) || c.is (F.ZEN_ST_CFG_ADAPT s) ||
              c.get (F.ZEN_ST_CFG_EXP q) != c.get (F.ZEN_ST_CFG_EXP s))))
  | 2 => low / 256 != 0 || !resultIn type k || vectorIn type k
  | 3 => low / 65536 != 0
  | 4 => low / 128 != 0 || sel / 8 % 2 == 1 || decide (5 < sel / 16 % 8) || decide (4 < sel % 8) || vectorIn type k
  | 5 => low / 2 ^ 19 != 0 || decide (4 < sel / 65536 % 8) || (wordAt (paramBase (sel / 65536 % 8) + sel % 65536)).isNone || vectorIn type k
  | _ => true

/-- The address of the word that holds selector k of block b. -/
def selAddr (b k : Nat) : Nat := F.ZEN_BK_SRC0 b + k / 2

/-- Whether the type of block b may stand in stage s (R348, R352, R359). -/
def typeBad (c : Chip) (s b : Nat) : Bool :=
  let type := c.get (F.ZEN_BK_CFG_TYPE b)
  let e := c.geti (F.ZEN_ST_CFG_EXP s)
  let trig := type == 0x33 || type == 0x34 || type == 0x41 || ((type == 0x31 || type == 0x32) && selector c b 3 / 2 ^ 21 == 0)
  !typeKnown type || (fixedOnly type && c.is (F.ZEN_ST_CFG_ADAPT s)) || (trig && (decide (e < -46) || decide (-1 < e)))

/-- Whether a parameter of block b breaks R359. -/
def paramBad (c : Chip) (b : Nat) : Bool :=
  let p0 := c.rd (F.ZEN_BK_P0 b)
  match c.get (F.ZEN_BK_CFG_TYPE b) with
  | 0x50 => p0.field 0 3 == 7 || (p0.field 0 3 == 6 && p0.field 5 1 == 1)
  | 0x02 => p0.field 32 16 == p0.field 16 16
  | _ => false

/-- The lane words of every block of an enabled program: logical lane, block, first word, number. -/
def laneClaims (c : Chip) : List (Nat × Nat × Nat × Nat) :=
  (enabledPgs c).flatMap (fun p => (pgStages c p).flatMap (fun s => (stBlocks c s).filterMap (fun b =>
    let n := laneWordCount (c.get (F.ZEN_BK_CFG_TYPE b))
    if n = 0 ∨ 1023 < b then none else some (c.get (F.ZEN_PG_CFG_LANE p), b, c.get (F.ZEN_BK_CFG_BASE b), n))))

/-- Whether the lane words of a block overlap another's or lie outside 0x000 to 0xEFF. -/
def claimBad (l : List (Nat × Nat × Nat × Nat)) (x : Nat × Nat × Nat × Nat) : Bool :=
  decide (0xF00 < x.2.2.1 + x.2.2.2) ||
    l.any (fun y => y.1 == x.1 && y.2.1 != x.2.1 && decide (y.2.2.1 < x.2.2.1 + x.2.2.2) && decide (x.2.2.1 < y.2.2.1 + y.2.2.2))

/-- Follow the chains of enabled programs from p: whether they come back to it. -/
def pgChainsBack (c : Chip) (p : Nat) : Nat → Nat → Bool
  | 0, _ => false
  | n + 1, q =>
    if c.is (F.ZEN_PG_CFG_EN q) && c.is (F.ZEN_PG_CFG_CHEN q) then
      (c.get (F.ZEN_PG_CFG_CHPG q) == p) || pgChainsBack c p n (c.get (F.ZEN_PG_CFG_CHPG q))
    else false

/-- Whether the configuration word of stage s breaks R319. -/
def stageWordBad (c : Chip) (s : Nat) : Bool :=
  let e := c.geti (F.ZEN_ST_CFG_EXP s)
  (c.is (F.ZEN_ST_CFG_ADAPT s) && decide (64 < (stageState c s).length)) || decide (c.geti (F.ZEN_ST_CFG_EMAX s) < c.geti (F.ZEN_ST_CFG_EMIN s)) ||
    decide (e < c.geti (F.ZEN_ST_CFG_EMIN s)) || decide (c.geti (F.ZEN_ST_CFG_EMAX s) < e)

/-- Item PROGRAM for any stage, whether a program names it or not (R319, R348, R352, R359). -/
def stageBad (c : Chip) (s : Nat) : List Nat :=
  let bs := blocksOf c s
  (if stageWordBad c s then [F.ZEN_ST_CFG s] else []) ++ faultsOf bs (typeBad c s) F.ZEN_BK_CFG ++ faultsOf bs (paramBad c) F.ZEN_BK_P0

/-- Whether stage s names a block beyond 1023, or one that another stage names (R319). -/
def stageShares (c : Chip) (s : Nat) : Bool :=
  let first (q : Nat) : Nat := c.get (F.ZEN_ST_BLK_FIRST q)
  let past (q : Nat) : Nat := first q + c.get (F.ZEN_ST_BLK_COUNT q)
  decide (1024 < past s) || (List.range 256).any (fun q => q != s && decide (first q < past s) && decide (first s < past q))

/-- Item PROGRAM for stage s of an enabled program with stages ss (R319, R359). -/
def usedStageBad (c : Chip) (ss : List Nat) (s : Nat) : List Nat :=
  if 255 < s then [] else
  (if stageShares c s then [F.ZEN_ST_BLK s] else []) ++ (blocksOf c s).flatMap (fun b => faultsOf (List.range 6) (selBad c ss s b) (selAddr b))

/-- Item PROGRAM. -/
def checkProgram (c : Chip) : List Nat :=
  let pgs := enabledPgs c
  let allStages := pgs.flatMap (pgStages c)
  let claims := laneClaims c
  faultsOf pgs (fun p => (pgStages c p).any (fun s => decide (255 < s) || twice s allStages) || pgChainsBack c p 64 p) F.ZEN_PG_CFG ++
    (List.range 256).flatMap (stageBad c) ++ pgs.flatMap (fun p => (pgStages c p).flatMap (usedStageBad c (pgStages c p))) ++
    faultsOf claims (claimBad claims) (fun x => F.ZEN_BK_CFG x.2.1)

/-! ### RESOURCE, BRACE, PROTECT (R154, R168, R359, R392, R432, R486) -/

/-- What block b writes of PWM staging, ATn.MEAS and KTn staging (R383, R384): keys of one space. -/
def blockTargets (c : Chip) (b : Nat) : List Nat :=
  let p0 := c.rd (F.ZEN_BK_P0 b)
  let g := p0.field 0 3
  match c.get (F.ZEN_BK_CFG_TYPE b) with
  | 0x50 => (legsOf g).flatMap (fun n =>
      if p0.field (3 + legPos n) 1 = 1 then (if p0.field 6 1 = 1 then [F.PWM_L_DUTY n, F.PWM_L_SHIFT n] else [F.PWM_L_DUTY n]) else [])
  | 0x51 => (if p0.field 3 1 = 1 then [F.PWM_G_PER g] else []) ++
      (if g < 6 then (List.range 4).filterMap (fun n => if p0.field (4 + n) 1 = 1 then some (F.PWM_G_XC g n) else none) else [])
  | 0x53 => (if p0.field 3 1 = 1 then [F.KT_NORG g] else []) ++ (if p0.field 4 1 = 1 then [F.KT_NSEL g] else [])
  | 0x54 => [F.AT_MEAS g]
  | _ => []

/-- Every write of the blocks of the enabled programs: program, block, target. -/
def programWrites (c : Chip) : List (Nat × Nat × Nat) :=
  (enabledPgs c).flatMap (fun p => (stagesOf (c.rd (F.ZEN_PG_CFG p))).flatMap (fun s => (blocksOf c s).flatMap (fun b =>
    (blockTargets c b).map (fun t => (p, b, t)))))

/-- The targets that a motor axis's sequencer writes: KT(AT) with the ladder on, and the extra compare of SMP (R392). -/
def sequencerTargets (c : Chip) : List Nat :=
  (List.range 4).flatMap (fun a =>
    if isMotor c a then
      (match axisTracker c a with | some t => (if c.is (F.MOT_LAD_EN a) then [F.KT_NORG t, F.KT_NSEL t] else []) | none => []) ++
        (if c.is (F.MOT_SMP_EN a) then (axisGroups c a).take 1 |>.map (fun g => F.PWM_G_XC g (c.get (F.MOT_SMP_XC a))) else [])
    else [])

/-- The TIO pins that compare actions name (R154). -/
def tioActions (c : Chip) : List Nat :=
  ((List.range 16).filter (fun n => c.get (F.NWT_NCn_CTL_ACTION n) == 4 || c.get (F.NWT_NCn_CTL_ACTION n) == 5)).map (fun n => c.get (F.NWT_NCn_CTL_ARG n) % 4)

/-- Whether the compare unit of converter axis a's ILV serves another function: its control word names an action other than the CARRIER restart of the axis's
own groups, which the sequencer writes (R432, R438; log entry 60). -/
def unitClaimed (c : Chip) (a : Nat) : Bool :=
  let n := c.get (F.CNV_ILV_NC a)
  let act := c.get (F.NWT_NCn_CTL_ACTION n)
  act != 0 && act != 7 && !(act == 3 && c.get (F.NWT_NCn_CTL_ARG n) % 64 == (axisGroups c a).foldl (fun m g => m + 2 ^ g) 0)

/-- Item RESOURCE. -/
def checkResource (c : Chip) : List Nat :=
  let ws := programWrites c
  let seq := sequencerTargets c
  let src (n : Nat) : Nat := c.get (F.NWT_NCAPn_CTL_SRC n)
  let res (t : Nat) : Bool := usesSrc c t 1
  faultsOf ((enabledBlocks c).filter (fun b => c.get (F.ZEN_BK_CFG_TYPE b) == 0x53)) (fun b => (List.range 4).any (fun a =>
      isMotor c a && c.is (F.MOT_LAD_EN a) && axisTracker c a == some ((c.rd (F.ZEN_BK_P0 b)).field 0 3))) F.ZEN_BK_P0 ++
    faultsOf ws (fun w => seq.contains w.2.2 || ws.any (fun v => v.1 != w.1 && v.2.2 == w.2.2)) (fun w => F.ZEN_BK_P0 w.2.1) ++
    faultsOf (List.range 6) (fun t => res t && (List.range t).any (fun u => res u && c.get (F.AT_SRC_UNIT u) == c.get (F.AT_SRC_UNIT t) &&
      excHz c u != excHz c t)) F.AT_SRC ++
    faultsOf (List.range 16) (fun n => (decide (1 ≤ src n) && decide (src n ≤ 4) && (tioActions c).contains (src n - 1)) ||
      (c.is F.PRT_PCH_PCEN && src n == 0x10 + c.get F.PRT_PCH_GPIO)) F.NWT_NCAPn_CTL ++
    faultsOf (List.range 4) (fun a => isConverter c a && (unitClaimed c a || (List.range 4).any (fun b =>
      b != a && isConverter c b && c.get (F.CNV_ILV_NC a) == c.get (F.CNV_ILV_NC b)))) F.CNV_ILV ++
    (if c.is F.PRT_CHP_CMPEN && c.is F.PRT_DCL_CMPEN && c.get F.PRT_CHP_CMP == c.get F.PRT_DCL_CMP then [F.PRT_CHP] else [])

/-- Item BRACE. -/
def checkBrace (c : Chip) : List Nat :=
  let gb : List Nat := (enabledPgs c).flatMap (fun p => (stagesOf (c.rd (F.ZEN_PG_CFG p))).flatMap (fun s => (blocksOf c s).filter (fun b =>
    let p0 := c.rd (F.ZEN_BK_P0 b)
    c.get (F.ZEN_BK_CFG_TYPE b) == 0x50 && p0.field 0 3 == 6 && [18, 19].any (fun n =>
      p0.field (3 + legPos n) 1 == 1 && (!isGeneral c n || chopLeg c == some n || dischLeg c == some n)))))
  gb.map F.ZEN_BK_P0 ++
    (if c.get F.PRT_DIS_PATH == 1 && ((dischLeg c).isNone || dischLeg c == chopLeg c) then [F.PRT_DIS] else []) ++
    (if [18, 19].any (fun n => isGeneral c n && (chopLeg c == some n || dischLeg c == some n)) then [F.PRT_GEN] else [])

/-- Whether a list rises strictly. -/
def rising : List Nat → Bool
  | a :: b :: l => decide (a < b) && rising (b :: l)
  | _ => true

/-- Item PROTECT. -/
def checkProtect (c : Chip) : List Nat :=
  let uv2 := c.get F.PRT_DCT0_UV2
  let ov1 := c.get F.PRT_DCT0_OV1
  (if rising [uv2, c.get F.PRT_DCT0_UV1, ov1] then [] else [F.PRT_DCT0]) ++
    (if rising [ov1, c.get F.PRT_DCT1_OV2OFF, c.get F.PRT_DCT1_OV2ON, c.get F.PRT_DCT1_OV3] then [] else [F.PRT_DCT1]) ++
    (if uv2 ≤ c.get F.PRT_DIS_DTGT then [F.PRT_DIS] else []) ++
    (if c.is F.PRT_PCH_PCEN && decide (c.get F.PRT_PCH_PCEND ≤ c.get F.PRT_DCT0_UV1) then [F.PRT_PCH] else []) ++
    faultsOf (List.range 4) (fun a => axisFunc c a == 1 && c.is (F.PRT_SSC_ASCEN a) &&
      (c.get (F.PRT_SSC_ASCSPD a) == 0 || decide (c.get (F.PRT_SSC_ASCSPD a) ≤ c.get (F.PRT_SSC_ASCOFF a)))) F.PRT_SSC

/-! ### THERMAL, PURLIN, BUDGET (R432, R578, R588) -/

/-- Item THERMAL. -/
def checkThermal (c : Chip) : List Nat :=
  faultsOf ((List.range 8).drop 2) (fun s => decide (stepThr c s ≤ stepThr c (s - 1)) || decide (stepThr c s - stepThr c (s - 1) ≤ stepHys c s))
      (fun s => F.THM_STEP (s - 1)) ++
    faultsOf (List.range 12) (fun k => (teRole c k != 0 && teKind c k == 0) ||
      (teKind c k != 0 && !c.is (F.ADC_SET_SL_EN (c.get (F.THM_TE_CFG_SET k)) (c.get (F.THM_TE_CFG_SLOT k))))) F.THM_TE_CFG ++
    faultsOf (List.range 12) (fun k => teWindowed c k && (let lo := c.geti (F.THM_TE_WIN_LO k); let hi := c.geti (F.THM_TE_WIN_HI k)
      decide (hi ≤ lo) || decide (hi - lo ≤ 2 * ((c.get (F.THM_TE_WIN_WHYS k) : Nat) : Int)))) F.THM_TE_WIN

/-- Item PURLIN: BCLK runs at 80 MHz, and each field holds its value less one. -/
def checkPurlin (c : Chip) : List Nat :=
  let on := (List.range 2).filter (fun u => c.get (F.PUR_CFG_MODE u) != 0)
  let ntq (u : Nat) : Nat := c.get (F.PUR_NBT_TSEG1 u) + c.get (F.PUR_NBT_TSEG2 u) + 3
  let dtq (u : Nat) : Nat := c.get (F.PUR_DBT_TSEG1 u) + c.get (F.PUR_DBT_TSEG2 u) + 3
  let nbit (u : Nat) : Nat := (c.get (F.PUR_NBT_BRP u) + 1) * ntq u
  let dbit (u : Nat) : Nat := (c.get (F.PUR_DBT_BRP u) + 1) * dtq u
  faultsOf on (fun u => decide (nbit u < 80) || decide (ntq u < 8) || decide (c.get (F.PUR_NBT_TSEG2 u) < c.get (F.PUR_NBT_SJW u))) F.PUR_NBT ++
    faultsOf on (fun u => decide (dbit u < 10) || decide (nbit u < dbit u) || decide (dtq u < 5) ||
      decide (c.get (F.PUR_DBT_TSEG2 u) < c.get (F.PUR_DBT_SJW u)) || (c.is (F.PUR_DBT_TDCEN u) && decide (2 < c.get (F.PUR_DBT_BRP u) + 1))) F.PUR_DBT

/-- Item BUDGET. -/
def checkBudget (c : Chip) : List Nat :=
  faultsOf (List.range 4) (fun a => isConverter c a && c.is (F.CNV_CCFG_BUDEN a) && decide (c.get (F.CNV_CCFG_PMAX a) < c.get F.CNV_BLIM_MINPWR))
    F.CNV_CCFG

/-! ### SAFETY (R519, R554) -/

/-- The type of function f of the staged set. -/
def stagedType (c : Chip) (f : Nat) : Nat := if c.get (F.SIN_F_CFG_TYPE f) ≤ 5 then c.get (F.SIN_F_CFG_TYPE f) else 0

/-- Channel x of function f of the staged set. -/
def stagedCh (c : Chip) (f x : Nat) : Nat := (c.rd (F.SIN_F_CFG f)).field (40 - 4 * x) 4

/-- The channels that the functions of the staged set use. -/
def stagedChans (c : Chip) : List Nat := (List.range 8).flatMap (fun f => (List.range (fnChannels (stagedType c f))).map (stagedCh c f))

/-- R554 for the configuration word of function f. -/
def fnCfgBad (c : Chip) (f : Nat) : Bool :=
  let t := stagedType c f
  let n := fnChannels t
  (List.range n).any (fun x => twice (stagedCh c f x) (stagedChans c)) ||
    (List.range 4).any (fun x => decide (n ≤ x) && stagedCh c f x != 0) ||
    (t == 1 && (c.is (F.SIN_F_CFG_AUTOR f) || c.is (F.SIN_F_CFG_BYPEN f))) ||
    (c.is (F.SIN_F_CFG_BYPEN f) && ((t != 2 && t != 4) || stagedType c (c.get (F.SIN_F_CFG_BYPF f)) != 3)) ||
    (c.is (F.SIN_F_CFG_RSEL f) && stagedType c (c.get (F.SIN_F_CFG_RFN f)) != 5)

/-- R554 for the source word of function f: 1 is OSSD, 4 to 7 are TP0 to TP3. -/
def fnSrcBad (c : Chip) (f : Nat) : Bool :=
  (List.range (fnChannels (stagedType c f))).any (fun x =>
    let s := (c.rd (F.SIN_F_SRC f)).field (3 * x) 3
    (stagedType c f == 4 && s != 1) || (decide (4 ≤ s) && !Nat.bitAt (c.get F.SIN_TP_EN) (s - 4)))

/-- The role of slot k of the staged set. -/
def stagedRole (c : Chip) (k : Nat) : Nat := if c.get (F.SIN_RROLE_ROLE k) ≤ 13 then c.get (F.SIN_RROLE_ROLE k) else 0

/-- R519 for the configuration word of monitor m. -/
def monCfgBad (c : Chip) (m : Nat) : Bool :=
  let roles := (List.range 8).map (stagedRole c)
  let src := c.get (F.SIN_RTM_CFG_ASRC m)
  let tap := c.get (F.SIN_RTM_CFG_TAPAT m)
  c.is (F.SIN_RTM_CFG_EN m) &&
    (decide (([0, 1, 2].filter (fun k => roles.contains (2 + 3 * m + k))).length < 2) ||
      (src == 1 && !(roles.contains (8 + 2 * m) && roles.contains (9 + 2 * m))) ||
      ((src == 2 || src == 3) && (List.range 6).all (fun t => !(usesSrc c t 3 && c.get (F.AT_SRC_UNIT t) == src - 2))) ||
      axisFunc c (c.get (F.SIN_RTM_CFG_AXIS m)) != 1 ||
      ((src == 4 || c.is (F.SIN_RTM_CFG_TAPCHK m)) && (decide (5 < tap) || srcOf c tap == 0)))

/-- Item SAFETY without the password clause. -/
def checkSafetySet (c : Chip) : List Nat :=
  let roles := (List.range 8).map (stagedRole c)
  faultsOf (List.range 8) (fnCfgBad c) F.SIN_F_CFG ++ faultsOf (List.range 8) (fnSrcBad c) F.SIN_F_SRC ++
    (if roles.any (fun r => r != 0 && r != 13 && twice r roles) then [F.SIN_RROLE] else []) ++
    faultsOf (List.range 8) (fun k => c.is (F.SIN_RXC_EN k) && stagedRole c k == 0) F.SIN_RXC ++
    faultsOf (List.range 2) (monCfgBad c) F.SIN_RTM_CFG ++
    faultsOf (List.range 2) (fun m => c.is (F.SIN_RTM_CFG_EN m) && c.get (F.SIN_RTM_ASC_RASCSPD m) != 0 &&
      !c.is (F.PRT_SSC_ASCEN (c.get (F.SIN_RTM_CFG_AXIS m)))) F.SIN_RTM_ASC

/-- Whether the staged MODE asks for a password. -/
def wantsPassword (c : Chip) : Bool := c.get F.SIN_SEC_MODE == 1 || c.get F.SIN_SEC_MODE == 3

/-- Item SAFETY: no set whose check value verifies is held (R106, log entry 85), or a rule of R519 and R554 is broken. -/
def checkSafety (c : Chip) : List Nat :=
  (if c.safe.record.isNone then [F.SIN_PCHK] else []) ++ checkSafetySet c ++ (if wantsPassword c && c.safe.password.isNone then [F.SIN_SEC] else [])

/-! ### The check -/

/-- The items in the order of R106. -/
def checkItems (c : Chip) : List (Nat × List Nat) :=
  [(0x01, checkAxis c), (0x02, checkCarrier c), (0x03, checkTracker c), (0x04, checkSampleset c), (0x05, checkProgram c), (0x06, checkResource c),
   (0x07, checkBrace c), (0x08, checkProtect c), (0x09, checkThermal c), (0x0A, checkPurlin c), (0x0B, checkBudget c), (0x0C, checkSafety c)]

/-- ITEM and WHERE of the check: the first failing item, its lowest address; 0 and 0 when all pass. -/
def checkResult (c : Chip) : Nat × Nat :=
  match (checkItems c).find? (fun i => !i.2.isEmpty) with
  | some (i, a :: l) => (i, l.foldl min a)
  | _ => (0, 0)

/-- The check is made and recorded (R107); CFG_FAIL if it fails. -/
def runCheck (c : Chip) : Chip :=
  let r := checkResult c
  let c := (c.set F.DEV_CFGCHK_ITEM r.1).set F.DEV_CFGCHK_WHERE r.2
  if r.1 = 0 then c else c.evCfgFail

/-- Whether the last check passed. -/
def checkPassed (c : Chip) : Bool := c.get F.DEV_CFGCHK_ITEM == 0

/-- DEV.CFGCHK[RUN] starts a check in CONFIG; one that runs goes on (R107). -/
def startCheck (c : Chip) : Chip := if c.mode = .config then modMs (fun s => { s with checkRunning := true }) (c.raise F.DEV_CFGCHK_BUSY) else c

/-- CONFIG_CHECK_DONE: the check that RUN started ends (R106, R107). -/
def configCheckDone (c : Chip) : Chip :=
  if c.is F.DEV_CFGCHK_BUSY then modMs (fun s => { s with checkRunning := false }) ((runCheck c).setb F.DEV_CFGCHK_BUSY false) else c

end Sys2Proof.Machine
end

