-- ==== Sys2Proof/Machine/Operands.lean ====
section
/-! DEFINITION. The operand forms of host requests: a parameter word as a host reads it (R15, R16), the checks of a host write (R17, R62), the write
itself with the effect that the owning rule attaches to it, and the restore of a configuration image (R656), which acts as host writes do. -/

namespace Sys2Proof.Machine

/-! ### Status words (R52, R67) -/

/-- A status word with an address in detail [31:8]. -/
def stAddr (code a : Nat) : Word := BitVec.ofNat 48 (code + a % 2 ^ 24 * 2 ^ 8)
/-- A refusal that depends on the mode: the mode code in [11:8] (R52). -/
def stMode (code : Nat) (c : Chip) : Word := BitVec.ofNat 48 (code + c.mode.code * 2 ^ 8)
/-- A status word without detail. -/
def st (code : Nat) : Word := BitVec.ofNat 48 code

/-! ### Addresses (R80, R81, R83) -/

/-- Whether the word maps list a word at an address. -/
def listed (a : Nat) : Bool :=
  (decide (0x78000 ≤ a) && decide (a < 0x90000)) || (decide (0x200000 ≤ a) && decide (a < 0x240000)) || (wordAt a).isSome

/-- The region of an address; the store window is one region. -/
def regionOf (a : Nat) : Nat := if 0x200000 ≤ a ∧ a < 0x240000 then 0x20 else a / 0x10000

/-- Whether a host access to an address is refused under R3. -/
def meterDenied (c : Chip) (a : Nat) : Bool := regionOf a == 0x10 && !hasMeter c

/-! ### Reads -/

/-- DEV.TLK[PENDING] (R72): the requests that wait for Cellar, and the read itself, which has arrived and is not yet answered (log entry 27). -/
def liveTlk (c : Chip) (a : Nat) (w : Word) : Word := if a = 0xA then w.setField 4 4 (min 8 (c.link.held.length + 1)) else w

/-- Words of SAF and SIN that show present state (R520, R525, R549, R553, R556). -/
def liveSafety (c : Chip) (a : Nat) (w : Word) : Word :=
  if a = 0xC0003 then (((w.withBit 5 c.sto.stoa).withBit 4 c.sto.stob).withBit 3 c.sto.ssoa).withBit 2 c.sto.ssob
  else if a = 0xD0000 then (w.withBit 5 c.safe.stagedPw.isSome).withBit 4 c.safe.password.isSome
  else if a = 0xD0002 then w.setField 16 8 ((List.range 8).foldl (fun n f => if fnType c f = 2 ∧ !c.is (F.SIN_F_STAT_STUP f) then n else n + 2 ^ f) 0)
  else if a = 0xD0004 then BitVec.ofNat 48 (checkValue (slImage c))
  else if a = 0xD0007 then BitVec.ofNat 48 (c.safe.lastSeq % 2 ^ 32 * 2 ^ 16 + min 1024 c.safe.log.length)
  else if 0xD0009 ≤ a ∧ a ≤ 0xD000C then
    let i := c.get F.SIN_LOGSEL_IDX
    let e := logAt c.safe.log i
    if 1024 ≤ i then 0
    else if a = 0xD0009 then logWord0 e else if a = 0xD000A then e.time else if a = 0xD000B then e.w2 else e.w3
  else w

/-- Words of PUR that show present state (R585, R599). -/
def livePur (c : Chip) (a : Nat) (w : Word) : Word :=
  let o := a - 0xF0000
  if o < 0x200 ∧ o % 0x100 = 0 then w.withBit 2 (txInh c)
  else if o < 0x200 ∧ o % 0x100 = 3 then w.setField 40 8 (min 255 (recentIdErrs c (o / 0x100)).length)
  else w

/-- Words of MTR that show present state (R618, R633, R637). -/
def liveMtr (c : Chip) (a : Nat) (w : Word) : Word :=
  let o := a - 0x100000
  if o = 0 then w.withBit 2 (decide (4064 < c.meter.log.length))
  else if o = 0x10 then BitVec.ofNat 48 c.meter.eimp
  else if o = 0x11 then BitVec.ofNat 48 (c.meter.eimp / 2 ^ 48 % 2 ^ 16)
  else if o = 0x12 then BitVec.ofNat 48 c.meter.eexp
  else if o = 0x13 then BitVec.ofNat 48 (c.meter.eexp / 2 ^ 48 % 2 ^ 16)
  else if o = 0x20 then BitVec.ofNat 48 c.meter.log.length
  else if 0x22 ≤ o ∧ o < 0x28 then
    let e := logAt c.meter.log (c.get F.MTR_LOGSEL_IDX)
    [logWord0 e, e.time, e.w2, e.w3, e.w4, e.w5].getD (o - 0x22) 0
  else if 0x30 ≤ o ∧ o < 0x3B then c.fuses.pub.getD (o - 0x30) 0
  else w

/-- Words of NVS that show present state (R657, R675). -/
def liveNvs (c : Chip) (a : Nat) (w : Word) : Word :=
  if a = 0x110000 then
    ((((w.withBit 15 c.nvm.cur.isSome).withBit 14 c.nvm.host.isSome).withBit 10 (userFree c).isNone).withBit 9 (repairFree c).isNone).withBit 8 c.nvm.staged
  else if a = 0x110002 then
    let av := imageValid c false
    let bv := imageValid c true
    let newest := match newestImage c with | some false => 1 | some true => 2 | none => 0
    BitVec.ofNat 48 (bit av * 2 ^ 47 + bit bv * 2 ^ 46 + newest * 2 ^ 44 + imageGen c false * 2 ^ 16 + imageGen c true)
  else if a = 0x110004 then
    match userFind c (c.get F.NVS_UFIND_KEY) with
    | some r => BitVec.ofNat 48 (2 ^ 47 + r.2.2.1 * 2 ^ 32 + (0x200000 + userBase r.1 + 1))
    | none => 0
  else w

/-- Words of BST that show present state (R664, R676). -/
def liveBst (c : Chip) (a : Nat) (w : Word) : Word :=
  let i := c.get F.BST_RSEL_IDX
  if a = 0x120000 then w.withBit 17 (c.get F.ZEN_LMAP_TESTL != 15)
  else if a = 0x120002 then
    let t := canStore c
    BitVec.ofNat 48 (bit (clkOk c) * 16 + bit (vOk c) * 8 + bit t * 4 + bit (noFlt c) * 2 + bit (clkOk c && vOk c && t && noFlt c))
  else if a = 0x120004 then (w.setField 8 8 c.bist.fusesUsed).setField 0 8 (repairSlots c).length
  else if a = 0x120006 then (if repairAt c i then (c.storeRd (repairBase i + 1)).withBit 47 true else 0)
  else if a = 0x120007 then (if repairAt c i then c.storeRd (repairBase i + 2) else 0)
  else w

/-- Whether the content of a store-window word is arranged by Cellar: the SAFE and MLOG partitions (R643). -/
def windowOpen (a : Nat) : Bool := decide (0x216000 ≤ a) && decide (a < 0x238000)

/-- An entry of a change log, as words. -/
def entryWords (e : LogEntry) : List Word := [BitVec.ofNat 48 (e.seq * 2 ^ 16 + e.event * 2 ^ 8 + e.detail), e.time, e.w2, e.w3, e.w4, e.w5]

/-- A seal's lockout records, as words. -/
def sealWords (s : SealLog) : List Word := [BitVec.ofNat 48 s.fails, BitVec.ofNat 48 (s.lockEnd.getD 0), BitVec.ofNat 48 s.lockNext]

/-- What the SAFE partition holds, as words (R643): set, password, change log, lockout state. -/
def safeContent (s : Safe) : List Word :=
  ((s.record.getD []).map (·.2)) ++ (match s.password with | some p => p.salt ++ p.verifier | none => []) ++ s.log.flatMap entryWords ++
    (if s.sealLog = {} then [] else sealWords s.sealLog)

/-- A snapshot, as words. -/
def snapWords (s : Snap) : List Word :=
  [BitVec.ofNat 48 s.gen, BitVec.ofNat 48 s.eimp, BitVec.ofNat 48 s.eexp, BitVec.ofNat 48 s.rimp, BitVec.ofNat 48 s.rexp, s.nwt, BitVec.ofNat 48 s.sessno]

/-- What the MLOG partition holds, as words (R643): calibration, change log, session records, snapshot slots, lockout state. -/
def mlogContent (m : Meter) : List Word :=
  ((m.calRecord.getD []).map (·.2)) ++ m.log.flatMap entryWords ++ m.records.flatMap (·.2) ++ m.slots.flatMap (fun s => (s.map snapWords).getD []) ++
    (if m.sealLog = {} then [] else sealWords m.sealLog)

/-- Store word k of SAFE or MLOG as the window shows it (R83, R548): Cellar arranges the records, so the word is a free function of its place and of what the
partition holds (log entry 55); an empty partition reads zero, and so does a word that holds salt or verifier of a password. -/
def partitionWord (c : Chip) (k : Nat) : Word :=
  let safe := decide (k < 0x18000)
  let l := if safe then safeContent c.safe else mlogContent c.meter
  if l.isEmpty then 0 else if safe && c.safe.password.isSome && Config.holdsPassword k l then 0 else Config.partitionWord k l

/-- The fields of an access code, as bits. -/
def accMask (a : Nat) (acc : Acc) : Word :=
  match wordAt a with
  | some d => d.fields.foldl (fun w f => if f.acc = acc then w ||| BitVec.ofNat 48 ((2 ^ f.width - 1) * 2 ^ f.lo) else w) 0
  | none => 0

/-- A parameter word as a host read shows it (R16): the present state, WO fields as zero. -/
def hostWord (c : Chip) (a : Nat) : Word :=
  let w := c.live a
  let w := match regionOf a with
    | 0 => liveTlk c a w
    | 0x20 => if windowOpen a then partitionWord c (a - 0x200000) else w
    | 0xC | 0xD => liveSafety c a w
    | 0xF => livePur c a w
    | 0x10 => liveMtr c a w
    | 0x11 => liveNvs c a w
    | 0x12 => liveBst c a w
    | _ => w
  w &&& ~~~(accMask a .wo)

/-- A read clears the RC fields (R16): DEV.PDONE counts as read (R98), the drops of the trace port start again (R689), and NCAPn.CTL[VALID] clears
with a read of its value (R158). -/
def clearRc (a : Nat) (c : Chip) : Chip :=
  let m := accMask a .rc
  let c := if m = 0 then c else c.wr a (c.rd a &&& ~~~m)
  if a = 0x19 then modMs (fun s => { s with pdoneUnread := false }) c
  else if a = 0x130001 then { c with obs := { c.obs with drops := 0 } }
  else if 0x20040 ≤ a ∧ a < 0x20060 ∧ a % 2 = 1 then c.setb (F.NWT_NCAPn_CTL_VALID ((a - 0x20040) / 2)) false
  else c

/-- A host read of a word, with its effect (R16, R83). -/
def readWord (a : Nat) (c : Chip) : Word × Chip := (hostWord c a, clearRc a c)

/-- The words whose READ latches the rest of a two-word quantity (R15): SERIAL0, EIMPL and EEXPL. -/
def latchesRest (a : Nat) : Bool := a == 1 || a == 0x100010 || a == 0x100012

/-- The latches of R15 but for that of one word. -/
def dropLatch (a : Nat) (l : List (Nat × Word)) : List (Nat × Word) := l.filter (fun e => e.1 != a)

/-- A READ of one word, with the latch of R15: it holds until that other word is read, or a further READ of the first word replaces it. -/
def readLatched (a : Nat) (c : Chip) : Word × Chip :=
  let r := readWord a c
  if latchesRest a then (r.1, { r.2 with link := { r.2.link with latch := (a + 1, hostWord c (a + 1)) :: dropLatch (a + 1) r.2.link.latch } })
  else match c.link.latch.find? (fun e => e.1 == a) with
    | some e => (e.2, { r.2 with link := { r.2.link with latch := dropLatch a r.2.link.latch } })
    | none => r

/-- Why a read of a word is refused: its status word (R3, R81). -/
def readRefusal (c : Chip) (a : Nat) : Option Word :=
  if meterDenied c a then some (stAddr 0x14 a) else if listed a then none else some (stAddr 0x13 a)

/-! ### Checks of a write (R17) -/

/-- Whether the seal that guards an SL field is open, and no confirmation runs (R551). -/
def slOpen (c : Chip) (a : Nat) : Bool :=
  if regionOf a = 0x10 then sealOpened c true else sealOpened c false && c.safe.confirming.isNone

/-- Whether the mode lets a host write an RW or WO field. -/
def When.holds (m : Mode) : When → Bool
  | .any => true
  | .cfg => m == .config
  | .cs => m == .config || m == .standby

/-- Whether a field is writable for the host at this moment (R16, R17). -/
def fieldWritable (c : Chip) (a : Nat) (f : FieldDef) : Bool :=
  match f.acc with
  | .rw | .wo => f.whn.holds c.mode
  | .w1c => true
  | .sl => slOpen c a
  | _ => false

/-- The words that a write reaches in LATCHED (R42). -/
def latchedWrites (a : Nat) : Bool :=
  (decide (0x14 ≤ a) && decide (a ≤ 0x18)) || a == 0xD0008 || a == 0x100021 || a == 0x120005 || a == 0x110003 || regionOf a == 0x13

/-- A word after a write of the masked bits of a value to a field (R16, R17, R63): bits outside the mask keep an RW or SL field and count as
written with 0 for W1C. -/
def writeField (v mask : Word) (w : Word) (f : FieldDef) : Word :=
  let m := mask.field f.lo f.width
  match f.acc with
  | .rw | .sl => if m = 0 then w else w.setField f.lo f.width (f.norm.take (((w &&& ~~~mask) ||| (v &&& mask)).field f.lo f.width))
  | .w1c => w &&& ~~~(BitVec.ofNat 48 (((v &&& mask).field f.lo f.width) <<< f.lo))
  | _ => w

/-- A word after a host write: its writable fields change (R17). -/
def writtenWord (c : Chip) (d : WordDef) (a : Nat) (mask v : Word) : Word :=
  (d.fields.filter (fieldWritable c a)).foldl (writeField v mask) (c.rd a)

/-- Whether an axis definition is refused under R9: it has a function, and names a pair that does not start even or a group that another axis
holds. -/
def axisRefused (c : Chip) (a : Nat) : Bool :=
  let gs := axisGroups c a
  !gs.isEmpty && ((gs.length == 2 && gs.getD 0 0 % 2 == 1) || (List.range 4).any (fun b => b != a && (axisGroups c b).any (gs.contains ·)))

/-- Whether a Kerf pattern word or entry belongs to a running or pending pattern of an enabled table (R183). -/
def kerfHeld (c : Chip) (a : Nat) : Bool :=
  let desc := decide (0x30400 ≤ a) && decide (a < 0x304C0) && decide (8 ≤ a % 0x20) && decide (a % 0x20 < 0x10)
  let entry := decide (0x31000 ≤ a) && decide (a < 0x32800)
  if !desc && !entry then false else
  let n := if desc then (a - 0x30400) / 0x20 else (a - 0x31000) / 0x400
  let pats := c.get (F.KT_STAT_CURPAT n) :: (match (c.kerf n).pending with | some s => [s.pat] | none => [])
  c.is (F.KT_CTL_EN n) && pats.any (fun p =>
    if desc then a % 0x20 - 8 == p
    else
      let i := (a - 0x31000) % 0x400 / 2
      decide (c.get (F.KT_PAT_FIRST n p) ≤ i) && decide (i < c.get (F.KT_PAT_FIRST n p) + c.get (F.KT_PAT_COUNT n p)))

/-- The refusal of a write as a whole that the rule owning the word makes: R118, R197, R203, R325, R243, R183, R391, R511, R550. `new`
is the word as the write would leave it, `named` the word it names, `wr` the bits it carries. -/
def ownRefusal (c : Chip) (a : Nat) (new named wr : Word) : Option Word :=
  if a = 0x10000 then (if clkCfgRefused c (named.field 20 1 == 1) then some (st 0x22) else none)
  else if a = 0x40000 then (if refOf (named.field 0 2) = 1 ∧ !c.is F.ADC_STAT_REFPOK then some (st 0x22) else none)
  else if a = 0x40002 ∨ (0x70004 ≤ a ∧ a ≤ 0x70007) then (if runMode c.mode then none else some (stMode 0x20 c))
  else if 0x50200 ≤ a ∧ a < 0x502A0 ∧ a % 8 < 2 then
    let n := (a - 0x50200) / 8
    if chopLeg c = some n ∨ dischLeg c = some n then some (stAddr 0x14 a) else none
  else if kerfHeld c a then some (stAddr 0x14 a)
  else if 0x90000 ≤ a ∧ a < 0x90100 ∧ a % 0x40 = 0 then
    (if c.mode = .config ∧ axisRefused (c.wr a new) ((a - 0x90000) / 0x40) then some (stAddr 0x13 a) else none)
  else if a = 0xD0006 ∨ (0xD0010 ≤ a ∧ a < 0xD001F) then
    (if !sealOpened c false then some (stAddr 0x14 a)
    else if a = 0xD0006 ∧ wr.field 8 1 = 1 ∧ ¬(wr.field 0 8 = 0 ∨ (8 ≤ wr.field 0 8 ∧ wr.field 0 8 ≤ 90)) then some (stAddr 0x13 a) else none)
  else if a = 0xD0140 then (if c.mode = .standby ∨ (c.mode = .safestop ∧ c.is F.DEV_MODE_HOLD) then none else some (stAddr 0x14 a))
  else none

/-- Why a host write is refused: its status word (R17, R42, R62, R3, R309). -/
def writeRefusal (c : Chip) (a : Nat) (mask v : Word) : Option Word :=
  if meterDenied c a then some (stAddr 0x14 a)
  else if !listed a then some (stAddr 0x13 a)
  else if c.mode = .latched ∧ !latchedWrites a then some (stAddr 0x14 a)
  else if 0x78000 ≤ a ∧ a < 0x80000 then
    (if a % 0x1000 < 0xF00 ∧ (c.mode = .config ∨ c.mode = .standby) then none else some (stAddr 0x14 a))
  else match wordAt a with
    | some d =>
      let any := d.fields.any (fieldWritable c a)
      if !any && d.fields.any (·.acc == .sl) then some (stAddr 0x15 a)
      else match ownRefusal c a (writtenWord c d a mask v) ((c.rd a &&& ~~~mask) ||| (v &&& mask)) (v &&& mask) with
        | some w => some w
        | none => if any then none else some (stAddr 0x14 a)
    | none => if 0x80000 ≤ a ∧ a < 0x90000 then none else some (stAddr 0x14 a)

/-! ### Effects of a write -/

/-- A password staged for the SAFE record (R548, R550): a fresh salt, and the verifier over salt and bytes. The length leads the words that
are hashed, since the bytes of the last word depend on it. -/
def pwHash (salt : List Word) (len : Nat) (ws : List Word) : List Word := Config.sha256 (BitVec.ofNat 48 len :: (salt ++ ws))

/-- The words that carry a password of a length: bytes beyond it are zero (R547). -/
def pwWords (len : Nat) (ws : List Word) : List Word :=
  let n := (len + 5) / 6
  (List.range n).map (fun i =>
    let keep := min 6 (len - 6 * i)
    (ws.getD i 0) &&& ~~~(BitVec.ofNat 48 (2 ^ (48 - 8 * keep) - 1)))

/-- SIN.PWCTL written with STG = 1 (R550): a password, or its removal, is staged. -/
def stagePassword (len : Nat) (c : Chip) : Chip :=
  if len = 0 then modSafe (fun s => { s with stagedPw := some none }) c
  else
    let a := c.free
    let b := a.2.free
    let d := b.2.free
    let salt := [a.1, b.1, BitVec.ofNat 48 (d.1.toNat % 2 ^ 32)]
    modSafe (fun s => { s with stagedPw := some (some ⟨salt, pwHash salt len (pwWords len s.pw)⟩) }) d.2

/-- EXPIRED has been cleared by the host (R77). -/
def expiredCleared (c : Chip) : Chip :=
  if (c.mode = .drive ∨ c.mode = .charge) ∧ c.is F.DEV_HWD_ENABLE then modMs (fun s => { s with hwdRunning := true }) c else c

/-- OBS.CCTL (R687): snapshot, then the counters of CLRL. A cycle takes both from the counts before it. -/
def counterControl (wr : Word) (c : Chip) : Chip :=
  let o := if wr.getLsbD 32 then { c.obs with snp := c.obs.cnt } else c.obs
  { c with obs := { o with cnt := (List.range 64).map (fun k => if k < 32 && wr.getLsbD k then 0 else o.cnt.getD k 0) } }

/-- OBS.CSELn (R687, R689): WRAPPED written 1 clears, and the upper bits of CSEL0 and CSEL1 clear counters 32 to 63. -/
def counterSelect (n : Nat) (wr : Word) (c : Chip) : Chip :=
  let o := c.obs
  let o := if wr.getLsbD 12 then { o with wrapped := o.wrapped &&& ~~~(1#64 <<< n) } else o
  let base := 32 + 16 * n
  { c with obs := { o with cnt := (List.range 64).map (fun k =>
      if n < 2 && decide (base ≤ k) && decide (k < base + 16) && wr.getLsbD (32 + (k - base)) then 0 else o.cnt.getD k 0) } }

/-- The effect of a write in the DEV, CLK and NWT regions: `old` is the word before, `wr` the bits written 1. -/
def takenBase (a : Nat) (old wr : Word) (c : Chip) : Chip :=
  if a = 0xB then (if old.getLsbD 23 && wr.getLsbD 23 then expiredCleared c else c)
  else if a = 0x18 then (if wr.getLsbD 8 then c.evSw else c)
  else if a = 0x1B then (if wr.getLsbD 41 then startCheck c else c)
  else if a = 0x10000 then clkCfgTaken c
  else if a = 0x20001 then roleChanged (old.field 0 2) c
  else if 0x20010 ≤ a ∧ a < 0x20030 then
    let n := (a - 0x20010) / 2
    ncWritten n (if a % 2 = 1 then old.getLsbD 15 else c.is (F.NWT_NCn_CTL_ARM n)) c
  else c

/-- The effect of a write in the ANG region. -/
def takenAng (a : Nat) (old wr : Word) (c : Chip) : Chip :=
  if a < 0x300C0 then
    let n := (a - 0x30000) / 0x20
    let o := a % 0x20
    if o = 0 then (if old.field 0 3 = c.get (F.AT_CFG_SRC n) then c else c |> enableTracker n)
    else if o = 8 then measWritten n c
    else if o = 9 then (if c.is (F.AT_STAT_SRCFLT n) || !(old.field (F.AT_STAT_SRCFLT n).lo 1 == 1 && wr.getLsbD (F.AT_STAT_SRCFLT n).lo) then c else srcfltCleared n c)
    else if 0x10 ≤ o ∧ o < 0x18 then recomputeWindow n ((o - 0x10) / 2) c
    else c
  else if 0x30400 ≤ a ∧ a < 0x304C0 ∧ a % 0x20 = 0 then kerfCtlWritten ((a - 0x30400) / 0x20) (old.field (F.KT_CTL_EN 0).lo 1 == 1) c
  else c

/-- The effect of a write in the ADC, PWM and GDS regions. -/
def takenDrive (a : Nat) (old wr : Word) (c : Chip) : Chip :=
  if a = 0x40000 then refSelected c
  else if a = 0x40002 then c.forN 16 (fun s c => if wr.getLsbD s then triggerSet s c else c)
  else if 0x40800 ≤ a ∧ a < 0x40830 then
    let w := (a - 0x40800) / 2
    if a % 2 = 0 then thrWritten w old c else compEval w c
  else if 0x50000 ≤ a ∧ a < 0x500E0 then
    let g := (a - 0x50000) / 0x20
    let o := a % 0x20
    if o = 2 then stagePer g c else if 8 ≤ o ∧ o < 12 then stageXc g (o - 8) c else if o = 5 then bsrWritten g (old.getLsbD 32) c else c
  else if 0x50200 ≤ a ∧ a < 0x502A0 then
    let n := (a - 0x50200) / 8
    if a % 8 = 0 then stageDuty n c else if a % 8 = 1 then stageShift n c else c
  else if a = 0x50300 then commitMask (wr.field 0 7) c
  else if 0x60000 ≤ a ∧ a < 0x60070 ∧ a % 0x10 = 4 then
    let g := (a - 0x60000) / 0x10
    let c := if wr.getLsbD 0 then gdsClear g c else c
    if wr.getLsbD 1 then reloadGroup g c else c
  else c

/-- The effect of a write in the ZEN region. -/
def takenZen (a : Nat) (wr : Word) (c : Chip) : Chip :=
  if a = 0x70002 then (if wr.getLsbD 15 then requestMigration (wr.field 12 3) false c else c)
  else if a = 0x70004 then startMask 0 48 wr c
  else if a = 0x70005 then startMask 48 16 wr c
  else if a = 0x70006 then requestReset 0 48 wr c
  else if a = 0x70007 then requestReset 48 16 wr c
  else if 0x70400 ≤ a ∧ a < 0x70800 ∧ a % 4 = 0 then resetStage ((a - 0x70400) / 4) c
  else c

/-- The effect of a write in the MOT, CNV, PRT and THM regions. -/
def takenAxis (a : Nat) (wr : Word) (c : Chip) : Chip :=
  if 0x90000 ≤ a ∧ a < 0x90100 then
    let n := (a - 0x90000) / 0x40
    if a % 0x40 = 8 then (if wr.getLsbD 0 then motClear n c else c) else if a % 0x40 = 0x13 then placeSample n c else c
  else if a = 0xA0001 ∨ a = 0xA0002 then grantUpdate false c
  else if a = 0xB000C then dfltClear wr c
  else if a = 0xB0000 then (if c.prot.uv1 then c.set F.PRT_MLIM_MLIM (c.get F.PRT_DCL_UV1PCT) else c)
  else if a = 0xB000B then (if wr.getLsbD F.PRT_CHS_CHFAIL.lo then chfailClear c else c)
  else if a = 0xE0003 then exclWrite wr c
  else c

/-- The effect of a write in the SIN, PUR, MTR and OBS regions. -/
def takenRest (a : Nat) (old wr : Word) (c : Chip) : Chip :=
  if a = 0xD0003 then srstWrite (wr.field 0 8) c
  else if a = 0xD0006 then (if wr.getLsbD 8 then stagePassword (wr.field 0 8) c else c)
  else if 0xD0010 ≤ a ∧ a < 0xD001F then modSafe (fun s => { s with pw := s.pw.set (a - 0xD0010) wr }) c
  else if a = 0xD0140 then (if wr.getLsbD 0 then rackWrite c else c)
  else if 0xF0000 ≤ a ∧ a < 0xF0200 then
    let u := (a - 0xF0000) / 0x100
    if a % 0x100 = 0 then puCfgTaken u c
    else if a % 0x100 = 4 then c.forN 3 (fun b c => if wr.getLsbD b then abortBuf u b c else c) else c
  else if a = 0x130000 then (if old.getLsbD 0 then c else c.queueSync)
  else if a = 0x130002 then counterControl wr c
  else if 0x130140 ≤ a ∧ a < 0x130180 then counterSelect (a - 0x130140) wr c
  else c

/-- The effect that the owning rule attaches to an accepted write of a word. -/
def wordTaken (a : Nat) (old wr : Word) (c : Chip) : Chip :=
  match a / 0x10000 with
  | 0 | 1 | 2 => takenBase a old wr c
  | 3 => takenAng a old wr c
  | 4 | 5 | 6 => takenDrive a old wr c
  | 7 => takenZen a wr c
  | 9 | 0xA | 0xB | 0xE => takenAxis a wr c
  | 0xD | 0xF | 0x13 => takenRest a old wr c
  | _ => c

/-- W1C bits whose clearing the owning rule makes conditional: PRT.DFLT (R482), CHFAIL (R466), THM.EXCL (R564). -/
def keptW1c (a : Nat) : Word :=
  if a = 0xB000C ∨ a = 0xE0003 then BitVec.allOnes 48 else if a = 0xB000B then 1#48 <<< F.PRT_CHS_CHFAIL.lo else 0

/-- Store the masked bits of a value at a listed address, as an accepted host write (R16, R17, R63, R307 to R309). -/
def storeWord (a : Nat) (mask v : Word) (c : Chip) : Chip :=
  let merged (w : Word) : Word := (w &&& ~~~mask) ||| (v &&& mask)
  if 0x78000 ≤ a ∧ a < 0x80000 then
    let j := (a - 0x78000) / 0x1000
    laneStore j (a % 0x1000) (merged (laneLoad c j (a % 0x1000))) c
  else if 0x80000 ≤ a ∧ a < 0x90000 then writeZmem (a - 0x80000) (merged (c.zmemRd (a - 0x80000))) 0 c
  else match wordAt a with
    | some d =>
      let k := keptW1c a
      c.wr a ((writtenWord c d a mask v &&& ~~~k) ||| (c.rd a &&& k))
    | none => c

/-- Host writes that have passed their checks: every word is stored in one SCLK cycle, and then the effects follow in ascending order (R62). -/
def writeWords (l : List (Nat × Word × Word)) (c : Chip) : Chip :=
  let olds := l.map (fun e => c.rd e.1)
  let c := c.forEach l (fun (e : Nat × Word × Word) (c : Chip) => storeWord e.1 e.2.1 e.2.2 c)
  c.forEach (l.zip olds) (fun (e : (Nat × Word × Word) × Word) (c : Chip) => wordTaken e.1.1 e.2 (e.1.2.1 &&& e.1.2.2) c)

/-- A host write of one word by any of the opcodes, as the rows of the table name it: nothing happens in RESET and BOOT, where none is served
(R48, R61), or when it is refused. -/
def hostWrite (a : Nat) (mask v : Word) (c : Chip) : Chip :=
  if c.mode = .reset ∨ c.mode = .boot ∨ (writeRefusal c a mask v).isSome then c else writeWords [(a, mask, v)] c

/-- A host write of a whole word. -/
def hostWriteWord (a : Nat) (v : Word) (c : Chip) : Chip := hostWrite a (BitVec.allOnes 48) v c

/-! ### The restore of a configuration image (R656) -/

/-- The image fields of a word that a restore sets to a value: the takings of the field map apply. -/
def restoredWord (old : Word) (d : WordDef) (a : Nat) (v : Word) : Word :=
  (d.fields.filter (fun f => (imageMask a).getLsbD f.lo)).foldl (fun w f => w.setField f.lo f.width (f.norm.take (v.field f.lo f.width))) old

/-- A restore sets one word of a region. -/
def restoreReg (l : List (Nat × Word)) (a : Nat) (c : Chip) : Chip :=
  match wordAt a with
  | some d => c.wr a (restoredWord (c.rd a) d a (wordIn l a (resetWord a)))
  | none => c

/-- The words whose write has an effect of its own and that the image holds, in ascending order. -/
def effectWords : List Nat :=
  [0x10000, 0x20001] ++ (List.range 32).map (0x20010 + ·)
    ++ (List.range 6).flatMap (fun n => [0x30000 + 0x20 * n, 0x30008 + 0x20 * n] ++ (List.range 8).map (0x30010 + 0x20 * n + ·))
    ++ (List.range 6).map (0x30400 + 0x20 * ·) ++ [0x40000]
    ++ (List.range 7).map (0x50002 + 0x20 * ·) ++ (List.range 6).flatMap (fun g => (List.range 4).map (0x50008 + 0x20 * g + ·))
    ++ (List.range 20).flatMap (fun n => [0x50200 + 8 * n, 0x50201 + 8 * n])
    ++ (List.range 256).map (0x70400 + 4 * ·) ++ (List.range 4).map (0x90013 + 0x40 * ·) ++ [0xA0000, 0xA0001, 0xA0002]
    ++ [0xF0000, 0xF0100, 0x130000]

/-- Restore a configuration image, given as its words: every field that R105 names takes the image's value or its Reset value, lane and ZMEM
words the image's value or zero; then the effects of the writes follow. -/
def restoreImage (l : List (Nat × Word)) (c : Chip) : Chip :=
  let olds := effectWords.map c.rd
  let c := c.forEach (c.regs.map (·.1)) (restoreReg l)
  let c := c.forEach (l.map (·.1)) (restoreReg l)
  let c := c.forN 8 (fun j c => match physLane c j with
    | some z =>
      let held (e : Nat × Word) : Bool := e.1 / 4096 == z || (c.get F.ZEN_MIG_PHASE != 0 && c.get F.ZEN_MIG_SRC == z && e.1 / 4096 == c.get F.ZEN_MIG_DST)
      { c with lanes := c.lanes.filter (fun e => !held e || decide (0xF00 ≤ e.1 % 4096)) }
    | none => c)
  let c := { c with zmem := [] }
  let c := c.forEach l (fun (e : Nat × Word) (c : Chip) =>
    if 0x78000 ≤ e.1 ∧ e.1 < 0x80000 then laneStore ((e.1 - 0x78000) / 0x1000) (e.1 % 0x1000) e.2 c
    else if 0x80000 ≤ e.1 ∧ e.1 < 0x90000 then writeZmem (e.1 - 0x80000) e.2 0 c
    else c)
  c.forEach (effectWords.zip olds) (fun (e : Nat × Word) (c : Chip) => wordTaken e.1 e.2 (c.rd e.1) c)

end Sys2Proof.Machine
end

