-- ==== Sys2Proof/Machine/Boot.lean ====
section
/-! DEFINITION. The way from RESET through BOOT (04_clocks_and_reset, R128, R129, R136; 20_store_and_self_test, R660): what the release of a reset
does, what BOOT restores, and how BOOT ends. -/

namespace Sys2Proof.Machine

/-- The cause that BOOT records: that of the source with the lowest priority number (R126, R128). -/
def bootCause (l : BitVec 8) : Cause :=
  if l &&& 0x0F#8 ≠ 0 then .powerOn else if l &&& 0x10#8 ≠ 0 then .clock else .resetOther

/-- Every repair in force at BOOT: the fused ones, then the records in slot order but for elements that a fuse repairs (R660, steps 1 and 2). -/
def bootRepairList (c : Chip) : List RepairRec := c.bist.fused ++ ((repairSlots c).map (repairHeld c)).filter (fun r => !fuseCovers c r)

/-- A fuse entry that fails its check is skipped, and FERR shows it (R660, step 1). -/
def bootFuses (c : Chip) : Chip := if c.bist.fused.length < c.bist.fusesUsed then c.raise F.BST_FUSE_FERR else c

/-- One repair is applied at BOOT: a retired converter, a failed spare, a retired lane (R219, R222, R225, R336). -/
def applyRepair (r : RepairRec) (c : Chip) : Chip :=
  if r.kind = 3 then
    let b := bankOf r.inst
    if c.get (F.ADC_C_STAT_STATE r.inst) = 3 then c
    else if c.get (F.ADC_CS_STAT_STATE b) = 4 ∨ c.get (F.ADC_CS_STAT_STATE b) = 5 then c.set (F.ADC_C_STAT_STATE r.inst) 6
    else ((c.set (F.ADC_C_STAT_STATE r.inst) 3).set (F.ADC_CS_STAT_STATE b) 4).raise (F.ADC_CAL_HALT b)
  else if r.kind = 4 then
    let c := (c.set (F.ADC_CS_STAT_STATE r.inst) 5).raise (F.ADC_CAL_HALT r.inst)
    c.forN 8 (fun k c => if c.get (F.ADC_C_STAT_STATE (8 * r.inst + k)) = 3 then c.set (F.ADC_C_STAT_STATE (8 * r.inst + k)) 6 else c)
  else if r.kind = 5 then setLane r.inst 4 15 c
  else c

/-- Every slice that is not retired starts its reference calibration (R214). -/
def bootCalibrations (c : Chip) : Chip :=
  let conv := (List.range 16).filter (fun k => c.get (F.ADC_C_STAT_STATE k) == 0)
  let spare := (List.range 2).filter (fun b => c.get (F.ADC_CS_STAT_STATE b) != 5)
  let c := c.forEach conv (fun k c => c.set (F.ADC_C_STAT_STATE k) 7)
  let c := c.forEach spare (fun b c => if c.get (F.ADC_CS_STAT_STATE b) = 0 then c.set (F.ADC_CS_STAT_STATE b) 7 else c)
  let bits := (conv ++ spare.map (16 + ·)).foldl (fun (m : BitVec 18) k => m ||| (1#18 <<< k)) 0
  { c with adc := { c.adc with calRunning := bits } }

/-- Step 7 of R660: the newest valid image is restored, and BOOTINFO records it (R89, R656). -/
def bootImage (c : Chip) : Chip :=
  match newestImage c with
  | some b =>
    let c := restoreImage (imageContent c b) c
    let c := (c.set F.DEV_BOOTINFO_IMAGE (if b then 2 else 1)).set F.DEV_BOOTINFO_GEN (imageGen c b)
    c.forN 16 (fun k c => if c.get (F.ADC_C_STAT_STATE k) = 6 ∧ convUsed c k then c.notice (.device .convDead) else c)
  | none => c

/-- Step 5 of R660: the SAFE set, if its record verifies, is shown in SIN and taken by Rind (R491, R545). -/
def bootSafe (c : Chip) : Chip :=
  match c.safe.record with
  | some l =>
    let c := c.forEach l (fun (e : Nat × Word) (c : Chip) => c.wr e.1 ((c.rd e.1 &&& ~~~(slMask e.1)) ||| (e.2 &&& slMask e.1)))
    (takeParamSet l c).raise F.DEV_BOOTINFO_SAFEOK
  | none => c.setb F.DEV_BOOTINFO_SAFEOK false

/-- Whether the reset lost the metrology registers: the power-on reset or the VCORE supply reset (R622). -/
def metersLost (c : Chip) : Bool := c.clk.logged &&& 0x05#8 ≠ 0

/-- BOOT begins (R129): RSTLOG is written, ACKCNT counts from here (R525), BOOTSEL is sampled, and steps 1 to 7 and 9 of R660 begin or are made. -/
def bootStart (bootsel : Bool) (c : Chip) : Chip :=
  let l := c.clk.logged
  let c := c.wr F.CLK_RSTLOG (BitVec.ofNat 48 l.toNat)
  let c := ((([0x10, 0x11, 0x12, 0x13, F.CLK_SWSTAT].foldl (fun (c : Chip) a => c.wr a 0) c)))
  let c := (setMode .boot (bootCause l) (c.set F.SAF_STAT_ACKCNT 0)).evModeChg
  let c := (resetTime c).setb F.DEV_BOOTINFO_BOOTSEL bootsel
  let c := (c.setb F.CLK_STAT_SRDY (!c.clk.soscStopped)).setb F.ADC_STAT_REF_SETTLED false
  let c := (bootRepairs (bootFuses c)).forEach (bootRepairList c) applyRepair
  bootImage (bootMeter (metersLost c) (bootSafe (bootPatch (bootCalibrations (mapLanes c)))))

/-- RESET_RELEASE: every source is released, no clock hold, and a reference feeds both locked PLLs (R31, R129). -/
def mayBoot (c : Chip) : Bool :=
  c.mode == .reset && c.clk.active == 0 && !c.clk.hold && c.clk.refFed && (refUsable c true || refUsable c false) && pllsLocked c

/-- RESET_RELEASE. -/
def resetRelease (bootsel : Bool) (c : Chip) : Chip := if mayBoot c then bootStart bootsel c else c

/-- CLOCK_HOLD_END (R124, R125): with no other source active the device boots. -/
def clockHoldEnd (windows : Nat) (bootsel : Bool) (c : Chip) : Chip :=
  if holdMayEnd c then resetRelease bootsel (endHold windows c) else c

/-- Whether BOOT can end: the Rind self-test passed (R513), every calibration over (R214), the thermal unit has made its first evaluation (R718). -/
def bootMayEnd (c : Chip) : Bool := c.mode == .boot && c.is F.SAF_STAT_SELFOK && c.adc.calRunning == 0 && c.therm.evaluated

/-- Where BOOT ends (R31, R43): LATCHED, STANDBY or CONFIG. -/
def bootExit (c : Chip) : Chip :=
  if c.rind.latch then enterMode .latched c.rind.latchCause c
  else if c.is F.DEV_BOOTINFO_BOOTSEL && c.get F.DEV_BOOTINFO_IMAGE != 0 && checkPassed c && c.is F.DEV_BOOTINFO_SAFEOK
      && c.is F.SIN_SEC_CONFOK && !faultPending c then enterMode .standby .complete c
  else enterMode .config .complete c

/-- BOOT_COMPLETE: the remaining steps of R660, and the mode that BOOT ends in. -/
def bootComplete (c : Chip) : Chip :=
  if bootMayEnd c then
    let c := bootMeterEnd (metersLost c) c
    let c := showSeals (closeAtBoot true (closeAtBoot false (userScan c)))
    let c := puCfgTaken 1 (puCfgTaken 0 c)
    let c := if c.get F.DEV_BOOTINFO_IMAGE ≠ 0 then runCheck c else c
    let c := (bootExit c).evBootDone
    if c.clk.logged.getLsbD 4 then c.evClk else c
  else c

/-- RESET_AFTER_REPLY: the accepted RESET opcode resets the device (R66). -/
def resetAfterReply (c : Chip) : Chip := if c.link.resetArmed then resetSource 7 false c else c

/-- SOSC_STOP: SOSC has stopped, and STO falls with it. -/
def soscStop (c : Chip) : Chip := stoFall ((modClk (fun k => { k with soscStopped := true }) c).setb F.CLK_STAT_SRDY false)

/-- SOSC_FAULT: the monitor of the main domain finds SOSC wrong (R110, R132). -/
def soscFault (c : Chip) : Chip := internalFault 3 (c.setb F.CLK_STAT_SRDY false)

/-- VIO_PAD_HOLD: VIO falls below the level at which the pads hold, or is back above it. -/
def vioHold (below : Bool) (c : Chip) : Chip := modClk (fun k => { k with vioBelow := below }) c

end Sys2Proof.Machine
end

