-- ==== Sys2Proof/Machine/HostLink.lean ====
section
/-! DEFINITION. The Tenon host link (02_host_link_and_commands): how a request is received, checked and answered, the replay cache, and the requests
that read and write words, change the mode, and carry set-points (R26 to R35, R46 to R79). -/

namespace Sys2Proof

/-- The number of payload words of a request whose opcode needs at least one (R50). -/
def Req.needed (q : Req) : Nat := if q.len = 0 then 256 else q.len.toNat

/-- The payload word at a place. -/
def Req.word (q : Req) (k : Nat) : Word := q.payload.getD k 0

/-- The payload words from a place on. -/
def Req.words (q : Req) (start n : Nat) : List Word := (List.range n).map (fun k => q.word (start + k))

end Sys2Proof

namespace Sys2Proof.Machine

/-! ### Replies (R50 to R53, R68) -/

/-- Change the link. -/
def modLink (f : Link → Link) (c : Chip) : Chip := { c with link := f c.link }

/-- A header word (R50, R51). -/
def headerWord (op tag len hdr : Nat) : Word := BitVec.ofNat 48 (op % 256 * 2 ^ 40 + tag % 256 * 2 ^ 32 + len % 256 * 2 ^ 24 + hdr % 2 ^ 24)

/-- A reply packet (R50, R51, R53): header, payload, CRC word. -/
def replyPacket (op tag hdr : Nat) (payload : List Word) : List Word :=
  let body := headerWord (op + 0x80) tag payload.length hdr :: payload
  body ++ [BitVec.ofNat 48 (crc32 body).toNat]

/-- Send a reply on HDOP. -/
def sendReply (op tag hdr : Nat) (payload : List Word) (c : Chip) : Chip :=
  modLink (fun l => { l with sent := replyPacket op tag hdr payload :: l.sent }) c

/-- The CRC word of a request as it would stand with tag bit [7] set (R68). -/
def retryCrc (op : Nat) (q : Req) : BitVec 32 := crc32 (headerWord op (q.tag.toNat ||| 0x80) q.len.toNat q.hdr.toNat :: q.payload)

/-- The cached request that a retry repeats (R68). -/
def replayOf (c : Chip) (op : Nat) (q : Req) : Option CacheEntry :=
  if q.tag.getLsbD 7 then c.link.cache.find? (fun e => e.op == op && e.tag == q.tag.toNat % 128 && e.retryCrc == retryCrc op q) else none

/-- An executed request enters the replay cache, unless its reply is longer than 16 words; the newest 16 requests stay (R68, R70). A request with a longer reply
pushes no entry out: R68 counts the last 16 requests with short replies (log entry 13). -/
def cacheReply (op : Nat) (q : Req) (payload : List Word) (c : Chip) : Chip :=
  if 16 < payload.length then c else
  modLink (fun l => { l with cache := (⟨op, q.tag.toNat % 128, retryCrc op q, q.hdr.toNat, payload⟩ :: l.cache).take 16 }) c

/-- What answers a request: the reply payload, status word first, and the chip after it. -/
abbrev Handler := Req → Chip → List Word × Chip

/-- Whether the device receives a packet (R46, R48, R55): outside RESET, with word lock, and not while slots are discarded after a CRC error. -/
def listening (q : Req) (c : Chip) : Bool := c.mode != .reset && c.is F.DEV_TLK_LOCK && (!c.link.skipping || q.gap)

/-- The reception of a request with a good CRC: slots are no longer discarded, and the occurrence of R685 is seen. -/
def heard (op : Nat) (c : Chip) : Chip :=
  (modLink (fun l => { l with skipping := false }) c).occur 0x19 none (BitVec.ofNat 48 (op * 2 ^ 40))

/-- An executed request is answered, and enters the replay cache (R54, R68). -/
def answer (op : Nat) (q : Req) (r : List Word × Chip) : Chip := sendReply op q.tag.toNat q.hdr.toNat r.1 (cacheReply op q r.1 r.2)

/-- A cached reply is sent again, its tag marked as a replay (R70). -/
def resend (op : Nat) (e : CacheEntry) (c : Chip) : Chip := sendReply op (e.tag ||| 0x80) e.hdr e.payload c

/-- A request is executed by its handler and answered, or its cached reply is sent again (R54, R68, R70). -/
def serve (op : Nat) (f : Handler) (q : Req) (c : Chip) : Chip :=
  match replayOf c op q with
  | some e => resend op e c
  | none => answer op q (f q c)

/-- Whether eight requests have arrived that are not answered yet (R58). -/
def heldFull (c : Chip) : Bool := decide (8 ≤ c.link.held.length)

/-- A ninth request is discarded without a reply (R58). -/
def overrun (c : Chip) : Chip := (c.countSat F.DEV_TLK_OVERRUN 1).evLinkOvr

/-- A request with a good CRC that is served in hardware: it does not wait for requests that Cellar holds (R56). -/
def receive (op : Nat) (f : Handler) (q : Req) (c : Chip) : Chip :=
  if listening q c then (if heldFull c then overrun (heard op c) else serve op f q (heard op c)) else c

/-! ### The checks of R54 -/

/-- A refusal that changes nothing: its reply holds the status word alone, without the further words of R59 (log entry 15). -/
def refuse (w : Word) (c : Chip) : List Word × Chip := ([w], c)

/-- OK without further words, with an effect. -/
def done (c : Chip) : List Word × Chip := ([0], c)

/-- BAD_LENGTH, with the received length field in detail [15:8]. -/
def badLength (q : Req) : Word := BitVec.ofNat 48 (0x12 + q.len.toNat * 2 ^ 8)

/-- BAD_ADDRESS, with the header value in detail [31:8]. -/
def badHeader (q : Req) : Word := stAddr 0x13 q.hdr.toNat

/-- A refusal of check 1 to 4 for a request without payload and header. -/
def plainRefusal (q : Req) : Option Word := if q.len ≠ 0 then some (badLength q) else if q.hdr ≠ 0 then some (badHeader q) else none

/-- A refusal of check 1 to 4 for a request with one payload word, whose unused bits must be zero, and no header. -/
def oneRefusal (q : Req) (unused : Word) : Option Word :=
  if q.len ≠ 1 then some (badLength q) else if q.hdr ≠ 0 ∨ q.word 0 &&& unused ≠ 0 then some (badHeader q) else none

/-- NOT_READY of a request that BOOT does not serve (R61). -/
def bootRefusal (c : Chip) : Option Word := if c.mode = .boot then some (stMode 0x22 c) else none

/-- MODE_REFUSED of a request served only in CONFIG (R61). -/
def configRefusal (c : Chip) : Option Word :=
  if c.mode = .boot then some (stMode 0x22 c) else if c.mode = .config then none else some (stMode 0x20 c)

/-- The first refusal found, or the handling. -/
def orRefuse (w : Option Word) (c : Chip) (k : List Word × Chip) : List Word × Chip := match w with | some x => refuse x c | none => k

/-! ### Words (R62, R63, R65) -/

/-- PING. -/
def ping (q : Req) (c : Chip) : List Word × Chip := orRefuse (plainRefusal q) c ([0, hostWord c 0], c)

/-- READ. -/
def readOp (q : Req) (c : Chip) : List Word × Chip :=
  if q.len ≠ 0 then refuse (badLength q) c else
  orRefuse (readRefusal c q.hdr.toNat) c (let r := readLatched q.hdr.toNat c; ([0, r.1], r.2))

/-- Why a host write of a word fails checks 4 to 6 of R54. -/
def writeFails (c : Chip) (a : Nat) (mask v : Word) : Option Word :=
  (readRefusal c a).or ((bootRefusal c).or (writeRefusal c a mask v))

/-- WRITE. -/
def writeOp (q : Req) (c : Chip) : List Word × Chip :=
  let a := q.hdr.toNat
  let all := BitVec.allOnes 48
  if q.len ≠ 1 then refuse (badLength q) c else
  orRefuse (writeFails c a all (q.word 0)) c (done (writeWords [(a, all, q.word 0)] c))

/-- MASKED_WRITE (R63). -/
def maskedWrite (q : Req) (c : Chip) : List Word × Chip :=
  let a := q.hdr.toNat
  if q.len ≠ 2 then refuse (badLength q) c else
  orRefuse (writeFails c a (q.word 0) (q.word 1)) c (done (writeWords [(a, q.word 0, q.word 1)] c))

/-- The refusal of a block: that of its lowest failing word, with that word's address (R62). -/
def blockRefusal (first : Nat) (fails : Nat → Option Word) (n : Nat) : Option Word :=
  (List.range n).findSome? (fun k =>
    let a := first + k
    if regionOf a ≠ regionOf first then some (stAddr 0x13 a) else (fails a).map (fun w => stAddr (w.toNat % 256) a))

/-- Read words in ascending order. -/
def readAll (l : List Nat) (c : Chip) : List Word × Chip :=
  l.foldl (fun (x : List Word × Chip) a => let r := readWord a x.2; (x.1 ++ [r.1], r.2)) ([], c)

/-- READ_BLOCK. A count of 0, or one above 255, is answered as a field marked 0 that is not: BAD_ADDRESS (R59, R60; that a count of 0 is so answered is log entry 15). -/
def readBlock (q : Req) (c : Chip) : List Word × Chip :=
  let n := (q.word 0).toNat
  let a := q.hdr.toNat
  if q.len ≠ 1 then refuse (badLength q) c
  else if n = 0 ∨ 255 < n then refuse (badHeader q) c
  else orRefuse (blockRefusal a (readRefusal c) n) c (let r := readAll ((List.range n).map (a + ·)) c; (0 :: r.1, r.2))

/-- WRITE_BLOCK. -/
def writeBlock (q : Req) (c : Chip) : List Word × Chip :=
  let a := q.hdr.toNat
  let n := q.needed
  let all := BitVec.allOnes 48
  orRefuse (blockRefusal a (fun b => writeFails c b all (q.word (b - a))) n) c
    (done (writeWords ((List.range n).map (fun k => (a + k, all, q.word k))) c))

/-- The object of a commit word: a group (true) or a Kerf table (R184, R244). -/
def commitObject (a : Nat) : Option (Bool × Nat) :=
  ((List.range 7).find? (fun g => a == 0x50004 + 0x20 * g)).map (fun g => (true, g)) |>.or
    (((List.range 6).find? (fun n => a == 0x30404 + 0x20 * n)).map (fun n => (false, n)))

/-- COMMIT. -/
def commitOp (q : Req) (c : Chip) : List Word × Chip :=
  if q.len ≠ 0 then refuse (badLength q) c else
  match commitObject q.hdr.toNat with
  | none => refuse (badHeader q) c
  | some o =>
    orRefuse ((bootRefusal c).or (if c.mode = .latched then some (stMode 0x20 c) else none)) c
      (done (if o.1 then commitGroup o.2 c else commitKerf o.2 c))

/-- MODE_STATUS. -/
def modeStatus (q : Req) (c : Chip) : List Word × Chip := orRefuse (plainRefusal q) c ([0, hostWord c 8, hostWord c 9], c)

/-- EVENT_READ_CLEAR (R65). -/
def eventReadClear (q : Req) (c : Chip) : List Word × Chip :=
  if q.len ≠ 1 then refuse (badLength q) c
  else if 4 ≤ q.hdr.toNat then refuse (badHeader q) c
  else
    let a := 0x10 + q.hdr.toNat
    ([0, hostWord c a], c.wr a (c.rd a &&& ~~~(q.word 0)))

/-! ### SETPOINT (R64, R76, R77) -/

/-- The axes that a mask of four bits names, in ascending order. -/
def axesOf (m : Nat) : List Nat := (List.range 4).filter (Nat.bitAt m)

/-- A set-point is taken by an axis: after a fall-back it ramps from its measured value (R77). -/
def takeSetpoint (a : Nat) (w : Word) (c : Chip) : Chip :=
  let c := if c.zen.fallback.getLsbD a then
      let p := pendRamps a c
      { p with zen := { p.zen with fallback := p.zen.fallback &&& ~~~(1#4 <<< a) } }
    else c
  axisSetpoint a w c

/-- Why a SETPOINT fails checks 5 and 6. -/
def setpointRefusal (c : Chip) (m : Nat) : Option Word :=
  if c.mode = .boot then some (stMode 0x22 c)
  else if c.mode = .latched ∨ (m ≠ 0 ∧ c.mode ≠ .drive ∧ c.mode ≠ .charge) then some (stMode 0x20 c)
  else if c.is F.DEV_HWD_EXPIRED then some (st 0x22)
  else none

/-- SETPOINT. -/
def setpointOp (q : Req) (c : Chip) : List Word × Chip :=
  let axes := axesOf (q.hdr.toNat % 16)
  if q.len.toNat ≠ axes.length then refuse (badLength q) c
  else if 16 ≤ q.hdr.toNat then refuse (badHeader q) c
  else orRefuse (setpointRefusal c (q.hdr.toNat % 16)) c
    (done (c.forEach axes.zipIdx (fun (e : Nat × Nat) (c : Chip) => takeSetpoint e.1 (q.word e.2) c)))

/-! ### MODE_REQUEST (R26 to R35, R39) -/

/-- The status code of a refusal reason (R28). -/
def reasonStatus (r : Nat) : Nat :=
  [0, 0x20, 0x20, 0x20, 0x22, 0x24, 0x20, 0x22, 0x24, 0x24, 0x22, 0x23, 0x32, 0x21, 0x20, 0x22, 0x20, 0x22].getD r 0x20

/-- A mode request is refused with a reason (R27). -/
def modeRefused (target reason : Nat) (c : Chip) : List Word × Chip :=
  ([BitVec.ofNat 48 (reasonStatus reason + c.mode.code * 2 ^ 8 + target * 2 ^ 12 + reason * 2 ^ 16)],
    (c.set F.DEV_MODE_LASTREF reason).set F.DEV_MODE_LASTREQ target)

/-- The fields of a mode request word (R26). -/
def mrTarget (w : Word) : Nat := w.field 0 4
/-- AXMASK. -/
def mrMask (w : Word) : Nat := w.field 4 4
/-- AXCMD. -/
def mrCmd (w : Word) : Nat := w.field 8 2
/-- IDTASK. -/
def mrTasks (w : Word) : Nat := w.field 10 4
/-- STOPKIND. -/
def mrStop (w : Word) : Nat := w.field 14 2

/-- Whether a target or a field encoding is not allowed (R28, NO_SUCH_MODE). -/
def noSuchMode (w : Word) : Bool :=
  let t := mrTarget w
  t == 0 || t == 1 || decide (0xB ≤ t) || (t == 9 && mrStop w == 3) || ((t == 7 || t == 8) && mrCmd w == 3)

/-- Whether R33 refuses a request for a target, R34 and R35 taken into account. -/
def shutdownRunning (c : Chip) (t : Nat) : Bool :=
  if t = 9 ∧ (c.mode = .precharge ∨ c.mode = .identify ∨ c.mode = .drive ∨ c.mode = .charge ∨ c.mode = .discharge ∨ c.mode = .safestop) then false
  else match c.mode with
    | .safestop => !c.is F.DEV_MODE_HOLD
    | .discharge | .selftest => true
    | .precharge => t != 4 && t != 0xA
    | .identify => t != 4
    | .config => t == 4 && c.is F.DEV_CFGCHK_BUSY
    | _ => c.is F.DEV_MODE_PEND

/-- Whether an IDENTIFY request asks for gate-strength learning on a group whose previous learning is still ending (R33, R286). -/
def learningEnds (c : Chip) (w : Word) : Bool :=
  mrTarget w == 6 && Nat.bitAt (mrTasks w) 3 && (axesOf (mrMask w)).any (fun a => (axisGroups c a).any (fun g => c.is (F.GDS_G_LRN_ACTIVE g)))

/-- Whether a safety demand is active (STO_DEMAND). -/
def demandStands (c : Chip) : Bool := c.is F.SAF_STAT_DEMACT

/-- The reasons that a START of one axis gives (R39, R420). -/
def startReasons (c : Chip) (a : Nat) : List Nat :=
  let fault := if c.is (F.DEV_AXST_AXFLT a) then [0xA] else []
  match c.sub a with
  | .off =>
    let engd := match axisTracker c a with | some t => isMotor c a && c.is (F.KT_STAT_ENGD t) | none => false
    fault ++ (if engd then [0xD] else [])
  | .stopping => fault ++ [0xD]
  | _ => []

/-- Whether the grant in force lies below the minimum operating power (R31, R432). -/
def belowMinimum (c : Chip) : Bool := decide (c.get F.CNV_BSTAT_GRANT < c.get F.CNV_BLIM_MINPWR)

/-- The reasons of an axis command in DRIVE or CHARGE (R39, R420, R432, R481); `charge` says which. -/
def commandReasons (c : Chip) (charge : Bool) (cmd : Nat) (axes : List Nat) : List Nat :=
  let suits (a : Nat) : Bool := if charge then isConverter c a else isMotor c a
  let invalid := if axes.all suits then [] else [0xE]
  if cmd = 1 then
    let starting := axes.any (fun a => c.sub a == .off || c.sub a == .stopping)
    invalid ++ axes.flatMap (startReasons c) ++ (if starting && faultPending c then [0xA] else []) ++
      (if starting && charge && belowMinimum c then [0xC] else [])
  else invalid

/-- The reasons common to entry into IDENTIFY, DRIVE and CHARGE (R31, R481). -/
def runReasons (c : Chip) : List Nat :=
  (if c.is F.DEV_MODE_LINK_OK then [] else [7]) ++ (if demandStands c then [8] else []) ++ (if startupMissing c then [9] else []) ++
    (if faultPending c then [0xA] else [])

/-- The reasons that conditions of R31 give for a transition that its table lists; `c` is the chip after the check of R106 where one is made. -/
def conditionReasons (c : Chip) (w : Word) : List Nat :=
  let axes := axesOf (mrMask w)
  let faulted := if axes.any (fun a => c.is (F.DEV_AXST_AXFLT a)) then [0xA] else []
  match c.mode, Mode.ofCode (mrTarget w) with
  | .config, .standby =>
    (if checkPassed c then [] else [4]) ++ (if c.is F.SIN_SEC_CONFOK then [] else [5]) ++
      (if sealOpened c false || sealOpened c true then [6] else [])
  | .safestop, .standby => if demandStands c then [8] else []
  | _, .selftest => (if faultPending c || !noFlt c || !clkOk c || !vOk c then [0xA] else []) ++ (if canStore c then [] else [0xB])
  | .standby, .precharge => if faultPending c || c.is F.PRT_DFLT_PRECH || c.is F.PRT_DFLT_DISCH_TMO then [0xA] else []
  | .standby, .identify =>
    runReasons c ++ faulted ++ (if axes.all (fun a => isMotor c a) then [] else [0xE])
  | .standby, .drive =>
    runReasons c ++ faulted ++ (if c.is F.THM_STAT_DINH then [0xB] else []) ++ commandReasons c false (mrCmd w) axes
  | .standby, .charge =>
    runReasons c ++ (if c.is F.THM_STAT_CHENT then [] else [0xB]) ++ (if belowMinimum c then [0xC] else []) ++
      commandReasons c true (mrCmd w) axes
  | _, .discharge => if dischargeAvailable c then [] else [0xF]
  | _, _ => []

/-- Whether the table of R31 lists a transition on a host request. -/
def mayGo : Mode → Mode → Bool
  | .config, .standby | .config, .selftest | .standby, .selftest | .standby, .config | .standby, .precharge | .precharge, .standby
  | .standby, .identify | .identify, .standby | .standby, .drive | .standby, .charge | .drive, .standby | .charge, .standby
  | .precharge, .safestop | .identify, .safestop | .drive, .safestop | .charge, .safestop | .discharge, .safestop
  | .safestop, .standby | .standby, .discharge | .precharge, .discharge | .safestop, .discharge => true
  | _, _ => false

/-- An axis command is carried out (R38, R40). -/
def axisCommand (cmd : Nat) (axes : List Nat) (c : Chip) : Chip :=
  if cmd = 1 then
    c.forEach (axes.filter (fun a => c.sub a == .off)) (fun (a : Nat) (c : Chip) => if isConverter c a then startConverter a c else startMotor a c)
  else if cmd = 2 then
    let live := axes.filter (fun a => c.sub a != .off)
    if c.mode = .charge then stopConverters live c else c.forEach live stopMotor
  else c

/-- The stop kind that a request for SAFESTOP names (R26). -/
def requestedStop (c : Chip) (k : Nat) : StopKind := if k = 1 then .ss1 else if k = 2 then .sto else defaultStop c

/-- A request for the present mode (R32, R35). -/
def sameMode (w : Word) (c : Chip) : Chip :=
  match c.mode with
  | .drive | .charge => axisCommand (mrCmd w) (axesOf (mrMask w)) c
  | .safestop => if !c.is F.DEV_MODE_HOLD ∧ c.ms.stop = .ss1 ∧ requestedStop c (mrStop w) = .sto then replaceStop .sto 0 c else c
  | _ => c

/-- An accepted transition (R31, R34, R36, R41): whether the reply is OK, and the chip after it. -/
def goMode (w : Word) (q : PendReq) (c : Chip) : Bool × Chip :=
  let axes := axesOf (mrMask w)
  match c.mode, Mode.ofCode (mrTarget w) with
  | .drive, .standby | .charge, .standby =>
    let s := controlledStop (some q) .host c
    if allAxesOff s then (true, enterMode .standby .host s) else (false, s)
  | _, .safestop => (true, enterSafestop (requestedStop c (mrStop w)) 0 .host false c)
  | _, .identify => (true, (enterMode .identify .host c).forEach axes (fun (a : Nat) (c : Chip) => startIdentify a (BitVec.ofNat 4 (mrTasks w)) c))
  | _, .drive => (true, axisCommand (mrCmd w) axes (enterMode .drive .host c))
  | _, .charge => (true, axisCommand (mrCmd w) axes (enterMode .charge .host c))
  | _, m => (true, enterMode m .host c)

/-- The lowest of some reasons. -/
def lowestReason : List Nat → Option Nat
  | [] => none
  | r :: l => some (l.foldl min r)

/-- A mode request judged in the order of R29. -/
def judgeMode (w : Word) (q : PendReq) (c : Chip) : List Word × Chip :=
  let t := mrTarget w
  if c.mode = .latched then modeRefused t 0x10 c
  else if c.mode = .boot then modeRefused t 0x11 c
  else if noSuchMode w then modeRefused t 1 c
  else if shutdownRunning c t || learningEnds c w then modeRefused t 0xD c
  else
    let m := Mode.ofCode t
    if m = c.mode then
      let axes := axesOf (mrMask w)
      let rs := if (m = .drive ∨ m = .charge) ∧ mrCmd w ≠ 0 then commandReasons c (m = .charge) (mrCmd w) axes else []
      match lowestReason rs with
      | some r => modeRefused t r c
      | none => done (sameMode w c)
    else if (c.mode = .drive ∧ m = .charge) ∨ (c.mode = .charge ∧ m = .drive) then modeRefused t 3 c
    else if !mayGo c.mode m then modeRefused t 2 c
    else
      let c := if c.mode = .config ∧ m = .standby then runCheck c else c
      match lowestReason (conditionReasons c w) with
      | some r => modeRefused t r c
      | none => let r := goMode w q c; ([if r.1 then 0 else 1], r.2)

/-- MODE_REQUEST: its unused payload bits [47:16] are judged with check 4 (R26, R54), the reserved encodings of its fields in `judgeMode` (R28). -/
def modeRequest (q : Req) (c : Chip) : List Word × Chip :=
  orRefuse (oneRefusal q 0xFFFFFFFF0000) c <| judgeMode (q.word 0) ⟨0x10, q.tag.toNat⟩ c

/-! ### RESET (R66) -/

/-- The confirmation word of a header (R66). -/
def confirmWord (hdr : BitVec 24) : Word := BitVec.ofNat 48 (~~~hdr).toNat

/-- RESET. -/
def resetOp (q : Req) (c : Chip) : List Word × Chip :=
  if q.len ≠ 1 then refuse (badLength q) c
  else if q.hdr ≠ 0 then refuse (badHeader q) c
  else orRefuse (bootRefusal c) c
    (if c.mode = .latched then refuse (BitVec.ofNat 48 (0x20 + c.mode.code * 2 ^ 8 + 0x10 * 2 ^ 16)) c
     else if q.word 0 ≠ confirmWord q.hdr then refuse (st 0x14) c
     else done (modLink (fun l => { l with resetArmed := true }) c))

/-! ### Packets that are not served (R47, R55, R58) -/

/-- WORD_LOCK: eight IDLE words have been seen at one slot boundary (R46). -/
def wordLock (c : Chip) : Chip := if c.mode = .reset then c else c.raise F.DEV_TLK_LOCK

/-- RSTOUT_N is low: in RESET, clock hold included (R123, R129). -/
def rstoutLow (c : Chip) : Bool := c.mode == .reset

/-- HDOP between replies: a constant 0 in RESET (none), the IDLE word from the start of BOOT on (R46, R48). -/
def hdopIdle (c : Chip) : Option Word := if c.mode = .reset then none else some 0xF0F0CC33AA55

/-- BAD_CRC (R55): answered with the CRC that the device computed; then slots are discarded until two IDLE words. -/
def badCrc (op : Nat) (q : Req) (computed : BitVec 32) (c : Chip) : Chip :=
  if listening q c then
    let c := c.occur 0x19 none (BitVec.ofNat 48 (op * 2 ^ 40))
    let c := (modLink (fun l => { l with skipping := true }) c).countSat F.DEV_TLK_CRCERR 1
    sendReply op q.tag.toNat q.hdr.toNat [BitVec.ofNat 48 (0x10 + computed.toNat * 2 ^ 8)] c
  else c

/-- LINK_OVR: a ninth request arrives while eight wait for their reply, and is discarded (R58). -/
def linkOverrun (c : Chip) : Chip := if c.mode = .reset || !heldFull c then c else overrun c

/-- An opcode that is not assigned (R60). -/
def badOpcode (_q : Req) (c : Chip) : List Word × Chip := refuse (st 0x11) c

/-- HREQ_N is pulled low (R71). -/
def hreqLow (c : Chip) : Bool := c.mode != .reset && c.mode != .boot && hrqActive c != 0

end Sys2Proof.Machine
end

