-- ==== Sys2Proof/Machine/HostOps.lean ====
section
/-! DEFINITION. The requests that Cellar serves for the store, the seals, the safety set, metrology, self-test, time, the buses and the patch
(R59, R99 to R102, R149, R150, R547 to R551, R595, R602, R603, R626 to R634, R653 to R659, R670, R672), and the events that end what they began. -/

namespace Sys2Proof.Machine

/-- The request that a later outcome answers. -/
def pendOf (op : Nat) (q : Req) : PendReq := ⟨op, q.tag.toNat⟩

/-- ACCEPTED_PENDING, with an effect. -/
def accepted (c : Chip) : List Word × Chip := ([st 1], c)

/-! ### Store requests (R653 to R659) -/

/-- PART of a selector. -/
def selPart (hdr : Nat) : Nat := hdr / 2 ^ 20
/-- IMG of a selector. -/
def selImg (hdr : Nat) : Nat := hdr / 2 ^ 18 % 4
/-- KEY of a selector. -/
def selKey (hdr : Nat) : Nat := hdr % 2 ^ 16

/-- Whether a selector has a rejected value or a non-zero unused field (R653). -/
def selectorBad (hdr : Nat) (save : Bool) : Bool :=
  let p := selPart hdr
  p == 0 || decide (6 < p) || hdr / 2 ^ 16 % 4 != 0 || (if p = 1 then selImg hdr == 3 else selImg hdr != 0) ||
    (if p = 2 then save && selKey hdr == 0xFFFF else selKey hdr != 0)

/-- MODE_BUSY while a host store request runs (R658). -/
def storeBusy (c : Chip) : Option Word := if c.nvm.host.isSome then some (stMode 0x21 c) else none

/-- The store window is closed: STORE_INHIBIT (R571, R675). -/
def inhibited (c : Chip) : List Word × Chip := ([st 0x31], refuseStore c)

/-- A record that a reply waits for could not be committed: STORE_FAIL (R101, R627). -/
def storeFailed (c : Chip) : List Word × Chip := ([st 0x30], (c.countSat F.NVS_CNT_FAILCNT 1).evStore)

/-- A host store request that goes on: ACCEPTED_PENDING. -/
def hostRequest (op part : Nat) (q : Req) (restore : Option Bool) (failed : Bool) (c : Chip) : Chip :=
  modNvm (fun n => { n with host := some { op := op, tag := q.tag.toNat, part := part, restore := restore, failed := failed } }) c

/-- STORE_SAVE of CFG (R655). -/
def saveImage (q : Req) (c : Chip) : List Word × Chip :=
  let ws := mkRecord 0x10 (c.get F.DEV_IDENT_MAPVER * 2 ^ 16) (imagePayload c) (newImageGen c)
  let big := decide (45056 < ws.length)
  let b := saveSlot c (selImg q.hdr.toNat)
  let c := hostRequest 0x20 1 q none big c
  accepted (if big then c else enqueueJob (.image b ws) c)

/-- STORE_SAVE of PATCH (R659). -/
def savePatch (q : Req) (c : Chip) : List Word × Chip :=
  let h := stagedWord c 0
  let l := h.field 0 24
  let ws := stagedWords c (min 24573 (l + 12))
  if !c.nvm.staged ∨ 24573 < l + 12 then refuse (st 0x22) c
  else
    let older := match patchHeld c with | some p => decide (h.field 32 8 < (p.getD 0 0).field 32 8) | none => false
    if !patchVerifies c ws || older then refuse (st 0x14) c
    else
      let gen := if (patchHeld c).isSome then nextGen (recordGen c 0x38400) else 1
      accepted (enqueueJob (.patch (mkRecord 0x30 0 ws gen)) (hostRequest 0x20 3 q none false c))

/-- STORE_SAVE of USER (R657). -/
def saveUser (q : Req) (c : Chip) : List Word × Chip :=
  let key := selKey q.hdr.toNat
  let ok := userMaySave c key && q.storeOk
  let status := if ok then 0 else 0x30
  ([st status], hostStoreEnded 0x20 2 status (if ok then userSave key (q.words 0 q.len.toNat) c else c))

/-- STORE_SAVE. -/
def storeSave (q : Req) (c : Chip) : List Word × Chip :=
  let p := selPart q.hdr.toNat
  if (p = 1 ∨ p = 3) ∧ q.len ≠ 0 then refuse (badLength q) c
  else if selectorBad q.hdr.toNat true then refuse (badHeader q) c
  else orRefuse ((bootRefusal c).or ((if 4 ≤ p then some (st 0x14) else none).or (storeBusy c))) c
    (if !canStore c then inhibited c
     else if p = 1 then saveImage q c else if p = 2 then saveUser q c else savePatch q c)

/-- STORE_RESTORE (R656). -/
def storeRestore (q : Req) (c : Chip) : List Word × Chip :=
  let h := q.hdr.toNat
  let slot := match selImg h with | 1 => some false | 2 => some true | _ => newestImage c
  if q.len ≠ 0 then refuse (badLength q) c
  else if selectorBad h false then refuse (badHeader q) c
  else orRefuse ((configRefusal c).or ((if selPart h ≠ 1 then some (st 0x14) else none).or (storeBusy c))) c
    (match slot with
     | some b => if imageValid c b then accepted (hostRequest 0x21 1 q (some b) false c) else refuse (st 0x22) c
     | none => refuse (st 0x22) c)

/-- What STORE_ERASE erases (R654). -/
def eraseSelected (h : Nat) (c : Chip) : Chip :=
  match selPart h with
  | 1 =>
    let one (b : Bool) (c : Chip) : Chip := dropRecord (imageBase b) (imageEnd b) c
    if selImg h = 1 then one false c else if selImg h = 2 then one true c else one true (one false c)
  | 2 => userErase (selKey h) c
  | _ => dropRecord 0x38400 0x3E400 c

/-- STORE_ERASE. -/
def storeErase (q : Req) (c : Chip) : List Word × Chip :=
  let h := q.hdr.toNat
  if q.len ≠ 1 then refuse (badLength q) c
  else if selectorBad h false then refuse (badHeader q) c
  else orRefuse ((configRefusal c).or ((if q.word 0 ≠ confirmWord q.hdr then some (st 0x14) else none).or
      ((if 4 ≤ selPart h then some (st 0x14) else none).or (storeBusy c)))) c
    (if !canStore c then inhibited c else done (hostStoreEnded 0x22 (selPart h) 0 (eraseSelected h c)))

/-- STORE_OPERATION_DONE: the work of a host store request that was answered with ACCEPTED_PENDING is over (R655, R656, R658). It ends no sooner
than its write. -/
def storeOperationDone (ok : Bool) (c : Chip) : Chip :=
  match c.nvm.host with
  | none => c
  | some h =>
    let writing := (match c.nvm.cur with | some j => isHostJob j | none => false) || c.nvm.waiting.any isHostJob
    if writing then c
    else match h.restore with
      | some b =>
        if ok && imageValid c b then endHostStore 0 (loadAllStartCodes (restoreImage (imageContent c b) c)) else endHostStore 0x30 c
      | none => endHostStore (if ok && !h.failed then 0 else 0x30) c

/-! ### Seals (R99 to R102, R547, R634) -/

/-- The seal of a base address: true for the metrology seal (R99). -/
def sealBase (a : Nat) : Option Bool := if a = 0x0D0000 then some false else if a = 0x100000 then some true else none

/-- The base address of a seal. -/
def baseOf (mtr : Bool) : Nat := if mtr then 0x100000 else 0x0D0000

/-- The length check of a credential (R547, R634). -/
def credentialLength (mtr : Bool) (q : Req) : Bool :=
  let l := (q.word 0).field 0 8
  if mtr then q.len = 12
  else if l = 0 then q.len = 2
  else decide (8 ≤ l) && decide (l ≤ 90) && q.len.toNat == 1 + (l + 5) / 6

/-- A reserved bit of a credential is not zero (R547, R634). -/
def credentialBad (mtr : Bool) (q : Req) : Bool :=
  let w := q.word 0
  let l := w.field 0 8
  if mtr then w != 0x40
  else w.field 8 40 != 0 ||
    (if l = 0 then (q.word 1).field 32 16 != 0 else pwWords l (q.words 1 ((l + 5) / 6)) != q.words 1 ((l + 5) / 6))

/-- Whether the security mode in force asks for a check value: CHECKVALUE, with the reserved value (R546). -/
def modeCheckvalue (m : Nat) : Bool := m == 0 || m == 2

/-- Whether a credential of the safety seal is right (R547). -/
def sinRight (c : Chip) (q : Req) : Bool :=
  let l := (q.word 0).field 0 8
  if !c.is F.SIN_SEC_CONFOK && l == 0 && q.word 1 == 0 then true
  else if modeCheckvalue (c.pf F.SIN_SEC_MODE) then c.is F.SIN_SEC_CONFOK && l == 0 && (q.word 1).toNat == inForceCheck c
  else match c.safe.password with
    | some p => l != 0 && pwHash p.salt l (q.words 1 ((l + 5) / 6)) == p.verifier
    | none => false

/-- Whether a credential of the metrology seal is right (R634): a signature over nonce and die identifier with the authority key in force. -/
def mtrRight (c : Chip) (q : Req) : Bool :=
  let key := (List.range 11).map (fun i => wordIn c.meter.inForce (0x100040 + i) (resetWord (0x100040 + i)))
  Config.ecdsaVerify key [c.rd 0x100002, c.fuses.serial1, c.fuses.serial0] (q.words 1 11)

/-- NONCE takes a new random value (R634). -/
def renewNonce (mtr : Bool) (c : Chip) : Chip := if mtr then (let r := c.free; r.2.wr 0x100002 r.1) else c

/-- The detail of the log entry of a SEAL_OPEN: the kind of its credential (R552). -/
def credentialKind (mtr : Bool) (q : Req) : Nat := if mtr then 0 else if (q.word 0).field 0 8 = 0 then 1 else 2

/-- SEAL_OPEN judged by its own conditions (R100 to R102): it appends its log entry before its reply, and without the entry the seal stays as it is. -/
def judgeSeal (mtr : Bool) (q : Req) (c : Chip) : List Word × Chip :=
  let base := baseOf mtr
  if sealOpened c (!mtr) then refuse (stAddr 0x14 (baseOf (!mtr))) c
  else if sealOpened c mtr then
    (if !canStore c then inhibited c else if !q.storeOk then storeFailed c
     else done (renewNonce mtr (sealEntry mtr 1 (credentialKind mtr q) c)))
  else if (sealLogOf c mtr).lockEnd.isSome then refuse (stAddr 0x14 base ||| BitVec.ofNat 48 (lockRemaining c mtr * 2 ^ 32)) c
  else if mtr && decide (4064 < c.meter.log.length) then refuse (stAddr 0x14 base) c
  else if !canStore c then inhibited c
  else if !q.storeOk then storeFailed c
  else
    let detail := credentialKind mtr q
    if (if mtr then mtrRight c q else sinRight c q) then done (renewNonce mtr (openSeal mtr detail c))
    else ([stAddr 0x14 base], renewNonce mtr (wrongCredential mtr detail c))

/-- SEAL_OPEN. -/
def sealOpenOp (q : Req) (c : Chip) : List Word × Chip :=
  if q.len = 0 ∨ 16 < q.len.toNat then refuse (badLength q) c else
  match sealBase q.hdr.toNat with
  | none => refuse (badHeader q) c
  | some mtr =>
    if mtr && !hasMeter c then refuse (stAddr 0x14 q.hdr.toNat) c
    else if !credentialLength mtr q then refuse (badLength q) c
    else if credentialBad mtr q then refuse (badHeader q) c
    else orRefuse (configRefusal c) c (judgeSeal mtr q c)

/-- SEAL_CLOSE. -/
def sealCloseOp (q : Req) (c : Chip) : List Word × Chip :=
  if q.len ≠ 0 then refuse (badLength q) c else
  match sealBase q.hdr.toNat with
  | none => refuse (badHeader q) c
  | some mtr =>
    if mtr && !hasMeter c then refuse (stAddr 0x14 q.hdr.toNat) c
    else orRefuse (bootRefusal c) c (done (closeSeal mtr 4 c))

/-! ### SAFE_PARAM_CONFIRM (R549, R551) -/

/-- Whether a password would be in force once the staged set is. -/
def passwordAfter (c : Chip) : Bool := match c.safe.stagedPw with | some p => p.isSome | none => c.safe.password.isSome

/-- SAFE_PARAM_CONFIRM. -/
def safeConfirm (q : Req) (c : Chip) : List Word × Chip :=
  if q.len ≠ 1 then refuse (badLength q) c
  else if q.hdr ≠ 0 then refuse (badHeader q) c
  else orRefuse (configRefusal c) c
    (if !sealOpened c false then refuse (stAddr 0x15 0x0D0000) c
     else if (q.word 0).field 32 16 ≠ 0 then refuse (badHeader q) c
     else if c.safe.confirming.isSome then refuse (stMode 0x21 c) c
     else if c.pf F.SIN_SEC_MODE ≠ 1 ∧ (q.word 0).toNat ≠ checkValue (slImage c) then
       ([st 0x14], if canStore c then sinLogPlain 8 0 c else refuseStore c)
     else if !(checkSafetySet c).isEmpty || (wantsPassword c && !passwordAfter c) then refuse (st 0x22) c
     else
       let c := modSafe (fun s => { s with confirming := some (pendOf 0x32 q) }) c
       accepted (if canStore c then enqueueJob .confirm c else refuseStore c))

/-- The confirmed set takes force (R491, R551, R552). -/
def confirmSet (c : Chip) : Chip :=
  let l := slImage c
  let old := inForceCheck c
  let oldMode := c.pf F.SIN_SEC_MODE
  let d := (match c.safe.stagedPw with | some (some _) => 4 | some none => 8 | none => 0) + (if c.get F.SIN_SEC_MODE = oldMode then 0 else 16)
  let c := modSafe (fun s => { s with record := some l, password := s.stagedPw.getD s.password, stagedPw := none, confirming := none }) c
  let c := sinLog 7 d (checkValue l) old (takeParamSet l c)
  let c := modSeal false (fun s => { s with unclosed := false, byReset := false }) c
  ((c.setb (sealFld false) false).setb F.SIN_SEC_PWSTG false).evSealChg

/-- A confirmation ends without effect: the seal stays open and the staged set is kept (R551). -/
def confirmFails (q : PendReq) (status : Nat) (c : Chip) : Chip :=
  pdone q.op q.tag status 0 (modSafe (fun s => { s with confirming := none }) c)

/-- SAFE_PARAM_CONFIRM_DONE: the write of the SAFE record ends (R551). -/
def safeConfirmDone (ok : Bool) (c : Chip) : Chip :=
  match c.safe.confirming with
  | none => c
  | some q =>
    match c.nvm.cur with
    | some .confirm =>
      let good := ok && sealOpened c false
      let c := modNvm (fun n => { n with cur := none }) c
      serveStore (if good then pdone q.op q.tag 0 0 (confirmSet (committedIn 0x50 c))
        else confirmFails q 0x30 (if ok then c else c.countSat F.NVS_CNT_FAILCNT 1))
    | _ => if c.nvm.waiting.contains .confirm then c else confirmFails q 0x31 c

/-! ### Metrology (R626 to R633) -/

/-- The session word (R626, R641). -/
def sessionWord (c : Chip) : Word := hostWord c 0x100001

/-- On the DLT9648-T the opcodes of metrology are answered with ACCESS_DENIED, whatever else the request holds (R3, log entry 16). -/
def meterAbsent (c : Chip) : Option Word := if hasMeter c then none else some (st 0x14)

/-- METER requests that the mode refuses: BOOT, or before STANDBY (R61, R633). -/
def meterRefusal (c : Chip) (early : Bool) : Option Word :=
  if c.mode = .boot then some (stMode 0x22 c)
  else if early && (c.mode == .config || c.mode == .selftest) then some (stMode 0x20 c)
  else none

/-- METER_READ (R633). -/
def meterRead (q : Req) (c : Chip) : List Word × Chip :=
  orRefuse ((meterAbsent c).or ((plainRefusal q).or (meterRefusal c true))) c
    ([0, hostWord c 0x100010, hostWord c 0x100011, hostWord c 0x100012, hostWord c 0x100013, hostWord c 0x100014, hostWord c 0x100015,
      hostWord c 0x100016, hostWord c 0x100017, hostWord c 0x100001, hostWord c 0x100000, c.meter.boundary], c)

/-- METER_SESSION OPEN (R627). -/
def sessionOpenOp (q : Req) (ref : Nat) (c : Chip) : List Word × Chip :=
  if c.mode ≠ .charge then refuse (stMode 0x20 c) c
  else if sessState c ≠ 0 ∨ c.is F.DEV_MODE_PEND then refuse (stMode 0x21 c) c
  else if !c.is F.MTR_STAT_CALOK || !c.is F.MTR_STAT_KEYOK || modFault c 0 || modFault c 1 || c.meter.tripped then refuse (st 0x22) c
  else if !canStore c then inhibited c
  else if !q.storeOk then storeFailed c
  else let d := sessionOpen ref c; ([0, sessionWord d], d)

/-- METER_SESSION CLOSE (R628, R42). -/
def sessionCloseOp (q : Req) (c : Chip) : List Word × Chip :=
  if c.mode = .latched then refuse (stMode 0x20 c) c
  else if sessState c = 1 then let d := beginClose 1 false (some (pendOf 0x39 q)) c; ([st 1, sessionWord d], d)
  else ([0, sessionWord c], c)

/-- METER_SESSION, by its command. -/
def meterSession (q : Req) (c : Chip) : List Word × Chip :=
  let w := q.word 0
  let cmd := w.field 0 4
  orRefuse (meterAbsent c) c <|
  if q.len ≠ 1 then refuse (badLength q) c
  else if q.hdr ≠ 0 ∨ w.field 4 12 ≠ 0 ∨ cmd = 0 ∨ 3 < cmd ∨ (cmd ≠ 1 ∧ w.field 16 32 ≠ 0) then refuse (badHeader q) c
  else orRefuse (meterRefusal c false) c
    (if cmd = 1 then sessionOpenOp q (w.field 16 32) c else if cmd = 2 then sessionCloseOp q c else ([0, sessionWord c], c))

/-- METER_RECORD (R632): a number that is not held fails check 4 (R54). -/
def meterRecord (q : Req) (c : Chip) : List Word × Chip :=
  orRefuse ((meterAbsent c).or (oneRefusal q 0xFFFF00000000)) c
    (match c.meter.records.find? (fun r => r.1 == (q.word 0).field 0 32) with
     | some r => orRefuse (meterRefusal c true) c (0 :: r.2, c)
     | none => refuse (stAddr 0x13 ((q.word 0).field 0 24)) c)

/-! ### Self-test and repair (R670, R672) -/

/-- Whether a lane test, a migration or a SCRUB runs, or a stop of R33. -/
def bistBusy (c : Chip) : Bool :=
  c.get F.ZEN_LMAP_TESTL != 15 || c.get F.ZEN_MIG_PHASE != 0 || c.bist.scrubReq.isSome || c.bist.laneReq.isSome

/-- The state words of R33 that refuse the start of a function. -/
def stopRunning (c : Chip) : Bool :=
  match c.mode with
  | .safestop => !c.is F.DEV_MODE_HOLD
  | .discharge | .selftest | .precharge | .identify => true
  | _ => c.is F.DEV_MODE_PEND

/-- BIST_RUN, by its kind (R670). -/
def bistRun (q : Req) (c : Chip) : List Word × Chip :=
  let w := q.word 0
  let k := w.field 44 4
  let lane := w.field 0 3
  if q.len ≠ 1 then refuse (badLength q) c
  else if q.hdr ≠ 0 ∨ w.field 3 41 ≠ 0 ∨ ¬(k = 1 ∨ k = 2) ∨ (k = 2 ∧ lane ≠ 0) then refuse (badHeader q) c
  else orRefuse (bootRefusal c) c
    (if k = 1 ∧ (!runMode c.mode || c.mode == .latched) then refuse (stMode 0x20 c) c
     else if bistBusy c || stopRunning c then refuse (stMode 0x21 c) c
     else if k = 1 then
       (if mayMigrate c lane then accepted (bistLane lane (pendOf 0x40 q) c) else refuse (st 0x22) c)
     else if !canStore c then inhibited c
     else accepted (modBist (fun b => { b with scrubReq := some (pendOf 0x40 q) }) c))

/-- Whether a die sensor in use reads outside 0 to 85 °C (R672), in units of 0.125 °C. -/
def fuseTempBad (c : Chip) : Bool := (List.range 12).any (fun k => inUse c k && (decide (tempOf c k < 0) || decide (680 < tempOf c k)))

/-- REPAIR_APPLY, by its action (R672). -/
def repairApply (q : Req) (c : Chip) : List Word × Chip :=
  let w := q.word 0
  let act := w.field 44 4
  let i := w.field 0 6
  let slots := if act = 1 then repairSlots c else [i]
  if q.len ≠ 1 then refuse (badLength q) c
  else if q.hdr ≠ 0 ∨ w.field 6 38 ≠ 0 ∨ ¬(act = 1 ∨ act = 2) ∨ (act = 1 ∧ i ≠ 0) ∨ (act = 2 ∧ !repairAt c i) then refuse (badHeader q) c
  else orRefuse (configRefusal c) c
    (if c.bist.fuseReq.isSome then refuse (stMode 0x21 c) c
     else if fuseTempBad c then refuse (st 0x23) c
     else if !vOk c then refuse (st 0x22) c
     else if 32 < c.bist.fusesUsed + slots.length then refuse (st 0x14) c
     else accepted (startFuse slots (pendOf 0x41 q) c))

/-! ### Time (R149, R150) -/

/-- TIME_SET. -/
def timeSetOp (q : Req) (c : Chip) : List Word × Chip :=
  orRefuse ((oneRefusal q 0).or (configRefusal c)) c ([0, c.now], timeSet (q.word 0) c)

/-- TIME_ADJUST, by its kind. -/
def timeAdjust (q : Req) (c : Chip) : List Word × Chip :=
  let w := q.word 0
  let k := w.field 44 4
  if q.len ≠ 1 then refuse (badLength q) c
  else if q.hdr ≠ 0 ∨ 2 < k ∨ w.field 40 4 ≠ 0 ∨ (k = 2 ∧ w.field 20 20 ≠ 0) then refuse (badHeader q) c
  else orRefuse (bootRefusal c) c
    (if k = 0 then
       (if c.mode = .config ∨ c.mode = .standby then done (adjustStep (signed 40 (w.field 0 40)) c) else refuse (stMode 0x20 c) c)
     else if k = 1 then done (adjustSlew (signed 40 (w.field 0 40)) c)
     else if isSlave c then refuse (st 0x14) c
     else done (adjustRate (signed 20 (w.field 0 20)) c))

/-! ### Buses (R595, R602, R603) -/

/-- A control word that BUS_SEND does not take (R595, step 2). -/
def cwBad (w : Word) : Bool :=
  w.field 35 2 != 0 || w.field 43 1 != 0 || w.field 29 6 != 0 || cwTxm w == 3 || (w.field 46 1 == 1 && !cwFdf w) || (cwRtr w && cwFdf w) ||
    (!cwIde w && cwId w % 2 ^ 18 != 0)

/-- BUS_SEND. -/
def busSend (q : Req) (c : Chip) : List Word × Chip :=
  let h := q.hdr.toNat
  let u := h % 2
  let b := h / 2 % 4
  let w := q.word 0
  if q.needed ≠ 1 + dataWords w then refuse (badLength q) c
  else if 8 ≤ h ∨ b = 3 ∨ cwBad w then refuse (badHeader q) c
  else orRefuse (bootRefusal c) c
    (if c.get (F.PUR_CFG_MODE u) = 0 then refuse (st 0x22) c
     else if cwIde w && (cwId w / 2 ^ 26 == 0 || (c.is (F.PUR_CFG_IDCHK u) && idNode w != c.ms.naddr)) then refuse (st 0x14) c
     else if 1 ≤ bufState c u b ∧ bufState c u b ≤ 3 then refuse (BitVec.ofNat 48 (0x21 + bufState c u b * 2 ^ 8)) c
     else done (busLoad u b ⟨w, q.words 1 (dataWords w)⟩ c))

/-- BUS_RECEIVE. -/
def busReceive (q : Req) (c : Chip) : List Word × Chip :=
  if q.len ≠ 0 then refuse (badLength q) c
  else if 2 ≤ q.hdr.toNat then refuse (badHeader q) c
  else orRefuse (bootRefusal c) c
    (match oldestFull c q.hdr.toNat with
     | some (k, e) =>
       (BitVec.ofNat 48 (e.ts % 2 ^ 40 * 2 ^ 8) :: e.frame.cw.setField 29 6 k :: e.frame.data, setEntry q.hdr.toNat k .held c)
     | none => refuse (st 0x22) c)

/-- BUS_ACK. -/
def busAck (q : Req) (c : Chip) : List Word × Chip :=
  let k := (q.word 0).toNat
  if q.len ≠ 1 then refuse (badLength q) c
  else if 2 ≤ q.hdr.toNat ∨ 64 ≤ k then refuse (badHeader q) c
  else orRefuse (bootRefusal c) c
    (if ((puOf c q.hdr.toNat).fifo.getD k {}).state = .free then refuse (BitVec.ofNat 48 (0x14 + k * 2 ^ 8)) c
     else done (setEntry q.hdr.toNat k .free c))

/-! ### PATCH_LOAD (R659) -/

/-- PATCH_LOAD. -/
def patchLoad (q : Req) (c : Chip) : List Word × Chip :=
  if 24572 < q.hdr.toNat + q.needed - 1 then refuse (badHeader q) c
  else orRefuse (configRefusal c) c (done (patchStage q.hdr.toNat (q.words 0 q.needed) c))

/-! ### The table of R59 -/

/-- What serves an opcode. -/
def handlerOf (op : Nat) : Handler :=
  match op with
  | 0x01 => ping
  | 0x02 => readOp
  | 0x03 => writeOp
  | 0x04 => readBlock
  | 0x05 => writeBlock
  | 0x06 => maskedWrite
  | 0x08 => commitOp
  | 0x10 => modeRequest
  | 0x11 => modeStatus
  | 0x12 => setpointOp
  | 0x18 => eventReadClear
  | 0x20 => storeSave
  | 0x21 => storeRestore
  | 0x22 => storeErase
  | 0x30 => sealOpenOp
  | 0x31 => sealCloseOp
  | 0x32 => safeConfirm
  | 0x38 => meterRead
  | 0x39 => meterSession
  | 0x3A => meterRecord
  | 0x40 => bistRun
  | 0x41 => repairApply
  | 0x50 => timeSetOp
  | 0x51 => timeAdjust
  | 0x60 => busSend
  | 0x61 => busReceive
  | 0x62 => busAck
  | 0x70 => patchLoad
  | 0x7F => resetOp
  | _ => badOpcode

/-- The opcodes that Cellar serves (R59). -/
def cellarServed (op : Nat) : Bool :=
  [0x10, 0x20, 0x21, 0x22, 0x30, 0x31, 0x32, 0x38, 0x39, 0x3A, 0x40, 0x41, 0x50, 0x51, 0x60, 0x61, 0x62, 0x70, 0x7F].contains op

/-- Cellar serves the oldest request that it holds; what follows of it is over before the next is evaluated (R29, R56). -/
def serveOldest (c : Chip) : Chip :=
  match c.link.held with
  | [] => c
  | (op, q) :: l => after c (serve op (handlerOf op) q (modLink (fun k => { k with held := l }) c))

/-- Cellar serves the requests that it holds, in the order in which they came (R56). -/
def serveHeld (c : Chip) : Chip := c.forN c.link.held.length (fun _ => serveOldest)

/-- A request with a good CRC for Cellar: served after every earlier one that Cellar holds, or held until Cellar gets to it (R56, R57, R58). -/
def receiveC (op : Nat) (f : Handler) (q : Req) (c : Chip) : Chip :=
  if !listening q c then c
  else if heldFull c then overrun (heard op c)
  else if q.later then modLink (fun k => { k with held := k.held ++ [(op, q)] }) (heard op c)
  else serve op f q (serveHeld (heard op c))

/-- A request of any opcode is received. -/
def receiveAny (op : Nat) (q : Req) (c : Chip) : Chip :=
  if cellarServed op then receiveC op (handlerOf op) q c else receive op (handlerOf op) q c

/-- FRAMING_ERROR (R47): a request whose CRC is good is executed, one whose CRC fails is answered with BAD_CRC; the error is counted, and word lock drops. -/
def framingError (op : Nat) (q : Req) (bad : Option (BitVec 32)) (c : Chip) : Chip :=
  if listening q c then
    ((match bad with | some crc => badCrc op q crc c | none => receiveAny op q c).countSat F.DEV_TLK_FRAMERR 1).setb F.DEV_TLK_LOCK false
  else c

/-- What an idle step does: one PCLK cycle passes, and Cellar serves the oldest request that it holds. -/
def idleChip (c : Chip) : Chip := serveOldest (tickChip c)

end Sys2Proof.Machine
end

