-- ==== Sys2Proof/Machine/Events.lean ====
section
/-! DEFINITION. The monitored SS1 stop of Rind (R508), and the trace port's own events (R679, R681, R682). -/

namespace Sys2Proof.Machine

/-- An event of the main domain: nothing happens while RESET holds it, nor in the gated cycles of a forced switch, after which it is taken (R120). -/
def running (s : State) (f : Chip → Chip) : Host.Outcome State Fault Refusal :=
  act s (fun c => if c.mode = .reset ∨ c.clk.gated then c else f c)

/-- An event of Rind: nothing happens while its logic is held in reset, or has no clock (R490, R513). -/
def island (s : State) (f : Chip → Chip) : Host.Outcome State Fault Refusal :=
  act s (fun c => if c.clk.rindReset ∨ c.clk.soscStopped then c else f c)

/-- HOST_WATCHDOG_EXPIRY (R76): a running watchdog expires and stops; the fall-back follows in the same step. -/
def watchdogExpiry (c : Chip) : Chip :=
  if c.ms.hwdRunning then
    (modMs (fun s => { s with hwdRunning := false }) ((c.raise F.DEV_HWD_EXPIRED).evHwdExp)).notice .watchdog
  else c

/-! ### The SS1 stop (R508) -/

/-- Whether an SS1 stop runs. -/
def ss1Running (c : Chip) : Bool := c.mode == .safestop && c.is F.SAF_STAT_SS1RUN && !c.is F.DEV_MODE_HOLD

/-- The monitors that are enabled. -/
def enabledMons (c : Chip) : List Nat := (List.range 2).filter (monOn c)

/-- Whether the stop is monitored by speed: SS1_R with a monitor enabled. -/
def ss1Ramped (c : Chip) : Bool := c.pf F.SIN_RSTOP_SS1MODE == 1 && !(enabledMons c).isEmpty

/-- Whether monitor m exceeds its envelope, t milliseconds into the stop. -/
def beyondEnvelope (c : Chip) (m t : Nat) : Bool :=
  let q := rindMon c m
  let floor : Rat := absRat q.v0 - ((c.pf F.SIN_RSTOP_RDEC * t : Nat) : Rat) / 1000
  decide ((if floor < 0 then 0 else floor) + ((10 * c.pf F.SIN_RSTOP_RTOL : Nat) : Rat) < absRat q.speed)

/-- SS1_EVALUATION: standstill of every enabled monitor for 10 ms ends the stop; three evaluations beyond the envelope are the demand SS1RAMP. -/
def ss1Evaluation (c : Chip) : Chip :=
  if !ss1Running c || !ss1Ramped c then c else
  let t := c.rind.ss1Ticks + 1
  let still := (enabledMons c).all (fun m => decide (absRat (rindMon c m).speed < ((c.pf F.SIN_RSTOP_SSTILL : Nat) : Rat)))
  let c := modRind (fun r => { r with ss1Ticks := t, stillTicks := if still then r.stillTicks + 1 else 0 }) c
  let c := c.forEach (enabledMons c) (fun (m : Nat) (d : Chip) =>
    modMon m (fun q => { q with rampRun := if beyondEnvelope c m t then q.rampRun + 1 else 0 }) d)
  if 10 ≤ c.rind.stillTicks then endStop c
  else if (enabledMons c).any (fun m => decide (3 ≤ (rindMon c m).rampRun)) then endStop (demand 11 .sto c)
  else c

/-- SS1_TIMEOUT: SS1T has passed. -/
def ss1Timeout (c : Chip) : Chip := if ss1Running c then (endStop c).raise F.SAF_STAT_SS1EXP else c

/-! ### The trace port (R681, R682) -/

/-- The packet that tells how many were dropped. -/
def overflowPacket (now : Word) (lost : Nat) : Packet := ⟨4, 0, 0, 0, now.toNat % 2 ^ 24, BitVec.ofNat 48 (min lost (2 ^ 48 - 1))⟩

/-- TRACE_PACKET_SENT: the oldest packet leaves; with two entries free again, an OVERFLOW packet and a SYNC are queued before any other. -/
def tracePacketSent (c : Chip) : Chip :=
  if !c.wheyOn then c else
  let o := { c.obs with fifo := c.obs.fifo.drop 1 }
  if o.lost ≠ 0 ∧ o.fifo.length ≤ 62 then
    { c with obs := { o with fifo := o.fifo ++ [overflowPacket c.now o.lost, syncPacket c.now], lost := 0, lastSync := c.now } }
  else { c with obs := o }

/-- WHEY_SYNC: NWT[47:23] differs from its value in the last SYNC. -/
def wheySync (c : Chip) : Chip := if c.now.toNat / 2 ^ 23 ≠ c.obs.lastSync.toNat / 2 ^ 23 then c.queueSync else c

end Sys2Proof.Machine
end

