-- ==== Sys2Proof/Machine/ExecDrive.lean ====
section
/-! DEFINITION. The meanings of the events of analog acquisition, the PWM generator, gate-drive supervision, the engine, the axes, the converters and protection. -/

namespace Sys2Proof.Machine

/-- SET_TRIGGER (R206): A trigger is taken by a sample set, which starts a run or is dropped with OVR. -/
def execSetTrigger (slot : Fin 16) (s : State) : Host.Outcome State Fault Refusal := running s (triggerSet slot)

/-- CONVERTER_RESERVATION (R205): After DLY, a run reserves its converters in the first cycle in which they are free. -/
def execConverterReservation (slot : Fin 16) (s : State) : Host.Outcome State Fault Refusal := running s (converterReservation slot)

/-- RANK_CONVERSION_END (R205): A rank's conversions end and their results are written to the engine. -/
def execRankConversionEnd (slot : Fin 16) (raw : List Nat) (s : State) : Host.Outcome State Fault Refusal := running s (rankEndAll slot raw)

/-- SAMPLING_INSTANT (R205): The acquisition of a rank ends: its sampling instant falls, trackers with LEN latch SANG and SSPD, and REFNS is decided. -/
def execSamplingInstant (slot : Fin 16) (s : State) : Host.Outcome State Fault Refusal := running s (samplingInstant slot)

/-- RUN_COMPLETE (R205): A sample-set run completes: it releases converters, updates results and starts its program and chained sets. -/
def execRunComplete (slot : Fin 16) (s : State) : Host.Outcome State Fault Refusal := running s (completeRunTherm slot)

/-- EXCITER_TRIGGER (R207): An exciter issues its trigger at the excitation peak plus its phase delay. -/
def execExciterTrigger (u : Fin 2) (s : State) : Host.Outcome State Fault Refusal := running s (exciterTrigger u)

/-- REFERENCE_SETTLED (R193): The settling time of the reference in use ends, and REF_SETTLED becomes 1. -/
def execReferenceSettled (s : State) : Host.Outcome State Fault Refusal := running s referenceSettled

/-- REFP_MONITOR (R196): REFP leaves or re-enters its window for 16 SOSC cycles, so REFPOK changes and REFFLT or the fall-back may follow. -/
def execRefpMonitor (inside : Bool) (s : State) : Host.Outcome State Fault Refusal := running s (refpMonitor inside)

/-- CALIBRATION_TICK (R216): A PERIOD tick starts a background converter cycle in a bank. -/
def execCalibrationTick (b : Fin 2) (s : State) : Host.Outcome State Fault Refusal := running s (calibrationTick b)

/-- REFERENCE_CALIBRATION_DONE (R213): A reference calibration of a slice ends, passed or failed. -/
def execReferenceCalibrationDone (sl : Fin 18) (codes : List (BitVec 16)) (s : State) : Host.Outcome State Fault Refusal := running s (referenceCalibrationDone sl codes)

/-- PHASE_TIME_LIMIT (R218): A shadow or verify phase passes after 100 ms. -/
def execPhaseTimeLimit (b : Fin 2) (s : State) : Host.Outcome State Fault Refusal := running s (phaseTimeLimit b)

/-- SWAP (R220): In a gap, the spare takes the converter's role or hands it back. -/
def execSwap (b : Fin 2) (s : State) : Host.Outcome State Fault Refusal := running s (swapRoles b)

/-- SWAPIN_TIMEOUT (R220): No gap within 10 ms abandons SWAPIN and counts CALSKIP. -/
def execSwapinTimeout (b : Fin 2) (s : State) : Host.Outcome State Fault Refusal := running s (swapinTimeout b)

/-- COMPARATOR_CONDITION (R227): A window-comparator condition changes after its filter and acts on cut, trip and protection logic. -/
def execComparatorCondition (w : Fin 24) (uv : Nat) (s : State) : Host.Outcome State Fault Refusal := running s (compLevel w uv)

/-- COMPARATOR_SETTLED (R228): The 6,400 SOSC settling time after BOOT starts ends, and the comparators begin to act. -/
def execComparatorSettled (s : State) : Host.Outcome State Fault Refusal := running s comparatorSettled

/-- PERIOD_BOUNDARY (R237): A timebase reaches ZERO, takes a pending set at an update point, releases cuts and issues its trigger. -/
def execPeriodBoundary (g : Fin 7) (s : State) : Host.Outcome State Fault Refusal := running s (periodBoundaryAll g)

/-- MID_POINT (R238): A timebase reaches MID, issues its trigger and takes a pending set if MID is an update point. -/
def execMidPoint (g : Fin 7) (s : State) : Host.Outcome State Fault Refusal := running s (midPoint g)

/-- XC_TRIGGER (R252): An extra trigger compare reaches POS and issues its trigger. -/
def execXcTrigger (g : Fin 6) (n : Fin 4) (s : State) : Host.Outcome State Fault Refusal := running s (xcTrigger g n)

/-- BOOTSTRAP_REFRESH_DUE (R260): The refresh monitor reaches BSMAX, so a refresh is inserted at once or at the next boundary. -/
def execBootstrapRefreshDue (leg : Fin 20) (s : State) : Host.Outcome State Fault Refusal := running s (bootstrapRefreshDue leg)

/-- DELAY_LINE_MEASUREMENT (R261): A replica-line measurement sets the tap scale, DLOK or DLFAIL. -/
def execDelayLineMeasurement (g : Fin 7) (taps : Nat) (s : State) : Host.Outcome State Fault Refusal := running s (delayLineMeasurement g taps)

/-- DELAY_UPDATE (R254): A new delay value takes effect once the output is off with no edge in its delay line. -/
def execDelayUpdate (leg : Fin 20) (high : Bool) (s : State) : Host.Outcome State Fault Refusal := running s (delayUpdate leg high)

/-- INTERLOCK_FAULT (R255): An interlock interval outlasts the live period or 100 µs, and the group enters its fault state. -/
def execInterlockFault (g : Fin 7) (s : State) : Host.Outcome State Fault Refusal := running s (interlockFault g)

/-- INITIAL_LOAD (R273): DRVWAIT after DRVEN rises, frames carry every present code. -/
def execInitialLoad (g : Fin 7) (s : State) : Host.Outcome State Fault Refusal := running s (initialLoad g)

/-- STRENGTH_FRAME_SENT (R276): A strength frame ends on the line, SEQ increments and the next queued frame follows. -/
def execStrengthFrameSent (g : Fin 7) (s : State) : Host.Outcome State Fault Refusal := running s (strengthFrameSent g)

/-- CODE_LATCH (R277): A code takes effect in the driver 40 ns after its frame ends, and CUR and LOADED update. -/
def execCodeLatch (g : Fin 7) (s : State) : Host.Outcome State Fault Refusal := running s (codeLatch g)

/-- REFRESH_FRAME (R276): With an empty queue, a refresh frame is sent every REFINT × 10 µs. -/
def execRefreshFrame (g : Fin 7) (s : State) : Host.Outcome State Fault Refusal := running s (refreshFrame g)

/-- EDGE_SENSE_PULSE (R281): An edge-sense pulse is attributed and measured, and adaptation or learning may step the code. -/
def execEdgeSensePulse (leg : Fin 20) (level : Bool) (fine : Fin 64) (s : State) : Host.Outcome State Fault Refusal := running s (edgeSensePulse leg level fine)

/-- DSAT_ASSERTION (R289): A filtered DSAT assertion sets DSAT_EARLY in blanking, counts DSIDLE, or is a desaturation fault. -/
def execDsatAssertion (leg : Fin 20) (level : Bool) (s : State) : Host.Outcome State Fault Refusal := running s (dsatLevel leg level)

/-- BLANKING_END (R289): Blanking ends, and a DSAT still asserted becomes a fault or counts as noise. -/
def execBlankingEnd (leg : Fin 20) (high : Bool) (s : State) : Host.Outcome State Fault Refusal := running s (blankingEnd leg high)

/-- OVERDUE_FAULT (R290): EDG stays high for TOVD while one switch is on, and a switch fault occurs. -/
def execOverdueFault (leg : Fin 20) (s : State) : Host.Outcome State Fault Refusal := running s (overdueFault leg)

/-- SOFT_FORCE_OFF (R291): The soft force-off instant arrives 80 ns after a fault, and the faulted switch is forced off. -/
def execSoftForceOff (leg : Fin 20) (high : Bool) (s : State) : Host.Outcome State Fault Refusal := running s (softForceOff leg high)

/-- BREAK_END (R278): A break is released 40 ns after the last soft force-off, and the aborted frame is resent. -/
def execBreakEnd (g : Fin 7) (s : State) : Host.Outcome State Fault Refusal := running s (breakEnd g)

/-- FAULT_LATCH_CLEAR (R292): The first command edge after a fault latch is set clears it. -/
def execFaultLatchClear (leg : Fin 20) (high : Bool) (s : State) : Host.Outcome State Fault Refusal := running s (faultLatchClear leg high)

/-- DRVEN_CLEAR_PULSE_END (R297): The 10 µs low pulse of DRVEN after a successful clear ends. -/
def execDrvenClearPulseEnd (g : Fin 7) (s : State) : Host.Outcome State Fault Refusal := running s (drvenClearPulseEnd g)

/-- LEARNING_TIMEOUT (R285): LTMO passes without convergence, and the remaining kinds fail. -/
def execLearningTimeout (leg : Fin 20) (kind : Fin 4) (s : State) : Host.Outcome State Fault Refusal := running s (learningTimeout leg kind)

/-- COMMAND_EDGE (R253): A switch command changes at stage 1 when a window position ON or OFF is reached, or when a bootstrap refresh time r ends. -/
def execCommandEdge (leg : Fin 20) (pos : BitVec 30) (s : State) : Host.Outcome State Fault Refusal := running s (commandEdge leg pos.toNat)

/-- EDGE_LAUNCH (R280): A delayed command edge reaches the output of stage 6: the output changes, blanking or an interlock interval starts, and the edge becomes a launch instant. -/
def execEdgeLaunch (leg : Fin 20) (high on : Bool) (s : State) : Host.Outcome State Fault Refusal := running s (edgeLaunch leg high on)

/-- PROGRAM_START (R322): A start reaches a program, which is queued or dropped with OVRUN. -/
def execProgramStart (p : Fin 64) (s : State) : Host.Outcome State Fault Refusal := running s (startProgram p)

/-- PROGRAM_RESET (R325): A requested program reset takes effect once the program is neither running nor queued, zeroing block state and resetting stage exponents. -/
def execProgramReset (p : Fin 64) (s : State) : Host.Outcome State Fault Refusal := running s (programReset p)

/-- RUN_BEGIN (R323): An idle lane takes its highest-priority queued program, and adaptive stages rescale. -/
def execRunBegin (j : Fin 8) (s : State) : Host.Outcome State Fault Refusal := running s (runBegin j)

/-- RUN_END (R320): A program run ends: SEQ updates, its chain starts, and the axis sequencer reads the monitor words. -/
def execRunEnd (j : Fin 8) (waits : Nat) (s : State) : Host.Outcome State Fault Refusal := running s (runEndAll j waits)

/-- MIGRATION_COPY_DONE (R332): The copy of a migrating lane's memory completes, and PHASE becomes SWITCH. -/
def execMigrationCopyDone (s : State) : Host.Outcome State Fault Refusal := running s migrationCopyDone

/-- SWITCH_INSTANT (R333): A free lane cycle in SWITCH remaps the logical lane to the spare. -/
def execSwitchInstant (s : State) : Host.Outcome State Fault Refusal := running s switchInstant

/-- MIGRATION_TIMEOUT (R334): No switch instant within 10 ms abandons the migration. -/
def execMigrationTimeout (s : State) : Host.Outcome State Fault Refusal := running s migrationAbandoned

/-- LANE_TEST_DONE (R669): An operation-time lane test ends, and the lane becomes SPARE or RETIRED. -/
def execLaneTestDone (pass valid : Bool) (s : State) : Host.Outcome State Fault Refusal := running s (laneTestDone pass valid)

/-- BIST_SCHEDULER_TICK (R668): PERIOD after the last lane test, the scheduler requests migration of the next lane. -/
def execBistSchedulerTick (s : State) : Host.Outcome State Fault Refusal := running s schedulerTick

/-- PULSE_METER_EDGE (R372): A rising edge on PSET0 or PSET1 makes the pulse meter measure high time and period and form its code and validity. -/
def execPulseMeterEdge (u : Fin 2) (high period : Nat) (s : State) : Host.Outcome State Fault Refusal := running s (pulseEdge u high period)

/-- SEQUENCER_TICK (R386): The 10 µs sequencer tick refreshes MEAS, SPE and PLIM and advances the sequencer timers. -/
def execSequencerTick (s : State) : Host.Outcome State Fault Refusal := running s axesTick

/-- LADDER_TICK (R401): A ladder tick selects a pattern and stages and commits the Kerf origin and selection. -/
def execLadderTick (a : Fin 4) (s : State) : Host.Outcome State Fault Refusal := running s (ladderTick a)

/-- CATCH_DETECT_END (R407): The CDET detect time ends, and the axis goes to ALIGN, lock or RUN, or takes a KEMF fault. -/
def execCatchDetectEnd (a : Fin 4) (s : State) : Host.Outcome State Fault Refusal := running s (catchDetectEnd a)

/-- CATCH_LOCK_TIMEOUT (R407): Lock not complete within CLCK gives an axis fault with cause CATCH. -/
def execCatchLockTimeout (a : Fin 4) (s : State) : Host.Outcome State Fault Refusal := running s (catchLockTimeout a)

/-- ALIGN_TIMEOUT (R410): With START NONE, no valid tracker within 10 ms gives an axis fault with cause ALIGN. -/
def execAlignTimeout (a : Fin 4) (s : State) : Host.Outcome State Fault Refusal := running s (alignTimeout a)

/-- DC_ALIGN_END (R411): DC alignment holds for DCT, and the tracker is set to 0. -/
def execDcAlignEnd (a : Fin 4) (s : State) : Host.Outcome State Fault Refusal := running s (dcAlignEnd a)

/-- HFI_END (R412): Injection runs for HFIT, and the polarity pulses start. -/
def execHfiEnd (a : Fin 4) (s : State) : Host.Outcome State Fault Refusal := running s (hfiEnd a)

/-- POLARITY_PULSE_END (R413): A polarity pulse pair ends and the polarity is confirmed, flipped, retried or faulted. -/
def execPolarityPulseEnd (a : Fin 4) (s : State) : Host.Outcome State Fault Refusal := running s (polarityPulseEnd a)

/-- POLARITY_FLIP (R414): The ANGINT state is flipped by half a turn in a lane cycle when the program is idle. -/
def execPolarityFlip (a : Fin 4) (s : State) : Host.Outcome State Fault Refusal := running s (polarityFlip a)

/-- MAGN_END (R410): Magnetising for MAGT × 4 ms ends, and the axis enters RUN. -/
def execMagnEnd (a : Fin 4) (s : State) : Host.Outcome State Fault Refusal := running s (magnEnd a)

/-- OBSERVER_PRESET (R416): The sequencer writes observer lane words while the program is idle. -/
def execObserverPreset (a : Fin 4) (s : State) : Host.Outcome State Fault Refusal := running s (observerPreset a)

/-- SECTOR_CHANGE (R404): A BLOCK120 sector change stages and commits all legs and optionally restarts the carrier. -/
def execSectorChange (a : Fin 4) (s : State) : Host.Outcome State Fault Refusal := running s (sectorChange a)

/-- KEMF_EVALUATION (R422): Every 10 ms the back-EMF ratio is evaluated for warning and fault. -/
def execKemfEvaluation (a : Fin 4) (s : State) : Host.Outcome State Fault Refusal := running s (kemfEvaluation a)

/-- ID_TEST_END (R424): A parameter-identification test time ends, and RS, LD or LQ are computed. -/
def execIdTestEnd (a : Fin 4) (s : State) : Host.Outcome State Fault Refusal := running s (idTestEnd a)

/-- STOP_COMPLETE (R418): An axis in STOPPING stays below STOPSPD for 10 ms and goes to OFF. -/
def execStopComplete (a : Fin 4) (s : State) : Host.Outcome State Fault Refusal := running s (motorStopComplete a)

/-- STOP_TIMEOUT (R418): STOPTMO passes in STOPPING, and the axis goes to OFF with STOPTO. -/
def execStopTimeout (a : Fin 4) (s : State) : Host.Outcome State Fault Refusal := running s (motorStopTimeout a)

/-- GSYNC_STEADY (R437): The grid holds steady for SYNCT, and the AFE arms its restart. -/
def execGsyncSteady (a : Fin 4) (s : State) : Host.Outcome State Fault Refusal := running s (gsyncSteady a)

/-- GSYNC_TIMEOUT (R437): SYNCTMO passes in GSYNC, giving an axis fault with CCAUSE GRIDSYNC. -/
def execGsyncTimeout (a : Fin 4) (s : State) : Host.Outcome State Fault Refusal := running s (gsyncTimeout a)

/-- ARM_TIMEOUT (R439): No restart within 10 ms of the target gives an axis fault with CCAUSE ARMTO. -/
def execArmTimeout (a : Fin 4) (s : State) : Host.Outcome State Fault Refusal := running s (armTimeout a)

/-- BUDGET_TICK (R445): Every 10 µs the budget limit ramps and BUDGET_OVER is re-evaluated. -/
def execBudgetTick (s : State) : Host.Outcome State Fault Refusal := running s budgetTick

/-- BUDGET_DEADLINE (R445): The cut deadline is reached with use still over the grant, and BUDFLT is set. -/
def execBudgetDeadline (s : State) : Host.Outcome State Fault Refusal := running s budgetDeadline

/-- LEASE_EXPIRY (R444): A bus grant older than BTMO is replaced by BFALL, and LEASE is set. -/
def execLeaseExpiry (s : State) : Host.Outcome State Fault Refusal := running s leaseExpiry

/-- CONVERTER_STOP_COMPLETE (R448): |P| stays at or below PSTOP for 1 ms, and the converter axis goes to OFF. -/
def execConverterStopComplete (a : Fin 4) (s : State) : Host.Outcome State Fault Refusal := running s (converterStopComplete a)

/-- CONVERTER_STOP_TIMEOUT (R448): STOPTMO passes in RAMPDN, and the axis goes to OFF with STOPTO. -/
def execConverterStopTimeout (a : Fin 4) (s : State) : Host.Outcome State Fault Refusal := running s (converterStopTimeout a)

/-- VLOST_TIMEOUT (R459): No DC-link sample for VTMO raises cause VLOST. -/
def execVlostTimeout (s : State) : Host.Outcome State Fault Refusal := running s vlostTimeout

/-- PRECHARGE_TIMEOUT (R464): PCTMAX passes without the envelope met, raising cause PRECH and entering STANDBY. -/
def execPrechargeTimeout (s : State) : Host.Outcome State Fault Refusal := running s prechargeTimeout

/-- CHNOI_CHECK (R466): 5 µs after a chopper turn-on, no comparator current fails the chopper. -/
def execChnoiCheck (s : State) : Host.Outcome State Fault Refusal := running s chnoiCheck

/-- ASC_TIMEOUT (R472): ASCTMAX passes with the tracker invalid, and the ASC changes to FREEWHEEL. -/
def execAscTimeout (a : Fin 4) (s : State) : Host.Outcome State Fault Refusal := running s (ascTimeout a)

/-- DISCHARGE_TIMEOUT (R475): DTMO passes in DISCHARGE, raising DISCH_TMO and entering STANDBY. -/
def execDischargeTimeout (s : State) : Host.Outcome State Fault Refusal := running s dischargeTimeout

end Sys2Proof.Machine
end

