-- ==== Sys2Proof/Machine/ExecHost.lean ====
section
/-! DEFINITION. The meanings of the host's requests on the Tenon link and of the host writes that the table names by their word: each over the operations of HostLink, HostOps and Operands. -/

namespace Sys2Proof.Machine

/-- WORD_LOCK (R46): The receiver reaches word lock after eight consecutive IDLE words at one slot boundary. -/
def execWordLock (s : State) : Host.Outcome State Fault Refusal := quiet s wordLock

/-- FRAMING_ERROR (R47): The slot after a request's CRC word is not IDLE: the request is executed if its CRC is good, FRAMERR counts, and word lock is dropped. -/
def execFramingError (op : BitVec 8) (q : Req) (bad : Option (BitVec 32)) (s : State) : Host.Outcome State Fault Refusal := act s (framingError op.toNat q bad)

/-- BAD_CRC (R55): A request whose CRC fails gets one BAD_CRC reply, and slots are discarded until two IDLE words have been seen. -/
def execBadCrc (op : BitVec 8) (q : Req) (computed : BitVec 32) (s : State) : Host.Outcome State Fault Refusal := quiet s (badCrc op.toNat q computed)

/-- BAD_OPCODE (R60): A request with an unassigned opcode is answered with BAD_OPCODE. -/
def execBadOpcode (op : BitVec 8) (q : Req) (s : State) : Host.Outcome State Fault Refusal := act s (receiveAny op.toNat q)

/-- LINK_OVR (R58): A ninth outstanding request is discarded without a reply, OVERRUN counts and the link-overrun event is set. -/
def execLinkOvr (s : State) : Host.Outcome State Fault Refusal := quiet s linkOverrun

/-- PING (R59): PING returns the status word and DEV.IDENT. -/
def execPing (q : Req) (s : State) : Host.Outcome State Fault Refusal := quiet s (receive 0x01 ping q)

/-- READ (R59): READ returns one word, or BAD_ADDRESS; RC fields clear and two-word latches are set under R15. -/
def execRead (q : Req) (s : State) : Host.Outcome State Fault Refusal := quiet s (receive 0x02 readOp q)

/-- WRITE (R17): WRITE changes the writable fields of one word, or refuses the whole write with the status of R17. -/
def execWrite (q : Req) (s : State) : Host.Outcome State Fault Refusal := act s (receive 0x03 writeOp q)

/-- REGISTER_WRITE (R17): A host write, by WRITE, WRITE_BLOCK or MASKED_WRITE, to a word with no behaviour of its own updates its writable fields under the access codes. -/
def execRegisterWrite (addr : BitVec 24) (mask value : Word) (s : State) : Host.Outcome State Fault Refusal := act s (hostWrite addr.toNat mask value)

/-- READ_BLOCK (R62): READ_BLOCK checks every word of a block in one region and returns 1 to 255 consecutive words. -/
def execReadBlock (q : Req) (s : State) : Host.Outcome State Fault Refusal := quiet s (receive 0x04 readBlock q)

/-- WRITE_BLOCK (R62): WRITE_BLOCK checks every word of a block, then writes all of them in one SCLK cycle. -/
def execWriteBlock (q : Req) (s : State) : Host.Outcome State Fault Refusal := act s (receive 0x05 writeBlock q)

/-- MASKED_WRITE (R63): MASKED_WRITE sets the masked bits of a word in one read-modify-write SCLK cycle. -/
def execMaskedWrite (q : Req) (s : State) : Host.Outcome State Fault Refusal := act s (receive 0x06 maskedWrite q)

/-- COMMIT (R244): COMMIT to a listed commit word makes the staged words of a group, or of a Kerf table, pending. -/
def execCommit (q : Req) (s : State) : Host.Outcome State Fault Refusal := act s (receive 0x08 commitOp q)

/-- MODE_REQUEST (R29): A mode request is judged against the transition table and either carried out, started as a controlled stop, or refused with a reason. -/
def execModeRequest (q : Req) (s : State) : Host.Outcome State Fault Refusal := act s (receiveC 0x10 modeRequest q)

/-- MODE_STATUS (R59): MODE_STATUS returns DEV.MODE and DEV.AXST. -/
def execModeStatus (q : Req) (s : State) : Host.Outcome State Fault Refusal := quiet s (receive 0x11 modeStatus q)

/-- SETPOINT (R64): SETPOINT writes the set-point words of the masked axes in one cycle and restarts the host watchdog. -/
def execSetpoint (q : Req) (s : State) : Host.Outcome State Fault Refusal := act s (receive 0x12 setpointOp q)

/-- EVENT_READ_CLEAR (R65): EVENT_READ_CLEAR returns an event word and clears the bits named in the clear mask. -/
def execEventReadClear (q : Req) (s : State) : Host.Outcome State Fault Refusal := act s (receive 0x18 eventReadClear q)

/-- STORE_SAVE (R654): STORE_SAVE writes a configuration image, a USER record or the staged patch to the store. -/
def execStoreSave (q : Req) (s : State) : Host.Outcome State Fault Refusal := act s (receiveC 0x20 storeSave q)

/-- STORE_RESTORE (R656): STORE_RESTORE in CONFIG starts the restore of a valid configuration image. -/
def execStoreRestore (q : Req) (s : State) : Host.Outcome State Fault Refusal := act s (receiveC 0x21 storeRestore q)

/-- STORE_ERASE (R654): STORE_ERASE zeroes the commit words of the named records. -/
def execStoreErase (q : Req) (s : State) : Host.Outcome State Fault Refusal := act s (receiveC 0x22 storeErase q)

/-- SEAL_OPEN (R99): SEAL_OPEN judges a credential for the safety or metrology seal, opens the seal or counts a failure, and appends a change-log entry. -/
def execSealOpen (q : Req) (s : State) : Host.Outcome State Fault Refusal := act s (receiveC 0x30 sealOpenOp q)

/-- SEAL_CLOSE (R100): SEAL_CLOSE closes an open seal, commits or discards its staged values, and appends the close entry. -/
def execSealClose (q : Req) (s : State) : Host.Outcome State Fault Refusal := act s (receiveC 0x31 sealCloseOp q)

/-- SAFE_PARAM_CONFIRM (R551): SAFE_PARAM_CONFIRM checks the staged safety set, writes it as a SAFE record, hands it to Rind and closes the seal. -/
def execSafeParamConfirm (q : Req) (s : State) : Host.Outcome State Fault Refusal := act s (receiveC 0x32 safeConfirm q)

/-- METER_READ (R633): METER_READ returns the energy registers, the means, the session and status words, and the NWT of their sample boundary. -/
def execMeterRead (q : Req) (s : State) : Host.Outcome State Fault Refusal := act s (receiveC 0x38 meterRead q)

/-- METER_SESSION_OPEN (R627): METER_SESSION OPEN takes the open values at the next sample boundary, commits the opening checkpoint and increments SESSNO. -/
def execMeterSessionOpen (q : Req) (s : State) : Host.Outcome State Fault Refusal := act s (receiveC 0x39 meterSession q)

/-- METER_SESSION_CLOSE (R628): METER_SESSION CLOSE starts closing an open session with end reason HOST. -/
def execMeterSessionClose (q : Req) (s : State) : Host.Outcome State Fault Refusal := act s (receiveC 0x39 meterSession q)

/-- METER_SESSION_QUERY (R628): METER_SESSION QUERY returns the session word. -/
def execMeterSessionQuery (q : Req) (s : State) : Host.Outcome State Fault Refusal := act s (receiveC 0x39 meterSession q)

/-- METER_RECORD (R632): METER_RECORD returns the signed record of a held session. -/
def execMeterRecord (q : Req) (s : State) : Host.Outcome State Fault Refusal := act s (receiveC 0x3A meterRecord q)

/-- BIST_RUN_LANE (R670): BIST_RUN LANE migrates a logical lane and tests its source lane. -/
def execBistRunLane (q : Req) (s : State) : Host.Outcome State Fault Refusal := act s (receiveC 0x40 bistRun q)

/-- BIST_RUN_SCRUB (R670): BIST_RUN SCRUB starts reading every store word and rewriting every corrected word. -/
def execBistRunScrub (q : Req) (s : State) : Host.Outcome State Fault Refusal := act s (receiveC 0x40 bistRun q)

/-- FUSE_ALL (R672): REPAIR_APPLY FUSE_ALL starts fusing every repair record held. -/
def execFuseAll (q : Req) (s : State) : Host.Outcome State Fault Refusal := act s (receiveC 0x41 repairApply q)

/-- FUSE_ONE (R672): REPAIR_APPLY FUSE_ONE starts fusing the repair record of one slot. -/
def execFuseOne (q : Req) (s : State) : Host.Outcome State Fault Refusal := act s (receiveC 0x41 repairApply q)

/-- TIME_SET (R149): TIME_SET steps NWT and FWT to a new value in CONFIG and returns the previous NWT. -/
def execTimeSet (q : Req) (s : State) : Host.Outcome State Fault Refusal := act s (receiveC 0x50 timeSetOp q)

/-- TIME_ADJUST_STEP (R150): TIME_ADJUST STEP adds a signed offset to NWT at once. -/
def execTimeAdjustStep (q : Req) (s : State) : Host.Outcome State Fault Refusal := act s (receiveC 0x51 timeAdjust q)

/-- TIME_ADJUST_SLEW (R150): TIME_ADJUST SLEW starts adding a signed offset to NWT at the rate limit FSLEW. -/
def execTimeAdjustSlew (q : Req) (s : State) : Host.Outcome State Fault Refusal := act s (receiveC 0x51 timeAdjust q)

/-- TIME_ADJUST_RATE (R150): TIME_ADJUST RATE writes the rate correction, clamped, except in SLAVE. -/
def execTimeAdjustRate (q : Req) (s : State) : Host.Outcome State Fault Refusal := act s (receiveC 0x51 timeAdjust q)

/-- BUS_SEND (R595): BUS_SEND checks a frame and loads it into a transmit buffer as PENDING. -/
def execBusSend (q : Req) (s : State) : Host.Outcome State Fault Refusal := act s (receiveC 0x60 busSend q)

/-- BUS_RECEIVE (R602): BUS_RECEIVE returns the oldest FULL FIFO entry and marks it HELD. -/
def execBusReceive (q : Req) (s : State) : Host.Outcome State Fault Refusal := act s (receiveC 0x61 busReceive q)

/-- BUS_ACK (R603): BUS_ACK returns a FULL or HELD FIFO entry to FREE. -/
def execBusAck (q : Req) (s : State) : Host.Outcome State Fault Refusal := act s (receiveC 0x62 busAck q)

/-- PATCH_LOAD (R659): PATCH_LOAD writes payload words into the patch staging memory. -/
def execPatchLoad (q : Req) (s : State) : Host.Outcome State Fault Refusal := act s (receiveC 0x70 patchLoad q)

/-- RESET (R66): The RESET opcode checks its confirmation word and sends the OK reply in full. -/
def execResetOp (q : Req) (s : State) : Host.Outcome State Fault Refusal := act s (receiveC 0x7F resetOp q)

/-- RESET_AFTER_REPLY (R66): Within 10 µs of the reply to an accepted RESET, the device resets as for HRST_N, with CAUSE RESET_OTHER. -/
def execResetAfterReply (s : State) : Host.Outcome State Fault Refusal := act s resetAfterReply

/-- SWSET (R97): Writing DEV.HRQ[SWSET] sets DEV.EVT0[SWEV]. -/
def execSwset (value : Word) (s : State) : Host.Outcome State Fault Refusal := act s (hostWriteWord 0x18 value)

/-- CFGCHK_RUN (R107): Writing DEV.CFGCHK[RUN] in CONFIG starts a configuration check. -/
def execCfgchkRun (value : Word) (s : State) : Host.Outcome State Fault Refusal := act s (hostWriteWord 0x1B value)

/-- CLK_CFG_WRITE (R118): A host write to CLK.CFG is refused when its REFSEL is not usable, and otherwise can start a switch of REFCLK. -/
def execClkCfgWrite (value : Word) (s : State) : Host.Outcome State Fault Refusal := act s (hostWriteWord 0x10000 value)

/-- ADC_CFG_WRITE (R197): A host write to ADC.CFG is refused for EXTERNAL with REFPOK = 0, and otherwise changes the reference source at once. -/
def execAdcCfgWrite (value : Word) (s : State) : Host.Outcome State Fault Refusal := act s (hostWriteWord 0x40000 value)

/-- ADC_SWTRG (R203): Writing ADC.SWTRG issues a trigger to each named sample set. -/
def execAdcSwtrg (value : Word) (s : State) : Host.Outcome State Fault Refusal := act s (hostWriteWord 0x40002 value)

/-- XCOMMIT (R248): Writing PWM.XCOMMIT commits every group in GMASK in one SCLK cycle. -/
def execXcommit (value : Word) (s : State) : Host.Outcome State Fault Refusal := act s (hostWriteWord 0x50300 value)

/-- GDS_CLR (R297): Writing GDS.Gg.CLR[CLR] clears a group fault state if its conditions hold, or sets CLRREF. -/
def execGdsClr (g : Fin 7) (s : State) : Host.Outcome State Fault Refusal := act s (hostWriteWord (0x60004 + 0x10 * g) 1)

/-- RELOAD (R284): Writing GDS.Gg.CLR[RELOAD] sets every CODE to SCODE, clears ACC and queues frames while DRVEN is high. -/
def execReload (g : Fin 7) (s : State) : Host.Outcome State Fault Refusal := act s (hostWriteWord (0x60004 + 0x10 * g) 2)

/-- ZEN_SWTRG (R321): Writing ZEN.SWTRG0 or ZEN.SWTRG1 starts the named programs. -/
def execZenSwtrg (hi : Bool) (value : Word) (s : State) : Host.Outcome State Fault Refusal := act s (hostWriteWord (if hi then 0x70005 else 0x70004) value)

/-- PGRST (R325): Writing ZEN.PGRST0 or ZEN.PGRST1 requests a reset of the named programs. -/
def execPgrst (hi : Bool) (value : Word) (s : State) : Host.Outcome State Fault Refusal := act s (hostWriteWord (if hi then 0x70007 else 0x70006) value)

/-- MIG_REQ (R332): Writing ZEN.MIG[REQ] requests migration of a logical lane to the spare, or sets MIGREF. -/
def execMigReq (value : Word) (s : State) : Host.Outcome State Fault Refusal := act s (hostWriteWord 0x70002 value)

/-- MOT_CLR (R421): Writing MOT.An.CLR[CLR] clears the axis fault if its conditions hold, or sets CLRREF. -/
def execMotClr (a : Fin 4) (value : Word) (s : State) : Host.Outcome State Fault Refusal := act s (hostWriteWord (0x90008 + 0x40 * a) value)

/-- SMP_WRITE (R398): Writing MOT.An.SMP makes the sequencer place the extra compare for the sampling instant. -/
def execSmpWrite (a : Fin 4) (value : Word) (s : State) : Host.Outcome State Fault Refusal := act s (hostWriteWord (0x90013 + 0x40 * a) value)

/-- THM_EXCL_WRITE (R564): Writing 1 to a bit of THM.EXCL returns an excluded sensor to use from the next check. -/
def execThmExclWrite (value : Word) (s : State) : Host.Outcome State Fault Refusal := act s (hostWriteWord 0xE0003 value)

/-- SRST (R533): Writing SIN.SRST issues a reset event to the named safety functions. -/
def execSrst (value : Word) (s : State) : Host.Outcome State Fault Refusal := act s (hostWriteWord 0xD0003 value)

/-- RACK (R511): Writing SIN.RACK[ACK] clears the Rind demands whose conditions have been absent for 100 ms, and clears MISMATCH. -/
def execRack (value : Word) (s : State) : Host.Outcome State Fault Refusal := act s (hostWriteWord 0xD0140 value)

/-- PWCTL_STG (R550): Writing SIN.PWCTL with STG = 1 stages a password change or removal. -/
def execPwctlStg (value : Word) (s : State) : Host.Outcome State Fault Refusal := act s (hostWriteWord 0xD0006 value)

/-- SIN_LOGSEL (R553): Writing SIN.LOGSEL selects the safety change-log entry shown in SIN.LOGE0 to SIN.LOGE3. -/
def execSinLogsel (value : Word) (s : State) : Host.Outcome State Fault Refusal := act s (hostWriteWord 0xD0008 value)

/-- MTR_LOGSEL (R637): Writing MTR.LOGSEL selects the metrology change-log entry shown in MTR.LOGE0 to MTR.LOGE5. -/
def execMtrLogsel (value : Word) (s : State) : Host.Outcome State Fault Refusal := act s (hostWriteWord 0x100021 value)

/-- UFIND (R657): Writing NVS.UFIND makes NVS.ULOC describe the USER record with that key. -/
def execUfind (value : Word) (s : State) : Host.Outcome State Fault Refusal := act s (hostWriteWord 0x110003 value)

/-- BST_RSEL (R676): Writing BST.RSEL selects the repair slot shown in BST.RENT and BST.RTIME. -/
def execBstRsel (value : Word) (s : State) : Host.Outcome State Fault Refusal := act s (hostWriteWord 0x120005 value)

/-- SNAP (R687): Writing OBS.CCTL[SNAP] copies all 64 counts to the snapshot words in one cycle. -/
def execSnap (value : Word) (s : State) : Host.Outcome State Fault Refusal := act s (hostWriteWord 0x130002 value)

/-- CLRL (R687): Writing OBS.CCTL[CLRL] clears counters 0 to 31. -/
def execClrl (value : Word) (s : State) : Host.Outcome State Fault Refusal := act s (hostWriteWord 0x130002 value)

/-- CLRH (R687): Writing OBS.CSEL0[CLRH] or OBS.CSEL1[CLRH] clears counters 32 to 63. -/
def execClrh (hi : Bool) (value : Word) (s : State) : Host.Outcome State Fault Refusal := act s (hostWriteWord (if hi then 0x130141 else 0x130140) value)

/-- ABORT (R596): Writing PUc.TXCTL[ABORT] aborts a transmit buffer. -/
def execAbort (pu : Fin 2) (value : Word) (s : State) : Host.Outcome State Fault Refusal := act s (hostWriteWord (0xF0004 + 0x100 * pu) value)

/-- MEAS_WRITE (R165): A write to ATn.MEAS is an OBSERVER or GRID measurement, or the FREE speed. -/
def execMeasWrite (n : Fin 6) (value : Word) (s : State) : Host.Outcome State Fault Refusal := act s (hostWriteWord (0x30008 + 0x20 * n) value)

/-- WIN_WRITE (R177): A write to ATn.WINw.LO or HI recomputes the window flag from the angle and the direction. -/
def execWinWrite (n : Fin 6) (w : Fin 4) (hi : Bool) (value : Word) (s : State) : Host.Outcome State Fault Refusal := act s (hostWriteWord (0x30010 + 0x20 * n + 2 * w + bit hi) value)

/-- THR_WRITE (R229): A write to ADC.CMPw.THR moves the effective threshold monotonically to the new value within 200 ns. -/
def execThrWrite (w : Fin 24) (value : Word) (s : State) : Host.Outcome State Fault Refusal := act s (hostWriteWord (0x40800 + 2 * w) value)

/-- SRCFLT_CLEAR (R171): Clearing ATn.STAT[SRCFLT] returns the tracker to its primary source if that source has measured within TMO. -/
def execSrcfltClear (n : Fin 6) (s : State) : Host.Outcome State Fault Refusal := act s (hostWrite (F.AT_STAT_SRCFLT n).addr (1#48 <<< (F.AT_STAT_SRCFLT n).lo) (1#48 <<< (F.AT_STAT_SRCFLT n).lo))

/-- DFLT_CLEAR (R482): Writing 1 to a bit of PRT.DFLT clears the protection cause if its condition has ended. -/
def execDfltClear (value : Word) (s : State) : Host.Outcome State Fault Refusal := act s (hostWriteWord 0xB000C value)

/-- CHFAIL_CLEAR (R466): Clearing CHFAIL while no fault latch of the leg is set returns the chopper to service. -/
def execChfailClear (s : State) : Host.Outcome State Fault Refusal := act s (hostWrite F.PRT_CHS_CHFAIL.addr (1#48 <<< F.PRT_CHS_CHFAIL.lo) (1#48 <<< F.PRT_CHS_CHFAIL.lo))

/-- EXPIRED_CLEAR (R77): Clearing DEV.HWD[EXPIRED] restarts the host watchdog in DRIVE or CHARGE. -/
def execExpiredClear (s : State) : Host.Outcome State Fault Refusal := act s (hostWrite F.DEV_HWD_EXPIRED.addr (1#48 <<< F.DEV_HWD_EXPIRED.lo) (1#48 <<< F.DEV_HWD_EXPIRED.lo))

/-- HGRANT_WRITE (R444): A write to CNV.HGRANT can change the grant in force. -/
def execHgrantWrite (value : Word) (s : State) : Host.Outcome State Fault Refusal := act s (hostWriteWord 0xA0002 value)

/-- ROLE_WRITE (R144): A change of NWT.CFG[ROLE] sets the servo state at once. -/
def execRoleWrite (value : Word) (s : State) : Host.Outcome State Fault Refusal := act s (hostWriteWord 0x20001 value)

end Sys2Proof.Machine
end

