-- ==== Sys2Proof/Machine/ExecSafety.lean ====
section
/-! DEFINITION. The meanings of the events of Rind, the safety inputs, the thermal unit, the Purlin buses, metrology, the store, self-test and the trace port. -/

namespace Sys2Proof.Machine

/-- STO_RELEASE (R492): Rind lets the STO toggles run, and the balls rise once the detectors see them. -/
def execStoRelease (s : State) : Host.Outcome State Fault Refusal := island s stoRelease

/-- STO_READBACK (R493): The STO readback window after an assertion passes, driving SSOA and SSOB, or fails with STORB. -/
def execStoReadback (ok : Bool) (s : State) : Host.Outcome State Fault Refusal := island s (stoReadback ok)

/-- SA_CONVERSION (R496): A Rind converter finishes a scan conversion, and a slot value or a SACAL check updates. -/
def execSaConversion (item : Fin 12) (code : BitVec 12) (s : State) : Host.Outcome State Fault Refusal := island s (saConversion item code.toNat)

/-- RCMP_DEMAND (R500): A Rind comparator passes its filter and raises demand RCMPk. -/
def execRcmpDemand (k : Fin 4) (uv : Nat) (s : State) : Host.Outcome State Fault Refusal := island s (rcmpLevel k uv)

/-- CROSS_COMPARISON_WINDOW (R501): At the end of a window, Rind compares its slot mean with the main path and may raise XCMP. -/
def execCrossComparisonWindow (k : Fin 8) (s : State) : Host.Outcome State Fault Refusal := island s (crossWindow k)

/-- TORQUE_EVALUATION (R504): Every 320 SOSC cycles a monitor estimates torque and checks angle, possibly raising TMm, ANGLE or SSCHK. -/
def execTorqueEvaluation (m : Fin 2) (hall : BitVec 3) (edgeNs : Nat) (s : State) : Host.Outcome State Fault Refusal := island s (torqueEvaluation m hall.toNat edgeNs)

/-- TREF_FRESHNESS (R505): The axis program's SEQ does not change within TRAGE, raising demand TREF. -/
def execTrefFreshness (m : Fin 2) (s : State) : Host.Outcome State Fault Refusal := island s (trefFreshness m)

/-- SS1_EVALUATION (R508): An SS1 monitor evaluation checks standstill and the ramp envelope. -/
def execSs1Evaluation (s : State) : Host.Outcome State Fault Refusal := island s ss1Evaluation

/-- SS1_TIMEOUT (R508): SS1T passes in an SS1 stop, so STO is asserted and SS1EXP set. -/
def execSs1Timeout (s : State) : Host.Outcome State Fault Refusal := island s ss1Timeout

/-- ASC_DEFERRAL_END (R509): RASCMAX passes with a deferrable demand waiting, and STO is asserted. -/
def execAscDeferralEnd (s : State) : Host.Outcome State Fault Refusal := island s ascDeferralEnd

/-- RIND_SELF_TEST_DONE (R513): The Rind self-test after power-on or a Rind reset completes and sets SELFOK, or fails. -/
def execRindSelfTestDone (fault : Option (Fin 8)) (s : State) : Host.Outcome State Fault Refusal := island s (rindSelfTestDone fault)

/-- PSETCRC_CHECK (R514): Every 10 s the CRC of the Rind set in force is recomputed. -/
def execPsetcrcCheck (ok : Bool) (s : State) : Host.Outcome State Fault Refusal := island s (psetcrcCheck ok)

/-- SCLKMON_WINDOW (R514): SCLK measured out of range for 8 windows raises internal fault SCLKMON. -/
def execSclkmonWindow (khz : Nat) (s : State) : Host.Outcome State Fault Refusal := island s (sclkmonWindow khz)

/-- PROOF_HOUR (R516): Each hour released increments PROOFH, and above 168 sets STOPROOF. -/
def execProofHour (s : State) : Host.Outcome State Fault Refusal := island s proofHour

/-- TEST_PULSE (R527): A TP output starts or ends its low pulse. -/
def execTestPulse (n : Fin 4) (low : Bool) (seen : BitVec 32) (s : State) : Host.Outcome State Fault Refusal := island s (testPulse n low seen)

/-- TP_READBACK_FAULT (R527): A TP readback differs in 4 consecutive samples, setting TPF. -/
def execTpReadbackFault (n : Fin 4) (s : State) : Host.Outcome State Fault Refusal := island s (tpReadback n)

/-- PROCESSED_LEVEL_CHANGE (R529): A safety-input channel level passes its source stage and filter. -/
def execProcessedLevelChange (f : Fin 8) (ch : Fin 4) (level : Bool) (samples : Nat) (s : State) : Host.Outcome State Fault Refusal := island s (levelHeld f ch level samples)

/-- RSTSTUCK (R540): A reset input high for more than 2 s sets RSTSTUCK. -/
def execRststuck (f : Fin 8) (s : State) : Host.Outcome State Fault Refusal := island s (rstStuck f)

/-- SAFETY_EVALUATION (R531): At each evaluation instant, every function forms PERMIT and EFFP and updates LATCH and fault latches. -/
def execSafetyEvaluation (s : State) : Host.Outcome State Fault Refusal := island s safetyEvaluation

/-- TD_CONVERSION (R558): An on-die sensor is converted every 100 µs. -/
def execTdConversion (k : Fin 12) (reading : Int) (trip : Bool) (s : State) : Host.Outcome State Fault Refusal := act s (tdConversion k reading trip)

/-- TE_NOSAMPLE (R560): An external channel takes no sample for 100 ms and becomes invalid. -/
def execTeNosample (k : Fin 12) (s : State) : Host.Outcome State Fault Refusal := act s (teNoSample k)

/-- THERMAL_EVALUATION (R566): Every 1 ms the throttle step, drive inhibit and store and charging windows are evaluated. -/
def execThermalEvaluation (s : State) : Host.Outcome State Fault Refusal := act s thermalEvaluation

/-- CROSS_CHECK (R562): Every 10 ms each sensor is compared with its neighbours and may be excluded. -/
def execCrossCheck (s : State) : Host.Outcome State Fault Refusal := act s crossCheck

/-- THERMAL_SHUTDOWN (R574): A shutdown comparator trip held 16 SOSC cycles sets the Rind latch and LATCHED. -/
def execThermalShutdown (k : Fin 12) (s : State) : Host.Outcome State Fault Refusal := act s (thermalShutdown k)

/-- BUS_INTEGRATION (R584): A started controller sees 11 recessive bits and joins bus traffic. -/
def execBusIntegration (u : Fin 2) (s : State) : Host.Outcome State Fault Refusal := running s (busIntegration u)

/-- FRAME_RECEIVED (R600): A frame received without error is filtered into the FIFO or priority buffer, consumed as time or grant, or bridged. -/
def execFrameReceived (u : Fin 2) (cw : Word) (data : List Word) (age : Nat) (s : State) : Host.Outcome State Fault Refusal := running s (frameReceived u cw data age)

/-- TRANSMISSION_END (R594): A transmit attempt ends in success, arbitration loss or error, and updates the buffer state and error counters. -/
def execTransmissionEnd (u : Fin 2) (r : TxResult) (age : Nat) (s : State) : Host.Outcome State Fault Refusal := running s (transmissionEnd u r age)

/-- COUNTED_RETRY (R594): Cellar sets a COUNTED buffer in WAIT to PENDING again, or LOST at RETRY. -/
def execCountedRetry (u : Fin 2) (b : Fin 3) (s : State) : Host.Outcome State Fault Refusal := running s (countedRetry u b)

/-- BUS_OFF_RECOVERY (R598): After 128 recovery sequences the controller returns to error-active. -/
def execBusOffRecovery (u : Fin 2) (s : State) : Host.Outcome State Fault Refusal := running s (busOffRecovery u)

/-- SYNCINT_TICK (R606): At each SYNCINT tick, the time buffer is loaded with a SYNC unless it is still busy. -/
def execSyncintTick (s : State) : Host.Outcome State Fault Refusal := running s syncintTick

/-- ERROR_FRAME (R597): A Purlin controller detects a bus error while receiving, sends an error frame and updates its receive error counter and error state. -/
def execErrorFrame (u : Fin 2) (lec : Fin 7) (dataPhase dominant : Bool) (s : State) : Host.Outcome State Fault Refusal := running s (errorFrame u lec dataPhase dominant)

/-- METER_SAMPLE (R618): A metrology sample is corrected and its energy accumulated into the registers. -/
def execMeterSample (x0 x1 x2 x3 : Int) (s : State) : Host.Outcome State Fault Refusal := running s (meterSample x0 x1 x2 x3)

/-- METER_SECOND (R620): Every second the means are formed and the redundant pair is compared. -/
def execMeterSecond (s : State) : Host.Outcome State Fault Refusal := running s meterSecond

/-- CHECKPOINT (R622): Every 60 s a metrology snapshot slot is written. -/
def execCheckpoint (s : State) : Host.Outcome State Fault Refusal := running s checkpoint

/-- POWER_FAIL_TRIP (R623): VDDM below 3.00 V for 8 SOSC cycles stops accumulation and writes a PFAIL snapshot. -/
def execPowerFailTrip (s : State) : Host.Outcome State Fault Refusal := running s powerFailTrip

/-- POWER_FAIL_RELEASE (R623): VDDM above 3.10 V for 1 ms resumes accumulation with GAP set. -/
def execPowerFailRelease (s : State) : Host.Outcome State Fault Refusal := running s powerFailRelease

/-- MODULATOR_FAULT (R621): A modulator becomes unstable or saturates for 4,000 samples, and a session may close with FAULT. -/
def execModulatorFault (m : Fin 4) (s : State) : Host.Outcome State Fault Refusal := running s (modulatorFault m)

/-- SESSION_RECORD_COMMIT (R629): A closing session's record is signed and committed, STATE becomes IDLE and events are set. -/
def execSessionRecordCommit (s : State) : Host.Outcome State Fault Refusal := running s commitSession

/-- CLOSE_COMMIT_RETRY (R629): While STWIN = 0, a closing record's commit is retried every 1 s. -/
def execCloseCommitRetry (s : State) : Host.Outcome State Fault Refusal := running s closeCommitRetry

/-- SEAL_TIMEOUT (R103): An open seal with no SL write for TIMEOUT minutes closes itself. -/
def execSealTimeout (s : State) : Host.Outcome State Fault Refusal := running s sealTimeout

/-- LOCKOUT_END (R102): A seal lockout's time runs out, and SEAL_OPEN is judged again. -/
def execLockoutEnd (mtr : Bool) (s : State) : Host.Outcome State Fault Refusal := act s (lockoutEnd mtr)

/-- STORE_OPERATION_DONE (R655): A pending host store request ends, and DEV.PDONE and PEND_DONE report its outcome. -/
def execStoreOperationDone (ok : Bool) (s : State) : Host.Outcome State Fault Refusal := running s (storeOperationDone ok)

/-- STORE_WRITE_COMPLETE (R651): A store write of any writer commits its record and frees the store for the next waiting writer. -/
def execStoreWriteComplete (ok : Bool) (s : State) : Host.Outcome State Fault Refusal := running s (storeWriteEnds ok)

/-- DEFERRED_STORE_WRITE (R671): A store write deferred by the store window is made when the window permits. -/
def execDeferredStoreWrite (s : State) : Host.Outcome State Fault Refusal := running s deferredStoreWrite

/-- SCRUB_DONE (R670): A store scrub ends, and DEV.PDONE reports the words corrected. -/
def execScrubDone (corrected unc : Nat) (s : State) : Host.Outcome State Fault Refusal := running s (scrubDone corrected unc)

/-- FUSE_DONE (R672): A fusing request ends with each record fused or FERR set. -/
def execFuseDone (good : List Bool) (s : State) : Host.Outcome State Fault Refusal := running s (fuseDone good)

/-- SELFTEST_COMPLETE (R667): A SELFTEST run ends, remaps lanes, sets UNREP and DONE, and leaves SELFTEST. -/
def execSelftestComplete (results : List (Fin 4)) (spares : List SpareUse) (invalid : Bool) (s : State) : Host.Outcome State Fault Refusal := running s (selftestComplete results spares invalid)

/-- SAFE_PARAM_CONFIRM_DONE (R551): The SAFE record of a confirmation commits or fails: Rind takes the set, the seal closes and DEV.PDONE reports the outcome. -/
def execSafeParamConfirmDone (ok : Bool) (s : State) : Host.Outcome State Fault Refusal := running s (safeConfirmDone ok)

/-- TRACE_PACKET_SENT (R679): A Whey packet leaves the port, freeing a FIFO entry so OVERFLOW and SYNC may be queued. -/
def execTracePacketSent (s : State) : Host.Outcome State Fault Refusal := quiet s tracePacketSent

/-- WHEY_SYNC (R681): NWT[47:23] moves away from the value of the last trace SYNC, and a SYNC packet is queued. -/
def execWheySync (s : State) : Host.Outcome State Fault Refusal := quiet s wheySync

end Sys2Proof.Machine
end

