-- ==== Sys2Proof/Machine/ExecTime.lean ====
section
/-! DEFINITION. The meanings of the events of reset, power, clocks, network time, angle trackers and Kerf tables. -/

namespace Sys2Proof.Machine

/-- POWER_ON (R126): Power-on makes a FULL reset, which clears the Rind latch and every Rind-held record. -/
def execPowerOn (s : State) : Host.Outcome State Fault Refusal := act s powerOn

/-- VSAFE_MONITOR (R126): VSAFE falls below its threshold and causes a MAIN+RIND reset. -/
def execVsafeMonitor (low : Bool) (s : State) : Host.Outcome State Fault Refusal := act s (vsafeMonitor low)

/-- VCORE_MONITOR (R126): VCORE falls below its threshold and causes a MAIN reset. -/
def execVcoreMonitor (low : Bool) (s : State) : Host.Outcome State Fault Refusal := act s (vcoreMonitor low)

/-- PORST_N (R126): PORST_N held low for 16 SOSC cycles causes a MAIN+RIND reset. -/
def execPorstN (low : Bool) (s : State) : Host.Outcome State Fault Refusal := act s (levelSource 3 low)

/-- HRST_N (R126): HRST_N or TEST_N held low for 4 SOSC cycles causes a MAIN reset. -/
def execHrstN (low : Bool) (s : State) : Host.Outcome State Fault Refusal := act s (levelSource 5 low)

/-- CELLAR_WATCHDOG (R126): Cellar silent for 16 ms causes a MAIN reset. -/
def execCellarWatchdog (s : State) : Host.Outcome State Fault Refusal := act s (resetSource 6 false)

/-- RESET_RELEASE (R129): With no reset source active and a qualified reference, the device enters BOOT, raises RSTOUT_N and samples BOOTSEL. -/
def execResetRelease (bootsel : Bool) (s : State) : Host.Outcome State Fault Refusal := act s (resetRelease bootsel)

/-- BOOT_COMPLETE (R660): BOOT completes its steps and ends in STANDBY, CONFIG or LATCHED. -/
def execBootComplete (s : State) : Host.Outcome State Fault Refusal := act s bootComplete

/-- ROSC_START (R716): ROSC starts oscillating after VCORE passes its power-on threshold. -/
def execRoscStart (s : State) : Host.Outcome State Fault Refusal := act s roscStart

/-- CLOCK_SOURCE_READY (R111): HCLK or ROSC becomes ready after eight good windows, and REFCLK may switch back to the preferred source. -/
def execClockSourceReady (src : ClkSrc) (khz : Nat) (s : State) : Host.Outcome State Fault Refusal := act s (sourceReady (src == .hclk) khz)

/-- CLOCK_SOURCE_LOST (R111): HCLK or ROSC becomes unready: the PLLs hold and a switch starts, or the device enters clock hold. -/
def execClockSourceLost (src : ClkSrc) (s : State) : Host.Outcome State Fault Refusal := act s (sourceLost (src == .hclk))

/-- FORCED_SWITCH (R120): Without a low phase of the old source within 64 SOSC cycles, the multiplexer forces the switch and holds the gate outputs off. -/
def execForcedSwitch (s : State) : Host.Outcome State Fault Refusal := act s forcedSwitch

/-- CLOCK_GATING_END (R120): The four gated REFCLK cycles of a forced switch end, and deferred edges are taken. -/
def execClockGatingEnd (s : State) : Host.Outcome State Fault Refusal := act s clockGatingEnd

/-- PLL_LOCK (R113): A PLL reports lock for a whole window, ending a switch or a clock hold. -/
def execPllLock (pllb : Bool) (s : State) : Host.Outcome State Fault Refusal := act s (pllLock pllb)

/-- PLL_LOCK_LOSS (R122): A PLL loses lock outside a switch, and the device enters clock hold. -/
def execPllLockLoss (pllb : Bool) (s : State) : Host.Outcome State Fault Refusal := act s (pllLockLoss pllb)

/-- PLL_LOCK_TIMEOUT (R121): A PLL not locked within 50 µs of a switch puts the device into clock hold. -/
def execPllLockTimeout (s : State) : Host.Outcome State Fault Refusal := act s pllLockTimeout

/-- CLOCK_HOLD_END (R124): A usable reference is ready and both PLLs lock, so clock hold ends and BOOT starts with CAUSE CLOCK. -/
def execClockHoldEnd (windows : Nat) (bootsel : Bool) (s : State) : Host.Outcome State Fault Refusal := act s (clockHoldEnd windows bootsel)

/-- TRIM_MEASUREMENT (R115): A ROSC measurement against HCLK or Purlin frames adjusts the trim code and TRIMOK. -/
def execTrimMeasurement (counted gateNs : Nat) (s : State) : Host.Outcome State Fault Refusal := act s (trimMeasurement counted gateNs)

/-- SOSC_FAULT (R110): The SOSC monitor finds SOSC out of tolerance or edgeless, and a Rind internal fault latches the device. -/
def execSoscFault (s : State) : Host.Outcome State Fault Refusal := act s soscFault

/-- SOSC_STOP (R110): SOSC stops, and STOA and STOB assert within 2 µs without any logic acting. -/
def execSoscStop (s : State) : Host.Outcome State Fault Refusal := act s soscStop

/-- VIO_PAD_HOLD (R696): VIO rises above or falls below its pad-hold level, so every output ball is driven to its state or left undriven. -/
def execVioPadHold (below : Bool) (s : State) : Host.Outcome State Fault Refusal := quiet s (vioHold below)

/-- CONFIG_CHECK_DONE (R106): A configuration check ends and records ITEM and WHERE, setting CFG_FAIL if it failed. -/
def execConfigCheckDone (s : State) : Host.Outcome State Fault Refusal := running s configCheckDone

/-- HOST_WATCHDOG_EXPIRY (R76): A full interval passes without a SETPOINT, so EXPIRED is set and the fall-back is applied. -/
def execHostWatchdogExpiry (s : State) : Host.Outcome State Fault Refusal := act s watchdogExpiry

/-- SERVO_HOLDOVER (R144): A slave with no offset for four SYNCINT enters HOLDOVER. -/
def execServoHoldover (s : State) : Host.Outcome State Fault Refusal := running s servoHoldover

/-- SLEW_DONE (R150): A TIME_ADJUST slew finishes adding its offset, and SLEWING clears. -/
def execSlewDone (s : State) : Host.Outcome State Fault Refusal := running s slewDone

/-- NC_FIRE (R152): An armed compare unit reaches its target, fires its action and re-arms or disarms. -/
def execNcFire (n : Fin 16) (s : State) : Host.Outcome State Fault Refusal := running s (ncFireAll n)

/-- COMPARE_PULSE_END (R154): A TIO_PULSE or SYNCO pulse driven by a compare unit ends. -/
def execComparePulseEnd (pin : Fin 5) (s : State) : Host.Outcome State Fault Refusal := running s (comparePulseEnd pin)

/-- CAPTURE (R157): A qualifying edge or event captures NWT into a capture unit. -/
def execCapture (src : BitVec 6) (rising : Bool) (s : State) : Host.Outcome State Fault Refusal := running s (captureEvent src.toNat rising)

/-- TRACKER_MEASUREMENT (R169): A resolver, encoder, Hall or observer measurement updates a tracker's angle, speed and pending correction. -/
def execTrackerMeasurement (n : Fin 6) (m : TrackerMeas) (s : State) : Host.Outcome State Fault Refusal := running s (trackerMeasure n m)

/-- INDEX_EDGE (R166): An encoder index edge homes the tracker or checks its count. -/
def execIndexEdge (n : Fin 6) (s : State) : Host.Outcome State Fault Refusal := running s (indexEdge n)

/-- SOURCE_TIMEOUT (R165): A tracker source gives no measurement for TMO, so speed is zeroed or a source fault arises. -/
def execSourceTimeout (n : Fin 6) (alt : Bool) (s : State) : Host.Outcome State Fault Refusal := running s (sourceTimeout n alt)

/-- HOLD_EXPIRY (R171): The hold time runs out after a source fault, so VALID clears, HOLDEXP is set and an engaged table disengages. -/
def execHoldExpiry (n : Fin 6) (s : State) : Host.Outcome State Fault Refusal := running s (holdExpiry n)

/-- ANGLE_WINDOW_CROSSING (R177): The angle crosses a window bound and the window flag changes. -/
def execAngleWindowCrossing (n : Fin 6) (w : Fin 4) (hi : Bool) (s : State) : Host.Outcome State Fault Refusal := running s (windowCrossing n w hi)

/-- KERF_ENTRY (R180): The lead angle crosses the next entry of a Kerf table, which sets leg states and issues its trigger. -/
def execKerfEntry (n : Fin 6) (s : State) : Host.Outcome State Fault Refusal := running s (kerfEntry n)

/-- KERF_BOUNDARY (R185): A pattern boundary is crossed with a set pending: origin, pattern and engagement change. -/
def execKerfBoundary (n : Fin 6) (j : Fin 6) (s : State) : Host.Outcome State Fault Refusal := running s (kerfBoundary n j)

end Sys2Proof.Machine
end

