-- ==== Sys2Proof/Machine/Dispatch.lean ====
section
/-! DEFINITION. One arm per command of the table, each one direct call of its meaning. -/

namespace Sys2Proof.Machine

def exec (i : Instr) (s : State) : Host.Outcome State Fault Refusal :=
  match i with
  | .wordLock => Sys2Proof.Machine.execWordLock s
  | .framingError op q bad => Sys2Proof.Machine.execFramingError op q bad s
  | .badCrc op q computed => Sys2Proof.Machine.execBadCrc op q computed s
  | .badOpcode op q => Sys2Proof.Machine.execBadOpcode op q s
  | .linkOvr => Sys2Proof.Machine.execLinkOvr s
  | .ping q => Sys2Proof.Machine.execPing q s
  | .read q => Sys2Proof.Machine.execRead q s
  | .write q => Sys2Proof.Machine.execWrite q s
  | .registerWrite addr mask value => Sys2Proof.Machine.execRegisterWrite addr mask value s
  | .readBlock q => Sys2Proof.Machine.execReadBlock q s
  | .writeBlock q => Sys2Proof.Machine.execWriteBlock q s
  | .maskedWrite q => Sys2Proof.Machine.execMaskedWrite q s
  | .commit q => Sys2Proof.Machine.execCommit q s
  | .modeRequest q => Sys2Proof.Machine.execModeRequest q s
  | .modeStatus q => Sys2Proof.Machine.execModeStatus q s
  | .setpoint q => Sys2Proof.Machine.execSetpoint q s
  | .eventReadClear q => Sys2Proof.Machine.execEventReadClear q s
  | .storeSave q => Sys2Proof.Machine.execStoreSave q s
  | .storeRestore q => Sys2Proof.Machine.execStoreRestore q s
  | .storeErase q => Sys2Proof.Machine.execStoreErase q s
  | .sealOpen q => Sys2Proof.Machine.execSealOpen q s
  | .sealClose q => Sys2Proof.Machine.execSealClose q s
  | .safeParamConfirm q => Sys2Proof.Machine.execSafeParamConfirm q s
  | .meterRead q => Sys2Proof.Machine.execMeterRead q s
  | .meterSessionOpen q => Sys2Proof.Machine.execMeterSessionOpen q s
  | .meterSessionClose q => Sys2Proof.Machine.execMeterSessionClose q s
  | .meterSessionQuery q => Sys2Proof.Machine.execMeterSessionQuery q s
  | .meterRecord q => Sys2Proof.Machine.execMeterRecord q s
  | .bistRunLane q => Sys2Proof.Machine.execBistRunLane q s
  | .bistRunScrub q => Sys2Proof.Machine.execBistRunScrub q s
  | .fuseAll q => Sys2Proof.Machine.execFuseAll q s
  | .fuseOne q => Sys2Proof.Machine.execFuseOne q s
  | .timeSet q => Sys2Proof.Machine.execTimeSet q s
  | .timeAdjustStep q => Sys2Proof.Machine.execTimeAdjustStep q s
  | .timeAdjustSlew q => Sys2Proof.Machine.execTimeAdjustSlew q s
  | .timeAdjustRate q => Sys2Proof.Machine.execTimeAdjustRate q s
  | .busSend q => Sys2Proof.Machine.execBusSend q s
  | .busReceive q => Sys2Proof.Machine.execBusReceive q s
  | .busAck q => Sys2Proof.Machine.execBusAck q s
  | .patchLoad q => Sys2Proof.Machine.execPatchLoad q s
  | .resetOp q => Sys2Proof.Machine.execResetOp q s
  | .resetAfterReply => Sys2Proof.Machine.execResetAfterReply s
  | .swset value => Sys2Proof.Machine.execSwset value s
  | .cfgchkRun value => Sys2Proof.Machine.execCfgchkRun value s
  | .configCheckDone => Sys2Proof.Machine.execConfigCheckDone s
  | .clkCfgWrite value => Sys2Proof.Machine.execClkCfgWrite value s
  | .adcCfgWrite value => Sys2Proof.Machine.execAdcCfgWrite value s
  | .adcSwtrg value => Sys2Proof.Machine.execAdcSwtrg value s
  | .xcommit value => Sys2Proof.Machine.execXcommit value s
  | .gdsClr g => Sys2Proof.Machine.execGdsClr g s
  | .reload g => Sys2Proof.Machine.execReload g s
  | .zenSwtrg hi value => Sys2Proof.Machine.execZenSwtrg hi value s
  | .pgrst hi value => Sys2Proof.Machine.execPgrst hi value s
  | .programReset p => Sys2Proof.Machine.execProgramReset p s
  | .migReq value => Sys2Proof.Machine.execMigReq value s
  | .motClr a value => Sys2Proof.Machine.execMotClr a value s
  | .smpWrite a value => Sys2Proof.Machine.execSmpWrite a value s
  | .thmExclWrite value => Sys2Proof.Machine.execThmExclWrite value s
  | .srst value => Sys2Proof.Machine.execSrst value s
  | .rack value => Sys2Proof.Machine.execRack value s
  | .pwctlStg value => Sys2Proof.Machine.execPwctlStg value s
  | .sinLogsel value => Sys2Proof.Machine.execSinLogsel value s
  | .mtrLogsel value => Sys2Proof.Machine.execMtrLogsel value s
  | .ufind value => Sys2Proof.Machine.execUfind value s
  | .bstRsel value => Sys2Proof.Machine.execBstRsel value s
  | .snap value => Sys2Proof.Machine.execSnap value s
  | .clrl value => Sys2Proof.Machine.execClrl value s
  | .clrh hi value => Sys2Proof.Machine.execClrh hi value s
  | .abort pu value => Sys2Proof.Machine.execAbort pu value s
  | .measWrite n value => Sys2Proof.Machine.execMeasWrite n value s
  | .winWrite n w hi value => Sys2Proof.Machine.execWinWrite n w hi value s
  | .thrWrite w value => Sys2Proof.Machine.execThrWrite w value s
  | .srcfltClear n => Sys2Proof.Machine.execSrcfltClear n s
  | .dfltClear value => Sys2Proof.Machine.execDfltClear value s
  | .chfailClear => Sys2Proof.Machine.execChfailClear s
  | .expiredClear => Sys2Proof.Machine.execExpiredClear s
  | .hgrantWrite value => Sys2Proof.Machine.execHgrantWrite value s
  | .roleWrite value => Sys2Proof.Machine.execRoleWrite value s
  | .powerOn => Sys2Proof.Machine.execPowerOn s
  | .vsafeMonitor low => Sys2Proof.Machine.execVsafeMonitor low s
  | .vcoreMonitor low => Sys2Proof.Machine.execVcoreMonitor low s
  | .porstN low => Sys2Proof.Machine.execPorstN low s
  | .hrstN low => Sys2Proof.Machine.execHrstN low s
  | .cellarWatchdog => Sys2Proof.Machine.execCellarWatchdog s
  | .resetRelease bootsel => Sys2Proof.Machine.execResetRelease bootsel s
  | .bootComplete => Sys2Proof.Machine.execBootComplete s
  | .roscStart => Sys2Proof.Machine.execRoscStart s
  | .clockSourceReady src khz => Sys2Proof.Machine.execClockSourceReady src khz s
  | .clockSourceLost src => Sys2Proof.Machine.execClockSourceLost src s
  | .forcedSwitch => Sys2Proof.Machine.execForcedSwitch s
  | .clockGatingEnd => Sys2Proof.Machine.execClockGatingEnd s
  | .pllLock pllb => Sys2Proof.Machine.execPllLock pllb s
  | .pllLockLoss pllb => Sys2Proof.Machine.execPllLockLoss pllb s
  | .pllLockTimeout => Sys2Proof.Machine.execPllLockTimeout s
  | .clockHoldEnd windows bootsel => Sys2Proof.Machine.execClockHoldEnd windows bootsel s
  | .trimMeasurement counted gateNs => Sys2Proof.Machine.execTrimMeasurement counted gateNs s
  | .soscFault => Sys2Proof.Machine.execSoscFault s
  | .soscStop => Sys2Proof.Machine.execSoscStop s
  | .hostWatchdogExpiry => Sys2Proof.Machine.execHostWatchdogExpiry s
  | .servoHoldover => Sys2Proof.Machine.execServoHoldover s
  | .slewDone => Sys2Proof.Machine.execSlewDone s
  | .ncFire n => Sys2Proof.Machine.execNcFire n s
  | .comparePulseEnd pin => Sys2Proof.Machine.execComparePulseEnd pin s
  | .capture src rising => Sys2Proof.Machine.execCapture src rising s
  | .trackerMeasurement n m => Sys2Proof.Machine.execTrackerMeasurement n m s
  | .indexEdge n => Sys2Proof.Machine.execIndexEdge n s
  | .sourceTimeout n alt => Sys2Proof.Machine.execSourceTimeout n alt s
  | .holdExpiry n => Sys2Proof.Machine.execHoldExpiry n s
  | .angleWindowCrossing n w hi => Sys2Proof.Machine.execAngleWindowCrossing n w hi s
  | .kerfEntry n => Sys2Proof.Machine.execKerfEntry n s
  | .kerfBoundary n j => Sys2Proof.Machine.execKerfBoundary n j s
  | .setTrigger slot => Sys2Proof.Machine.execSetTrigger slot s
  | .converterReservation slot => Sys2Proof.Machine.execConverterReservation slot s
  | .rankConversionEnd slot raw => Sys2Proof.Machine.execRankConversionEnd slot raw s
  | .runComplete slot => Sys2Proof.Machine.execRunComplete slot s
  | .exciterTrigger u => Sys2Proof.Machine.execExciterTrigger u s
  | .referenceSettled => Sys2Proof.Machine.execReferenceSettled s
  | .refpMonitor inside => Sys2Proof.Machine.execRefpMonitor inside s
  | .calibrationTick b => Sys2Proof.Machine.execCalibrationTick b s
  | .referenceCalibrationDone sl codes => Sys2Proof.Machine.execReferenceCalibrationDone sl codes s
  | .phaseTimeLimit b => Sys2Proof.Machine.execPhaseTimeLimit b s
  | .swap b => Sys2Proof.Machine.execSwap b s
  | .swapinTimeout b => Sys2Proof.Machine.execSwapinTimeout b s
  | .comparatorCondition w uv => Sys2Proof.Machine.execComparatorCondition w uv s
  | .comparatorSettled => Sys2Proof.Machine.execComparatorSettled s
  | .periodBoundary g => Sys2Proof.Machine.execPeriodBoundary g s
  | .midPoint g => Sys2Proof.Machine.execMidPoint g s
  | .xcTrigger g n => Sys2Proof.Machine.execXcTrigger g n s
  | .bootstrapRefreshDue leg => Sys2Proof.Machine.execBootstrapRefreshDue leg s
  | .delayLineMeasurement g taps => Sys2Proof.Machine.execDelayLineMeasurement g taps s
  | .delayUpdate leg high => Sys2Proof.Machine.execDelayUpdate leg high s
  | .interlockFault g => Sys2Proof.Machine.execInterlockFault g s
  | .initialLoad g => Sys2Proof.Machine.execInitialLoad g s
  | .strengthFrameSent g => Sys2Proof.Machine.execStrengthFrameSent g s
  | .codeLatch g => Sys2Proof.Machine.execCodeLatch g s
  | .refreshFrame g => Sys2Proof.Machine.execRefreshFrame g s
  | .edgeSensePulse leg level fine => Sys2Proof.Machine.execEdgeSensePulse leg level fine s
  | .dsatAssertion leg level => Sys2Proof.Machine.execDsatAssertion leg level s
  | .blankingEnd leg high => Sys2Proof.Machine.execBlankingEnd leg high s
  | .overdueFault leg => Sys2Proof.Machine.execOverdueFault leg s
  | .softForceOff leg high => Sys2Proof.Machine.execSoftForceOff leg high s
  | .breakEnd g => Sys2Proof.Machine.execBreakEnd g s
  | .faultLatchClear leg high => Sys2Proof.Machine.execFaultLatchClear leg high s
  | .drvenClearPulseEnd g => Sys2Proof.Machine.execDrvenClearPulseEnd g s
  | .learningTimeout leg kind => Sys2Proof.Machine.execLearningTimeout leg kind s
  | .programStart p => Sys2Proof.Machine.execProgramStart p s
  | .runBegin j => Sys2Proof.Machine.execRunBegin j s
  | .runEnd j waits => Sys2Proof.Machine.execRunEnd j waits s
  | .migrationCopyDone => Sys2Proof.Machine.execMigrationCopyDone s
  | .switchInstant => Sys2Proof.Machine.execSwitchInstant s
  | .migrationTimeout => Sys2Proof.Machine.execMigrationTimeout s
  | .laneTestDone pass valid => Sys2Proof.Machine.execLaneTestDone pass valid s
  | .bistSchedulerTick => Sys2Proof.Machine.execBistSchedulerTick s
  | .sequencerTick => Sys2Proof.Machine.execSequencerTick s
  | .ladderTick a => Sys2Proof.Machine.execLadderTick a s
  | .catchDetectEnd a => Sys2Proof.Machine.execCatchDetectEnd a s
  | .catchLockTimeout a => Sys2Proof.Machine.execCatchLockTimeout a s
  | .alignTimeout a => Sys2Proof.Machine.execAlignTimeout a s
  | .dcAlignEnd a => Sys2Proof.Machine.execDcAlignEnd a s
  | .hfiEnd a => Sys2Proof.Machine.execHfiEnd a s
  | .polarityPulseEnd a => Sys2Proof.Machine.execPolarityPulseEnd a s
  | .polarityFlip a => Sys2Proof.Machine.execPolarityFlip a s
  | .magnEnd a => Sys2Proof.Machine.execMagnEnd a s
  | .observerPreset a => Sys2Proof.Machine.execObserverPreset a s
  | .sectorChange a => Sys2Proof.Machine.execSectorChange a s
  | .kemfEvaluation a => Sys2Proof.Machine.execKemfEvaluation a s
  | .idTestEnd a => Sys2Proof.Machine.execIdTestEnd a s
  | .stopComplete a => Sys2Proof.Machine.execStopComplete a s
  | .stopTimeout a => Sys2Proof.Machine.execStopTimeout a s
  | .gsyncSteady a => Sys2Proof.Machine.execGsyncSteady a s
  | .gsyncTimeout a => Sys2Proof.Machine.execGsyncTimeout a s
  | .armTimeout a => Sys2Proof.Machine.execArmTimeout a s
  | .budgetTick => Sys2Proof.Machine.execBudgetTick s
  | .budgetDeadline => Sys2Proof.Machine.execBudgetDeadline s
  | .leaseExpiry => Sys2Proof.Machine.execLeaseExpiry s
  | .converterStopComplete a => Sys2Proof.Machine.execConverterStopComplete a s
  | .converterStopTimeout a => Sys2Proof.Machine.execConverterStopTimeout a s
  | .vlostTimeout => Sys2Proof.Machine.execVlostTimeout s
  | .prechargeTimeout => Sys2Proof.Machine.execPrechargeTimeout s
  | .chnoiCheck => Sys2Proof.Machine.execChnoiCheck s
  | .ascTimeout a => Sys2Proof.Machine.execAscTimeout a s
  | .dischargeTimeout => Sys2Proof.Machine.execDischargeTimeout s
  | .stoRelease => Sys2Proof.Machine.execStoRelease s
  | .stoReadback ok => Sys2Proof.Machine.execStoReadback ok s
  | .saConversion item code => Sys2Proof.Machine.execSaConversion item code s
  | .rcmpDemand k uv => Sys2Proof.Machine.execRcmpDemand k uv s
  | .crossComparisonWindow k => Sys2Proof.Machine.execCrossComparisonWindow k s
  | .torqueEvaluation m hall edgeNs => Sys2Proof.Machine.execTorqueEvaluation m hall edgeNs s
  | .trefFreshness m => Sys2Proof.Machine.execTrefFreshness m s
  | .ss1Evaluation => Sys2Proof.Machine.execSs1Evaluation s
  | .ss1Timeout => Sys2Proof.Machine.execSs1Timeout s
  | .ascDeferralEnd => Sys2Proof.Machine.execAscDeferralEnd s
  | .rindSelfTestDone fault => Sys2Proof.Machine.execRindSelfTestDone fault s
  | .psetcrcCheck ok => Sys2Proof.Machine.execPsetcrcCheck ok s
  | .sclkmonWindow khz => Sys2Proof.Machine.execSclkmonWindow khz s
  | .proofHour => Sys2Proof.Machine.execProofHour s
  | .testPulse n low seen => Sys2Proof.Machine.execTestPulse n low seen s
  | .tpReadbackFault n => Sys2Proof.Machine.execTpReadbackFault n s
  | .processedLevelChange f ch level samples => Sys2Proof.Machine.execProcessedLevelChange f ch level samples s
  | .rststuck f => Sys2Proof.Machine.execRststuck f s
  | .safetyEvaluation => Sys2Proof.Machine.execSafetyEvaluation s
  | .tdConversion k reading trip => Sys2Proof.Machine.execTdConversion k reading trip s
  | .teNosample k => Sys2Proof.Machine.execTeNosample k s
  | .thermalEvaluation => Sys2Proof.Machine.execThermalEvaluation s
  | .crossCheck => Sys2Proof.Machine.execCrossCheck s
  | .thermalShutdown k => Sys2Proof.Machine.execThermalShutdown k s
  | .busIntegration u => Sys2Proof.Machine.execBusIntegration u s
  | .frameReceived u cw data age => Sys2Proof.Machine.execFrameReceived u cw data age s
  | .transmissionEnd u r age => Sys2Proof.Machine.execTransmissionEnd u r age s
  | .countedRetry u b => Sys2Proof.Machine.execCountedRetry u b s
  | .busOffRecovery u => Sys2Proof.Machine.execBusOffRecovery u s
  | .syncintTick => Sys2Proof.Machine.execSyncintTick s
  | .meterSample x0 x1 x2 x3 => Sys2Proof.Machine.execMeterSample x0 x1 x2 x3 s
  | .meterSecond => Sys2Proof.Machine.execMeterSecond s
  | .checkpoint => Sys2Proof.Machine.execCheckpoint s
  | .powerFailTrip => Sys2Proof.Machine.execPowerFailTrip s
  | .powerFailRelease => Sys2Proof.Machine.execPowerFailRelease s
  | .modulatorFault m => Sys2Proof.Machine.execModulatorFault m s
  | .sessionRecordCommit => Sys2Proof.Machine.execSessionRecordCommit s
  | .closeCommitRetry => Sys2Proof.Machine.execCloseCommitRetry s
  | .sealTimeout => Sys2Proof.Machine.execSealTimeout s
  | .lockoutEnd mtr => Sys2Proof.Machine.execLockoutEnd mtr s
  | .storeOperationDone ok => Sys2Proof.Machine.execStoreOperationDone ok s
  | .deferredStoreWrite => Sys2Proof.Machine.execDeferredStoreWrite s
  | .scrubDone corrected unc => Sys2Proof.Machine.execScrubDone corrected unc s
  | .fuseDone good => Sys2Proof.Machine.execFuseDone good s
  | .selftestComplete results spares invalid => Sys2Proof.Machine.execSelftestComplete results spares invalid s
  | .tracePacketSent => Sys2Proof.Machine.execTracePacketSent s
  | .samplingInstant slot => Sys2Proof.Machine.execSamplingInstant slot s
  | .commandEdge leg pos => Sys2Proof.Machine.execCommandEdge leg pos s
  | .edgeLaunch leg high on => Sys2Proof.Machine.execEdgeLaunch leg high on s
  | .pulseMeterEdge u high period => Sys2Proof.Machine.execPulseMeterEdge u high period s
  | .errorFrame u lec dataPhase dominant => Sys2Proof.Machine.execErrorFrame u lec dataPhase dominant s
  | .storeWriteComplete ok => Sys2Proof.Machine.execStoreWriteComplete ok s
  | .safeParamConfirmDone ok => Sys2Proof.Machine.execSafeParamConfirmDone ok s
  | .vioPadHold below => Sys2Proof.Machine.execVioPadHold below s
  | .wheySync => Sys2Proof.Machine.execWheySync s

end Sys2Proof.Machine
end

