-- ==== Sys2Proof/Machine/Pins.lean ====
section
/-! DEFINITION. The states of the output balls (22_pins_and_electrical, R696), as functions of State: what an observer at the balls sees. -/

namespace Sys2Proof.Machine

/-- What an output ball shows: nothing, a level, an open drain that is released, or a bit stream whose frames, packets or waves State holds whole. -/
inductive Pad
  | undriven
  | low
  | high
  | released
  | stream
deriving DecidableEq, Repr

/-- The output balls of R690, by class of R696: leg n with its side, group g (6 is GB), A or B of the safety outputs, test pulse k, controller u,
TIO and GPIO by number, exciter u. -/
inductive Ball
  | pwm (n : Nat) (high : Bool)
  | drven (g : Nat)
  | gstr (g : Nat)
  | sto (b : Bool)
  | sso (b : Bool)
  | tp (k : Nat)
  | hdo
  | hreqN
  | rstoutN
  | puTx (u : Nat)
  | puStb (u : Nat)
  | whey
  | synco
  | tio (n : Nat)
  | gpio (n : Nat)
  | exc (u : Nat)
  | refout
deriving DecidableEq, Repr

/-- A level. -/
def Pad.level (b : Bool) : Pad := if b then .high else .low

/-- RESET, with clock hold, and BOOT: the first columns of R696. -/
def beforeModes (c : Chip) : Bool := c.mode == .reset || c.mode == .boot

/-- Whether the action of a compare unit names SYNCO (4) or TIO n (R154). -/
def namedByNc (c : Chip) (pin : Nat) : Bool :=
  (List.range 16).any (fun n =>
    let a := c.get (F.NWT_NCn_CTL_ACTION n)
    if pin = 4 then a == 6 else (a == 4 || a == 5) && c.get (F.NWT_NCn_CTL_ARG n) % 4 == pin)

/-- Whether exciter u runs (R168): from the start of BOOT while a tracker that is enabled uses it. -/
def exciterRuns (c : Chip) (u : Nat) : Bool := c.mode != .reset && exciterUsed c u

/-- The state of an output ball while VIO is above its pad-hold level (R696). The Whey port runs from the moment that its EN is set, in BOOT too
(R678, log entry 94). -/
def ballState (c : Chip) : Ball → Pad
  | .pwm n high => if beforeModes c then .low else .level (ballHigh c n high)
  | .drven g => if beforeModes c then .low else .level (c.gdsg g).drven
  | .gstr g => if beforeModes c then .low else if (c.gdsg g).cur.isSome then .stream else .high
  | .sto b => if beforeModes c then .low else .level (if b then c.sto.stob else c.sto.stoa)
  | .sso b => if beforeModes c then .low else .level (if b then c.sto.ssob else c.sto.ssoa)
  | .tp k => if beforeModes c then .low else .level (c.getBit F.SIN_SSTAT_TPLVL k)
  | .hdo => if (hdopIdle c).isNone then .low else .stream
  | .hreqN => if hreqLow c then .low else .released
  | .rstoutN => .level (!rstoutLow c)
  | .puTx u => if puTxRecessive c u then .high else .stream
  | .puStb u => .level (puStbHigh c u)
  | .whey => if c.wheyOn then .stream else .low
  | .synco => if beforeModes c || !namedByNc c 4 then .undriven else .level (c.time.tio.getLsbD 4)
  | .tio n => if beforeModes c || !namedByNc c n then .undriven else .level (c.time.tio.getLsbD n)
  | .gpio n => if beforeModes c then .undriven else match prechargeBall c n with | some b => .level b | none => .undriven
  | .exc u => if exciterRuns c u then .stream else .undriven
  | .refout => if c.mode != .reset && c.is F.ADC_CFG_REFOUTEN then .high else .undriven

/-- The state of an output ball (R696): below the pad-hold level of VIO every output is undriven. -/
def pad (c : Chip) (b : Ball) : Pad := if c.clk.vioBelow then .undriven else ballState c b

end Sys2Proof.Machine
end

