-- ==== Sys2Proof/Safety.lean ====
section
/-! DEFINITION. What counts as a safe state of the block, in the terms of the statements: the canonical form of its memories, and the conditions
under which the STO outputs may be released (R492, R509). -/

namespace Sys2Proof.Machine

/-- Every memory of the chip has its canonical form: addresses strictly rising, no entry equal to what an unlisted address reads as. -/
def Chip.memWf (c : Chip) : Bool :=
  Mem.canon resetWord 0 c.regs && Mem.canon (fun _ => 0) 0 c.lanes && Mem.canon (fun _ => 0) 0 c.zmem && Mem.canon (fun _ => 0) 0 c.store

/-- Whether the active demands hold STO back: there are some, they are not a monitored SS1 stop that still runs, and they do not all wait for an
active short circuit to end (R492, R508, R509). -/
def demandHolds (c : Chip) : Bool :=
  demandKind c != 0 && !(demandKind c == 1 && c.is F.SAF_STAT_SS1RUN) &&
    !(anyAsc c && (List.range 13).all (fun k => !Nat.bitAt ((c.rd 0xC0001).field 0 13) k || deferrable c k))

/-- When R492 lets STO be released: the main domain asks for it, Rind has passed its self-test and holds a valid set, no internal fault and no
latch, SOSC and the main clock run, and no demand holds it. -/
def stoMayBeHigh (c : Chip) : Bool :=
  mainReleases c && c.is F.SAF_STAT_SELFOK && c.is F.SAF_STAT_PSETOK && !rindFaulted c && !c.rind.latch && !c.clk.soscStopped && !c.clk.hold &&
    !demandHolds c

/-- The STO outputs are safe: a ball is high only while release is requested, and release is requested only when R492 allows it. -/
def stoSafe (c : Chip) : Bool := (!(c.sto.stoa || c.sto.stob) || !c.sto.request) && (c.sto.request || stoMayBeHigh c)

/-! ### The vocabulary of the statements -/

/-- A request that is served in hardware is received, no ninth one (R58), and no retry of a request in the replay cache: its handler judges it (R54, R68). -/
def serves (op : Nat) (q : Req) (c : Chip) : Bool := listening q c && !heldFull c && (replayOf (heard op c) op q).isNone

/-- A request for Cellar is received while Cellar holds none, which serves it in this step, and it is no retry of a request in the replay cache: its
handler judges it (R54, R56, R68). -/
def servesC (op : Nat) (q : Req) (c : Chip) : Bool := serves op q c && !q.later && c.link.held.isEmpty

/-- A host write of the masked bits of a value is accepted: a host is served in the present mode, and no rule refuses the write (R17). -/
def accepts (c : Chip) (a : Nat) (mask v : Word) : Bool := c.mode != .reset && c.mode != .boot && (writeRefusal c a mask v).isNone

/-- A host write of a whole word is accepted. -/
def acceptsWord (c : Chip) (a : Nat) (v : Word) : Bool := accepts c a (BitVec.allOnes 48) v

/-- The word written, before the effect that its owning rule attaches to the write. -/
def wrote (c : Chip) (a : Nat) (v : Word) : Chip := storeWord a (BitVec.allOnes 48) v c

/-- A word with the one bit of a flag. -/
def oneBit (f : Fld) : Word := 1#48 <<< f.lo

/-- The next state of a command that leaves the chip d, with everything that follows of itself in the same step (R30). -/
def State.acted (s : State) (d : Chip) : State := { s with chip := after s.chip d }

/-- The next state of a command that leaves the chip d and that nothing follows. -/
def State.still (s : State) (d : Chip) : State := { s with chip := d }

/-- The main domain runs: the device is not in RESET. -/
def up (c : Chip) : Bool := c.mode != .reset

/-- The main domain runs and its clocks are not gated: its events happen (R120, log entry 70). -/
def going (c : Chip) : Bool := c.mode != .reset && !c.clk.gated

/-- Rind's logic runs: it is not held in reset and has its clock (R490, R513). -/
def rindRuns (c : Chip) : Bool := !c.clk.rindReset && !c.clk.soscStopped

/-- A frame: every parameter word outside a list, every lane word, every ZMEM word and every store word is unchanged. -/
def sameBut (l : List Nat) (c d : Chip) : Prop := (∀ a, a ∉ l → d.rd a = c.rd a) ∧ d.lanes = c.lanes ∧ d.zmem = c.zmem ∧ d.store = c.store

/-- A frame over the words: every parameter word, lane word, ZMEM word and store word is unchanged. -/
def sameWords (c d : Chip) : Prop := sameBut [] c d

end Sys2Proof.Machine
end

