-- ==== Sys2Proof/WellFormed.lean ====
section
/-! DEFINITION. When a command is well formed: its operands are such as the link, the buses and the table of operations can give it. -/

namespace Sys2Proof

/-- The opcodes of R59. -/
def opcodes : List Nat :=
  [0x01, 0x02, 0x03, 0x04, 0x05, 0x06, 0x08, 0x10, 0x11, 0x12, 0x18, 0x20, 0x21, 0x22, 0x30, 0x31, 0x32, 0x38, 0x39, 0x3A, 0x40, 0x41, 0x50, 0x51,
   0x60, 0x61, 0x62, 0x70, 0x7F]

/-- Whether R59 assigns an opcode. -/
def assigned (op : Nat) : Bool := opcodes.contains op

/-- The opcodes that need at least one payload word (R59). -/
def needsPayload (op : Nat) : Bool :=
  [0x03, 0x04, 0x05, 0x06, 0x10, 0x18, 0x22, 0x30, 0x32, 0x39, 0x3A, 0x40, 0x41, 0x50, 0x51, 0x60, 0x62, 0x70, 0x7F].contains op

/-- The payload is as long as the length field says (R50): 0 means 256 words where the opcode needs a payload, and none elsewhere. -/
def Req.lenOk (q : Req) (op : Nat) : Bool :=
  q.payload.length == (if q.len = 0 then (if needsPayload op then 256 else 0) else q.len.toNat)

/-- The payload's first word names the kind that the row of the table is about: four bits from a place on. -/
def Req.kindIs (q : Req) (lo k : Nat) : Bool := (q.payload.getD 0 0).field lo 4 == k

/-- Whether a command is well formed. -/
def Instr.wf : Instr → Bool
  | .wordLock => true
  | .framingError op q _ => q.lenOk op.toNat
  | .badCrc op q _ => q.lenOk op.toNat
  | .badOpcode op q => !assigned op.toNat && q.lenOk op.toNat
  | .linkOvr => true
  | .ping q => q.lenOk 0x01
  | .read q => q.lenOk 0x02
  | .write q => q.lenOk 0x03
  | .registerWrite _ _ _ => true
  | .readBlock q => q.lenOk 0x04
  | .writeBlock q => q.lenOk 0x05
  | .maskedWrite q => q.lenOk 0x06
  | .commit q => q.lenOk 0x08
  | .modeRequest q => q.lenOk 0x10
  | .modeStatus q => q.lenOk 0x11
  | .setpoint q => q.lenOk 0x12
  | .eventReadClear q => q.lenOk 0x18
  | .storeSave q => q.lenOk 0x20
  | .storeRestore q => q.lenOk 0x21
  | .storeErase q => q.lenOk 0x22
  | .sealOpen q => q.lenOk 0x30
  | .sealClose q => q.lenOk 0x31
  | .safeParamConfirm q => q.lenOk 0x32
  | .meterRead q => q.lenOk 0x38
  | .meterSessionOpen q => q.lenOk 0x39 && q.kindIs 0 1
  | .meterSessionClose q => q.lenOk 0x39 && q.kindIs 0 2
  | .meterSessionQuery q => q.lenOk 0x39 && q.kindIs 0 3
  | .meterRecord q => q.lenOk 0x3A
  | .bistRunLane q => q.lenOk 0x40 && q.kindIs 44 1
  | .bistRunScrub q => q.lenOk 0x40 && q.kindIs 44 2
  | .fuseAll q => q.lenOk 0x41 && q.kindIs 44 1
  | .fuseOne q => q.lenOk 0x41 && q.kindIs 44 2
  | .timeSet q => q.lenOk 0x50
  | .timeAdjustStep q => q.lenOk 0x51 && q.kindIs 44 0
  | .timeAdjustSlew q => q.lenOk 0x51 && q.kindIs 44 1
  | .timeAdjustRate q => q.lenOk 0x51 && q.kindIs 44 2
  | .busSend q => q.lenOk 0x60
  | .busReceive q => q.lenOk 0x61
  | .busAck q => q.lenOk 0x62
  | .patchLoad q => q.lenOk 0x70
  | .resetOp q => q.lenOk 0x7F
  | .resetAfterReply => true
  | .swset _ => true
  | .cfgchkRun _ => true
  | .configCheckDone => true
  | .clkCfgWrite _ => true
  | .adcCfgWrite _ => true
  | .adcSwtrg _ => true
  | .xcommit _ => true
  | .gdsClr _ => true
  | .reload _ => true
  | .zenSwtrg _ _ => true
  | .pgrst _ _ => true
  | .programReset _ => true
  | .migReq _ => true
  | .motClr _ _ => true
  | .smpWrite _ _ => true
  | .thmExclWrite _ => true
  | .srst _ => true
  | .rack _ => true
  | .pwctlStg _ => true
  | .sinLogsel _ => true
  | .mtrLogsel _ => true
  | .ufind _ => true
  | .bstRsel _ => true
  | .snap _ => true
  | .clrl _ => true
  | .clrh _ _ => true
  | .abort _ _ => true
  | .measWrite _ _ => true
  | .winWrite _ _ _ _ => true
  | .thrWrite _ _ => true
  | .srcfltClear _ => true
  | .dfltClear _ => true
  | .chfailClear => true
  | .expiredClear => true
  | .hgrantWrite _ => true
  | .roleWrite _ => true
  | .powerOn => true
  | .vsafeMonitor _ => true
  | .vcoreMonitor _ => true
  | .porstN _ => true
  | .hrstN _ => true
  | .cellarWatchdog => true
  | .resetRelease _ => true
  | .bootComplete => true
  | .roscStart => true
  | .clockSourceReady _ _ => true
  | .clockSourceLost _ => true
  | .forcedSwitch => true
  | .clockGatingEnd => true
  | .pllLock _ => true
  | .pllLockLoss _ => true
  | .pllLockTimeout => true
  | .clockHoldEnd _ _ => true
  | .trimMeasurement _ _ => true
  | .soscFault => true
  | .soscStop => true
  | .hostWatchdogExpiry => true
  | .servoHoldover => true
  | .slewDone => true
  | .ncFire _ => true
  | .comparePulseEnd _ => true
  | .capture _ _ => true
  | .trackerMeasurement _ _ => true
  | .indexEdge _ => true
  | .sourceTimeout _ _ => true
  | .holdExpiry _ => true
  | .angleWindowCrossing _ _ _ => true
  | .kerfEntry _ => true
  | .kerfBoundary _ _ => true
  | .setTrigger _ => true
  | .converterReservation _ => true
  | .rankConversionEnd _ _ => true
  | .runComplete _ => true
  | .exciterTrigger _ => true
  | .referenceSettled => true
  | .refpMonitor _ => true
  | .calibrationTick _ => true
  | .referenceCalibrationDone _ _ => true
  | .phaseTimeLimit _ => true
  | .swap _ => true
  | .swapinTimeout _ => true
  | .comparatorCondition _ _ => true
  | .comparatorSettled => true
  | .periodBoundary _ => true
  | .midPoint _ => true
  | .xcTrigger _ _ => true
  | .bootstrapRefreshDue _ => true
  | .delayLineMeasurement _ _ => true
  | .delayUpdate _ _ => true
  | .interlockFault _ => true
  | .initialLoad _ => true
  | .strengthFrameSent _ => true
  | .codeLatch _ => true
  | .refreshFrame _ => true
  | .edgeSensePulse _ _ _ => true
  | .dsatAssertion _ _ => true
  | .blankingEnd _ _ => true
  | .overdueFault _ => true
  | .softForceOff _ _ => true
  | .breakEnd _ => true
  | .faultLatchClear _ _ => true
  | .drvenClearPulseEnd _ => true
  | .learningTimeout _ _ => true
  | .programStart _ => true
  | .runBegin _ => true
  | .runEnd _ _ => true
  | .migrationCopyDone => true
  | .switchInstant => true
  | .migrationTimeout => true
  | .laneTestDone _ _ => true
  | .bistSchedulerTick => true
  | .sequencerTick => true
  | .ladderTick _ => true
  | .catchDetectEnd _ => true
  | .catchLockTimeout _ => true
  | .alignTimeout _ => true
  | .dcAlignEnd _ => true
  | .hfiEnd _ => true
  | .polarityPulseEnd _ => true
  | .polarityFlip _ => true
  | .magnEnd _ => true
  | .observerPreset _ => true
  | .sectorChange _ => true
  | .kemfEvaluation _ => true
  | .idTestEnd _ => true
  | .stopComplete _ => true
  | .stopTimeout _ => true
  | .gsyncSteady _ => true
  | .gsyncTimeout _ => true
  | .armTimeout _ => true
  | .budgetTick => true
  | .budgetDeadline => true
  | .leaseExpiry => true
  | .converterStopComplete _ => true
  | .converterStopTimeout _ => true
  | .vlostTimeout => true
  | .prechargeTimeout => true
  | .chnoiCheck => true
  | .ascTimeout _ => true
  | .dischargeTimeout => true
  | .stoRelease => true
  | .stoReadback _ => true
  | .saConversion _ _ => true
  | .rcmpDemand _ _ => true
  | .crossComparisonWindow _ => true
  | .torqueEvaluation _ _ _ => true
  | .trefFreshness _ => true
  | .ss1Evaluation => true
  | .ss1Timeout => true
  | .ascDeferralEnd => true
  | .rindSelfTestDone _ => true
  | .psetcrcCheck _ => true
  | .sclkmonWindow _ => true
  | .proofHour => true
  | .testPulse _ _ _ => true
  | .tpReadbackFault _ => true
  | .processedLevelChange _ _ _ _ => true
  | .rststuck _ => true
  | .safetyEvaluation => true
  | .tdConversion _ _ _ => true
  | .teNosample _ => true
  | .thermalEvaluation => true
  | .crossCheck => true
  | .thermalShutdown _ => true
  | .busIntegration _ => true
  | .frameReceived _ _ data _ => decide (data.length ≤ 11)
  | .transmissionEnd _ _ _ => true
  | .countedRetry _ _ => true
  | .busOffRecovery _ => true
  | .syncintTick => true
  | .meterSample _ _ _ _ => true
  | .meterSecond => true
  | .checkpoint => true
  | .powerFailTrip => true
  | .powerFailRelease => true
  | .modulatorFault _ => true
  | .sessionRecordCommit => true
  | .closeCommitRetry => true
  | .sealTimeout => true
  | .lockoutEnd _ => true
  | .storeOperationDone _ => true
  | .deferredStoreWrite => true
  | .scrubDone _ _ => true
  | .fuseDone _ => true
  | .selftestComplete _ _ _ => true
  | .tracePacketSent => true
  | .samplingInstant _ => true
  | .commandEdge _ _ => true
  | .edgeLaunch _ _ _ => true
  | .pulseMeterEdge _ _ _ => true
  | .errorFrame _ _ _ _ => true
  | .storeWriteComplete _ => true
  | .safeParamConfirmDone _ => true
  | .vioPadHold _ => true
  | .wheySync => true

end Sys2Proof
end

