-- ==== Sys2Proof/Certificates/Slice0/Obligations.lean ====
section
/-! DEFINITION. The statements for the provers. `after s.chip d` is the state of the chip d with everything that follows of itself in the same
step (R30); a statement gives the chip d that the command's own effect leaves, and what stands in it. -/

open Sys2Proof Sys2Proof.Machine

/-! ### The queue (the row's cut) -/

/-- The command at the front of the queue runs on the state with the queue's rest, for every command. -/
def Obligations.StepRunsFrontCommand : Prop :=
  ∀ (i : Instr) (rest : List Instr) (s : State), s.pending = i :: rest → step s = exec i { s with pending := rest }

/-- With no command waiting one PCLK cycle of the model passes, Cellar serves the oldest request that it holds, and everything that follows of itself
happens (the model's choice, log entries 2 and 7). In RESET, and in the gated cycles of a forced switch, the cycle changes the count of cycles alone; with no request
held, nothing is served. A request for Cellar that waits joins the requests held, behind them. -/
def Obligations.IdleStepPassesOneCycle : Prop :=
  ∀ s : State, s.pending = [] →
    step s = .next (s.acted (serveOldest (tickChip s.chip))) ∧
      (s.chip.mode = .reset ∨ s.chip.clk.gated = true → tickChip s.chip = { s.chip with up := s.chip.up + 1 }) ∧
      (∀ c : Chip, c.link.held = [] → serveOldest c = c) ∧
      (∀ (c : Chip) (op : Nat) (q : Req) (l : List (Nat × Req)), c.link.held = (op, q) :: l →
        serveOldest c = after c (serve op (handlerOf op) q (modLink (fun k => { k with held := l }) c))) ∧
      (∀ (op : Nat) (f : Handler) (q : Req) (c : Chip), listening q c = true → heldFull c = false → q.later = true →
        receiveC op f q c = modLink (fun k => { k with held := c.link.held ++ [(op, q)] }) (heard op c))

/-- Every step answers a next state, and takes exactly the command at the front of the queue: commands are served in the order they came,
none is lost, doubled or added, and no command ends a run. -/
def Obligations.EveryStepAnswersAndKeepsTheQueueOrder : Prop := ∀ s : State, ∃ t : State, step s = .next t ∧ t.pending = s.pending.tail

/-- No trigger raised inside a step outlives it: they are all taken in the same step (R30). -/
def Obligations.NoTriggerOutlivesItsStep : Prop := ∀ s t : State, s.chip.notices = [] → step s = .next t → t.chip.notices = []

/-! ### The STO outputs (R492) -/

/-- The STO outputs are safe after every step from every state in which they are safe: STOA and STOB are high only while release is requested,
and it is requested only while the main domain releases the request, Rind has passed its self-test and holds a valid set, no internal fault and
no latch stands, SOSC and the main clock run, and no demand holds it. -/
def Obligations.StoStaysSafe : Prop := ∀ s t : State, stoSafe s.chip = true → step s = .next t → stoSafe t.chip = true

/-- The STO outputs are asserted, and safe, at reset, with every STO and SSO ball low. -/
def Obligations.StoIsAssertedAtReset : Prop :=
  stoSafe State.reset.chip = true ∧ State.reset.chip.sto.stoa = false ∧ State.reset.chip.sto.stob = false ∧
    State.reset.chip.sto.ssoa = false ∧ State.reset.chip.sto.ssob = false

/-! ### The Tenon link (02_tenon_host_link) -/

/-- The CRC word of a PING header with tag 7 and no payload is the worked example of R53 (tag 7). -/
def Obligations.CrcOfThePingHeader : Prop :=
  crc32 [0x010700000000] = 0xC8BEAE16

/-- Word lock outside RESET: LOCK reads 1, and no other field changes. A ninth request, while eight are held, outside RESET: OVERRUN counts up to 255 and the event
LINK_OVR is set, and no other word and no memory changes. A packet with a bad CRC that the device receives: CRCERR counts, slots are discarded from here on, the
replay cache stays, one reply goes out with BAD_CRC, the computed CRC and the opcode and tag of the request, and no other word and no memory changes.
A request that the device receives and whose framing fails is executed and answered as without the error, or answered with BAD_CRC if its CRC fails too, and then
FRAMERR counts and word lock drops. A request with an opcode that the table does not assign is answered with BAD_OPCODE and changes no word and no memory.
Which requests Cellar holds at an instant is the environment's operand (log entry 7). -/
def Obligations.LinkErrorsAreCountedAndAnswered : Prop :=
  (∀ s : State, up s.chip → ∃ d : Chip, exec .wordLock s = .next (s.still d) ∧ d.is F.DEV_TLK_LOCK = true ∧
      (∀ g : Fld, g.addr ≠ 0xA ∨ 1 ≤ g.lo → d.get g = s.chip.get g)) ∧
    (∀ s : State, up s.chip → heldFull s.chip = true → ∃ d : Chip, exec .linkOvr s = .next (s.still d) ∧
      d.get F.DEV_TLK_OVERRUN = min (s.chip.get F.DEV_TLK_OVERRUN + 1) 255 ∧ (d.rd 0x10).field 2 1 = 1 ∧ sameBut [0xA, 0x10] s.chip d) ∧
    (∀ (s : State) (op : BitVec 8) (q : Req) (computed : BitVec 32), listening q s.chip = true →
      ∃ d : Chip, exec (.badCrc op q computed) s = .next (s.still d) ∧
        d.get F.DEV_TLK_CRCERR = min (s.chip.get F.DEV_TLK_CRCERR + 1) 255 ∧ d.link.skipping = true ∧ d.link.cache = s.chip.link.cache ∧
        d.link.sent = replyPacket op.toNat q.tag.toNat q.hdr.toNat [BitVec.ofNat 48 (0x10 + computed.toNat * 2 ^ 8)] :: s.chip.link.sent ∧
        sameBut [0xA] s.chip d) ∧
    (∀ (s : State) (op : BitVec 8) (q : Req), listening q s.chip = true →
      exec (.framingError op q none) s = .next (s.acted (((receiveAny op.toNat q s.chip).countSat F.DEV_TLK_FRAMERR 1).setb F.DEV_TLK_LOCK false))) ∧
    (∀ (s : State) (op : BitVec 8) (q : Req) (computed : BitVec 32), listening q s.chip = true →
      exec (.framingError op q (some computed)) s =
        .next (s.acted (((badCrc op.toNat q computed s.chip).countSat F.DEV_TLK_FRAMERR 1).setb F.DEV_TLK_LOCK false))) ∧
    (∀ (s : State) (op : BitVec 8) (q : Req), assigned op.toNat = false → serves op.toNat q s.chip = true →
      ∃ d : Chip, exec (.badOpcode op q) s = .next (s.acted d) ∧
        d.link.sent = replyPacket op.toNat q.tag.toNat q.hdr.toNat [0x11] :: s.chip.link.sent ∧ sameWords s.chip d)

/-- While the device receives no packet (in RESET, without word lock, or while slots are discarded and no two IDLE words stood before), a
request has no effect and no reply: what follows is what would follow of itself. A read request leaves the whole state as it is. -/
def Obligations.UnheardRequestsChangeNothing : Prop :=
  ∀ (s : State) (q : Req), listening q s.chip = false →
    (exec (.ping q) s = .next s ∧ exec (.read q) s = .next s ∧ exec (.readBlock q) s = .next s ∧ exec (.modeStatus q) s = .next s) ∧
      ∀ i ∈ [Instr.write q, .writeBlock q, .maskedWrite q, .commit q, .modeRequest q, .setpoint q, .eventReadClear q, .storeSave q, .storeRestore q,
          .storeErase q, .sealOpen q, .sealClose q, .safeParamConfirm q, .meterRead q, .meterSessionOpen q, .meterSessionClose q, .meterSessionQuery q,
          .meterRecord q, .bistRunLane q, .bistRunScrub q, .fuseAll q, .fuseOne q, .timeSet q, .timeAdjustStep q, .timeAdjustSlew q, .timeAdjustRate q,
          .busSend q, .busReceive q, .busAck q, .patchLoad q, .resetOp q], exec i s = .next (s.acted s.chip)

/-- A retry that the replay cache holds is not executed again, whether hardware or Cellar serves its opcode: its cached reply goes out with tag bit [7] set, and every
word, every memory and the cache stay. The entry it matches has its opcode, its tag bits [6:0] and its CRC word as the retry CRC. A request with tag bit [7] set that
matches no entry, like one with tag bit [7] clear, is executed as a new request.
An executed request enters the replay cache when its reply is at most 16 words long, the newest first, and at most 16 entries stay; with a longer reply it does
not enter. MODE_REQUEST, SETPOINT, STORE_SAVE and TIME_SET are received so.
The clauses are for a request that is served at once: eight others are not waiting, and Cellar holds none before its own. -/
def Obligations.RetriesAreAnsweredFromTheCache : Prop :=
  (∀ (op : Nat) (f : Handler) (q : Req) (c r : Chip) (e : CacheEntry), listening q c = true → heldFull c = false →
    (r = receive op f q c ∨ (r = receiveC op f q c ∧ q.later = false ∧ c.link.held = [])) → replayOf (heard op c) op q = some e →
    r.link.sent = replyPacket op (e.tag ||| 0x80) e.hdr e.payload :: c.link.sent ∧
      r.link.cache = c.link.cache ∧ sameWords c r ∧ q.tag.getLsbD 7 = true ∧ e ∈ c.link.cache ∧
      e.op = op ∧ e.tag = q.tag.toNat % 128 ∧ e.retryCrc = retryCrc op q) ∧
    (∀ (op : Nat) (q : Req) (c : Chip), listening q c = true → heldFull c = false →
      (q.tag.getLsbD 7 = false ∨ ∀ e ∈ c.link.cache, ¬(e.op = op ∧ e.tag = q.tag.toNat % 128 ∧ e.retryCrc = retryCrc op q)) → serves op q c = true) ∧
    (∀ (op : Nat) (f : Handler) (q : Req) (c r : Chip),
      (serves op q c = true ∧ r = receive op f q c) ∨ (servesC op q c = true ∧ r = receiveC op f q c) →
      r.link.sent = replyPacket op q.tag.toNat q.hdr.toNat (f q (heard op c)).1 :: (f q (heard op c)).2.link.sent ∧
      (((f q (heard op c)).1).length ≤ 16 → r.link.cache =
        (⟨op, q.tag.toNat % 128, retryCrc op q, q.hdr.toNat, (f q (heard op c)).1⟩ :: (f q (heard op c)).2.link.cache).take 16) ∧
      (16 < ((f q (heard op c)).1).length → r.link.cache = (f q (heard op c)).2.link.cache)) ∧
    (∀ (s : State) (q : Req),
      exec (.modeRequest q) s = .next (s.acted (receiveC 0x10 modeRequest q s.chip)) ∧
        exec (.setpoint q) s = .next (s.acted (receive 0x12 setpointOp q s.chip)) ∧
        exec (.storeSave q) s = .next (s.acted (receiveC 0x20 storeSave q s.chip)) ∧
        exec (.timeSet q) s = .next (s.acted (receiveC 0x50 timeSetOp q s.chip)))

/-! ### The requests that read (R50, R62, R65) -/

/-- PING answers OK with DEV.IDENT, and MODE_STATUS answers OK with DEV.MODE and DEV.AXST, when the length is 0 and the header bits are 0; with another length each answers
BAD_LENGTH with the length, with length 0 and other header bits BAD_ADDRESS with the header. These answers change no word and no memory.
READ_BLOCK of one to 255 words none of which is refused, its count word and its length of 1 as they must be, answers OK and the words read one after another in ascending
order, each as a host reads it after the reads before it. -/
def Obligations.PingModeStatusAndReadBlockAnswer : Prop :=
  (∀ (s : State) (q : Req), serves 0x01 q s.chip = true → q.len = 0 → q.hdr = 0 →
      exec (.ping q) s = .next (s.still (answer 0x01 q ([0, hostWord (heard 0x01 s.chip) 0], heard 0x01 s.chip)))) ∧
    (∀ (s : State) (q : Req), serves 0x11 q s.chip = true → q.len = 0 → q.hdr = 0 →
      exec (.modeStatus q) s =
        .next (s.still (answer 0x11 q ([0, hostWord (heard 0x11 s.chip) 8, hostWord (heard 0x11 s.chip) 9], heard 0x11 s.chip)))) ∧
    (∀ (s : State) (q : Req), serves 0x01 q s.chip = true → q.len ≠ 0 →
      exec (.ping q) s = .next (s.still (answer 0x01 q ([BitVec.ofNat 48 (0x12 + q.len.toNat * 2 ^ 8)], heard 0x01 s.chip)))) ∧
    (∀ (s : State) (q : Req), serves 0x11 q s.chip = true → q.len ≠ 0 →
      exec (.modeStatus q) s = .next (s.still (answer 0x11 q ([BitVec.ofNat 48 (0x12 + q.len.toNat * 2 ^ 8)], heard 0x11 s.chip)))) ∧
    (∀ (s : State) (q : Req), serves 0x01 q s.chip = true → q.len = 0 → q.hdr ≠ 0 →
      exec (.ping q) s = .next (s.still (answer 0x01 q ([BitVec.ofNat 48 (0x13 + q.hdr.toNat * 2 ^ 8)], heard 0x01 s.chip)))) ∧
    (∀ (s : State) (q : Req), serves 0x11 q s.chip = true → q.len = 0 → q.hdr ≠ 0 →
      exec (.modeStatus q) s = .next (s.still (answer 0x11 q ([BitVec.ofNat 48 (0x13 + q.hdr.toNat * 2 ^ 8)], heard 0x11 s.chip)))) ∧
    (∀ (op : Nat) (q : Req) (c : Chip) (l : List Word), sameWords c (answer op q (l, heard op c))) ∧
    (∀ (s : State) (q : Req), serves 0x04 q s.chip = true → q.len = 1 → 1 ≤ (q.word 0).toNat → (q.word 0).toNat ≤ 255 →
    blockRefusal q.hdr.toNat (readRefusal (heard 0x04 s.chip)) (q.word 0).toNat = none →
    ∃ (ws : List Word) (d : Chip),
      readAll ((List.range (q.word 0).toNat).map (q.hdr.toNat + ·)) (heard 0x04 s.chip) = (ws, d) ∧ ws.length = (q.word 0).toNat ∧
      exec (.readBlock q) s = .next (s.still (answer 0x04 q (0 :: ws, d)))) ∧
    (∀ (a : Nat) (l : List Nat) (c : Chip), readAll [] c = ([], c) ∧
      readAll (a :: l) c = (hostWord c a :: (readAll l (clearRc a c)).1, (readAll l (clearRc a c)).2))

/-- READ answers OK with the word as a host reads it, and clears the RC fields of the word read, and no other word or memory changes, but that a READ of a capture
value clears the VALID flag of its unit; an address that no word map lists answers BAD_ADDRESS with the address and reads nothing.
A READ of the first word of a two-word quantity (the serial number, the energy registers) holds the other word as it stands then, beside what is held of the
other quantities; a READ of that other word that follows returns the held value, and lets it go. -/
def Obligations.ReadsAnswerTheWordCoherently : Prop :=
  (∀ (s : State) (q : Req), serves 0x02 q s.chip = true → q.len = 0 → readRefusal (heard 0x02 s.chip) q.hdr.toNat = none →
      exec (.read q) s = .next (s.still (answer 0x02 q
        ([0, (readLatched q.hdr.toNat (heard 0x02 s.chip)).1], (readLatched q.hdr.toNat (heard 0x02 s.chip)).2)))) ∧
    (∀ (a : Nat) (c : Chip), latchesRest a = false → c.link.latch.find? (fun e => e.1 == a) = none →
      (readLatched a c).1 = hostWord c a) ∧
    (∀ (a : Nat) (c : Chip), (a < 0x20040 ∨ 0x20060 ≤ a) →
      (readLatched a c).2.rd a = c.rd a &&& ~~~(accMask a .rc) ∧ sameBut [a] c (readLatched a c).2) ∧
    (∀ (n : Nat) (c : Chip), n < 16 →
      (readLatched (F.NWT_NCAPn_VAL n) c).2.is (F.NWT_NCAPn_CTL_VALID n) = false ∧
        sameBut [F.NWT_NCAPn_VAL n, (F.NWT_NCAPn_CTL_VALID n).addr] c (readLatched (F.NWT_NCAPn_VAL n) c).2) ∧
    (∀ (s : State) (q : Req), serves 0x02 q s.chip = true → q.len = 0 → meterDenied (heard 0x02 s.chip) q.hdr.toNat = false →
      listed q.hdr.toNat = false →
      exec (.read q) s = .next (s.still (answer 0x02 q ([BitVec.ofNat 48 (0x13 + q.hdr.toNat * 2 ^ 8)], heard 0x02 s.chip)))) ∧
    (∀ (a : Nat) (c : Chip), latchesRest a = true →
      (readLatched a c).1 = hostWord c a ∧
        (readLatched a c).2.link.latch = (a + 1, hostWord c (a + 1)) :: c.link.latch.filter (fun e => e.1 != a + 1)) ∧
    (∀ (a : Nat) (w : Word) (c : Chip), latchesRest a = false → c.link.latch.find? (fun e => e.1 == a) = some (a, w) →
      (readLatched a c).1 = w ∧ (readLatched a c).2.link.latch = c.link.latch.filter (fun e => e.1 != a)) ∧
    (∀ a : Nat, latchesRest a = true ↔ a = 0x000001 ∨ a = 0x100010 ∨ a = 0x100012)
/-! ### The requests that write (R16, R17, R62, R63, R65) -/

/-- WRITE and MASKED_WRITE with one and two payload words, of a word none of whose checks refuses the write, answer OK and write the value, or its masked bits; a
refused one changes no word and answers with the status of the refusal. A register write, a host write named by its word, writes the same without an answer where
it is accepted, and has no effect where it is not.
What is written: outside the lane and ZMEM windows the writable fields of the word change, but for flags whose clearing their rule makes conditional, and then the effect
that the word's rule attaches follows; words of MTR, NVS and BST have no such effect. -/
def Obligations.WritesStoreTheValue : Prop :=
  (∀ (s : State) (q : Req), serves 0x03 q s.chip = true → q.len = 1 →
      writeFails (heard 0x03 s.chip) q.hdr.toNat (BitVec.allOnes 48) (q.word 0) = none →
      exec (.write q) s = .next (s.acted (answer 0x03 q
        ([0], writeWords [(q.hdr.toNat, BitVec.allOnes 48, q.word 0)] (heard 0x03 s.chip))))) ∧
    (∀ (s : State) (q : Req), serves 0x06 q s.chip = true → q.len = 2 →
      writeFails (heard 0x06 s.chip) q.hdr.toNat (q.word 0) (q.word 1) = none →
      exec (.maskedWrite q) s = .next (s.acted (answer 0x06 q
        ([0], writeWords [(q.hdr.toNat, q.word 0, q.word 1)] (heard 0x06 s.chip))))) ∧
    (∀ (s : State) (q : Req) (w : Word), serves 0x03 q s.chip = true → q.len = 1 →
      writeFails (heard 0x03 s.chip) q.hdr.toNat (BitVec.allOnes 48) (q.word 0) = some w →
      exec (.write q) s = .next (s.acted (answer 0x03 q ([w], heard 0x03 s.chip)))) ∧
    (∀ (s : State) (q : Req) (w : Word), serves 0x06 q s.chip = true → q.len = 2 →
      writeFails (heard 0x06 s.chip) q.hdr.toNat (q.word 0) (q.word 1) = some w →
      exec (.maskedWrite q) s = .next (s.acted (answer 0x06 q ([w], heard 0x06 s.chip)))) ∧
    (∀ (op : Nat) (q : Req) (c : Chip) (l : List Word), sameWords c (answer op q (l, heard op c))) ∧
    (∀ (s : State) (a : BitVec 24) (mask v : Word), accepts s.chip a.toNat mask v = true →
      exec (.registerWrite a mask v) s = .next (s.acted (writeWords [(a.toNat, mask, v)] s.chip))) ∧
    (∀ (s : State) (a : BitVec 24) (mask v : Word), accepts s.chip a.toNat mask v = false →
      exec (.registerWrite a mask v) s = .next (s.acted s.chip)) ∧
    (∀ (a : Nat) (mask v : Word) (c : Chip) (d : WordDef), wordAt a = some d → (a < 0x78000 ∨ 0x90000 ≤ a) →
      writeWords [(a, mask, v)] c = wordTaken a (c.rd a) (mask &&& v)
        (c.wr a ((writtenWord c d a mask v &&& ~~~(keptW1c a)) ||| (c.rd a &&& keptW1c a)))) ∧
    (∀ (s : State) (a : BitVec 24) (mask v : Word) (d : WordDef), wordAt a.toNat = some d → 0x100000 ≤ a.toNat → a.toNat < 0x130000 →
      accepts s.chip a.toNat mask v = true →
      exec (.registerWrite a mask v) s = .next (s.acted (s.chip.wr a.toNat (writtenWord s.chip d a.toNat mask v))))

/-- What a write stores: an RW field takes the masked bits of the
value and keeps the others, a W1C bit is cleared where the masked value is 1 and nowhere else, an RO field keeps its value.
A host write reaches a field in the modes that its row allows: an RW field of a row marked C in CONFIG only, of a row marked CS in CONFIG
and STANDBY, of an unmarked row in every mode; a W1C bit in every mode; an RO, RI or RC field never; an SL field only with the seal of its part open.
That W1C bits are writable in every mode is the model's reading (log entry 61). -/
def Obligations.FieldsTakeWritesByAccessModeAndSeal : Prop :=
  (∀ (w v mask : Word) (lo n r : Nat) (m : When), lo + n ≤ 48 →
      (writeField v mask w (fd lo n .rw r m)).field lo n = ((w &&& ~~~mask) ||| (v &&& mask)).field lo n) ∧
    (∀ (w v mask : Word) (lo r : Nat) (m : When), lo < 48 →
      (writeField v mask w (fd lo 1 .w1c r m)).field lo 1 = if (v &&& mask).getLsbD lo then 0 else w.field lo 1) ∧
    (∀ (w v mask : Word) (lo n r : Nat) (m : When), writeField v mask w (fd lo n .ro r m) = w ∧ writeField v mask w (fd lo n .rc r m) = w ∧
      writeField v mask w (fd lo n .wo r m) = w) ∧
    (∀ (w v mask : Word) (f : FieldDef) (lo n : Nat), f.lo + f.width ≤ 48 → f.lo + f.width ≤ lo ∨ lo + n ≤ f.lo →
      (writeField v mask w f).field lo n = w.field lo n) ∧
    (∀ (c : Chip) (a : Nat) (f : FieldDef),
    (f.acc = .rw ∨ f.acc = .wo → (fieldWritable c a f = true ↔
      f.whn = .any ∨ (f.whn = .cfg ∧ c.mode = .config) ∨ (f.whn = .cs ∧ (c.mode = .config ∨ c.mode = .standby)))) ∧
      (f.acc = .w1c → fieldWritable c a f = true) ∧ (f.acc = .ro ∨ f.acc = .ri ∨ f.acc = .rc → fieldWritable c a f = false) ∧
      (f.acc = .sl → regionOf a = 0x10 → (fieldWritable c a f = true ↔ sealOpened c true = true)) ∧
      (f.acc = .sl → regionOf a ≠ 0x10 → fieldWritable c a f = true → sealOpened c false = true))

/-- WRITE_BLOCK of words that all pass their checks answers OK and applies the whole block; one word that fails refuses the whole block. COMMIT of a PWM
group, or of a Kerf table, answers OK and commits it, outside BOOT and LATCHED; any other object answers BAD_ADDRESS, and LATCHED answers MODE_REFUSED.
The detail of a block refusal is the model's reading (log entry 15). -/
def Obligations.BlocksAreWrittenWholeAndCommitsTaken : Prop :=
  (∀ (s : State) (q : Req), serves 0x05 q s.chip = true →
      blockRefusal q.hdr.toNat (fun b => writeFails (heard 0x05 s.chip) b (BitVec.allOnes 48) (q.word (b - q.hdr.toNat))) q.needed = none →
      exec (.writeBlock q) s = .next (s.acted (answer 0x05 q
        ([0], writeWords ((List.range q.needed).map (fun k => (q.hdr.toNat + k, BitVec.allOnes 48, q.word k))) (heard 0x05 s.chip))))) ∧
    (∀ (s : State) (q : Req) (w : Word), serves 0x05 q s.chip = true →
      blockRefusal q.hdr.toNat (fun b => writeFails (heard 0x05 s.chip) b (BitVec.allOnes 48) (q.word (b - q.hdr.toNat))) q.needed = some w →
      exec (.writeBlock q) s = .next (s.acted (answer 0x05 q ([w], heard 0x05 s.chip)))) ∧
    (∀ (s : State) (q : Req) (g : Fin 7), serves 0x08 q s.chip = true → q.len = 0 → s.chip.mode ≠ .boot → s.chip.mode ≠ .latched →
      q.hdr.toNat = 0x50004 + 0x20 * g.val →
      exec (.commit q) s = .next (s.acted (answer 0x08 q ([0], commitGroup g (heard 0x08 s.chip))))) ∧
    (∀ (s : State) (q : Req) (n : Fin 6), serves 0x08 q s.chip = true → q.len = 0 → s.chip.mode ≠ .boot → s.chip.mode ≠ .latched →
      q.hdr.toNat = 0x30404 + 0x20 * n.val →
      exec (.commit q) s = .next (s.acted (answer 0x08 q ([0], commitKerf n (heard 0x08 s.chip)))) ∧
        (commitKerf n (heard 0x08 s.chip)).is (F.KT_COMMIT_PENDING n) = true) ∧
    (∀ (s : State) (q : Req), serves 0x08 q s.chip = true → q.len = 0 → s.chip.mode = .latched → (commitObject q.hdr.toNat).isSome = true →
      exec (.commit q) s = .next (s.acted (answer 0x08 q ([0xB20], heard 0x08 s.chip)))) ∧
    (∀ (s : State) (q : Req), serves 0x08 q s.chip = true → q.len = 0 → commitObject q.hdr.toNat = none →
      exec (.commit q) s = .next (s.acted (answer 0x08 q ([BitVec.ofNat 48 (0x13 + q.hdr.toNat * 2 ^ 8)], heard 0x08 s.chip))))

/-- EVENT_READ_CLEAR returns DEV.EVTn and clears exactly the bits of it that the clear mask names; every other word and every memory stays.
SETPOINT with one word for each axis of its mask, which no check refuses, gives each axis its word, in ascending axis order; a wrong number of words answers
BAD_LENGTH, and STANDBY answers MODE_REFUSED when the mask names an axis and the number of words is right. -/
def Obligations.EventReadClearAndSetpoint : Prop :=
  (∀ (s : State) (q : Req), serves 0x18 q s.chip = true → q.len = 1 → q.hdr.toNat < 4 →
    ∃ d : Chip, exec (.eventReadClear q) s = .next (s.acted (answer 0x18 q ([0, hostWord (heard 0x18 s.chip) (0x10 + q.hdr.toNat)], d))) ∧
      d.rd (0x10 + q.hdr.toNat) = s.chip.rd (0x10 + q.hdr.toNat) &&& ~~~(q.word 0) ∧ sameBut [0x10 + q.hdr.toNat] s.chip d) ∧
    (∀ (s : State) (q : Req), serves 0x12 q s.chip = true → q.hdr.toNat < 16 → q.len.toNat = (axesOf q.hdr.toNat).length →
      setpointRefusal (heard 0x12 s.chip) q.hdr.toNat = none →
      exec (.setpoint q) s = .next (s.acted (answer 0x12 q ([0],
        (heard 0x12 s.chip).forEach (axesOf q.hdr.toNat).zipIdx (fun e c => takeSetpoint e.1 (q.word e.2) c))))) ∧
    (∀ (s : State) (q : Req), serves 0x12 q s.chip = true → q.hdr.toNat < 16 → q.len.toNat ≠ (axesOf q.hdr.toNat).length →
      exec (.setpoint q) s = .next (s.acted (answer 0x12 q ([BitVec.ofNat 48 (0x12 + q.len.toNat * 2 ^ 8)], heard 0x12 s.chip)))) ∧
    (∀ (s : State) (q : Req), serves 0x12 q s.chip = true → q.hdr.toNat < 16 → q.len.toNat = (axesOf q.hdr.toNat).length → q.hdr.toNat ≠ 0 →
      s.chip.mode = .standby →
      exec (.setpoint q) s = .next (s.acted (answer 0x12 q ([0x420], heard 0x12 s.chip)))) ∧
    (∀ (a m : Nat), a ∈ axesOf m ↔ a < 4 ∧ Nat.bitAt m a = true)

/-! ### Modes (01_operating_modes) -/

/-- A mode request that Cellar serves at once, with its unused bits zero, is judged, and answered as it is judged. In the order in which it is judged: LATCHED
refuses it, BOOT refuses it, a target or field that is not allowed, a stop that has not finished or learning that still ends, the request for the other of DRIVE and
CHARGE, a transition that the table does not list, and then the conditions of the transition, of which the lowest reason is given. A request for the present mode without
an axis command, which none of the first four refuses, is answered OK. A request for another mode that no check refuses is executed, and answered OK, or
ACCEPTED_PENDING while a controlled stop runs; the one out of CONFIG to STANDBY is judged, and executed, after the configuration check has been run and recorded, which is
the model's reading (log entry 23). A refusal changes no word but LASTREF and LASTREQ of DEV.MODE, which record the reason and the target. -/
def Obligations.ModeRequestsAreJudged : Prop :=
  (∀ (s : State) (q : Req), servesC 0x10 q s.chip = true → q.len = 1 → q.hdr = 0 → q.word 0 &&& 0xFFFFFFFF0000 = 0 →
      exec (.modeRequest q) s = .next (s.acted (answer 0x10 q (judgeMode (q.word 0) ⟨0x10, q.tag.toNat⟩ (heard 0x10 s.chip))))) ∧
    (∀ (c : Chip) (w : Word) (q : PendReq), c.mode ≠ .latched → c.mode ≠ .boot → c.mode ≠ .config → noSuchMode w = false →
      shutdownRunning c (mrTarget w) = false → learningEnds c w = false → mayGo c.mode (Mode.ofCode (mrTarget w)) = true →
      lowestReason (conditionReasons c w) = none →
      judgeMode w q c = ([if (goMode w q c).1 then 0 else 1], (goMode w q c).2)) ∧
    (∀ (c : Chip) (w : Word) (q : PendReq), c.mode = .config → mrTarget w = 4 → c.is F.DEV_CFGCHK_BUSY = false →
      lowestReason (conditionReasons (runCheck c) w) = none → judgeMode w q c = ([0], enterMode .standby .host (runCheck c))) ∧
    (∀ (t r : Nat) (c : Chip), t < 16 → r < 32 →
      (modeRefused t r c).2.get F.DEV_MODE_LASTREF = r ∧ (modeRefused t r c).2.get F.DEV_MODE_LASTREQ = t ∧
        (modeRefused t r c).2.mode = c.mode ∧ sameBut [8] c (modeRefused t r c).2) ∧
    (∀ (c : Chip) (w : Word) (q : PendReq), c.mode = .latched → judgeMode w q c = modeRefused (mrTarget w) 0x10 c) ∧
    (∀ (c : Chip) (w : Word) (q : PendReq), c.mode = .boot → judgeMode w q c = modeRefused (mrTarget w) 0x11 c) ∧
    (∀ (c : Chip) (w : Word) (q : PendReq), c.mode ≠ .latched → c.mode ≠ .boot → noSuchMode w = true → judgeMode w q c = modeRefused (mrTarget w) 1 c) ∧
    (∀ (c : Chip) (w : Word) (q : PendReq), c.mode ≠ .latched → c.mode ≠ .boot → noSuchMode w = false →
      (shutdownRunning c (mrTarget w) = true ∨ learningEnds c w = true) → judgeMode w q c = modeRefused (mrTarget w) 0xD c) ∧
    (∀ (c : Chip) (w : Word) (q : PendReq), c.mode ≠ .latched → c.mode ≠ .boot → noSuchMode w = false → shutdownRunning c (mrTarget w) = false →
      learningEnds c w = false →
      (Mode.ofCode (mrTarget w) = c.mode → ((c.mode ≠ .drive ∧ c.mode ≠ .charge) ∨ mrCmd w = 0) → (judgeMode w q c).1 = [0]) ∧
      ((c.mode = .drive ∧ mrTarget w = 8) ∨ (c.mode = .charge ∧ mrTarget w = 7) → judgeMode w q c = modeRefused (mrTarget w) 3 c) ∧
      (Mode.ofCode (mrTarget w) ≠ c.mode → ¬(c.mode = .drive ∧ mrTarget w = 8) → ¬(c.mode = .charge ∧ mrTarget w = 7) →
        mayGo c.mode (Mode.ofCode (mrTarget w)) = false → judgeMode w q c = modeRefused (mrTarget w) 2 c) ∧
      (∀ r : Nat, c.mode ≠ .config → mayGo c.mode (Mode.ofCode (mrTarget w)) = true → lowestReason (conditionReasons c w) = some r →
        judgeMode w q c = modeRefused (mrTarget w) r c))

/-- The transitions that a host may request are those of the table of R31 and no others: from CONFIG to STANDBY and SELFTEST, from STANDBY to SELFTEST, CONFIG, PRECHARGE,
IDENTIFY, DRIVE, CHARGE and DISCHARGE, from PRECHARGE, IDENTIFY, DRIVE and CHARGE to STANDBY and SAFESTOP, from PRECHARGE to DISCHARGE, from DISCHARGE to SAFESTOP, and
from SAFESTOP to STANDBY and DISCHARGE. From LATCHED no mode is requested. -/
def Obligations.OnlyTheListedTransitionsAreRequested : Prop :=
  ∀ a b : Mode, mayGo a b = true ↔
    (a = .config ∧ (b = .standby ∨ b = .selftest)) ∨
    (a = .standby ∧ (b = .selftest ∨ b = .config ∨ b = .precharge ∨ b = .identify ∨ b = .drive ∨ b = .charge ∨ b = .discharge)) ∨
    (a = .precharge ∧ (b = .standby ∨ b = .safestop ∨ b = .discharge)) ∨
    ((a = .identify ∨ a = .drive ∨ a = .charge) ∧ (b = .standby ∨ b = .safestop)) ∨
    (a = .discharge ∧ b = .safestop) ∨ (a = .safestop ∧ (b = .standby ∨ b = .discharge))

/-- RESET with the confirmation word, outside BOOT and LATCHED, answers OK and waits for its reply, no word changing; when the reply has been sent the device
enters RESET, as by the reset source RESET opcode, which RSTLOG will show. A wrong word
answers ACCESS_DENIED, and nothing is armed. In the RESET so entered RSTOUT_N is low, HREQ_N is released and HDOP is a constant 0. -/
def Obligations.ResetFollowsItsReply : Prop :=
  (∀ (s : State) (q : Req), servesC 0x7F q s.chip = true → q.len = 1 → q.hdr = 0 → s.chip.mode ≠ .boot → s.chip.mode ≠ .latched →
      q.word 0 = 0xFFFFFF →
      ∃ d : Chip, exec (.resetOp q) s = .next (s.acted (answer 0x7F q ([0], d))) ∧ d.link.resetArmed = true ∧ sameWords s.chip d) ∧
    (∀ (s : State) (q : Req), servesC 0x7F q s.chip = true → q.len = 1 → q.hdr = 0 → s.chip.mode ≠ .boot → s.chip.mode ≠ .latched →
      q.word 0 ≠ 0xFFFFFF → exec (.resetOp q) s = .next (s.acted (answer 0x7F q ([0x14], heard 0x7F s.chip))) ∧
        (answer 0x7F q ([0x14], heard 0x7F s.chip)).link.resetArmed = s.chip.link.resetArmed) ∧
    (∀ s : State, s.chip.link.resetArmed = true → exec .resetAfterReply s = .next (s.acted (resetSource 7 false s.chip))) ∧
    (∀ c : Chip, (resetSource 7 false c).mode = .reset ∧ (resetSource 7 false c).clk.logged.getLsbD 7 = true ∧
      rstoutLow (resetSource 7 false c) = true ∧ hreqLow (resetSource 7 false c) = false ∧ hdopIdle (resetSource 7 false c) = none)
/-! ### The host writes that the table names by their word -/

/-- Accepted writes of DEV.HRQ, DEV.CFGCHK, CLK.CFG, ADC.CFG, ADC.SWTRG, NWT.CFG and of EXPIRED take the effects their rules attach: SWSET sets the
event SWEV; RUN starts the configuration check in CONFIG; the taken rate, the trim source and the reference are chosen anew, and with them HOLDOVER shows that no
source trims; another reference selection becomes REFACT, with REF_SETTLED 0 until it settles (but for the fall-back when the external reference is outside its limits);
every set with its bit written 1 is triggered, and an enabled set without a run begins one in the modes in which sets run; a change of ROLE is taken: SRV becomes 1 in a
slave role and 0 else; EXPIRED is cleared, and in DRIVE or CHARGE with ENABLE the watchdog counts again. -/
def Obligations.DeviceClockAndAcquisitionWritesTakeEffect : Prop :=
  (∀ (s : State) (v : Word), acceptsWord s.chip 0x18 v = true → v.getLsbD 8 = true →
      exec (.swset v) s = .next (s.acted (wrote s.chip 0x18 v).evSw) ∧ (wrote s.chip 0x18 v).evSw.is F.DEV_EVT0_SWEV = true ∧
        sameBut [0x18, 0x10] s.chip (wrote s.chip 0x18 v).evSw) ∧
    (∀ (s : State) (v : Word), acceptsWord s.chip 0x1B v = true → v.getLsbD 41 = true → s.chip.mode = .config →
      ∃ d : Chip, exec (.cfgchkRun v) s = .next (s.acted d) ∧ d.is F.DEV_CFGCHK_BUSY = true ∧ d.ms.checkRunning = true ∧ sameBut [0x1B] s.chip d) ∧
    (∀ (s : State) (v : Word), acceptsWord s.chip 0x10000 v = true →
      exec (.clkCfgWrite v) s = .next (s.acted (chooseRef (chooseTrim (takeRate (wrote s.chip 0x10000 v)))))) ∧
    (∀ c : Chip, (chooseTrim c).get F.CLK_STAT_TRIMSRC = trimSource c % 4 ∧ (chooseTrim c).is F.CLK_STAT_HOLDOVER = (trimSource c == 0)) ∧
    (∀ (s : State) (v : Word), acceptsWord s.chip 0x40000 v = true →
      exec (.adcCfgWrite v) s = .next (s.acted (refSelected (wrote s.chip 0x40000 v)))) ∧
    (∀ c : Chip, refOf (c.get F.ADC_CFG_REFSEL) ≠ c.get F.ADC_STAT_REFACT →
      (refOf (c.get F.ADC_CFG_REFSEL) ≠ 1 ∨ c.is F.ADC_STAT_REFPOK = true) →
      (refSelected c).get F.ADC_STAT_REFACT = refOf (c.get F.ADC_CFG_REFSEL) ∧ (refSelected c).is F.ADC_STAT_REF_SETTLED = false) ∧
    (∀ (s : State) (v : Word), acceptsWord s.chip 0x40002 v = true →
      exec (.adcSwtrg v) s = .next (s.acted ((wrote s.chip 0x40002 v).forN 16 (fun k c => if v.getLsbD k then triggerSet k c else c)))) ∧
    (∀ (k : Nat) (c : Chip), k < c.adc.runs.length → runMode c.mode = true → c.is (F.ADC_SET_CFG_EN k) = true → setRun c k = none →
      ∃ r : SetRun, setRun (triggerSet k c) k = some r ∧ r.cfg = c.rd (F.ADC_SET_CFG k)) ∧
    (∀ (s : State) (v : Word), acceptsWord s.chip 0x20001 v = true →
      exec (.roleWrite v) s = .next (s.acted (roleChanged (s.chip.get F.NWT_CFG_ROLE) (wrote s.chip 0x20001 v)))) ∧
    (∀ (old : Nat) (c : Chip), old < 3 → c.get F.NWT_CFG_ROLE < 3 → old ≠ c.get F.NWT_CFG_ROLE →
      (roleChanged old c).get F.NWT_STAT_SRV = (if isSlave c then 1 else 0)) ∧
    (∀ s : State, accepts s.chip 0xB (oneBit F.DEV_HWD_EXPIRED) (oneBit F.DEV_HWD_EXPIRED) = true → s.chip.is F.DEV_HWD_EXPIRED = true →
      ∃ d : Chip, exec .expiredClear s = .next (s.acted d) ∧ d.is F.DEV_HWD_EXPIRED = false ∧ sameBut [0xB] s.chip d ∧
        ((s.chip.mode = .drive ∨ s.chip.mode = .charge) → s.chip.is F.DEV_HWD_ENABLE = true → d.ms.hwdRunning = true))

/-- Accepted writes of PWM.XCOMMIT, GDS.Gg.CTL, ZEN.SWTRG, ZEN.PGRST and ZEN.MIG take the effects their rules attach: the groups of the mask commit in the same
cycle, each taking its staged words as the set that waits for its update point; CLR clears the fault of a group that nothing holds, and is refused, which CLRREF records, for
a group that GLOCK locks; RELOAD loads the start codes, within their clamps, and queues them; every program with its bit written 1 starts, or is reset; REQ, in a mode in which
programs run, with a spare lane, no migration under way and its logical lane mapped, begins the copy of that lane to the spare, and is recorded in MIGREF while one is under way. -/
def Obligations.PwmGateAndEngineWritesTakeEffect : Prop :=
  (∀ (s : State) (v : Word), acceptsWord s.chip 0x50300 v = true →
      exec (.xcommit v) s = .next (s.acted ((wrote s.chip 0x50300 v).forN 7 (fun g c => if Nat.bitAt (v.field 0 7) g then commitGroup g c else c)))) ∧
    (∀ (g : Fin 7) (c : Chip), g.val < c.pwmG.length → anyStaged (c.pwmg g).marks = true →
      ((commitGroup g c).pwmg g).pend.isSome = true ∧ anyStaged ((commitGroup g c).pwmg g).marks = false) ∧
    (∀ (s : State) (g : Fin 7), acceptsWord s.chip (0x60004 + 0x10 * g) 1 = true →
      exec (.gdsClr g) s = .next (s.acted (gdsClear g (wrote s.chip (0x60004 + 0x10 * g) 1)))) ∧
    (∀ (g : Fin 7) (c : Chip), c.is (F.GDS_G_STAT_FAULT g) = true → c.is (F.GDS_G_STAT_GLOCK g) = false → tripActive c g = false →
      (∀ n ∈ legsOf g, c.is (F.GDS_L_FLT_LIVEDS n) = false ∧ interlocked c n = false) → (gdsClear g c).is (F.GDS_G_STAT_FAULT g) = false) ∧
    (∀ (s : State) (g : Fin 7), acceptsWord s.chip (0x60004 + 0x10 * g) 2 = true →
      exec (.reload g) s = .next (s.acted (queueAll g ((wrote s.chip (0x60004 + 0x10 * g) 2).forEach (legsOf g) loadStartCodes)))) ∧
    (∀ (s : State) (v : Word), acceptsWord s.chip 0x70004 v = true →
      exec (.zenSwtrg false v) s = .next (s.acted (startMask 0 48 v (wrote s.chip 0x70004 v)))) ∧
    (∀ (s : State) (v : Word), acceptsWord s.chip 0x70005 v = true →
      exec (.zenSwtrg true v) s = .next (s.acted (startMask 48 16 v (wrote s.chip 0x70005 v)))) ∧
    (∀ (s : State) (v : Word), acceptsWord s.chip 0x70006 v = true →
      ∃ d : Chip, exec (.pgrst false v) s = .next (s.acted d) ∧ ∀ p : Nat, p < 48 → v.getLsbD p = true → d.zen.pgrst.getLsbD p = true) ∧
    (∀ (s : State) (v : Word), acceptsWord s.chip 0x70007 v = true →
      ∃ d : Chip, exec (.pgrst true v) s = .next (s.acted d) ∧ ∀ p : Nat, p < 16 → v.getLsbD p = true → d.zen.pgrst.getLsbD (48 + p) = true) ∧
    (∀ (s : State) (v : Word), acceptsWord s.chip 0x70002 v = true → v.getLsbD 15 = true →
      exec (.migReq v) s = .next (s.acted (requestMigration (v.field 12 3) false (wrote s.chip 0x70002 v)))) ∧
    (∀ (j d z : Nat) (bist : Bool) (c : Chip), spareLane c = some d → physLane c j = some z → c.get F.ZEN_MIG_PHASE = 0 → runMode c.mode = true →
      (requestMigration j bist c).get F.ZEN_MIG_PHASE = 1 ∧ (requestMigration j bist c).get F.ZEN_MIG_SRC = z % 16 ∧
        (requestMigration j bist c).get F.ZEN_MIG_DST = d % 16) ∧
    (∀ (j : Nat) (bist : Bool) (c : Chip), c.get F.ZEN_MIG_PHASE ≠ 0 → requestMigration j bist c = c.raise F.ZEN_STAT_MIGREF) ∧
    (∀ (g : Nat) (c : Chip), c.is (F.GDS_G_STAT_FAULT g) = true → c.is (F.GDS_G_STAT_GLOCK g) = true →
      (gdsClear g c).is (F.GDS_G_STAT_CLRREF g) = true ∧ sameBut [0x60003 + 0x10 * g] c (gdsClear g c))

/-- Accepted writes of ATn.MEAS, of a window bound, of SRCFLT, MOT.An.CTL, MOT.An.SMP, CNV.HGRANT, THM.EXCL, PRT.DFLT, CHFAIL and of a comparator threshold take the
effects their rules attach: a measurement is delivered to its tracker; the flag of the window follows the angle; with the primary source fresh the tracker returns to it;
CLR of a motor axis that is OFF and whose cause is gone clears AXFLT and CAUSE, and one of an axis that is not OFF is refused, which CLRREF records; a sample point places
its extra compare; a changed grant is GRANT; an exclusion and a protection flag are cleared where nothing holds them; CHFAIL is cleared when no leg latch of the chopper stands;
a comparator threshold is stored, and moves. -/
def Obligations.AngleAxisAndProtectionWritesTakeEffect : Prop :=
  (∀ (s : State) (n : Fin 6) (v : Word), acceptsWord s.chip (F.AT_MEAS n) v = true →
      exec (.measWrite n v) s = .next (s.acted (measWritten n (wrote s.chip (F.AT_MEAS n) v)))) ∧
    (∀ (s : State) (n : Fin 6) (w : Fin 4) (hi : Bool) (v : Word), acceptsWord s.chip (F.AT_WIN_LO n w + bit hi) v = true →
      exec (.winWrite n w hi v) s = .next (s.acted (recomputeWindow n w (wrote s.chip (F.AT_WIN_LO n w + bit hi) v)))) ∧
    (∀ (n : Fin 6) (w : Fin 4) (c : Chip), ((recomputeWindow n w c).get (F.AT_STAT_WIN n)).testBit w =
      inAngleWindow (c.rd (F.AT_WIN_LO n w)) (c.rd (F.AT_WIN_HI n w)) (c.rd (F.AT_ANG n)) (c.is (F.AT_STAT_DIR n))) ∧
    (∀ (s : State) (n : Fin 6), accepts s.chip (F.AT_STAT_SRCFLT n).addr (oneBit (F.AT_STAT_SRCFLT n)) (oneBit (F.AT_STAT_SRCFLT n)) = true →
      s.chip.is (F.AT_STAT_SRCFLT n) = true →
      ∃ d : Chip, exec (.srcfltClear n) s = .next (s.acted (srcfltCleared n d)) ∧ d.is (F.AT_STAT_SRCFLT n) = false ∧
        sameBut [(F.AT_STAT_SRCFLT n).addr] s.chip d ∧
        ((s.chip.tracker n).primFresh = true → (srcfltCleared n d).is (F.AT_STAT_ALTACT n) = false)) ∧
    (∀ (s : State) (a : Fin 4) (v : Word), acceptsWord s.chip (0x90008 + 0x40 * a) v = true → v.getLsbD 0 = true →
      exec (.motClr a v) s = .next (s.acted (motClear a (wrote s.chip (0x90008 + 0x40 * a) v)))) ∧
    (∀ (a : Nat) (c : Chip), c.sub a ≠ .off → (motClear a c).is (F.MOT_STAT_CLRREF a) = true ∧ sameBut [(F.MOT_STAT_CLRREF a).addr] c (motClear a c)) ∧
    (∀ (a : Fin 4) (c : Chip), c.sub a = .off → ascOn c a = false → axisGroupFault c a = false → c.get (F.MOT_STAT_CAUSE a) ≠ 2 →
      c.get (F.MOT_STAT_CAUSE a) ≠ 7 → (motClear a c).is (F.DEV_AXST_AXFLT a) = false ∧ (motClear a c).get (F.MOT_STAT_CAUSE a) = 0) ∧
    (∀ (s : State) (a : Fin 4) (v : Word), acceptsWord s.chip (0x90013 + 0x40 * a) v = true →
      exec (.smpWrite a v) s = .next (s.acted (placeSample a (wrote s.chip (0x90013 + 0x40 * a) v)))) ∧
    (∀ (s : State) (v : Word), acceptsWord s.chip 0xA0002 v = true →
      exec (.hgrantWrite v) s = .next (s.acted (grantUpdate false (wrote s.chip 0xA0002 v)))) ∧
    (∀ c : Chip, grantOf c = c.get F.CNV_BSTAT_GRANT → grantUpdate false c = c) ∧
    (∀ (s : State) (v : Word), acceptsWord s.chip 0xE0003 v = true →
      exec (.thmExclWrite v) s = .next (s.acted (exclWrite v (wrote s.chip 0xE0003 v)))) ∧
    (∀ (s : State) (v : Word), acceptsWord s.chip 0xB000C v = true →
      exec (.dfltClear v) s = .next (s.acted (dfltClear v (wrote s.chip 0xB000C v)))) ∧
    (∀ s : State, accepts s.chip 0xB000B (oneBit F.PRT_CHS_CHFAIL) (oneBit F.PRT_CHS_CHFAIL) = true →
      exec .chfailClear s = .next (s.acted (chfailClear (storeWord 0xB000B (oneBit F.PRT_CHS_CHFAIL) (oneBit F.PRT_CHS_CHFAIL) s.chip)))) ∧
    (∀ c : Chip, (∀ n : Nat, chopLeg c = some n → c.is (latchFld n true) = false ∧ c.is (latchFld n false) = false) →
      (chfailClear c).is F.PRT_CHS_CHFAIL = false) ∧
    (∀ (s : State) (w : Fin 24) (v : Word), acceptsWord s.chip (0x40800 + 2 * w) v = true →
      exec (.thrWrite w v) s = .next (s.acted (thrWritten w (s.chip.rd (0x40800 + 2 * w)) (wrote s.chip (0x40800 + 2 * w) v))))

/-- Accepted writes of the safety acknowledgements, of a password, of a selector word, of the counter controls and of a transmission abort take the effects their rules
attach: a software reset reaches the functions of the mask; RACK clears the demands that have been absent for 100 ms, and MISMATCH, and counts in ACKCNT; a password is
staged, a length of zero stages its removal; SNAP copies every counter; CLRL clears the
counters of its mask and no other; an abort reaches the buffers of its mask, and a buffer that is pending, or waits for an acknowledgement, is ABORTED at once; a selector word
holds what was written. -/
def Obligations.SafetySelectorAndCounterWritesTakeEffect : Prop :=
  (∀ (s : State) (v : Word), acceptsWord s.chip 0xD0003 v = true →
      exec (.srst v) s = .next (s.acted (srstWrite (v.field 0 8) (wrote s.chip 0xD0003 v)))) ∧
    (∀ (s : State) (v : Word), acceptsWord s.chip 0xD0140 v = true → v.getLsbD 0 = true →
      exec (.rack v) s = .next (s.acted (rackWrite (wrote s.chip 0xD0140 v))) ∧
        (rackWrite (wrote s.chip 0xD0140 v)).is F.SAF_DIAG_MISMATCH = false ∧
        (rackWrite (wrote s.chip 0xD0140 v)).get F.SAF_STAT_ACKCNT = ((wrote s.chip 0xD0140 v).get F.SAF_STAT_ACKCNT + 1) % 2 ^ F.SAF_STAT_ACKCNT.width) ∧
    (∀ (k : Nat) (c : Chip), k < 12 → ((rackWrite c).rd 0xC0001).getLsbD k = ((c.rd 0xC0001).getLsbD k &&
      (c.rind.cond.getLsbD k || decide (c.up - c.rind.absentAt.getD k 0 < cyclesMs 100)))) ∧
    (∀ (f mask : Nat) (c : Chip), f < 8 → f < c.rind.fns.length →
      (sinFn (srstWrite mask c) f).resetDue = (Nat.bitAt mask f || (sinFn c f).resetDue)) ∧
    (∀ c : Chip, (stagePassword 0 c).safe.stagedPw = some none) ∧
    (∀ (s : State) (v : Word), acceptsWord s.chip 0xD0006 v = true → v.getLsbD 8 = true →
      exec (.pwctlStg v) s = .next (s.acted (stagePassword (v.field 0 8) (wrote s.chip 0xD0006 v)))) ∧
    (∀ (s : State) (v : Word), acceptsWord s.chip 0xD0008 v = true →
      ∃ d : Chip, exec (.sinLogsel v) s = .next (s.acted d) ∧ d.get F.SIN_LOGSEL_IDX = v.field 0 10 ∧ sameBut [0xD0008] s.chip d) ∧
    (∀ (s : State) (v : Word), acceptsWord s.chip 0x100021 v = true →
      ∃ d : Chip, exec (.mtrLogsel v) s = .next (s.acted d) ∧ d.get F.MTR_LOGSEL_IDX = v.field 0 12 ∧ sameBut [0x100021] s.chip d) ∧
    (∀ (s : State) (v : Word), acceptsWord s.chip 0x110003 v = true →
      ∃ d : Chip, exec (.ufind v) s = .next (s.acted d) ∧ d.get F.NVS_UFIND_KEY = v.field 0 16 ∧ sameBut [0x110003] s.chip d) ∧
    (∀ (s : State) (v : Word), acceptsWord s.chip 0x120005 v = true →
      ∃ d : Chip, exec (.bstRsel v) s = .next (s.acted d) ∧ d.get F.BST_RSEL_IDX = v.field 0 6 ∧ sameBut [0x120005] s.chip d) ∧
    (∀ (s : State) (v : Word), acceptsWord s.chip 0x130002 v = true → v.getLsbD 32 = true →
      ∃ d : Chip, exec (.snap v) s = .next (s.acted d) ∧ d.obs.snp = s.chip.obs.cnt) ∧
    (∀ (s : State) (v : Word), acceptsWord s.chip 0x130002 v = true →
      ∃ d : Chip, exec (.clrl v) s = .next (s.acted d) ∧
        ∀ k : Nat, k < 64 → d.obs.cnt.getD k 0 = if k < 32 ∧ v.getLsbD k = true then 0 else s.chip.obs.cnt.getD k 0) ∧
    (∀ (s : State) (v : Word) (hi : Bool), acceptsWord s.chip (0x130140 + bit hi) v = true →
      ∃ d : Chip, exec (.clrh hi v) s = .next (s.acted d) ∧
        ∀ k : Nat, k < 64 → d.obs.cnt.getD k 0 =
          if 32 + 16 * bit hi ≤ k ∧ k < 48 + 16 * bit hi ∧ v.getLsbD (k - 16 * bit hi) = true then 0 else s.chip.obs.cnt.getD k 0) ∧
    (∀ (s : State) (u : Fin 2) (v : Word), acceptsWord s.chip (0xF0004 + 0x100 * u) v = true →
      exec (.abort u v) s = .next (s.acted ((wrote s.chip (0xF0004 + 0x100 * u) v).forN 3 (fun b c => if v.getLsbD b then abortBuf u b c else c)))) ∧
    (∀ (u : Fin 2) (b : Fin 3) (c : Chip), bufState c u b = 1 ∨ bufState c u b = 3 → bufState (abortBuf u b c) u b = 6)
/-! ### The requests for the store, the seals and the safety set -/

/-- STORE_SAVE, STORE_RESTORE and STORE_ERASE. A save of the configuration image is accepted in every mode but BOOT while the store window permits writing and no
store request runs, and its record is queued; a save of user data is made at once; outside the window each is refused with STORE_INHIBIT, and INHIB is raised with the event. A
restore in CONFIG of a slot whose record is valid is accepted and waits for the operation's end. An erase in CONFIG with the confirmation word answers OK and records itself in NVS.STAT.
That a refused request raises INHIB is the model's reading (log entry 21). -/
def Obligations.StoreRequestsAreTaken : Prop :=
  (∀ (s : State) (q : Req), servesC 0x20 q s.chip = true → q.len = 0 → (q.hdr.toNat = 0x100000 ∨ q.hdr.toNat = 0x140000 ∨ q.hdr.toNat = 0x180000) →
      s.chip.mode ≠ .boot → (heard 0x20 s.chip).nvm.host = none → canStore s.chip = true →
      exec (.storeSave q) s = .next (s.acted (answer 0x20 q (saveImage q (heard 0x20 s.chip)))) ∧ (saveImage q (heard 0x20 s.chip)).1 = [1]) ∧
    (∀ (s : State) (q : Req), servesC 0x20 q s.chip = true → selPart q.hdr.toNat = 2 → selectorBad q.hdr.toNat true = false →
      s.chip.mode ≠ .boot → (heard 0x20 s.chip).nvm.host = none → canStore s.chip = true →
      exec (.storeSave q) s = .next (s.acted (answer 0x20 q (saveUser q (heard 0x20 s.chip))))) ∧
    (∀ (s : State) (q : Req), servesC 0x20 q s.chip = true → q.len = 0 → q.hdr.toNat = 0x100000 → s.chip.mode ≠ .boot →
      (heard 0x20 s.chip).nvm.host = none → canStore s.chip = false →
      ∃ d : Chip, exec (.storeSave q) s = .next (s.acted (answer 0x20 q ([0x31], d))) ∧ d.is F.NVS_STAT_INHIB = true ∧
        d.is F.DEV_EVT0_STORE_EVT = true ∧ sameBut [F.NVS_STAT_INHIB.addr, 0x10] s.chip d) ∧
    (∀ (s : State) (q : Req) (b : Bool), servesC 0x21 q s.chip = true → q.len = 0 → q.hdr.toNat = (if b then 0x180000 else 0x140000) →
      s.chip.mode = .config → (heard 0x21 s.chip).nvm.host = none → imageValid (heard 0x21 s.chip) b = true →
      ∃ d : Chip, exec (.storeRestore q) s = .next (s.acted (answer 0x21 q ([1], d))) ∧
        d.nvm.host = some { op := 0x21, tag := q.tag.toNat, part := 1, restore := some b, failed := false } ∧ sameWords s.chip d) ∧
    (∀ (s : State) (q : Req), servesC 0x22 q s.chip = true → q.len = 1 → selPart q.hdr.toNat = 1 → selectorBad q.hdr.toNat false = false →
      s.chip.mode = .config → q.word 0 = confirmWord q.hdr → (heard 0x22 s.chip).nvm.host = none → canStore s.chip = true →
      ∃ d : Chip, exec (.storeErase q) s = .next (s.acted (answer 0x22 q ([0], d))) ∧ d.get F.NVS_STAT_LASTOP = 0x22 ∧ d.get F.NVS_STAT_LASTST = 0 ∧
        d.get F.NVS_STAT_LASTPART = 1) ∧
    (∀ (s : State) (q : Req), servesC 0x22 q s.chip = true → q.len = 1 → selectorBad q.hdr.toNat false = false →
      s.chip.mode = .config → q.word 0 ≠ confirmWord q.hdr →
      exec (.storeErase q) s = .next (s.acted (answer 0x22 q ([0x14], heard 0x22 s.chip))))

/-- SEAL_OPEN with the right credential, whose log entry is committed, answers OK and opens the seal of SIN with the event SEAL_CHG; a wrong one answers ACCESS_DENIED and leaves the
seal as it was. SEAL_CLOSE
answers OK and closes an open seal with the event.
SAFE_PARAM_CONFIRM in CONFIG with the seal open and the check value of the staged set, which passes its checks, is accepted: the confirmation waits with its request for the store; with
the seal closed it answers SEALED, and outside CONFIG MODE_REFUSED.
That a running confirmation refuses another is the model's reading (log entry 22). -/
def Obligations.SealsAndTheSafetySetConfirmation : Prop :=
  (∀ (s : State) (q : Req), servesC 0x30 q s.chip = true → q.hdr.toNat = 0x0D0000 → q.len = 2 → q.word 0 = 0 → (q.word 1).field 32 16 = 0 →
      s.chip.mode = .config → sealOpened s.chip true = false → sealOpened s.chip false = false → s.chip.safe.sealLog.lockEnd = none →
      canStore s.chip = true → q.storeOk = true → sinRight (heard 0x30 s.chip) q = true →
      exec (.sealOpen q) s = .next (s.acted (answer 0x30 q ([0], openSeal false 1 (heard 0x30 s.chip))))) ∧
    (∀ (s : State) (q : Req), servesC 0x30 q s.chip = true → q.hdr.toNat = 0x0D0000 → q.len = 2 → q.word 0 = 0 → (q.word 1).field 32 16 = 0 →
      s.chip.mode = .config → sealOpened s.chip true = false → sealOpened s.chip false = false → s.chip.safe.sealLog.lockEnd = none →
      canStore s.chip = true → q.storeOk = true → sinRight (heard 0x30 s.chip) q = false →
      exec (.sealOpen q) s = .next (s.acted (answer 0x30 q ([0x0D000014], wrongCredential false 1 (heard 0x30 s.chip))))) ∧
    (∀ (detail : Nat) (c : Chip), sealOpened (openSeal false detail c) false = true ∧ (openSeal false detail c).is F.DEV_EVT0_SEAL_CHG = true) ∧
    (∀ (detail : Nat) (c : Chip), sealOpened (wrongCredential false detail c) false = sealOpened c false) ∧
    (∀ (s : State) (q : Req), servesC 0x31 q s.chip = true → q.hdr.toNat = 0x0D0000 → q.len = 0 → s.chip.mode ≠ .boot →
      exec (.sealClose q) s = .next (s.acted (answer 0x31 q ([0], closeSeal false 4 (heard 0x31 s.chip))))) ∧
    (∀ c : Chip, sealOpened c false = true → sealOpened (closeSeal false 4 c) false = false ∧ (closeSeal false 4 c).is F.DEV_EVT0_SEAL_CHG = true) ∧
    (∀ (mtr : Bool) (e : Nat) (c : Chip), sealOpened c mtr = false → closeSeal mtr e c = c) ∧
    (∀ (s : State) (q : Req), servesC 0x32 q s.chip = true → q.len = 1 → q.hdr = 0 → s.chip.mode = .config → sealOpened s.chip false = true →
      (q.word 0).toNat = checkValue (slImage (heard 0x32 s.chip)) → s.chip.safe.confirming = none →
      (checkSafetySet (heard 0x32 s.chip)).isEmpty = true → wantsPassword (heard 0x32 s.chip) = false → canStore s.chip = true →
      ∃ d : Chip, exec (.safeParamConfirm q) s = .next (s.acted (answer 0x32 q ([1], enqueueJob .confirm d))) ∧
        d.safe.confirming = some ⟨0x32, q.tag.toNat⟩ ∧ sameWords s.chip d) ∧
    (∀ (s : State) (q : Req), servesC 0x32 q s.chip = true → q.len = 1 → q.hdr = 0 → s.chip.mode = .config → sealOpened s.chip false = false →
      exec (.safeParamConfirm q) s = .next (s.acted (answer 0x32 q ([0x0D000015], heard 0x32 s.chip)))) ∧
    (∀ (s : State) (q : Req), servesC 0x32 q s.chip = true → q.len = 1 → q.hdr = 0 → s.chip.mode = .standby →
      exec (.safeParamConfirm q) s = .next (s.acted (answer 0x32 q ([0x420], heard 0x32 s.chip))))

/-! ### The requests of metrology, self-test, time, the buses and the patch -/

/-- On the metering variant, METER_READ and METER_RECORD answer OK with the registers and with a record, and change no word; METER_SESSION opens a session in CHARGE (SESSNO counts,
the session is open), begins its close with ACCEPTED_PENDING, and answers a query with MTR.SESS. Other variants answer ACCESS_DENIED, whatever else the request holds (the model's reading, log entry 16).
That OPEN is answered at once is the model's reading (log entry 53). -/
def Obligations.MeterRequestsAnswer : Prop :=
  (∀ (s : State) (q : Req), servesC 0x38 q s.chip = true → q.len = 0 → q.hdr = 0 → hasMeter (heard 0x38 s.chip) = true → s.chip.mode ≠ .boot →
      s.chip.mode ≠ .config → s.chip.mode ≠ .selftest →
      ∃ ws : List Word, ws.length = 12 ∧ exec (.meterRead q) s = .next (s.acted (answer 0x38 q (ws, heard 0x38 s.chip))) ∧
        ws.getD 0 1 = 0 ∧ (∀ k : Nat, k < 8 → ws.getD (k + 1) 0 = hostWord (heard 0x38 s.chip) (0x100010 + k))) ∧
    (∀ (s : State) (q : Req) (r : Nat × List Word), servesC 0x3A q s.chip = true → q.len = 1 → q.hdr = 0 → q.word 0 &&& 0xFFFF00000000 = 0 →
      hasMeter (heard 0x3A s.chip) = true → s.chip.mode ≠ .boot → s.chip.mode ≠ .config → s.chip.mode ≠ .selftest →
      (heard 0x3A s.chip).meter.records.find? (fun r => r.1 == (q.word 0).field 0 32) = some r →
      exec (.meterRecord q) s = .next (s.acted (answer 0x3A q (0 :: r.2, heard 0x3A s.chip)))) ∧
    (∀ (s : State) (q : Req), servesC 0x39 q s.chip = true → q.len = 1 → q.hdr = 0 → (q.word 0).field 0 4 = 1 → (q.word 0).field 4 12 = 0 →
      hasMeter (heard 0x39 s.chip) = true → s.chip.mode = .charge → sessState s.chip = 0 → s.chip.is F.DEV_MODE_PEND = false →
      s.chip.is F.MTR_STAT_CALOK = true → s.chip.is F.MTR_STAT_KEYOK = true → modFault s.chip 0 = false → modFault s.chip 1 = false →
      s.chip.meter.tripped = false → canStore s.chip = true → q.storeOk = true →
      ∃ d : Chip, exec (.meterSessionOpen q) s = .next (s.acted (answer 0x39 q ([0, hostWord d 0x100001], d))) ∧ sessState d = 1 ∧
        d.meter.session.ref = (q.word 0).field 16 32 ∧
        d.get F.MTR_SESS_SESSNO = (s.chip.get F.MTR_SESS_SESSNO + 1) % 2 ^ F.MTR_SESS_SESSNO.width) ∧
    (∀ (s : State) (q : Req), servesC 0x39 q s.chip = true → q.len = 1 → q.hdr = 0 → q.word 0 = 2 → hasMeter (heard 0x39 s.chip) = true →
      s.chip.mode ≠ .boot → s.chip.mode ≠ .latched → sessState s.chip = 1 →
      ∃ d : Chip, exec (.meterSessionClose q) s = .next (s.acted (answer 0x39 q ([1, hostWord d 0x100001], d))) ∧ sessState d = 2 ∧
        d.meter.closing = some { reason := 1, recov := false, pend := some ⟨0x39, q.tag.toNat⟩ }) ∧
    (∀ (s : State) (q : Req), servesC 0x39 q s.chip = true → q.len = 1 → q.hdr = 0 → q.word 0 = 3 → hasMeter (heard 0x39 s.chip) = true → s.chip.mode ≠ .boot →
      exec (.meterSessionQuery q) s = .next (s.acted (answer 0x39 q ([0, hostWord (heard 0x39 s.chip) 0x100001], heard 0x39 s.chip)))) ∧
    (∀ (s : State) (q : Req), servesC 0x38 q s.chip = true → hasMeter (heard 0x38 s.chip) = false →
      exec (.meterRead q) s = .next (s.acted (answer 0x38 q ([0x14], heard 0x38 s.chip)))) ∧
    (∀ (s : State) (q : Req), servesC 0x3A q s.chip = true → hasMeter (heard 0x3A s.chip) = false →
      exec (.meterRecord q) s = .next (s.acted (answer 0x3A q ([0x14], heard 0x3A s.chip)))) ∧
    (∀ (s : State) (q : Req), servesC 0x39 q s.chip = true → hasMeter (heard 0x39 s.chip) = false →
      ∀ i ∈ [Instr.meterSessionOpen q, .meterSessionClose q, .meterSessionQuery q],
        exec i s = .next (s.acted (answer 0x39 q ([0x14], heard 0x39 s.chip)))) ∧
    (∀ (op : Nat) (q : Req) (c : Chip) (l : List Word), sameWords c (answer op q (l, heard op c)))

/-- BIST_RUN of a lane that may migrate is accepted and starts its migration for the test; BIST_RUN of the scrub is accepted and waits; REPAIR_APPLY in CONFIG, with the supply and the temperatures
right and fuses left, is accepted and fuses all repairs, or the one named.
VOK and a second REPAIR_APPLY are the model's reading (log entries 18 and 22). -/
def Obligations.SelfTestAndRepairRequestsAreTaken : Prop :=
  (∀ (s : State) (q : Req) (j : Fin 8), servesC 0x40 q s.chip = true → q.len = 1 → q.hdr = 0 → q.word 0 = BitVec.ofNat 48 (2 ^ 44 + j) →
      runMode s.chip.mode = true → s.chip.mode ≠ .latched → bistBusy (heard 0x40 s.chip) = false → stopRunning (heard 0x40 s.chip) = false →
      mayMigrate (heard 0x40 s.chip) j = true →
      exec (.bistRunLane q) s = .next (s.acted (answer 0x40 q ([1], bistLane j ⟨0x40, q.tag.toNat⟩ (heard 0x40 s.chip))))) ∧
    (∀ (s : State) (q : Req), servesC 0x40 q s.chip = true → q.len = 1 → q.hdr = 0 → q.word 0 = BitVec.ofNat 48 (2 * 2 ^ 44) →
      s.chip.mode ≠ .boot → bistBusy (heard 0x40 s.chip) = false → stopRunning (heard 0x40 s.chip) = false → canStore s.chip = true →
      ∃ d : Chip, exec (.bistRunScrub q) s = .next (s.acted (answer 0x40 q ([1], d))) ∧ d.bist.scrubReq = some ⟨0x40, q.tag.toNat⟩ ∧ sameWords s.chip d) ∧
    (∀ (s : State) (q : Req), servesC 0x41 q s.chip = true → q.len = 1 → q.hdr = 0 → q.word 0 = BitVec.ofNat 48 (2 ^ 44) → s.chip.mode = .config →
      (heard 0x41 s.chip).bist.fuseReq = none → fuseTempBad (heard 0x41 s.chip) = false → vOk (heard 0x41 s.chip) = true →
      (heard 0x41 s.chip).bist.fusesUsed + (repairSlots (heard 0x41 s.chip)).length ≤ 32 →
      ∃ d : Chip, exec (.fuseAll q) s = .next (s.acted (answer 0x41 q ([1], d))) ∧ d.bist.fuseReq = some ⟨0x41, q.tag.toNat⟩ ∧
        d.bist.fuseSlots = repairSlots (heard 0x41 s.chip) ∧ sameWords s.chip d) ∧
    (∀ (s : State) (q : Req) (i : Fin 64), servesC 0x41 q s.chip = true → q.len = 1 → q.hdr = 0 → q.word 0 = BitVec.ofNat 48 (2 * 2 ^ 44 + i) →
      repairAt (heard 0x41 s.chip) i = true → s.chip.mode = .config → (heard 0x41 s.chip).bist.fuseReq = none → fuseTempBad (heard 0x41 s.chip) = false →
      vOk (heard 0x41 s.chip) = true → (heard 0x41 s.chip).bist.fusesUsed < 32 →
      ∃ d : Chip, exec (.fuseOne q) s = .next (s.acted (answer 0x41 q ([1], d))) ∧ d.bist.fuseReq = some ⟨0x41, q.tag.toNat⟩ ∧
        d.bist.fuseSlots = [i.val] ∧ sameWords s.chip d)

/-- TIME_SET in CONFIG answers OK with the time before it, and NWT and FWT take the nanoseconds given; STEPPED and the event TIME_EVT are set, shown where no carrier restarts. TIME_ADJUST steps the time in CONFIG and STANDBY, starts a slew
of the amount given (SLEWING reads 1 unless it is 0), or sets the rate, held between -209715 and 209715, unless the device follows a master.
BUS_SEND to a buffer that is free, of a frame with a base identifier, or with an extended one that may be sent, loads the frame and answers OK; BUS_RECEIVE answers with the oldest full FIFO entry, its timestamp, control word and data, and holds it; BUS_ACK frees an entry that
is not free. PATCH_LOAD in CONFIG answers OK and stages its words. -/
def Obligations.TimeBusAndPatchRequestsAreTaken : Prop :=
  (∀ (s : State) (q : Req), servesC 0x50 q s.chip = true → q.len = 1 → q.hdr = 0 → s.chip.mode = .config →
      exec (.timeSet q) s = .next (s.acted (answer 0x50 q ([0, (heard 0x50 s.chip).now], timeSet (q.word 0) (heard 0x50 s.chip))))) ∧
    (∀ (w : Word) (c : Chip), (stepTime true (ofNs w) c).now = w ∧ (stepTime true (ofNs w) c).fnow = w) ∧
    (∀ (w : Word) (c : Chip), (∀ g : Nat, (c.pwmg g).running = false) →
      (stepTime true (ofNs w) c).is F.NWT_STAT_STEPPED = true ∧ (stepTime true (ofNs w) c).is F.DEV_EVT0_TIME_EVT = true) ∧
    (∀ (s : State) (q : Req) (d : BitVec 40), servesC 0x51 q s.chip = true → q.len = 1 → q.hdr = 0 → q.word 0 = BitVec.ofNat 48 d.toNat →
      (s.chip.mode = .config ∨ s.chip.mode = .standby) →
      exec (.timeAdjustStep q) s = .next (s.acted (answer 0x51 q ([0], adjustStep (signed 40 d.toNat) (heard 0x51 s.chip))))) ∧
    (∀ (s : State) (q : Req) (d : BitVec 40), servesC 0x51 q s.chip = true → q.len = 1 → q.hdr = 0 → q.word 0 = BitVec.ofNat 48 (2 ^ 44 + d.toNat) →
      s.chip.mode ≠ .boot →
      ∃ e : Chip, exec (.timeAdjustSlew q) s = .next (s.acted (answer 0x51 q ([0], e))) ∧ e.time.slew = signed 40 d.toNat * 2 ^ 24 ∧
        e.is F.NWT_STAT_SLEWING = (signed 40 d.toNat != 0) ∧ sameBut [F.NWT_STAT_SLEWING.addr] s.chip e) ∧
    (∀ (s : State) (q : Req) (d : BitVec 20), servesC 0x51 q s.chip = true → q.len = 1 → q.hdr = 0 → q.word 0 = BitVec.ofNat 48 (2 * 2 ^ 44 + d.toNat) →
      s.chip.mode ≠ .boot → isSlave (heard 0x51 s.chip) = false →
      ∃ e : Chip, exec (.timeAdjustRate q) s = .next (s.acted (answer 0x51 q ([0], e))) ∧
        e.geti F.NWT_OFFS_RATE = clampInt (-209715) 209715 (signed 20 d.toNat) ∧ sameBut [F.NWT_OFFS_RATE.addr] s.chip e) ∧
    (∀ (s : State) (q : Req) (u : Fin 2) (b : Fin 3), servesC 0x60 q s.chip = true → q.hdr.toNat = u + 2 * b → q.needed = 1 + dataWords (q.word 0) →
      cwBad (q.word 0) = false → s.chip.mode ≠ .boot → (heard 0x60 s.chip).get (F.PUR_CFG_MODE u) ≠ 0 →
      (cwIde (q.word 0) = false ∨ (cwId (q.word 0) / 2 ^ 26 ≠ 0 ∧
        ((heard 0x60 s.chip).is (F.PUR_CFG_IDCHK u) = false ∨ idNode (q.word 0) = (heard 0x60 s.chip).ms.naddr))) →
      (bufState (heard 0x60 s.chip) u b = 0 ∨ 3 < bufState (heard 0x60 s.chip) u b) →
      exec (.busSend q) s = .next (s.acted (answer 0x60 q ([0], busLoad u b ⟨q.word 0, q.words 1 (dataWords (q.word 0))⟩ (heard 0x60 s.chip))))) ∧
    (∀ (s : State) (q : Req) (k : Nat) (e : RxEntry), servesC 0x61 q s.chip = true → q.len = 0 → q.hdr.toNat < 2 → s.chip.mode ≠ .boot →
      oldestFull (heard 0x61 s.chip) q.hdr.toNat = some (k, e) →
      exec (.busReceive q) s = .next (s.acted (answer 0x61 q
        (BitVec.ofNat 48 (e.ts % 2 ^ 40 * 2 ^ 8) :: e.frame.cw.setField 29 6 k :: e.frame.data, setEntry q.hdr.toNat k .held (heard 0x61 s.chip))))) ∧
    (∀ (s : State) (q : Req), servesC 0x62 q s.chip = true → q.len = 1 → q.hdr.toNat < 2 → (q.word 0).toNat < 64 → s.chip.mode ≠ .boot →
      ((puOf (heard 0x62 s.chip) q.hdr.toNat).fifo.getD (q.word 0).toNat {}).state ≠ .free →
      exec (.busAck q) s = .next (s.acted (answer 0x62 q ([0], setEntry q.hdr.toNat (q.word 0).toNat .free (heard 0x62 s.chip))))) ∧
    (∀ (s : State) (q : Req), servesC 0x70 q s.chip = true → q.hdr.toNat + q.needed ≤ 24573 → s.chip.mode = .config →
      exec (.patchLoad q) s = .next (s.acted (answer 0x70 q ([0], patchStage q.hdr.toNat (q.words 0 q.needed) (heard 0x70 s.chip)))))
/-! ### Reset, power and clocks (04_clocks_and_reset) -/

/-- What the spec states of the state after reset: the device is in RESET, DEV.IDENT reads its code, the lanes, ZMEM and the store list nothing, no reset source is active and no clock hold runs, the
replay cache is empty, no axis is configured, every event and mask word reads 0, every register reads its Reset value, and no command waits.
That the memories and the store list nothing, and that a field without a Reset value reads 0, are the model's choices (log entries 1 and 12). -/
def Obligations.ResetLeavesTheResetValues : Prop :=
  State.reset.chip.mode = .reset ∧ (∀ a : Nat, State.reset.chip.rd a = resetWord a) ∧ (resetWord 0).field 32 16 = 0x9648 ∧
    State.reset.chip.lanes = [] ∧ State.reset.chip.zmem = [] ∧ State.reset.chip.store = [] ∧ State.reset.chip.clk.active = 0 ∧
    State.reset.chip.clk.hold = false ∧ State.reset.chip.link.cache = [] ∧ State.reset.chip.notices = [] ∧ State.reset.pending = [] ∧
    (∀ n : Fin 4, State.reset.chip.rd (0x10 + n) = 0 ∧ State.reset.chip.rd (0x14 + n) = 0 ∧ axisFunc State.reset.chip n = 0) ∧
    State.reset.chip.memWf = true

/-- Every reset source puts the main domain into RESET at once: POWER_ON; the monitors of VSAFE and VCORE, PORST_N and HRST_N when they assert; the Cellar watchdog. Lanes and ZMEM are
cleared, the link forgets its cache, no axis runs. A level source that stays active does nothing more, and one that is released is no longer active.
That the lane memories and ZMEM read 0 after a reset is the model's choice (log entry 12). -/
def Obligations.ResetSourcesReset : Prop :=
  (∀ s : State, exec .powerOn s = .next (s.acted (powerOn s.chip)) ∧ (powerOn s.chip).mode = .reset ∧ (powerOn s.chip).sto.stoa = false ∧
      (powerOn s.chip).lanes = [] ∧ (powerOn s.chip).zmem = []) ∧
    (∀ s : State, s.chip.clk.active.getLsbD 1 = false →
      exec (.vsafeMonitor true) s = .next (s.acted (resetSource 1 true (modClk (fun k => { k with vsafeLow := true }) s.chip)))) ∧
    (∀ s : State, s.chip.clk.active.getLsbD 2 = false →
      exec (.vcoreMonitor true) s = .next (s.acted (resetSource 2 true (modClk (fun k => { k with vcoreLow := true }) s.chip)))) ∧
    (∀ s : State, s.chip.clk.active.getLsbD 3 = false → exec (.porstN true) s = .next (s.acted (resetSource 3 true s.chip))) ∧
    (∀ s : State, s.chip.clk.active.getLsbD 5 = false → exec (.hrstN true) s = .next (s.acted (resetSource 5 true s.chip))) ∧
    (∀ s : State, exec .cellarWatchdog s = .next (s.acted (resetSource 6 false s.chip))) ∧
    (∀ (p : Nat) (lasting : Bool) (c : Chip), (resetSource p lasting c).mode = .reset ∧ (resetSource p lasting c).lanes = [] ∧
      (resetSource p lasting c).zmem = [] ∧ (resetSource p lasting c).link.cache = [] ∧ (resetSource p lasting c).axes = List.replicate 4 {}) ∧
    (∀ s : State, exec (.vsafeMonitor false) s = .next (s.acted (releaseSource 1 (modClk (fun k => { k with vsafeLow := false }) s.chip)))) ∧
    (∀ s : State, exec (.vcoreMonitor false) s = .next (s.acted (releaseSource 2 (modClk (fun k => { k with vcoreLow := false }) s.chip)))) ∧
    (∀ s : State, s.chip.clk.active.getLsbD 3 = true → exec (.porstN true) s = .next (s.acted s.chip)) ∧
    (∀ s : State, s.chip.clk.active.getLsbD 5 = true → exec (.hrstN true) s = .next (s.acted s.chip)) ∧
    (∀ s : State, exec (.porstN false) s = .next (s.acted (releaseSource 3 s.chip)) ∧ (releaseSource 3 s.chip).clk.active.getLsbD 3 = false) ∧
    (∀ s : State, exec (.hrstN false) s = .next (s.acted (releaseSource 5 s.chip)) ∧ (releaseSource 5 s.chip).clk.active.getLsbD 5 = false)

/-- RESET ends in BOOT when no source is active, no clock hold runs, REFCLK is fed from a usable source and both PLLs are locked; otherwise RESET stays. Clock hold ends with its duration shown and NEW set. BOOT ends with
the event BOOT_DONE when Rind has passed its self-test, the calibrations are done and the thermal unit has evaluated: in LATCHED when Rind holds a latch; otherwise in STANDBY when BOOTSEL asks for it, an image is
restored, the check passed, the SAFE set verifies and is confirmed and no fault is pending; else in CONFIG, shown for BOOTSEL = 0. -/
def Obligations.ResetEndsInBootAndBootEnds : Prop :=
  (∀ (s : State) (b : Bool), mayBoot s.chip = true → exec (.resetRelease b) s = .next (s.acted (bootStart b s.chip))) ∧
    (∀ (s : State) (b : Bool), mayBoot s.chip = false → exec (.resetRelease b) s = .next (s.acted s.chip)) ∧
    (∀ (s : State) (w : Nat) (b : Bool), holdMayEnd s.chip = true →
      exec (.clockHoldEnd w b) s = .next (s.acted (resetRelease b (endHold w s.chip))) ∧ (endHold w s.chip).clk.hold = false ∧
        (endHold w s.chip).is F.CLK_HOLD_NEW = true ∧ (endHold w s.chip).get F.CLK_HOLD_DUR = min 0xFFFF w) ∧
    (∀ s : State, bootMayEnd s.chip = true → exec .bootComplete s = .next (s.acted (bootComplete s.chip)) ∧
      (bootComplete s.chip).is F.DEV_EVT0_BOOT_DONE = true) ∧
    (∀ c : Chip, c.rind.latch = true → bootExit c = enterMode .latched c.rind.latchCause c) ∧
    (∀ c : Chip, c.rind.latch = false → c.is F.DEV_BOOTINFO_BOOTSEL = false → bootExit c = enterMode .config .complete c) ∧
    (∀ c : Chip, c.rind.latch = false → c.is F.DEV_BOOTINFO_BOOTSEL = true → c.get F.DEV_BOOTINFO_IMAGE ≠ 0 → checkPassed c = true →
      c.is F.DEV_BOOTINFO_SAFEOK = true → c.is F.SIN_SEC_CONFOK = true → faultPending c = false → bootExit c = enterMode .standby .complete c)

/-- Reference sources: ROSC runs once it starts; a source within its tolerance is ready, and one that is lost is not ready and its loss flag is set; a forced switch moves to a usable source
with the outputs gated, or asks for clock hold where there is none; gating ends.
PLL locks and the trim of ROSC: a lock outside a switch is shown; a lock lost outside a switch asks for clock hold with the cause of its PLL, and a lock that does not come in a switch does too; a
measurement without error, over 256 µs of HCLK or at least 10 ms of master time, keeps the trim code and shows error 0. A SOSC fault latches Rind; SOSC stopping and VIO falling below the pad-hold level are recorded, STO falls with SOSC, and SRDY reads 0 once SOSC has failed or stopped;
below the pad-hold level no output ball is driven, above it each has its state of R696, which is shown for RESET.
The first feeding of REFCLK is the model's reading (log entry 31). -/
def Obligations.ReferenceSourcesLocksTrimAndSosc : Prop :=
  (∀ s : State, s.chip.clk.vcoreLow = false → ∃ d : Chip, exec .roscStart s = .next (s.acted d) ∧ d.clk.roscRunning = true ∧ sameWords s.chip d) ∧
    (∀ (s : State) (khz t : Nat), hclkTaken s.chip khz = some t →
      ∃ d : Chip, exec (.clockSourceReady .hclk khz) s = .next (s.acted d) ∧ d.is F.CLK_STAT_HRDY = true ∧ d.clk.hkhzTaken = t) ∧
    (∀ (s : State) (khz : Nat), s.chip.clk.roscRunning = true → 172000 ≤ khz → khz ≤ 228000 →
      ∃ d : Chip, exec (.clockSourceReady .rosc khz) s = .next (s.acted d) ∧ d.is F.CLK_STAT_RRDY = true) ∧
    (∀ s : State, s.chip.is F.CLK_STAT_HRDY = true →
      ∃ d : Chip, exec (.clockSourceLost .hclk) s = .next (s.acted d) ∧ d.is F.CLK_STAT_HRDY = false ∧ d.is F.CLK_SWSTAT_HLOSS = true) ∧
    (∀ s : State, s.chip.is F.CLK_STAT_RRDY = true →
      ∃ d : Chip, exec (.clockSourceLost .rosc) s = .next (s.acted d) ∧ d.is F.CLK_STAT_RRDY = false ∧ d.is F.CLK_SWSTAT_RLOSS = true) ∧
    (∀ s : State, s.chip.clk.switchTo.isSome = true → s.chip.clk.switchForced = false → (refUsable s.chip true || refUsable s.chip false) = true →
      ∃ d : Chip, exec .forcedSwitch s = .next (s.acted d) ∧ d.clk.switchForced = true ∧ d.clk.gated = true ∧
        d.is F.CLK_SWSTAT_CLKSW_FORCED = true ∧ d.is F.DEV_EVT0_CLK_EVT = true) ∧
    (∀ s : State, s.chip.clk.switchTo.isSome = true → s.chip.clk.switchForced = false → (refUsable s.chip true || refUsable s.chip false) = false →
      exec .forcedSwitch s = .next (s.acted (s.chip.notice (.clockHold 3)))) ∧
    (∀ s : State, ∃ d : Chip, exec .clockGatingEnd s = .next (s.acted d) ∧ d.clk.gated = false ∧ sameWords s.chip d) ∧
    (∀ (s : State) (b : Bool), s.chip.clk.refFed = true → s.chip.clk.switchTo = none →
      ∃ d : Chip, exec (.pllLock b) s = .next (s.acted d) ∧ d.is (if b then F.CLK_STAT_PLLBLK else F.CLK_STAT_PLLALK) = true ∧
        sameBut [F.CLK_STAT_PLLALK.addr] s.chip d) ∧
    (∀ (s : State) (b : Bool), s.chip.is (if b then F.CLK_STAT_PLLBLK else F.CLK_STAT_PLLALK) = true → s.chip.clk.hold = false → s.chip.clk.switchTo = none →
      ∃ d : Chip, exec (.pllLockLoss b) s = .next (s.acted d) ∧ d.notices = s.chip.notices ++ [.clockHold (if b then 5 else 4)] ∧
        d.is (if b then F.CLK_STAT_PLLBLK else F.CLK_STAT_PLLALK) = false) ∧
    (∀ s : State, s.chip.clk.switchTo.isSome = true → pllsLocked s.chip = false →
      exec .pllLockTimeout s = .next (s.acted (s.chip.notice (.clockHold (if s.chip.is F.CLK_STAT_PLLALK then 5 else 4))))) ∧
    (∀ (s : State) (counted gate : Nat), 10000000 ≤ gate → trimSource s.chip ≠ 0 →
      1000 * counted = 200 * (if trimSource s.chip = 1 then 256000 else gate) →
      ∃ d : Chip, exec (.trimMeasurement counted gate) s = .next (s.acted d) ∧ d.get F.CLK_TRIM_CODE = s.chip.get F.CLK_TRIM_CODE ∧
        d.geti F.CLK_TRIM_ERR = 0) ∧
    (∀ s : State, (s.chip.rd 0xC0002).field 3 1 ≠ 1 → ∃ d : Chip, exec .soscFault s = .next (s.acted d) ∧ (d.rd 0xC0002).field 3 1 = 1 ∧
      d.rind.latch = true ∧ d.notices = s.chip.notices ++ [.latch .internal] ∧ d.is F.CLK_STAT_SRDY = false) ∧
    (∀ s : State, ∃ d : Chip, exec .soscStop s = .next (s.acted d) ∧ d.clk.soscStopped = true ∧ d.sto.stoa = false ∧ d.sto.stob = false ∧
      d.is F.CLK_STAT_SRDY = false) ∧
    (∀ (s : State) (b : Bool), ∃ d : Chip, exec (.vioPadHold b) s = .next (s.still d) ∧ d.clk.vioBelow = b ∧ sameWords s.chip d ∧
      ∀ p : Ball, pad d p = if b then .undriven else ballState s.chip p) ∧
    (∀ (c : Chip) (n g : Nat) (hi b : Bool), c.clk.vioBelow = false → c.mode = .reset →
      pad c (.pwm n hi) = .low ∧ pad c (.drven g) = .low ∧ pad c (.sto b) = .low ∧ pad c (.sso b) = .low ∧ pad c .rstoutN = .low ∧ pad c .hreqN = .released ∧
        pad c (.puTx g) = .high ∧ pad c (.puStb g) = .high ∧ pad c (.gpio n) = .undriven)

/-! ### Network time (05_network_time) -/

/-- A compare unit that is armed and due fires: FIRED is set, a one-shot unit is disarmed, and a periodic unit that no step passed by moves its target one period on. The end of its pulse returns
the pin to low.
A capture takes the integer part of NWT into every enabled unit that names the pin and the edge, while its gate, if it has one, is high: the value is held and VALID set; a unit with KEEP that still holds one keeps it, and OVR is set. -/
def Obligations.CompareUnitsFireAndCapturesHold : Prop :=
  (∀ (s : State) (n : Fin 16), going s.chip = true → exec (.ncFire n) s = .next (s.acted (ncFireAll n s.chip))) ∧
    (∀ (n : Nat) (c : Chip), n < 16 → ncDue c n = true → c.get (F.NWT_NCn_CTL_ACTION n) = 0 →
      (ncFire n c).is (F.NWT_NCn_CTL_FIRED n) = true ∧
        (c.get (F.NWT_NCn_CTL_PERIOD n) = 0 → (ncFire n c).is (F.NWT_NCn_CTL_ARM n) = false ∧ (ncFire n c).rd (F.NWT_NCn_TGT n) = c.rd (F.NWT_NCn_TGT n)) ∧
        (c.get (F.NWT_NCn_CTL_PERIOD n) ≠ 0 → c.time.stepped.getLsbD n = false →
          (ncFire n c).rd (F.NWT_NCn_TGT n) = c.rd (F.NWT_NCn_TGT n) + BitVec.ofNat 48 (c.get (F.NWT_NCn_CTL_PERIOD n))) ∧
        sameBut [F.NWT_NCn_TGT n, (F.NWT_NCn_CTL_FIRED n).addr] c (ncFire n c)) ∧
    (∀ (n : Nat) (c : Chip), ncDue c n = false → ncFireAll n c = c) ∧
    (∀ (s : State) (pin : Fin 5), going s.chip = true → s.chip.time.pulsing.getLsbD pin = true →
      ∃ d : Chip, exec (.comparePulseEnd pin) s = .next (s.acted d) ∧ d.time.tio.getLsbD pin = false) ∧
    (∀ (s : State) (src : BitVec 6) (r : Bool), going s.chip = true → exec (.capture src r) s = .next (s.acted (s.chip.captureAt src.toNat r))) ∧
    (∀ (n src : Nat) (r : Bool) (c : Chip), n < 16 → src ≤ 4 → c.is (F.NWT_NCAPn_CTL_EN n) = true → c.get (F.NWT_NCAPn_CTL_SRC n) = src →
      (c.get (F.NWT_NCAPn_CTL_EDGE n) = 3 ∨ (r = true ∧ c.get (F.NWT_NCAPn_CTL_EDGE n) ≠ 2) ∨ (r = false ∧ c.get (F.NWT_NCAPn_CTL_EDGE n) = 2)) →
      (c.get (F.NWT_NCAPn_CTL_GATE n) = 0 ∨ 4 < c.get (F.NWT_NCAPn_CTL_GATE n) ∨ c.time.tio.getLsbD (c.get (F.NWT_NCAPn_CTL_GATE n) - 1) = true) →
      (captureUnit src r n c).is (F.NWT_NCAPn_CTL_VALID n) = true ∧
        ((c.is (F.NWT_NCAPn_CTL_VALID n) = false ∨ c.is (F.NWT_NCAPn_CTL_KEEP n) = false) → (captureUnit src r n c).rd (F.NWT_NCAPn_VAL n) = c.now) ∧
        (c.is (F.NWT_NCAPn_CTL_VALID n) = true → (captureUnit src r n c).is (F.NWT_NCAPn_CTL_OVR n) = true ∧
          (c.is (F.NWT_NCAPn_CTL_KEEP n) = true → (captureUnit src r n c).rd (F.NWT_NCAPn_VAL n) = c.rd (F.NWT_NCAPn_VAL n))) ∧
        sameBut [F.NWT_NCAPn_VAL n, (F.NWT_NCAPn_CTL_VALID n).addr] c (captureUnit src r n c)) ∧
    (∀ (n src : Nat) (r : Bool) (c : Chip), c.is (F.NWT_NCAPn_CTL_EN n) = false ∨ c.get (F.NWT_NCAPn_CTL_SRC n) ≠ src → captureUnit src r n c = c)

/-- The host watchdog that runs out is EXPIRED with its event and stops counting; a follower that loses its master enters holdover, LOCKLOST with it when it was locked; every cycle
adds to NWT its period, the rate and of a slew at most the limit, which is gone from what is left of it; the end of a slew is taken once nothing is left, and SLEWING reads 0. -/
def Obligations.WatchdogHoldoverAndSlew : Prop :=
  (∀ s : State, s.chip.ms.hwdRunning = true → ∃ d : Chip, exec .hostWatchdogExpiry s = .next (s.acted d) ∧ d.is F.DEV_HWD_EXPIRED = true ∧
      d.is F.DEV_EVT0_HWD_EXP = true ∧ d.ms.hwdRunning = false ∧ d.notices = s.chip.notices ++ [.watchdog] ∧ sameBut [0xB, 0x10] s.chip d) ∧
    (∀ s : State, going s.chip = true → isSlave s.chip = true → s.chip.get F.NWT_STAT_SRV = 2 →
      ∃ d : Chip, exec .servoHoldover s = .next (s.acted d) ∧ d.get F.NWT_STAT_SRV = 3 ∧ d.is F.NWT_STAT_LOCKLOST = true ∧
        sameBut [F.NWT_STAT_SRV.addr, 0x10] s.chip d) ∧
    (∀ s : State, going s.chip = true → isSlave s.chip = true → s.chip.get F.NWT_STAT_SRV = 1 →
      ∃ d : Chip, exec .servoHoldover s = .next (s.acted d) ∧ d.get F.NWT_STAT_SRV = 3 ∧ d.is F.NWT_STAT_LOCKLOST = s.chip.is F.NWT_STAT_LOCKLOST) ∧
    (∀ s : State, going s.chip = true → s.chip.time.slew = 0 →
      ∃ d : Chip, exec .slewDone s = .next (s.acted d) ∧ d.is F.NWT_STAT_SLEWING = false ∧ d.time = s.chip.time ∧
        sameBut [F.NWT_STAT_SLEWING.addr] s.chip d) ∧
    (∀ s : State, going s.chip = true → s.chip.time.slew ≠ 0 → exec .slewDone s = .next (s.acted s.chip)) ∧
    (∀ c : Chip, (tickTime c).time.slew = c.time.slew - clampInt (-slewLimit c) (slewLimit c) c.time.slew ∧
      (tickTime c).time.nwt = c.time.nwt + BitVec.ofInt 72 (41943040 + c.geti F.NWT_OFFS_RATE + clampInt (-slewLimit c) (slewLimit c) c.time.slew))
/-! ### Angle scheduling (06_angle_scheduling) -/

/-- A measurement of a tracker's primary source reaches the tracker: the first one sets the angle and VALID; a resolver amplitude below its limit is a source fault, and a Hall code that names no
sector is one, as are two quadrature inputs that change at once; a quadrature edge delivers the angle of the count, one up or one down within a turn.
Details of holds and Hall codes, and the resolver's results and full scale, are the model's reading (log entries 34, 77 and 81). -/
def Obligations.MeasurementsReachTheTracker : Prop :=
  (∀ (s : State) (n : Fin 6) (m : TrackerMeas), going s.chip = true → exec (.trackerMeasurement n m) s = .next (s.acted (trackerMeasure n m s.chip))) ∧
    (∀ (n : Nat) (c : Chip), c.mode ≠ .reset → c.mode ≠ .boot → usesSrc c n 1 = true → activeSrc c n = 1 →
      (resolverCode c (c.get (F.AT_SRC_SET n)) 0 * resolverCode c (c.get (F.AT_SRC_SET n)) 0 +
        resolverCode c (c.get (F.AT_SRC_SET n)) 1 * resolverCode c (c.get (F.AT_SRC_SET n)) 1) * 10000 <
          (c.get (F.AT_SRC_P2 n) : Int) * (c.get (F.AT_SRC_P2 n) : Int) * 2 ^ 30 →
      trackerMeasure n .resolver c = sourceFault n c) ∧
    (∀ (n : Nat) (c : Chip), c.mode ≠ .reset → c.mode ≠ .boot → usesSrc c n 1 = true →
      (c.get (F.AT_SRC_P2 n) : Int) * (c.get (F.AT_SRC_P2 n) : Int) * 2 ^ 30 ≤
        (resolverCode c (c.get (F.AT_SRC_SET n)) 0 * resolverCode c (c.get (F.AT_SRC_SET n)) 0 +
          resolverCode c (c.get (F.AT_SRC_SET n)) 1 * resolverCode c (c.get (F.AT_SRC_SET n)) 1) * 10000 →
      (resolverCode c (c.get (F.AT_SRC_SET n)) 0 * resolverCode c (c.get (F.AT_SRC_SET n)) 0 +
        resolverCode c (c.get (F.AT_SRC_SET n)) 1 * resolverCode c (c.get (F.AT_SRC_SET n)) 1) * 10000 ≤ 22500 * 2 ^ 30 →
      trackerMeasure n .resolver c = deliver n 1
        (BitVec.ofNat 48 ((resolverAngle (resolverCode c (c.get (F.AT_SRC_SET n)) 0) (resolverCode c (c.get (F.AT_SRC_SET n)) 1)).toNat *
          c.get (F.AT_CFG_RATIO n)) + c.rd (F.AT_OFFS n)) (c.tracker n).held c) ∧
    (∀ (n : Nat) (up : Bool) (c : Chip), c.mode ≠ .reset → c.mode ≠ .boot → usesSrc c n 2 = true →
      ∃ (k : Nat) (d : Chip), (k : Int) = (((c.tracker n).cnt : Int) + (if up then 1 else -1)) % ((4 * encLines c n : Nat) : Int) ∧
        trackerMeasure n (.encoder up) c = deliver n 2 (encoderAngle c n k) (c.rd (F.AT_ANG n)) d ∧ (d.tracker n).indexed = (c.tracker n).indexed ∧
        sameWords c d) ∧
    (∀ (n : Nat) (c : Chip), c.mode ≠ .reset → c.mode ≠ .boot → usesSrc c n 2 = true → activeSrc c n = 2 →
      trackerMeasure n .encoderBoth c = sourceFault n c) ∧
    (∀ (n : Nat) (c : Chip), c.mode ≠ .reset → c.mode ≠ .boot → usesSrc c n 3 = true → activeSrc c n = 3 →
      trackerMeasure n (.hall 0) c = sourceFault n c ∧ trackerMeasure n (.hall 7) c = sourceFault n c) ∧
    (∀ (n : Nat) (a : Word) (c : Chip), n < 6 → (firstMeasurement n a c).rd (F.AT_ANG n) = a ∧ (firstMeasurement n a c).is (F.AT_STAT_VALID n) = true) ∧
    (∀ (n : Nat) (c : Chip), srcOf c n ≠ 0 → (sourceFault n c).is (F.AT_STAT_SRCFLT n) = true)

/-- The first index edge of an encoder that feeds its tracker homes it at count 0; a source that times out holds its tracker, and where the hold expires the angle is no longer
valid. A window bound that the angle has crossed gives its window bit what the travel leaves: where only the bound that is entered was crossed, 1; where only the one that is left was, 0; a bound that
was not crossed changes nothing. -/
def Obligations.IndexTimeoutHoldAndWindows : Prop :=
  (∀ (s : State) (n : Fin 6), going s.chip = true → s.chip.mode ≠ .boot → usesSrc s.chip n 2 = true → activeSrc s.chip n = 2 →
      s.chip.is (F.AT_SRC_P3 n) = true → n.val < s.chip.trackers.length → (s.chip.tracker n).indexed = false →
      ∃ d : Chip, exec (.indexEdge n) s = .next (s.acted (updateFollow d)) ∧ d.is (F.AT_STAT_HOMED n) = true ∧
        d.rd (F.AT_ANG n) = encoderAngle s.chip n 0 ∧ sameBut [F.AT_ANG n, (F.AT_STAT_HOMED n).addr] s.chip d) ∧
    (∀ (s : State) (n : Fin 6) (alt : Bool), going s.chip = true → s.chip.is (F.AT_STAT_ALTACT n) = alt →
      (activeSrc s.chip n = 1 ∨ activeSrc s.chip n = 4 ∨ activeSrc s.chip n = 5) →
      exec (.sourceTimeout n alt) s = .next (s.acted (sourceFault n
        (s.chip.modTracker n (fun t => if alt then { t with altFresh := false } else { t with primFresh := false }))))) ∧
    (∀ (s : State) (n : Fin 6), going s.chip = true → (s.chip.tracker n).holding = true →
      ∃ d : Chip, exec (.holdExpiry n) s = .next (s.acted (updateFollow (trackerFault n (validLost n d)))) ∧ d.is (F.AT_STAT_VALID n) = false ∧
        d.is (F.AT_STAT_HOLDEXP n) = true ∧ sameBut [(F.AT_STAT_VALID n).addr] s.chip d) ∧
    (∀ (s : State) (n : Fin 6) (w : Fin 4) (hi : Bool), going s.chip = true →
      (crossed (s.chip.rd (if hi then F.AT_WIN_HI n w else F.AT_WIN_LO n w)) (s.chip.tracker n).th (s.chip.tracker n).inc).isSome = true →
      ∃ d : Chip, exec (.angleWindowCrossing n w hi) s = .next (s.acted d) ∧
        d.getBit (F.AT_STAT_WIN n) w = windowAfter (s.chip.rd (F.AT_WIN_LO n w)) (s.chip.rd (F.AT_WIN_HI n w)) (s.chip.tracker n).th (s.chip.tracker n).inc
          (s.chip.getBit (F.AT_STAT_WIN n) w) ∧ sameBut [(F.AT_STAT_WIN n).addr] s.chip d) ∧
    (∀ (s : State) (n : Fin 6) (w : Fin 4) (hi : Bool), going s.chip = true →
      crossed (s.chip.rd (if hi then F.AT_WIN_HI n w else F.AT_WIN_LO n w)) (s.chip.tracker n).th (s.chip.tracker n).inc = none →
      exec (.angleWindowCrossing n w hi) s = .next (s.acted s.chip)) ∧
    (∀ (lo hi th : Word) (inc : Int) (was : Bool), lo ≠ hi → crossed (if 0 < inc then lo else hi) th inc ≠ none →
      crossed (if 0 < inc then hi else lo) th inc = none → windowAfter lo hi th inc was = true) ∧
    (∀ (lo hi th : Word) (inc : Int) (was : Bool), crossed (if 0 < inc then lo else hi) th inc = none →
      crossed (if 0 < inc then hi else lo) th inc ≠ none → windowAfter lo hi th inc was = false) ∧
    (∀ (lo a : Word) (r : Bool), inAngleWindow lo lo a r = false)

/-- The next Kerf entry of a running table acts once the lead angle has crossed it, one in a cycle, and moves the cursor one on, or one back when the angle runs in reverse; one that had been crossed before
is counted and LATE is set; an entry that is not crossed, or of a table that does not run, does nothing. The next segment boundary, once crossed with no entry before it, shows its
segment, and a pending set is taken there, unless it comes late: then COMMIT_LATE is set and the set waits.
The cursor and the passed entries are the model's reading (log entries 35 and 78). -/
def Obligations.KerfEntriesAndBoundaries : Prop :=
  (∀ (s : State) (n : Fin 6), going s.chip = true → exec (.kerfEntry n) s = .next (s.acted (kerfEntry n s.chip))) ∧
    (∀ (n : Nat) (c : Chip), kerfRuns c n = false → kerfEntry n c = c) ∧
    (∀ (n : Nat) (c : Chip), boundaryCrossed c n = false → entryCrossed c n = false → kerfEntry n c = c) ∧
    (∀ (n : Nat) (a : Int) (c : Chip), n < c.kerfs.length → kerfRuns c n = true → boundaryCrossed c n = false → nextEntryAngle c n = some a →
      entryCrossed c n = true → (c.kerf n).execUp ≠ some c.up →
      ∃ d : Chip, kerfEntry n c = kerfAct n (c.get (F.KT_PAT_FIRST n (c.get (F.KT_STAT_CURPAT n))) +
            (nextItem (c.kerf n).rev (c.kerf n).cursor % (patCount c n (c.get (F.KT_STAT_CURPAT n)) : Int)).toNat) (c.kerf n).rev (crossFine c n a) d ∧
        (d.kerf n).cursor = (if (c.kerf n).rev then (c.kerf n).cursor - 1 else (c.kerf n).cursor + 1) ∧ (d.kerf n).execUp = some c.up ∧
        (beyond (c.kerf n).rev (c.kerf n).prev a = true →
          d.is (F.KT_STAT_LATE n) = true ∧ d.get (F.KT_STAT_LATECNT n) = min (c.get (F.KT_STAT_LATECNT n) + 1) 255) ∧
        sameBut [(F.KT_STAT_LATE n).addr] c d) ∧
    (∀ (n i f : Nat) (r : Bool) (c : Chip), c.is (F.KT_E_ACT_WEN n i) = false → c.is (F.KT_STAT_ENGD n) = false →
      c.is (F.KT_E_ACT_TFWD n i) = false → c.is (F.KT_E_ACT_TREV n i) = false → sameWords c (kerfAct n i r f c)) ∧
    (∀ (s : State) (n j : Fin 6), going s.chip = true → kerfRuns s.chip n = true → boundaryCrossed s.chip n = true →
      entryBefore s.chip n (nextBoundaryAngle s.chip n) = false →
      nextItem (s.chip.kerf n).rev (s.chip.kerf n).bnd % (patSegs s.chip n (s.chip.get (F.KT_STAT_CURPAT n)) : Int) = (j.val : Int) →
      ((s.chip.kerf n).pending = none →
        ∃ d : Chip, exec (.kerfBoundary n j) s = .next (s.acted d) ∧ d.get (F.KT_STAT_SEG n) = j ∧ sameBut [(F.KT_STAT_SEG n).addr] s.chip d) ∧
      (∀ ks : KerfSet, (s.chip.kerf n).pending = some ks → (s.chip.kerf n).bndUp.getD s.chip.up ≤ (s.chip.kerf n).commitUp →
        ∃ d : Chip, exec (.kerfBoundary n j) s = .next (s.acted d) ∧ d.get (F.KT_STAT_SEG n) = j ∧ d.is (F.KT_STAT_COMMIT_LATE n) = true ∧
          (d.kerf n).pending = some ks ∧ sameBut [(F.KT_STAT_SEG n).addr] s.chip d) ∧
      (∀ ks : KerfSet, (s.chip.kerf n).pending = some ks → (s.chip.kerf n).commitUp < (s.chip.kerf n).bndUp.getD s.chip.up →
        ∃ d : Chip, exec (.kerfBoundary n j) s = .next (s.acted (takeKerf n ks
            (boundaryAngle (patSegs s.chip n (s.chip.get (F.KT_STAT_CURPAT n))) j)
            (nextItem (s.chip.kerf n).rev (s.chip.kerf n).bnd / (patSegs s.chip n (s.chip.get (F.KT_STAT_CURPAT n)) : Int))
            (crossFine s.chip n (nextBoundaryAngle s.chip n)) d)) ∧
          d.get (F.KT_STAT_SEG n) = j ∧ sameBut [(F.KT_STAT_SEG n).addr] s.chip d)) ∧
    (∀ (s : State) (n j : Fin 6), going s.chip = true → boundaryCrossed s.chip n = false → exec (.kerfBoundary n j) s = .next (s.acted s.chip)) ∧
    (∀ (n : Nat) (ks : KerfSet) (b : Word) (turn : Int) (f : Nat) (c : Chip), ks.eng = c.is (F.KT_STAT_ENGD n) →
      (takeKerf n ks b turn f c).is (F.KT_STAT_SWITCHED n) = true ∧ (takeKerf n ks b turn f c).get (F.KT_STAT_CURPAT n) = ks.pat % 8 ∧
        (takeKerf n ks b turn f c).is (F.KT_COMMIT_PENDING n) = false)
/-! ### Analog acquisition (07_analog_acquisition) -/

/-- A trigger of an enabled set that has no run starts one with the words in force; a trigger while one is pending or running is dropped, counted, and marks the run,
but for one taken at the same ACLK edge, which forms one trigger with the first. A resolver exciter triggers the sets that name it. -/
def Obligations.SetTriggersStartOrDrop : Prop :=
  (∀ (s : State) (k : Fin 16), going s.chip = true → runMode s.chip.mode = true → s.chip.is (F.ADC_SET_CFG_EN k) = true → setRun s.chip k = none →
      ∃ d : Chip, exec (.setTrigger k) s = .next (s.acted d) ∧
        d.adc.runs = s.chip.adc.runs.set k (some
          { cfg := s.chip.rd (F.ADC_SET_CFG k), slots := slotsOf s.chip k, ranks := ranksOf (slotsOf s.chip k), takeAt := takeEdge s.chip }) ∧ sameWords s.chip d) ∧
    (∀ (s : State) (k : Fin 16) (r : SetRun), going s.chip = true → runMode s.chip.mode = true → s.chip.is (F.ADC_SET_CFG_EN k) = true →
      setRun s.chip k = some r → r.takeAt ≠ takeEdge s.chip →
      ∃ d : Chip, exec (.setTrigger k) s = .next (s.acted d) ∧ setRun d k = some { r with ovr := true } ∧
        d.get (F.ADC_SET_STAT_TRGDROP k) = min (s.chip.get (F.ADC_SET_STAT_TRGDROP k) + 1) 255 ∧ sameBut [(F.ADC_SET_STAT_TRGDROP k).addr] s.chip d) ∧
    (∀ (s : State) (k : Fin 16) (r : SetRun), going s.chip = true → setRun s.chip k = some r → r.takeAt = takeEdge s.chip →
      exec (.setTrigger k) s = .next (s.acted s.chip)) ∧
    (∀ (k : Nat) (c : Chip), c.is (F.ADC_SET_CFG_EN k) = false → triggerSet k c = c) ∧
    (∀ (s : State) (u : Fin 2), going s.chip = true → exciterUsed s.chip u = true →
      exec (.exciterTrigger u) s = .next (s.acted (s.chip.forN 16 (fun k c => if c.get (F.ADC_SET_CFG_TRG k) = 2 + u.val then triggerSet k c else c)))) ∧
    (∀ (s : State) (u : Fin 2), going s.chip = true → exciterUsed s.chip u = false → exec (.exciterTrigger u) s = .next (s.acted s.chip))

/-- A pending run whose DLY has passed reserves its converters when no other reserved run holds one of them and no lower-numbered one takes them first, and DEFER is set when it waited or must wait; a reserved run samples, holding whether the reference is settled; a rank's conversions
put the results of its enabled slots into the run; and the run's completion writes DONE, the next SEQ and the result words.
A code is corrected by gain and offset, rounded to nearest, and held inside its 16-bit range, RANGE telling that it lies on a bound; a code with zero gain and offset stays as it is. -/
def Obligations.RunsConvertAndCompleteWithCorrectedCodes : Prop :=
  (∀ (s : State) (k : Fin 16) (r : SetRun), going s.chip = true → setRun s.chip k = some r → reservable s.chip r = true →
      blocked s.chip k r = false → precededBy s.chip k r = false →
      ∃ (d : Chip) (q : SetRun), exec (.converterReservation k) s = .next (s.acted d) ∧ setRun d k = some q ∧ q.reserved = true ∧
        (r.takeAt + r.cfg.field 32 8 < aclkNow s.chip → d.is (F.ADC_SET_STAT_DEFER k) = true) ∧
        d.get (F.ADC_SET_STAT_WAITMAX k) = max (s.chip.get (F.ADC_SET_STAT_WAITMAX k)) (min (aclkNow s.chip - (r.takeAt + r.cfg.field 32 8)) 255) ∧
        sameBut [(F.ADC_SET_STAT_DEFER k).addr] s.chip d) ∧
    (∀ (s : State) (k : Fin 16) (r : SetRun), going s.chip = true → setRun s.chip k = some r → reservable s.chip r = true →
      (blocked s.chip k r = true ∨ precededBy s.chip k r = true) →
      ∃ d : Chip, exec (.converterReservation k) s = .next (s.acted d) ∧ setRun d k = some r ∧ d.is (F.ADC_SET_STAT_DEFER k) = true ∧
        sameBut [(F.ADC_SET_STAT_DEFER k).addr] s.chip d) ∧
    (∀ (s : State) (k : Fin 16) (r : SetRun), going s.chip = true → setRun s.chip k = some r → r.reserved = true → r.sampled = false → r.ranks ≠ [] →
      r.ranks.length ≠ (ranksOf r.slots).length →
      ∃ d : Chip, exec (.samplingInstant k) s = .next (s.acted d) ∧
        setRun d k = some { r with sampled := true, refns := !s.chip.is F.ADC_STAT_REF_SETTLED } ∧ sameWords s.chip d) ∧
    (∀ (s : State) (k : Fin 16) (raw : List Nat), going s.chip = true → exec (.rankConversionEnd k raw) s = .next (s.acted (rankEndAll k raw s.chip))) ∧
    (∀ (k : Nat) (raw : List Nat) (c : Chip), setRun c k = none → rankConversionEnd k raw c = c) ∧
    (∀ (k rank : Nat) (rest raw : List Nat) (r : SetRun) (c : Chip), setRun c k = some r → r.ranks = rank :: rest → r.sampled = true →
      ∃ (q : SetRun) (rs : List (Nat × Word)), setRun (rankConversionEnd k raw c) k = some q ∧ q.ranks = rest ∧ q.sampled = false ∧
        q.results = r.results ++ rs ∧
        ∀ m : Nat, (∃ w : Word, (m, w) ∈ rs) ↔ m < 16 ∧ slotEn (r.slots.getD m 0) = true ∧ slotRank (r.slots.getD m 0) = rank) ∧
    (∀ (s : State) (k : Fin 16), going s.chip = true → exec (.runComplete k) s = .next (s.acted (completeRunTherm k s.chip))) ∧
    (∀ (k : Nat) (c : Chip) (r : SetRun), k < 16 → setRun c k = some r → r.reserved = true → r.ranks = [] → r.cfg.field 23 1 = 0 →
      (∀ t : Nat, t < 16 → c.get (F.ADC_SET_CFG_TRG t) ≠ 1) → r.results = [] →
      (completeRun k c).is (F.ADC_SET_STAT_DONE k) = true ∧ (completeRun k c).get (F.ADC_SET_STAT_SEQ k) = (c.get (F.ADC_SET_STAT_SEQ k) + 1) % 256 ∧
        setRun (completeRun k c) k = none ∧ sameBut [(F.ADC_SET_STAT_DONE k).addr] c (completeRun k c)) ∧
    (∀ (raw : BitVec 16), (corrected 0 0 false raw.toNat).1 = raw.toNat ∧ (corrected 0 0 true raw.toNat).1 = raw.toNat) ∧
    (∀ (gain offs : Int) (d : Bool) (raw : Nat), (corrected gain offs d raw).1 < 65536) ∧
    (∀ (gain offs : Int) (raw : Nat), (corrected gain offs false raw).2 = true ↔
      ((corrected gain offs false raw).1 = 0 ∨ (corrected gain offs false raw).1 = 65535))

/-- The reference settles; REFPOK follows the monitor of REFP, and its loss while REFP is selected sets REFFLT, raises its device cause, and with REFAUTO falls back to the internal reference. -/
def Obligations.ReferencesSettleAndFail : Prop :=
  (∀ s : State, going s.chip = true → ∃ d : Chip, exec .referenceSettled s = .next (s.acted d) ∧ d.is F.ADC_STAT_REF_SETTLED = true ∧
      sameBut [F.ADC_STAT_REF_SETTLED.addr] s.chip d) ∧
    (∀ s : State, going s.chip = true → s.chip.is F.ADC_STAT_REFPOK = false →
      ∃ d : Chip, exec (.refpMonitor true) s = .next (s.acted d) ∧ d.is F.ADC_STAT_REFPOK = true ∧ sameBut [F.ADC_STAT_REFPOK.addr] s.chip d) ∧
    (∀ s : State, going s.chip = true → s.chip.is F.ADC_STAT_REFPOK = true → s.chip.get F.ADC_STAT_REFACT = 1 → s.chip.is F.ADC_CFG_REFAUTO = true →
      ∃ d : Chip, exec (.refpMonitor false) s = .next (s.acted d) ∧ d.is F.ADC_STAT_REFPOK = false ∧ d.is F.ADC_STAT_REFFLT = true ∧
        d.is F.ADC_STAT_REFFB = true ∧ d.get F.ADC_STAT_REFACT = 0 ∧ d.is F.ADC_STAT_REF_SETTLED = false ∧
        d.notices = s.chip.notices ++ [.device .refflt]) ∧
    (∀ s : State, going s.chip = true → s.chip.is F.ADC_STAT_REFPOK = true → s.chip.get F.ADC_STAT_REFACT = 0 →
      ∃ d : Chip, exec (.refpMonitor false) s = .next (s.acted d) ∧ d.is F.ADC_STAT_REFPOK = false ∧ d.notices = s.chip.notices)

/-- The background cycle of a bank: a tick begins a cycle on the next converter, phase 1, with the spare in calibration; the coefficients fitted to the codes of a calibration that passes at BOOT
are taken and the slice is ACTIVE, and codes that determine none retire the converter for its spare; the time limit passes a comparison; the swap-in
puts the converter out and the spare in, phase 4; a swap-in that finds no gap in time ends the cycle and counts it as skipped. -/
def Obligations.TheBackgroundCycleRuns : Prop :=
  (∀ (s : State) (b : Fin 2), going s.chip = true → exec (.calibrationTick b) s = .next (s.acted (calibrationTick b s.chip))) ∧
    (∀ (b : Nat) (c : Chip), b < 2 → c.is F.ADC_CALCFG_EN = true → (c.mode = .standby ∨ c.mode = .drive) → c.is (F.ADC_CAL_HALT b) = false →
      c.get (F.ADC_CAL_PHASE b) = 0 → (bank c b).failing = false → (bank c b).abandoned = false → (bank c b).last = none →
      c.get (F.ADC_C_STAT_STATE (8 * b)) = 0 →
      (calibrationTick b c).get (F.ADC_CAL_CUR b) = 8 * b ∧ (calibrationTick b c).get (F.ADC_CAL_PHASE b) = 1 ∧
        (calibrationTick b c).get (F.ADC_CS_STAT_STATE b) = 7) ∧
    (∀ (s : State) (sl : Fin 18) (codes : List (BitVec 16)), going s.chip = true →
      exec (.referenceCalibrationDone sl codes) s = .next (s.acted (referenceCalibrationDone sl codes s.chip))) ∧
    (∀ (sl : Nat) (codes : List (BitVec 16)) (g o : Int) (c : Chip), sl < 16 → c.adc.calRunning.getLsbD sl = true → c.is F.ADC_STAT_REF_SETTLED = true →
      c.mode = .boot → c.get (F.ADC_C_STAT_STATE sl) = 7 → fitCoefficients ((List.range 9).map (fun k => ((codes.getD k 0).toNat : Int))) = some (g, o) →
      calibrationPasses ((List.range 9).map (fun k => ((codes.getD k 0).toNat : Int))) g o = true →
      (referenceCalibrationDone sl codes c).get (F.ADC_C_STAT_STATE sl) = 0 ∧ (referenceCalibrationDone sl codes c).geti (F.ADC_C_STAT_GAIN sl) = g ∧
        (referenceCalibrationDone sl codes c).geti (F.ADC_C_STAT_OFFS sl) = o) ∧
    (∀ (sl : Nat) (codes : List (BitVec 16)) (c : Chip), sl < 16 → c.adc.calRunning.getLsbD sl = true → c.is F.ADC_STAT_REF_SETTLED = true →
      c.mode = .boot → c.get (F.ADC_CS_STAT_STATE (bankOf sl)) < 4 →
      fitCoefficients ((List.range 9).map (fun k => ((codes.getD k 0).toNat : Int))) = none →
      (referenceCalibrationDone sl codes c).get (F.ADC_C_STAT_STATE sl) = 3 ∧ (referenceCalibrationDone sl codes c).get (F.ADC_CS_STAT_STATE (bankOf sl)) = 4 ∧
        (referenceCalibrationDone sl codes c).is F.DEV_EVT2_ADC_SPARE = true) ∧
    (∀ (s : State) (b : Fin 2), going s.chip = true → s.chip.get (F.ADC_CAL_PHASE b) = 2 → (bank s.chip b).failing = false →
      ∃ d : Chip, exec (.phaseTimeLimit b) s = .next (s.acted d) ∧ d.get (F.ADC_CAL_PHASE b) = 3 ∧ sameBut [(F.ADC_CAL_PHASE b).addr] s.chip d) ∧
    (∀ (s : State) (b : Fin 2), going s.chip = true → inGap s.chip b = true → (bank s.chip b).failing = false → (bank s.chip b).abandoned = false →
      s.chip.get (F.ADC_CAL_PHASE b) = 3 →
      ∃ d : Chip, exec (.swap b) s = .next (s.acted d) ∧ d.get (F.ADC_CAL_PHASE b) = 4 ∧ d.get (F.ADC_CS_STAT_STATE b) = 2 ∧
        d.get (F.ADC_C_STAT_STATE (curConv s.chip b)) = 2) ∧
    (∀ (s : State) (b : Fin 2), going s.chip = true → s.chip.get (F.ADC_CAL_PHASE b) = 3 → (bank s.chip b).failing = false →
      ∃ d : Chip, exec (.swapinTimeout b) s = .next (s.acted d) ∧ d.get (F.ADC_CAL_PHASE b) = 0 ∧
        d.get (F.ADC_CAL_CALSKIP b) = min (s.chip.get (F.ADC_CAL_CALSKIP b) + 1) 255)

/-- A comparator condition holds in the modes of R228: outside the window (0), above (1), below (2), inside (3), and only once the comparators are settled and the comparator is enabled. A new input voltage is judged against the
thresholds with their hysteresis, while no threshold moves. HIL and LOL latch the conditions as they rise, and those that hold when the comparators settle. -/
def Obligations.ComparatorsJudgeTheWindow : Prop :=
  (∀ s : State, going s.chip = true → s.chip.adc.compSettled = false →
      ∃ d : Chip, exec .comparatorSettled s = .next (s.acted d) ∧ d.adc.compSettled = true ∧
        (∀ w : Fin 24, d.is (F.ADC_CMP_CTL_HIL w) = (s.chip.is (F.ADC_CMP_CTL_HIL w) || s.chip.adc.above.getLsbD w) ∧
          d.is (F.ADC_CMP_CTL_LOL w) = (s.chip.is (F.ADC_CMP_CTL_LOL w) || s.chip.adc.below.getLsbD w)) ∧
        sameBut ((List.range 24).map (fun w => (F.ADC_CMP_CTL_HIL w).addr)) s.chip d) ∧
    (∀ (s : State) (w : Fin 24) (uv : Nat), going s.chip = true → exec (.comparatorCondition w uv) s = .next (s.acted (compLevel w uv s.chip))) ∧
    (∀ (w uv : Nat) (c : Chip), w < c.adc.levels.length → movingFrom c w = none →
      ∃ d : Chip, compLevel w uv c = compInputs w (aboveHi uv (c.get (F.ADC_CMP_THR_HI w)) (c.get (F.ADC_CMP_CTL_HYST w)) (c.adc.above.getLsbD w))
          (belowLo uv (c.get (F.ADC_CMP_THR_LO w)) (c.get (F.ADC_CMP_CTL_HYST w)) (c.adc.below.getLsbD w)) d ∧
        d.adc.above = c.adc.above ∧ d.adc.below = c.adc.below ∧ d.adc.compSettled = c.adc.compSettled ∧ sameWords c d) ∧
    (∀ (w : Nat) (a b : Bool) (c : Chip), w < 24 → (compInputs w a b c).adc.above.getLsbD w = a ∧ (compInputs w a b c).adc.below.getLsbD w = b ∧
      (a = true → c.adc.above.getLsbD w = false → c.adc.compSettled = true → (compInputs w a b c).is (F.ADC_CMP_CTL_HIL w) = true) ∧
      (b = true → c.adc.below.getLsbD w = false → c.adc.compSettled = true → (compInputs w a b c).is (F.ADC_CMP_CTL_LOL w) = true) ∧
      sameBut [(F.ADC_CMP_CTL_HIL w).addr] c (compInputs w a b c)) ∧
    (∀ (c : Chip) (w : Nat), compCond c w = true ↔ c.adc.compSettled = true ∧ c.is (F.ADC_CMP_CTL_EN w) = true ∧
      ((c.get (F.ADC_CMP_CTL_MODE w) = 0 ∧ (c.adc.above.getLsbD w = true ∨ c.adc.below.getLsbD w = true)) ∨
        (c.get (F.ADC_CMP_CTL_MODE w) = 1 ∧ c.adc.above.getLsbD w = true) ∨ (c.get (F.ADC_CMP_CTL_MODE w) = 2 ∧ c.adc.below.getLsbD w = true) ∨
        (3 ≤ c.get (F.ADC_CMP_CTL_MODE w) ∧ c.adc.above.getLsbD w = false ∧ c.adc.below.getLsbD w = false)))
/-! ### The PWM generator (08_pwm_generator) -/

/-- The active window of a leg lies inside its period and is as wide as the duty in force, at every alignment and shift: with the duty within the period, on is at most off, off at most the period, and
without a minimum pulse the width is the duty. A leg's two commands are never both on, by a leg mode or by a Kerf state. -/
def Obligations.WindowsLieInsideThePeriod : Prop :=
  (∀ (cmode minp duty p : Nat) (shift : Int), duty ≤ p →
      (window cmode minp duty shift p).1 ≤ (window cmode minp duty shift p).2 ∧ (window cmode minp duty shift p).2 ≤ p ∧
        (minp = 0 → (window cmode minp duty shift p).2 = (window cmode minp duty shift p).1 + duty)) ∧
    (∀ (duty p : Nat), duty ≤ p → window 0 0 duty 0 p = (0, duty) ∧ window 1 0 duty 0 p = (p / 2 - duty / 2, p / 2 - duty / 2 + duty)) ∧
    (∀ (m : Nat) (act : Bool), ¬((legCommands m act).1 = true ∧ (legCommands m act).2 = true)) ∧
    (∀ st : Nat, ¬((kerfCommands st).1 = true ∧ (kerfCommands st).2 = true))

/-- The points of a carrier's period: at the boundary B + P the settings are taken, and the pending set with them if ZERO is an update point and its last commit lies nine cycles or more back, or COMMIT_LATE is set and counted
when it lies one to eight back, and a new period opens at that instant; at the middle of a period the sets and programs on MID are triggered; an extra compare triggers its sets once, and sets XCSKIP when it lies beyond the period;
a point that has not fallen, a group in angle mode, or one that does not run, has none of them. -/
def Obligations.CarrierPointsTakeEffect : Prop :=
  (∀ (s : State) (g : Fin 7), going s.chip = true → exec (.periodBoundary g) s = .next (s.acted (periodBoundaryAll g s.chip))) ∧
    (∀ (g : Nat) (c : Chip), boundaryDue c g = true → issuePoints g c = c → updZero (c.get (F.PWM_G_CTL_UPD g)) = false →
      periodBoundary g c = openPeriod g (instantOf c g (c.get (F.PWM_G_LPER_LPER g))) (takeCtl g c)) ∧
    (∀ (g : Nat) (c : Chip), boundaryDue c g = true → issuePoints g c = c → updZero (c.get (F.PWM_G_CTL_UPD g)) = true →
      (c.pwmg g).pend.isSome = true → (c.pwmg g).commitUp + 9 ≤ c.up →
      periodBoundary g c = openPeriod g (instantOf c g (c.get (F.PWM_G_LPER_LPER g))) (takeSet g false (takeCtl g c))) ∧
    (∀ (g : Nat) (c : Chip), boundaryDue c g = true → issuePoints g c = c → updZero (c.get (F.PWM_G_CTL_UPD g)) = true →
      (c.pwmg g).pend.isSome = true → (c.pwmg g).commitUp < c.up → c.up < (c.pwmg g).commitUp + 9 →
      periodBoundary g c = openPeriod g (instantOf c g (c.get (F.PWM_G_LPER_LPER g))) (commitLate g (takeCtl g c))) ∧
    (∀ (s : State) (g : Fin 7), going s.chip = true → (s.chip.pwmg g).running = true → angleMode s.chip g = false → (s.chip.pwmg g).half = false →
      fallen s.chip (instantOf s.chip g (s.chip.get (F.PWM_G_LPER_LPER g) / 2)) = true → updMid (s.chip.pwmg g).upd = false →
      ∃ d : Chip, exec (.midPoint g) s = .next (s.acted (if g.val < 6 then triggerSource (0x10 + g.val) d else d)) ∧ (d.pwmg g).half = true ∧
        sameWords s.chip d) ∧
    (∀ (s : State) (g : Fin 6) (n : Fin 4), going s.chip = true → (s.chip.pwmg g).running = true → angleMode s.chip g = false →
      ((s.chip.pwmg g).xc.getD n 0).field 47 1 = 1 → (s.chip.pwmg g).xcDone.getD n false = false →
      ((s.chip.pwmg g).xc.getD n 0).field 0 30 < s.chip.get (F.PWM_G_LPER_LPER g) →
      fallen s.chip (instantOf s.chip g (((s.chip.pwmg g).xc.getD n 0).field 0 30)) = true →
      ∃ d : Chip, exec (.xcTrigger g n) s = .next (s.acted (triggerSource (0x20 + 4 * g + n) d)) ∧
        (d.pwmg g).xcDone = (s.chip.pwmg g).xcDone.set n true ∧ sameWords s.chip d) ∧
    (∀ (s : State) (g : Fin 6) (n : Fin 4), going s.chip = true →
      (s.chip.get (F.PWM_G_LPER_LPER g) ≤ ((s.chip.pwmg g).xc.getD n 0).field 0 30 ∨ (s.chip.pwmg g).xcDone.getD n false = true) →
      exec (.xcTrigger g n) s = .next (s.acted s.chip)) ∧
    (∀ (g n : Nat) (c : Chip), ((c.pwmg g).xc.getD n 0).field 47 1 = 1 → c.get (F.PWM_G_LPER_LPER g) ≤ ((c.pwmg g).xc.getD n 0).field 0 30 →
      (markXcskip g c).is (F.PWM_G_STAT_XCSKIP g) = true) ∧
    (∀ (g : Nat) (c : Chip), (c.pwmg g).running = false ∨ angleMode c g = true → periodBoundary g c = c ∧ midPoint g c = c) ∧
    (∀ (g : Nat) (c : Chip), fallen c (instantOf c g (c.get (F.PWM_G_LPER_LPER g))) = false → periodBoundary g c = c) ∧
    (∀ (g : Nat) (c : Chip), g < 7 → (commitLate g c).is (F.PWM_G_STAT_COMMIT_LATE g) = true ∧
      (commitLate g c).get (F.PWM_G_CNT_LATECNT g) = min (c.get (F.PWM_G_CNT_LATECNT g) + 1) 255)

/-- Legs: a command edge of a running carrier, once its instant falls, sets the two commands of the leg from its window at the present position; a bootstrap refresh is due once its monitor has run for BSMAX, and waits for the boundary of its
carrier; a delay is taken while the switch's command is off and its delay line holds no edge; an edge that is due leaves its delay line and is the leg's delayed signal, and one that is not due stays. A delay-line measurement in range shows its taps and
DLOK; the fourth bad one in a row clears DLOK, sets DLFAIL and raises its device cause. -/
def Obligations.LegsFollowTheirCommands : Prop :=
  (∀ (s : State) (n : Fin 20) (pos : BitVec 30), going s.chip = true → (s.chip.pwmg (groupOf n)).running = true → angleMode s.chip (groupOf n) = false →
      (s.chip.leg n).refresh = false → fallen s.chip (instantOf s.chip (groupOf n) pos.toNat) = true →
      ∃ d : Chip, exec (.commandEdge n pos) s = .next (s.acted (commandLeg n (positionNow s.chip (groupOf n)) d)) ∧
        d.fine = finePos s.chip (instantOf s.chip (groupOf n) pos.toNat) ∧ d.pwmL = s.chip.pwmL ∧ sameWords s.chip d) ∧
    (∀ (n p : Nat) (c : Chip), n < c.pwmL.length → (c.leg n).refresh = false → angleMode c (groupOf n) = false →
      ((commandLeg n p c).leg n).cmdH =
          (legCommands (c.get (F.PWM_L_LDUTY_LMODE n)) (decide ((c.leg n).on ≤ p) && decide (p < (c.leg n).off))).1 ∧
        ((commandLeg n p c).leg n).cmdL =
          (legCommands (c.get (F.PWM_L_LDUTY_LMODE n)) (decide ((c.leg n).on ≤ p) && decide (p < (c.leg n).off))).2 ∧
        sameWords c (commandLeg n p c)) ∧
    (∀ (s : State) (n : Fin 20), going s.chip = true → s.chip.is (F.PWM_G_BSR_EN (groupOf n)) = true → (s.chip.pwmg (groupOf n)).running = true →
      angleMode s.chip (groupOf n) = false → lowLasts s.chip n = false →
      400 * max 1 (s.chip.get (F.PWM_G_BSR_BSMAX (groupOf n))) ≤ s.chip.up - (s.chip.leg n).monUp →
      ∃ d : Chip, exec (.bootstrapRefreshDue n) s = .next (s.acted d) ∧
        d.pwmL = s.chip.pwmL.modify n (fun l => { l with refreshDue := true }) ∧ sameWords s.chip d) ∧
    (∀ (s : State) (n : Fin 20), going s.chip = true → (cutCommands s.chip n).1 = false → (s.chip.leg n).lineH = [] →
      ∃ d : Chip, exec (.delayUpdate n true) s = .next (s.acted d) ∧ d.pwmL = s.chip.pwmL.modify n (fun l =>
        { l with riseH := s.chip.get (F.PWM_L_DLYH_RISE n), fallH := s.chip.get (F.PWM_L_DLYH_FALL n) }) ∧ sameWords s.chip d) ∧
    (∀ (s : State) (n : Fin 20), going s.chip = true → (cutCommands s.chip n).2 = false → (s.chip.leg n).lineL = [] →
      ∃ d : Chip, exec (.delayUpdate n false) s = .next (s.acted d) ∧ d.pwmL = s.chip.pwmL.modify n (fun l =>
        { l with riseL := s.chip.get (F.PWM_L_DLYL_RISE n), fallL := s.chip.get (F.PWM_L_DLYL_FALL n) }) ∧ sameWords s.chip d) ∧
    (∀ (s : State) (n : Fin 20) (high on : Bool), going s.chip = true → exec (.edgeLaunch n high on) s = .next (s.acted (edgeLaunch n high on s.chip))) ∧
    (∀ (n : Nat) (high on : Bool) (c : Chip), lineDue c (if high then (c.leg n).lineH else (c.leg n).lineL) on = false → edgeLaunch n high on c = c) ∧
    (∀ (n : Nat) (on : Bool) (c : Chip), lineDue c (c.leg n).lineH on = true →
      ((edgeLaunch n true on c).leg n).outH = on ∧ ((edgeLaunch n true on c).leg n).lineH = (c.leg n).lineH.tail) ∧
    (∀ (n : Nat) (on : Bool) (c : Chip), lineDue c (c.leg n).lineL on = true →
      ((edgeLaunch n false on c).leg n).outL = on ∧ ((edgeLaunch n false on c).leg n).lineL = (c.leg n).lineL.tail) ∧
    (∀ (s : State) (g : Fin 7) (taps : Nat), going s.chip = true → 72 ≤ taps → taps ≤ 160 →
      ∃ d : Chip, exec (.delayLineMeasurement g taps) s = .next (s.acted d) ∧ d.get (F.PWM_G_DLC_TAPS g) = taps ∧ d.is (F.PWM_G_DLC_DLOK g) = true ∧
        d.pwmG = s.chip.pwmG.modify g (fun q => { q with dlEver := true, dlBad := 0 }) ∧ sameBut [(F.PWM_G_DLC_TAPS g).addr] s.chip d) ∧
    (∀ (s : State) (g : Fin 7) (taps : Nat), going s.chip = true → (taps < 72 ∨ 160 < taps) → (s.chip.pwmg g).dlBad = 3 →
      ∃ d : Chip, exec (.delayLineMeasurement g taps) s = .next (s.acted d) ∧ d.is (F.PWM_G_DLC_DLOK g) = false ∧ d.is (F.PWM_G_DLC_DLFAIL g) = true ∧
        d.notices = s.chip.notices ++ [.device .dlfail])

/-! ### Gate-drive supervision (09_gate_drive) -/

/-- Strength frames: a frame carries its switch, edge, code and sequence number with odd parity; the initial load queues a frame for every switch and edge; a sent frame makes room for the next and waits for its latch, which shows its code in CUR, and the latch of the last code of the initial load sets LOADED; a refresh queues the next frame in turn; a break that ends clears BREAK; the
clear pulse ends. -/
def Obligations.StrengthFramesAreSentAndLatched : Prop :=
  (∀ f : Frame, ((List.range 16).countP (fun k => frameBits f / 2 ^ k % 2 = 1)) % 2 = 1 ∧ frameBits f / 2 ^ 14 = 2 ∧ frameBits f / 2 ^ 11 % 8 = f.sw % 8 ∧
      frameBits f / 2 ^ 10 % 2 = bit f.on ∧ frameBits f / 2 ^ 6 % 16 = f.code % 16 ∧ frameBits f / 2 ^ 3 % 8 = f.seq % 8) ∧
    (∀ (s : State) (g : Fin 7), going s.chip = true → (s.chip.gdsg g).drven = true → s.chip.is (F.GDS_G_STAT_LOADED g) = false → (s.chip.gdsg g).loading = false →
      ∃ d : Chip, exec (.initialLoad g) s = .next (s.acted (queueAll g d)) ∧ (d.gdsg g).loading = true ∧
        (d.gdsg g).toLoad = (List.range (switchCount g)).flatMap (fun sw => [(sw, true), (sw, false)]) ∧ sameWords s.chip d) ∧
    (∀ (s : State) (g : Fin 7) (f : Frame), going s.chip = true → (s.chip.gdsg g).cur = some f → s.chip.is (F.GDS_G_CFG_DUP g) = true →
      (s.chip.gdsg g).dupDue = false →
      ∃ d : Chip, exec (.strengthFrameSent g) s = .next (s.acted d) ∧ (d.gdsg g).cur = some f ∧ (d.gdsg g).dupDue = true ∧
        (d.gdsg g).latching = (s.chip.gdsg g).latching ++ [f] ∧ sameWords s.chip d) ∧
    (∀ (s : State) (g : Fin 7) (f : Frame), going s.chip = true → (s.chip.gdsg g).cur = some f → s.chip.is (F.GDS_G_CFG_DUP g) = false →
      ∃ d : Chip, exec (.strengthFrameSent g) s = .next (s.acted (startFrame g d)) ∧ (d.gdsg g).cur = none ∧
        (d.gdsg g).seq = ((s.chip.gdsg g).seq + 1) % 8 ∧ sameWords s.chip d) ∧
    (∀ (s : State) (g : Fin 7) (f : Frame) (rest : List Frame), going s.chip = true → (s.chip.gdsg g).latching = f :: rest → (s.chip.gdsg g).loading = false →
      legOfSwitch g f.sw < 20 → f.code < 16 →
      ∃ d : Chip, exec (.codeLatch g) s = .next (s.acted d) ∧ d.get (F.GDS_L_A_CUR (legOfSwitch g f.sw) (kindOfSwitch f.sw f.on)) = f.code ∧
        sameBut [(F.GDS_L_A_CUR (legOfSwitch g f.sw) (kindOfSwitch f.sw f.on)).addr] s.chip d) ∧
    (∀ (s : State) (g : Fin 7) (f : Frame) (rest : List Frame), going s.chip = true → (s.chip.gdsg g).latching = f :: rest →
      (s.chip.gdsg g).loading = true → (s.chip.gdsg g).drven = true → (s.chip.gdsg g).toLoad = [(f.sw, f.on)] →
      ∃ d : Chip, exec (.codeLatch g) s = .next (s.acted d) ∧ d.is (F.GDS_G_STAT_LOADED g) = true ∧ (d.gdsg g).loading = false) ∧
    (∀ (s : State) (g : Fin 7), going s.chip = true → (s.chip.gdsg g).drven = true → (s.chip.gdsg g).queue = [] → s.chip.get (F.GDS_G_CFG_REFINT g) ≠ 0 → (s.chip.gdsg g).refresh = 0 →
      exec (.refreshFrame g) s = .next (s.acted (queueFrame g 0 true (s.chip.modGdsg g (fun q => { q with refresh := 1 % (2 * switchCount g) }))))) ∧
    (∀ (s : State) (g : Fin 7), going s.chip = true → s.chip.is (F.GDS_G_STAT_BREAK g) = true → anySoft s.chip g = false →
      ∃ d : Chip, exec (.breakEnd g) s = .next (s.acted (startFrame g d)) ∧ d.is (F.GDS_G_STAT_BREAK g) = false ∧
        sameBut [(F.GDS_G_STAT_BREAK g).addr] s.chip d) ∧
    (∀ (s : State) (g : Fin 7), going s.chip = true →
      ∃ d : Chip, exec (.drvenClearPulseEnd g) s = .next (s.acted d) ∧ (d.gdsg g).clearPulse = false ∧ sameWords s.chip d)

/-- Edge sense and learning: with the driver enabled an edge that rises within the window of the latest launch of its leg belongs to that launch, with the code in force there; its fall shows the
delay, the width and the code of the pulse and counts it, shown for a pulse that a later launch keeps from adaptation, or counts an orphan where the pulse belongs to no launch; LIVEEDG shows the level, and while the driver is off nothing else happens; learning that
runs out of time for a kind is a failure of that kind. -/
def Obligations.EdgePulsesAreMeasured : Prop :=
  (∀ (s : State) (n : Fin 20) (f : Fin 64) (k t : Nat), going s.chip = true → (s.chip.gdsg (groupOf n)).drven = true → s.chip.is (F.GDS_L_FLT_LIVEEDG n) = false →
      (s.chip.gdsl n).lastLaunch = some (k, t) → t ≤ 64 * s.chip.up + f → 64 * s.chip.up + f ≤ t + s.chip.get (F.GDS_G_CFG_ATTW (groupOf n)) * 256 →
      ∃ d : Chip, exec (.edgeSensePulse n true f) s = .next (s.acted d) ∧ d.is (F.GDS_L_FLT_LIVEEDG n) = true ∧
        (d.gdsl n).edgAt = some (64 * s.chip.up + f) ∧ (d.gdsl n).pulse = some ⟨k, 64 * s.chip.up + f - t, (kindAt s.chip n k).codeAt, true⟩ ∧
        sameBut [(F.GDS_L_FLT_LIVEEDG n).addr] s.chip d) ∧
    (∀ (s : State) (n : Fin 20) (f : Fin 64) (ts : Nat) (p : GdsPulse), going s.chip = true → (s.chip.gdsg (groupOf n)).drven = true →
      s.chip.is (F.GDS_L_FLT_LIVEEDG n) = true → (s.chip.gdsl n).edgAt = some ts → (s.chip.gdsl n).pulse = some p → p.kind < 4 → p.clean = false →
      ∃ d : Chip, exec (.edgeSensePulse n false f) s = .next (s.acted d) ∧ d.is (F.GDS_L_FLT_LIVEEDG n) = false ∧
        d.get (F.GDS_L_M_DLY n p.kind) = min p.dly 0xFFFFF ∧ d.get (F.GDS_L_M_WID n p.kind) = min (64 * s.chip.up + f - ts) 0xFFFFF ∧
        d.get (F.GDS_L_M_CODEM n p.kind) = p.code % 2 ^ (F.GDS_L_M_CODEM n p.kind).width ∧
        d.get (F.GDS_L_M_CNT n p.kind) = (s.chip.get (F.GDS_L_M_CNT n p.kind) + 1) % 2 ^ (F.GDS_L_M_CNT n p.kind).width ∧
        (d.gdsl n).edgAt = none) ∧
    (∀ (s : State) (n : Fin 20) (f : Fin 64) (ts : Nat), going s.chip = true → (s.chip.gdsg (groupOf n)).drven = true →
      s.chip.is (F.GDS_L_FLT_LIVEEDG n) = true → (s.chip.gdsl n).edgAt = some ts → (s.chip.gdsl n).pulse = none →
      ∃ d : Chip, exec (.edgeSensePulse n false f) s = .next (s.acted d) ∧ d.is (F.GDS_L_FLT_LIVEEDG n) = false ∧
        d.get (F.GDS_G_CNT_ORPHAN (groupOf n)) = min (s.chip.get (F.GDS_G_CNT_ORPHAN (groupOf n)) + 1) 255) ∧
    (∀ (s : State) (n : Fin 20) (l : Bool) (f : Fin 64), going s.chip = true → (s.chip.gdsg (groupOf n)).drven = false →
      ∃ d : Chip, exec (.edgeSensePulse n l f) s = .next (s.acted d) ∧ d.is (F.GDS_L_FLT_LIVEEDG n) = l ∧
        sameBut [(F.GDS_L_FLT_LIVEEDG n).addr] s.chip d) ∧
    (∀ (s : State) (n : Fin 20) (k : Fin 4), going s.chip = true → (s.chip.gdsg (groupOf n)).learning = true → (kindAt s.chip n k).ended = false →
      exec (.learningTimeout n k) s = .next (s.acted (learnEnds n k false s.chip)) ∧
        (learnEnds n k false s.chip).getBit (F.GDS_G_LRN_FAIL (groupOf n)) (4 * legPos n + k) = true)

/-- Switch faults: DSAT asserted with the driver enabled sets LIVEDS, and with both outputs off it is DSIDLE and counted; an edge sense that has been high for TOVD since the turn-on of the one switch that is on is a fault of that switch; the blanking, once its time
has passed, and the soft turn-off end as told; a command edge after the latch clears a latched fault of a group that is not in fault; an interlock that lasts longer than the span of its group is a fault of the group: it enters its fault state. A group in fault has no
output on. -/
def Obligations.SwitchFaultsAreJudged : Prop :=
  (∀ (s : State) (n : Fin 20), going s.chip = true →
      ∃ d : Chip, exec (.dsatAssertion n false) s = .next (s.acted d) ∧ d.is (F.GDS_L_FLT_LIVEDS n) = false ∧ sameBut [(F.GDS_L_FLT_LIVEDS n).addr] s.chip d) ∧
    (∀ (s : State) (n : Fin 20), going s.chip = true → (s.chip.gdsg (groupOf n)).drven = true → s.chip.is (F.GDS_L_FLT_LIVEDS n) = false →
      (s.chip.leg n).outH = false → (s.chip.leg n).outL = false →
      ∃ d : Chip, exec (.dsatAssertion n true) s = .next (s.acted d) ∧ d.is (F.GDS_L_FLT_LIVEDS n) = true ∧ d.is (F.GDS_L_FLT_DSIDLE n) = true ∧
        d.get (F.GDS_G_CNT_DSIDLE (groupOf n)) = min (s.chip.get (F.GDS_G_CNT_DSIDLE (groupOf n)) + 1) 255 ∧
        sameBut [(F.GDS_L_FLT_LIVEDS n).addr, (F.GDS_G_CNT_DSIDLE (groupOf n)).addr] s.chip d) ∧
    (∀ (s : State) (n : Fin 20), going s.chip = true → (s.chip.gdsg (groupOf n)).drven = true → outOn s.chip n true = true → outOn s.chip n false = false →
      overdue s.chip n true = true → exec (.overdueFault n) s = .next (s.acted (switchFault n true false false s.chip))) ∧
    (∀ (s : State) (n : Fin 20), going s.chip = true → (s.chip.gdsg (groupOf n)).drven = true → outOn s.chip n true = false → outOn s.chip n false = true →
      overdue s.chip n false = true → exec (.overdueFault n) s = .next (s.acted (switchFault n false false false s.chip))) ∧
    (∀ (s : State) (n : Fin 20) (h : Bool), going s.chip = true → (switchOf s.chip n h).blanking = true →
      blankCycles s.chip n h ≤ s.chip.up - (switchOf s.chip n h).onUp →
      exec (.blankingEnd n h) s = .next (s.acted (endBlanking n h false s.chip))) ∧
    (∀ (s : State) (n : Fin 20) (h : Bool), going s.chip = true → (switchOf s.chip n h).softWait = true →
      (s.chip.gdsg (groupOf n)).entering = false →
      ∃ d : Chip, exec (.softForceOff n h) s = .next (s.acted d) ∧ (switchOf d n h).softWait = false ∧
        (switchOf d n h).forced = s.chip.is (latchFld n h) ∧ sameWords s.chip d) ∧
    (∀ (s : State) (n : Fin 20) (h : Bool), going s.chip = true → s.chip.is (latchFld n h) = true → (switchOf s.chip n h).edge = true →
      s.chip.is (F.GDS_G_STAT_FAULT (groupOf n)) = false →
      ∃ d : Chip, exec (.faultLatchClear n h) s = .next (s.acted d) ∧ d.is (latchFld n h) = false ∧ (switchOf d n h).forced = false ∧
        sameBut [(latchFld n h).addr] s.chip d) ∧
    (∀ (s : State) (g : Fin 7), going s.chip = true → (legsOf g).any (interlockLasts s.chip) = true → s.chip.is (F.GDS_G_STAT_FAULT g) = false →
      exec (.interlockFault g) s = .next (s.acted (enterFault g ((s.chip.raise (F.PWM_G_STAT_ILKFLT g)).raise (F.GDS_G_STAT_ILK g)))) ∧
        (enterFault g ((s.chip.raise (F.PWM_G_STAT_ILKFLT g)).raise (F.GDS_G_STAT_ILK g))).is (F.GDS_G_STAT_FAULT g) = true) ∧
    (∀ (g : Nat) (c : Chip), c.is (F.GDS_G_STAT_FAULT g) = true → outen c g = false) ∧
    (∀ (n : Nat) (h : Bool) (c : Chip), outen c (groupOf n) = false → outOn c n h = false)
/-! ### The Zaensan engine (10_zaensan_engine, 11_engine_blocks) -/

/-- A start of an enabled program on a mapped lane queues it; a start of one that is queued or runs is dropped and counted, but for one of the same ZCLK cycle, which forms one start with the first. A run takes the program with the highest
priority from its lane's queue, marks it running with its settings in force and starts its first stage; a run carries out its stages and blocks in order, and waits before a block that reads a slot its early start still waits for; its end, once nothing is left of it,
shows the program done, with the lane cycles of what it carried out, and frees the lane; a run that waits does not end. A requested reset of a program that neither runs nor waits is made.
When a block acts within its lane cycles is the model's reading (log entry 36). -/
def Obligations.ProgramsStartRunAndEnd : Prop :=
  (∀ (s : State) (p : Fin 64) (z : Nat), going s.chip = true → runMode s.chip.mode = true → s.chip.is (F.ZEN_PG_CFG_EN p) = true →
      physLane s.chip (s.chip.get (F.ZEN_PG_CFG_LANE p)) = some z → s.chip.is (F.ZEN_PG_STAT_QUEUED p) = false → s.chip.is (F.ZEN_PG_STAT_RUNNING p) = false →
      s.chip.zen.startAt.getD p none ≠ some (zclkNow s.chip) →
      ∃ d : Chip, exec (.programStart p) s = .next (s.acted d) ∧ d.is (F.ZEN_PG_STAT_QUEUED p) = true ∧ sameBut [(F.ZEN_PG_STAT_QUEUED p).addr] s.chip d) ∧
    (∀ (s : State) (p : Fin 64), going s.chip = true → runMode s.chip.mode = true → s.chip.is (F.ZEN_PG_CFG_EN p) = true →
      (s.chip.is (F.ZEN_PG_STAT_QUEUED p) = true ∨ s.chip.is (F.ZEN_PG_STAT_RUNNING p) = true) → s.chip.zen.startAt.getD p none ≠ some (zclkNow s.chip) →
      ∃ d : Chip, exec (.programStart p) s = .next (s.acted d) ∧ d.get (F.ZEN_PG_STAT_OVRUN p) = min (s.chip.get (F.ZEN_PG_STAT_OVRUN p) + 1) 255 ∧
        sameBut [(F.ZEN_PG_STAT_OVRUN p).addr] s.chip d) ∧
    (∀ (s : State) (p : Fin 64), going s.chip = true → s.chip.zen.startAt.getD p none = some (zclkNow s.chip) →
      exec (.programStart p) s = .next (s.acted s.chip)) ∧
    (∀ (s : State) (j : Fin 8) (p z : Nat), going s.chip = true → laneRun s.chip j = none → runMode s.chip.mode = true → nextProgram s.chip j = some p →
      physLane s.chip j = some z → p < 64 → z < 9 →
      ∃ d : Chip, exec (.runBegin j) s = .next (s.acted (carryOut false 1 j d)) ∧
        d.is (F.ZEN_PG_STAT_QUEUED p) = false ∧ d.is (F.ZEN_PG_STAT_RUNNING p) = true ∧ d.is (F.ZEN_LANE_STAT_BUSY z) = true ∧
        d.zen.running = s.chip.zen.running.set j (some
          { prog := p, cfg := s.chip.rd (F.ZEN_PG_CFG p), wait := (s.chip.zen.early.find? (·.1 == p)).map (·.2) })) ∧
    (∀ (n j : Nat) (r : ZRun) (it : Nat × Option Nat) (c : Chip), laneRun c j = some r → runNext c r = some it →
      (itemWaits c r it = true → carryOut false (n + 1) j c = c) ∧
        (itemWaits c r it = false → carryOut false (n + 1) j c = carryOut false n j (doItem j r it c))) ∧
    (∀ (j s : Nat) (r : ZRun) (c : Chip), ∃ q : ZRun, doItem j r (s, none) c = laneRunTo j (some q) (rescaleStage j s c) ∧ q.pos = r.pos + 1 ∧ q.prog = r.prog) ∧
    (∀ (c : Chip) (j p : Nat), nextProgram c j = some p → c.is (F.ZEN_PG_STAT_QUEUED p) = true ∧ c.get (F.ZEN_PG_CFG_LANE p) = j ∧
      ∀ q : Nat, q < 64 → c.is (F.ZEN_PG_STAT_QUEUED q) = true → c.get (F.ZEN_PG_CFG_LANE q) = j → c.get (F.ZEN_PG_CFG_PRIO q) ≤ c.get (F.ZEN_PG_CFG_PRIO p)) ∧
    (∀ (s : State) (j : Fin 8) (waits : Nat), going s.chip = true → exec (.runEnd j waits) s = .next (s.acted (runEndAll j waits s.chip))) ∧
    (∀ (j waits : Nat) (c : Chip) (r : ZRun), laneRun c j = some r → runNext c r = none → r.cfg.field 39 1 = 0 → r.prog < 64 →
      (runEnd j waits c).is (F.ZEN_PG_STAT_DONE r.prog) = true ∧ (runEnd j waits c).is (F.ZEN_PG_STAT_RUNNING r.prog) = false ∧
        (runEnd j waits c).get (F.ZEN_PG_STAT_CYCLAST r.prog) = min (runCycles r waits) 4095 ∧ laneRun (runEnd j waits c) j = none) ∧
    (∀ (j waits : Nat) (c : Chip) (r : ZRun) (it : Nat × Option Nat), laneRun c j = some r → runNext c r = some it → itemWaits c r it = true →
      runEnd j waits c = c) ∧
    (∀ (s : State) (p : Fin 64), going s.chip = true → exec (.programReset p) s = .next (s.acted (programReset p s.chip))) ∧
    (∀ (p : Nat) (c : Chip), p < 64 → c.is (F.ZEN_PG_STAT_RUNNING p) = false → c.is (F.ZEN_PG_STAT_QUEUED p) = false →
      (programReset p c).zen.pgrst.getLsbD p = false)

/-- A lane migrates to the spare: a request is taken with SRC, DST and phase 1, or refused with MIGREF where it cannot be; the copy's end enters phase 2; the switch maps the lane to the spare, counts MIGCNT, sets LANE_EVT and the event, and ends the migration; a
timeout abandons it, counts MIGSKIP and gives the spare back.
A lane test that passes returns its lane as the spare, tested once more; one that fails marks the lane failed, counts the failure and queues a repair record; an invalid one, or one whose clock or supply is out of limits, is ended as such. With a spare the scheduler asks for the next lane's test migration. A pulse meter that a program uses holds its last edge's times
in steps of 5 ns with the instant, and ignores pulses and gaps shorter than 50 ns.
The scheduler's order is the model's reading (log entry 58). -/
def Obligations.LanesMigrateAndAreTested : Prop :=
  (∀ (j d z : Nat) (b : Bool) (c : Chip), spareLane c = some d → physLane c j = some z → c.get F.ZEN_MIG_PHASE = 0 → runMode c.mode = true → d < 9 → z < 9 →
      (requestMigration j b c).get F.ZEN_MIG_PHASE = 1 ∧ (requestMigration j b c).get F.ZEN_MIG_SRC = z ∧ (requestMigration j b c).get F.ZEN_MIG_DST = d ∧
        (requestMigration j b c).get F.ZEN_LMAP_SPARE = 15 ∧ (requestMigration j b c).zen.migBist = b) ∧
    (∀ (j : Nat) (b : Bool) (c : Chip), spareLane c = none → (requestMigration j b c).is F.ZEN_STAT_MIGREF = true ∧
      sameBut [F.ZEN_STAT_MIGREF.addr] c (requestMigration j b c)) ∧
    (∀ s : State, going s.chip = true → s.chip.get F.ZEN_MIG_PHASE = 1 →
      ∃ d : Chip, exec .migrationCopyDone s = .next (s.acted d) ∧ d.get F.ZEN_MIG_PHASE = 2 ∧ (∀ a : Nat, a ≠ F.ZEN_MIG_PHASE.addr → d.rd a = s.chip.rd a) ∧
        d.zmem = s.chip.zmem ∧ d.store = s.chip.store) ∧
    (∀ s : State, going s.chip = true → s.chip.get F.ZEN_MIG_PHASE = 2 → laneRun s.chip (migLogical s.chip) = none → queuedOn s.chip (migLogical s.chip) = [] →
      ∃ d : Chip, exec .switchInstant s = .next (s.acted d) ∧ d.get F.ZEN_MIG_PHASE = 0 ∧ d.is F.ZEN_STAT_LANEEVT = true ∧
        d.get F.ZEN_MIG_MIGCNT = min (s.chip.get F.ZEN_MIG_MIGCNT + 1) 255 ∧ (d.rd 0x12).field 17 1 = 1) ∧
    (∀ s : State, going s.chip = true → s.chip.get F.ZEN_MIG_PHASE = 2 →
      ∃ d : Chip, exec .migrationTimeout s = .next (s.acted d) ∧ d.get F.ZEN_MIG_PHASE = 0 ∧ d.get F.ZEN_LMAP_SPARE = s.chip.get F.ZEN_MIG_DST ∧
        d.get F.ZEN_MIG_MIGSKIP = min (s.chip.get F.ZEN_MIG_MIGSKIP + 1) 255) ∧
    (∀ s : State, going s.chip = true → s.chip.get F.ZEN_LMAP_TESTL ≠ 15 → clkOk s.chip = true → vOk s.chip = true →
      ∃ d : Chip, exec (.laneTestDone true true) s = .next (s.acted (endLaneReq 1 d)) ∧ d.is F.DEV_EVT0_BIST_EVT = true ∧
        sameBut [0x10] (laneTested true s.chip) d) ∧
    (∀ (s : State) (p v : Bool), going s.chip = true → s.chip.get F.ZEN_LMAP_TESTL ≠ 15 →
      (v = false ∨ clkOk s.chip = false ∨ vOk s.chip = false) →
      exec (.laneTestDone p v) s = .next (s.acted (endLaneReq 3 (laneTestInvalid s.chip)))) ∧
    (∀ s : State, going s.chip = true → s.chip.get F.ZEN_LMAP_TESTL ≠ 15 → clkOk s.chip = true → vOk s.chip = true →
      ∃ d : Chip, exec (.laneTestDone false true) s = .next (s.acted (endLaneReq 2 d)) ∧ d.is F.BST_STAT_FAIL = true ∧
        d.get F.BST_STAT_OPFAIL = min (s.chip.get F.BST_STAT_OPFAIL + 1) 255 ∧ d.repairs = s.chip.repairs ++ [⟨5, s.chip.get F.ZEN_LMAP_TESTL, 0, 0⟩]) ∧
    (∀ c : Chip, c.get F.ZEN_LMAP_TESTL < 9 → (laneTested true c).get F.ZEN_LMAP_TESTL = 15 ∧ (laneTested true c).get F.ZEN_LMAP_SPARE = c.get F.ZEN_LMAP_TESTL ∧
      (laneTested true c).get (F.ZEN_LANE_STAT_STATE (c.get F.ZEN_LMAP_TESTL)) = 1 ∧
      (laneTested false c).get (F.ZEN_LANE_STAT_STATE (c.get F.ZEN_LMAP_TESTL)) = 4 ∧ (laneTested false c).is F.ZEN_STAT_NOSPARE = true) ∧
    (∀ (s : State) (j : Nat), going s.chip = true → runMode s.chip.mode = true → (spareLane s.chip).isSome = true → s.chip.is F.BST_OPCFG_EN = true → s.chip.get F.ZEN_MIG_PHASE = 0 → s.chip.get F.ZEN_LMAP_TESTL = 15 →
      nextTestLane s.chip = some j →
      exec .bistSchedulerTick s = .next (s.acted (requestMigration j true (modBist (fun b => { b with lastLane := j }) s.chip)))) ∧
    (∀ (s : State) (u : Fin 2) (h p : Nat), going s.chip = true → (h < 50 ∨ p < h + 50) → exec (.pulseMeterEdge u h p) s = .next (s.acted s.chip)) ∧
    (∀ (s : State) (u : Fin 2) (h p : Nat), going s.chip = true → runMode s.chip.mode = true → pulseUsed s.chip u = true → 50 ≤ h → h + 50 ≤ p →
      ∃ d : Chip, exec (.pulseMeterEdge u h p) s = .next (s.acted d) ∧ sameWords s.chip d ∧
        d.zen.meters = s.chip.zen.meters.modify u (fun m =>
          { edges := min 2 (m.edges + 1), high := h / 5 * 5, period := p / 5 * 5, edgeAt := s.chip.now }))
/-! ### Motor axes (12_motor_control) -/

/-- A catch that has found too little back-EMF enters ALIGN, with the step of the configured method; one that has found enough goes on to the lock of a sensorless source or requests the axis program's reset and waits to run. A lock or a source that does not come in time raises the
catch or the alignment cause. The magnetising method ends in the program's reset; the injection method goes on to the polarity pulses, whose two responses, once a pair is over, confirm the angle, turn it by half a turn, or raise the polarity cause; a DC alignment sets the offset of a resolver or an encoder so that its angle reads 0.
The catch's figures and the placing of a tracker are the model's reading (log entries 34, 39 and 42). -/
def Obligations.CatchesAlignmentsAndPolarity : Prop :=
  (∀ (s : State) (a : Fin 4), going s.chip = true → isMotor s.chip a = true → s.chip.get (F.MOT_STAT_STEP a) = 1 → identifying s.chip a = false →
      ((axisSeq s.chip a).catchN < 2 * (axisSeq s.chip a).catchLow ∨ (axisSeq s.chip a).catchN = 0) →
      ∃ d : Chip, exec (.catchDetectEnd a) s = .next (s.acted d) ∧ d.sub a = .align ∧ d.zen.pgrst.getLsbD (s.chip.get (F.MOT_CFG_PG a)) = true ∧
        d.get (F.MOT_STAT_STEP a) = (match s.chip.get (F.MOT_CFG_START a) with | 1 => 3 | 2 => 4 | 3 => 6 | _ => 0)) ∧
    (∀ (s : State) (a : Fin 4), going s.chip = true → isMotor s.chip a = true → s.chip.get (F.MOT_STAT_STEP a) = 1 → identifying s.chip a = false →
      2 * (axisSeq s.chip a).catchLow ≤ (axisSeq s.chip a).catchN → (axisSeq s.chip a).catchN ≠ 0 → s.chip.get (F.MOT_CSTP_CSPD a) = 0 →
      s.chip.rd (F.MOT_PSI_PSI a).addr = 0 →
      ∃ d : Chip, exec (.catchDetectEnd a) s = .next (s.acted d) ∧
        (if axisSource s.chip a = 4 then d.get (F.MOT_STAT_STEP a) = 2 ∧ d.is (F.MOT_STAT_OWN a) = true
         else d.zen.pgrst.getLsbD (s.chip.get (F.MOT_CFG_PG a)) = true ∧ d.get (F.MOT_STAT_STEP a) = 1)) ∧
    (∀ (s : State) (a : Fin 4), going s.chip = true → isMotor s.chip a = true → s.chip.get (F.MOT_STAT_STEP a) = 2 → (axisSeq s.chip a).runDue = false →
      exec (.catchLockTimeout a) s = .next (s.acted (s.chip.notice (.axis a .catch)))) ∧
    (∀ (s : State) (a : Fin 4), going s.chip = true → isMotor s.chip a = true → s.chip.sub a = .align → alignMethod s.chip a = 0 → trackerValid s.chip a = false →
      exec (.alignTimeout a) s = .next (s.acted (s.chip.notice (.axis a .align)))) ∧
    (∀ (s : State) (a : Fin 4), going s.chip = true → isMotor s.chip a = true → s.chip.get (F.MOT_STAT_STEP a) = 6 → (axisSeq s.chip a).runDue = false →
      ∃ d : Chip, exec (.magnEnd a) s = .next (s.acted d) ∧ d.zen.pgrst.getLsbD (s.chip.get (F.MOT_CFG_PG a)) = true ∧
        d.axes = s.chip.axes.modify a (fun q => { q with runDue := true }) ∧ sameWords s.chip d) ∧
    (∀ (s : State) (a : Fin 4), going s.chip = true → isMotor s.chip a = true → s.chip.get (F.MOT_STAT_STEP a) = 4 →
      ∃ d : Chip, exec (.hfiEnd a) s = .next (s.acted d) ∧ d.get (F.MOT_STAT_STEP a) = 5 ∧ d.is (F.MOT_STAT_OWN a) = true ∧
        d.is (F.MOT_FLAGS_HFI a) = false ∧ d.is (F.MOT_FLAGS_SEQREF a) = false) ∧
    (∀ (s : State) (a : Fin 4) (p m : Int), going s.chip = true → isMotor s.chip a = true → pairOver s.chip a = true → s.chip.get (F.MOT_STAT_STEP a) = 5 → (axisSeq s.chip a).flipDue = false →
      identifying s.chip a = false → (axisSeq s.chip a).iPlus = some p → (axisSeq s.chip a).iMinus = some m → max p m ≠ 0 →
      ∃ d : Chip, exec (.polarityPulseEnd a) s = .next (s.acted d) ∧
        (let r : Rat := (((p - m) * 100 : Int) : Rat) / ((max p m : Int) : Rat)
         let t : Rat := ((s.chip.get (F.MOT_PLS_PTHR a) : Int) : Rat)
         if t ≤ r then d.is (F.MOT_STAT_POLOK a) = true ∧ d.is (F.MOT_STAT_ALIGNED a) = true ∧ d.zen.pgrst.getLsbD (s.chip.get (F.MOT_CFG_PG a)) = true
         else if r ≤ -t then d.is (F.MOT_STAT_POLOK a) = true ∧ d.is (F.MOT_STAT_ALIGNED a) = true ∧
           d.axes = s.chip.axes.modify a (fun q => { q with flipDue := true })
         else (axisSeq s.chip a).polPairs < s.chip.get (F.MOT_PLS_PTRY a) ∨ d = s.chip.notice (.axis a .polarity))) ∧
    (∀ (s : State) (a : Fin 4), going s.chip = true → (axisSeq s.chip a).flipDue = true → programIdle s.chip a = true →
      exec (.polarityFlip a) s = .next (s.acted (aligned a (modAxis a (fun q => { q with flipDue := false })
        (if s.chip.is (F.MOT_OBS_AIEN a) then
          presetWord a (s.chip.get (F.MOT_OBS_AIBLK a)) 0 (presetRead s.chip a (s.chip.get (F.MOT_OBS_AIBLK a)) 0 + 0x800000000000).toInt s.chip
         else s.chip))))) ∧
    (∀ (s : State) (a : Fin 4) (t : Nat), going s.chip = true → isMotor s.chip a = true → s.chip.get (F.MOT_STAT_STEP a) = 3 → (axisSeq s.chip a).dcRest = 0 →
      (axisSource s.chip a = 1 ∨ axisSource s.chip a = 2) → axisTracker s.chip a = some t →
      ∃ d : Chip, exec (.dcAlignEnd a) s = .next (s.acted d) ∧ d.is (F.MOT_STAT_ALIGNED a) = true ∧
        d.rd (F.AT_OFFS t) = s.chip.rd (F.AT_OFFS t) - s.chip.rd (F.AT_ANG t))

/-- A running axis evaluates its measured speed at the sequencer's tick from its valid tracker; the modulation ladder selects the first pattern that qualifies, or none; block commutation, at another sector than the one it stands at, drives one leg of three, holds one low and one off; the observers take their presets
while the program is idle; the back-EMF ratio is evaluated while it applies; identification goes through its levels; and an axis that stops ends in OFF with its sequencer's flags clear, at its stop speed or, with STOPTO, at its time limit.
The order and the roundings are the model's reading (log entries 42 and 43). -/
def Obligations.RunningIdentifyingAndStoppingAxes : Prop :=
  (∀ s : State, going s.chip = true → exec .sequencerTick s = .next (s.acted ((s.chip.forN 4 (fun a c => convTick a (motorTick a c))).forN 4 ascSpeed))) ∧
    (∀ (a : Nat) (c : Chip), a < 4 → isMotor c a = true →
      (motorTick a c).rd (F.MOT_MEAS_MEAS a).addr = BitVec.ofInt 48 (match axisTracker c a with
        | some t => if c.is (F.AT_STAT_VALID t) then roundDiv (c.geti (F.AT_SPD_SPD t) * 24000000000) (2 ^ 32 * polePairs c a) else 0
        | none => 0)) ∧
    (∀ (s : State) (a : Fin 4) (t : Nat), going s.chip = true → axisTracker s.chip a = some t → isMotor s.chip a = true → s.chip.is (F.MOT_LAD_EN a) = true →
      s.chip.sub a = .run → s.chip.is (F.KT_COMMIT_PENDING t) = false → s.chip.is (F.KT_STAT_ENGD t) = false →
      ∃ d : Chip, exec (.ladderTick a) s = .next (s.acted d) ∧ d.is (F.KT_COMMIT_PENDING t) = true ∧
        d.rd (F.KT_NORG t) = s.chip.rd (F.MOT_LORG_LORG a).addr - (axisSeq s.chip a).mon.getD 5 0 ∧
        (let q (p : Nat) : Bool := ladderQual s.chip a p 0 (absRat (elecHz s.chip a)) (monRat s.chip a 4)
         (d.is (F.KT_NSEL_ENG t) = true ↔ ∃ p, p < 8 ∧ q p = true) ∧
           ∀ p, p < 8 → q p = true → (∀ r, r < p → q r = false) → d.get (F.KT_NSEL_PAT t) = p)) ∧
    (∀ (s : State) (a : Fin 4), going s.chip = true → isMotor s.chip a = true → s.chip.get (F.MOT_STAT_STEP a) = 7 →
      (axisSeq s.chip a).sector = some (sectorOf s.chip a) → exec (.sectorChange a) s = .next (s.acted s.chip)) ∧
    (∀ (s : State) (a : Fin 4), going s.chip = true → isMotor s.chip a = true → s.chip.get (F.MOT_STAT_STEP a) = 7 → s.chip.is (F.MOT_CFG_CRST a) = false →
      (axisSeq s.chip a).sector ≠ some (sectorOf s.chip a) →
      exec (.sectorChange a) s = .next (s.acted (commutate a (sectorOf s.chip a) true s.chip))) ∧
    (∀ (c : Chip) (a k g : Nat), a < 4 → k < 6 → g < 6 → (axisGroups c a).head? = some g →
      ∃ h l : Nat, h < 3 ∧ l < 3 ∧ h ≠ l ∧ (commutate a k true c).get (F.PWM_L_DUTY_LMODE (3 * g + h)) = 1 ∧
        (commutate a k true c).get (F.PWM_L_DUTY_LMODE (3 * g + l)) = 5 ∧
        (commutate a k true c).get (F.PWM_L_DUTY_LMODE (3 * g + (3 - h - l))) = 3) ∧
    (∀ (s : State) (a : Fin 4) (w : Word), going s.chip = true → programIdle s.chip a = true → resetWaits s.chip a = false → (axisSeq s.chip a).fluxDue = none →
      (axisSeq s.chip a).angDue = some (.value w) → s.chip.is (F.MOT_OBS_AIEN a) = true →
      exec (.observerPreset a) s = .next (s.acted (modAxis a (fun q => { q with fluxDue := none, angDue := none })
        (presetWord a (s.chip.get (F.MOT_OBS_AIBLK a)) 0 w.toInt s.chip)))) ∧
    (∀ (s : State) (a : Fin 4), going s.chip = true → axisFunc s.chip a = 1 → coefRat (s.chip.rd (F.MOT_PSI_PSI a).addr) ≠ 0 → s.chip.sub a = .run →
      s.chip.is (F.MOT_FLAGS_SYNC a) = false → elecHz s.chip a ≠ 0 → ((s.chip.get (F.MOT_KE_KEMIN a) : Nat) : Rat) ≤ absRat (elecHz s.chip a) →
      ∃ d : Chip, exec (.kemfEvaluation a) s = .next (s.acted d) ∧
        (let w : Rat := twoPi * elecHz s.chip a
         let r : Rat := (monRat s.chip a 1 - coefRat (s.chip.rd (F.MOT_RS_RS a).addr) * monRat s.chip a 3 -
           w * coefRat (s.chip.rd (F.MOT_LD_LD a).addr) * monRat s.chip a 2) / (w * coefRat (s.chip.rd (F.MOT_PSI_PSI a).addr))
         d.get (F.MOT_KER_RATIO a) = (clampInt 0 0xFFFFFF (roundRat (r * 65536))).toNat)) ∧
    (∀ (s : State) (a : Fin 4), going s.chip = true → identifying s.chip a = true → (axisSeq s.chip a).task = some 2 → (axisSeq s.chip a).phase = 0 →
      ∃ d : Chip, exec (.idTestEnd a) s = .next (s.acted d) ∧
        d.rd (F.MOT_IDREF_IDREF a).addr = BitVec.ofInt 48 (roundRat (((s.chip.get (F.MOT_IDC_IDI a) : Nat) : Rat) * 65536)) ∧
        d.rd (F.MOT_IQREF_IQREF a).addr = 0) ∧
    (∀ (s : State) (a : Fin 4), going s.chip = true → stopActs s.chip a = true → measMag s.chip a < s.chip.get (F.MOT_CSTP_STOPSPD a) * 65536 →
      exec (.stopComplete a) s = .next (s.acted (enterOff a s.chip))) ∧
    (∀ (s : State) (a : Fin 4), going s.chip = true → stopActs s.chip a = true → s.chip.get (F.MOT_CVS_STOPTMO a) ≠ 0 →
      ∃ d : Chip, exec (.stopTimeout a) s = .next (s.acted d) ∧ d.is (F.MOT_STAT_STOPTO a) = true ∧ d.sub a = .off) ∧
    (∀ (c : Chip) (a : Nat), a < 4 → (enterOff a c).sub a = .off ∧ (enterOff a c).get (F.MOT_STAT_STEP a) = 0 ∧ (enterOff a c).is (F.MOT_STAT_OWN a) = true ∧
      (c.sub a ≠ .off → (enterOff a c).is (F.MOT_FLAGS_RUN a) = false ∧ (enterOff a c).is (F.MOT_FLAGS_STOP a) = false))
/-! ### Converter axes and the power budget (13_charge_and_power_budget) -/

/-- A converter whose grid is steady goes on to arm its carriers' common restart; a grid or a restart that does not come in time raises the cause. The budget's tick lowers the limit by BSLEW; an overrun that meets its deadline raises BUDFLT, and use inside the limit ends the overrun; a lease that
expires, no grant frame having come in that cycle, leaves the fall-back grant. A converter that stops ends in OFF with no power limit, at its stop power or, with STOPTO, at its time limit.
The units and roundings of the budget are the model's (log entry 44). -/
def Obligations.ConvertersStartStopAndKeepTheBudget : Prop :=
  (∀ (s : State) (a : Fin 4) (t : Nat), going s.chip = true → isConverter s.chip a = true → s.chip.get (F.CNV_STAT_CSTEP a) = 1 → axisTracker s.chip a = some t →
      s.chip.is (F.AT_STAT_VALID t) = true → s.chip.is (F.AT_STAT_SRCFLT t) = false →
      ((s.chip.get (F.CNV_MON_VGMIN a) : Nat) : Rat) ≤ cnvRat s.chip a 3 → s.chip.is (F.CNV_ILV_EN a) = false →
      ∃ d : Chip, exec (.gsyncSteady a) s = .next (s.acted d) ∧ d.get (F.CNV_STAT_CSTEP a) = 2 ∧
        d.rd (F.NWT_NCn_TGT_TGT (s.chip.get (F.CNV_ILV_NC a))).addr = s.chip.fnow + 100000 ∧
        d.get (F.NWT_NCn_CTL_ACTION (s.chip.get (F.CNV_ILV_NC a))) = 3) ∧
    (∀ (s : State) (a : Fin 4), going s.chip = true → isConverter s.chip a = true → s.chip.get (F.CNV_STAT_CSTEP a) = 1 →
      exec (.gsyncTimeout a) s = .next (s.acted (s.chip.notice (.axis a .gridsync)))) ∧
    (∀ (s : State) (a : Fin 4), going s.chip = true → isConverter s.chip a = true → s.chip.get (F.CNV_STAT_CSTEP a) = 2 →
      exec (.armTimeout a) s = .next (s.acted (s.chip.notice (.axis a .armto)))) ∧
    (∀ s : State, going s.chip = true → s.chip.is F.CNV_BFLG_RAMP = true → s.chip.is F.CNV_BFLG_BUDGET_OVER = false → s.chip.conv.deadline = none →
      ((100 * s.chip.get F.CNV_BSTAT_GRANT : Nat) : Rat) < blW s.chip - ((s.chip.get F.CNV_BCFG_BSLEW : Nat) : Rat) →
      ∃ d : Chip, exec .budgetTick s = .next (s.acted d) ∧ d.is F.CNV_BFLG_RAMP = true ∧
        d.conv.bl = (roundRat ((blW s.chip - ((s.chip.get F.CNV_BCFG_BSLEW : Nat) : Rat)) * 65536)).toNat) ∧
    (∀ s : State, going s.chip = true → s.chip.is F.CNV_BFLG_RAMP = true → s.chip.is F.CNV_BFLG_BUDGET_OVER = false → s.chip.conv.deadline = none →
      blW s.chip - ((s.chip.get F.CNV_BCFG_BSLEW : Nat) : Rat) ≤ ((100 * s.chip.get F.CNV_BSTAT_GRANT : Nat) : Rat) →
      ∃ d : Chip, exec .budgetTick s = .next (s.acted d) ∧ d.is F.CNV_BFLG_RAMP = false ∧ d.conv.bl = 100 * s.chip.get F.CNV_BSTAT_GRANT * 65536) ∧
    (∀ s : State, going s.chip = true → s.chip.is F.CNV_BFLG_BUDGET_OVER = true → s.chip.conv.deadline.isSome → grantLimit s.chip < budgetUse s.chip →
      ∃ d : Chip, exec .budgetDeadline s = .next (s.acted d) ∧ d.is F.CNV_BFLG_BUDFLT = true ∧ d.is F.CNV_BFLG_BUDGET_OVER = false ∧
        d.conv.deadline = none ∧ d.notices = s.chip.notices ++ [.device .budflt]) ∧
    (∀ s : State, going s.chip = true → s.chip.is F.CNV_BFLG_BUDGET_OVER = true → budgetUse s.chip ≤ grantLimit s.chip →
      ∃ d : Chip, exec .budgetDeadline s = .next (s.acted d) ∧ d.is F.CNV_BFLG_BUDGET_OVER = false ∧ d.conv.deadline = none ∧
        d.is F.CNV_BFLG_BUDFLT = s.chip.is F.CNV_BFLG_BUDFLT) ∧
    (∀ s : State, going s.chip = true → s.chip.is F.CNV_BFLG_BUSOK = true → s.chip.get F.CNV_BCFG_BTMO ≠ 0 → s.chip.get F.CNV_BCFG_BSRC = 1 → s.chip.conv.frameUp ≠ some s.chip.up →
      ∃ d : Chip, exec .leaseExpiry s = .next (s.acted d) ∧ d.is F.CNV_BFLG_BUSOK = false ∧ d.is F.CNV_BFLG_LEASE = true ∧
        d.get F.CNV_BSTAT_GRANT = s.chip.get F.CNV_BLIM_BFALL) ∧
    (∀ (s : State) (a : Fin 4), going s.chip = true → isConverter s.chip a = true → stopRuns s.chip .charge = true → s.chip.sub a = .stopping →
      absRat (cnvRat s.chip a 0) ≤ ((100 * s.chip.get (F.CNV_CCFG_PSTOP a) : Nat) : Rat) →
      ∃ d : Chip, exec (.converterStopComplete a) s = .next (s.acted d) ∧ d.sub a = .off ∧ d.get (F.CNV_STAT_CSTEP a) = 0 ∧ d.rd (F.CNV_PLIM_PLIM a).addr = 0) ∧
    (∀ (s : State) (a : Fin 4), going s.chip = true → isConverter s.chip a = true → stopRuns s.chip .charge = true → s.chip.sub a = .stopping →
      s.chip.get (F.CNV_CCFG_STOPTMO a) ≠ 0 →
      ∃ d : Chip, exec (.converterStopTimeout a) s = .next (s.acted d) ∧ d.sub a = .off ∧ d.is (F.MOT_STAT_STOPTO a) = true ∧
        d.rd (F.CNV_PLIM_PLIM a).addr = 0)
/-! ### Power-stage protection (14_power_stage_protection) and the configuration check (04_modes_and_configuration_check) -/

/-- A link voltage that is not renewed in time ends VOK and, where it protects, raises VLOST. A precharge that runs out of time records the reason, clears LINK_OK, turns its output off on every ball and completes the mode; so does a discharge with its own cause. A chopper that draws no current while it is on has failed. An active short
circuit whose tracker stays invalid ends in the freewheeling safe state. The configuration check ends and shows its result.
WHERE is the model's reading (log entry 20). -/
def Obligations.ProtectionTimeoutsAndTheConfigurationCheck : Prop :=
  (∀ s : State, going s.chip = true → ∃ d : Chip, exec .vlostTimeout s = .next (s.acted d) ∧ d.is F.PRT_STAT_VOK = false ∧
      (if (protActs s.chip.mode && s.chip.mode != .config && !s.chip.is F.PRT_DFLT_VLOST) = true then
        d.is F.PRT_DFLT_VLOST = true ∧ d.notices = s.chip.notices ++ [.device .vlost] else d.notices = s.chip.notices)) ∧
    (∀ s : State, s.chip.mode = .precharge → s.chip.clk.gated = false →
      ∃ d : Chip, exec .prechargeTimeout s = .next (s.acted d) ∧ d.is F.PRT_DFLT_PRECH = true ∧ d.get F.PRT_STAT_PCRSN = 3 ∧ d.is F.DEV_MODE_LINK_OK = false ∧
        d.prot.pchOut = false ∧ (∀ n : Nat, prechargeBall d n ≠ some true) ∧ d.notices.getLast? = some (.complete .standby .complete)) ∧
    (∀ s : State, s.chip.mode = .discharge → s.chip.clk.gated = false → s.chip.is F.PRT_DFLT_DISCH_TMO = false →
      ∃ d : Chip, exec .dischargeTimeout s = .next (s.acted d) ∧ d.is F.PRT_DFLT_DISCH_TMO = true ∧
        d.notices = s.chip.notices ++ [.device .dischTmo, .complete .standby .complete]) ∧
    (∀ s : State, going s.chip = true → s.chip.prot.chopDue = true → s.chip.prot.chopSeen = false → chopperOn s.chip = true → s.chip.is F.PRT_CHP_CMPEN = true →
      ∃ d : Chip, exec .chnoiCheck s = .next (s.acted d) ∧ d.is F.PRT_CHS_CHNOI = true ∧ d.is F.PRT_CHS_CHFAIL = true ∧ d.is F.PRT_CHS_CHON = false ∧
        d.prot.chopDue = false) ∧
    (∀ s : State, going s.chip = true → s.chip.prot.chopSeen = true →
      ∃ d : Chip, exec .chnoiCheck s = .next (s.acted d) ∧ d.prot.chopDue = false ∧ sameWords s.chip d) ∧
    (∀ (s : State) (a : Fin 4), going s.chip = true → ascOn s.chip a = true → trackerValid s.chip a = false →
      ∃ d : Chip, exec (.ascTimeout a) s = .next (s.acted d) ∧ d.get (F.PRT_SST_STATE a) = 3 ∧
        d.get (F.PRT_SST_SCAUSE a) = s.chip.get (F.PRT_SST_SCAUSE a) ∧ d.sub a = .off) ∧
    (∀ s : State, going s.chip = true → s.chip.is F.DEV_CFGCHK_BUSY = true →
      ∃ d : Chip, exec .configCheckDone s = .next (s.acted d) ∧ d.is F.DEV_CFGCHK_BUSY = false ∧ d.ms.checkRunning = false ∧
        d.get F.DEV_CFGCHK_ITEM = (checkResult s.chip).1 % 2 ^ F.DEV_CFGCHK_ITEM.width ∧
        d.get F.DEV_CFGCHK_WHERE = (checkResult s.chip).2 % 2 ^ F.DEV_CFGCHK_WHERE.width ∧ ((checkResult s.chip).1 ≠ 0 → (d.rd 0x10).field 6 1 = 1))
/-! ### The Rind safety island (15_rind_safety_island) -/

/-- The STO outputs rise only while no request holds them; their read-back is an internal fault when wrong and a proof of STO while requested; an internal fault latches the device. An active comparator demands STO and sets its bit, an inactive one ends the condition and keeps the bit. A conversion writes
its code and value; cross-comparisons count their deviations; a torque monitor shows whether it is active and knows its angle; a stale reference, a monitored stop's end, the end of a deferral, the self-test, the parameter set's check, the clock window and the proof hours have the effect that each rule gives. While Rind's logic is held in reset or has no clock, none of its events has an effect of its own.
The ten evaluations of the standstill, SS1EXP's end and the outputs after an internal fault are the model's reading (log entries 26, 30 and 49). -/
def Obligations.RindHoldsStoAndRaisesDemands : Prop :=
  (∀ (s : State) (b : Bool) (k : Fin 4) (uv n : Nat) (e : Fin 12) (x : BitVec 12) (f : Fin 8) (m : Fin 2) (h : BitVec 3) (o : Option (Fin 8)), rindRuns s.chip = false →
      ∀ i ∈ [Instr.stoRelease, .stoReadback b, .rcmpDemand k uv, .saConversion e x, .crossComparisonWindow f, .torqueEvaluation m h n, .trefFreshness m,
        .ss1Evaluation, .ss1Timeout, .ascDeferralEnd, .rindSelfTestDone o, .psetcrcCheck b, .sclkmonWindow n, .proofHour], exec i s = .next (s.acted s.chip)) ∧
    (∀ s : State, rindRuns s.chip = true → exec .stoRelease s = .next (s.acted (stoRelease s.chip))) ∧
    (∀ c : Chip, c.sto.request = false → c.sto.stoa = false → (stoRelease c).sto.stoa = true ∧ (stoRelease c).sto.stob = true) ∧
    (∀ c : Chip, (c.sto.request = true ∨ c.sto.stoa = true) → stoRelease c = c) ∧
    (∀ (k : Nat) (c : Chip), k < 8 → (c.rd 0xC0002).field k 1 = 0 →
      ((internalFault k c).rd 0xC0002).field k 1 = 1 ∧ (internalFault k c).rind.latch = true ∧ (internalFault k c).is F.DEV_MODE_LATCH = true ∧
        (internalFault k c).notices = c.notices ++ [.latch .internal]) ∧
    (∀ s : State, rindRuns s.chip = true → exec (.stoReadback false) s = .next (s.acted (internalFault 6 s.chip))) ∧
    (∀ s : State, rindRuns s.chip = true → s.chip.sto.request = true → ∃ d : Chip, exec (.stoReadback true) s = .next (s.acted d) ∧ d.get F.SAF_STAT_PROOFH = 0 ∧
      d.is F.SAF_STAT_STOPROOF = false ∧ (rindFaulted s.chip = false → d.sto.ssoa = true ∧ d.sto.ssob = true)) ∧
    (∀ (s : State) (k : Fin 4) (uv : Nat), rindRuns s.chip = true → s.chip.rind.rcmpUv.length = 4 → s.chip.pb (F.SIN_RCMP_EN k) = true → s.chip.pf (F.SIN_RCMP_CH k) < 48 →
      rcmpCond s.chip k uv = true → (s.chip.rd 0xC0001).field k 1 = 0 →
      ∃ d : Chip, exec (.rcmpDemand k uv) s = .next (s.acted d) ∧ (d.rd 0xC0001).field k 1 = 1 ∧ d.rind.cond.getLsbD k = true ∧
        d.notices = s.chip.notices ++ [.safety .sto]) ∧
    (∀ (s : State) (k : Fin 4) (uv : Nat), rindRuns s.chip = true → s.chip.rind.rcmpUv.length = 4 → (s.chip.pb (F.SIN_RCMP_EN k) && decide (s.chip.pf (F.SIN_RCMP_CH k) < 48) && rcmpCond s.chip k uv) = false →
      ∃ d : Chip, exec (.rcmpDemand k uv) s = .next (s.acted d) ∧ d.rind.cond.getLsbD k = false ∧ sameWords s.chip d) ∧
    (∀ (s : State) (k : Fin 12) (code : BitVec 12), rindRuns s.chip = true → k.val < 8 → s.chip.pf (F.SIN_RSCAN_CH k) ≤ 49 →
      ∃ d : Chip, exec (.saConversion k code) s = .next (s.acted d) ∧ d.get (F.SAF_R_CODE k) = code.toNat ∧
        d.geti (F.SAF_R_VAL k) = clampInt (-2147483648) 2147483647 (roundRat (slotVal s.chip k code.toNat * 65536))) ∧
    (∀ (s : State) (code : BitVec 12), rindRuns s.chip = true → s.chip.rind.lastBad.getD 0 false = true → (code.toNat < 2032 ∨ 2064 < code.toNat) → (s.chip.rd 0xC0002).field 5 1 = 0 →
      ∃ d : Chip, exec (.saConversion 9 code) s = .next (s.acted d) ∧ (d.rd 0xC0002).field 5 1 = 1 ∧ d.rind.latch = true) ∧
    (∀ (s : State) (code : BitVec 12), rindRuns s.chip = true → code.toNat ≤ 8 → ∃ d : Chip, exec (.saConversion 8 code) s = .next (s.acted d) ∧ sameWords s.chip d) ∧
    (∀ (s : State) (k : Fin 8), rindRuns s.chip = true → s.chip.pb (F.SIN_RXC_EN k) = true → (s.chip.rind.cmp.getD k {}).nR ≠ 0 →
      ∃ d : Chip, exec (.crossComparisonWindow k) s = .next (s.acted d) ∧
        (let q := s.chip.rind.cmp.getD k {}
         let mr : Rat := q.sumR / ((q.nR : Nat) : Rat)
         let mm : Rat := ((q.sumM : Int) : Rat) / ((q.nM : Nat) : Rat) * coefPf s.chip (F.SIN_RXS_Gm k) (F.SIN_RXS_Fm k)
         let tol : Rat := ((s.chip.pf (F.SIN_RXC_TOL k) : Nat) : Rat) * absRat (coefPf s.chip (F.SIN_RSCL_G k) (F.SIN_RSCL_F k))
         d.rind.cmp = s.chip.rind.cmp.set k { run := if q.nM = 0 ∨ tol < absRat (mr - mm) then q.run + 1 else 0 })) ∧
    (∀ (s : State) (m : Fin 2) (h : BitVec 3) (e : Nat), rindRuns s.chip = true → monOn s.chip m = false →
      ∃ d : Chip, exec (.torqueEvaluation m h e) s = .next (s.acted d) ∧ d.is (F.SAF_TM_SST_ACTIVE m) = false ∧ d.rind.cond.getLsbD (4 + m) = false) ∧
    (∀ (s : State) (m : Fin 2) (h : BitVec 3) (e : Nat), rindRuns s.chip = true → monOn s.chip m = true →
      ∃ d : Chip, exec (.torqueEvaluation m h e) s = .next (s.acted d) ∧ d.is (F.SAF_TM_SST_ACTIVE m) = true ∧
        d.is (F.SAF_TM_SST_ANGOK m) = (monAngle s.chip m h.toNat).isSome) ∧
    (∀ (s : State) (m : Fin 2), rindRuns s.chip = true → trefStale s.chip m = true → (s.chip.rd 0xC0001).field 8 1 = 0 →
      ∃ d : Chip, exec (.trefFreshness m) s = .next (s.acted d) ∧ (d.rd 0xC0001).field 8 1 = 1 ∧ d.notices = s.chip.notices ++ [.safety .sto]) ∧
    (∀ s : State, rindRuns s.chip = true → ss1Running s.chip = true → ss1Ramped s.chip = true → 9 ≤ s.chip.rind.stillTicks →
      (∀ m : Nat, m ∈ enabledMons s.chip → absRat (rindMon s.chip m).speed < ((s.chip.pf F.SIN_RSTOP_SSTILL : Nat) : Rat)) →
      ∃ c : Chip, exec .ss1Evaluation s = .next (s.acted (endStop c)) ∧ sameWords s.chip c ∧ c.ms = s.chip.ms) ∧
    (∀ s : State, rindRuns s.chip = true → ss1Running s.chip = true → exec .ss1Timeout s = .next (s.acted ((endStop s.chip).raise F.SAF_STAT_SS1EXP))) ∧
    (∀ c : Chip, c.ms.dischargeAfter = false → (endStop c).is F.DEV_MODE_HOLD = true ∧ (endStop c).is F.SAF_STAT_SS1RUN = false ∧
      ∀ a : Nat, a < 4 → (endStop c).sub a = .off) ∧
    (∀ s : State, rindRuns s.chip = true → deferNow s.chip = true → ∃ d : Chip, exec .ascDeferralEnd s = .next (s.acted d) ∧ d.rind.deferOver = true ∧ sameWords s.chip d) ∧
    (∀ s : State, rindRuns s.chip = true → exec (.rindSelfTestDone none) s = .next (s.acted (s.chip.raise F.SAF_STAT_SELFOK))) ∧
    (∀ (s : State) (k : Fin 8), rindRuns s.chip = true → exec (.rindSelfTestDone (some k)) s = .next (s.acted (internalFault k s.chip))) ∧
    (∀ s : State, rindRuns s.chip = true → s.chip.is F.SAF_STAT_PSETOK = true → exec (.psetcrcCheck false) s = .next (s.acted (internalFault 7 s.chip))) ∧
    (∀ (s : State) (f : Nat), rindRuns s.chip = true → up s.chip → withinPct 10 f 200000 = true →
      ∃ d : Chip, exec (.sclkmonWindow f) s = .next (s.acted d) ∧ d.rind.sclkRun = 0 ∧ sameWords s.chip d) ∧
    (∀ (s : State) (f : Nat), rindRuns s.chip = true → up s.chip → withinPct 10 f 200000 = false → 7 ≤ s.chip.rind.sclkRun →
      ∃ d : Chip, exec (.sclkmonWindow f) s = .next (s.acted d) ∧ (d.rd 0xC0002).field 4 1 = 1) ∧
    (∀ s : State, rindRuns s.chip = true → s.chip.sto.stoa = true → ∃ d : Chip, exec .proofHour s = .next (s.acted d) ∧
      d.get F.SAF_STAT_PROOFH = min (s.chip.get F.SAF_STAT_PROOFH + 1) 255 ∧ (168 ≤ s.chip.get F.SAF_STAT_PROOFH → d.is F.SAF_STAT_STOPROOF = true))

/-! ### Safety inputs (16_safety_inputs_and_safety_configuration) -/

/-- A test pulse shows its level, and a channel that does not follow it is a test-pulse fault of its function, as is a read-back fault; a processed level is shown; a reset input held too long is stuck. The evaluation forms the permit of two closed contacts, latches a function
that is not effectively permitted, shows both, and makes the demand bit of the safety inputs tell whether any function is latched. -/
def Obligations.SafetyFunctionsPulsesLevelsAndEvaluation : Prop :=
  (∀ (s : State) (n : Fin 4) (low : Bool) (seen : BitVec 32), rindRuns s.chip = true →
      (Nat.bitAt (s.chip.pf F.SIN_TP_EN) n = true → Nat.bitAt (s.chip.get F.SIN_SSTAT_TPLVL) n = low) →
      ∃ d : Chip, exec (.testPulse n low seen) s = .next (s.acted d) ∧ d.getBit F.SIN_SSTAT_TPLVL n = (Nat.bitAt (s.chip.pf F.SIN_TP_EN) n && !low) ∧
        (Nat.bitAt (s.chip.pf F.SIN_TP_EN) n = true → low = false → ∀ f x : Nat, f < 8 → x < 4 → fromTp s.chip f x n = true →
          ((sinFn s.chip f).ch.getD x {}).stoodHigh = true → seen.getLsbD (4 * f + x) = false → d.is (F.SIN_F_STAT_TPF f) = true)) ∧
    (∀ (s : State) (n : Fin 4), rindRuns s.chip = true → ∃ d : Chip, exec (.tpReadbackFault n) s = .next (s.acted d) ∧
      ∀ f : Nat, f < 8 → d.is (F.SIN_F_STAT_TPF f) = (s.chip.is (F.SIN_F_STAT_TPF f) || (List.range 4).any (fun x => fromTp s.chip f x n))) ∧
    (∀ (s : State) (f : Fin 8) (x : Fin 4) (l : Bool) (k : Nat), fnChannels (fnType s.chip f) ≤ x.val ∨ windowed s.chip f x = true ∨ k < filterSamples s.chip f x l →
      exec (.processedLevelChange f x l k) s = .next (s.acted s.chip)) ∧
    (∀ (s : State) (f : Fin 8) (x : Fin 4) (l : Bool) (k : Nat), rindRuns s.chip = true → x.val < fnChannels (fnType s.chip f) → windowed s.chip f x = false →
      filterSamples s.chip f x l ≤ k → chanLvl s.chip f x ≠ some l →
      ∃ d : Chip, exec (.processedLevelChange f x l k) s = .next (s.acted d) ∧ d.getBit (F.SIN_F_STAT_CLVL f) x = l) ∧
    (∀ (s : State) (f : Fin 8), rindRuns s.chip = true → fnType s.chip f = 5 → chanLvl s.chip f 0 = some true →
      exec (.rststuck f) s = .next (s.acted (s.chip.raise (F.SIN_F_STAT_RSTSTUCK f)))) ∧
    (∀ s : State, s.chip.is F.SAF_STAT_SELFOK = false → exec .safetyEvaluation s = .next (s.acted s.chip)) ∧
    (∀ s : State, rindRuns s.chip = true → s.chip.is F.SAF_STAT_SELFOK = true →
      ∃ d : Chip, exec .safetyEvaluation s = .next (s.acted d) ∧
        (d.rd 0xC0001).field 12 1 = bit ((List.range 8).any (fun f => d.is (F.SIN_F_STAT_LATCH f))) ∧
        (∀ f : Nat, f < 8 → d.getBit F.SIN_SSTAT_PERMIT f = d.is (F.SIN_F_STAT_PERMIT f) ∧ d.getBit F.SIN_SSTAT_LATCH f = d.is (F.SIN_F_STAT_LATCH f)) ∧
        (∀ f : Nat, f < 8 → (fnType s.chip f = 1 ∨ fnType s.chip f = 2 ∨ fnType s.chip f = 4) →
          d.is (F.SIN_F_STAT_PERMIT f) = (allKnown s.chip f && (contactClosed s.chip f 0 && contactClosed s.chip f 1)) ∧
          (d.is (F.SIN_F_STAT_EFFP f) = false → d.is (F.SIN_F_STAT_LATCH f) = true)))
/-! ### Thermal management (17_thermal_management) -/

/-- A conversion gives its sensor's temperature, VALID inside the range and the shutdown comparator's level; an external sensor without a sample is not valid, with reason 3. The evaluation counts the sensors in use and forms the throttle temperature, and with fewer than six of them it takes the last step; the
cross-check excludes a sensor that has disagreed with its neighbours often enough; the shutdown latches the device, unless VSAFE is low.
Roundings and the limit's slew are the model's reading (log entry 50). -/
def Obligations.ThermalReadingsThrottleAndShutdown : Prop :=
  (∀ (s : State) (k : Fin 12) (z : Int) (t : Bool), up s.chip →
      ∃ d : Chip, exec (.tdConversion k z t) s = .next (s.acted d) ∧ d.geti (F.THM_TD_TEMP k) = clampInt (-32768) 32767 z ∧
        d.is (F.THM_TD_VALID k) = (decide (-440 ≤ z) && decide (z ≤ 1600)) ∧ d.is (F.THM_TD_SHC k) = t ∧ sameBut [F.THM_TD k, F.THM_STAT] s.chip d) ∧
    (∀ (s : State) (k : Fin 12), up s.chip → ∃ d : Chip, exec (.teNosample k) s = .next (s.acted d) ∧ sensorValid d (12 + k) = false ∧
      d.get (sensorFld (12 + k) 18 2) = 3 ∧ sameBut [sensorAddr (12 + k)] s.chip d) ∧
    (∀ s : State, up s.chip → s.chip.therm.evaluated = false → s.chip.therm.converted ≠ 0xFFF#12 → exec .thermalEvaluation s = .next (s.acted s.chip)) ∧
    (∀ s : State, up s.chip → (s.chip.therm.evaluated = true ∨ s.chip.therm.converted = 0xFFF#12) →
      ∃ d : Chip, exec .thermalEvaluation s = .next (s.acted d) ∧ d.therm.evaluated = true ∧ d.get F.THM_STAT_NTD = (tdInUse s.chip).length ∧
        d.is F.THM_STAT_DEGR = decide ((tdInUse s.chip).length < 6) ∧
        d.geti F.THM_STAT_TTH = clampInt (-32768) 32767 (throttleTemp s.chip) ∧
        ((tdInUse s.chip).length < 6 → d.get F.THM_STAT_STEP = 7 ∧
          d.get F.THM_THR_PCT = (if s.chip.get (F.THM_STEP_LIM 6) < s.chip.get F.THM_THR_PCT ∨ s.chip.get F.THM_CFG_PCTSLEW = 0 then s.chip.get (F.THM_STEP_LIM 6)
            else min (s.chip.get (F.THM_STEP_LIM 6)) (s.chip.get F.THM_THR_PCT + s.chip.get F.THM_CFG_PCTSLEW)))) ∧
    (∀ s : State, up s.chip → s.chip.therm.evaluated = true →
      ∃ d : Chip, exec .crossCheck s = .next (s.acted d) ∧ d.therm.returning = 0 ∧ d.get F.THM_STAT_NTD = (tdInUse d).length) ∧
    (∀ s : State, s.chip.therm.evaluated = false → up s.chip → exec .crossCheck s = .next (s.acted s.chip)) ∧
    (∀ (c : Chip) (k : Nat), k < 12 → inUse c k = true → 2 ≤ ((neighbours c k).filter (inUse c)).length →
      ((c.get F.THM_CFG_XTOL : Nat) : Rat) < absRat (((tempOf c k : Int) : Rat) - median (((neighbours c k).filter (inUse c)).map (tempOf c))) →
      c.get F.THM_CFG_XN ≤ c.therm.miss.getD k 0 + 1 →
      sensorExcl (checkSensor k c) k = true ∧ (checkSensor k c).get (F.THM_TD_XRSN k) = 2) ∧
    (∀ (s : State) (k : Fin 12), s.chip.clk.vsafeLow = false →
      ∃ d : Chip, exec (.thermalShutdown k) s = .next (s.acted d) ∧ d.is F.THM_SHD_SHUT = true ∧ d.getBit F.THM_SHD_TRIP k = true ∧ d.rind.latch = true ∧
        (s.chip.rind.latch = false → d.rind.latchCause = .thermal) ∧ d.notices = s.chip.notices ++ [.latch .thermal]) ∧
    (∀ (s : State) (k : Fin 12), s.chip.clk.vsafeLow = true → exec (.thermalShutdown k) s = .next (s.acted s.chip))

/-! ### The Purlin controllers (18_purlin_bus) -/

/-- A controller joins its bus as error-active. It takes a received frame unless it is not joined, off the bus or in self-test; a frame for the FIFO takes the first free entry, or counts an overrun. The end of a transmission leaves the buffer sent, back in the queue, aborted or lost, as the result, an abort and the frame's TXM say, and
moves the transmit error counter by 1 down or 8 up, to bus-off above 255. A counted retry goes on until its attempts are used. Recovery from bus-off clears the counters. At SYNCINT a time-reference frame waits for its bus. An error frame is recorded and counted. While TXINH holds outside self-test, and in a disabled controller, no attempt starts and the transmit ball is recessive; the transceiver of a disabled one is in standby.
The counting of TEC and REC is ISO 11898-1's as the model presumes it (log entry 17), and the instants of attempts are the model's (log entry 51). -/
def Obligations.PurlinSendsReceivesAndCountsErrors : Prop :=
  (∀ (c : Chip) (u : Nat), txInh c = true → c.get (F.PUR_CFG_MODE u) ≠ 3 → startAttempt u c = c ∧ puTxRecessive c u = true) ∧
    (∀ (c : Chip) (u : Nat), c.get (F.PUR_CFG_MODE u) = 0 → startAttempt u c = c ∧ puStbHigh c u = true ∧ puTxRecessive c u = true) ∧
    (∀ (s : State) (u : Fin 2), going s.chip = true → s.chip.get (F.PUR_CFG_MODE u) ≠ 0 → (puOf s.chip u).joined = false →
      ∃ d : Chip, exec (.busIntegration u) s = .next (s.acted d) ∧ d.get (F.PUR_ERR_STATE u) = 0 ∧
        d.pu = s.chip.pu.modify u (fun p => { p with joined := true })) ∧
    (∀ (s : State) (u : Fin 2) (cw : Word) (l : List Word) (age : Nat), going s.chip = true → (puOf s.chip u).joined = true → busState s.chip u ≠ 2 →
      s.chip.get (F.PUR_CFG_MODE u) ≠ 3 →
      exec (.frameReceived u cw l age) s = .next (s.acted (takeFrame u (receivedFrame cw l) (instantAgo s.chip age) (receiveGood u s.chip)))) ∧
    (∀ (s : State) (u : Fin 2) (cw : Word) (l : List Word) (age : Nat),
      ((puOf s.chip u).joined = false ∨ busState s.chip u = 2 ∨ s.chip.get (F.PUR_CFG_MODE u) = 3) →
      exec (.frameReceived u cw l age) s = .next (s.acted s.chip)) ∧
    (∀ (c : Chip) (u k : Nat) (f : BusFrame) (w : Word), u < 2 → (puOf c u).fifo.findIdx? (·.state == .free) = some k →
      (fifoFrame u f w c).pu = c.pu.modify u (fun p => { p with fifo := p.fifo.set k ⟨.full, f, w.field 0 40, p.gotOrder⟩, gotOrder := p.gotOrder + 1 })) ∧
    (∀ (c : Chip) (u : Nat) (f : BusFrame) (w : Word), u < 2 → (puOf c u).fifo.findIdx? (·.state == .free) = none →
      (fifoFrame u f w c).get (F.PUR_FIFOST_RXOVR u) = min (c.get (F.PUR_FIFOST_RXOVR u) + 1) 255 ∧ sameBut [F.PUR_FIFOST u] c (fifoFrame u f w c)) ∧
    (∀ (s : State) (u : Fin 2) (b : Fin 3) (age : Nat), going s.chip = true → (puOf s.chip u).active = some b.val → s.chip.get (F.PUR_CFG_MODE u) ≠ 3 →
      ∃ d : Chip, exec (.transmissionEnd u (.success none) age) s = .next (s.acted d) ∧ bufState d u b = 4 ∧
        d.get (F.PUR_ERR_TEC u) = s.chip.get (F.PUR_ERR_TEC u) - 1) ∧
    (∀ (s : State) (u : Fin 2) (b : Fin 3) (age : Nat), going s.chip = true → (puOf s.chip u).active = some b.val →
      ∃ d : Chip, exec (.transmissionEnd u .arbitrationLost age) s = .next (s.acted d) ∧ d.get (F.PUR_ERR_TEC u) = s.chip.get (F.PUR_ERR_TEC u) ∧
        bufState d u b = (if (bufOf s.chip u b).abort then 6 else if cwTxm (bufOf s.chip u b).frame.cw = 1 then 5 else 1)) ∧
    (∀ (s : State) (u : Fin 2) (b : Fin 3) (lec : Fin 7) (ph aft : Bool) (age : Nat), going s.chip = true → (puOf s.chip u).active = some b.val →
      ∃ d : Chip, exec (.transmissionEnd u (.error lec ph aft false) age) s = .next (s.acted d) ∧ d.get (F.PUR_ERR_LEC u) = lec.val ∧
        d.get (F.PUR_ERR_TEC u) = min (s.chip.get (F.PUR_ERR_TEC u) + 8) 255 ∧
        (247 < s.chip.get (F.PUR_ERR_TEC u) → busState d u = 2 ∧ d.is (F.PUR_ERR_BOFF u) = true)) ∧
    (∀ (s : State) (u : Fin 2) (b : Fin 3), going s.chip = true → bufState s.chip u b = 3 →
      ∃ d : Chip, exec (.countedRetry u b) s = .next (s.acted d) ∧ bufState d u b = (if attemptsUsed s.chip u b then 5 else 1)) ∧
    (∀ (s : State) (u : Fin 2), going s.chip = true → busState s.chip u = 2 →
      ∃ d : Chip, exec (.busOffRecovery u) s = .next (s.acted d) ∧ busState d u = 0 ∧ d.get (F.PUR_ERR_TEC u) = 0 ∧ d.get (F.PUR_ERR_REC u) = 0) ∧
    (∀ s : State, going s.chip = true → ∃ d : Chip, exec .syncintTick s = .next (s.acted d) ∧ sameWords s.chip d ∧
      ∀ (u : Nat) (p : Purlin), u < 2 → s.chip.pu[u]? = some p → sendsTime s.chip u = true → p.time = none →
        ∃ q : Purlin, d.pu[u]? = some q ∧ q.time.map (·.frame) = some (syncFrame s.chip p.seq) ∧ q.seq = (p.seq + 1) % 256) ∧
    (∀ (s : State) (u : Fin 2) (lec : Fin 7) (ph dom : Bool), going s.chip = true → (puOf s.chip u).joined = true → busState s.chip u ≠ 2 →
      ∃ d : Chip, exec (.errorFrame u lec ph dom) s = .next (s.acted d) ∧ d.get (F.PUR_ERR_LEC u) = lec.val ∧ d.is (F.PUR_ERR_DATAPH u) = ph ∧
        d.get (F.PUR_ERR_REC u) = min (s.chip.get (F.PUR_ERR_REC u) + (if dom then 9 else 1)) 255)
/-! ### The metrology partition (19_metrology) -/

/-- A sample of positive power adds its energy to the import register, one of negative power to the export register, and neither touches the other; the end of a second of 4,000 samples shows the means and starts them again; a checkpoint and a power failure write a snapshot, or are refused outside the store window; a released power failure leaves a gap in an
open session; a modulator fault is flagged; a closing session is committed as a record, or waits; an open seal times out closed, and a lockout ends.
The means and the session's values are the model's reading (log entries 53 and 54). -/
def Obligations.MeterAccumulatesCommitsAndCloses : Prop :=
  (∀ (s : State) (x0 x1 x2 x3 : Int), going s.chip = true → hasMeter s.chip = false → exec (.meterSample x0 x1 x2 x3) s = .next (s.acted s.chip)) ∧
    (∀ (s : State) (x0 x1 x2 x3 : Int), going s.chip = true → hasMeter s.chip = true → accumulates s.chip = true → (∀ k : Nat, s.chip.meter.satRun.getD k 0 < 3999) →
      ∃ d : Chip, exec (.meterSample x0 x1 x2 x3) s = .next (s.acted d) ∧ d.meter.count = s.chip.meter.count + 1 ∧ d.meter.lastNwt = s.chip.now ∧
        (let p : Rat := creepPower s.chip (correctedCode s.chip 0 (satCode x0) * calCoef s.chip 0 * (correctedCode s.chip 1 (satCode x1) * calCoef s.chip 1))
         let q : Nat := sampleEnergy p
         (0 < p → d.meter.eimp = (s.chip.meter.eimp + (s.chip.meter.rimp + q) / 2 ^ 32) % 2 ^ 64 ∧ d.meter.rimp = (s.chip.meter.rimp + q) % 2 ^ 32) ∧
         (p < 0 → d.meter.eexp = (s.chip.meter.eexp + (s.chip.meter.rexp + q) / 2 ^ 32) % 2 ^ 64 ∧ d.meter.rexp = (s.chip.meter.rexp + q) % 2 ^ 32) ∧
         (¬ 0 < p → d.meter.eimp = s.chip.meter.eimp ∧ d.meter.rimp = s.chip.meter.rimp) ∧
         (¬ p < 0 → d.meter.eexp = s.chip.meter.eexp ∧ d.meter.rexp = s.chip.meter.rexp))) ∧
    (∀ s : State, going s.chip = true → hasMeter s.chip = true → 4000 ≤ s.chip.meter.count →
      ∃ d : Chip, exec .meterSecond s = .next (s.acted d) ∧ d.meter.count = 0 ∧
        d.rd (F.MTR_MEAN 0) = mean16 (s.chip.meter.sumV / ((s.chip.meter.count : Nat) : Rat)) ∧
        d.rd (F.MTR_MEAN 1) = mean16 (s.chip.meter.sumI / ((s.chip.meter.count : Nat) : Rat)) ∧
        d.rd (F.MTR_MEAN 2) = mean16 (s.chip.meter.sumP / ((s.chip.meter.count : Nat) : Rat))) ∧
    (∀ s : State, going s.chip = true → hasMeter s.chip = true → s.chip.meter.tripped = false →
      ∃ d : Chip, exec .checkpoint s = .next (s.acted d) ∧
        (canStore s.chip = false → d.is F.NVS_STAT_INHIB = true) ∧
        (canStore s.chip = true → s.chip.nvm.cur = none → s.chip.nvm.waiting = [] → d.nvm.cur = some (.snapshot false))) ∧
    (∀ s : State, going s.chip = true → hasMeter s.chip = true → s.chip.meter.tripped = false →
      ∃ d : Chip, exec .powerFailTrip s = .next (s.acted d) ∧ d.meter.tripped = true ∧
        (canStore s.chip = false → d.is F.MTR_STAT_SNAPFAIL = true ∧ d.is F.NVS_STAT_INHIB = true) ∧
        (canStore s.chip = true → s.chip.nvm.cur = none → s.chip.nvm.waiting = [] → d.nvm.cur = some (.snapshot true))) ∧
    (∀ s : State, going s.chip = true → s.chip.meter.tripped = true →
      ∃ d : Chip, exec .powerFailRelease s = .next (s.acted d) ∧ d.meter.tripped = false ∧ (sessState s.chip = 1 → d.is F.MTR_STAT_GAP = true)) ∧
    (∀ (s : State) (k : Fin 4), going s.chip = true → hasMeter s.chip = true →
      ∃ d : Chip, exec (.modulatorFault k) s = .next (s.acted d) ∧ modFault d k = true) ∧
    (∀ (s : State) (x : Closing) (w : List Word), going s.chip = true → s.chip.meter.closing = some x → x.words = some w → sessState s.chip = 2 →
      ∃ d : Chip, exec .sessionRecordCommit s = .next (s.acted d) ∧ exec .closeCommitRetry s = .next (s.acted d) ∧
        (canStore s.chip = true → sessState d = 0 ∧ d.get F.MTR_SESS_LASTEND = x.reason % 256 ∧ d.meter.closing = none ∧
          d.meter.records.head?.map (·.1) = some (s.chip.get F.MTR_SESS_SESSNO)) ∧
        (canStore s.chip = false → sessState d = 2 ∧ d.meter.closing = some x ∧ d.is F.NVS_STAT_INHIB = true)) ∧
    (∀ s : State, going s.chip = true → ∃ d : Chip, exec .sealTimeout s = .next (s.acted d) ∧ d.is F.DEV_SEAL_SINOPEN = false ∧ d.is F.DEV_SEAL_MTROPEN = false) ∧
    (∀ s : State, (∃ d : Chip, exec (.lockoutEnd false) s = .next (s.acted d) ∧ d.is F.DEV_SEAL_SINLOCK = false ∧ d.safe.sealLog.lockEnd = none) ∧
      ∃ d : Chip, exec (.lockoutEnd true) s = .next (s.acted d) ∧ d.is F.DEV_SEAL_MTRLOCK = false ∧ d.meter.sealLog.lockEnd = none)

/-! ### The store, self-test and the trace port (20_store_and_self_test, 21_observability) -/

/-- A store operation of the host ends with its status once nothing of it is being written; a write that succeeds commits its content, one that fails is counted; a deferred repair is queued again; a scrub, a fusing, a confirmation end with their outcome; SELFTEST ends with its results, once no repair record of the run is still to be committed. A sent trace packet leaves the FIFO, and
with two entries free a loss is told, with a SYNC after it; a SYNC is queued when its time has come.
OVERFLOW and SYNC together are the model's reading (log entry 25). -/
def Obligations.StoreSelfTestAndTraceEventsEnd : Prop :=
  (∀ (s : State) (ok : Bool) (h : HostStore), going s.chip = true → s.chip.nvm.host = some h → s.chip.nvm.cur = none → s.chip.nvm.waiting = [] → h.restore = none →
      ∃ d : Chip, exec (.storeOperationDone ok) s = .next (s.acted d) ∧ d.nvm.host = none ∧
        d.get F.NVS_STAT_LASTST = (if (ok && !h.failed) = true then 0 else 0x30) ∧ d.get F.NVS_STAT_LASTOP = h.op % 256 ∧
        d.get F.DEV_PDONE_STATUS = (if (ok && !h.failed) = true then 0 else 0x30) ∧ d.get F.DEV_PDONE_TAG = h.tag % 256) ∧
    (∀ (s : State) (b : Bool) (ws : List Word), going s.chip = true → s.chip.nvm.cur = some (.image b ws) → s.chip.nvm.waiting = [] →
      ∃ d : Chip, exec (.storeWriteComplete true) s = .next (s.acted d) ∧ d.nvm.cur = none ∧
        ∀ i : Nat, i < ws.length → d.storeRd (imageBase b + i) = ws.getD i 0) ∧
    (∀ (s : State) (j : StoreJob), going s.chip = true → s.chip.nvm.cur = some j → j ≠ .confirm →
      ∃ d : Chip, exec (.storeWriteComplete false) s = .next (s.acted d) ∧ d.get F.NVS_CNT_FAILCNT = min (s.chip.get F.NVS_CNT_FAILCNT + 1) 255) ∧
    (∀ (s : State) (r : RepairRec) (l : List RepairRec), going s.chip = true → s.chip.nvm.deferred = r :: l → canStore s.chip = true → s.chip.nvm.cur = none →
      s.chip.nvm.waiting = [] → s.chip.meter.tripped = false →
      ∃ d : Chip, exec .deferredStoreWrite s = .next (s.acted d) ∧ d.nvm.deferred = l ∧ d.nvm.cur = some (.repair r)) ∧
    (∀ (s : State) (q : PendReq) (cor unc : Nat), going s.chip = true → s.chip.bist.scrubReq = some q →
      ∃ d : Chip, exec (.scrubDone cor unc) s = .next (s.acted d) ∧ d.bist.scrubReq = none ∧ d.is F.BST_STAT_DONE = true ∧
        d.get F.NVS_CNT_CORCNT = min (s.chip.get F.NVS_CNT_CORCNT + cor) 65535 ∧ d.get F.DEV_PDONE_DETAIL = min 65535 cor ∧
        (unc ≠ 0 → d.is F.NVS_STAT_UNC = true)) ∧
    (∀ (s : State) (q : PendReq) (l : List Bool), going s.chip = true → s.chip.bist.fuseReq = some q →
      ∃ d : Chip, exec (.fuseDone l) s = .next (s.acted d) ∧ d.bist.fuseReq = none ∧ d.bist.fuseSlots = [] ∧ d.get F.DEV_PDONE_STATUS = 0 ∧
        d.bist.fusesUsed = s.chip.bist.fusesUsed + s.chip.bist.fuseSlots.length) ∧
    (∀ (s : State) (res : List (Fin 4)) (sp : List SpareUse) (inv : Bool), s.chip.mode = .selftest → s.chip.clk.gated = false → s.chip.bist.ending = false →
      ∃ d : Chip, exec (.selftestComplete res sp inv) s = .next (s.acted d) ∧
        (recording d = true → d.bist.ending = true ∧ d.is F.BST_STAT_SRUN = s.chip.is F.BST_STAT_SRUN ∧ d.get F.BST_STAT_RUNS = s.chip.get F.BST_STAT_RUNS) ∧
        (recording d = false → d.bist.ending = false ∧ d.is F.BST_STAT_SRUN = false ∧ d.is F.BST_STAT_DONE = true ∧
          d.get F.BST_STAT_RUNS = (s.chip.get F.BST_STAT_RUNS + 1) % 256 ∧
          d.notices.getLast? = some (.complete (if d.is F.BST_STAT_UNREP then .config else s.chip.ms.cameFrom) .complete))) ∧
    (∀ (s : State) (ok : Bool), s.chip.mode = .selftest → s.chip.clk.gated = false → s.chip.bist.ending = true → recording (storeWriteComplete ok s.chip) = false →
      ∃ d : Chip, exec (.storeWriteComplete ok) s = .next (s.acted d) ∧ d.bist.ending = false ∧ d.is F.BST_STAT_SRUN = false ∧
        d.notices.getLast? = some (.complete (if s.chip.is F.BST_STAT_UNREP then .config else s.chip.ms.cameFrom) .complete)) ∧
    (∀ (s : State) (q : PendReq), going s.chip = true → s.chip.safe.confirming = some q → s.chip.nvm.cur = some .confirm → sealOpened s.chip false = true →
      (∃ d : Chip, exec (.safeParamConfirmDone true) s = .next (s.acted d) ∧ d.safe.confirming = none ∧ d.is F.DEV_SEAL_SINOPEN = false ∧
        d.is F.SAF_STAT_PSETOK = true ∧ d.get F.DEV_PDONE_STATUS = 0) ∧
      ∃ d : Chip, exec (.safeParamConfirmDone false) s = .next (s.acted d) ∧ d.safe.confirming = none ∧ d.is F.DEV_SEAL_SINOPEN = true ∧
        d.get F.DEV_PDONE_STATUS = 0x30 ∧ d.get F.NVS_CNT_FAILCNT = min (s.chip.get F.NVS_CNT_FAILCNT + 1) 255) ∧
    (∀ s : State, s.chip.wheyOn = true → s.chip.obs.lost = 0 →
      ∃ d : Chip, exec .tracePacketSent s = .next (s.still d) ∧ d.obs.fifo = s.chip.obs.fifo.drop 1 ∧ sameWords s.chip d) ∧
    (∀ s : State, s.chip.wheyOn = true → s.chip.obs.lost ≠ 0 → s.chip.obs.fifo.length ≤ 63 →
      ∃ d : Chip, exec .tracePacketSent s = .next (s.still d) ∧ d.obs.lost = 0 ∧
        d.obs.fifo = s.chip.obs.fifo.drop 1 ++ [overflowPacket s.chip.now s.chip.obs.lost, syncPacket s.chip.now]) ∧
    (∀ s : State, exec .wheySync s = .next (s.still (if s.chip.now.toNat / 2 ^ 23 = s.chip.obs.lastSync.toNat / 2 ^ 23 then s.chip else s.chip.queueSync)))
end

