-- ==== Sys2Proof/Laws/Mem.lean ====
section
/-! SUPPORT. The sparse memories: a word stored is the word found, other words stay, and every operation keeps the canonical form. -/

namespace Sys2Proof.Machine

theorem Mem.find_insert_same (m : Mem) (a : Nat) (w : Word) : (m.insert a w).find a = some w := by
  induction m with
  | nil => simp [Mem.insert, Mem.find]
  | cons e m ih =>
    obtain ⟨b, v⟩ := e
    unfold Mem.insert
    split
    · simp [Mem.find]
    · split
      · simp [Mem.find]
      · rename_i h _; simp [Mem.find, h, ih]

theorem Mem.find_insert_ne (m : Mem) {a b : Nat} (w : Word) (h : b ≠ a) : (m.insert a w).find b = m.find b := by
  induction m with
  | nil => simp [Mem.insert, Mem.find, h]
  | cons e m ih =>
    obtain ⟨x, v⟩ := e
    unfold Mem.insert
    split
    · rename_i hx; subst hx; simp [Mem.find, h]
    · split
      · simp [Mem.find, h]
      · simp [Mem.find, ih]

theorem Mem.find_erase_same (m : Mem) (a : Nat) : (m.erase a).find a = none := by
  induction m with
  | nil => rfl
  | cons e m ih =>
    obtain ⟨x, v⟩ := e
    unfold Mem.erase
    split
    · exact ih
    · rename_i hx; simp [Mem.find, hx, ih]

theorem Mem.find_erase_ne (m : Mem) {a b : Nat} (h : b ≠ a) : (m.erase a).find b = m.find b := by
  induction m with
  | nil => rfl
  | cons e m ih =>
    obtain ⟨x, v⟩ := e
    unfold Mem.erase
    split
    · rename_i hx; subst hx; simp [Mem.find, h, ih]
    · simp [Mem.find, ih]

/-- What a memory reads at an address after a store there. -/
theorem Mem.read_put_same (m : Mem) (d : Word) (a : Nat) (w : Word) : ((m.put d a w).find a).getD d = w := by
  unfold Mem.put
  split
  · rename_i h; simp [Mem.find_erase_same, h]
  · simp [Mem.find_insert_same]

/-- A store leaves every other address alone. -/
theorem Mem.find_put_ne (m : Mem) (d : Word) {a b : Nat} (w : Word) (h : b ≠ a) : (m.put d a w).find b = m.find b := by
  unfold Mem.put
  split
  · exact Mem.find_erase_ne m h
  · exact Mem.find_insert_ne m w h

/-! ### The canonical form -/

theorem Mem.canon_mono (f : Nat → Word) {lo lo' : Nat} (m : Mem) (h : lo' ≤ lo) (hm : Mem.canon f lo m = true) : Mem.canon f lo' m = true := by
  cases m with
  | nil => rfl
  | cons e m =>
    obtain ⟨x, v⟩ := e
    simp only [Mem.canon, Bool.and_eq_true, decide_eq_true_eq] at hm ⊢
    exact ⟨⟨by omega, hm.1.2⟩, hm.2⟩

theorem Mem.canon_insert (f : Nat → Word) (m : Mem) (lo a : Nat) (w : Word) (ha : lo ≤ a) (hw : w ≠ f a) (hm : Mem.canon f lo m = true) :
    Mem.canon f lo (m.insert a w) = true := by
  induction m generalizing lo with
  | nil => simp [Mem.insert, Mem.canon, ha, hw]
  | cons e m ih =>
    obtain ⟨x, v⟩ := e
    simp only [Mem.canon, Bool.and_eq_true, decide_eq_true_eq] at hm
    unfold Mem.insert
    split
    · rename_i hx; subst hx
      simp only [Mem.canon, Bool.and_eq_true, decide_eq_true_eq]; exact ⟨⟨ha, hw⟩, hm.2⟩
    · split
      · simp only [Mem.canon, Bool.and_eq_true, decide_eq_true_eq]
        exact ⟨⟨ha, hw⟩, ⟨by omega, hm.1.2⟩, hm.2⟩
      · simp only [Mem.canon, Bool.and_eq_true, decide_eq_true_eq]
        exact ⟨hm.1, ih (x + 1) (by omega) hm.2⟩

theorem Mem.canon_erase (f : Nat → Word) (m : Mem) (lo a : Nat) (hm : Mem.canon f lo m = true) : Mem.canon f lo (m.erase a) = true := by
  induction m generalizing lo with
  | nil => rfl
  | cons e m ih =>
    obtain ⟨x, v⟩ := e
    simp only [Mem.canon, Bool.and_eq_true, decide_eq_true_eq] at hm
    unfold Mem.erase
    split
    · exact Mem.canon_mono f _ (by omega) (ih (x + 1) hm.2)
    · simp only [Mem.canon, Bool.and_eq_true, decide_eq_true_eq]
      exact ⟨hm.1, ih (x + 1) hm.2⟩

/-- A store keeps the canonical form. -/
theorem Mem.canon_put (f : Nat → Word) (m : Mem) (a : Nat) (w : Word) (hm : Mem.canon f 0 m = true) : Mem.canon f 0 (m.put (f a) a w) = true := by
  unfold Mem.put
  split
  · exact Mem.canon_erase f m 0 a hm
  · rename_i h; exact Mem.canon_insert f m 0 a w (Nat.zero_le a) h hm

theorem Chip.wr_memWf (c : Chip) (a : Nat) (w : Word) (h : c.memWf = true) : (c.wr a w).memWf = true := by
  simp only [Chip.memWf, Chip.wr, Bool.and_eq_true] at h ⊢
  exact ⟨⟨⟨Mem.canon_put resetWord c.regs a w h.1.1.1, h.1.1.2⟩, h.1.2⟩, h.2⟩

theorem Chip.laneWr_memWf (c : Chip) (z a : Nat) (w : Word) (h : c.memWf = true) : (c.laneWr z a w).memWf = true := by
  simp only [Chip.memWf, Chip.laneWr, Bool.and_eq_true] at h ⊢
  exact ⟨⟨⟨h.1.1.1, Mem.canon_put (fun _ => 0) c.lanes _ w h.1.1.2⟩, h.1.2⟩, h.2⟩

theorem Chip.zmemWr_memWf (c : Chip) (a : Nat) (w : Word) (h : c.memWf = true) : (c.zmemWr a w).memWf = true := by
  simp only [Chip.memWf, Chip.zmemWr, Bool.and_eq_true] at h ⊢
  exact ⟨⟨h.1.1, Mem.canon_put (fun _ => 0) c.zmem a w h.1.2⟩, h.2⟩

theorem Chip.storeWr_memWf (c : Chip) (k : Nat) (w : Word) (h : c.memWf = true) : (c.storeWr k w).memWf = true := by
  simp only [Chip.memWf, Chip.storeWr, Bool.and_eq_true] at h ⊢
  exact ⟨h.1, Mem.canon_put (fun _ => 0) c.store k w h.2⟩

/-- The memories at reset. -/
theorem reset_memWf : State.reset.chip.memWf = true := by decide

/-! ### Words -/

/-- A word written is the word read. -/
@[simp] theorem Chip.rd_wr_same (c : Chip) (a : Nat) (w : Word) : (c.wr a w).rd a = w := Mem.read_put_same c.regs (resetWord a) a w

/-- A write leaves every other word alone. -/
theorem Chip.rd_wr_ne (c : Chip) {a b : Nat} (w : Word) (h : b ≠ a) : (c.wr a w).rd b = c.rd b := by
  simp only [Chip.rd, Chip.wr, Mem.find_put_ne c.regs (resetWord a) w h]

/-- A lane word stored is the word read. -/
@[simp] theorem Chip.laneRd_laneWr_same (c : Chip) (z a : Nat) (w : Word) : (c.laneWr z a w).laneRd z a = w :=
  Mem.read_put_same c.lanes 0 (4096 * z + a) w

/-- A ZMEM word stored is the word read. -/
@[simp] theorem Chip.zmemRd_zmemWr_same (c : Chip) (a : Nat) (w : Word) : (c.zmemWr a w).zmemRd a = w := Mem.read_put_same c.zmem 0 a w

/-- A ZMEM store leaves every other ZMEM word alone. -/
theorem Chip.zmemRd_zmemWr_ne (c : Chip) {a b : Nat} (w : Word) (h : b ≠ a) : (c.zmemWr a w).zmemRd b = c.zmemRd b := by
  simp only [Chip.zmemRd, Chip.zmemWr, Mem.find_put_ne c.zmem 0 w h]

/-- A store word stored is the word read. -/
@[simp] theorem Chip.storeRd_storeWr_same (c : Chip) (k : Nat) (w : Word) : (c.storeWr k w).storeRd k = w := Mem.read_put_same c.store 0 k w

/-- A store of the non-volatile store leaves every other word alone. -/
theorem Chip.storeRd_storeWr_ne (c : Chip) {a b : Nat} (w : Word) (h : b ≠ a) : (c.storeWr a w).storeRd b = c.storeRd b := by
  simp only [Chip.storeRd, Chip.storeWr, Mem.find_put_ne c.store 0 w h]

end Sys2Proof.Machine
end

