-- ==== Sys2Proof/Laws/Word.lean ====
section
/-! SUPPORT. Bit fields of words: a field set is the field read, and fields that do not overlap leave each other alone. -/

namespace Sys2Proof

theorem Word.testBit_field (w : Word) (lo n i : Nat) : (w.field lo n).testBit i = (decide (i < n) && w.getLsbD (lo + i)) := by
  simp [Word.field, Nat.testBit_mod_two_pow, Nat.testBit_shiftRight, BitVec.getLsbD]

theorem Word.getLsbD_setField (w : Word) (lo n v i : Nat) :
    (w.setField lo n v).getLsbD i =
      if lo ≤ i ∧ i < lo + n then decide (i < 48) && v.testBit (i - lo) else w.getLsbD i := by
  by_cases hi : i < 48
  · simp only [Word.setField, BitVec.getLsbD_or, BitVec.getLsbD_and, BitVec.getLsbD_not, BitVec.getLsbD_ofNat, hi, decide_true, Bool.true_and,
      Nat.testBit_shiftLeft, Nat.testBit_mod_two_pow, Nat.testBit_two_pow_sub_one]
    by_cases h1 : lo ≤ i <;> by_cases h2 : i < lo + n
    · have : i - lo < n := by omega
      simp [h1, h2, this]
    · have : ¬ i - lo < n := by omega
      simp [h1, h2, this]
    · simp [h1]
    · simp [h1]
  · have hw : ∀ x : Word, x.getLsbD i = false := fun x => BitVec.getLsbD_of_ge x i (by omega)
    rw [hw, hw]; simp [hi]

/-- The field set is the field read. -/
theorem Word.field_setField_same (w : Word) (lo n v : Nat) (h : lo + n ≤ 48) : (w.setField lo n v).field lo n = v % 2 ^ n := by
  apply Nat.eq_of_testBit_eq
  intro i
  rw [Word.testBit_field, Word.getLsbD_setField, Nat.testBit_mod_two_pow]
  by_cases hi : i < n
  · have h1 : lo ≤ lo + i ∧ lo + i < lo + n := by omega
    have h2 : lo + i < 48 := by omega
    simp [hi, h2]
  · simp [hi]

/-- A field that does not overlap the one set keeps its value. -/
theorem Word.field_setField_ne (w : Word) (lo n v lo' n' : Nat) (h : lo + n ≤ lo' ∨ lo' + n' ≤ lo) :
    (w.setField lo n v).field lo' n' = w.field lo' n' := by
  apply Nat.eq_of_testBit_eq
  intro i
  rw [Word.testBit_field, Word.testBit_field, Word.getLsbD_setField]
  by_cases hi : i < n'
  · have : ¬ (lo ≤ lo' + i ∧ lo' + i < lo + n) := by omega
    simp [hi, this]
  · simp [hi]

theorem Word.field_lt (w : Word) (lo n : Nat) : w.field lo n < 2 ^ n := Nat.mod_lt _ (Nat.two_pow_pos n)

theorem bit_lt (b : Bool) : bit b < 2 := by cases b <;> decide

@[simp] theorem bit_true : bit true = 1 := rfl
@[simp] theorem bit_false : bit false = 0 := rfl

end Sys2Proof
end

