-- ==== Sys2Proof/Laws/Fields.lean ====
section
/-! SUPPORT. Fields of parameter words: what a field reads after a field is set, here or elsewhere. -/

namespace Sys2Proof.Machine

/-- A field written is the field read. -/
theorem Chip.get_set_same (c : Chip) (f : Fld) (v : Nat) (h : f.lo + f.width ≤ 48) : (c.set f v).get f = v % 2 ^ f.width := by
  simp only [Chip.get, Chip.set, Chip.rd_wr_same, Word.field_setField_same _ _ _ _ h]

/-- A field of another word, or of the same word beside the one written, keeps its value. -/
theorem Chip.get_set_ne (c : Chip) (f g : Fld) (v : Nat) (h : g.addr ≠ f.addr ∨ f.lo + f.width ≤ g.lo ∨ g.lo + g.width ≤ f.lo) :
    (c.set f v).get g = c.get g := by
  simp only [Chip.get, Chip.set]
  by_cases ha : g.addr = f.addr
  · rw [ha, Chip.rd_wr_same]
    exact Word.field_setField_ne _ _ _ _ _ _ (by rcases h with h | h; exact absurd ha h; exact h)
  · rw [Chip.rd_wr_ne c _ ha]

/-- Another word keeps its value when a field is set. -/
theorem Chip.rd_set_ne (c : Chip) (f : Fld) (v : Nat) {a : Nat} (h : a ≠ f.addr) : (c.set f v).rd a = c.rd a := Chip.rd_wr_ne c _ h

theorem Chip.is_setb_same (c : Chip) (f : Fld) (b : Bool) (hw : f.width = 1) (h : f.lo + f.width ≤ 48) : (c.setb f b).is f = b := by
  simp only [Chip.is, Chip.setb, Chip.get_set_same c f _ h, hw]
  cases b <;> rfl

theorem Chip.is_raise_same (c : Chip) (f : Fld) (hw : f.width = 1) (h : f.lo + f.width ≤ 48) : (c.raise f).is f = true := by
  simp only [Chip.is, Chip.raise, Chip.get_set_same c f _ h, hw]; rfl

theorem Chip.get_raise_ne (c : Chip) (f g : Fld) (h : g.addr ≠ f.addr ∨ f.lo + f.width ≤ g.lo ∨ g.lo + g.width ≤ f.lo) :
    (c.raise f).get g = c.get g := Chip.get_set_ne c f g 1 h

theorem Chip.get_setb_ne (c : Chip) (f g : Fld) (b : Bool) (h : g.addr ≠ f.addr ∨ f.lo + f.width ≤ g.lo ∨ g.lo + g.width ≤ f.lo) :
    (c.setb f b).get g = c.get g := Chip.get_set_ne c f g (bit b) h

theorem Chip.rd_raise_ne (c : Chip) (f : Fld) {a : Nat} (h : a ≠ f.addr) : (c.raise f).rd a = c.rd a := Chip.rd_wr_ne c _ h

theorem Chip.rd_setb_ne (c : Chip) (f : Fld) (b : Bool) {a : Nat} (h : a ≠ f.addr) : (c.setb f b).rd a = c.rd a := Chip.rd_wr_ne c _ h

theorem Chip.rd_seti_ne (c : Chip) (f : Fld) (z : Int) {a : Nat} (h : a ≠ f.addr) : (c.seti f z).rd a = c.rd a := Chip.rd_wr_ne c _ h

theorem Chip.rd_countSat_ne (c : Chip) (f : Fld) (n : Nat) {a : Nat} (h : a ≠ f.addr) : (c.countSat f n).rd a = c.rd a := Chip.rd_wr_ne c _ h

theorem Chip.rd_evt_ne (c : Chip) (n k : Nat) {a : Nat} (h : a ≠ 0x10 + n) : (c.evt n k).rd a = c.rd a := Chip.rd_wr_ne c _ h

/-- Counting changes a count by what is counted, up to its largest value. -/
theorem Chip.get_countSat_same (c : Chip) (f : Fld) (n : Nat) (h : f.lo + f.width ≤ 48) :
    (c.countSat f n).get f = min (c.get f + n) (2 ^ f.width - 1) := by
  rw [Chip.countSat, Chip.get_set_same _ _ _ h]
  exact Nat.mod_eq_of_lt (by have := Nat.two_pow_pos f.width; omega)

/-- An event bit set reads 1. -/
theorem Chip.evt_field (c : Chip) (n k : Nat) (h : k < 48) : ((c.evt n k).rd (0x10 + n)).field k 1 = 1 := by
  simp only [Chip.evt, Chip.rd_wr_same, Word.field_setField_same _ _ _ _ (show k + 1 ≤ 48 by omega)]; rfl

/-! ### Any word after an update -/

/-- A word after a word is written. -/
theorem Chip.rd_wr (c : Chip) (a b : Nat) (w : Word) : (c.wr a w).rd b = if b = a then w else c.rd b := by
  split
  · rename_i h; subst h; exact Chip.rd_wr_same c b w
  · rename_i h; exact Chip.rd_wr_ne c w h

/-- A word after a field is set. -/
theorem Chip.rd_set (c : Chip) (f : Fld) (v b : Nat) : (c.set f v).rd b = if b = f.addr then (c.rd f.addr).setField f.lo f.width v else c.rd b :=
  Chip.rd_wr c f.addr b _

/-- A field of another word keeps its value when a word is written. -/
theorem Chip.get_wr_ne (c : Chip) (a : Nat) (w : Word) (g : Fld) (h : g.addr ≠ a) : (c.wr a w).get g = c.get g := by
  simp only [Chip.get, Chip.rd_wr_ne c w h]

/-- A field of the word written. -/
theorem Chip.get_wr_same (c : Chip) (w : Word) (g : Fld) : (c.wr g.addr w).get g = w.field g.lo g.width := by
  simp only [Chip.get, Chip.rd_wr_same]

theorem Chip.get_seti_ne (c : Chip) (f g : Fld) (z : Int) (h : g.addr ≠ f.addr ∨ f.lo + f.width ≤ g.lo ∨ g.lo + g.width ≤ f.lo) :
    (c.seti f z).get g = c.get g := Chip.get_set_ne c f g _ h

theorem Chip.get_countSat_ne (c : Chip) (f g : Fld) (n : Nat) (h : g.addr ≠ f.addr ∨ f.lo + f.width ≤ g.lo ∨ g.lo + g.width ≤ f.lo) :
    (c.countSat f n).get g = c.get g := Chip.get_set_ne c f g _ h

theorem Chip.get_countMod_ne (c : Chip) (f g : Fld) (n : Nat) (h : g.addr ≠ f.addr ∨ f.lo + f.width ≤ g.lo ∨ g.lo + g.width ≤ f.lo) :
    (c.countMod f n).get g = c.get g := Chip.get_set_ne c f g _ h

theorem Chip.rd_countMod_ne (c : Chip) (f : Fld) (n : Nat) {a : Nat} (h : a ≠ f.addr) : (c.countMod f n).rd a = c.rd a := Chip.rd_wr_ne c _ h

theorem Chip.rd_setBit_ne (c : Chip) (f : Fld) (k : Nat) (b : Bool) {a : Nat} (h : a ≠ f.addr) : (c.setBit f k b).rd a = c.rd a :=
  Chip.rd_wr_ne c _ h

theorem Chip.get_evt_ne (c : Chip) (n k : Nat) (g : Fld) (h : g.addr ≠ 0x10 + n) : (c.evt n k).get g = c.get g := Chip.get_wr_ne c _ _ g h

/-- An event bit stays set when another is set. -/
theorem Chip.evt_evt_field (c : Chip) (n m k j : Nat) (h : (c.rd (0x10 + n)).field k 1 = 1) (hj : k < 48) :
    ((c.evt m j).rd (0x10 + n)).field k 1 = 1 := by
  by_cases hm : n = m
  · subst hm
    simp only [Chip.evt, Chip.rd_wr_same]
    by_cases hk : k = j
    · subst hk; rw [Word.field_setField_same _ _ _ _ (by omega)]; rfl
    · rw [Word.field_setField_ne _ _ _ _ _ _ (by omega)]; exact h
  · rw [Chip.rd_evt_ne _ _ _ (by omega)]; exact h

/-- Words are equal where the lists of words are. -/
theorem Chip.rd_of_regs {c d : Chip} (h : c.regs = d.regs) (a : Nat) : c.rd a = d.rd a := by simp only [Chip.rd, h]

end Sys2Proof.Machine
end

