-- ==== Sys2Proof/Laws/State.lean ====
section
/-! SUPPORT. What each update of the chip leaves alone: one lemma per field per update, and what the words read after an update of another part. -/

namespace Sys2Proof.Machine

/-! ### wr -/

@[simp] theorem Chip.wr_lanes (c : Chip) (a : Nat) (w : Word) : (c.wr a w).lanes = c.lanes := rfl
@[simp] theorem Chip.wr_zmem (c : Chip) (a : Nat) (w : Word) : (c.wr a w).zmem = c.zmem := rfl
@[simp] theorem Chip.wr_store (c : Chip) (a : Nat) (w : Word) : (c.wr a w).store = c.store := rfl
@[simp] theorem Chip.wr_fuses (c : Chip) (a : Nat) (w : Word) : (c.wr a w).fuses = c.fuses := rfl
@[simp] theorem Chip.wr_ms (c : Chip) (a : Nat) (w : Word) : (c.wr a w).ms = c.ms := rfl
@[simp] theorem Chip.wr_link (c : Chip) (a : Nat) (w : Word) : (c.wr a w).link = c.link := rfl
@[simp] theorem Chip.wr_clk (c : Chip) (a : Nat) (w : Word) : (c.wr a w).clk = c.clk := rfl
@[simp] theorem Chip.wr_time (c : Chip) (a : Nat) (w : Word) : (c.wr a w).time = c.time := rfl
@[simp] theorem Chip.wr_trackers (c : Chip) (a : Nat) (w : Word) : (c.wr a w).trackers = c.trackers := rfl
@[simp] theorem Chip.wr_kerfs (c : Chip) (a : Nat) (w : Word) : (c.wr a w).kerfs = c.kerfs := rfl
@[simp] theorem Chip.wr_adc (c : Chip) (a : Nat) (w : Word) : (c.wr a w).adc = c.adc := rfl
@[simp] theorem Chip.wr_pwmG (c : Chip) (a : Nat) (w : Word) : (c.wr a w).pwmG = c.pwmG := rfl
@[simp] theorem Chip.wr_pwmL (c : Chip) (a : Nat) (w : Word) : (c.wr a w).pwmL = c.pwmL := rfl
@[simp] theorem Chip.wr_gdsG (c : Chip) (a : Nat) (w : Word) : (c.wr a w).gdsG = c.gdsG := rfl
@[simp] theorem Chip.wr_gdsL (c : Chip) (a : Nat) (w : Word) : (c.wr a w).gdsL = c.gdsL := rfl
@[simp] theorem Chip.wr_freeCtr (c : Chip) (a : Nat) (w : Word) : (c.wr a w).freeCtr = c.freeCtr := rfl
@[simp] theorem Chip.wr_window (c : Chip) (a : Nat) (w : Word) : (c.wr a w).window = c.window := rfl
@[simp] theorem Chip.wr_obs (c : Chip) (a : Nat) (w : Word) : (c.wr a w).obs = c.obs := rfl
@[simp] theorem Chip.wr_notices (c : Chip) (a : Nat) (w : Word) : (c.wr a w).notices = c.notices := rfl
@[simp] theorem Chip.wr_repairs (c : Chip) (a : Nat) (w : Word) : (c.wr a w).repairs = c.repairs := rfl
@[simp] theorem Chip.wr_sto (c : Chip) (a : Nat) (w : Word) : (c.wr a w).sto = c.sto := rfl
@[simp] theorem Chip.wr_zen (c : Chip) (a : Nat) (w : Word) : (c.wr a w).zen = c.zen := rfl
@[simp] theorem Chip.wr_axes (c : Chip) (a : Nat) (w : Word) : (c.wr a w).axes = c.axes := rfl
@[simp] theorem Chip.wr_conv (c : Chip) (a : Nat) (w : Word) : (c.wr a w).conv = c.conv := rfl
@[simp] theorem Chip.wr_prot (c : Chip) (a : Nat) (w : Word) : (c.wr a w).prot = c.prot := rfl
@[simp] theorem Chip.wr_fine (c : Chip) (a : Nat) (w : Word) : (c.wr a w).fine = c.fine := rfl
@[simp] theorem Chip.wr_up (c : Chip) (a : Nat) (w : Word) : (c.wr a w).up = c.up := rfl
@[simp] theorem Chip.wr_rind (c : Chip) (a : Nat) (w : Word) : (c.wr a w).rind = c.rind := rfl
@[simp] theorem Chip.wr_therm (c : Chip) (a : Nat) (w : Word) : (c.wr a w).therm = c.therm := rfl
@[simp] theorem Chip.wr_pu (c : Chip) (a : Nat) (w : Word) : (c.wr a w).pu = c.pu := rfl
@[simp] theorem Chip.wr_hop (c : Chip) (a : Nat) (w : Word) : (c.wr a w).hop = c.hop := rfl
@[simp] theorem Chip.wr_safe (c : Chip) (a : Nat) (w : Word) : (c.wr a w).safe = c.safe := rfl
@[simp] theorem Chip.wr_meter (c : Chip) (a : Nat) (w : Word) : (c.wr a w).meter = c.meter := rfl
@[simp] theorem Chip.wr_nvm (c : Chip) (a : Nat) (w : Word) : (c.wr a w).nvm = c.nvm := rfl
@[simp] theorem Chip.wr_bist (c : Chip) (a : Nat) (w : Word) : (c.wr a w).bist = c.bist := rfl

/-! ### set -/

@[simp] theorem Chip.set_lanes (c : Chip) (f : Fld) (v : Nat) : (c.set f v).lanes = c.lanes := rfl
@[simp] theorem Chip.set_zmem (c : Chip) (f : Fld) (v : Nat) : (c.set f v).zmem = c.zmem := rfl
@[simp] theorem Chip.set_store (c : Chip) (f : Fld) (v : Nat) : (c.set f v).store = c.store := rfl
@[simp] theorem Chip.set_fuses (c : Chip) (f : Fld) (v : Nat) : (c.set f v).fuses = c.fuses := rfl
@[simp] theorem Chip.set_ms (c : Chip) (f : Fld) (v : Nat) : (c.set f v).ms = c.ms := rfl
@[simp] theorem Chip.set_link (c : Chip) (f : Fld) (v : Nat) : (c.set f v).link = c.link := rfl
@[simp] theorem Chip.set_clk (c : Chip) (f : Fld) (v : Nat) : (c.set f v).clk = c.clk := rfl
@[simp] theorem Chip.set_time (c : Chip) (f : Fld) (v : Nat) : (c.set f v).time = c.time := rfl
@[simp] theorem Chip.set_trackers (c : Chip) (f : Fld) (v : Nat) : (c.set f v).trackers = c.trackers := rfl
@[simp] theorem Chip.set_kerfs (c : Chip) (f : Fld) (v : Nat) : (c.set f v).kerfs = c.kerfs := rfl
@[simp] theorem Chip.set_adc (c : Chip) (f : Fld) (v : Nat) : (c.set f v).adc = c.adc := rfl
@[simp] theorem Chip.set_pwmG (c : Chip) (f : Fld) (v : Nat) : (c.set f v).pwmG = c.pwmG := rfl
@[simp] theorem Chip.set_pwmL (c : Chip) (f : Fld) (v : Nat) : (c.set f v).pwmL = c.pwmL := rfl
@[simp] theorem Chip.set_gdsG (c : Chip) (f : Fld) (v : Nat) : (c.set f v).gdsG = c.gdsG := rfl
@[simp] theorem Chip.set_gdsL (c : Chip) (f : Fld) (v : Nat) : (c.set f v).gdsL = c.gdsL := rfl
@[simp] theorem Chip.set_freeCtr (c : Chip) (f : Fld) (v : Nat) : (c.set f v).freeCtr = c.freeCtr := rfl
@[simp] theorem Chip.set_window (c : Chip) (f : Fld) (v : Nat) : (c.set f v).window = c.window := rfl
@[simp] theorem Chip.set_obs (c : Chip) (f : Fld) (v : Nat) : (c.set f v).obs = c.obs := rfl
@[simp] theorem Chip.set_notices (c : Chip) (f : Fld) (v : Nat) : (c.set f v).notices = c.notices := rfl
@[simp] theorem Chip.set_repairs (c : Chip) (f : Fld) (v : Nat) : (c.set f v).repairs = c.repairs := rfl
@[simp] theorem Chip.set_sto (c : Chip) (f : Fld) (v : Nat) : (c.set f v).sto = c.sto := rfl
@[simp] theorem Chip.set_zen (c : Chip) (f : Fld) (v : Nat) : (c.set f v).zen = c.zen := rfl
@[simp] theorem Chip.set_axes (c : Chip) (f : Fld) (v : Nat) : (c.set f v).axes = c.axes := rfl
@[simp] theorem Chip.set_conv (c : Chip) (f : Fld) (v : Nat) : (c.set f v).conv = c.conv := rfl
@[simp] theorem Chip.set_prot (c : Chip) (f : Fld) (v : Nat) : (c.set f v).prot = c.prot := rfl
@[simp] theorem Chip.set_fine (c : Chip) (f : Fld) (v : Nat) : (c.set f v).fine = c.fine := rfl
@[simp] theorem Chip.set_up (c : Chip) (f : Fld) (v : Nat) : (c.set f v).up = c.up := rfl
@[simp] theorem Chip.set_rind (c : Chip) (f : Fld) (v : Nat) : (c.set f v).rind = c.rind := rfl
@[simp] theorem Chip.set_therm (c : Chip) (f : Fld) (v : Nat) : (c.set f v).therm = c.therm := rfl
@[simp] theorem Chip.set_pu (c : Chip) (f : Fld) (v : Nat) : (c.set f v).pu = c.pu := rfl
@[simp] theorem Chip.set_hop (c : Chip) (f : Fld) (v : Nat) : (c.set f v).hop = c.hop := rfl
@[simp] theorem Chip.set_safe (c : Chip) (f : Fld) (v : Nat) : (c.set f v).safe = c.safe := rfl
@[simp] theorem Chip.set_meter (c : Chip) (f : Fld) (v : Nat) : (c.set f v).meter = c.meter := rfl
@[simp] theorem Chip.set_nvm (c : Chip) (f : Fld) (v : Nat) : (c.set f v).nvm = c.nvm := rfl
@[simp] theorem Chip.set_bist (c : Chip) (f : Fld) (v : Nat) : (c.set f v).bist = c.bist := rfl

/-! ### setb -/

@[simp] theorem Chip.setb_lanes (c : Chip) (f : Fld) (b : Bool) : (c.setb f b).lanes = c.lanes := rfl
@[simp] theorem Chip.setb_zmem (c : Chip) (f : Fld) (b : Bool) : (c.setb f b).zmem = c.zmem := rfl
@[simp] theorem Chip.setb_store (c : Chip) (f : Fld) (b : Bool) : (c.setb f b).store = c.store := rfl
@[simp] theorem Chip.setb_fuses (c : Chip) (f : Fld) (b : Bool) : (c.setb f b).fuses = c.fuses := rfl
@[simp] theorem Chip.setb_ms (c : Chip) (f : Fld) (b : Bool) : (c.setb f b).ms = c.ms := rfl
@[simp] theorem Chip.setb_link (c : Chip) (f : Fld) (b : Bool) : (c.setb f b).link = c.link := rfl
@[simp] theorem Chip.setb_clk (c : Chip) (f : Fld) (b : Bool) : (c.setb f b).clk = c.clk := rfl
@[simp] theorem Chip.setb_time (c : Chip) (f : Fld) (b : Bool) : (c.setb f b).time = c.time := rfl
@[simp] theorem Chip.setb_trackers (c : Chip) (f : Fld) (b : Bool) : (c.setb f b).trackers = c.trackers := rfl
@[simp] theorem Chip.setb_kerfs (c : Chip) (f : Fld) (b : Bool) : (c.setb f b).kerfs = c.kerfs := rfl
@[simp] theorem Chip.setb_adc (c : Chip) (f : Fld) (b : Bool) : (c.setb f b).adc = c.adc := rfl
@[simp] theorem Chip.setb_pwmG (c : Chip) (f : Fld) (b : Bool) : (c.setb f b).pwmG = c.pwmG := rfl
@[simp] theorem Chip.setb_pwmL (c : Chip) (f : Fld) (b : Bool) : (c.setb f b).pwmL = c.pwmL := rfl
@[simp] theorem Chip.setb_gdsG (c : Chip) (f : Fld) (b : Bool) : (c.setb f b).gdsG = c.gdsG := rfl
@[simp] theorem Chip.setb_gdsL (c : Chip) (f : Fld) (b : Bool) : (c.setb f b).gdsL = c.gdsL := rfl
@[simp] theorem Chip.setb_freeCtr (c : Chip) (f : Fld) (b : Bool) : (c.setb f b).freeCtr = c.freeCtr := rfl
@[simp] theorem Chip.setb_window (c : Chip) (f : Fld) (b : Bool) : (c.setb f b).window = c.window := rfl
@[simp] theorem Chip.setb_obs (c : Chip) (f : Fld) (b : Bool) : (c.setb f b).obs = c.obs := rfl
@[simp] theorem Chip.setb_notices (c : Chip) (f : Fld) (b : Bool) : (c.setb f b).notices = c.notices := rfl
@[simp] theorem Chip.setb_repairs (c : Chip) (f : Fld) (b : Bool) : (c.setb f b).repairs = c.repairs := rfl
@[simp] theorem Chip.setb_sto (c : Chip) (f : Fld) (b : Bool) : (c.setb f b).sto = c.sto := rfl
@[simp] theorem Chip.setb_zen (c : Chip) (f : Fld) (b : Bool) : (c.setb f b).zen = c.zen := rfl
@[simp] theorem Chip.setb_axes (c : Chip) (f : Fld) (b : Bool) : (c.setb f b).axes = c.axes := rfl
@[simp] theorem Chip.setb_conv (c : Chip) (f : Fld) (b : Bool) : (c.setb f b).conv = c.conv := rfl
@[simp] theorem Chip.setb_prot (c : Chip) (f : Fld) (b : Bool) : (c.setb f b).prot = c.prot := rfl
@[simp] theorem Chip.setb_fine (c : Chip) (f : Fld) (b : Bool) : (c.setb f b).fine = c.fine := rfl
@[simp] theorem Chip.setb_up (c : Chip) (f : Fld) (b : Bool) : (c.setb f b).up = c.up := rfl
@[simp] theorem Chip.setb_rind (c : Chip) (f : Fld) (b : Bool) : (c.setb f b).rind = c.rind := rfl
@[simp] theorem Chip.setb_therm (c : Chip) (f : Fld) (b : Bool) : (c.setb f b).therm = c.therm := rfl
@[simp] theorem Chip.setb_pu (c : Chip) (f : Fld) (b : Bool) : (c.setb f b).pu = c.pu := rfl
@[simp] theorem Chip.setb_hop (c : Chip) (f : Fld) (b : Bool) : (c.setb f b).hop = c.hop := rfl
@[simp] theorem Chip.setb_safe (c : Chip) (f : Fld) (b : Bool) : (c.setb f b).safe = c.safe := rfl
@[simp] theorem Chip.setb_meter (c : Chip) (f : Fld) (b : Bool) : (c.setb f b).meter = c.meter := rfl
@[simp] theorem Chip.setb_nvm (c : Chip) (f : Fld) (b : Bool) : (c.setb f b).nvm = c.nvm := rfl
@[simp] theorem Chip.setb_bist (c : Chip) (f : Fld) (b : Bool) : (c.setb f b).bist = c.bist := rfl

/-! ### seti -/

@[simp] theorem Chip.seti_lanes (c : Chip) (f : Fld) (z : Int) : (c.seti f z).lanes = c.lanes := rfl
@[simp] theorem Chip.seti_zmem (c : Chip) (f : Fld) (z : Int) : (c.seti f z).zmem = c.zmem := rfl
@[simp] theorem Chip.seti_store (c : Chip) (f : Fld) (z : Int) : (c.seti f z).store = c.store := rfl
@[simp] theorem Chip.seti_fuses (c : Chip) (f : Fld) (z : Int) : (c.seti f z).fuses = c.fuses := rfl
@[simp] theorem Chip.seti_ms (c : Chip) (f : Fld) (z : Int) : (c.seti f z).ms = c.ms := rfl
@[simp] theorem Chip.seti_link (c : Chip) (f : Fld) (z : Int) : (c.seti f z).link = c.link := rfl
@[simp] theorem Chip.seti_clk (c : Chip) (f : Fld) (z : Int) : (c.seti f z).clk = c.clk := rfl
@[simp] theorem Chip.seti_time (c : Chip) (f : Fld) (z : Int) : (c.seti f z).time = c.time := rfl
@[simp] theorem Chip.seti_trackers (c : Chip) (f : Fld) (z : Int) : (c.seti f z).trackers = c.trackers := rfl
@[simp] theorem Chip.seti_kerfs (c : Chip) (f : Fld) (z : Int) : (c.seti f z).kerfs = c.kerfs := rfl
@[simp] theorem Chip.seti_adc (c : Chip) (f : Fld) (z : Int) : (c.seti f z).adc = c.adc := rfl
@[simp] theorem Chip.seti_pwmG (c : Chip) (f : Fld) (z : Int) : (c.seti f z).pwmG = c.pwmG := rfl
@[simp] theorem Chip.seti_pwmL (c : Chip) (f : Fld) (z : Int) : (c.seti f z).pwmL = c.pwmL := rfl
@[simp] theorem Chip.seti_gdsG (c : Chip) (f : Fld) (z : Int) : (c.seti f z).gdsG = c.gdsG := rfl
@[simp] theorem Chip.seti_gdsL (c : Chip) (f : Fld) (z : Int) : (c.seti f z).gdsL = c.gdsL := rfl
@[simp] theorem Chip.seti_freeCtr (c : Chip) (f : Fld) (z : Int) : (c.seti f z).freeCtr = c.freeCtr := rfl
@[simp] theorem Chip.seti_window (c : Chip) (f : Fld) (z : Int) : (c.seti f z).window = c.window := rfl
@[simp] theorem Chip.seti_obs (c : Chip) (f : Fld) (z : Int) : (c.seti f z).obs = c.obs := rfl
@[simp] theorem Chip.seti_notices (c : Chip) (f : Fld) (z : Int) : (c.seti f z).notices = c.notices := rfl
@[simp] theorem Chip.seti_repairs (c : Chip) (f : Fld) (z : Int) : (c.seti f z).repairs = c.repairs := rfl
@[simp] theorem Chip.seti_sto (c : Chip) (f : Fld) (z : Int) : (c.seti f z).sto = c.sto := rfl
@[simp] theorem Chip.seti_zen (c : Chip) (f : Fld) (z : Int) : (c.seti f z).zen = c.zen := rfl
@[simp] theorem Chip.seti_axes (c : Chip) (f : Fld) (z : Int) : (c.seti f z).axes = c.axes := rfl
@[simp] theorem Chip.seti_conv (c : Chip) (f : Fld) (z : Int) : (c.seti f z).conv = c.conv := rfl
@[simp] theorem Chip.seti_prot (c : Chip) (f : Fld) (z : Int) : (c.seti f z).prot = c.prot := rfl
@[simp] theorem Chip.seti_fine (c : Chip) (f : Fld) (z : Int) : (c.seti f z).fine = c.fine := rfl
@[simp] theorem Chip.seti_up (c : Chip) (f : Fld) (z : Int) : (c.seti f z).up = c.up := rfl
@[simp] theorem Chip.seti_rind (c : Chip) (f : Fld) (z : Int) : (c.seti f z).rind = c.rind := rfl
@[simp] theorem Chip.seti_therm (c : Chip) (f : Fld) (z : Int) : (c.seti f z).therm = c.therm := rfl
@[simp] theorem Chip.seti_pu (c : Chip) (f : Fld) (z : Int) : (c.seti f z).pu = c.pu := rfl
@[simp] theorem Chip.seti_hop (c : Chip) (f : Fld) (z : Int) : (c.seti f z).hop = c.hop := rfl
@[simp] theorem Chip.seti_safe (c : Chip) (f : Fld) (z : Int) : (c.seti f z).safe = c.safe := rfl
@[simp] theorem Chip.seti_meter (c : Chip) (f : Fld) (z : Int) : (c.seti f z).meter = c.meter := rfl
@[simp] theorem Chip.seti_nvm (c : Chip) (f : Fld) (z : Int) : (c.seti f z).nvm = c.nvm := rfl
@[simp] theorem Chip.seti_bist (c : Chip) (f : Fld) (z : Int) : (c.seti f z).bist = c.bist := rfl

/-! ### raise -/

@[simp] theorem Chip.raise_lanes (c : Chip) (f : Fld) : (c.raise f).lanes = c.lanes := rfl
@[simp] theorem Chip.raise_zmem (c : Chip) (f : Fld) : (c.raise f).zmem = c.zmem := rfl
@[simp] theorem Chip.raise_store (c : Chip) (f : Fld) : (c.raise f).store = c.store := rfl
@[simp] theorem Chip.raise_fuses (c : Chip) (f : Fld) : (c.raise f).fuses = c.fuses := rfl
@[simp] theorem Chip.raise_ms (c : Chip) (f : Fld) : (c.raise f).ms = c.ms := rfl
@[simp] theorem Chip.raise_link (c : Chip) (f : Fld) : (c.raise f).link = c.link := rfl
@[simp] theorem Chip.raise_clk (c : Chip) (f : Fld) : (c.raise f).clk = c.clk := rfl
@[simp] theorem Chip.raise_time (c : Chip) (f : Fld) : (c.raise f).time = c.time := rfl
@[simp] theorem Chip.raise_trackers (c : Chip) (f : Fld) : (c.raise f).trackers = c.trackers := rfl
@[simp] theorem Chip.raise_kerfs (c : Chip) (f : Fld) : (c.raise f).kerfs = c.kerfs := rfl
@[simp] theorem Chip.raise_adc (c : Chip) (f : Fld) : (c.raise f).adc = c.adc := rfl
@[simp] theorem Chip.raise_pwmG (c : Chip) (f : Fld) : (c.raise f).pwmG = c.pwmG := rfl
@[simp] theorem Chip.raise_pwmL (c : Chip) (f : Fld) : (c.raise f).pwmL = c.pwmL := rfl
@[simp] theorem Chip.raise_gdsG (c : Chip) (f : Fld) : (c.raise f).gdsG = c.gdsG := rfl
@[simp] theorem Chip.raise_gdsL (c : Chip) (f : Fld) : (c.raise f).gdsL = c.gdsL := rfl
@[simp] theorem Chip.raise_freeCtr (c : Chip) (f : Fld) : (c.raise f).freeCtr = c.freeCtr := rfl
@[simp] theorem Chip.raise_window (c : Chip) (f : Fld) : (c.raise f).window = c.window := rfl
@[simp] theorem Chip.raise_obs (c : Chip) (f : Fld) : (c.raise f).obs = c.obs := rfl
@[simp] theorem Chip.raise_notices (c : Chip) (f : Fld) : (c.raise f).notices = c.notices := rfl
@[simp] theorem Chip.raise_repairs (c : Chip) (f : Fld) : (c.raise f).repairs = c.repairs := rfl
@[simp] theorem Chip.raise_sto (c : Chip) (f : Fld) : (c.raise f).sto = c.sto := rfl
@[simp] theorem Chip.raise_zen (c : Chip) (f : Fld) : (c.raise f).zen = c.zen := rfl
@[simp] theorem Chip.raise_axes (c : Chip) (f : Fld) : (c.raise f).axes = c.axes := rfl
@[simp] theorem Chip.raise_conv (c : Chip) (f : Fld) : (c.raise f).conv = c.conv := rfl
@[simp] theorem Chip.raise_prot (c : Chip) (f : Fld) : (c.raise f).prot = c.prot := rfl
@[simp] theorem Chip.raise_fine (c : Chip) (f : Fld) : (c.raise f).fine = c.fine := rfl
@[simp] theorem Chip.raise_up (c : Chip) (f : Fld) : (c.raise f).up = c.up := rfl
@[simp] theorem Chip.raise_rind (c : Chip) (f : Fld) : (c.raise f).rind = c.rind := rfl
@[simp] theorem Chip.raise_therm (c : Chip) (f : Fld) : (c.raise f).therm = c.therm := rfl
@[simp] theorem Chip.raise_pu (c : Chip) (f : Fld) : (c.raise f).pu = c.pu := rfl
@[simp] theorem Chip.raise_hop (c : Chip) (f : Fld) : (c.raise f).hop = c.hop := rfl
@[simp] theorem Chip.raise_safe (c : Chip) (f : Fld) : (c.raise f).safe = c.safe := rfl
@[simp] theorem Chip.raise_meter (c : Chip) (f : Fld) : (c.raise f).meter = c.meter := rfl
@[simp] theorem Chip.raise_nvm (c : Chip) (f : Fld) : (c.raise f).nvm = c.nvm := rfl
@[simp] theorem Chip.raise_bist (c : Chip) (f : Fld) : (c.raise f).bist = c.bist := rfl

/-! ### countSat -/

@[simp] theorem Chip.countSat_lanes (c : Chip) (f : Fld) (n : Nat) : (c.countSat f n).lanes = c.lanes := rfl
@[simp] theorem Chip.countSat_zmem (c : Chip) (f : Fld) (n : Nat) : (c.countSat f n).zmem = c.zmem := rfl
@[simp] theorem Chip.countSat_store (c : Chip) (f : Fld) (n : Nat) : (c.countSat f n).store = c.store := rfl
@[simp] theorem Chip.countSat_fuses (c : Chip) (f : Fld) (n : Nat) : (c.countSat f n).fuses = c.fuses := rfl
@[simp] theorem Chip.countSat_ms (c : Chip) (f : Fld) (n : Nat) : (c.countSat f n).ms = c.ms := rfl
@[simp] theorem Chip.countSat_link (c : Chip) (f : Fld) (n : Nat) : (c.countSat f n).link = c.link := rfl
@[simp] theorem Chip.countSat_clk (c : Chip) (f : Fld) (n : Nat) : (c.countSat f n).clk = c.clk := rfl
@[simp] theorem Chip.countSat_time (c : Chip) (f : Fld) (n : Nat) : (c.countSat f n).time = c.time := rfl
@[simp] theorem Chip.countSat_trackers (c : Chip) (f : Fld) (n : Nat) : (c.countSat f n).trackers = c.trackers := rfl
@[simp] theorem Chip.countSat_kerfs (c : Chip) (f : Fld) (n : Nat) : (c.countSat f n).kerfs = c.kerfs := rfl
@[simp] theorem Chip.countSat_adc (c : Chip) (f : Fld) (n : Nat) : (c.countSat f n).adc = c.adc := rfl
@[simp] theorem Chip.countSat_pwmG (c : Chip) (f : Fld) (n : Nat) : (c.countSat f n).pwmG = c.pwmG := rfl
@[simp] theorem Chip.countSat_pwmL (c : Chip) (f : Fld) (n : Nat) : (c.countSat f n).pwmL = c.pwmL := rfl
@[simp] theorem Chip.countSat_gdsG (c : Chip) (f : Fld) (n : Nat) : (c.countSat f n).gdsG = c.gdsG := rfl
@[simp] theorem Chip.countSat_gdsL (c : Chip) (f : Fld) (n : Nat) : (c.countSat f n).gdsL = c.gdsL := rfl
@[simp] theorem Chip.countSat_freeCtr (c : Chip) (f : Fld) (n : Nat) : (c.countSat f n).freeCtr = c.freeCtr := rfl
@[simp] theorem Chip.countSat_window (c : Chip) (f : Fld) (n : Nat) : (c.countSat f n).window = c.window := rfl
@[simp] theorem Chip.countSat_obs (c : Chip) (f : Fld) (n : Nat) : (c.countSat f n).obs = c.obs := rfl
@[simp] theorem Chip.countSat_notices (c : Chip) (f : Fld) (n : Nat) : (c.countSat f n).notices = c.notices := rfl
@[simp] theorem Chip.countSat_repairs (c : Chip) (f : Fld) (n : Nat) : (c.countSat f n).repairs = c.repairs := rfl
@[simp] theorem Chip.countSat_sto (c : Chip) (f : Fld) (n : Nat) : (c.countSat f n).sto = c.sto := rfl
@[simp] theorem Chip.countSat_zen (c : Chip) (f : Fld) (n : Nat) : (c.countSat f n).zen = c.zen := rfl
@[simp] theorem Chip.countSat_axes (c : Chip) (f : Fld) (n : Nat) : (c.countSat f n).axes = c.axes := rfl
@[simp] theorem Chip.countSat_conv (c : Chip) (f : Fld) (n : Nat) : (c.countSat f n).conv = c.conv := rfl
@[simp] theorem Chip.countSat_prot (c : Chip) (f : Fld) (n : Nat) : (c.countSat f n).prot = c.prot := rfl
@[simp] theorem Chip.countSat_fine (c : Chip) (f : Fld) (n : Nat) : (c.countSat f n).fine = c.fine := rfl
@[simp] theorem Chip.countSat_up (c : Chip) (f : Fld) (n : Nat) : (c.countSat f n).up = c.up := rfl
@[simp] theorem Chip.countSat_rind (c : Chip) (f : Fld) (n : Nat) : (c.countSat f n).rind = c.rind := rfl
@[simp] theorem Chip.countSat_therm (c : Chip) (f : Fld) (n : Nat) : (c.countSat f n).therm = c.therm := rfl
@[simp] theorem Chip.countSat_pu (c : Chip) (f : Fld) (n : Nat) : (c.countSat f n).pu = c.pu := rfl
@[simp] theorem Chip.countSat_hop (c : Chip) (f : Fld) (n : Nat) : (c.countSat f n).hop = c.hop := rfl
@[simp] theorem Chip.countSat_safe (c : Chip) (f : Fld) (n : Nat) : (c.countSat f n).safe = c.safe := rfl
@[simp] theorem Chip.countSat_meter (c : Chip) (f : Fld) (n : Nat) : (c.countSat f n).meter = c.meter := rfl
@[simp] theorem Chip.countSat_nvm (c : Chip) (f : Fld) (n : Nat) : (c.countSat f n).nvm = c.nvm := rfl
@[simp] theorem Chip.countSat_bist (c : Chip) (f : Fld) (n : Nat) : (c.countSat f n).bist = c.bist := rfl

/-! ### countMod -/

@[simp] theorem Chip.countMod_lanes (c : Chip) (f : Fld) (n : Nat) : (c.countMod f n).lanes = c.lanes := rfl
@[simp] theorem Chip.countMod_zmem (c : Chip) (f : Fld) (n : Nat) : (c.countMod f n).zmem = c.zmem := rfl
@[simp] theorem Chip.countMod_store (c : Chip) (f : Fld) (n : Nat) : (c.countMod f n).store = c.store := rfl
@[simp] theorem Chip.countMod_fuses (c : Chip) (f : Fld) (n : Nat) : (c.countMod f n).fuses = c.fuses := rfl
@[simp] theorem Chip.countMod_ms (c : Chip) (f : Fld) (n : Nat) : (c.countMod f n).ms = c.ms := rfl
@[simp] theorem Chip.countMod_link (c : Chip) (f : Fld) (n : Nat) : (c.countMod f n).link = c.link := rfl
@[simp] theorem Chip.countMod_clk (c : Chip) (f : Fld) (n : Nat) : (c.countMod f n).clk = c.clk := rfl
@[simp] theorem Chip.countMod_time (c : Chip) (f : Fld) (n : Nat) : (c.countMod f n).time = c.time := rfl
@[simp] theorem Chip.countMod_trackers (c : Chip) (f : Fld) (n : Nat) : (c.countMod f n).trackers = c.trackers := rfl
@[simp] theorem Chip.countMod_kerfs (c : Chip) (f : Fld) (n : Nat) : (c.countMod f n).kerfs = c.kerfs := rfl
@[simp] theorem Chip.countMod_adc (c : Chip) (f : Fld) (n : Nat) : (c.countMod f n).adc = c.adc := rfl
@[simp] theorem Chip.countMod_pwmG (c : Chip) (f : Fld) (n : Nat) : (c.countMod f n).pwmG = c.pwmG := rfl
@[simp] theorem Chip.countMod_pwmL (c : Chip) (f : Fld) (n : Nat) : (c.countMod f n).pwmL = c.pwmL := rfl
@[simp] theorem Chip.countMod_gdsG (c : Chip) (f : Fld) (n : Nat) : (c.countMod f n).gdsG = c.gdsG := rfl
@[simp] theorem Chip.countMod_gdsL (c : Chip) (f : Fld) (n : Nat) : (c.countMod f n).gdsL = c.gdsL := rfl
@[simp] theorem Chip.countMod_freeCtr (c : Chip) (f : Fld) (n : Nat) : (c.countMod f n).freeCtr = c.freeCtr := rfl
@[simp] theorem Chip.countMod_window (c : Chip) (f : Fld) (n : Nat) : (c.countMod f n).window = c.window := rfl
@[simp] theorem Chip.countMod_obs (c : Chip) (f : Fld) (n : Nat) : (c.countMod f n).obs = c.obs := rfl
@[simp] theorem Chip.countMod_notices (c : Chip) (f : Fld) (n : Nat) : (c.countMod f n).notices = c.notices := rfl
@[simp] theorem Chip.countMod_repairs (c : Chip) (f : Fld) (n : Nat) : (c.countMod f n).repairs = c.repairs := rfl
@[simp] theorem Chip.countMod_sto (c : Chip) (f : Fld) (n : Nat) : (c.countMod f n).sto = c.sto := rfl
@[simp] theorem Chip.countMod_zen (c : Chip) (f : Fld) (n : Nat) : (c.countMod f n).zen = c.zen := rfl
@[simp] theorem Chip.countMod_axes (c : Chip) (f : Fld) (n : Nat) : (c.countMod f n).axes = c.axes := rfl
@[simp] theorem Chip.countMod_conv (c : Chip) (f : Fld) (n : Nat) : (c.countMod f n).conv = c.conv := rfl
@[simp] theorem Chip.countMod_prot (c : Chip) (f : Fld) (n : Nat) : (c.countMod f n).prot = c.prot := rfl
@[simp] theorem Chip.countMod_fine (c : Chip) (f : Fld) (n : Nat) : (c.countMod f n).fine = c.fine := rfl
@[simp] theorem Chip.countMod_up (c : Chip) (f : Fld) (n : Nat) : (c.countMod f n).up = c.up := rfl
@[simp] theorem Chip.countMod_rind (c : Chip) (f : Fld) (n : Nat) : (c.countMod f n).rind = c.rind := rfl
@[simp] theorem Chip.countMod_therm (c : Chip) (f : Fld) (n : Nat) : (c.countMod f n).therm = c.therm := rfl
@[simp] theorem Chip.countMod_pu (c : Chip) (f : Fld) (n : Nat) : (c.countMod f n).pu = c.pu := rfl
@[simp] theorem Chip.countMod_hop (c : Chip) (f : Fld) (n : Nat) : (c.countMod f n).hop = c.hop := rfl
@[simp] theorem Chip.countMod_safe (c : Chip) (f : Fld) (n : Nat) : (c.countMod f n).safe = c.safe := rfl
@[simp] theorem Chip.countMod_meter (c : Chip) (f : Fld) (n : Nat) : (c.countMod f n).meter = c.meter := rfl
@[simp] theorem Chip.countMod_nvm (c : Chip) (f : Fld) (n : Nat) : (c.countMod f n).nvm = c.nvm := rfl
@[simp] theorem Chip.countMod_bist (c : Chip) (f : Fld) (n : Nat) : (c.countMod f n).bist = c.bist := rfl

/-! ### setBit -/

@[simp] theorem Chip.setBit_lanes (c : Chip) (f : Fld) (k : Nat) (b : Bool) : (c.setBit f k b).lanes = c.lanes := rfl
@[simp] theorem Chip.setBit_zmem (c : Chip) (f : Fld) (k : Nat) (b : Bool) : (c.setBit f k b).zmem = c.zmem := rfl
@[simp] theorem Chip.setBit_store (c : Chip) (f : Fld) (k : Nat) (b : Bool) : (c.setBit f k b).store = c.store := rfl
@[simp] theorem Chip.setBit_fuses (c : Chip) (f : Fld) (k : Nat) (b : Bool) : (c.setBit f k b).fuses = c.fuses := rfl
@[simp] theorem Chip.setBit_ms (c : Chip) (f : Fld) (k : Nat) (b : Bool) : (c.setBit f k b).ms = c.ms := rfl
@[simp] theorem Chip.setBit_link (c : Chip) (f : Fld) (k : Nat) (b : Bool) : (c.setBit f k b).link = c.link := rfl
@[simp] theorem Chip.setBit_clk (c : Chip) (f : Fld) (k : Nat) (b : Bool) : (c.setBit f k b).clk = c.clk := rfl
@[simp] theorem Chip.setBit_time (c : Chip) (f : Fld) (k : Nat) (b : Bool) : (c.setBit f k b).time = c.time := rfl
@[simp] theorem Chip.setBit_trackers (c : Chip) (f : Fld) (k : Nat) (b : Bool) : (c.setBit f k b).trackers = c.trackers := rfl
@[simp] theorem Chip.setBit_kerfs (c : Chip) (f : Fld) (k : Nat) (b : Bool) : (c.setBit f k b).kerfs = c.kerfs := rfl
@[simp] theorem Chip.setBit_adc (c : Chip) (f : Fld) (k : Nat) (b : Bool) : (c.setBit f k b).adc = c.adc := rfl
@[simp] theorem Chip.setBit_pwmG (c : Chip) (f : Fld) (k : Nat) (b : Bool) : (c.setBit f k b).pwmG = c.pwmG := rfl
@[simp] theorem Chip.setBit_pwmL (c : Chip) (f : Fld) (k : Nat) (b : Bool) : (c.setBit f k b).pwmL = c.pwmL := rfl
@[simp] theorem Chip.setBit_gdsG (c : Chip) (f : Fld) (k : Nat) (b : Bool) : (c.setBit f k b).gdsG = c.gdsG := rfl
@[simp] theorem Chip.setBit_gdsL (c : Chip) (f : Fld) (k : Nat) (b : Bool) : (c.setBit f k b).gdsL = c.gdsL := rfl
@[simp] theorem Chip.setBit_freeCtr (c : Chip) (f : Fld) (k : Nat) (b : Bool) : (c.setBit f k b).freeCtr = c.freeCtr := rfl
@[simp] theorem Chip.setBit_window (c : Chip) (f : Fld) (k : Nat) (b : Bool) : (c.setBit f k b).window = c.window := rfl
@[simp] theorem Chip.setBit_obs (c : Chip) (f : Fld) (k : Nat) (b : Bool) : (c.setBit f k b).obs = c.obs := rfl
@[simp] theorem Chip.setBit_notices (c : Chip) (f : Fld) (k : Nat) (b : Bool) : (c.setBit f k b).notices = c.notices := rfl
@[simp] theorem Chip.setBit_repairs (c : Chip) (f : Fld) (k : Nat) (b : Bool) : (c.setBit f k b).repairs = c.repairs := rfl
@[simp] theorem Chip.setBit_sto (c : Chip) (f : Fld) (k : Nat) (b : Bool) : (c.setBit f k b).sto = c.sto := rfl
@[simp] theorem Chip.setBit_zen (c : Chip) (f : Fld) (k : Nat) (b : Bool) : (c.setBit f k b).zen = c.zen := rfl
@[simp] theorem Chip.setBit_axes (c : Chip) (f : Fld) (k : Nat) (b : Bool) : (c.setBit f k b).axes = c.axes := rfl
@[simp] theorem Chip.setBit_conv (c : Chip) (f : Fld) (k : Nat) (b : Bool) : (c.setBit f k b).conv = c.conv := rfl
@[simp] theorem Chip.setBit_prot (c : Chip) (f : Fld) (k : Nat) (b : Bool) : (c.setBit f k b).prot = c.prot := rfl
@[simp] theorem Chip.setBit_fine (c : Chip) (f : Fld) (k : Nat) (b : Bool) : (c.setBit f k b).fine = c.fine := rfl
@[simp] theorem Chip.setBit_up (c : Chip) (f : Fld) (k : Nat) (b : Bool) : (c.setBit f k b).up = c.up := rfl
@[simp] theorem Chip.setBit_rind (c : Chip) (f : Fld) (k : Nat) (b : Bool) : (c.setBit f k b).rind = c.rind := rfl
@[simp] theorem Chip.setBit_therm (c : Chip) (f : Fld) (k : Nat) (b : Bool) : (c.setBit f k b).therm = c.therm := rfl
@[simp] theorem Chip.setBit_pu (c : Chip) (f : Fld) (k : Nat) (b : Bool) : (c.setBit f k b).pu = c.pu := rfl
@[simp] theorem Chip.setBit_hop (c : Chip) (f : Fld) (k : Nat) (b : Bool) : (c.setBit f k b).hop = c.hop := rfl
@[simp] theorem Chip.setBit_safe (c : Chip) (f : Fld) (k : Nat) (b : Bool) : (c.setBit f k b).safe = c.safe := rfl
@[simp] theorem Chip.setBit_meter (c : Chip) (f : Fld) (k : Nat) (b : Bool) : (c.setBit f k b).meter = c.meter := rfl
@[simp] theorem Chip.setBit_nvm (c : Chip) (f : Fld) (k : Nat) (b : Bool) : (c.setBit f k b).nvm = c.nvm := rfl
@[simp] theorem Chip.setBit_bist (c : Chip) (f : Fld) (k : Nat) (b : Bool) : (c.setBit f k b).bist = c.bist := rfl

/-! ### evt -/

@[simp] theorem Chip.evt_lanes (c : Chip) (n k : Nat) : (c.evt n k).lanes = c.lanes := rfl
@[simp] theorem Chip.evt_zmem (c : Chip) (n k : Nat) : (c.evt n k).zmem = c.zmem := rfl
@[simp] theorem Chip.evt_store (c : Chip) (n k : Nat) : (c.evt n k).store = c.store := rfl
@[simp] theorem Chip.evt_fuses (c : Chip) (n k : Nat) : (c.evt n k).fuses = c.fuses := rfl
@[simp] theorem Chip.evt_ms (c : Chip) (n k : Nat) : (c.evt n k).ms = c.ms := rfl
@[simp] theorem Chip.evt_link (c : Chip) (n k : Nat) : (c.evt n k).link = c.link := rfl
@[simp] theorem Chip.evt_clk (c : Chip) (n k : Nat) : (c.evt n k).clk = c.clk := rfl
@[simp] theorem Chip.evt_time (c : Chip) (n k : Nat) : (c.evt n k).time = c.time := rfl
@[simp] theorem Chip.evt_trackers (c : Chip) (n k : Nat) : (c.evt n k).trackers = c.trackers := rfl
@[simp] theorem Chip.evt_kerfs (c : Chip) (n k : Nat) : (c.evt n k).kerfs = c.kerfs := rfl
@[simp] theorem Chip.evt_adc (c : Chip) (n k : Nat) : (c.evt n k).adc = c.adc := rfl
@[simp] theorem Chip.evt_pwmG (c : Chip) (n k : Nat) : (c.evt n k).pwmG = c.pwmG := rfl
@[simp] theorem Chip.evt_pwmL (c : Chip) (n k : Nat) : (c.evt n k).pwmL = c.pwmL := rfl
@[simp] theorem Chip.evt_gdsG (c : Chip) (n k : Nat) : (c.evt n k).gdsG = c.gdsG := rfl
@[simp] theorem Chip.evt_gdsL (c : Chip) (n k : Nat) : (c.evt n k).gdsL = c.gdsL := rfl
@[simp] theorem Chip.evt_freeCtr (c : Chip) (n k : Nat) : (c.evt n k).freeCtr = c.freeCtr := rfl
@[simp] theorem Chip.evt_window (c : Chip) (n k : Nat) : (c.evt n k).window = c.window := rfl
@[simp] theorem Chip.evt_obs (c : Chip) (n k : Nat) : (c.evt n k).obs = c.obs := rfl
@[simp] theorem Chip.evt_notices (c : Chip) (n k : Nat) : (c.evt n k).notices = c.notices := rfl
@[simp] theorem Chip.evt_repairs (c : Chip) (n k : Nat) : (c.evt n k).repairs = c.repairs := rfl
@[simp] theorem Chip.evt_sto (c : Chip) (n k : Nat) : (c.evt n k).sto = c.sto := rfl
@[simp] theorem Chip.evt_zen (c : Chip) (n k : Nat) : (c.evt n k).zen = c.zen := rfl
@[simp] theorem Chip.evt_axes (c : Chip) (n k : Nat) : (c.evt n k).axes = c.axes := rfl
@[simp] theorem Chip.evt_conv (c : Chip) (n k : Nat) : (c.evt n k).conv = c.conv := rfl
@[simp] theorem Chip.evt_prot (c : Chip) (n k : Nat) : (c.evt n k).prot = c.prot := rfl
@[simp] theorem Chip.evt_fine (c : Chip) (n k : Nat) : (c.evt n k).fine = c.fine := rfl
@[simp] theorem Chip.evt_up (c : Chip) (n k : Nat) : (c.evt n k).up = c.up := rfl
@[simp] theorem Chip.evt_rind (c : Chip) (n k : Nat) : (c.evt n k).rind = c.rind := rfl
@[simp] theorem Chip.evt_therm (c : Chip) (n k : Nat) : (c.evt n k).therm = c.therm := rfl
@[simp] theorem Chip.evt_pu (c : Chip) (n k : Nat) : (c.evt n k).pu = c.pu := rfl
@[simp] theorem Chip.evt_hop (c : Chip) (n k : Nat) : (c.evt n k).hop = c.hop := rfl
@[simp] theorem Chip.evt_safe (c : Chip) (n k : Nat) : (c.evt n k).safe = c.safe := rfl
@[simp] theorem Chip.evt_meter (c : Chip) (n k : Nat) : (c.evt n k).meter = c.meter := rfl
@[simp] theorem Chip.evt_nvm (c : Chip) (n k : Nat) : (c.evt n k).nvm = c.nvm := rfl
@[simp] theorem Chip.evt_bist (c : Chip) (n k : Nat) : (c.evt n k).bist = c.bist := rfl

/-! ### notice -/

@[simp] theorem Chip.notice_regs (c : Chip) (n : Notice) : (c.notice n).regs = c.regs := rfl
@[simp] theorem Chip.notice_lanes (c : Chip) (n : Notice) : (c.notice n).lanes = c.lanes := rfl
@[simp] theorem Chip.notice_zmem (c : Chip) (n : Notice) : (c.notice n).zmem = c.zmem := rfl
@[simp] theorem Chip.notice_store (c : Chip) (n : Notice) : (c.notice n).store = c.store := rfl
@[simp] theorem Chip.notice_fuses (c : Chip) (n : Notice) : (c.notice n).fuses = c.fuses := rfl
@[simp] theorem Chip.notice_ms (c : Chip) (n : Notice) : (c.notice n).ms = c.ms := rfl
@[simp] theorem Chip.notice_link (c : Chip) (n : Notice) : (c.notice n).link = c.link := rfl
@[simp] theorem Chip.notice_clk (c : Chip) (n : Notice) : (c.notice n).clk = c.clk := rfl
@[simp] theorem Chip.notice_time (c : Chip) (n : Notice) : (c.notice n).time = c.time := rfl
@[simp] theorem Chip.notice_trackers (c : Chip) (n : Notice) : (c.notice n).trackers = c.trackers := rfl
@[simp] theorem Chip.notice_kerfs (c : Chip) (n : Notice) : (c.notice n).kerfs = c.kerfs := rfl
@[simp] theorem Chip.notice_adc (c : Chip) (n : Notice) : (c.notice n).adc = c.adc := rfl
@[simp] theorem Chip.notice_pwmG (c : Chip) (n : Notice) : (c.notice n).pwmG = c.pwmG := rfl
@[simp] theorem Chip.notice_pwmL (c : Chip) (n : Notice) : (c.notice n).pwmL = c.pwmL := rfl
@[simp] theorem Chip.notice_gdsG (c : Chip) (n : Notice) : (c.notice n).gdsG = c.gdsG := rfl
@[simp] theorem Chip.notice_gdsL (c : Chip) (n : Notice) : (c.notice n).gdsL = c.gdsL := rfl
@[simp] theorem Chip.notice_freeCtr (c : Chip) (n : Notice) : (c.notice n).freeCtr = c.freeCtr := rfl
@[simp] theorem Chip.notice_window (c : Chip) (n : Notice) : (c.notice n).window = c.window := rfl
@[simp] theorem Chip.notice_obs (c : Chip) (n : Notice) : (c.notice n).obs = c.obs := rfl
@[simp] theorem Chip.notice_notices (c : Chip) (n : Notice) : (c.notice n).notices = c.notices ++ [n] := rfl
@[simp] theorem Chip.notice_repairs (c : Chip) (n : Notice) : (c.notice n).repairs = c.repairs := rfl
@[simp] theorem Chip.notice_sto (c : Chip) (n : Notice) : (c.notice n).sto = c.sto := rfl
@[simp] theorem Chip.notice_zen (c : Chip) (n : Notice) : (c.notice n).zen = c.zen := rfl
@[simp] theorem Chip.notice_axes (c : Chip) (n : Notice) : (c.notice n).axes = c.axes := rfl
@[simp] theorem Chip.notice_conv (c : Chip) (n : Notice) : (c.notice n).conv = c.conv := rfl
@[simp] theorem Chip.notice_prot (c : Chip) (n : Notice) : (c.notice n).prot = c.prot := rfl
@[simp] theorem Chip.notice_fine (c : Chip) (n : Notice) : (c.notice n).fine = c.fine := rfl
@[simp] theorem Chip.notice_up (c : Chip) (n : Notice) : (c.notice n).up = c.up := rfl
@[simp] theorem Chip.notice_rind (c : Chip) (n : Notice) : (c.notice n).rind = c.rind := rfl
@[simp] theorem Chip.notice_therm (c : Chip) (n : Notice) : (c.notice n).therm = c.therm := rfl
@[simp] theorem Chip.notice_pu (c : Chip) (n : Notice) : (c.notice n).pu = c.pu := rfl
@[simp] theorem Chip.notice_hop (c : Chip) (n : Notice) : (c.notice n).hop = c.hop := rfl
@[simp] theorem Chip.notice_safe (c : Chip) (n : Notice) : (c.notice n).safe = c.safe := rfl
@[simp] theorem Chip.notice_meter (c : Chip) (n : Notice) : (c.notice n).meter = c.meter := rfl
@[simp] theorem Chip.notice_nvm (c : Chip) (n : Notice) : (c.notice n).nvm = c.nvm := rfl
@[simp] theorem Chip.notice_bist (c : Chip) (n : Notice) : (c.notice n).bist = c.bist := rfl

/-! ### Words after an update of another part -/

@[simp] theorem notice_rd (c : Chip) (n : Notice) (k : Nat) : (c.notice n).rd k = c.rd k := rfl
@[simp] theorem notice_get (c : Chip) (n : Notice) (g : Fld) : (c.notice n).get g = c.get g := rfl
@[simp] theorem notice_is (c : Chip) (n : Notice) (g : Fld) : (c.notice n).is g = c.is g := rfl
@[simp] theorem notice_geti (c : Chip) (n : Notice) (g : Fld) : (c.notice n).geti g = c.geti g := rfl
@[simp] theorem notice_mode (c : Chip) (n : Notice) : (c.notice n).mode = c.mode := rfl
@[simp] theorem notice_now (c : Chip) (n : Notice) : (c.notice n).now = c.now := rfl
@[simp] theorem notice_fnow (c : Chip) (n : Notice) : (c.notice n).fnow = c.fnow := rfl
@[simp] theorem modLink_rd (c : Chip) (f : Link → Link) (k : Nat) : (modLink f c).rd k = c.rd k := rfl
@[simp] theorem modLink_get (c : Chip) (f : Link → Link) (g : Fld) : (modLink f c).get g = c.get g := rfl
@[simp] theorem modLink_is (c : Chip) (f : Link → Link) (g : Fld) : (modLink f c).is g = c.is g := rfl
@[simp] theorem modLink_geti (c : Chip) (f : Link → Link) (g : Fld) : (modLink f c).geti g = c.geti g := rfl
@[simp] theorem modLink_mode (c : Chip) (f : Link → Link) : (modLink f c).mode = c.mode := rfl
@[simp] theorem modLink_now (c : Chip) (f : Link → Link) : (modLink f c).now = c.now := rfl
@[simp] theorem modLink_fnow (c : Chip) (f : Link → Link) : (modLink f c).fnow = c.fnow := rfl
@[simp] theorem modLink_regs (c : Chip) (f : Link → Link) : (modLink f c).regs = c.regs := rfl
@[simp] theorem modLink_lanes (c : Chip) (f : Link → Link) : (modLink f c).lanes = c.lanes := rfl
@[simp] theorem modLink_zmem (c : Chip) (f : Link → Link) : (modLink f c).zmem = c.zmem := rfl
@[simp] theorem modLink_store (c : Chip) (f : Link → Link) : (modLink f c).store = c.store := rfl
@[simp] theorem modLink_fuses (c : Chip) (f : Link → Link) : (modLink f c).fuses = c.fuses := rfl
@[simp] theorem modLink_ms (c : Chip) (f : Link → Link) : (modLink f c).ms = c.ms := rfl
@[simp] theorem modLink_clk (c : Chip) (f : Link → Link) : (modLink f c).clk = c.clk := rfl
@[simp] theorem modLink_time (c : Chip) (f : Link → Link) : (modLink f c).time = c.time := rfl
@[simp] theorem modLink_trackers (c : Chip) (f : Link → Link) : (modLink f c).trackers = c.trackers := rfl
@[simp] theorem modLink_kerfs (c : Chip) (f : Link → Link) : (modLink f c).kerfs = c.kerfs := rfl
@[simp] theorem modLink_adc (c : Chip) (f : Link → Link) : (modLink f c).adc = c.adc := rfl
@[simp] theorem modLink_pwmG (c : Chip) (f : Link → Link) : (modLink f c).pwmG = c.pwmG := rfl
@[simp] theorem modLink_pwmL (c : Chip) (f : Link → Link) : (modLink f c).pwmL = c.pwmL := rfl
@[simp] theorem modLink_gdsG (c : Chip) (f : Link → Link) : (modLink f c).gdsG = c.gdsG := rfl
@[simp] theorem modLink_gdsL (c : Chip) (f : Link → Link) : (modLink f c).gdsL = c.gdsL := rfl
@[simp] theorem modLink_freeCtr (c : Chip) (f : Link → Link) : (modLink f c).freeCtr = c.freeCtr := rfl
@[simp] theorem modLink_window (c : Chip) (f : Link → Link) : (modLink f c).window = c.window := rfl
@[simp] theorem modLink_obs (c : Chip) (f : Link → Link) : (modLink f c).obs = c.obs := rfl
@[simp] theorem modLink_notices (c : Chip) (f : Link → Link) : (modLink f c).notices = c.notices := rfl
@[simp] theorem modLink_repairs (c : Chip) (f : Link → Link) : (modLink f c).repairs = c.repairs := rfl
@[simp] theorem modLink_sto (c : Chip) (f : Link → Link) : (modLink f c).sto = c.sto := rfl
@[simp] theorem modLink_zen (c : Chip) (f : Link → Link) : (modLink f c).zen = c.zen := rfl
@[simp] theorem modLink_axes (c : Chip) (f : Link → Link) : (modLink f c).axes = c.axes := rfl
@[simp] theorem modLink_conv (c : Chip) (f : Link → Link) : (modLink f c).conv = c.conv := rfl
@[simp] theorem modLink_prot (c : Chip) (f : Link → Link) : (modLink f c).prot = c.prot := rfl
@[simp] theorem modLink_fine (c : Chip) (f : Link → Link) : (modLink f c).fine = c.fine := rfl
@[simp] theorem modLink_up (c : Chip) (f : Link → Link) : (modLink f c).up = c.up := rfl
@[simp] theorem modLink_rind (c : Chip) (f : Link → Link) : (modLink f c).rind = c.rind := rfl
@[simp] theorem modLink_therm (c : Chip) (f : Link → Link) : (modLink f c).therm = c.therm := rfl
@[simp] theorem modLink_pu (c : Chip) (f : Link → Link) : (modLink f c).pu = c.pu := rfl
@[simp] theorem modLink_hop (c : Chip) (f : Link → Link) : (modLink f c).hop = c.hop := rfl
@[simp] theorem modLink_safe (c : Chip) (f : Link → Link) : (modLink f c).safe = c.safe := rfl
@[simp] theorem modLink_meter (c : Chip) (f : Link → Link) : (modLink f c).meter = c.meter := rfl
@[simp] theorem modLink_nvm (c : Chip) (f : Link → Link) : (modLink f c).nvm = c.nvm := rfl
@[simp] theorem modLink_bist (c : Chip) (f : Link → Link) : (modLink f c).bist = c.bist := rfl
@[simp] theorem modMs_rd (c : Chip) (f : ModeState → ModeState) (k : Nat) : (modMs f c).rd k = c.rd k := rfl
@[simp] theorem modMs_get (c : Chip) (f : ModeState → ModeState) (g : Fld) : (modMs f c).get g = c.get g := rfl
@[simp] theorem modMs_is (c : Chip) (f : ModeState → ModeState) (g : Fld) : (modMs f c).is g = c.is g := rfl
@[simp] theorem modMs_geti (c : Chip) (f : ModeState → ModeState) (g : Fld) : (modMs f c).geti g = c.geti g := rfl
@[simp] theorem modMs_mode (c : Chip) (f : ModeState → ModeState) : (modMs f c).mode = c.mode := rfl
@[simp] theorem modMs_now (c : Chip) (f : ModeState → ModeState) : (modMs f c).now = c.now := rfl
@[simp] theorem modMs_fnow (c : Chip) (f : ModeState → ModeState) : (modMs f c).fnow = c.fnow := rfl
@[simp] theorem modMs_regs (c : Chip) (f : ModeState → ModeState) : (modMs f c).regs = c.regs := rfl
@[simp] theorem modMs_lanes (c : Chip) (f : ModeState → ModeState) : (modMs f c).lanes = c.lanes := rfl
@[simp] theorem modMs_zmem (c : Chip) (f : ModeState → ModeState) : (modMs f c).zmem = c.zmem := rfl
@[simp] theorem modMs_store (c : Chip) (f : ModeState → ModeState) : (modMs f c).store = c.store := rfl
@[simp] theorem modMs_fuses (c : Chip) (f : ModeState → ModeState) : (modMs f c).fuses = c.fuses := rfl
@[simp] theorem modMs_link (c : Chip) (f : ModeState → ModeState) : (modMs f c).link = c.link := rfl
@[simp] theorem modMs_clk (c : Chip) (f : ModeState → ModeState) : (modMs f c).clk = c.clk := rfl
@[simp] theorem modMs_time (c : Chip) (f : ModeState → ModeState) : (modMs f c).time = c.time := rfl
@[simp] theorem modMs_trackers (c : Chip) (f : ModeState → ModeState) : (modMs f c).trackers = c.trackers := rfl
@[simp] theorem modMs_kerfs (c : Chip) (f : ModeState → ModeState) : (modMs f c).kerfs = c.kerfs := rfl
@[simp] theorem modMs_adc (c : Chip) (f : ModeState → ModeState) : (modMs f c).adc = c.adc := rfl
@[simp] theorem modMs_pwmG (c : Chip) (f : ModeState → ModeState) : (modMs f c).pwmG = c.pwmG := rfl
@[simp] theorem modMs_pwmL (c : Chip) (f : ModeState → ModeState) : (modMs f c).pwmL = c.pwmL := rfl
@[simp] theorem modMs_gdsG (c : Chip) (f : ModeState → ModeState) : (modMs f c).gdsG = c.gdsG := rfl
@[simp] theorem modMs_gdsL (c : Chip) (f : ModeState → ModeState) : (modMs f c).gdsL = c.gdsL := rfl
@[simp] theorem modMs_freeCtr (c : Chip) (f : ModeState → ModeState) : (modMs f c).freeCtr = c.freeCtr := rfl
@[simp] theorem modMs_window (c : Chip) (f : ModeState → ModeState) : (modMs f c).window = c.window := rfl
@[simp] theorem modMs_obs (c : Chip) (f : ModeState → ModeState) : (modMs f c).obs = c.obs := rfl
@[simp] theorem modMs_notices (c : Chip) (f : ModeState → ModeState) : (modMs f c).notices = c.notices := rfl
@[simp] theorem modMs_repairs (c : Chip) (f : ModeState → ModeState) : (modMs f c).repairs = c.repairs := rfl
@[simp] theorem modMs_sto (c : Chip) (f : ModeState → ModeState) : (modMs f c).sto = c.sto := rfl
@[simp] theorem modMs_zen (c : Chip) (f : ModeState → ModeState) : (modMs f c).zen = c.zen := rfl
@[simp] theorem modMs_axes (c : Chip) (f : ModeState → ModeState) : (modMs f c).axes = c.axes := rfl
@[simp] theorem modMs_conv (c : Chip) (f : ModeState → ModeState) : (modMs f c).conv = c.conv := rfl
@[simp] theorem modMs_prot (c : Chip) (f : ModeState → ModeState) : (modMs f c).prot = c.prot := rfl
@[simp] theorem modMs_fine (c : Chip) (f : ModeState → ModeState) : (modMs f c).fine = c.fine := rfl
@[simp] theorem modMs_up (c : Chip) (f : ModeState → ModeState) : (modMs f c).up = c.up := rfl
@[simp] theorem modMs_rind (c : Chip) (f : ModeState → ModeState) : (modMs f c).rind = c.rind := rfl
@[simp] theorem modMs_therm (c : Chip) (f : ModeState → ModeState) : (modMs f c).therm = c.therm := rfl
@[simp] theorem modMs_pu (c : Chip) (f : ModeState → ModeState) : (modMs f c).pu = c.pu := rfl
@[simp] theorem modMs_hop (c : Chip) (f : ModeState → ModeState) : (modMs f c).hop = c.hop := rfl
@[simp] theorem modMs_safe (c : Chip) (f : ModeState → ModeState) : (modMs f c).safe = c.safe := rfl
@[simp] theorem modMs_meter (c : Chip) (f : ModeState → ModeState) : (modMs f c).meter = c.meter := rfl
@[simp] theorem modMs_nvm (c : Chip) (f : ModeState → ModeState) : (modMs f c).nvm = c.nvm := rfl
@[simp] theorem modMs_bist (c : Chip) (f : ModeState → ModeState) : (modMs f c).bist = c.bist := rfl
@[simp] theorem modClk_rd (c : Chip) (f : Clk → Clk) (k : Nat) : (modClk f c).rd k = c.rd k := rfl
@[simp] theorem modClk_get (c : Chip) (f : Clk → Clk) (g : Fld) : (modClk f c).get g = c.get g := rfl
@[simp] theorem modClk_is (c : Chip) (f : Clk → Clk) (g : Fld) : (modClk f c).is g = c.is g := rfl
@[simp] theorem modClk_geti (c : Chip) (f : Clk → Clk) (g : Fld) : (modClk f c).geti g = c.geti g := rfl
@[simp] theorem modClk_mode (c : Chip) (f : Clk → Clk) : (modClk f c).mode = c.mode := rfl
@[simp] theorem modClk_now (c : Chip) (f : Clk → Clk) : (modClk f c).now = c.now := rfl
@[simp] theorem modClk_fnow (c : Chip) (f : Clk → Clk) : (modClk f c).fnow = c.fnow := rfl
@[simp] theorem modClk_regs (c : Chip) (f : Clk → Clk) : (modClk f c).regs = c.regs := rfl
@[simp] theorem modClk_lanes (c : Chip) (f : Clk → Clk) : (modClk f c).lanes = c.lanes := rfl
@[simp] theorem modClk_zmem (c : Chip) (f : Clk → Clk) : (modClk f c).zmem = c.zmem := rfl
@[simp] theorem modClk_store (c : Chip) (f : Clk → Clk) : (modClk f c).store = c.store := rfl
@[simp] theorem modClk_fuses (c : Chip) (f : Clk → Clk) : (modClk f c).fuses = c.fuses := rfl
@[simp] theorem modClk_ms (c : Chip) (f : Clk → Clk) : (modClk f c).ms = c.ms := rfl
@[simp] theorem modClk_link (c : Chip) (f : Clk → Clk) : (modClk f c).link = c.link := rfl
@[simp] theorem modClk_time (c : Chip) (f : Clk → Clk) : (modClk f c).time = c.time := rfl
@[simp] theorem modClk_trackers (c : Chip) (f : Clk → Clk) : (modClk f c).trackers = c.trackers := rfl
@[simp] theorem modClk_kerfs (c : Chip) (f : Clk → Clk) : (modClk f c).kerfs = c.kerfs := rfl
@[simp] theorem modClk_adc (c : Chip) (f : Clk → Clk) : (modClk f c).adc = c.adc := rfl
@[simp] theorem modClk_pwmG (c : Chip) (f : Clk → Clk) : (modClk f c).pwmG = c.pwmG := rfl
@[simp] theorem modClk_pwmL (c : Chip) (f : Clk → Clk) : (modClk f c).pwmL = c.pwmL := rfl
@[simp] theorem modClk_gdsG (c : Chip) (f : Clk → Clk) : (modClk f c).gdsG = c.gdsG := rfl
@[simp] theorem modClk_gdsL (c : Chip) (f : Clk → Clk) : (modClk f c).gdsL = c.gdsL := rfl
@[simp] theorem modClk_freeCtr (c : Chip) (f : Clk → Clk) : (modClk f c).freeCtr = c.freeCtr := rfl
@[simp] theorem modClk_window (c : Chip) (f : Clk → Clk) : (modClk f c).window = c.window := rfl
@[simp] theorem modClk_obs (c : Chip) (f : Clk → Clk) : (modClk f c).obs = c.obs := rfl
@[simp] theorem modClk_notices (c : Chip) (f : Clk → Clk) : (modClk f c).notices = c.notices := rfl
@[simp] theorem modClk_repairs (c : Chip) (f : Clk → Clk) : (modClk f c).repairs = c.repairs := rfl
@[simp] theorem modClk_sto (c : Chip) (f : Clk → Clk) : (modClk f c).sto = c.sto := rfl
@[simp] theorem modClk_zen (c : Chip) (f : Clk → Clk) : (modClk f c).zen = c.zen := rfl
@[simp] theorem modClk_axes (c : Chip) (f : Clk → Clk) : (modClk f c).axes = c.axes := rfl
@[simp] theorem modClk_conv (c : Chip) (f : Clk → Clk) : (modClk f c).conv = c.conv := rfl
@[simp] theorem modClk_prot (c : Chip) (f : Clk → Clk) : (modClk f c).prot = c.prot := rfl
@[simp] theorem modClk_fine (c : Chip) (f : Clk → Clk) : (modClk f c).fine = c.fine := rfl
@[simp] theorem modClk_up (c : Chip) (f : Clk → Clk) : (modClk f c).up = c.up := rfl
@[simp] theorem modClk_rind (c : Chip) (f : Clk → Clk) : (modClk f c).rind = c.rind := rfl
@[simp] theorem modClk_therm (c : Chip) (f : Clk → Clk) : (modClk f c).therm = c.therm := rfl
@[simp] theorem modClk_pu (c : Chip) (f : Clk → Clk) : (modClk f c).pu = c.pu := rfl
@[simp] theorem modClk_hop (c : Chip) (f : Clk → Clk) : (modClk f c).hop = c.hop := rfl
@[simp] theorem modClk_safe (c : Chip) (f : Clk → Clk) : (modClk f c).safe = c.safe := rfl
@[simp] theorem modClk_meter (c : Chip) (f : Clk → Clk) : (modClk f c).meter = c.meter := rfl
@[simp] theorem modClk_nvm (c : Chip) (f : Clk → Clk) : (modClk f c).nvm = c.nvm := rfl
@[simp] theorem modClk_bist (c : Chip) (f : Clk → Clk) : (modClk f c).bist = c.bist := rfl
@[simp] theorem modNvm_rd (c : Chip) (f : Nvm → Nvm) (k : Nat) : (modNvm f c).rd k = c.rd k := rfl
@[simp] theorem modNvm_get (c : Chip) (f : Nvm → Nvm) (g : Fld) : (modNvm f c).get g = c.get g := rfl
@[simp] theorem modNvm_is (c : Chip) (f : Nvm → Nvm) (g : Fld) : (modNvm f c).is g = c.is g := rfl
@[simp] theorem modNvm_geti (c : Chip) (f : Nvm → Nvm) (g : Fld) : (modNvm f c).geti g = c.geti g := rfl
@[simp] theorem modNvm_mode (c : Chip) (f : Nvm → Nvm) : (modNvm f c).mode = c.mode := rfl
@[simp] theorem modNvm_now (c : Chip) (f : Nvm → Nvm) : (modNvm f c).now = c.now := rfl
@[simp] theorem modNvm_fnow (c : Chip) (f : Nvm → Nvm) : (modNvm f c).fnow = c.fnow := rfl
@[simp] theorem modNvm_regs (c : Chip) (f : Nvm → Nvm) : (modNvm f c).regs = c.regs := rfl
@[simp] theorem modNvm_lanes (c : Chip) (f : Nvm → Nvm) : (modNvm f c).lanes = c.lanes := rfl
@[simp] theorem modNvm_zmem (c : Chip) (f : Nvm → Nvm) : (modNvm f c).zmem = c.zmem := rfl
@[simp] theorem modNvm_store (c : Chip) (f : Nvm → Nvm) : (modNvm f c).store = c.store := rfl
@[simp] theorem modNvm_fuses (c : Chip) (f : Nvm → Nvm) : (modNvm f c).fuses = c.fuses := rfl
@[simp] theorem modNvm_ms (c : Chip) (f : Nvm → Nvm) : (modNvm f c).ms = c.ms := rfl
@[simp] theorem modNvm_link (c : Chip) (f : Nvm → Nvm) : (modNvm f c).link = c.link := rfl
@[simp] theorem modNvm_clk (c : Chip) (f : Nvm → Nvm) : (modNvm f c).clk = c.clk := rfl
@[simp] theorem modNvm_time (c : Chip) (f : Nvm → Nvm) : (modNvm f c).time = c.time := rfl
@[simp] theorem modNvm_trackers (c : Chip) (f : Nvm → Nvm) : (modNvm f c).trackers = c.trackers := rfl
@[simp] theorem modNvm_kerfs (c : Chip) (f : Nvm → Nvm) : (modNvm f c).kerfs = c.kerfs := rfl
@[simp] theorem modNvm_adc (c : Chip) (f : Nvm → Nvm) : (modNvm f c).adc = c.adc := rfl
@[simp] theorem modNvm_pwmG (c : Chip) (f : Nvm → Nvm) : (modNvm f c).pwmG = c.pwmG := rfl
@[simp] theorem modNvm_pwmL (c : Chip) (f : Nvm → Nvm) : (modNvm f c).pwmL = c.pwmL := rfl
@[simp] theorem modNvm_gdsG (c : Chip) (f : Nvm → Nvm) : (modNvm f c).gdsG = c.gdsG := rfl
@[simp] theorem modNvm_gdsL (c : Chip) (f : Nvm → Nvm) : (modNvm f c).gdsL = c.gdsL := rfl
@[simp] theorem modNvm_freeCtr (c : Chip) (f : Nvm → Nvm) : (modNvm f c).freeCtr = c.freeCtr := rfl
@[simp] theorem modNvm_window (c : Chip) (f : Nvm → Nvm) : (modNvm f c).window = c.window := rfl
@[simp] theorem modNvm_obs (c : Chip) (f : Nvm → Nvm) : (modNvm f c).obs = c.obs := rfl
@[simp] theorem modNvm_notices (c : Chip) (f : Nvm → Nvm) : (modNvm f c).notices = c.notices := rfl
@[simp] theorem modNvm_repairs (c : Chip) (f : Nvm → Nvm) : (modNvm f c).repairs = c.repairs := rfl
@[simp] theorem modNvm_sto (c : Chip) (f : Nvm → Nvm) : (modNvm f c).sto = c.sto := rfl
@[simp] theorem modNvm_zen (c : Chip) (f : Nvm → Nvm) : (modNvm f c).zen = c.zen := rfl
@[simp] theorem modNvm_axes (c : Chip) (f : Nvm → Nvm) : (modNvm f c).axes = c.axes := rfl
@[simp] theorem modNvm_conv (c : Chip) (f : Nvm → Nvm) : (modNvm f c).conv = c.conv := rfl
@[simp] theorem modNvm_prot (c : Chip) (f : Nvm → Nvm) : (modNvm f c).prot = c.prot := rfl
@[simp] theorem modNvm_fine (c : Chip) (f : Nvm → Nvm) : (modNvm f c).fine = c.fine := rfl
@[simp] theorem modNvm_up (c : Chip) (f : Nvm → Nvm) : (modNvm f c).up = c.up := rfl
@[simp] theorem modNvm_rind (c : Chip) (f : Nvm → Nvm) : (modNvm f c).rind = c.rind := rfl
@[simp] theorem modNvm_therm (c : Chip) (f : Nvm → Nvm) : (modNvm f c).therm = c.therm := rfl
@[simp] theorem modNvm_pu (c : Chip) (f : Nvm → Nvm) : (modNvm f c).pu = c.pu := rfl
@[simp] theorem modNvm_hop (c : Chip) (f : Nvm → Nvm) : (modNvm f c).hop = c.hop := rfl
@[simp] theorem modNvm_safe (c : Chip) (f : Nvm → Nvm) : (modNvm f c).safe = c.safe := rfl
@[simp] theorem modNvm_meter (c : Chip) (f : Nvm → Nvm) : (modNvm f c).meter = c.meter := rfl
@[simp] theorem modNvm_bist (c : Chip) (f : Nvm → Nvm) : (modNvm f c).bist = c.bist := rfl
@[simp] theorem modSafe_rd (c : Chip) (f : Safe → Safe) (k : Nat) : (modSafe f c).rd k = c.rd k := rfl
@[simp] theorem modSafe_get (c : Chip) (f : Safe → Safe) (g : Fld) : (modSafe f c).get g = c.get g := rfl
@[simp] theorem modSafe_is (c : Chip) (f : Safe → Safe) (g : Fld) : (modSafe f c).is g = c.is g := rfl
@[simp] theorem modSafe_geti (c : Chip) (f : Safe → Safe) (g : Fld) : (modSafe f c).geti g = c.geti g := rfl
@[simp] theorem modSafe_mode (c : Chip) (f : Safe → Safe) : (modSafe f c).mode = c.mode := rfl
@[simp] theorem modSafe_now (c : Chip) (f : Safe → Safe) : (modSafe f c).now = c.now := rfl
@[simp] theorem modSafe_fnow (c : Chip) (f : Safe → Safe) : (modSafe f c).fnow = c.fnow := rfl
@[simp] theorem modSafe_regs (c : Chip) (f : Safe → Safe) : (modSafe f c).regs = c.regs := rfl
@[simp] theorem modSafe_lanes (c : Chip) (f : Safe → Safe) : (modSafe f c).lanes = c.lanes := rfl
@[simp] theorem modSafe_zmem (c : Chip) (f : Safe → Safe) : (modSafe f c).zmem = c.zmem := rfl
@[simp] theorem modSafe_store (c : Chip) (f : Safe → Safe) : (modSafe f c).store = c.store := rfl
@[simp] theorem modSafe_fuses (c : Chip) (f : Safe → Safe) : (modSafe f c).fuses = c.fuses := rfl
@[simp] theorem modSafe_ms (c : Chip) (f : Safe → Safe) : (modSafe f c).ms = c.ms := rfl
@[simp] theorem modSafe_link (c : Chip) (f : Safe → Safe) : (modSafe f c).link = c.link := rfl
@[simp] theorem modSafe_clk (c : Chip) (f : Safe → Safe) : (modSafe f c).clk = c.clk := rfl
@[simp] theorem modSafe_time (c : Chip) (f : Safe → Safe) : (modSafe f c).time = c.time := rfl
@[simp] theorem modSafe_trackers (c : Chip) (f : Safe → Safe) : (modSafe f c).trackers = c.trackers := rfl
@[simp] theorem modSafe_kerfs (c : Chip) (f : Safe → Safe) : (modSafe f c).kerfs = c.kerfs := rfl
@[simp] theorem modSafe_adc (c : Chip) (f : Safe → Safe) : (modSafe f c).adc = c.adc := rfl
@[simp] theorem modSafe_pwmG (c : Chip) (f : Safe → Safe) : (modSafe f c).pwmG = c.pwmG := rfl
@[simp] theorem modSafe_pwmL (c : Chip) (f : Safe → Safe) : (modSafe f c).pwmL = c.pwmL := rfl
@[simp] theorem modSafe_gdsG (c : Chip) (f : Safe → Safe) : (modSafe f c).gdsG = c.gdsG := rfl
@[simp] theorem modSafe_gdsL (c : Chip) (f : Safe → Safe) : (modSafe f c).gdsL = c.gdsL := rfl
@[simp] theorem modSafe_freeCtr (c : Chip) (f : Safe → Safe) : (modSafe f c).freeCtr = c.freeCtr := rfl
@[simp] theorem modSafe_window (c : Chip) (f : Safe → Safe) : (modSafe f c).window = c.window := rfl
@[simp] theorem modSafe_obs (c : Chip) (f : Safe → Safe) : (modSafe f c).obs = c.obs := rfl
@[simp] theorem modSafe_notices (c : Chip) (f : Safe → Safe) : (modSafe f c).notices = c.notices := rfl
@[simp] theorem modSafe_repairs (c : Chip) (f : Safe → Safe) : (modSafe f c).repairs = c.repairs := rfl
@[simp] theorem modSafe_sto (c : Chip) (f : Safe → Safe) : (modSafe f c).sto = c.sto := rfl
@[simp] theorem modSafe_zen (c : Chip) (f : Safe → Safe) : (modSafe f c).zen = c.zen := rfl
@[simp] theorem modSafe_axes (c : Chip) (f : Safe → Safe) : (modSafe f c).axes = c.axes := rfl
@[simp] theorem modSafe_conv (c : Chip) (f : Safe → Safe) : (modSafe f c).conv = c.conv := rfl
@[simp] theorem modSafe_prot (c : Chip) (f : Safe → Safe) : (modSafe f c).prot = c.prot := rfl
@[simp] theorem modSafe_fine (c : Chip) (f : Safe → Safe) : (modSafe f c).fine = c.fine := rfl
@[simp] theorem modSafe_up (c : Chip) (f : Safe → Safe) : (modSafe f c).up = c.up := rfl
@[simp] theorem modSafe_rind (c : Chip) (f : Safe → Safe) : (modSafe f c).rind = c.rind := rfl
@[simp] theorem modSafe_therm (c : Chip) (f : Safe → Safe) : (modSafe f c).therm = c.therm := rfl
@[simp] theorem modSafe_pu (c : Chip) (f : Safe → Safe) : (modSafe f c).pu = c.pu := rfl
@[simp] theorem modSafe_hop (c : Chip) (f : Safe → Safe) : (modSafe f c).hop = c.hop := rfl
@[simp] theorem modSafe_meter (c : Chip) (f : Safe → Safe) : (modSafe f c).meter = c.meter := rfl
@[simp] theorem modSafe_nvm (c : Chip) (f : Safe → Safe) : (modSafe f c).nvm = c.nvm := rfl
@[simp] theorem modSafe_bist (c : Chip) (f : Safe → Safe) : (modSafe f c).bist = c.bist := rfl
@[simp] theorem modMeter_rd (c : Chip) (f : Meter → Meter) (k : Nat) : (modMeter f c).rd k = c.rd k := rfl
@[simp] theorem modMeter_get (c : Chip) (f : Meter → Meter) (g : Fld) : (modMeter f c).get g = c.get g := rfl
@[simp] theorem modMeter_is (c : Chip) (f : Meter → Meter) (g : Fld) : (modMeter f c).is g = c.is g := rfl
@[simp] theorem modMeter_geti (c : Chip) (f : Meter → Meter) (g : Fld) : (modMeter f c).geti g = c.geti g := rfl
@[simp] theorem modMeter_mode (c : Chip) (f : Meter → Meter) : (modMeter f c).mode = c.mode := rfl
@[simp] theorem modMeter_now (c : Chip) (f : Meter → Meter) : (modMeter f c).now = c.now := rfl
@[simp] theorem modMeter_fnow (c : Chip) (f : Meter → Meter) : (modMeter f c).fnow = c.fnow := rfl
@[simp] theorem modMeter_regs (c : Chip) (f : Meter → Meter) : (modMeter f c).regs = c.regs := rfl
@[simp] theorem modMeter_lanes (c : Chip) (f : Meter → Meter) : (modMeter f c).lanes = c.lanes := rfl
@[simp] theorem modMeter_zmem (c : Chip) (f : Meter → Meter) : (modMeter f c).zmem = c.zmem := rfl
@[simp] theorem modMeter_store (c : Chip) (f : Meter → Meter) : (modMeter f c).store = c.store := rfl
@[simp] theorem modMeter_fuses (c : Chip) (f : Meter → Meter) : (modMeter f c).fuses = c.fuses := rfl
@[simp] theorem modMeter_ms (c : Chip) (f : Meter → Meter) : (modMeter f c).ms = c.ms := rfl
@[simp] theorem modMeter_link (c : Chip) (f : Meter → Meter) : (modMeter f c).link = c.link := rfl
@[simp] theorem modMeter_clk (c : Chip) (f : Meter → Meter) : (modMeter f c).clk = c.clk := rfl
@[simp] theorem modMeter_time (c : Chip) (f : Meter → Meter) : (modMeter f c).time = c.time := rfl
@[simp] theorem modMeter_trackers (c : Chip) (f : Meter → Meter) : (modMeter f c).trackers = c.trackers := rfl
@[simp] theorem modMeter_kerfs (c : Chip) (f : Meter → Meter) : (modMeter f c).kerfs = c.kerfs := rfl
@[simp] theorem modMeter_adc (c : Chip) (f : Meter → Meter) : (modMeter f c).adc = c.adc := rfl
@[simp] theorem modMeter_pwmG (c : Chip) (f : Meter → Meter) : (modMeter f c).pwmG = c.pwmG := rfl
@[simp] theorem modMeter_pwmL (c : Chip) (f : Meter → Meter) : (modMeter f c).pwmL = c.pwmL := rfl
@[simp] theorem modMeter_gdsG (c : Chip) (f : Meter → Meter) : (modMeter f c).gdsG = c.gdsG := rfl
@[simp] theorem modMeter_gdsL (c : Chip) (f : Meter → Meter) : (modMeter f c).gdsL = c.gdsL := rfl
@[simp] theorem modMeter_freeCtr (c : Chip) (f : Meter → Meter) : (modMeter f c).freeCtr = c.freeCtr := rfl
@[simp] theorem modMeter_window (c : Chip) (f : Meter → Meter) : (modMeter f c).window = c.window := rfl
@[simp] theorem modMeter_obs (c : Chip) (f : Meter → Meter) : (modMeter f c).obs = c.obs := rfl
@[simp] theorem modMeter_notices (c : Chip) (f : Meter → Meter) : (modMeter f c).notices = c.notices := rfl
@[simp] theorem modMeter_repairs (c : Chip) (f : Meter → Meter) : (modMeter f c).repairs = c.repairs := rfl
@[simp] theorem modMeter_sto (c : Chip) (f : Meter → Meter) : (modMeter f c).sto = c.sto := rfl
@[simp] theorem modMeter_zen (c : Chip) (f : Meter → Meter) : (modMeter f c).zen = c.zen := rfl
@[simp] theorem modMeter_axes (c : Chip) (f : Meter → Meter) : (modMeter f c).axes = c.axes := rfl
@[simp] theorem modMeter_conv (c : Chip) (f : Meter → Meter) : (modMeter f c).conv = c.conv := rfl
@[simp] theorem modMeter_prot (c : Chip) (f : Meter → Meter) : (modMeter f c).prot = c.prot := rfl
@[simp] theorem modMeter_fine (c : Chip) (f : Meter → Meter) : (modMeter f c).fine = c.fine := rfl
@[simp] theorem modMeter_up (c : Chip) (f : Meter → Meter) : (modMeter f c).up = c.up := rfl
@[simp] theorem modMeter_rind (c : Chip) (f : Meter → Meter) : (modMeter f c).rind = c.rind := rfl
@[simp] theorem modMeter_therm (c : Chip) (f : Meter → Meter) : (modMeter f c).therm = c.therm := rfl
@[simp] theorem modMeter_pu (c : Chip) (f : Meter → Meter) : (modMeter f c).pu = c.pu := rfl
@[simp] theorem modMeter_hop (c : Chip) (f : Meter → Meter) : (modMeter f c).hop = c.hop := rfl
@[simp] theorem modMeter_safe (c : Chip) (f : Meter → Meter) : (modMeter f c).safe = c.safe := rfl
@[simp] theorem modMeter_nvm (c : Chip) (f : Meter → Meter) : (modMeter f c).nvm = c.nvm := rfl
@[simp] theorem modMeter_bist (c : Chip) (f : Meter → Meter) : (modMeter f c).bist = c.bist := rfl
@[simp] theorem modBist_rd (c : Chip) (f : Bist → Bist) (k : Nat) : (modBist f c).rd k = c.rd k := rfl
@[simp] theorem modBist_get (c : Chip) (f : Bist → Bist) (g : Fld) : (modBist f c).get g = c.get g := rfl
@[simp] theorem modBist_is (c : Chip) (f : Bist → Bist) (g : Fld) : (modBist f c).is g = c.is g := rfl
@[simp] theorem modBist_geti (c : Chip) (f : Bist → Bist) (g : Fld) : (modBist f c).geti g = c.geti g := rfl
@[simp] theorem modBist_mode (c : Chip) (f : Bist → Bist) : (modBist f c).mode = c.mode := rfl
@[simp] theorem modBist_now (c : Chip) (f : Bist → Bist) : (modBist f c).now = c.now := rfl
@[simp] theorem modBist_fnow (c : Chip) (f : Bist → Bist) : (modBist f c).fnow = c.fnow := rfl
@[simp] theorem modBist_regs (c : Chip) (f : Bist → Bist) : (modBist f c).regs = c.regs := rfl
@[simp] theorem modBist_lanes (c : Chip) (f : Bist → Bist) : (modBist f c).lanes = c.lanes := rfl
@[simp] theorem modBist_zmem (c : Chip) (f : Bist → Bist) : (modBist f c).zmem = c.zmem := rfl
@[simp] theorem modBist_store (c : Chip) (f : Bist → Bist) : (modBist f c).store = c.store := rfl
@[simp] theorem modBist_fuses (c : Chip) (f : Bist → Bist) : (modBist f c).fuses = c.fuses := rfl
@[simp] theorem modBist_ms (c : Chip) (f : Bist → Bist) : (modBist f c).ms = c.ms := rfl
@[simp] theorem modBist_link (c : Chip) (f : Bist → Bist) : (modBist f c).link = c.link := rfl
@[simp] theorem modBist_clk (c : Chip) (f : Bist → Bist) : (modBist f c).clk = c.clk := rfl
@[simp] theorem modBist_time (c : Chip) (f : Bist → Bist) : (modBist f c).time = c.time := rfl
@[simp] theorem modBist_trackers (c : Chip) (f : Bist → Bist) : (modBist f c).trackers = c.trackers := rfl
@[simp] theorem modBist_kerfs (c : Chip) (f : Bist → Bist) : (modBist f c).kerfs = c.kerfs := rfl
@[simp] theorem modBist_adc (c : Chip) (f : Bist → Bist) : (modBist f c).adc = c.adc := rfl
@[simp] theorem modBist_pwmG (c : Chip) (f : Bist → Bist) : (modBist f c).pwmG = c.pwmG := rfl
@[simp] theorem modBist_pwmL (c : Chip) (f : Bist → Bist) : (modBist f c).pwmL = c.pwmL := rfl
@[simp] theorem modBist_gdsG (c : Chip) (f : Bist → Bist) : (modBist f c).gdsG = c.gdsG := rfl
@[simp] theorem modBist_gdsL (c : Chip) (f : Bist → Bist) : (modBist f c).gdsL = c.gdsL := rfl
@[simp] theorem modBist_freeCtr (c : Chip) (f : Bist → Bist) : (modBist f c).freeCtr = c.freeCtr := rfl
@[simp] theorem modBist_window (c : Chip) (f : Bist → Bist) : (modBist f c).window = c.window := rfl
@[simp] theorem modBist_obs (c : Chip) (f : Bist → Bist) : (modBist f c).obs = c.obs := rfl
@[simp] theorem modBist_notices (c : Chip) (f : Bist → Bist) : (modBist f c).notices = c.notices := rfl
@[simp] theorem modBist_repairs (c : Chip) (f : Bist → Bist) : (modBist f c).repairs = c.repairs := rfl
@[simp] theorem modBist_sto (c : Chip) (f : Bist → Bist) : (modBist f c).sto = c.sto := rfl
@[simp] theorem modBist_zen (c : Chip) (f : Bist → Bist) : (modBist f c).zen = c.zen := rfl
@[simp] theorem modBist_axes (c : Chip) (f : Bist → Bist) : (modBist f c).axes = c.axes := rfl
@[simp] theorem modBist_conv (c : Chip) (f : Bist → Bist) : (modBist f c).conv = c.conv := rfl
@[simp] theorem modBist_prot (c : Chip) (f : Bist → Bist) : (modBist f c).prot = c.prot := rfl
@[simp] theorem modBist_fine (c : Chip) (f : Bist → Bist) : (modBist f c).fine = c.fine := rfl
@[simp] theorem modBist_up (c : Chip) (f : Bist → Bist) : (modBist f c).up = c.up := rfl
@[simp] theorem modBist_rind (c : Chip) (f : Bist → Bist) : (modBist f c).rind = c.rind := rfl
@[simp] theorem modBist_therm (c : Chip) (f : Bist → Bist) : (modBist f c).therm = c.therm := rfl
@[simp] theorem modBist_pu (c : Chip) (f : Bist → Bist) : (modBist f c).pu = c.pu := rfl
@[simp] theorem modBist_hop (c : Chip) (f : Bist → Bist) : (modBist f c).hop = c.hop := rfl
@[simp] theorem modBist_safe (c : Chip) (f : Bist → Bist) : (modBist f c).safe = c.safe := rfl
@[simp] theorem modBist_meter (c : Chip) (f : Bist → Bist) : (modBist f c).meter = c.meter := rfl
@[simp] theorem modBist_nvm (c : Chip) (f : Bist → Bist) : (modBist f c).nvm = c.nvm := rfl
@[simp] theorem modTherm_rd (c : Chip) (f : Therm → Therm) (k : Nat) : (modTherm f c).rd k = c.rd k := rfl
@[simp] theorem modTherm_get (c : Chip) (f : Therm → Therm) (g : Fld) : (modTherm f c).get g = c.get g := rfl
@[simp] theorem modTherm_is (c : Chip) (f : Therm → Therm) (g : Fld) : (modTherm f c).is g = c.is g := rfl
@[simp] theorem modTherm_geti (c : Chip) (f : Therm → Therm) (g : Fld) : (modTherm f c).geti g = c.geti g := rfl
@[simp] theorem modTherm_mode (c : Chip) (f : Therm → Therm) : (modTherm f c).mode = c.mode := rfl
@[simp] theorem modTherm_now (c : Chip) (f : Therm → Therm) : (modTherm f c).now = c.now := rfl
@[simp] theorem modTherm_fnow (c : Chip) (f : Therm → Therm) : (modTherm f c).fnow = c.fnow := rfl
@[simp] theorem modTherm_regs (c : Chip) (f : Therm → Therm) : (modTherm f c).regs = c.regs := rfl
@[simp] theorem modTherm_lanes (c : Chip) (f : Therm → Therm) : (modTherm f c).lanes = c.lanes := rfl
@[simp] theorem modTherm_zmem (c : Chip) (f : Therm → Therm) : (modTherm f c).zmem = c.zmem := rfl
@[simp] theorem modTherm_store (c : Chip) (f : Therm → Therm) : (modTherm f c).store = c.store := rfl
@[simp] theorem modTherm_fuses (c : Chip) (f : Therm → Therm) : (modTherm f c).fuses = c.fuses := rfl
@[simp] theorem modTherm_ms (c : Chip) (f : Therm → Therm) : (modTherm f c).ms = c.ms := rfl
@[simp] theorem modTherm_link (c : Chip) (f : Therm → Therm) : (modTherm f c).link = c.link := rfl
@[simp] theorem modTherm_clk (c : Chip) (f : Therm → Therm) : (modTherm f c).clk = c.clk := rfl
@[simp] theorem modTherm_time (c : Chip) (f : Therm → Therm) : (modTherm f c).time = c.time := rfl
@[simp] theorem modTherm_trackers (c : Chip) (f : Therm → Therm) : (modTherm f c).trackers = c.trackers := rfl
@[simp] theorem modTherm_kerfs (c : Chip) (f : Therm → Therm) : (modTherm f c).kerfs = c.kerfs := rfl
@[simp] theorem modTherm_adc (c : Chip) (f : Therm → Therm) : (modTherm f c).adc = c.adc := rfl
@[simp] theorem modTherm_pwmG (c : Chip) (f : Therm → Therm) : (modTherm f c).pwmG = c.pwmG := rfl
@[simp] theorem modTherm_pwmL (c : Chip) (f : Therm → Therm) : (modTherm f c).pwmL = c.pwmL := rfl
@[simp] theorem modTherm_gdsG (c : Chip) (f : Therm → Therm) : (modTherm f c).gdsG = c.gdsG := rfl
@[simp] theorem modTherm_gdsL (c : Chip) (f : Therm → Therm) : (modTherm f c).gdsL = c.gdsL := rfl
@[simp] theorem modTherm_freeCtr (c : Chip) (f : Therm → Therm) : (modTherm f c).freeCtr = c.freeCtr := rfl
@[simp] theorem modTherm_window (c : Chip) (f : Therm → Therm) : (modTherm f c).window = c.window := rfl
@[simp] theorem modTherm_obs (c : Chip) (f : Therm → Therm) : (modTherm f c).obs = c.obs := rfl
@[simp] theorem modTherm_notices (c : Chip) (f : Therm → Therm) : (modTherm f c).notices = c.notices := rfl
@[simp] theorem modTherm_repairs (c : Chip) (f : Therm → Therm) : (modTherm f c).repairs = c.repairs := rfl
@[simp] theorem modTherm_sto (c : Chip) (f : Therm → Therm) : (modTherm f c).sto = c.sto := rfl
@[simp] theorem modTherm_zen (c : Chip) (f : Therm → Therm) : (modTherm f c).zen = c.zen := rfl
@[simp] theorem modTherm_axes (c : Chip) (f : Therm → Therm) : (modTherm f c).axes = c.axes := rfl
@[simp] theorem modTherm_conv (c : Chip) (f : Therm → Therm) : (modTherm f c).conv = c.conv := rfl
@[simp] theorem modTherm_prot (c : Chip) (f : Therm → Therm) : (modTherm f c).prot = c.prot := rfl
@[simp] theorem modTherm_fine (c : Chip) (f : Therm → Therm) : (modTherm f c).fine = c.fine := rfl
@[simp] theorem modTherm_up (c : Chip) (f : Therm → Therm) : (modTherm f c).up = c.up := rfl
@[simp] theorem modTherm_rind (c : Chip) (f : Therm → Therm) : (modTherm f c).rind = c.rind := rfl
@[simp] theorem modTherm_pu (c : Chip) (f : Therm → Therm) : (modTherm f c).pu = c.pu := rfl
@[simp] theorem modTherm_hop (c : Chip) (f : Therm → Therm) : (modTherm f c).hop = c.hop := rfl
@[simp] theorem modTherm_safe (c : Chip) (f : Therm → Therm) : (modTherm f c).safe = c.safe := rfl
@[simp] theorem modTherm_meter (c : Chip) (f : Therm → Therm) : (modTherm f c).meter = c.meter := rfl
@[simp] theorem modTherm_nvm (c : Chip) (f : Therm → Therm) : (modTherm f c).nvm = c.nvm := rfl
@[simp] theorem modTherm_bist (c : Chip) (f : Therm → Therm) : (modTherm f c).bist = c.bist := rfl
@[simp] theorem modRind_rd (c : Chip) (f : Rind → Rind) (k : Nat) : (modRind f c).rd k = c.rd k := rfl
@[simp] theorem modRind_get (c : Chip) (f : Rind → Rind) (g : Fld) : (modRind f c).get g = c.get g := rfl
@[simp] theorem modRind_is (c : Chip) (f : Rind → Rind) (g : Fld) : (modRind f c).is g = c.is g := rfl
@[simp] theorem modRind_geti (c : Chip) (f : Rind → Rind) (g : Fld) : (modRind f c).geti g = c.geti g := rfl
@[simp] theorem modRind_mode (c : Chip) (f : Rind → Rind) : (modRind f c).mode = c.mode := rfl
@[simp] theorem modRind_now (c : Chip) (f : Rind → Rind) : (modRind f c).now = c.now := rfl
@[simp] theorem modRind_fnow (c : Chip) (f : Rind → Rind) : (modRind f c).fnow = c.fnow := rfl
@[simp] theorem modRind_regs (c : Chip) (f : Rind → Rind) : (modRind f c).regs = c.regs := rfl
@[simp] theorem modRind_lanes (c : Chip) (f : Rind → Rind) : (modRind f c).lanes = c.lanes := rfl
@[simp] theorem modRind_zmem (c : Chip) (f : Rind → Rind) : (modRind f c).zmem = c.zmem := rfl
@[simp] theorem modRind_store (c : Chip) (f : Rind → Rind) : (modRind f c).store = c.store := rfl
@[simp] theorem modRind_fuses (c : Chip) (f : Rind → Rind) : (modRind f c).fuses = c.fuses := rfl
@[simp] theorem modRind_ms (c : Chip) (f : Rind → Rind) : (modRind f c).ms = c.ms := rfl
@[simp] theorem modRind_link (c : Chip) (f : Rind → Rind) : (modRind f c).link = c.link := rfl
@[simp] theorem modRind_clk (c : Chip) (f : Rind → Rind) : (modRind f c).clk = c.clk := rfl
@[simp] theorem modRind_time (c : Chip) (f : Rind → Rind) : (modRind f c).time = c.time := rfl
@[simp] theorem modRind_trackers (c : Chip) (f : Rind → Rind) : (modRind f c).trackers = c.trackers := rfl
@[simp] theorem modRind_kerfs (c : Chip) (f : Rind → Rind) : (modRind f c).kerfs = c.kerfs := rfl
@[simp] theorem modRind_adc (c : Chip) (f : Rind → Rind) : (modRind f c).adc = c.adc := rfl
@[simp] theorem modRind_pwmG (c : Chip) (f : Rind → Rind) : (modRind f c).pwmG = c.pwmG := rfl
@[simp] theorem modRind_pwmL (c : Chip) (f : Rind → Rind) : (modRind f c).pwmL = c.pwmL := rfl
@[simp] theorem modRind_gdsG (c : Chip) (f : Rind → Rind) : (modRind f c).gdsG = c.gdsG := rfl
@[simp] theorem modRind_gdsL (c : Chip) (f : Rind → Rind) : (modRind f c).gdsL = c.gdsL := rfl
@[simp] theorem modRind_freeCtr (c : Chip) (f : Rind → Rind) : (modRind f c).freeCtr = c.freeCtr := rfl
@[simp] theorem modRind_window (c : Chip) (f : Rind → Rind) : (modRind f c).window = c.window := rfl
@[simp] theorem modRind_obs (c : Chip) (f : Rind → Rind) : (modRind f c).obs = c.obs := rfl
@[simp] theorem modRind_notices (c : Chip) (f : Rind → Rind) : (modRind f c).notices = c.notices := rfl
@[simp] theorem modRind_repairs (c : Chip) (f : Rind → Rind) : (modRind f c).repairs = c.repairs := rfl
@[simp] theorem modRind_sto (c : Chip) (f : Rind → Rind) : (modRind f c).sto = c.sto := rfl
@[simp] theorem modRind_zen (c : Chip) (f : Rind → Rind) : (modRind f c).zen = c.zen := rfl
@[simp] theorem modRind_axes (c : Chip) (f : Rind → Rind) : (modRind f c).axes = c.axes := rfl
@[simp] theorem modRind_conv (c : Chip) (f : Rind → Rind) : (modRind f c).conv = c.conv := rfl
@[simp] theorem modRind_prot (c : Chip) (f : Rind → Rind) : (modRind f c).prot = c.prot := rfl
@[simp] theorem modRind_fine (c : Chip) (f : Rind → Rind) : (modRind f c).fine = c.fine := rfl
@[simp] theorem modRind_up (c : Chip) (f : Rind → Rind) : (modRind f c).up = c.up := rfl
@[simp] theorem modRind_therm (c : Chip) (f : Rind → Rind) : (modRind f c).therm = c.therm := rfl
@[simp] theorem modRind_pu (c : Chip) (f : Rind → Rind) : (modRind f c).pu = c.pu := rfl
@[simp] theorem modRind_hop (c : Chip) (f : Rind → Rind) : (modRind f c).hop = c.hop := rfl
@[simp] theorem modRind_safe (c : Chip) (f : Rind → Rind) : (modRind f c).safe = c.safe := rfl
@[simp] theorem modRind_meter (c : Chip) (f : Rind → Rind) : (modRind f c).meter = c.meter := rfl
@[simp] theorem modRind_nvm (c : Chip) (f : Rind → Rind) : (modRind f c).nvm = c.nvm := rfl
@[simp] theorem modRind_bist (c : Chip) (f : Rind → Rind) : (modRind f c).bist = c.bist := rfl
@[simp] theorem modProt_rd (c : Chip) (f : Prot → Prot) (k : Nat) : (modProt f c).rd k = c.rd k := rfl
@[simp] theorem modProt_get (c : Chip) (f : Prot → Prot) (g : Fld) : (modProt f c).get g = c.get g := rfl
@[simp] theorem modProt_is (c : Chip) (f : Prot → Prot) (g : Fld) : (modProt f c).is g = c.is g := rfl
@[simp] theorem modProt_geti (c : Chip) (f : Prot → Prot) (g : Fld) : (modProt f c).geti g = c.geti g := rfl
@[simp] theorem modProt_mode (c : Chip) (f : Prot → Prot) : (modProt f c).mode = c.mode := rfl
@[simp] theorem modProt_now (c : Chip) (f : Prot → Prot) : (modProt f c).now = c.now := rfl
@[simp] theorem modProt_fnow (c : Chip) (f : Prot → Prot) : (modProt f c).fnow = c.fnow := rfl
@[simp] theorem modProt_regs (c : Chip) (f : Prot → Prot) : (modProt f c).regs = c.regs := rfl
@[simp] theorem modProt_lanes (c : Chip) (f : Prot → Prot) : (modProt f c).lanes = c.lanes := rfl
@[simp] theorem modProt_zmem (c : Chip) (f : Prot → Prot) : (modProt f c).zmem = c.zmem := rfl
@[simp] theorem modProt_store (c : Chip) (f : Prot → Prot) : (modProt f c).store = c.store := rfl
@[simp] theorem modProt_fuses (c : Chip) (f : Prot → Prot) : (modProt f c).fuses = c.fuses := rfl
@[simp] theorem modProt_ms (c : Chip) (f : Prot → Prot) : (modProt f c).ms = c.ms := rfl
@[simp] theorem modProt_link (c : Chip) (f : Prot → Prot) : (modProt f c).link = c.link := rfl
@[simp] theorem modProt_clk (c : Chip) (f : Prot → Prot) : (modProt f c).clk = c.clk := rfl
@[simp] theorem modProt_time (c : Chip) (f : Prot → Prot) : (modProt f c).time = c.time := rfl
@[simp] theorem modProt_trackers (c : Chip) (f : Prot → Prot) : (modProt f c).trackers = c.trackers := rfl
@[simp] theorem modProt_kerfs (c : Chip) (f : Prot → Prot) : (modProt f c).kerfs = c.kerfs := rfl
@[simp] theorem modProt_adc (c : Chip) (f : Prot → Prot) : (modProt f c).adc = c.adc := rfl
@[simp] theorem modProt_pwmG (c : Chip) (f : Prot → Prot) : (modProt f c).pwmG = c.pwmG := rfl
@[simp] theorem modProt_pwmL (c : Chip) (f : Prot → Prot) : (modProt f c).pwmL = c.pwmL := rfl
@[simp] theorem modProt_gdsG (c : Chip) (f : Prot → Prot) : (modProt f c).gdsG = c.gdsG := rfl
@[simp] theorem modProt_gdsL (c : Chip) (f : Prot → Prot) : (modProt f c).gdsL = c.gdsL := rfl
@[simp] theorem modProt_freeCtr (c : Chip) (f : Prot → Prot) : (modProt f c).freeCtr = c.freeCtr := rfl
@[simp] theorem modProt_window (c : Chip) (f : Prot → Prot) : (modProt f c).window = c.window := rfl
@[simp] theorem modProt_obs (c : Chip) (f : Prot → Prot) : (modProt f c).obs = c.obs := rfl
@[simp] theorem modProt_notices (c : Chip) (f : Prot → Prot) : (modProt f c).notices = c.notices := rfl
@[simp] theorem modProt_repairs (c : Chip) (f : Prot → Prot) : (modProt f c).repairs = c.repairs := rfl
@[simp] theorem modProt_sto (c : Chip) (f : Prot → Prot) : (modProt f c).sto = c.sto := rfl
@[simp] theorem modProt_zen (c : Chip) (f : Prot → Prot) : (modProt f c).zen = c.zen := rfl
@[simp] theorem modProt_axes (c : Chip) (f : Prot → Prot) : (modProt f c).axes = c.axes := rfl
@[simp] theorem modProt_conv (c : Chip) (f : Prot → Prot) : (modProt f c).conv = c.conv := rfl
@[simp] theorem modProt_fine (c : Chip) (f : Prot → Prot) : (modProt f c).fine = c.fine := rfl
@[simp] theorem modProt_up (c : Chip) (f : Prot → Prot) : (modProt f c).up = c.up := rfl
@[simp] theorem modProt_rind (c : Chip) (f : Prot → Prot) : (modProt f c).rind = c.rind := rfl
@[simp] theorem modProt_therm (c : Chip) (f : Prot → Prot) : (modProt f c).therm = c.therm := rfl
@[simp] theorem modProt_pu (c : Chip) (f : Prot → Prot) : (modProt f c).pu = c.pu := rfl
@[simp] theorem modProt_hop (c : Chip) (f : Prot → Prot) : (modProt f c).hop = c.hop := rfl
@[simp] theorem modProt_safe (c : Chip) (f : Prot → Prot) : (modProt f c).safe = c.safe := rfl
@[simp] theorem modProt_meter (c : Chip) (f : Prot → Prot) : (modProt f c).meter = c.meter := rfl
@[simp] theorem modProt_nvm (c : Chip) (f : Prot → Prot) : (modProt f c).nvm = c.nvm := rfl
@[simp] theorem modProt_bist (c : Chip) (f : Prot → Prot) : (modProt f c).bist = c.bist := rfl
@[simp] theorem modBank_rd (c : Chip) (b : Nat) (f : Bank → Bank) (k : Nat) : (modBank b f c).rd k = c.rd k := rfl
@[simp] theorem modBank_get (c : Chip) (b : Nat) (f : Bank → Bank) (g : Fld) : (modBank b f c).get g = c.get g := rfl
@[simp] theorem modBank_is (c : Chip) (b : Nat) (f : Bank → Bank) (g : Fld) : (modBank b f c).is g = c.is g := rfl
@[simp] theorem modBank_geti (c : Chip) (b : Nat) (f : Bank → Bank) (g : Fld) : (modBank b f c).geti g = c.geti g := rfl
@[simp] theorem modBank_mode (c : Chip) (b : Nat) (f : Bank → Bank) : (modBank b f c).mode = c.mode := rfl
@[simp] theorem modBank_now (c : Chip) (b : Nat) (f : Bank → Bank) : (modBank b f c).now = c.now := rfl
@[simp] theorem modBank_fnow (c : Chip) (b : Nat) (f : Bank → Bank) : (modBank b f c).fnow = c.fnow := rfl
@[simp] theorem modBank_regs (c : Chip) (b : Nat) (f : Bank → Bank) : (modBank b f c).regs = c.regs := rfl
@[simp] theorem modBank_lanes (c : Chip) (b : Nat) (f : Bank → Bank) : (modBank b f c).lanes = c.lanes := rfl
@[simp] theorem modBank_zmem (c : Chip) (b : Nat) (f : Bank → Bank) : (modBank b f c).zmem = c.zmem := rfl
@[simp] theorem modBank_store (c : Chip) (b : Nat) (f : Bank → Bank) : (modBank b f c).store = c.store := rfl
@[simp] theorem modBank_fuses (c : Chip) (b : Nat) (f : Bank → Bank) : (modBank b f c).fuses = c.fuses := rfl
@[simp] theorem modBank_ms (c : Chip) (b : Nat) (f : Bank → Bank) : (modBank b f c).ms = c.ms := rfl
@[simp] theorem modBank_link (c : Chip) (b : Nat) (f : Bank → Bank) : (modBank b f c).link = c.link := rfl
@[simp] theorem modBank_clk (c : Chip) (b : Nat) (f : Bank → Bank) : (modBank b f c).clk = c.clk := rfl
@[simp] theorem modBank_time (c : Chip) (b : Nat) (f : Bank → Bank) : (modBank b f c).time = c.time := rfl
@[simp] theorem modBank_trackers (c : Chip) (b : Nat) (f : Bank → Bank) : (modBank b f c).trackers = c.trackers := rfl
@[simp] theorem modBank_kerfs (c : Chip) (b : Nat) (f : Bank → Bank) : (modBank b f c).kerfs = c.kerfs := rfl
@[simp] theorem modBank_pwmG (c : Chip) (b : Nat) (f : Bank → Bank) : (modBank b f c).pwmG = c.pwmG := rfl
@[simp] theorem modBank_pwmL (c : Chip) (b : Nat) (f : Bank → Bank) : (modBank b f c).pwmL = c.pwmL := rfl
@[simp] theorem modBank_gdsG (c : Chip) (b : Nat) (f : Bank → Bank) : (modBank b f c).gdsG = c.gdsG := rfl
@[simp] theorem modBank_gdsL (c : Chip) (b : Nat) (f : Bank → Bank) : (modBank b f c).gdsL = c.gdsL := rfl
@[simp] theorem modBank_freeCtr (c : Chip) (b : Nat) (f : Bank → Bank) : (modBank b f c).freeCtr = c.freeCtr := rfl
@[simp] theorem modBank_window (c : Chip) (b : Nat) (f : Bank → Bank) : (modBank b f c).window = c.window := rfl
@[simp] theorem modBank_obs (c : Chip) (b : Nat) (f : Bank → Bank) : (modBank b f c).obs = c.obs := rfl
@[simp] theorem modBank_notices (c : Chip) (b : Nat) (f : Bank → Bank) : (modBank b f c).notices = c.notices := rfl
@[simp] theorem modBank_repairs (c : Chip) (b : Nat) (f : Bank → Bank) : (modBank b f c).repairs = c.repairs := rfl
@[simp] theorem modBank_sto (c : Chip) (b : Nat) (f : Bank → Bank) : (modBank b f c).sto = c.sto := rfl
@[simp] theorem modBank_zen (c : Chip) (b : Nat) (f : Bank → Bank) : (modBank b f c).zen = c.zen := rfl
@[simp] theorem modBank_axes (c : Chip) (b : Nat) (f : Bank → Bank) : (modBank b f c).axes = c.axes := rfl
@[simp] theorem modBank_conv (c : Chip) (b : Nat) (f : Bank → Bank) : (modBank b f c).conv = c.conv := rfl
@[simp] theorem modBank_prot (c : Chip) (b : Nat) (f : Bank → Bank) : (modBank b f c).prot = c.prot := rfl
@[simp] theorem modBank_fine (c : Chip) (b : Nat) (f : Bank → Bank) : (modBank b f c).fine = c.fine := rfl
@[simp] theorem modBank_up (c : Chip) (b : Nat) (f : Bank → Bank) : (modBank b f c).up = c.up := rfl
@[simp] theorem modBank_rind (c : Chip) (b : Nat) (f : Bank → Bank) : (modBank b f c).rind = c.rind := rfl
@[simp] theorem modBank_therm (c : Chip) (b : Nat) (f : Bank → Bank) : (modBank b f c).therm = c.therm := rfl
@[simp] theorem modBank_pu (c : Chip) (b : Nat) (f : Bank → Bank) : (modBank b f c).pu = c.pu := rfl
@[simp] theorem modBank_hop (c : Chip) (b : Nat) (f : Bank → Bank) : (modBank b f c).hop = c.hop := rfl
@[simp] theorem modBank_safe (c : Chip) (b : Nat) (f : Bank → Bank) : (modBank b f c).safe = c.safe := rfl
@[simp] theorem modBank_meter (c : Chip) (b : Nat) (f : Bank → Bank) : (modBank b f c).meter = c.meter := rfl
@[simp] theorem modBank_nvm (c : Chip) (b : Nat) (f : Bank → Bank) : (modBank b f c).nvm = c.nvm := rfl
@[simp] theorem modBank_bist (c : Chip) (b : Nat) (f : Bank → Bank) : (modBank b f c).bist = c.bist := rfl
@[simp] theorem modAxis_rd (c : Chip) (n : Nat) (f : AxisSeq → AxisSeq) (k : Nat) : (modAxis n f c).rd k = c.rd k := rfl
@[simp] theorem modAxis_get (c : Chip) (n : Nat) (f : AxisSeq → AxisSeq) (g : Fld) : (modAxis n f c).get g = c.get g := rfl
@[simp] theorem modAxis_is (c : Chip) (n : Nat) (f : AxisSeq → AxisSeq) (g : Fld) : (modAxis n f c).is g = c.is g := rfl
@[simp] theorem modAxis_geti (c : Chip) (n : Nat) (f : AxisSeq → AxisSeq) (g : Fld) : (modAxis n f c).geti g = c.geti g := rfl
@[simp] theorem modAxis_mode (c : Chip) (n : Nat) (f : AxisSeq → AxisSeq) : (modAxis n f c).mode = c.mode := rfl
@[simp] theorem modAxis_now (c : Chip) (n : Nat) (f : AxisSeq → AxisSeq) : (modAxis n f c).now = c.now := rfl
@[simp] theorem modAxis_fnow (c : Chip) (n : Nat) (f : AxisSeq → AxisSeq) : (modAxis n f c).fnow = c.fnow := rfl
@[simp] theorem modAxis_regs (c : Chip) (n : Nat) (f : AxisSeq → AxisSeq) : (modAxis n f c).regs = c.regs := rfl
@[simp] theorem modAxis_lanes (c : Chip) (n : Nat) (f : AxisSeq → AxisSeq) : (modAxis n f c).lanes = c.lanes := rfl
@[simp] theorem modAxis_zmem (c : Chip) (n : Nat) (f : AxisSeq → AxisSeq) : (modAxis n f c).zmem = c.zmem := rfl
@[simp] theorem modAxis_store (c : Chip) (n : Nat) (f : AxisSeq → AxisSeq) : (modAxis n f c).store = c.store := rfl
@[simp] theorem modAxis_fuses (c : Chip) (n : Nat) (f : AxisSeq → AxisSeq) : (modAxis n f c).fuses = c.fuses := rfl
@[simp] theorem modAxis_ms (c : Chip) (n : Nat) (f : AxisSeq → AxisSeq) : (modAxis n f c).ms = c.ms := rfl
@[simp] theorem modAxis_link (c : Chip) (n : Nat) (f : AxisSeq → AxisSeq) : (modAxis n f c).link = c.link := rfl
@[simp] theorem modAxis_clk (c : Chip) (n : Nat) (f : AxisSeq → AxisSeq) : (modAxis n f c).clk = c.clk := rfl
@[simp] theorem modAxis_time (c : Chip) (n : Nat) (f : AxisSeq → AxisSeq) : (modAxis n f c).time = c.time := rfl
@[simp] theorem modAxis_trackers (c : Chip) (n : Nat) (f : AxisSeq → AxisSeq) : (modAxis n f c).trackers = c.trackers := rfl
@[simp] theorem modAxis_kerfs (c : Chip) (n : Nat) (f : AxisSeq → AxisSeq) : (modAxis n f c).kerfs = c.kerfs := rfl
@[simp] theorem modAxis_adc (c : Chip) (n : Nat) (f : AxisSeq → AxisSeq) : (modAxis n f c).adc = c.adc := rfl
@[simp] theorem modAxis_pwmG (c : Chip) (n : Nat) (f : AxisSeq → AxisSeq) : (modAxis n f c).pwmG = c.pwmG := rfl
@[simp] theorem modAxis_pwmL (c : Chip) (n : Nat) (f : AxisSeq → AxisSeq) : (modAxis n f c).pwmL = c.pwmL := rfl
@[simp] theorem modAxis_gdsG (c : Chip) (n : Nat) (f : AxisSeq → AxisSeq) : (modAxis n f c).gdsG = c.gdsG := rfl
@[simp] theorem modAxis_gdsL (c : Chip) (n : Nat) (f : AxisSeq → AxisSeq) : (modAxis n f c).gdsL = c.gdsL := rfl
@[simp] theorem modAxis_freeCtr (c : Chip) (n : Nat) (f : AxisSeq → AxisSeq) : (modAxis n f c).freeCtr = c.freeCtr := rfl
@[simp] theorem modAxis_window (c : Chip) (n : Nat) (f : AxisSeq → AxisSeq) : (modAxis n f c).window = c.window := rfl
@[simp] theorem modAxis_obs (c : Chip) (n : Nat) (f : AxisSeq → AxisSeq) : (modAxis n f c).obs = c.obs := rfl
@[simp] theorem modAxis_notices (c : Chip) (n : Nat) (f : AxisSeq → AxisSeq) : (modAxis n f c).notices = c.notices := rfl
@[simp] theorem modAxis_repairs (c : Chip) (n : Nat) (f : AxisSeq → AxisSeq) : (modAxis n f c).repairs = c.repairs := rfl
@[simp] theorem modAxis_sto (c : Chip) (n : Nat) (f : AxisSeq → AxisSeq) : (modAxis n f c).sto = c.sto := rfl
@[simp] theorem modAxis_zen (c : Chip) (n : Nat) (f : AxisSeq → AxisSeq) : (modAxis n f c).zen = c.zen := rfl
@[simp] theorem modAxis_conv (c : Chip) (n : Nat) (f : AxisSeq → AxisSeq) : (modAxis n f c).conv = c.conv := rfl
@[simp] theorem modAxis_prot (c : Chip) (n : Nat) (f : AxisSeq → AxisSeq) : (modAxis n f c).prot = c.prot := rfl
@[simp] theorem modAxis_fine (c : Chip) (n : Nat) (f : AxisSeq → AxisSeq) : (modAxis n f c).fine = c.fine := rfl
@[simp] theorem modAxis_up (c : Chip) (n : Nat) (f : AxisSeq → AxisSeq) : (modAxis n f c).up = c.up := rfl
@[simp] theorem modAxis_rind (c : Chip) (n : Nat) (f : AxisSeq → AxisSeq) : (modAxis n f c).rind = c.rind := rfl
@[simp] theorem modAxis_therm (c : Chip) (n : Nat) (f : AxisSeq → AxisSeq) : (modAxis n f c).therm = c.therm := rfl
@[simp] theorem modAxis_pu (c : Chip) (n : Nat) (f : AxisSeq → AxisSeq) : (modAxis n f c).pu = c.pu := rfl
@[simp] theorem modAxis_hop (c : Chip) (n : Nat) (f : AxisSeq → AxisSeq) : (modAxis n f c).hop = c.hop := rfl
@[simp] theorem modAxis_safe (c : Chip) (n : Nat) (f : AxisSeq → AxisSeq) : (modAxis n f c).safe = c.safe := rfl
@[simp] theorem modAxis_meter (c : Chip) (n : Nat) (f : AxisSeq → AxisSeq) : (modAxis n f c).meter = c.meter := rfl
@[simp] theorem modAxis_nvm (c : Chip) (n : Nat) (f : AxisSeq → AxisSeq) : (modAxis n f c).nvm = c.nvm := rfl
@[simp] theorem modAxis_bist (c : Chip) (n : Nat) (f : AxisSeq → AxisSeq) : (modAxis n f c).bist = c.bist := rfl
@[simp] theorem modPu_rd (c : Chip) (n : Nat) (f : Purlin → Purlin) (k : Nat) : (modPu n f c).rd k = c.rd k := rfl
@[simp] theorem modPu_get (c : Chip) (n : Nat) (f : Purlin → Purlin) (g : Fld) : (modPu n f c).get g = c.get g := rfl
@[simp] theorem modPu_is (c : Chip) (n : Nat) (f : Purlin → Purlin) (g : Fld) : (modPu n f c).is g = c.is g := rfl
@[simp] theorem modPu_geti (c : Chip) (n : Nat) (f : Purlin → Purlin) (g : Fld) : (modPu n f c).geti g = c.geti g := rfl
@[simp] theorem modPu_mode (c : Chip) (n : Nat) (f : Purlin → Purlin) : (modPu n f c).mode = c.mode := rfl
@[simp] theorem modPu_now (c : Chip) (n : Nat) (f : Purlin → Purlin) : (modPu n f c).now = c.now := rfl
@[simp] theorem modPu_fnow (c : Chip) (n : Nat) (f : Purlin → Purlin) : (modPu n f c).fnow = c.fnow := rfl
@[simp] theorem modPu_regs (c : Chip) (n : Nat) (f : Purlin → Purlin) : (modPu n f c).regs = c.regs := rfl
@[simp] theorem modPu_lanes (c : Chip) (n : Nat) (f : Purlin → Purlin) : (modPu n f c).lanes = c.lanes := rfl
@[simp] theorem modPu_zmem (c : Chip) (n : Nat) (f : Purlin → Purlin) : (modPu n f c).zmem = c.zmem := rfl
@[simp] theorem modPu_store (c : Chip) (n : Nat) (f : Purlin → Purlin) : (modPu n f c).store = c.store := rfl
@[simp] theorem modPu_fuses (c : Chip) (n : Nat) (f : Purlin → Purlin) : (modPu n f c).fuses = c.fuses := rfl
@[simp] theorem modPu_ms (c : Chip) (n : Nat) (f : Purlin → Purlin) : (modPu n f c).ms = c.ms := rfl
@[simp] theorem modPu_link (c : Chip) (n : Nat) (f : Purlin → Purlin) : (modPu n f c).link = c.link := rfl
@[simp] theorem modPu_clk (c : Chip) (n : Nat) (f : Purlin → Purlin) : (modPu n f c).clk = c.clk := rfl
@[simp] theorem modPu_time (c : Chip) (n : Nat) (f : Purlin → Purlin) : (modPu n f c).time = c.time := rfl
@[simp] theorem modPu_trackers (c : Chip) (n : Nat) (f : Purlin → Purlin) : (modPu n f c).trackers = c.trackers := rfl
@[simp] theorem modPu_kerfs (c : Chip) (n : Nat) (f : Purlin → Purlin) : (modPu n f c).kerfs = c.kerfs := rfl
@[simp] theorem modPu_adc (c : Chip) (n : Nat) (f : Purlin → Purlin) : (modPu n f c).adc = c.adc := rfl
@[simp] theorem modPu_pwmG (c : Chip) (n : Nat) (f : Purlin → Purlin) : (modPu n f c).pwmG = c.pwmG := rfl
@[simp] theorem modPu_pwmL (c : Chip) (n : Nat) (f : Purlin → Purlin) : (modPu n f c).pwmL = c.pwmL := rfl
@[simp] theorem modPu_gdsG (c : Chip) (n : Nat) (f : Purlin → Purlin) : (modPu n f c).gdsG = c.gdsG := rfl
@[simp] theorem modPu_gdsL (c : Chip) (n : Nat) (f : Purlin → Purlin) : (modPu n f c).gdsL = c.gdsL := rfl
@[simp] theorem modPu_freeCtr (c : Chip) (n : Nat) (f : Purlin → Purlin) : (modPu n f c).freeCtr = c.freeCtr := rfl
@[simp] theorem modPu_window (c : Chip) (n : Nat) (f : Purlin → Purlin) : (modPu n f c).window = c.window := rfl
@[simp] theorem modPu_obs (c : Chip) (n : Nat) (f : Purlin → Purlin) : (modPu n f c).obs = c.obs := rfl
@[simp] theorem modPu_notices (c : Chip) (n : Nat) (f : Purlin → Purlin) : (modPu n f c).notices = c.notices := rfl
@[simp] theorem modPu_repairs (c : Chip) (n : Nat) (f : Purlin → Purlin) : (modPu n f c).repairs = c.repairs := rfl
@[simp] theorem modPu_sto (c : Chip) (n : Nat) (f : Purlin → Purlin) : (modPu n f c).sto = c.sto := rfl
@[simp] theorem modPu_zen (c : Chip) (n : Nat) (f : Purlin → Purlin) : (modPu n f c).zen = c.zen := rfl
@[simp] theorem modPu_axes (c : Chip) (n : Nat) (f : Purlin → Purlin) : (modPu n f c).axes = c.axes := rfl
@[simp] theorem modPu_conv (c : Chip) (n : Nat) (f : Purlin → Purlin) : (modPu n f c).conv = c.conv := rfl
@[simp] theorem modPu_prot (c : Chip) (n : Nat) (f : Purlin → Purlin) : (modPu n f c).prot = c.prot := rfl
@[simp] theorem modPu_fine (c : Chip) (n : Nat) (f : Purlin → Purlin) : (modPu n f c).fine = c.fine := rfl
@[simp] theorem modPu_up (c : Chip) (n : Nat) (f : Purlin → Purlin) : (modPu n f c).up = c.up := rfl
@[simp] theorem modPu_rind (c : Chip) (n : Nat) (f : Purlin → Purlin) : (modPu n f c).rind = c.rind := rfl
@[simp] theorem modPu_therm (c : Chip) (n : Nat) (f : Purlin → Purlin) : (modPu n f c).therm = c.therm := rfl
@[simp] theorem modPu_hop (c : Chip) (n : Nat) (f : Purlin → Purlin) : (modPu n f c).hop = c.hop := rfl
@[simp] theorem modPu_safe (c : Chip) (n : Nat) (f : Purlin → Purlin) : (modPu n f c).safe = c.safe := rfl
@[simp] theorem modPu_meter (c : Chip) (n : Nat) (f : Purlin → Purlin) : (modPu n f c).meter = c.meter := rfl
@[simp] theorem modPu_nvm (c : Chip) (n : Nat) (f : Purlin → Purlin) : (modPu n f c).nvm = c.nvm := rfl
@[simp] theorem modPu_bist (c : Chip) (n : Nat) (f : Purlin → Purlin) : (modPu n f c).bist = c.bist := rfl
@[simp] theorem modTracker_rd (c : Chip) (n : Nat) (f : Tracker → Tracker) (k : Nat) : (c.modTracker n f).rd k = c.rd k := rfl
@[simp] theorem modTracker_get (c : Chip) (n : Nat) (f : Tracker → Tracker) (g : Fld) : (c.modTracker n f).get g = c.get g := rfl
@[simp] theorem modTracker_is (c : Chip) (n : Nat) (f : Tracker → Tracker) (g : Fld) : (c.modTracker n f).is g = c.is g := rfl
@[simp] theorem modTracker_geti (c : Chip) (n : Nat) (f : Tracker → Tracker) (g : Fld) : (c.modTracker n f).geti g = c.geti g := rfl
@[simp] theorem modTracker_mode (c : Chip) (n : Nat) (f : Tracker → Tracker) : (c.modTracker n f).mode = c.mode := rfl
@[simp] theorem modTracker_now (c : Chip) (n : Nat) (f : Tracker → Tracker) : (c.modTracker n f).now = c.now := rfl
@[simp] theorem modTracker_fnow (c : Chip) (n : Nat) (f : Tracker → Tracker) : (c.modTracker n f).fnow = c.fnow := rfl
@[simp] theorem modTracker_regs (c : Chip) (n : Nat) (f : Tracker → Tracker) : (c.modTracker n f).regs = c.regs := rfl
@[simp] theorem modTracker_lanes (c : Chip) (n : Nat) (f : Tracker → Tracker) : (c.modTracker n f).lanes = c.lanes := rfl
@[simp] theorem modTracker_zmem (c : Chip) (n : Nat) (f : Tracker → Tracker) : (c.modTracker n f).zmem = c.zmem := rfl
@[simp] theorem modTracker_store (c : Chip) (n : Nat) (f : Tracker → Tracker) : (c.modTracker n f).store = c.store := rfl
@[simp] theorem modTracker_fuses (c : Chip) (n : Nat) (f : Tracker → Tracker) : (c.modTracker n f).fuses = c.fuses := rfl
@[simp] theorem modTracker_ms (c : Chip) (n : Nat) (f : Tracker → Tracker) : (c.modTracker n f).ms = c.ms := rfl
@[simp] theorem modTracker_link (c : Chip) (n : Nat) (f : Tracker → Tracker) : (c.modTracker n f).link = c.link := rfl
@[simp] theorem modTracker_clk (c : Chip) (n : Nat) (f : Tracker → Tracker) : (c.modTracker n f).clk = c.clk := rfl
@[simp] theorem modTracker_time (c : Chip) (n : Nat) (f : Tracker → Tracker) : (c.modTracker n f).time = c.time := rfl
@[simp] theorem modTracker_kerfs (c : Chip) (n : Nat) (f : Tracker → Tracker) : (c.modTracker n f).kerfs = c.kerfs := rfl
@[simp] theorem modTracker_adc (c : Chip) (n : Nat) (f : Tracker → Tracker) : (c.modTracker n f).adc = c.adc := rfl
@[simp] theorem modTracker_pwmG (c : Chip) (n : Nat) (f : Tracker → Tracker) : (c.modTracker n f).pwmG = c.pwmG := rfl
@[simp] theorem modTracker_pwmL (c : Chip) (n : Nat) (f : Tracker → Tracker) : (c.modTracker n f).pwmL = c.pwmL := rfl
@[simp] theorem modTracker_gdsG (c : Chip) (n : Nat) (f : Tracker → Tracker) : (c.modTracker n f).gdsG = c.gdsG := rfl
@[simp] theorem modTracker_gdsL (c : Chip) (n : Nat) (f : Tracker → Tracker) : (c.modTracker n f).gdsL = c.gdsL := rfl
@[simp] theorem modTracker_freeCtr (c : Chip) (n : Nat) (f : Tracker → Tracker) : (c.modTracker n f).freeCtr = c.freeCtr := rfl
@[simp] theorem modTracker_window (c : Chip) (n : Nat) (f : Tracker → Tracker) : (c.modTracker n f).window = c.window := rfl
@[simp] theorem modTracker_obs (c : Chip) (n : Nat) (f : Tracker → Tracker) : (c.modTracker n f).obs = c.obs := rfl
@[simp] theorem modTracker_notices (c : Chip) (n : Nat) (f : Tracker → Tracker) : (c.modTracker n f).notices = c.notices := rfl
@[simp] theorem modTracker_repairs (c : Chip) (n : Nat) (f : Tracker → Tracker) : (c.modTracker n f).repairs = c.repairs := rfl
@[simp] theorem modTracker_sto (c : Chip) (n : Nat) (f : Tracker → Tracker) : (c.modTracker n f).sto = c.sto := rfl
@[simp] theorem modTracker_zen (c : Chip) (n : Nat) (f : Tracker → Tracker) : (c.modTracker n f).zen = c.zen := rfl
@[simp] theorem modTracker_axes (c : Chip) (n : Nat) (f : Tracker → Tracker) : (c.modTracker n f).axes = c.axes := rfl
@[simp] theorem modTracker_conv (c : Chip) (n : Nat) (f : Tracker → Tracker) : (c.modTracker n f).conv = c.conv := rfl
@[simp] theorem modTracker_prot (c : Chip) (n : Nat) (f : Tracker → Tracker) : (c.modTracker n f).prot = c.prot := rfl
@[simp] theorem modTracker_fine (c : Chip) (n : Nat) (f : Tracker → Tracker) : (c.modTracker n f).fine = c.fine := rfl
@[simp] theorem modTracker_up (c : Chip) (n : Nat) (f : Tracker → Tracker) : (c.modTracker n f).up = c.up := rfl
@[simp] theorem modTracker_rind (c : Chip) (n : Nat) (f : Tracker → Tracker) : (c.modTracker n f).rind = c.rind := rfl
@[simp] theorem modTracker_therm (c : Chip) (n : Nat) (f : Tracker → Tracker) : (c.modTracker n f).therm = c.therm := rfl
@[simp] theorem modTracker_pu (c : Chip) (n : Nat) (f : Tracker → Tracker) : (c.modTracker n f).pu = c.pu := rfl
@[simp] theorem modTracker_hop (c : Chip) (n : Nat) (f : Tracker → Tracker) : (c.modTracker n f).hop = c.hop := rfl
@[simp] theorem modTracker_safe (c : Chip) (n : Nat) (f : Tracker → Tracker) : (c.modTracker n f).safe = c.safe := rfl
@[simp] theorem modTracker_meter (c : Chip) (n : Nat) (f : Tracker → Tracker) : (c.modTracker n f).meter = c.meter := rfl
@[simp] theorem modTracker_nvm (c : Chip) (n : Nat) (f : Tracker → Tracker) : (c.modTracker n f).nvm = c.nvm := rfl
@[simp] theorem modTracker_bist (c : Chip) (n : Nat) (f : Tracker → Tracker) : (c.modTracker n f).bist = c.bist := rfl
@[simp] theorem modKerf_rd (c : Chip) (n : Nat) (f : Kerf → Kerf) (k : Nat) : (c.modKerf n f).rd k = c.rd k := rfl
@[simp] theorem modKerf_get (c : Chip) (n : Nat) (f : Kerf → Kerf) (g : Fld) : (c.modKerf n f).get g = c.get g := rfl
@[simp] theorem modKerf_is (c : Chip) (n : Nat) (f : Kerf → Kerf) (g : Fld) : (c.modKerf n f).is g = c.is g := rfl
@[simp] theorem modKerf_geti (c : Chip) (n : Nat) (f : Kerf → Kerf) (g : Fld) : (c.modKerf n f).geti g = c.geti g := rfl
@[simp] theorem modKerf_mode (c : Chip) (n : Nat) (f : Kerf → Kerf) : (c.modKerf n f).mode = c.mode := rfl
@[simp] theorem modKerf_now (c : Chip) (n : Nat) (f : Kerf → Kerf) : (c.modKerf n f).now = c.now := rfl
@[simp] theorem modKerf_fnow (c : Chip) (n : Nat) (f : Kerf → Kerf) : (c.modKerf n f).fnow = c.fnow := rfl
@[simp] theorem modKerf_regs (c : Chip) (n : Nat) (f : Kerf → Kerf) : (c.modKerf n f).regs = c.regs := rfl
@[simp] theorem modKerf_lanes (c : Chip) (n : Nat) (f : Kerf → Kerf) : (c.modKerf n f).lanes = c.lanes := rfl
@[simp] theorem modKerf_zmem (c : Chip) (n : Nat) (f : Kerf → Kerf) : (c.modKerf n f).zmem = c.zmem := rfl
@[simp] theorem modKerf_store (c : Chip) (n : Nat) (f : Kerf → Kerf) : (c.modKerf n f).store = c.store := rfl
@[simp] theorem modKerf_fuses (c : Chip) (n : Nat) (f : Kerf → Kerf) : (c.modKerf n f).fuses = c.fuses := rfl
@[simp] theorem modKerf_ms (c : Chip) (n : Nat) (f : Kerf → Kerf) : (c.modKerf n f).ms = c.ms := rfl
@[simp] theorem modKerf_link (c : Chip) (n : Nat) (f : Kerf → Kerf) : (c.modKerf n f).link = c.link := rfl
@[simp] theorem modKerf_clk (c : Chip) (n : Nat) (f : Kerf → Kerf) : (c.modKerf n f).clk = c.clk := rfl
@[simp] theorem modKerf_time (c : Chip) (n : Nat) (f : Kerf → Kerf) : (c.modKerf n f).time = c.time := rfl
@[simp] theorem modKerf_trackers (c : Chip) (n : Nat) (f : Kerf → Kerf) : (c.modKerf n f).trackers = c.trackers := rfl
@[simp] theorem modKerf_adc (c : Chip) (n : Nat) (f : Kerf → Kerf) : (c.modKerf n f).adc = c.adc := rfl
@[simp] theorem modKerf_pwmG (c : Chip) (n : Nat) (f : Kerf → Kerf) : (c.modKerf n f).pwmG = c.pwmG := rfl
@[simp] theorem modKerf_pwmL (c : Chip) (n : Nat) (f : Kerf → Kerf) : (c.modKerf n f).pwmL = c.pwmL := rfl
@[simp] theorem modKerf_gdsG (c : Chip) (n : Nat) (f : Kerf → Kerf) : (c.modKerf n f).gdsG = c.gdsG := rfl
@[simp] theorem modKerf_gdsL (c : Chip) (n : Nat) (f : Kerf → Kerf) : (c.modKerf n f).gdsL = c.gdsL := rfl
@[simp] theorem modKerf_freeCtr (c : Chip) (n : Nat) (f : Kerf → Kerf) : (c.modKerf n f).freeCtr = c.freeCtr := rfl
@[simp] theorem modKerf_window (c : Chip) (n : Nat) (f : Kerf → Kerf) : (c.modKerf n f).window = c.window := rfl
@[simp] theorem modKerf_obs (c : Chip) (n : Nat) (f : Kerf → Kerf) : (c.modKerf n f).obs = c.obs := rfl
@[simp] theorem modKerf_notices (c : Chip) (n : Nat) (f : Kerf → Kerf) : (c.modKerf n f).notices = c.notices := rfl
@[simp] theorem modKerf_repairs (c : Chip) (n : Nat) (f : Kerf → Kerf) : (c.modKerf n f).repairs = c.repairs := rfl
@[simp] theorem modKerf_sto (c : Chip) (n : Nat) (f : Kerf → Kerf) : (c.modKerf n f).sto = c.sto := rfl
@[simp] theorem modKerf_zen (c : Chip) (n : Nat) (f : Kerf → Kerf) : (c.modKerf n f).zen = c.zen := rfl
@[simp] theorem modKerf_axes (c : Chip) (n : Nat) (f : Kerf → Kerf) : (c.modKerf n f).axes = c.axes := rfl
@[simp] theorem modKerf_conv (c : Chip) (n : Nat) (f : Kerf → Kerf) : (c.modKerf n f).conv = c.conv := rfl
@[simp] theorem modKerf_prot (c : Chip) (n : Nat) (f : Kerf → Kerf) : (c.modKerf n f).prot = c.prot := rfl
@[simp] theorem modKerf_fine (c : Chip) (n : Nat) (f : Kerf → Kerf) : (c.modKerf n f).fine = c.fine := rfl
@[simp] theorem modKerf_up (c : Chip) (n : Nat) (f : Kerf → Kerf) : (c.modKerf n f).up = c.up := rfl
@[simp] theorem modKerf_rind (c : Chip) (n : Nat) (f : Kerf → Kerf) : (c.modKerf n f).rind = c.rind := rfl
@[simp] theorem modKerf_therm (c : Chip) (n : Nat) (f : Kerf → Kerf) : (c.modKerf n f).therm = c.therm := rfl
@[simp] theorem modKerf_pu (c : Chip) (n : Nat) (f : Kerf → Kerf) : (c.modKerf n f).pu = c.pu := rfl
@[simp] theorem modKerf_hop (c : Chip) (n : Nat) (f : Kerf → Kerf) : (c.modKerf n f).hop = c.hop := rfl
@[simp] theorem modKerf_safe (c : Chip) (n : Nat) (f : Kerf → Kerf) : (c.modKerf n f).safe = c.safe := rfl
@[simp] theorem modKerf_meter (c : Chip) (n : Nat) (f : Kerf → Kerf) : (c.modKerf n f).meter = c.meter := rfl
@[simp] theorem modKerf_nvm (c : Chip) (n : Nat) (f : Kerf → Kerf) : (c.modKerf n f).nvm = c.nvm := rfl
@[simp] theorem modKerf_bist (c : Chip) (n : Nat) (f : Kerf → Kerf) : (c.modKerf n f).bist = c.bist := rfl
@[simp] theorem modPwmg_rd (c : Chip) (n : Nat) (f : PwmGroup → PwmGroup) (k : Nat) : (c.modPwmg n f).rd k = c.rd k := rfl
@[simp] theorem modPwmg_get (c : Chip) (n : Nat) (f : PwmGroup → PwmGroup) (g : Fld) : (c.modPwmg n f).get g = c.get g := rfl
@[simp] theorem modPwmg_is (c : Chip) (n : Nat) (f : PwmGroup → PwmGroup) (g : Fld) : (c.modPwmg n f).is g = c.is g := rfl
@[simp] theorem modPwmg_geti (c : Chip) (n : Nat) (f : PwmGroup → PwmGroup) (g : Fld) : (c.modPwmg n f).geti g = c.geti g := rfl
@[simp] theorem modPwmg_mode (c : Chip) (n : Nat) (f : PwmGroup → PwmGroup) : (c.modPwmg n f).mode = c.mode := rfl
@[simp] theorem modPwmg_now (c : Chip) (n : Nat) (f : PwmGroup → PwmGroup) : (c.modPwmg n f).now = c.now := rfl
@[simp] theorem modPwmg_fnow (c : Chip) (n : Nat) (f : PwmGroup → PwmGroup) : (c.modPwmg n f).fnow = c.fnow := rfl
@[simp] theorem modPwmg_regs (c : Chip) (n : Nat) (f : PwmGroup → PwmGroup) : (c.modPwmg n f).regs = c.regs := rfl
@[simp] theorem modPwmg_lanes (c : Chip) (n : Nat) (f : PwmGroup → PwmGroup) : (c.modPwmg n f).lanes = c.lanes := rfl
@[simp] theorem modPwmg_zmem (c : Chip) (n : Nat) (f : PwmGroup → PwmGroup) : (c.modPwmg n f).zmem = c.zmem := rfl
@[simp] theorem modPwmg_store (c : Chip) (n : Nat) (f : PwmGroup → PwmGroup) : (c.modPwmg n f).store = c.store := rfl
@[simp] theorem modPwmg_fuses (c : Chip) (n : Nat) (f : PwmGroup → PwmGroup) : (c.modPwmg n f).fuses = c.fuses := rfl
@[simp] theorem modPwmg_ms (c : Chip) (n : Nat) (f : PwmGroup → PwmGroup) : (c.modPwmg n f).ms = c.ms := rfl
@[simp] theorem modPwmg_link (c : Chip) (n : Nat) (f : PwmGroup → PwmGroup) : (c.modPwmg n f).link = c.link := rfl
@[simp] theorem modPwmg_clk (c : Chip) (n : Nat) (f : PwmGroup → PwmGroup) : (c.modPwmg n f).clk = c.clk := rfl
@[simp] theorem modPwmg_time (c : Chip) (n : Nat) (f : PwmGroup → PwmGroup) : (c.modPwmg n f).time = c.time := rfl
@[simp] theorem modPwmg_trackers (c : Chip) (n : Nat) (f : PwmGroup → PwmGroup) : (c.modPwmg n f).trackers = c.trackers := rfl
@[simp] theorem modPwmg_kerfs (c : Chip) (n : Nat) (f : PwmGroup → PwmGroup) : (c.modPwmg n f).kerfs = c.kerfs := rfl
@[simp] theorem modPwmg_adc (c : Chip) (n : Nat) (f : PwmGroup → PwmGroup) : (c.modPwmg n f).adc = c.adc := rfl
@[simp] theorem modPwmg_pwmL (c : Chip) (n : Nat) (f : PwmGroup → PwmGroup) : (c.modPwmg n f).pwmL = c.pwmL := rfl
@[simp] theorem modPwmg_gdsG (c : Chip) (n : Nat) (f : PwmGroup → PwmGroup) : (c.modPwmg n f).gdsG = c.gdsG := rfl
@[simp] theorem modPwmg_gdsL (c : Chip) (n : Nat) (f : PwmGroup → PwmGroup) : (c.modPwmg n f).gdsL = c.gdsL := rfl
@[simp] theorem modPwmg_freeCtr (c : Chip) (n : Nat) (f : PwmGroup → PwmGroup) : (c.modPwmg n f).freeCtr = c.freeCtr := rfl
@[simp] theorem modPwmg_window (c : Chip) (n : Nat) (f : PwmGroup → PwmGroup) : (c.modPwmg n f).window = c.window := rfl
@[simp] theorem modPwmg_obs (c : Chip) (n : Nat) (f : PwmGroup → PwmGroup) : (c.modPwmg n f).obs = c.obs := rfl
@[simp] theorem modPwmg_notices (c : Chip) (n : Nat) (f : PwmGroup → PwmGroup) : (c.modPwmg n f).notices = c.notices := rfl
@[simp] theorem modPwmg_repairs (c : Chip) (n : Nat) (f : PwmGroup → PwmGroup) : (c.modPwmg n f).repairs = c.repairs := rfl
@[simp] theorem modPwmg_sto (c : Chip) (n : Nat) (f : PwmGroup → PwmGroup) : (c.modPwmg n f).sto = c.sto := rfl
@[simp] theorem modPwmg_zen (c : Chip) (n : Nat) (f : PwmGroup → PwmGroup) : (c.modPwmg n f).zen = c.zen := rfl
@[simp] theorem modPwmg_axes (c : Chip) (n : Nat) (f : PwmGroup → PwmGroup) : (c.modPwmg n f).axes = c.axes := rfl
@[simp] theorem modPwmg_conv (c : Chip) (n : Nat) (f : PwmGroup → PwmGroup) : (c.modPwmg n f).conv = c.conv := rfl
@[simp] theorem modPwmg_prot (c : Chip) (n : Nat) (f : PwmGroup → PwmGroup) : (c.modPwmg n f).prot = c.prot := rfl
@[simp] theorem modPwmg_fine (c : Chip) (n : Nat) (f : PwmGroup → PwmGroup) : (c.modPwmg n f).fine = c.fine := rfl
@[simp] theorem modPwmg_up (c : Chip) (n : Nat) (f : PwmGroup → PwmGroup) : (c.modPwmg n f).up = c.up := rfl
@[simp] theorem modPwmg_rind (c : Chip) (n : Nat) (f : PwmGroup → PwmGroup) : (c.modPwmg n f).rind = c.rind := rfl
@[simp] theorem modPwmg_therm (c : Chip) (n : Nat) (f : PwmGroup → PwmGroup) : (c.modPwmg n f).therm = c.therm := rfl
@[simp] theorem modPwmg_pu (c : Chip) (n : Nat) (f : PwmGroup → PwmGroup) : (c.modPwmg n f).pu = c.pu := rfl
@[simp] theorem modPwmg_hop (c : Chip) (n : Nat) (f : PwmGroup → PwmGroup) : (c.modPwmg n f).hop = c.hop := rfl
@[simp] theorem modPwmg_safe (c : Chip) (n : Nat) (f : PwmGroup → PwmGroup) : (c.modPwmg n f).safe = c.safe := rfl
@[simp] theorem modPwmg_meter (c : Chip) (n : Nat) (f : PwmGroup → PwmGroup) : (c.modPwmg n f).meter = c.meter := rfl
@[simp] theorem modPwmg_nvm (c : Chip) (n : Nat) (f : PwmGroup → PwmGroup) : (c.modPwmg n f).nvm = c.nvm := rfl
@[simp] theorem modPwmg_bist (c : Chip) (n : Nat) (f : PwmGroup → PwmGroup) : (c.modPwmg n f).bist = c.bist := rfl
@[simp] theorem modLeg_rd (c : Chip) (n : Nat) (f : PwmLeg → PwmLeg) (k : Nat) : (c.modLeg n f).rd k = c.rd k := rfl
@[simp] theorem modLeg_get (c : Chip) (n : Nat) (f : PwmLeg → PwmLeg) (g : Fld) : (c.modLeg n f).get g = c.get g := rfl
@[simp] theorem modLeg_is (c : Chip) (n : Nat) (f : PwmLeg → PwmLeg) (g : Fld) : (c.modLeg n f).is g = c.is g := rfl
@[simp] theorem modLeg_geti (c : Chip) (n : Nat) (f : PwmLeg → PwmLeg) (g : Fld) : (c.modLeg n f).geti g = c.geti g := rfl
@[simp] theorem modLeg_mode (c : Chip) (n : Nat) (f : PwmLeg → PwmLeg) : (c.modLeg n f).mode = c.mode := rfl
@[simp] theorem modLeg_now (c : Chip) (n : Nat) (f : PwmLeg → PwmLeg) : (c.modLeg n f).now = c.now := rfl
@[simp] theorem modLeg_fnow (c : Chip) (n : Nat) (f : PwmLeg → PwmLeg) : (c.modLeg n f).fnow = c.fnow := rfl
@[simp] theorem modLeg_regs (c : Chip) (n : Nat) (f : PwmLeg → PwmLeg) : (c.modLeg n f).regs = c.regs := rfl
@[simp] theorem modLeg_lanes (c : Chip) (n : Nat) (f : PwmLeg → PwmLeg) : (c.modLeg n f).lanes = c.lanes := rfl
@[simp] theorem modLeg_zmem (c : Chip) (n : Nat) (f : PwmLeg → PwmLeg) : (c.modLeg n f).zmem = c.zmem := rfl
@[simp] theorem modLeg_store (c : Chip) (n : Nat) (f : PwmLeg → PwmLeg) : (c.modLeg n f).store = c.store := rfl
@[simp] theorem modLeg_fuses (c : Chip) (n : Nat) (f : PwmLeg → PwmLeg) : (c.modLeg n f).fuses = c.fuses := rfl
@[simp] theorem modLeg_ms (c : Chip) (n : Nat) (f : PwmLeg → PwmLeg) : (c.modLeg n f).ms = c.ms := rfl
@[simp] theorem modLeg_link (c : Chip) (n : Nat) (f : PwmLeg → PwmLeg) : (c.modLeg n f).link = c.link := rfl
@[simp] theorem modLeg_clk (c : Chip) (n : Nat) (f : PwmLeg → PwmLeg) : (c.modLeg n f).clk = c.clk := rfl
@[simp] theorem modLeg_time (c : Chip) (n : Nat) (f : PwmLeg → PwmLeg) : (c.modLeg n f).time = c.time := rfl
@[simp] theorem modLeg_trackers (c : Chip) (n : Nat) (f : PwmLeg → PwmLeg) : (c.modLeg n f).trackers = c.trackers := rfl
@[simp] theorem modLeg_kerfs (c : Chip) (n : Nat) (f : PwmLeg → PwmLeg) : (c.modLeg n f).kerfs = c.kerfs := rfl
@[simp] theorem modLeg_adc (c : Chip) (n : Nat) (f : PwmLeg → PwmLeg) : (c.modLeg n f).adc = c.adc := rfl
@[simp] theorem modLeg_pwmG (c : Chip) (n : Nat) (f : PwmLeg → PwmLeg) : (c.modLeg n f).pwmG = c.pwmG := rfl
@[simp] theorem modLeg_gdsG (c : Chip) (n : Nat) (f : PwmLeg → PwmLeg) : (c.modLeg n f).gdsG = c.gdsG := rfl
@[simp] theorem modLeg_gdsL (c : Chip) (n : Nat) (f : PwmLeg → PwmLeg) : (c.modLeg n f).gdsL = c.gdsL := rfl
@[simp] theorem modLeg_freeCtr (c : Chip) (n : Nat) (f : PwmLeg → PwmLeg) : (c.modLeg n f).freeCtr = c.freeCtr := rfl
@[simp] theorem modLeg_window (c : Chip) (n : Nat) (f : PwmLeg → PwmLeg) : (c.modLeg n f).window = c.window := rfl
@[simp] theorem modLeg_obs (c : Chip) (n : Nat) (f : PwmLeg → PwmLeg) : (c.modLeg n f).obs = c.obs := rfl
@[simp] theorem modLeg_notices (c : Chip) (n : Nat) (f : PwmLeg → PwmLeg) : (c.modLeg n f).notices = c.notices := rfl
@[simp] theorem modLeg_repairs (c : Chip) (n : Nat) (f : PwmLeg → PwmLeg) : (c.modLeg n f).repairs = c.repairs := rfl
@[simp] theorem modLeg_sto (c : Chip) (n : Nat) (f : PwmLeg → PwmLeg) : (c.modLeg n f).sto = c.sto := rfl
@[simp] theorem modLeg_zen (c : Chip) (n : Nat) (f : PwmLeg → PwmLeg) : (c.modLeg n f).zen = c.zen := rfl
@[simp] theorem modLeg_axes (c : Chip) (n : Nat) (f : PwmLeg → PwmLeg) : (c.modLeg n f).axes = c.axes := rfl
@[simp] theorem modLeg_conv (c : Chip) (n : Nat) (f : PwmLeg → PwmLeg) : (c.modLeg n f).conv = c.conv := rfl
@[simp] theorem modLeg_prot (c : Chip) (n : Nat) (f : PwmLeg → PwmLeg) : (c.modLeg n f).prot = c.prot := rfl
@[simp] theorem modLeg_fine (c : Chip) (n : Nat) (f : PwmLeg → PwmLeg) : (c.modLeg n f).fine = c.fine := rfl
@[simp] theorem modLeg_up (c : Chip) (n : Nat) (f : PwmLeg → PwmLeg) : (c.modLeg n f).up = c.up := rfl
@[simp] theorem modLeg_rind (c : Chip) (n : Nat) (f : PwmLeg → PwmLeg) : (c.modLeg n f).rind = c.rind := rfl
@[simp] theorem modLeg_therm (c : Chip) (n : Nat) (f : PwmLeg → PwmLeg) : (c.modLeg n f).therm = c.therm := rfl
@[simp] theorem modLeg_pu (c : Chip) (n : Nat) (f : PwmLeg → PwmLeg) : (c.modLeg n f).pu = c.pu := rfl
@[simp] theorem modLeg_hop (c : Chip) (n : Nat) (f : PwmLeg → PwmLeg) : (c.modLeg n f).hop = c.hop := rfl
@[simp] theorem modLeg_safe (c : Chip) (n : Nat) (f : PwmLeg → PwmLeg) : (c.modLeg n f).safe = c.safe := rfl
@[simp] theorem modLeg_meter (c : Chip) (n : Nat) (f : PwmLeg → PwmLeg) : (c.modLeg n f).meter = c.meter := rfl
@[simp] theorem modLeg_nvm (c : Chip) (n : Nat) (f : PwmLeg → PwmLeg) : (c.modLeg n f).nvm = c.nvm := rfl
@[simp] theorem modLeg_bist (c : Chip) (n : Nat) (f : PwmLeg → PwmLeg) : (c.modLeg n f).bist = c.bist := rfl
@[simp] theorem modGdsg_rd (c : Chip) (n : Nat) (f : GdsGroup → GdsGroup) (k : Nat) : (c.modGdsg n f).rd k = c.rd k := rfl
@[simp] theorem modGdsg_get (c : Chip) (n : Nat) (f : GdsGroup → GdsGroup) (g : Fld) : (c.modGdsg n f).get g = c.get g := rfl
@[simp] theorem modGdsg_is (c : Chip) (n : Nat) (f : GdsGroup → GdsGroup) (g : Fld) : (c.modGdsg n f).is g = c.is g := rfl
@[simp] theorem modGdsg_geti (c : Chip) (n : Nat) (f : GdsGroup → GdsGroup) (g : Fld) : (c.modGdsg n f).geti g = c.geti g := rfl
@[simp] theorem modGdsg_mode (c : Chip) (n : Nat) (f : GdsGroup → GdsGroup) : (c.modGdsg n f).mode = c.mode := rfl
@[simp] theorem modGdsg_now (c : Chip) (n : Nat) (f : GdsGroup → GdsGroup) : (c.modGdsg n f).now = c.now := rfl
@[simp] theorem modGdsg_fnow (c : Chip) (n : Nat) (f : GdsGroup → GdsGroup) : (c.modGdsg n f).fnow = c.fnow := rfl
@[simp] theorem modGdsg_regs (c : Chip) (n : Nat) (f : GdsGroup → GdsGroup) : (c.modGdsg n f).regs = c.regs := rfl
@[simp] theorem modGdsg_lanes (c : Chip) (n : Nat) (f : GdsGroup → GdsGroup) : (c.modGdsg n f).lanes = c.lanes := rfl
@[simp] theorem modGdsg_zmem (c : Chip) (n : Nat) (f : GdsGroup → GdsGroup) : (c.modGdsg n f).zmem = c.zmem := rfl
@[simp] theorem modGdsg_store (c : Chip) (n : Nat) (f : GdsGroup → GdsGroup) : (c.modGdsg n f).store = c.store := rfl
@[simp] theorem modGdsg_fuses (c : Chip) (n : Nat) (f : GdsGroup → GdsGroup) : (c.modGdsg n f).fuses = c.fuses := rfl
@[simp] theorem modGdsg_ms (c : Chip) (n : Nat) (f : GdsGroup → GdsGroup) : (c.modGdsg n f).ms = c.ms := rfl
@[simp] theorem modGdsg_link (c : Chip) (n : Nat) (f : GdsGroup → GdsGroup) : (c.modGdsg n f).link = c.link := rfl
@[simp] theorem modGdsg_clk (c : Chip) (n : Nat) (f : GdsGroup → GdsGroup) : (c.modGdsg n f).clk = c.clk := rfl
@[simp] theorem modGdsg_time (c : Chip) (n : Nat) (f : GdsGroup → GdsGroup) : (c.modGdsg n f).time = c.time := rfl
@[simp] theorem modGdsg_trackers (c : Chip) (n : Nat) (f : GdsGroup → GdsGroup) : (c.modGdsg n f).trackers = c.trackers := rfl
@[simp] theorem modGdsg_kerfs (c : Chip) (n : Nat) (f : GdsGroup → GdsGroup) : (c.modGdsg n f).kerfs = c.kerfs := rfl
@[simp] theorem modGdsg_adc (c : Chip) (n : Nat) (f : GdsGroup → GdsGroup) : (c.modGdsg n f).adc = c.adc := rfl
@[simp] theorem modGdsg_pwmG (c : Chip) (n : Nat) (f : GdsGroup → GdsGroup) : (c.modGdsg n f).pwmG = c.pwmG := rfl
@[simp] theorem modGdsg_pwmL (c : Chip) (n : Nat) (f : GdsGroup → GdsGroup) : (c.modGdsg n f).pwmL = c.pwmL := rfl
@[simp] theorem modGdsg_gdsL (c : Chip) (n : Nat) (f : GdsGroup → GdsGroup) : (c.modGdsg n f).gdsL = c.gdsL := rfl
@[simp] theorem modGdsg_freeCtr (c : Chip) (n : Nat) (f : GdsGroup → GdsGroup) : (c.modGdsg n f).freeCtr = c.freeCtr := rfl
@[simp] theorem modGdsg_window (c : Chip) (n : Nat) (f : GdsGroup → GdsGroup) : (c.modGdsg n f).window = c.window := rfl
@[simp] theorem modGdsg_obs (c : Chip) (n : Nat) (f : GdsGroup → GdsGroup) : (c.modGdsg n f).obs = c.obs := rfl
@[simp] theorem modGdsg_notices (c : Chip) (n : Nat) (f : GdsGroup → GdsGroup) : (c.modGdsg n f).notices = c.notices := rfl
@[simp] theorem modGdsg_repairs (c : Chip) (n : Nat) (f : GdsGroup → GdsGroup) : (c.modGdsg n f).repairs = c.repairs := rfl
@[simp] theorem modGdsg_sto (c : Chip) (n : Nat) (f : GdsGroup → GdsGroup) : (c.modGdsg n f).sto = c.sto := rfl
@[simp] theorem modGdsg_zen (c : Chip) (n : Nat) (f : GdsGroup → GdsGroup) : (c.modGdsg n f).zen = c.zen := rfl
@[simp] theorem modGdsg_axes (c : Chip) (n : Nat) (f : GdsGroup → GdsGroup) : (c.modGdsg n f).axes = c.axes := rfl
@[simp] theorem modGdsg_conv (c : Chip) (n : Nat) (f : GdsGroup → GdsGroup) : (c.modGdsg n f).conv = c.conv := rfl
@[simp] theorem modGdsg_prot (c : Chip) (n : Nat) (f : GdsGroup → GdsGroup) : (c.modGdsg n f).prot = c.prot := rfl
@[simp] theorem modGdsg_fine (c : Chip) (n : Nat) (f : GdsGroup → GdsGroup) : (c.modGdsg n f).fine = c.fine := rfl
@[simp] theorem modGdsg_up (c : Chip) (n : Nat) (f : GdsGroup → GdsGroup) : (c.modGdsg n f).up = c.up := rfl
@[simp] theorem modGdsg_rind (c : Chip) (n : Nat) (f : GdsGroup → GdsGroup) : (c.modGdsg n f).rind = c.rind := rfl
@[simp] theorem modGdsg_therm (c : Chip) (n : Nat) (f : GdsGroup → GdsGroup) : (c.modGdsg n f).therm = c.therm := rfl
@[simp] theorem modGdsg_pu (c : Chip) (n : Nat) (f : GdsGroup → GdsGroup) : (c.modGdsg n f).pu = c.pu := rfl
@[simp] theorem modGdsg_hop (c : Chip) (n : Nat) (f : GdsGroup → GdsGroup) : (c.modGdsg n f).hop = c.hop := rfl
@[simp] theorem modGdsg_safe (c : Chip) (n : Nat) (f : GdsGroup → GdsGroup) : (c.modGdsg n f).safe = c.safe := rfl
@[simp] theorem modGdsg_meter (c : Chip) (n : Nat) (f : GdsGroup → GdsGroup) : (c.modGdsg n f).meter = c.meter := rfl
@[simp] theorem modGdsg_nvm (c : Chip) (n : Nat) (f : GdsGroup → GdsGroup) : (c.modGdsg n f).nvm = c.nvm := rfl
@[simp] theorem modGdsg_bist (c : Chip) (n : Nat) (f : GdsGroup → GdsGroup) : (c.modGdsg n f).bist = c.bist := rfl
@[simp] theorem modGdsl_rd (c : Chip) (n : Nat) (f : GdsLeg → GdsLeg) (k : Nat) : (c.modGdsl n f).rd k = c.rd k := rfl
@[simp] theorem modGdsl_get (c : Chip) (n : Nat) (f : GdsLeg → GdsLeg) (g : Fld) : (c.modGdsl n f).get g = c.get g := rfl
@[simp] theorem modGdsl_is (c : Chip) (n : Nat) (f : GdsLeg → GdsLeg) (g : Fld) : (c.modGdsl n f).is g = c.is g := rfl
@[simp] theorem modGdsl_geti (c : Chip) (n : Nat) (f : GdsLeg → GdsLeg) (g : Fld) : (c.modGdsl n f).geti g = c.geti g := rfl
@[simp] theorem modGdsl_mode (c : Chip) (n : Nat) (f : GdsLeg → GdsLeg) : (c.modGdsl n f).mode = c.mode := rfl
@[simp] theorem modGdsl_now (c : Chip) (n : Nat) (f : GdsLeg → GdsLeg) : (c.modGdsl n f).now = c.now := rfl
@[simp] theorem modGdsl_fnow (c : Chip) (n : Nat) (f : GdsLeg → GdsLeg) : (c.modGdsl n f).fnow = c.fnow := rfl
@[simp] theorem modGdsl_regs (c : Chip) (n : Nat) (f : GdsLeg → GdsLeg) : (c.modGdsl n f).regs = c.regs := rfl
@[simp] theorem modGdsl_lanes (c : Chip) (n : Nat) (f : GdsLeg → GdsLeg) : (c.modGdsl n f).lanes = c.lanes := rfl
@[simp] theorem modGdsl_zmem (c : Chip) (n : Nat) (f : GdsLeg → GdsLeg) : (c.modGdsl n f).zmem = c.zmem := rfl
@[simp] theorem modGdsl_store (c : Chip) (n : Nat) (f : GdsLeg → GdsLeg) : (c.modGdsl n f).store = c.store := rfl
@[simp] theorem modGdsl_fuses (c : Chip) (n : Nat) (f : GdsLeg → GdsLeg) : (c.modGdsl n f).fuses = c.fuses := rfl
@[simp] theorem modGdsl_ms (c : Chip) (n : Nat) (f : GdsLeg → GdsLeg) : (c.modGdsl n f).ms = c.ms := rfl
@[simp] theorem modGdsl_link (c : Chip) (n : Nat) (f : GdsLeg → GdsLeg) : (c.modGdsl n f).link = c.link := rfl
@[simp] theorem modGdsl_clk (c : Chip) (n : Nat) (f : GdsLeg → GdsLeg) : (c.modGdsl n f).clk = c.clk := rfl
@[simp] theorem modGdsl_time (c : Chip) (n : Nat) (f : GdsLeg → GdsLeg) : (c.modGdsl n f).time = c.time := rfl
@[simp] theorem modGdsl_trackers (c : Chip) (n : Nat) (f : GdsLeg → GdsLeg) : (c.modGdsl n f).trackers = c.trackers := rfl
@[simp] theorem modGdsl_kerfs (c : Chip) (n : Nat) (f : GdsLeg → GdsLeg) : (c.modGdsl n f).kerfs = c.kerfs := rfl
@[simp] theorem modGdsl_adc (c : Chip) (n : Nat) (f : GdsLeg → GdsLeg) : (c.modGdsl n f).adc = c.adc := rfl
@[simp] theorem modGdsl_pwmG (c : Chip) (n : Nat) (f : GdsLeg → GdsLeg) : (c.modGdsl n f).pwmG = c.pwmG := rfl
@[simp] theorem modGdsl_pwmL (c : Chip) (n : Nat) (f : GdsLeg → GdsLeg) : (c.modGdsl n f).pwmL = c.pwmL := rfl
@[simp] theorem modGdsl_gdsG (c : Chip) (n : Nat) (f : GdsLeg → GdsLeg) : (c.modGdsl n f).gdsG = c.gdsG := rfl
@[simp] theorem modGdsl_freeCtr (c : Chip) (n : Nat) (f : GdsLeg → GdsLeg) : (c.modGdsl n f).freeCtr = c.freeCtr := rfl
@[simp] theorem modGdsl_window (c : Chip) (n : Nat) (f : GdsLeg → GdsLeg) : (c.modGdsl n f).window = c.window := rfl
@[simp] theorem modGdsl_obs (c : Chip) (n : Nat) (f : GdsLeg → GdsLeg) : (c.modGdsl n f).obs = c.obs := rfl
@[simp] theorem modGdsl_notices (c : Chip) (n : Nat) (f : GdsLeg → GdsLeg) : (c.modGdsl n f).notices = c.notices := rfl
@[simp] theorem modGdsl_repairs (c : Chip) (n : Nat) (f : GdsLeg → GdsLeg) : (c.modGdsl n f).repairs = c.repairs := rfl
@[simp] theorem modGdsl_sto (c : Chip) (n : Nat) (f : GdsLeg → GdsLeg) : (c.modGdsl n f).sto = c.sto := rfl
@[simp] theorem modGdsl_zen (c : Chip) (n : Nat) (f : GdsLeg → GdsLeg) : (c.modGdsl n f).zen = c.zen := rfl
@[simp] theorem modGdsl_axes (c : Chip) (n : Nat) (f : GdsLeg → GdsLeg) : (c.modGdsl n f).axes = c.axes := rfl
@[simp] theorem modGdsl_conv (c : Chip) (n : Nat) (f : GdsLeg → GdsLeg) : (c.modGdsl n f).conv = c.conv := rfl
@[simp] theorem modGdsl_prot (c : Chip) (n : Nat) (f : GdsLeg → GdsLeg) : (c.modGdsl n f).prot = c.prot := rfl
@[simp] theorem modGdsl_fine (c : Chip) (n : Nat) (f : GdsLeg → GdsLeg) : (c.modGdsl n f).fine = c.fine := rfl
@[simp] theorem modGdsl_up (c : Chip) (n : Nat) (f : GdsLeg → GdsLeg) : (c.modGdsl n f).up = c.up := rfl
@[simp] theorem modGdsl_rind (c : Chip) (n : Nat) (f : GdsLeg → GdsLeg) : (c.modGdsl n f).rind = c.rind := rfl
@[simp] theorem modGdsl_therm (c : Chip) (n : Nat) (f : GdsLeg → GdsLeg) : (c.modGdsl n f).therm = c.therm := rfl
@[simp] theorem modGdsl_pu (c : Chip) (n : Nat) (f : GdsLeg → GdsLeg) : (c.modGdsl n f).pu = c.pu := rfl
@[simp] theorem modGdsl_hop (c : Chip) (n : Nat) (f : GdsLeg → GdsLeg) : (c.modGdsl n f).hop = c.hop := rfl
@[simp] theorem modGdsl_safe (c : Chip) (n : Nat) (f : GdsLeg → GdsLeg) : (c.modGdsl n f).safe = c.safe := rfl
@[simp] theorem modGdsl_meter (c : Chip) (n : Nat) (f : GdsLeg → GdsLeg) : (c.modGdsl n f).meter = c.meter := rfl
@[simp] theorem modGdsl_nvm (c : Chip) (n : Nat) (f : GdsLeg → GdsLeg) : (c.modGdsl n f).nvm = c.nvm := rfl
@[simp] theorem modGdsl_bist (c : Chip) (n : Nat) (f : GdsLeg → GdsLeg) : (c.modGdsl n f).bist = c.bist := rfl

end Sys2Proof.Machine
end

