-- ==== Sys2Proof/Laws/Link.lean ====
section
/-! SUPPORT. What an occurrence, the reception of a request, and its answer leave alone. -/

namespace Sys2Proof.Machine

/-- An occurrence changes the counters and the Whey port only. -/
theorem Chip.occur_eq (c : Chip) (e : Nat) (i : Option Nat) (d : Word) : ∃ o : Obs, c.occur e i d = { c with obs := o } := by
  simp only [Chip.occur]
  split
  · exact ⟨c.obs, rfl⟩
  · exact ⟨_, rfl⟩

@[simp] theorem Chip.occur_rd (c : Chip) (e : Nat) (i : Option Nat) (d : Word) (a : Nat) : (c.occur e i d).rd a = c.rd a := by
  obtain ⟨o, h⟩ := c.occur_eq e i d; rw [h]; rfl

@[simp] theorem Chip.occur_get (c : Chip) (e : Nat) (i : Option Nat) (d : Word) (f : Fld) : (c.occur e i d).get f = c.get f := by
  simp only [Chip.get, Chip.occur_rd]

@[simp] theorem Chip.occur_is (c : Chip) (e : Nat) (i : Option Nat) (d : Word) (f : Fld) : (c.occur e i d).is f = c.is f := by
  simp only [Chip.is, Chip.occur_get]

@[simp] theorem Chip.occur_mode (c : Chip) (e : Nat) (i : Option Nat) (d : Word) : (c.occur e i d).mode = c.mode := by
  simp only [Chip.mode, Chip.occur_get]

/-- A field of the chip that no occurrence touches. -/
theorem Chip.occur_keeps {α : Type} (p : Chip → α) (hp : ∀ (c : Chip) (o : Obs), p { c with obs := o } = p c) (c : Chip) (e : Nat) (i : Option Nat)
    (d : Word) : p (c.occur e i d) = p c := by
  obtain ⟨o, h⟩ := c.occur_eq e i d; rw [h]; exact hp c o

@[simp] theorem Chip.occur_link (c : Chip) (e : Nat) (i : Option Nat) (d : Word) : (c.occur e i d).link = c.link :=
  Chip.occur_keeps Chip.link (fun _ _ => rfl) c e i d
@[simp] theorem Chip.occur_lanes (c : Chip) (e : Nat) (i : Option Nat) (d : Word) : (c.occur e i d).lanes = c.lanes :=
  Chip.occur_keeps Chip.lanes (fun _ _ => rfl) c e i d
@[simp] theorem Chip.occur_zmem (c : Chip) (e : Nat) (i : Option Nat) (d : Word) : (c.occur e i d).zmem = c.zmem :=
  Chip.occur_keeps Chip.zmem (fun _ _ => rfl) c e i d
@[simp] theorem Chip.occur_store (c : Chip) (e : Nat) (i : Option Nat) (d : Word) : (c.occur e i d).store = c.store :=
  Chip.occur_keeps Chip.store (fun _ _ => rfl) c e i d
@[simp] theorem Chip.occur_notices (c : Chip) (e : Nat) (i : Option Nat) (d : Word) : (c.occur e i d).notices = c.notices :=
  Chip.occur_keeps Chip.notices (fun _ _ => rfl) c e i d
@[simp] theorem Chip.occur_stoField (c : Chip) (e : Nat) (i : Option Nat) (d : Word) : (c.occur e i d).sto = c.sto :=
  Chip.occur_keeps Chip.sto (fun _ _ => rfl) c e i d
@[simp] theorem Chip.occur_rind (c : Chip) (e : Nat) (i : Option Nat) (d : Word) : (c.occur e i d).rind = c.rind :=
  Chip.occur_keeps Chip.rind (fun _ _ => rfl) c e i d
@[simp] theorem Chip.occur_clk (c : Chip) (e : Nat) (i : Option Nat) (d : Word) : (c.occur e i d).clk = c.clk :=
  Chip.occur_keeps Chip.clk (fun _ _ => rfl) c e i d

/-- The reception of a request leaves every word alone. -/
@[simp] theorem heard_rd (op : Nat) (c : Chip) (a : Nat) : (heard op c).rd a = c.rd a := by simp only [heard, Chip.occur_rd, modLink_rd]
@[simp] theorem heard_get (op : Nat) (c : Chip) (f : Fld) : (heard op c).get f = c.get f := by simp only [Chip.get, heard_rd]
@[simp] theorem heard_is (op : Nat) (c : Chip) (f : Fld) : (heard op c).is f = c.is f := by simp only [Chip.is, heard_get]
@[simp] theorem heard_mode (op : Nat) (c : Chip) : (heard op c).mode = c.mode := by simp only [Chip.mode, heard_get]
@[simp] theorem heard_link (op : Nat) (c : Chip) : (heard op c).link = { c.link with skipping := false } := by simp only [heard, Chip.occur_link]; rfl
@[simp] theorem heard_lanes (op : Nat) (c : Chip) : (heard op c).lanes = c.lanes := by simp only [heard, Chip.occur_lanes]; rfl
@[simp] theorem heard_zmem (op : Nat) (c : Chip) : (heard op c).zmem = c.zmem := by simp only [heard, Chip.occur_zmem]; rfl
@[simp] theorem heard_store (op : Nat) (c : Chip) : (heard op c).store = c.store := by simp only [heard, Chip.occur_store]; rfl
@[simp] theorem heard_notices (op : Nat) (c : Chip) : (heard op c).notices = c.notices := by simp only [heard, Chip.occur_notices]; rfl

/-- An answer changes the link only. -/
theorem answer_eq (op : Nat) (q : Req) (r : List Word × Chip) : ∃ l : Link, answer op q r = { r.2 with link := l } := by
  simp only [answer, sendReply, cacheReply, modLink]
  split
  · exact ⟨_, rfl⟩
  · exact ⟨_, rfl⟩

@[simp] theorem answer_rd (op : Nat) (q : Req) (r : List Word × Chip) (a : Nat) : (answer op q r).rd a = r.2.rd a := by
  obtain ⟨l, h⟩ := answer_eq op q r; rw [h]; rfl
@[simp] theorem answer_get (op : Nat) (q : Req) (r : List Word × Chip) (f : Fld) : (answer op q r).get f = r.2.get f := by
  simp only [Chip.get, answer_rd]
@[simp] theorem answer_is (op : Nat) (q : Req) (r : List Word × Chip) (f : Fld) : (answer op q r).is f = r.2.is f := by
  simp only [Chip.is, answer_get]
@[simp] theorem answer_lanes (op : Nat) (q : Req) (r : List Word × Chip) : (answer op q r).lanes = r.2.lanes := by
  obtain ⟨l, h⟩ := answer_eq op q r; rw [h]
@[simp] theorem answer_zmem (op : Nat) (q : Req) (r : List Word × Chip) : (answer op q r).zmem = r.2.zmem := by
  obtain ⟨l, h⟩ := answer_eq op q r; rw [h]
@[simp] theorem answer_store (op : Nat) (q : Req) (r : List Word × Chip) : (answer op q r).store = r.2.store := by
  obtain ⟨l, h⟩ := answer_eq op q r; rw [h]
@[simp] theorem answer_notices (op : Nat) (q : Req) (r : List Word × Chip) : (answer op q r).notices = r.2.notices := by
  obtain ⟨l, h⟩ := answer_eq op q r; rw [h]
/-- The reply that an answer puts on the link. -/
theorem answer_sent (op : Nat) (q : Req) (r : List Word × Chip) :
    (answer op q r).link.sent = replyPacket op q.tag.toNat q.hdr.toNat r.1 :: r.2.link.sent := by
  simp only [answer, sendReply, cacheReply, modLink]
  split <;> rfl

/-- A request that a handler judges. -/
theorem receive_serves {op : Nat} {q : Req} {c : Chip} (f : Handler) (h : serves op q c = true) : receive op f q c = answer op q (f q (heard op c)) := by
  simp only [serves, Bool.and_eq_true, Bool.not_eq_true', Option.isNone_iff_eq_none] at h
  simp only [receive, serve, h.1.1, h.1.2, h.2, if_true, Bool.false_eq_true, if_false]

/-- With no request held, Cellar has none to serve first. -/
theorem serveHeld_of_none {c : Chip} (h : c.link.held = []) : serveHeld c = c := by simp [serveHeld, h, Chip.forN]

/-- A request for Cellar that its handler judges. -/
theorem receiveC_serves {op : Nat} {q : Req} {c : Chip} (f : Handler) (h : servesC op q c = true) :
    receiveC op f q c = answer op q (f q (heard op c)) := by
  simp only [servesC, serves, Bool.and_eq_true, Bool.not_eq_true', Option.isNone_iff_eq_none, List.isEmpty_iff] at h
  obtain ⟨⟨⟨⟨hl, hf⟩, hr⟩, hq⟩, he⟩ := h
  have : (heard op c).link.held = [] := by rw [heard_link]; exact he
  simp only [receiveC, hl, hf, hq, serveHeld_of_none this, serve, hr, Bool.not_true, Bool.false_eq_true, if_false]

/-- A request that the device does not receive. -/
theorem receive_unheard {op : Nat} {q : Req} {c : Chip} (f : Handler) (h : listening q c = false) : receive op f q c = c := by
  simp only [receive, h]; rfl

/-- A request for Cellar that the device does not receive. -/
theorem receiveC_unheard {op : Nat} {q : Req} {c : Chip} (f : Handler) (h : listening q c = false) : receiveC op f q c = c := by
  simp only [receiveC, h]; rfl

/-- A ninth request is discarded. -/
theorem receive_ninth {op : Nat} {q : Req} {c : Chip} (f : Handler) (h : listening q c = true) (hf : heldFull c = true) :
    receive op f q c = overrun (heard op c) := by
  simp only [receive, h, hf, if_true]

/-- A retry that the replay cache answers. -/
theorem receive_replay {op : Nat} {q : Req} {c : Chip} {e : CacheEntry} (f : Handler) (h : listening q c = true) (hf : heldFull c = false)
    (hr : replayOf (heard op c) op q = some e) : receive op f q c = resend op e (heard op c) := by
  simp only [receive, serve, h, hf, hr, if_true, Bool.false_eq_true, if_false]

end Sys2Proof.Machine
end

