-- ==== Sys2Proof/Laws/Sto.lean ====
section
/-! SUPPORT. The STO outputs after the settling that ends every step that can change them: they are safe (R492). -/

namespace Sys2Proof.Machine

theorem foldl_inv {α β γ : Type} (p : α → γ) (f : α → β → α) (h : ∀ a b, p (f a b) = p a) (l : List β) (a : α) : p (l.foldl f a) = p a := by
  induction l generalizing a with
  | nil => rfl
  | cons b l ih => simp only [List.foldl_cons, ih, h]

theorem captureUnit_sto (src : Nat) (r : Bool) (n : Nat) (c : Chip) : (captureUnit src r n c).sto = c.sto := by
  simp only [captureUnit]
  split
  · split <;> split <;> rfl
  · rfl

theorem captureAt_sto (c : Chip) (src : Nat) (r : Bool) : (c.captureAt src r).sto = c.sto :=
  foldl_inv (fun c : Chip => c.sto) _ (fun c n => captureUnit_sto src r n c) _ c

theorem occur_sto (c : Chip) (e : Nat) (i : Option Nat) (d : Word) : (c.occur e i d).sto = c.sto := by
  simp only [Chip.occur]; split <;> rfl

theorem stoFall_sto (c : Chip) : (stoFall c).sto = { c.sto with stoa := false, stob := false } := by
  simp only [stoFall]
  split
  · rw [occur_sto, captureAt_sto]; rfl
  · rfl


theorem anyAsc_congr {c d : Chip} (h : ∀ a, a ≠ 0xC0000 → c.rd a = d.rd a) : anyAsc c = anyAsc d := by
  have hh : ascOn c = ascOn d := by
    funext a
    simp only [ascOn, Chip.get]
    rw [h _ (by simp [F.PRT_SST_STATE]; omega)]
  simp only [anyAsc, hh]

theorem stoMayBeHigh_of (c d : Chip) (hr : ∀ a, a ≠ 0xC0000 → d.rd a = c.rd a) (hs : d.is F.SAF_STAT_SELFOK = c.is F.SAF_STAT_SELFOK)
    (hp : d.is F.SAF_STAT_PSETOK = c.is F.SAF_STAT_PSETOK) (h1 : d.is F.SAF_STAT_SS1RUN = c.is F.SAF_STAT_SS1RUN) (hri : d.rind = c.rind)
    (hk : d.clk = c.clk) (hprot : d.prot = c.prot) (h : stoMayRelease c = true) : stoMayBeHigh d = true := by
  have hpf : ∀ f, d.pf f = c.pf f := fun f => by simp only [Chip.pf, hri]
  have hpb : ∀ f, d.pb f = c.pb f := fun f => by simp only [Chip.pb, hpf]
  have hm : mainReleases d = mainReleases c := by
    simp only [mainReleases, Chip.mode, Chip.is, Chip.get, hr 0x8 (by decide), F.DEV_MODE_MODE, F.DEV_MODE_HOLD, hprot]
  have hf : rindFaulted d = rindFaulted c := by simp only [rindFaulted, hr 0xC0002 (by decide)]
  have hdk : demandKind d = demandKind c := by
    have : sinSs1 d = sinSs1 c := by
      simp only [sinSs1, fnSs1, defaultSs1, Chip.is, Chip.get, hpf]
      congr 1
      funext f
      rw [hr _ (by simp [F.SIN_F_STAT_LATCH]; omega)]
    simp only [demandKind, hr 0xC0001 (by decide), this]
  have hd : ∀ k, deferrable d k = deferrable c k := fun k => by simp only [deferrable, hpb]
  have ha : anyAsc d = anyAsc c := anyAsc_congr hr
  simp only [stoMayBeHigh, demandHolds, hm, hs, hp, hf, hri, hk, hdk, h1, ha, hd, hr 0xC0001 (by decide)]
  simp only [stoMayRelease, deferNow] at h
  revert h
  generalize (List.range 13).all _ = A
  cases mainReleases c <;> cases c.is F.SAF_STAT_SELFOK <;> cases c.is F.SAF_STAT_PSETOK <;> cases rindFaulted c <;> cases c.rind.latch <;>
    cases c.clk.soscStopped <;> cases c.clk.hold <;> cases c.is F.SAF_STAT_SS1RUN <;> cases anyAsc c <;> cases A <;> simp

theorem rindSettle_safe (c : Chip) : stoSafe (rindSettle c) = true := by
  generalize hc0 : (if anyAsc c && demandKind c != 0 then c else modRind (fun r => { r with deferOver := false }) c) = c0
  unfold rindSettle
  rw [hc0]
  simp only []
  have hE : ∀ (b : Bool) (n : Nat) (e b' : Bool), let d := (((c0.setb F.SAF_STAT_DEFER b).set F.SAF_STAT_DKIND n).setb F.SAF_STAT_DEMACT e).setb F.SAF_STAT_STOREQ b'
      (∀ a, a ≠ 0xC0000 → d.rd a = c0.rd a) ∧ d.is F.SAF_STAT_SELFOK = c0.is F.SAF_STAT_SELFOK ∧ d.is F.SAF_STAT_PSETOK = c0.is F.SAF_STAT_PSETOK ∧
        d.is F.SAF_STAT_SS1RUN = c0.is F.SAF_STAT_SS1RUN := by
    intro b n e b' d
    refine ⟨fun a ha => ?_, ?_, ?_, ?_⟩
    · simp only [d]
      rw [Chip.rd_setb_ne _ _ _ (by simpa [F.SAF_STAT_STOREQ] using ha), Chip.rd_setb_ne _ _ _ (by simpa [F.SAF_STAT_DEMACT] using ha), Chip.rd_set_ne _ _ _ (by simpa [F.SAF_STAT_DKIND] using ha), Chip.rd_setb_ne _ _ _ (by simpa [F.SAF_STAT_DEFER] using ha)]
    all_goals
      simp only [d, Chip.is]
      rw [Chip.get_setb_ne _ _ _ _ (by decide), Chip.get_setb_ne _ _ _ _ (by decide), Chip.get_set_ne _ _ _ _ (by decide), Chip.get_setb_ne _ _ _ _ (by decide)]
  have hE := hE (deferNow c0) (demandKind c0) (demandKind c0 != 0) (!stoMayRelease c0)
  have hcomm : ∀ (x : Chip) (t : Sto) (f : Fld) (b : Bool), ({ x with sto := t }).setb f b = { x.setb f b with sto := t } := fun _ _ _ _ => rfl
  rw [hcomm]
  simp only [] at hE
  generalize hd : (((c0.setb F.SAF_STAT_DEFER (deferNow c0)).set F.SAF_STAT_DKIND (demandKind c0)).setb F.SAF_STAT_DEMACT (demandKind c0 != 0)).setb F.SAF_STAT_STOREQ (!stoMayRelease c0) = e at hE ⊢
  have hri : e.rind = c0.rind := by rw [← hd]; rfl
  have hck : e.clk = c0.clk := by rw [← hd]; rfl
  have hprot : e.prot = c0.prot := by rw [← hd]; rfl
  cases hq : stoMayRelease c0
  · simp only [Bool.not_false, if_true, stoSafe]
    split <;> simp [stoFall_sto]
  · have key : ∀ t : Sto, stoMayBeHigh { e with sto := t } = true := fun t => stoMayBeHigh_of c0 _ hE.1 hE.2.1 hE.2.2.1 hE.2.2.2 hri hck hprot hq
    simp only [Bool.not_true, Bool.false_eq_true, if_false, stoSafe]
    split <;> split <;> simp [key]
end Sys2Proof.Machine
end

