-- ==== Sys2Proof/Tests/Slice0.lean ====
section
/-! SUPPORT. Own tests: well-formedness refuses an ill-formed term of each check, worked examples of the spec, and for every statement with hypotheses
states and operands that meet them (a witness for each clause, at boundary values of its range where it has one). -/

open Sys2Proof Sys2Proof.Machine

namespace Sys2Proof.Tests

set_option Elab.async false

/-! ### Helpers -/

/-- A chip after reset that is in the mode of a code and has the fields listed at the values listed. -/
def W (m : Nat) (l : List (Fld × Nat)) : Chip := l.foldl (fun c e => c.set e.1 e.2) (State.reset.chip.set F.DEV_MODE_MODE m)

/-- A chip with fields of the safety parameter set in force at the values listed. -/
def inForce (l : List (Fld × Nat)) (c : Chip) : Chip :=
  let m := l.foldl (fun (x : Chip) e => x.set e.1 e.2) State.reset.chip
  { c with rind := { c.rind with inForce := m.regs } }

/-- A chip in the mode of a code with word lock on the link and the fields listed at the values listed. -/
def L (m : Nat) (l : List (Fld × Nat)) : Chip := W m ((F.DEV_TLK_LOCK, 1) :: l)

/-- A request with tag 7, a header and the payload words listed, its length field to match. -/
def rq (hdr : Nat) (ws : List Nat) : Req := ⟨7, BitVec.ofNat 8 ws.length, BitVec.ofNat 24 hdr, ws.map (BitVec.ofNat 48 ·), false, false, true⟩

/-! ### Well-formedness -/

/-- A payload shorter than the length field says is refused, at length 0 of an opcode that needs a payload too. -/
theorem test_wf_length :
    Instr.wf (.ping ⟨7, 1, 0, [], false, false, true⟩) = false ∧ Instr.wf (.write ⟨7, 0, 0, [], false, false, true⟩) = false ∧ Instr.wf (.ping (rq 0 [])) = true ∧
      Instr.wf (.framingError 0x01 ⟨7, 2, 0, [1], false, false, true⟩ none) = false ∧ Instr.wf (.badCrc 0x01 ⟨7, 2, 0, [1], false, false, true⟩ 0) = false := by decide

/-- A request whose payload names another kind than its row is refused. -/
theorem test_wf_kind :
    Instr.wf (.meterSessionOpen (rq 0 [2])) = false ∧ Instr.wf (.meterSessionOpen (rq 0 [1])) = true ∧
      Instr.wf (.bistRunLane (rq 0 [2 * 2 ^ 44])) = false ∧ Instr.wf (.bistRunScrub (rq 0 [2 * 2 ^ 44])) = true ∧
      Instr.wf (.timeAdjustRate (rq 0 [0])) = false ∧ Instr.wf (.timeAdjustStep (rq 0 [0])) = true := by decide

/-- An assigned opcode is no bad one. -/
theorem test_wf_bad_opcode : Instr.wf (.badOpcode 0x7F (rq 0 [1])) = false ∧ Instr.wf (.badOpcode 0x7E (rq 0 [1])) = true := by decide

/-- A frame of more than 64 bytes of data is refused. -/
theorem test_wf_frame : Instr.wf (.frameReceived 0 0 (List.replicate 12 0) 0) = false ∧ Instr.wf (.frameReceived 0 0 (List.replicate 11 0) 0) = true := by
  decide

/-! ### Worked examples and addresses of the spec -/

/-- R53's worked example: the running values after bytes 1, 2 and the last, and the CRC word of a PING with tag 7. -/
theorem test_crc_ping :
    crcByte 0xFFFFFFFF 0x01 = 0x5AFA20E4 ∧ crcByte 0x5AFA20E4 0x07 = 0x395949E2 ∧ crc32 [0x010700000000] = 0xC8BEAE16 := by decide +kernel

/-- The worked example after R69: EVENT_READ_CLEAR with clear mask 3 returns 3 and clears both bits, and its reply is cached; the retry with tag 0x95 gets the
cached reply, and clears nothing more. -/
theorem test_event_read_clear_and_retry :
    (let c := eventReadClear ⟨0x15, 1, 0, [3], false, false, true⟩ ((L 4 []).wr 0x10 3)
     c.1 = [0, 3] ∧ c.2.rd 0x10 = 0) ∧
    (let c := receive 0x18 eventReadClear ⟨0x15, 1, 0, [3], false, false, true⟩ ((L 4 []).wr 0x10 3)
     let d := receive 0x18 eventReadClear ⟨0x95, 1, 0, [3], true, false, true⟩ (c.wr 0x10 0xF)
     d.rd 0x10 = 0xF ∧ d.link.sent.head? = some (replyPacket 0x18 0x95 0 [0, 3])) := by decide +kernel

/-- The worked example of the first trim: 51,468 cycles in 256 µs move the code from 0x7A3 to 0x789. -/
theorem test_first_trim :
    (trimMeasurement 51468 256000 (W 4 [(F.CLK_STAT_HRDY, 1), (F.CLK_TRIM_CODE, 0x7A3), (F.CLK_STAT_TRIMOK, 0)])).get F.CLK_TRIM_CODE = 0x789 := by
  decide +kernel

/-- The worked example of R400: at 20 kHz with W = 25,600 a duty of 38,400 fine steps is shifted by 44,800 and is on from 665,600 to 704,000. -/
theorem test_shifted_window :
    openingShift 25600 38400 = 44800 ∧ window 1 0 38400 (openingShift 25600 38400) 1280000 = (665600, 704000) := by decide

/-- The worked example of a resistive voltage drop: 312.5 A at E = -36 times 0.015 Ω at F = -45 is 0x4B_0000_0000. -/
theorem test_mul_coef : mulCoef 0x138800000000 (527765581332, -45) = (0x4B00000000, false) := by decide +kernel

/-- The worked example of an adaptive step: 0x0300_0000_0000 has headroom 5, 0xFFF8_0000_0000 has 12, and a word read with k = 5 shifts left. -/
theorem test_headroom : headroom 0x030000000000 = 5 ∧ headroom (-0x000800000000) = 12 ∧ alignTo 0x4B00000000 5 = (0x96000000000, false) := by
  decide +kernel

/-- The worked example of the metrology scaling: MTR.KV 0x4BED is 75 times 2 to the -19, MTR.KI 0x1_77E9 is 375 times 2 to the -23. -/
theorem test_coefficients : coef 0x4BED = (75, -19) ∧ coef 0x177E9 = (375, -23) := by decide

/-- Addresses that the spec's examples name: CNV.A1.PLIM, GDS.L4.A2, the clear word of G2. -/
theorem test_addresses :
    (F.CNV_PLIM_PLIM 1).addr = 0x0A0027 ∧ (F.GDS_L_A_CUR 4 2).addr = 0x060144 ∧ (0x60004 + 0x10 * 2 : Nat) = 0x060024 := by decide

/-- MODE_REQUEST from STANDBY to CONFIG is answered OK, and the device is in CONFIG (R27). -/
theorem test_mode_request_enters_config :
    (modeRequest (rq 0 [2]) (L 4 [])).1 = [0] ∧ (modeRequest (rq 0 [2]) (L 4 [])).2.mode = .config := by decide +kernel

/-- Two waiting commands are served in the order they came, one a step. -/
theorem test_queue_order :
    (match step { chip := W 4 [], pending := [.wordLock, .linkOvr] } with
     | .next t => t.pending == [.linkOvr] && t.chip.is F.DEV_TLK_LOCK && t.chip.get F.DEV_TLK_OVERRUN == 0
     | _ => false) = true := by decide +kernel

/-! ### Witnesses of the statements' hypotheses -/

/-- States meet the hypotheses of the statements about the queue, the triggers and the STO outputs: a command waits, none waits, no trigger stands, and the
outputs are safe while released; a step answers a next state there. -/
theorem wit_queue_triggers_and_sto :
    (let s : State := { chip := { W 6 [(F.SAF_STAT_SELFOK, 1), (F.SAF_STAT_PSETOK, 1)] with sto := { request := false, stoa := true, stob := true } }, pending := [.wordLock] }
     s.pending == [.wordLock] && State.reset.pending == [] && s.chip.notices == [] && stoSafe s.chip && stoSafe State.reset.chip &&
       (match step s with | .next _ => true | _ => false) && (match step State.reset with | .next _ => true | _ => false)) = true := by decide +kernel

/-- Duties meet the hypotheses of WindowsLieInsideThePeriod: 0, the period itself, and a duty inside. -/
theorem wit_WindowsLieInsideThePeriod : 0 ≤ 1280000 ∧ 38400 ≤ 1280000 ∧ 1280000 ≤ 1280000 := by decide

/-- States and operands meet the hypotheses of IdleStepPassesOneCycle. -/
theorem wit_IdleStepPassesOneCycle :
    ([(let c : Chip := { L 4 [] with link := { held := [(1, rq 0 [])] } };
        c.link.held == (1, rq 0 []) :: [] && (W 4 []).link.held == [] && listening { rq 0 [] with later := true } c && !heldFull c && (W 0 []).mode == .reset),
      (let c : Chip := { W 4 [] with clk := { gated := true } };
        c.clk.gated)] : List Bool).all id = true := by decide +kernel

/-- States and operands meet the hypotheses of LinkErrorsAreCountedAndAnswered. -/
theorem wit_LinkErrorsAreCountedAndAnswered :
    ([(let c : Chip := { W 4 [(F.DEV_TLK_OVERRUN, 255), (F.DEV_TLK_CRCERR, 255)] with link := { held := List.replicate 8 (1, rq 0 []) } };
        going c && heldFull c),
      (let c : Chip := L 4 [];
        listening (rq 0 []) c && !assigned 0xFF && !assigned 0x7E && serves 0xFF (rq 0 []) c && serves 0x7E (rq 0 [1]) c),
      (let c : Chip := { L 4 [] with link := { skipping := true } };
        listening { rq 0 [] with gap := true } c)] : List Bool).all id = true := by decide +kernel

/-- States and operands meet the hypotheses of UnheardRequestsChangeNothing. -/
theorem wit_UnheardRequestsChangeNothing :
    ([(let c : Chip := W 4 [];
        !listening (rq 0 []) c),
      (let c : Chip := { L 4 [] with link := { skipping := true } };
        !listening (rq 0 []) c),
      (let c : Chip := L 0 [];
        !listening (rq 0 []) c)] : List Bool).all id = true := by decide +kernel

/-- States and operands meet the hypotheses of RetriesAreAnsweredFromTheCache. -/
theorem wit_RetriesAreAnsweredFromTheCache :
    ([(let c : Chip := { L 4 [] with link := { cache := [⟨0x10, 7, retryCrc 0x10 { rq 0 [7] with tag := 0x87 }, 0, [0]⟩] } };
        listening { rq 0 [7] with tag := 0x87 } c && !heldFull c && c.link.held == [] && (replayOf (heard 0x10 c) 0x10 { rq 0 [7] with tag := 0x87 }).isSome && servesC 0x10 (rq 0 [7]) c && decide (((modeRequest (rq 0 [7]) (heard 0x10 c)).1).length ≤ 16)),
      (let c : Chip := L 4 [];
        servesC 0x12 (rq 0 []) c && decide (16 < (((fun _ c => (List.replicate 17 0, c) : Handler) (rq 0 []) (heard 0x12 c)).1).length) && (rq 0 []).tag.getLsbD 7 == false && serves 0x01 { rq 0 [] with tag := 0x87 } c)] : List Bool).all id = true := by decide +kernel

/-- States and operands meet the hypotheses of PingModeStatusAndReadBlockAnswer. -/
theorem wit_PingModeStatusAndReadBlockAnswer :
    ([(let c : Chip := L 4 [];
        (serves 0x01 (rq 0 []) c && serves 0x11 (rq 0 []) c && serves 0x01 (rq 0 [1]) c && (rq 0 [1]).len != 0 && serves 0x11 (rq 5 []) c && (rq 5 []).hdr != 0 && serves 0x11 (rq 0 [1]) c && serves 0x01 (rq 5 []) c) && (serves 0x04 (rq 0x10 [1]) c && (rq 0x10 [1]).len == 1 && decide (1 ≤ ((rq 0x10 [1]).word 0).toNat) && (blockRefusal 0x10 (readRefusal (heard 0x04 c)) 1).isNone) && (serves 0x04 (rq 0x10 [12]) c && (rq 0x10 [12]).len == 1 && decide (1 ≤ ((rq 0x10 [12]).word 0).toNat) && (blockRefusal 0x10 (readRefusal (heard 0x04 c)) 12).isNone) && (serves 0x04 (rq 0x80000 [255]) c && decide (((rq 0x80000 [255]).word 0).toNat = 255) && (blockRefusal 0x80000 (readRefusal (heard 0x04 c)) 255).isNone))] : List Bool).all id = true := by decide +kernel

/-- States and operands meet the hypotheses of ReadsAnswerTheWordCoherently. -/
theorem wit_ReadsAnswerTheWordCoherently :
    ([(let c : Chip := L 4 [];
        (serves 0x02 (rq 8 []) c && (rq 8 []).len == 0 && (readRefusal (heard 0x02 c) 8).isNone && !latchesRest 8 && c.link.latch.find? (fun e => e.1 == 8) == none && latchesRest 1 && latchesRest 0x100010 && latchesRest 0x100012 && decide (8 < 0x20040) && decide (0x20060 ≤ 0x100012)) && (!meterDenied (heard 0x02 c) 0xFFFFFF && !listed 0xFFFFFF && serves 0x02 (rq 0xFFFFFF []) c && (rq 0xFFFFFF []).len == 0)),
      (let c : Chip := { W 4 [(F.NWT_NCAPn_CTL_VALID 15, 1)] with link := { latch := [(2, 5)] } };
        !latchesRest 2 && c.link.latch.find? (fun e => e.1 == 2) == some (2, 5))] : List Bool).all id = true := by decide +kernel

/-- States and operands meet the hypotheses of WritesStoreTheValue. -/
theorem wit_WritesStoreTheValue :
    ([(let c : Chip := L 2 [];
        serves 0x03 (rq 0x14 [5]) c && (rq 0x14 [5]).len == 1 && (writeFails (heard 0x03 c) 0x14 (BitVec.allOnes 48) 5).isNone && serves 0x06 (rq 0x14 [1, 5]) c && (rq 0x14 [1, 5]).len == 2 && (writeFails (heard 0x06 c) 0x14 1 5).isNone && (writeFails (heard 0x03 c) 0 (BitVec.allOnes 48) 5).isSome && serves 0x03 (rq 0 [5]) c && (writeFails (heard 0x06 c) 0 1 5).isSome && serves 0x06 (rq 0 [1, 5]) c && accepts c 0x14 1 5 && !accepts c 0 1 5 && (wordAt 0x14).isSome && (wordAt 0x110003).isSome && accepts c 0x110003 (BitVec.allOnes 48) 5)] : List Bool).all id = true := by decide +kernel

/-- States and operands meet the hypotheses of FieldsTakeWritesByAccessModeAndSeal. -/
theorem wit_FieldsTakeWritesByAccessModeAndSeal :
    ([(let c : Chip := W 2 [(F.DEV_SEAL_MTROPEN, 1), (F.DEV_SEAL_SINOPEN, 1)];
        sealOpened c true && sealOpened c false && regionOf 0x10000C == 0x10 && regionOf 0xD0010 != 0x10 && [(0, 48), (47, 1), (3, 5)].all (fun e => decide (e.1 + e.2 ≤ 48)) && decide (3 + 5 ≤ 8))] : List Bool).all id = true := by decide +kernel

/-- States and operands meet the hypotheses of BlocksAreWrittenWholeAndCommitsTaken. -/
theorem wit_BlocksAreWrittenWholeAndCommitsTaken :
    ([(let c : Chip := L 2 [];
        serves 0x05 (rq 0x14 [1, 2]) c && (blockRefusal 0x14 (fun b => writeFails (heard 0x05 c) b (BitVec.allOnes 48) ((rq 0x14 [1, 2]).word (b - 0x14))) (rq 0x14 [1, 2]).needed).isNone && serves 0x05 (rq 0 [1]) c && (blockRefusal 0 (fun b => writeFails (heard 0x05 c) b (BitVec.allOnes 48) ((rq 0 [1]).word b)) 1).isSome),
      (let c : Chip := L 4 [];
        serves 0x08 (rq 0x50004 []) c && serves 0x08 (rq 0x500C4 []) c && serves 0x08 (rq 0x30404 []) c && serves 0x08 (rq 0x304A4 []) c && (rq 0x304A4 []).len == 0 && c.mode != .boot && c.mode != .latched && serves 0x08 (rq 1 []) c && commitObject 1 == none),
      (let c : Chip := L 11 [];
        serves 0x08 (rq 0x50004 []) c && c.mode == .latched && (commitObject 0x50004).isSome)] : List Bool).all id = true := by decide +kernel

/-- States and operands meet the hypotheses of EventReadClearAndSetpoint. -/
theorem wit_EventReadClearAndSetpoint :
    ([(let c : Chip := L 7 [];
        serves 0x18 (rq 3 [5]) c && (rq 3 [5]).len == 1 && serves 0x18 (rq 0 [5]) c && serves 0x12 (rq 9 [1, 2]) c && (axesOf 9).length == 2 && (setpointRefusal (heard 0x12 c) 9).isNone && serves 0x12 (rq 9 [1]) c && serves 0x12 (rq 0 []) c && (setpointRefusal (heard 0x12 c) 0).isNone && serves 0x12 (rq 15 [1, 2, 3, 4]) c),
      (let c : Chip := L 4 [];
        serves 0x12 (rq 1 [1]) c && c.mode == .standby && (axesOf 1).length == 1)] : List Bool).all id = true := by decide +kernel

/-- States and operands meet the hypotheses of ModeRequestsAreJudged (part 1). -/
theorem wit_ModeRequestsAreJudged_1 :
    ([(let c : Chip := L 4 [];
        (servesC 0x10 (rq 0 [2]) c && (rq 0 [2]).word 0 &&& 0xFFFFFFFF0000 == 0 && c.mode != .latched && c.mode != .boot && c.mode != .config && !noSuchMode 2 && !shutdownRunning c (mrTarget 2) && !learningEnds c 2 && mayGo c.mode (Mode.ofCode (mrTarget 2)) && lowestReason (conditionReasons c 2) == none && !noSuchMode 4 && Mode.ofCode (mrTarget 4) == c.mode && !mayGo c.mode (Mode.ofCode (mrTarget 9)) && !noSuchMode 9) && ((lowestReason (conditionReasons c 7)).isSome && mayGo c.mode (Mode.ofCode (mrTarget 7)) && !noSuchMode 7 && !shutdownRunning c (mrTarget 7) && !learningEnds c 7) && (c.mode != .latched && c.mode != .boot && noSuchMode 0xB && noSuchMode 1 && noSuchMode 0 && noSuchMode 0xC009 && noSuchMode 0x307)),
      (let c : Chip := L 7 [];
        !noSuchMode 8 && !shutdownRunning c (mrTarget 8) && !learningEnds c 8),
      (let c : Chip := L 8 [];
        !noSuchMode 7 && !shutdownRunning c (mrTarget 7) && !learningEnds c 7),
      (let c : Chip := L 9 [(F.DEV_AXST_SUB 0, 3)];
        c.mode != .latched && !noSuchMode 4 && shutdownRunning c (mrTarget 4)),
      (let c : Chip := { L 2 [(F.SIN_SEC_CONFOK, 1)] with safe := { record := some [] } };
        c.mode == .config && mrTarget 4 == 4 && !c.is F.DEV_CFGCHK_BUSY && lowestReason (conditionReasons (runCheck c) 4) == none),
      (let c : Chip := L 11 [];
        c.mode == .latched)] : List Bool).all id = true := by decide +kernel

/-- States and operands meet the hypotheses of ModeRequestsAreJudged (part 2). -/
theorem wit_ModeRequestsAreJudged_2 :
    ([(let c : Chip := L 1 [];
        c.mode == .boot)] : List Bool).all id = true := by decide +kernel

/-- States and operands meet the hypotheses of ResetFollowsItsReply. -/
theorem wit_ResetFollowsItsReply :
    ([(let c : Chip := { L 4 [] with link := { resetArmed := true } };
        servesC 0x7F (rq 0 [0xFFFFFF]) c && (rq 0 [0xFFFFFF]).len == 1 && c.mode != .boot && c.mode != .latched && (rq 0 [0xFFFFFF]).word 0 == 0xFFFFFF && servesC 0x7F (rq 0 [1]) c && (rq 0 [1]).word 0 != 0xFFFFFF && c.link.resetArmed)] : List Bool).all id = true := by decide +kernel

/-- States and operands meet the hypotheses of DeviceClockAndAcquisitionWritesTakeEffect (part 1). -/
theorem wit_DeviceClockAndAcquisitionWritesTakeEffect_1 :
    ([(let c : Chip := W 2 [];
        acceptsWord c 0x18 0x100 && (0x100#48).getLsbD 8 && acceptsWord c 0x1B 0x20000000000 && (0x20000000000#48).getLsbD 41 && c.mode == .config && acceptsWord c 0x40000 0 && acceptsWord c 0x20001 2),
      (let c : Chip := W 2 [(F.CLK_STAT_RRDY, 1), (F.ADC_STAT_REFACT, 1)];
        acceptsWord c 0x10000 0 && refOf (c.get F.ADC_CFG_REFSEL) != c.get F.ADC_STAT_REFACT && refOf (c.get F.ADC_CFG_REFSEL) != 1),
      (let c : Chip := W 2 [(F.NWT_CFG_ROLE, 2), (F.ADC_SET_CFG_EN 15, 1)];
        decide ((0 : Nat) < 3) && c.get F.NWT_CFG_ROLE == 2 && decide (15 < c.adc.runs.length) && c.is (F.ADC_SET_CFG_EN 15) && setRun c 15 == none),
      (let c : Chip := W 4 [(F.ADC_SET_CFG_EN 15, 1)];
        runMode c.mode && decide (15 < c.adc.runs.length) && c.is (F.ADC_SET_CFG_EN 15) && setRun c 15 == none),
      (let c : Chip := W 7 [(F.ADC_SET_CFG_EN 15, 1)];
        runMode c.mode && decide (15 < c.adc.runs.length) && c.is (F.ADC_SET_CFG_EN 15) && setRun c 15 == none),
      (let c : Chip := W 4 [];
        acceptsWord c 0x40002 0x8001)] : List Bool).all id = true := by decide +kernel

/-- States and operands meet the hypotheses of DeviceClockAndAcquisitionWritesTakeEffect (part 2). -/
theorem wit_DeviceClockAndAcquisitionWritesTakeEffect_2 :
    ([(let c : Chip := W 7 [(F.DEV_HWD_EXPIRED, 1), (F.DEV_HWD_ENABLE, 0)];
        accepts c 0xB (oneBit F.DEV_HWD_EXPIRED) (oneBit F.DEV_HWD_EXPIRED) && c.is F.DEV_HWD_EXPIRED),
      (let c : Chip := W 7 [(F.DEV_HWD_EXPIRED, 1), (F.DEV_HWD_ENABLE, 1)];
        accepts c 0xB (oneBit F.DEV_HWD_EXPIRED) (oneBit F.DEV_HWD_EXPIRED) && c.is F.DEV_HWD_EXPIRED)] : List Bool).all id = true := by decide +kernel

/-- States and operands meet the hypotheses of PwmGateAndEngineWritesTakeEffect. -/
theorem wit_PwmGateAndEngineWritesTakeEffect :
    ([(let c : Chip := W 4 [];
        acceptsWord c 0x50300 0x7F && acceptsWord c 0x60004 1 && acceptsWord c 0x60064 2 && acceptsWord c 0x70004 9 && acceptsWord c 0x70005 9 && acceptsWord c 0x70006 9 && acceptsWord c 0x70007 9 && acceptsWord c 0x70002 0xB000 && (0xB000#48).getLsbD 15),
      (let c : Chip := W 4 [(F.GDS_G_STAT_FAULT 6, 1)];
        c.is (F.GDS_G_STAT_FAULT 6) && !c.is (F.GDS_G_STAT_GLOCK 6) && !tripActive c 6 && (legsOf 6).all (fun n => !c.is (F.GDS_L_FLT_LIVEDS n) && !interlocked c n)),
      (let c : Chip := { W 4 [] with pwmG := List.replicate 7 { marks := { per := true } } };
        decide (6 < c.pwmG.length) && anyStaged (c.pwmg 6).marks),
      (let c : Chip := W 4 [(F.ZEN_LANE_STAT_STATE 0, 0)];
        spareLane c == some 8 && (physLane c 7).isSome && c.get F.ZEN_MIG_PHASE == 0 && runMode c.mode),
      (let c : Chip := W 4 [(F.ZEN_MIG_PHASE, 1)];
        c.get F.ZEN_MIG_PHASE != 0),
      (let c : Chip := W 4 [(F.GDS_G_STAT_FAULT 6, 1), (F.GDS_G_STAT_GLOCK 6, 1)];
        c.is (F.GDS_G_STAT_FAULT 6) && c.is (F.GDS_G_STAT_GLOCK 6))] : List Bool).all id = true := by decide +kernel

/-- States and operands meet the hypotheses of AngleAxisAndProtectionWritesTakeEffect. -/
theorem wit_AngleAxisAndProtectionWritesTakeEffect :
    ([(let c : Chip := W 2 [(F.AT_STAT_SRCFLT 5, 1), (F.PRT_CHS_CHFAIL, 1)];
        acceptsWord c (F.AT_MEAS 5) 7 && acceptsWord c (F.AT_WIN_LO 5 3 + 1) 7 && acceptsWord c (F.AT_WIN_LO 0 0) 7 && accepts c (F.AT_STAT_SRCFLT 5).addr (oneBit (F.AT_STAT_SRCFLT 5)) (oneBit (F.AT_STAT_SRCFLT 5)) && c.is (F.AT_STAT_SRCFLT 5) && acceptsWord c (0x90008 + 0x40 * 3) 1 && acceptsWord c (0x90013 + 0x40 * 3) 1 && acceptsWord c 0xA0002 5 && acceptsWord c 0xE0003 1 && acceptsWord c 0xB000C 1 && accepts c 0xB000B (oneBit F.PRT_CHS_CHFAIL) (oneBit F.PRT_CHS_CHFAIL) && acceptsWord c (0x40800 + 2 * 23) 3),
      (let c : Chip := W 4 [(F.DEV_AXST_AXFLT 3, 1), (F.MOT_STAT_CAUSE 3, 1)];
        c.sub 3 == .off && !ascOn c 3 && !axisGroupFault c 3 && c.get (F.MOT_STAT_CAUSE 3) != 2 && c.get (F.MOT_STAT_CAUSE 3) != 7),
      (let c : Chip := { W 4 [(F.AT_CFG_SRC 5, 1), (F.AT_STAT_ALTACT 5, 1), (F.AT_WIN_HI_HI 5 3, 9)] with trackers := List.replicate 6 { primFresh := true } };
        (c.tracker 5).primFresh),
      (let c : Chip := W 4 [(F.PRT_CHP_LEG, 2), (F.PRT_CHS_CHFAIL, 1)];
        grantOf c == c.get F.CNV_BSTAT_GRANT && (chopLeg c).all (fun n => !c.is (latchFld n true) && !c.is (latchFld n false))),
      (let c : Chip := W 7 [(F.DEV_AXST_SUB 3, 3)];
        c.sub 3 != .off)] : List Bool).all id = true := by decide +kernel

/-- States and operands meet the hypotheses of SafetySelectorAndCounterWritesTakeEffect. -/
theorem wit_SafetySelectorAndCounterWritesTakeEffect :
    ([(let c : Chip := W 4 [(F.DEV_SEAL_SINOPEN, 1)];
        acceptsWord c 0xD0003 1 && acceptsWord c 0xD0140 1 && acceptsWord c 0xD0006 0x108 && (0x108#48).getLsbD 8 && acceptsWord c 0xD0008 5 && acceptsWord c 0x100021 5 && acceptsWord c 0x110003 5 && acceptsWord c 0x120005 5 && acceptsWord c 0x130002 0x100000001 && (0x100000001#48).getLsbD 32 && acceptsWord c 0x130140 1 && acceptsWord c 0x130141 0xFFFF && acceptsWord c 0xF0104 7),
      (let c : Chip := { W 4 [] with rind := { cond := 5 } };
        decide (11 < 12) && decide (7 < c.rind.fns.length)),
      (let c : Chip := { W 4 [(F.PUR_TXST_ST 1 2, 3)] with up := 400000000 };
        bufState c 1 2 == 3)] : List Bool).all id = true := by decide +kernel

/-- States and operands meet the hypotheses of StoreRequestsAreTaken. -/
theorem wit_StoreRequestsAreTaken :
    ([(let c : Chip := L 4 [(F.THM_STAT_STWIN, 1)];
        (servesC 0x20 (rq 1048576 []) c && c.mode != .boot && (heard 0x20 c).nvm.host.isNone && canStore c) && (servesC 0x20 (rq 1310720 []) c && c.mode != .boot && (heard 0x20 c).nvm.host.isNone && canStore c) && (servesC 0x20 (rq 1572864 []) c && c.mode != .boot && (heard 0x20 c).nvm.host.isNone && canStore c) && (let q := rq 0x200005 [1, 2]; servesC 0x20 q c && selPart q.hdr.toNat == 2 && !selectorBad q.hdr.toNat true && c.mode != .boot && (heard 0x20 c).nvm.host.isNone && canStore c)),
      (let c : Chip := L 4 [];
        servesC 0x20 (rq 0x100000 []) c && c.mode != .boot && (heard 0x20 c).nvm.host.isNone && !canStore c),
      (let c : Chip := storeWrite (imageBase false) (mkRecord 0x10 0x10000 [] 1) (L 2 [(F.DEV_IDENT_MAPVER, 1)]);
        servesC 0x21 (rq 1310720 []) c && c.mode == .config && (heard 0x21 c).nvm.host.isNone && imageValid (heard 0x21 c) false),
      (let c : Chip := storeWrite (imageBase true) (mkRecord 0x10 0x10000 [] 1) (L 2 [(F.DEV_IDENT_MAPVER, 1)]);
        servesC 0x21 (rq 1572864 []) c && c.mode == .config && (heard 0x21 c).nvm.host.isNone && imageValid (heard 0x21 c) true),
      (let c : Chip := L 2 [(F.THM_STAT_STWIN, 1)];
        let q := rq 0x100000 [0xEFFFFF]; servesC 0x22 q c && selPart q.hdr.toNat == 1 && !selectorBad q.hdr.toNat false && c.mode == .config && q.word 0 == confirmWord q.hdr && (heard 0x22 c).nvm.host.isNone && canStore c && servesC 0x22 (rq 0x100000 [1]) c && (rq 0x100000 [1]).word 0 != confirmWord 0x100000)] : List Bool).all id = true := by decide +kernel

/-- States and operands meet the hypotheses of SealsAndTheSafetySetConfirmation. -/
theorem wit_SealsAndTheSafetySetConfirmation :
    ([(let c : Chip := L 2 [(F.THM_STAT_STWIN, 1)];
        (let q := rq 0x0D0000 [0, 0]; servesC 0x30 q c && (q.word 1).field 32 16 == 0 && c.mode == .config && !sealOpened c true && !sealOpened c false && c.safe.sealLog.lockEnd == none && canStore c && q.storeOk && sinRight (heard 0x30 c) q) && (let q := rq 0x0D0000 [0, 5]; servesC 0x30 q c && (q.word 1).field 32 16 == 0 && c.mode == .config && !sealOpened c true && !sealOpened c false && c.safe.sealLog.lockEnd == none && canStore c && q.storeOk && !sinRight (heard 0x30 c) q)),
      (let c : Chip := L 4 [(F.DEV_SEAL_SINOPEN, 1)];
        servesC 0x31 (rq 0x0D0000 []) c && c.mode != .boot && sealOpened c false),
      (let c : Chip := L 2 [(F.DEV_SEAL_SINOPEN, 1), (F.THM_STAT_STWIN, 1)];
        let q := rq 0 [checkValue (slImage (heard 0x32 c))]; servesC 0x32 q c && c.mode == .config && sealOpened c false && c.safe.confirming.isNone && (checkSafetySet (heard 0x32 c)).isEmpty && !wantsPassword (heard 0x32 c) && canStore c),
      (let c : Chip := L 2 [];
        servesC 0x32 (rq 0 [1]) c && c.mode == .config && !sealOpened c false),
      (let c : Chip := L 4 [];
        servesC 0x32 (rq 0 [1]) c && c.mode == .standby)] : List Bool).all id = true := by decide +kernel

/-- States and operands meet the hypotheses of MeterRequestsAnswer. -/
theorem wit_MeterRequestsAnswer :
    ([(let c : Chip := { L 4 [(F.MTR_SESS_STATE, 1)] with meter := { records := [(5, [1])] } };
        servesC 0x38 (rq 0 []) c && hasMeter (heard 0x38 c) && servesC 0x3A (rq 0 [5]) c && ((heard 0x3A c).meter.records.find? (fun r => r.1 == ((rq 0 [5]).word 0).field 0 32)).isSome && servesC 0x39 (rq 0 [2]) c && sessState c == 1 && servesC 0x39 (rq 0 [3]) c && c.mode == .standby && ((rq 0 [5]).word 0 &&& 0xFFFF00000000) == 0),
      (let c : Chip := L 8 [(F.MTR_STAT_CALOK, 1), (F.MTR_STAT_KEYOK, 1), (F.THM_STAT_STWIN, 1)];
        let q := rq 0 [0x10001]; servesC 0x39 q c && (q.word 0).field 0 4 == 1 && (q.word 0).field 4 12 == 0 && hasMeter (heard 0x39 c) && c.mode == .charge && sessState c == 0 && !c.is F.DEV_MODE_PEND && !modFault c 0 && !modFault c 1 && !c.meter.tripped && canStore c && q.storeOk),
      (let c : Chip := { L 4 [] with fuses := { variant := 1 } };
        servesC 0x38 (rq 0 []) c && !hasMeter (heard 0x38 c) && servesC 0x3A (rq 0 []) c && servesC 0x39 (rq 5 [1]) c)] : List Bool).all id = true := by decide +kernel

/-- States and operands meet the hypotheses of SelfTestAndRepairRequestsAreTaken. -/
theorem wit_SelfTestAndRepairRequestsAreTaken :
    ([(let c : Chip := L 4 [(F.THM_STAT_STWIN, 1)];
        let q := rq 0 [2 ^ 44 + 7]; servesC 0x40 q c && runMode c.mode && c.mode != .latched && !bistBusy (heard 0x40 c) && !stopRunning (heard 0x40 c) && mayMigrate (heard 0x40 c) 7 && servesC 0x40 (rq 0 [2 * 2 ^ 44]) c && canStore c),
      (let c : Chip := L 2 [];
        servesC 0x41 (rq 0 [2 ^ 44]) c && c.mode == .config && (heard 0x41 c).bist.fuseReq.isNone && !fuseTempBad (heard 0x41 c) && vOk (heard 0x41 c) && decide ((heard 0x41 c).bist.fusesUsed + (repairSlots (heard 0x41 c)).length ≤ 32)),
      (let c : Chip := storeWrite (repairBase 63) (mkRecord 0x40 0 [] 1) (L 2 []);
        servesC 0x41 (rq 0 [2 * 2 ^ 44 + 63]) c && repairAt (heard 0x41 c) 63 && c.mode == .config && !fuseTempBad (heard 0x41 c))] : List Bool).all id = true := by decide +kernel

/-- States and operands meet the hypotheses of TimeBusAndPatchRequestsAreTaken. -/
theorem wit_TimeBusAndPatchRequestsAreTaken :
    ([(let c : Chip := { L 2 [(F.PUR_CFG_MODE 1, 1), (F.PUR_CFG_IDCHK 1, 0)] with pu := [{}, { fifo := List.replicate 64 { state := .full } }] };
        servesC 0x50 (rq 0 [5]) c && c.mode == .config && servesC 0x51 (rq 0 [0xFFFFFFFFFF]) c && servesC 0x51 (rq 0 [2 ^ 44 + 5]) c && servesC 0x51 (rq 0 [2 * 2 ^ 44 + 5]) c && !isSlave (heard 0x51 c) && (let q := rq 5 [0]; servesC 0x60 q c && q.needed == 1 + dataWords (q.word 0) && !cwBad (q.word 0) && (heard 0x60 c).get (F.PUR_CFG_MODE 1) != 0 && !cwIde (q.word 0) && bufState (heard 0x60 c) 1 2 == 0) && (let q := rq 5 [2 ^ 45 + 2 ^ 26]; servesC 0x60 q c && q.needed == 1 + dataWords (q.word 0) && !cwBad (q.word 0) && cwIde (q.word 0) && cwId (q.word 0) / 2 ^ 26 != 0 && !(heard 0x60 c).is (F.PUR_CFG_IDCHK 1)) && servesC 0x61 (rq 1 []) c && (oldestFull (heard 0x61 c) 1).isSome && servesC 0x62 (rq 1 [63]) c && ((puOf (heard 0x62 c) 1).fifo.getD 63 {}).state != .free && servesC 0x70 (rq 24572 [9]) c),
      (let c : Chip := W 2 [];
        (List.range 7).all (fun g => !(c.pwmg g).running))] : List Bool).all id = true := by decide +kernel

/-- States and operands meet the hypotheses of ResetSourcesReset. -/
theorem wit_ResetSourcesReset :
    ([(let c : Chip := W 4 [];
        !c.clk.active.getLsbD 1 && !c.clk.active.getLsbD 2 && !c.clk.active.getLsbD 3 && !c.clk.active.getLsbD 5),
      (let c : Chip := { W 0 [] with clk := { active := 0x2A } };
        c.clk.active.getLsbD 3 && c.clk.active.getLsbD 5)] : List Bool).all id = true := by decide +kernel

/-- States and operands meet the hypotheses of ResetEndsInBootAndBootEnds (part 1). -/
theorem wit_ResetEndsInBootAndBootEnds_1 :
    ([(let c : Chip := W 4 [];
        !mayBoot c),
      (let c : Chip := W 1 [(F.DEV_BOOTINFO_BOOTSEL, 1), (F.DEV_BOOTINFO_IMAGE, 1), (F.DEV_BOOTINFO_SAFEOK, 1), (F.SIN_SEC_CONFOK, 1), (F.DEV_CFGCHK_ITEM, 0)];
        !c.rind.latch && c.is F.DEV_BOOTINFO_BOOTSEL && c.get F.DEV_BOOTINFO_IMAGE != 0 && checkPassed c && c.is F.DEV_BOOTINFO_SAFEOK && c.is F.SIN_SEC_CONFOK && !faultPending c),
      (let c : Chip := { W 0 [(F.CLK_STAT_RRDY, 1), (F.CLK_STAT_PLLALK, 1), (F.CLK_STAT_PLLBLK, 1)] with clk := { active := 0, refFed := true } };
        mayBoot c && !mayBoot { c with clk := { active := 2 } }),
      (let c : Chip := { W 0 [(F.CLK_STAT_RRDY, 1), (F.CLK_STAT_PLLALK, 1), (F.CLK_STAT_PLLBLK, 1)] with clk := { hold := true, refFed := true } };
        holdMayEnd c),
      (let c : Chip := { W 1 [(F.SAF_STAT_SELFOK, 1)] with therm := { evaluated := true } };
        bootMayEnd c),
      (let c : Chip := { W 1 [] with rind := { latch := true } };
        c.rind.latch)] : List Bool).all id = true := by decide +kernel

/-- States and operands meet the hypotheses of ResetEndsInBootAndBootEnds (part 2). -/
theorem wit_ResetEndsInBootAndBootEnds_2 :
    ([(let c : Chip := W 1 [];
        !c.rind.latch && !c.is F.DEV_BOOTINFO_BOOTSEL)] : List Bool).all id = true := by decide +kernel

/-- States and operands meet the hypotheses of ReferenceSourcesLocksTrimAndSosc. -/
theorem wit_ReferenceSourcesLocksTrimAndSosc :
    ([(let c : Chip := { W 4 [(F.CLK_STAT_HRDY, 1), (F.CLK_STAT_RRDY, 1), (F.CLK_STAT_HSTD, 1), (F.CLK_STAT_PLLALK, 1), (F.CLK_STAT_PLLBLK, 1)] with clk := { roscRunning := true, refFed := true } };
        !c.clk.vcoreLow && hclkTaken c 25000 == some 25000 && hclkTaken c 200000 == some 200000 && c.clk.roscRunning && c.is F.CLK_STAT_HRDY && c.is F.CLK_STAT_RRDY && c.clk.refFed && c.clk.switchTo.isNone && c.is F.CLK_STAT_PLLALK && going c && trimSource c != 0 && (c.rd 0xC0002).field 3 1 != 1 && !c.clk.hold && trimSource c == 1 && decide (1000 * 51200 = 200 * 256000)),
      (let c : Chip := { W 4 [(F.CLK_STAT_RRDY, 1)] with clk := { switchTo := some true } };
        c.clk.switchTo.isSome && !c.clk.switchForced && (refUsable c true || refUsable c false) && !pllsLocked c),
      (let c : Chip := { W 4 [] with clk := { switchTo := some true } };
        c.clk.switchTo.isSome && !c.clk.switchForced && !(refUsable c true || refUsable c false)),
      (let c : Chip := { W 4 [(F.CLK_STAT_RRDY, 1), (F.CLK_CFG_BUSTRIM, 1), (F.CLK_STAT_TRIMOK, 1)] with clk := { roscRunning := true, refFed := true, pairAt := [some 0, some 0] } };
        trimSource c == 2 && decide (10000000 ≤ 10000000) && decide (1000 * 2000000 = 200 * 10000000)),
      (let c : Chip := W 0 [];
        c.mode == .reset && !c.clk.vioBelow)] : List Bool).all id = true := by decide +kernel

/-- States and operands meet the hypotheses of CompareUnitsFireAndCapturesHold (part 1). -/
theorem wit_CompareUnitsFireAndCapturesHold_1 :
    ([(let c : Chip := { W 4 [(F.NWT_NCAPn_CTL_EN 7, 1), (F.NWT_NCAPn_CTL_SRC 7, 4), (F.NWT_NCAPn_CTL_EDGE 7, 2), (F.NWT_NCAPn_CTL_GATE 7, 0)] with time := { tio := 0 } };
        c.is (F.NWT_NCAPn_CTL_EN 7) && c.get (F.NWT_NCAPn_CTL_SRC 7) == 4 && c.get (F.NWT_NCAPn_CTL_EDGE 7) == 2 && (c.get (F.NWT_NCAPn_CTL_GATE 7) == 0 || decide (4 < c.get (F.NWT_NCAPn_CTL_GATE 7)) || c.time.tio.getLsbD (c.get (F.NWT_NCAPn_CTL_GATE 7) - 1))),
      (let c : Chip := { W 4 [(F.NWT_NCAPn_CTL_EN 7, 1), (F.NWT_NCAPn_CTL_SRC 7, 4), (F.NWT_NCAPn_CTL_EDGE 7, 2), (F.NWT_NCAPn_CTL_GATE 7, 5)] with time := { tio := 0 } };
        c.is (F.NWT_NCAPn_CTL_EN 7) && c.get (F.NWT_NCAPn_CTL_SRC 7) == 4 && c.get (F.NWT_NCAPn_CTL_EDGE 7) == 2 && (c.get (F.NWT_NCAPn_CTL_GATE 7) == 0 || decide (4 < c.get (F.NWT_NCAPn_CTL_GATE 7)) || c.time.tio.getLsbD (c.get (F.NWT_NCAPn_CTL_GATE 7) - 1))),
      (let c : Chip := { W 4 [(F.NWT_NCAPn_CTL_EN 7, 1), (F.NWT_NCAPn_CTL_SRC 7, 4), (F.NWT_NCAPn_CTL_EDGE 7, 2), (F.NWT_NCAPn_CTL_GATE 7, 5)] with time := { tio := 16 } };
        c.is (F.NWT_NCAPn_CTL_EN 7) && c.get (F.NWT_NCAPn_CTL_SRC 7) == 4 && c.get (F.NWT_NCAPn_CTL_EDGE 7) == 2 && (c.get (F.NWT_NCAPn_CTL_GATE 7) == 0 || decide (4 < c.get (F.NWT_NCAPn_CTL_GATE 7)) || c.time.tio.getLsbD (c.get (F.NWT_NCAPn_CTL_GATE 7) - 1))),
      (let c : Chip := { W 4 [(F.NWT_NCAPn_CTL_EN 7, 1), (F.NWT_NCAPn_CTL_SRC 7, 4), (F.NWT_NCAPn_CTL_EDGE 7, 2), (F.NWT_NCAPn_CTL_GATE 7, 4)] with time := { tio := 8 } };
        c.is (F.NWT_NCAPn_CTL_EN 7) && c.get (F.NWT_NCAPn_CTL_SRC 7) == 4 && c.get (F.NWT_NCAPn_CTL_EDGE 7) == 2 && (c.get (F.NWT_NCAPn_CTL_GATE 7) == 0 || decide (4 < c.get (F.NWT_NCAPn_CTL_GATE 7)) || c.time.tio.getLsbD (c.get (F.NWT_NCAPn_CTL_GATE 7) - 1))),
      (let c : Chip := { W 4 [(F.NWT_NCAPn_CTL_EN 7, 1), (F.NWT_NCAPn_CTL_SRC 7, 4), (F.NWT_NCAPn_CTL_EDGE 7, 2), (F.NWT_NCAPn_CTL_GATE 7, 1)] with time := { tio := 1 } };
        c.is (F.NWT_NCAPn_CTL_EN 7) && c.get (F.NWT_NCAPn_CTL_SRC 7) == 4 && c.get (F.NWT_NCAPn_CTL_EDGE 7) == 2 && (c.get (F.NWT_NCAPn_CTL_GATE 7) == 0 || decide (4 < c.get (F.NWT_NCAPn_CTL_GATE 7)) || c.time.tio.getLsbD (c.get (F.NWT_NCAPn_CTL_GATE 7) - 1))),
      (let c : Chip := { W 4 [(F.NWT_NCn_CTL_ARM 15, 1), (F.NWT_NCn_CTL_PERIOD 15, 0), (F.NWT_NCn_CTL_ACTION 15, 0)] with time := { stepped := 0, pulsing := 31 } };
        ncDue c 15 && c.get (F.NWT_NCn_CTL_ACTION 15) == 0 && going c && c.time.pulsing.getLsbD 4)] : List Bool).all id = true := by decide +kernel

/-- States and operands meet the hypotheses of CompareUnitsFireAndCapturesHold (part 2). -/
theorem wit_CompareUnitsFireAndCapturesHold_2 :
    ([(let c : Chip := { W 4 [(F.NWT_NCn_CTL_ARM 15, 1), (F.NWT_NCn_CTL_PERIOD 15, 9), (F.NWT_NCn_CTL_ACTION 15, 0)] with time := { stepped := 0, pulsing := 31 } };
        ncDue c 15 && c.get (F.NWT_NCn_CTL_ACTION 15) == 0 && going c && c.time.pulsing.getLsbD 4),
      (let c : Chip := { W 4 [(F.NWT_NCn_CTL_ARM 15, 1), (F.NWT_NCn_CTL_PERIOD 15, 9), (F.NWT_NCn_CTL_ACTION 15, 0)] with time := { stepped := 65535, pulsing := 31 } };
        ncDue c 15 && c.get (F.NWT_NCn_CTL_ACTION 15) == 0 && going c && c.time.pulsing.getLsbD 4),
      (let c : Chip := W 4 [];
        !ncDue c 15),
      (let c : Chip := W 4 [(F.NWT_NCAPn_CTL_EN 7, 1), (F.NWT_NCAPn_CTL_SRC 7, 4), (F.NWT_NCAPn_CTL_EDGE 7, 3), (F.NWT_NCAPn_CTL_VALID 7, 0), (F.NWT_NCAPn_CTL_KEEP 7, 0)];
        c.is (F.NWT_NCAPn_CTL_EN 7) && c.get (F.NWT_NCAPn_CTL_SRC 7) == 4 && c.get (F.NWT_NCAPn_CTL_EDGE 7) == 3 && c.get (F.NWT_NCAPn_CTL_GATE 7) == 0 && c.get (F.NWT_NCAPn_CTL_SRC 7) != 5),
      (let c : Chip := W 4 [(F.NWT_NCAPn_CTL_EN 7, 1), (F.NWT_NCAPn_CTL_SRC 7, 4), (F.NWT_NCAPn_CTL_EDGE 7, 3), (F.NWT_NCAPn_CTL_VALID 7, 0), (F.NWT_NCAPn_CTL_KEEP 7, 1)];
        c.is (F.NWT_NCAPn_CTL_EN 7) && c.get (F.NWT_NCAPn_CTL_SRC 7) == 4 && c.get (F.NWT_NCAPn_CTL_EDGE 7) == 3 && c.get (F.NWT_NCAPn_CTL_GATE 7) == 0 && c.get (F.NWT_NCAPn_CTL_SRC 7) != 5),
      (let c : Chip := W 4 [(F.NWT_NCAPn_CTL_EN 7, 1), (F.NWT_NCAPn_CTL_SRC 7, 4), (F.NWT_NCAPn_CTL_EDGE 7, 3), (F.NWT_NCAPn_CTL_VALID 7, 1), (F.NWT_NCAPn_CTL_KEEP 7, 0)];
        c.is (F.NWT_NCAPn_CTL_EN 7) && c.get (F.NWT_NCAPn_CTL_SRC 7) == 4 && c.get (F.NWT_NCAPn_CTL_EDGE 7) == 3 && c.get (F.NWT_NCAPn_CTL_GATE 7) == 0 && c.get (F.NWT_NCAPn_CTL_SRC 7) != 5)] : List Bool).all id = true := by decide +kernel

/-- States and operands meet the hypotheses of CompareUnitsFireAndCapturesHold (part 3). -/
theorem wit_CompareUnitsFireAndCapturesHold_3 :
    ([(let c : Chip := W 4 [(F.NWT_NCAPn_CTL_EN 7, 1), (F.NWT_NCAPn_CTL_SRC 7, 4), (F.NWT_NCAPn_CTL_EDGE 7, 3), (F.NWT_NCAPn_CTL_VALID 7, 1), (F.NWT_NCAPn_CTL_KEEP 7, 1)];
        c.is (F.NWT_NCAPn_CTL_EN 7) && c.get (F.NWT_NCAPn_CTL_SRC 7) == 4 && c.get (F.NWT_NCAPn_CTL_EDGE 7) == 3 && c.get (F.NWT_NCAPn_CTL_GATE 7) == 0 && c.get (F.NWT_NCAPn_CTL_SRC 7) != 5)] : List Bool).all id = true := by decide +kernel

/-- States and operands meet the hypotheses of WatchdogHoldoverAndSlew. -/
theorem wit_WatchdogHoldoverAndSlew :
    ([(let c : Chip := { W 4 [(F.NWT_CFG_ROLE, 2), (F.NWT_STAT_SRV, 2), (F.NWT_STAT_SLEWING, 1)] with ms := { hwdRunning := true } };
        c.ms.hwdRunning && going c && isSlave c && c.get F.NWT_STAT_SRV == 2 && c.is F.NWT_STAT_SLEWING && c.time.slew == 0),
      (let c : Chip := { W 4 [] with time := { slew := 16777216000 } };
        going c && c.time.slew != 0),
      (let c : Chip := W 4 [(F.NWT_CFG_ROLE, 2), (F.NWT_STAT_SRV, 1)];
        going c && isSlave c && c.get F.NWT_STAT_SRV == 1)] : List Bool).all id = true := by decide +kernel

/-- States and operands meet the hypotheses of MeasurementsReachTheTracker. -/
theorem wit_MeasurementsReachTheTracker :
    ([(let c : Chip := W 4 [(F.AT_CFG_SRC 5, 1), (F.AT_SRC_P2 5, 50)];
        going c && c.mode != .boot && usesSrc c 5 1 && activeSrc c 5 == 1 && decide ((resolverCode c (c.get (F.AT_SRC_SET 5)) 0 * resolverCode c (c.get (F.AT_SRC_SET 5)) 0 + resolverCode c (c.get (F.AT_SRC_SET 5)) 1 * resolverCode c (c.get (F.AT_SRC_SET 5)) 1) * 10000 < (c.get (F.AT_SRC_P2 5) : Int) * (c.get (F.AT_SRC_P2 5) : Int) * 2 ^ 30) && srcOf c 5 != 0),
      (let c : Chip := W 4 [(F.AT_CFG_SRC 5, 1), (F.AT_SRC_P2 5, 50), (F.ADC_SET_R_VALUE 0 0, 0x4000), (F.ADC_SET_R_VALUE 0 1, 0x4000)];
        usesSrc c 5 1 && decide ((c.get (F.AT_SRC_P2 5) : Int) * (c.get (F.AT_SRC_P2 5) : Int) * 2 ^ 30 ≤ (resolverCode c (c.get (F.AT_SRC_SET 5)) 0 * resolverCode c (c.get (F.AT_SRC_SET 5)) 0 + resolverCode c (c.get (F.AT_SRC_SET 5)) 1 * resolverCode c (c.get (F.AT_SRC_SET 5)) 1) * 10000) && decide ((resolverCode c (c.get (F.AT_SRC_SET 5)) 0 * resolverCode c (c.get (F.AT_SRC_SET 5)) 0 + resolverCode c (c.get (F.AT_SRC_SET 5)) 1 * resolverCode c (c.get (F.AT_SRC_SET 5)) 1) * 10000 ≤ 22500 * 2 ^ 30)),
      (let c : Chip := W 4 [(F.AT_CFG_SRC 5, 2), (F.AT_SRC_P1 5, 1)];
        usesSrc c 5 2 && activeSrc c 5 == 2),
      (let c : Chip := W 4 [(F.AT_CFG_SRC 5, 3)];
        c.mode != .boot && usesSrc c 5 3 && activeSrc c 5 == 3)] : List Bool).all id = true := by decide +kernel

/-- States and operands meet the hypotheses of IndexTimeoutHoldAndWindows (part 1). -/
theorem wit_IndexTimeoutHoldAndWindows_1 :
    ([(let c : Chip := { W 4 [(F.AT_CFG_SRC 5, 2), (F.AT_SRC_P3 5, 1), (F.AT_WIN_HI_HI 5 3, 9)] with trackers := List.replicate 6 { holding := true } };
        going c && c.mode != .boot && usesSrc c 5 2 && activeSrc c 5 == 2 && c.is (F.AT_SRC_P3 5) && decide (5 < c.trackers.length) && !(c.tracker 5).indexed && (c.tracker 5).holding),
      (let c : Chip := W 4 [(F.AT_CFG_SRC 5, 1)];
        going c && !c.is (F.AT_STAT_ALTACT 5) && activeSrc c 5 == 1),
      (let c : Chip := W 4 [(F.AT_CFG_SRC 5, 4)];
        going c && !c.is (F.AT_STAT_ALTACT 5) && activeSrc c 5 == 4),
      (let c : Chip := W 4 [(F.AT_CFG_SRC 5, 5)];
        going c && !c.is (F.AT_STAT_ALTACT 5) && activeSrc c 5 == 5),
      (let c : Chip := W 4 [(F.AT_CFG_SRC 5, 2), (F.AT_CFG_ALT 5, 1), (F.AT_STAT_ALTACT 5, 1)];
        going c && c.is (F.AT_STAT_ALTACT 5) && activeSrc c 5 == 1),
      (let c : Chip := { W 4 [(F.AT_CFG_SRC 5, 1), (F.AT_WIN_LO_LO 5 3, 5), (F.AT_WIN_HI_HI 5 3, 9), (F.AT_STAT_WIN 5, 0)] with trackers := List.replicate 6 { th := 4, inc := 2 } };
        (crossed (c.rd (if false then F.AT_WIN_HI 5 3 else F.AT_WIN_LO 5 3)) (c.tracker 5).th (c.tracker 5).inc).isSome && decide ((5 : Word) ≠ 9) && crossed (if 0 < (2 : Int) then 5 else 9) 4 (2) != none && crossed (if 0 < (2 : Int) then 9 else 5) 4 (2) == none)] : List Bool).all id = true := by decide +kernel

/-- States and operands meet the hypotheses of IndexTimeoutHoldAndWindows (part 2). -/
theorem wit_IndexTimeoutHoldAndWindows_2 :
    ([(let c : Chip := { W 4 [(F.AT_CFG_SRC 5, 1), (F.AT_WIN_LO_LO 5 3, 5), (F.AT_WIN_HI_HI 5 3, 9), (F.AT_STAT_WIN 5, 0)] with trackers := List.replicate 6 { th := 10, inc := -5 } };
        (crossed (c.rd (if true then F.AT_WIN_HI 5 3 else F.AT_WIN_LO 5 3)) (c.tracker 5).th (c.tracker 5).inc).isSome && decide ((5 : Word) ≠ 9) && crossed (if 0 < (-5 : Int) then 5 else 9) 10 (-5) != none && crossed (if 0 < (-5 : Int) then 9 else 5) 10 (-5) == none),
      (let c : Chip := { W 4 [(F.AT_CFG_SRC 5, 1), (F.AT_WIN_LO_LO 5 3, 5), (F.AT_WIN_HI_HI 5 3, 9), (F.AT_STAT_WIN 5, 8)] with trackers := List.replicate 6 { th := 6, inc := -2 } };
        (crossed (c.rd (if false then F.AT_WIN_HI 5 3 else F.AT_WIN_LO 5 3)) (c.tracker 5).th (c.tracker 5).inc).isSome && decide ((5 : Word) ≠ 9) && crossed (if 0 < (-2 : Int) then 5 else 9) 6 (-2) == none && crossed (if 0 < (-2 : Int) then 9 else 5) 6 (-2) != none),
      (let c : Chip := { W 4 [(F.AT_CFG_SRC 5, 1), (F.AT_WIN_LO_LO 5 3, 5), (F.AT_WIN_HI_HI 5 3, 9), (F.AT_STAT_WIN 5, 8)] with trackers := List.replicate 6 { th := 8, inc := 2 } };
        (crossed (c.rd (if true then F.AT_WIN_HI 5 3 else F.AT_WIN_LO 5 3)) (c.tracker 5).th (c.tracker 5).inc).isSome && decide ((5 : Word) ≠ 9) && crossed (if 0 < (2 : Int) then 5 else 9) 8 (2) == none && crossed (if 0 < (2 : Int) then 9 else 5) 8 (2) != none)] : List Bool).all id = true := by decide +kernel

/-- States and operands meet the hypotheses of KerfEntriesAndBoundaries (part 1). -/
theorem wit_KerfEntriesAndBoundaries_1 :
    ([(let c : Chip := { W 4 [(F.KT_CTL_EN 5, 1), (F.AT_STAT_VALID 5, 1), (F.KT_PAT_NSEG 5 0, 3)] with up := 9, kerfs := List.replicate 6 { bnd := 5, pos := 281474976710655, pending := none } };
        going c && kerfRuns c 5 && boundaryCrossed c 5 && !entryBefore c 5 (nextBoundaryAngle c 5) && nextItem (c.kerf 5).rev (c.kerf 5).bnd % (patSegs c 5 (c.get (F.KT_STAT_CURPAT 5)) : Int) == 5 && (c.kerf 5).pending == none),
      (let c : Chip := { W 4 [(F.KT_CTL_EN 5, 1), (F.AT_STAT_VALID 5, 1), (F.KT_PAT_NSEG 5 0, 3)] with up := 9, kerfs := List.replicate 6 { bnd := 5, pos := 281474976710655, pending := some ⟨5, 1, false⟩, bndUp := some 0 } };
        going c && kerfRuns c 5 && boundaryCrossed c 5 && !entryBefore c 5 (nextBoundaryAngle c 5) && nextItem (c.kerf 5).rev (c.kerf 5).bnd % (patSegs c 5 (c.get (F.KT_STAT_CURPAT 5)) : Int) == 5 && (c.kerf 5).pending == some ⟨5, 1, false⟩ && decide ((c.kerf 5).bndUp.getD c.up ≤ (c.kerf 5).commitUp)),
      (let c : Chip := { W 4 [(F.KT_CTL_EN 5, 1), (F.AT_STAT_VALID 5, 1), (F.KT_PAT_NSEG 5 0, 3)] with up := 9, kerfs := List.replicate 6 { bnd := 5, pos := 281474976710655, pending := some ⟨5, 1, false⟩ } };
        going c && kerfRuns c 5 && boundaryCrossed c 5 && !entryBefore c 5 (nextBoundaryAngle c 5) && nextItem (c.kerf 5).rev (c.kerf 5).bnd % (patSegs c 5 (c.get (F.KT_STAT_CURPAT 5)) : Int) == 5 && (c.kerf 5).pending == some ⟨5, 1, false⟩ && decide ((c.kerf 5).commitUp < (c.kerf 5).bndUp.getD c.up) && (⟨5, 1, false⟩ : KerfSet).eng == c.is (F.KT_STAT_ENGD 5)),
      (let c : Chip := { W 4 [(F.KT_CTL_EN 5, 1), (F.AT_STAT_VALID 5, 1), (F.KT_PAT_NSEG 5 0, 3), (F.KT_PAT_COUNT 5 0, 1)] with up := 9, kerfs := List.replicate 6 { bnd := 1, cursor := 0, pos := 5, prev := 0, rev := false } };
        going c && decide (5 < c.kerfs.length) && kerfRuns c 5 && !boundaryCrossed c 5 && (nextEntryAngle c 5).isSome && entryCrossed c 5 && (c.kerf 5).execUp != some c.up && (beyond (c.kerf 5).rev (c.kerf 5).prev ((nextEntryAngle c 5).getD 0)) == false),
      (let c : Chip := { W 4 [(F.KT_CTL_EN 5, 1), (F.AT_STAT_VALID 5, 1), (F.KT_PAT_NSEG 5 0, 3), (F.KT_PAT_COUNT 5 0, 1)] with up := 9, kerfs := List.replicate 6 { bnd := 1, cursor := 0, pos := 5, prev := 4, rev := false } };
        going c && decide (5 < c.kerfs.length) && kerfRuns c 5 && !boundaryCrossed c 5 && (nextEntryAngle c 5).isSome && entryCrossed c 5 && (c.kerf 5).execUp != some c.up && (beyond (c.kerf 5).rev (c.kerf 5).prev ((nextEntryAngle c 5).getD 0)) == true),
      (let c : Chip := { W 4 [(F.KT_CTL_EN 5, 1), (F.AT_STAT_VALID 5, 1), (F.KT_PAT_NSEG 5 0, 3), (F.KT_PAT_COUNT 5 0, 1)] with up := 9, kerfs := List.replicate 6 { bnd := -6, cursor := 0, pos := -281474976710657, prev := 0, rev := true } };
        going c && decide (5 < c.kerfs.length) && kerfRuns c 5 && !boundaryCrossed c 5 && (nextEntryAngle c 5).isSome && entryCrossed c 5 && (c.kerf 5).execUp != some c.up && (beyond (c.kerf 5).rev (c.kerf 5).prev ((nextEntryAngle c 5).getD 0)) == false)] : List Bool).all id = true := by decide +kernel

/-- States and operands meet the hypotheses of KerfEntriesAndBoundaries (part 2). -/
theorem wit_KerfEntriesAndBoundaries_2 :
    ([(let c : Chip := W 4 [];
        !kerfRuns c 5 && !boundaryCrossed c 5 && !entryCrossed c 5 && !c.is (F.KT_E_ACT_WEN 5 0) && !c.is (F.KT_STAT_ENGD 5) && !c.is (F.KT_E_ACT_TFWD 5 0) && !c.is (F.KT_E_ACT_TREV 5 0))] : List Bool).all id = true := by decide +kernel

/-- States and operands meet the hypotheses of SetTriggersStartOrDrop. -/
theorem wit_SetTriggersStartOrDrop :
    ([(let c : Chip := W 4 [(F.ADC_SET_CFG_EN 15, 1), (F.AT_CFG_SRC 5, 1), (F.AT_SRC_UNIT 5, 1)];
        going c && runMode c.mode && c.is (F.ADC_SET_CFG_EN 15) && setRun c 15 == none && !c.is (F.ADC_SET_CFG_EN 14) && exciterUsed c 1 && !exciterUsed c 0),
      (let c : Chip := { W 4 [(F.ADC_SET_CFG_EN 15, 1)] with up := 9, adc := { runs := List.replicate 15 none ++ [some { cfg := 0, slots := [0x8000] }] } };
        going c && runMode c.mode && c.is (F.ADC_SET_CFG_EN 15) && (setRun c 15).any (fun r => r.takeAt != takeEdge c)),
      (let c : Chip := { W 4 [(F.ADC_SET_CFG_EN 15, 1)] with up := 9, adc := { runs := List.replicate 15 none ++ [some { cfg := 0, slots := [0x8000], takeAt := 4 }] } };
        going c && (setRun c 15).any (fun r => r.takeAt == takeEdge c))] : List Bool).all id = true := by decide +kernel

/-- States and operands meet the hypotheses of RunsConvertAndCompleteWithCorrectedCodes. -/
theorem wit_RunsConvertAndCompleteWithCorrectedCodes :
    ([(let c : Chip := { W 4 [] with up := 9, adc := { runs := List.replicate 14 none ++ [none, some { cfg := 0, slots := [0x8000], ranks := [0] }] } };
        going c && (setRun c 15).any (fun r => reservable c r && !blocked c 15 r && !precededBy c 15 r && decide (r.takeAt + r.cfg.field 32 8 < aclkNow c))),
      (let c : Chip := { W 4 [] with up := 9, adc := { runs := List.replicate 14 none ++ [some { cfg := 0, slots := [0x8000], reserved := true }, some { cfg := 0, slots := [0x8000] }] } };
        going c && (setRun c 15).any (fun r => reservable c r && blocked c 15 r)),
      (let c : Chip := { W 4 [] with up := 9, adc := { runs := List.replicate 14 none ++ [some { cfg := 0, slots := [0x8000] }, some { cfg := 0, slots := [0x8000] }] } };
        going c && (setRun c 15).any (fun r => reservable c r && !blocked c 15 r && precededBy c 15 r)),
      (let c : Chip := { W 4 [] with adc := { runs := List.replicate 15 none ++ [some { cfg := 0, slots := [0x8000], reserved := true, ranks := [0, 1] }] } };
        going c && (setRun c 15).any (fun r => r.reserved && !r.sampled && r.ranks != [] && r.ranks.length != (ranksOf r.slots).length) && (List.range 15).all (fun t => setRun c t == none)),
      (let c : Chip := { W 4 [] with adc := { runs := List.replicate 15 none ++ [some { cfg := 0, slots := [0x8000], reserved := true, sampled := true, ranks := [0, 1] }] } };
        (setRun c 15).any (fun r => r.ranks == 0 :: [1] && r.sampled)),
      (let c : Chip := { W 4 [] with adc := { runs := List.replicate 15 none ++ [some { cfg := 0, slots := [], reserved := true }] } };
        (setRun c 15).any (fun r => r.reserved && r.ranks == [] && r.cfg.field 23 1 == 0 && r.results == []) && (List.range 16).all (fun t => c.get (F.ADC_SET_CFG_TRG t) != 1) && setRun c 0 == none)] : List Bool).all id = true := by decide +kernel

/-- States and operands meet the hypotheses of ReferencesSettleAndFail. -/
theorem wit_ReferencesSettleAndFail :
    ([(let c : Chip := W 4 [];
        going c && !c.is F.ADC_STAT_REFPOK),
      (let c : Chip := W 4 [(F.ADC_STAT_REFPOK, 1), (F.ADC_STAT_REFACT, 1), (F.ADC_CFG_REFAUTO, 1)];
        going c && c.is F.ADC_STAT_REFPOK && c.get F.ADC_STAT_REFACT == 1 && c.is F.ADC_CFG_REFAUTO),
      (let c : Chip := W 4 [(F.ADC_STAT_REFPOK, 1), (F.ADC_STAT_REFACT, 0)];
        going c && c.is F.ADC_STAT_REFPOK && c.get F.ADC_STAT_REFACT == 0)] : List Bool).all id = true := by decide +kernel

/-- States and operands meet the hypotheses of TheBackgroundCycleRuns. -/
theorem wit_TheBackgroundCycleRuns :
    ([(let c : Chip := W 7 [(F.ADC_CALCFG_EN, 1), (F.ADC_C_STAT_STATE 8, 0)];
        going c && c.is F.ADC_CALCFG_EN && c.mode == .drive && !c.is (F.ADC_CAL_HALT 1) && c.get (F.ADC_CAL_PHASE 1) == 0 && !(bank c 1).failing && !(bank c 1).abandoned && (bank c 1).last == none && c.get (F.ADC_C_STAT_STATE (8 * 1)) == 0),
      (let c : Chip := { W 1 [(F.ADC_STAT_REF_SETTLED, 1), (F.ADC_C_STAT_STATE 15, 7), (F.ADC_CS_STAT_STATE 1, 0)] with adc := { calRunning := 0x3FFFF } };
        going c && c.adc.calRunning.getLsbD 15 && c.is F.ADC_STAT_REF_SETTLED && c.mode == .boot && c.get (F.ADC_C_STAT_STATE 15) == 7 && (match fitCoefficients (([0, 32768, 8192, 16384, 24576, 32768, 40960, 49152, 57344] : List (BitVec 16)) |> fun codes => (List.range 9).map (fun k => ((codes.getD k 0).toNat : Int))) with | some (g, o) => calibrationPasses (([0, 32768, 8192, 16384, 24576, 32768, 40960, 49152, 57344] : List (BitVec 16)) |> fun codes => (List.range 9).map (fun k => ((codes.getD k 0).toNat : Int))) g o | none => false) && decide (c.get (F.ADC_CS_STAT_STATE (bankOf 15)) < 4) && fitCoefficients (([] : List (BitVec 16)) |> fun codes => (List.range 9).map (fun k => ((codes.getD k 0).toNat : Int))) == none),
      (let c : Chip := W 4 [(F.ADC_CAL_PHASE 1, 2)];
        going c && c.get (F.ADC_CAL_PHASE 1) == 2 && !(bank c 1).failing),
      (let c : Chip := W 4 [(F.ADC_CAL_PHASE 1, 3), (F.ADC_CAL_CUR 1, 9)];
        going c && c.get (F.ADC_CAL_PHASE 1) == 3 && !(bank c 1).failing && !(bank c 1).abandoned && inGap c 1)] : List Bool).all id = true := by decide +kernel

/-- States and operands meet the hypotheses of ComparatorsJudgeTheWindow. -/
theorem wit_ComparatorsJudgeTheWindow :
    ([(let c : Chip := W 4 [];
        going c && !c.adc.compSettled && decide (23 < c.adc.levels.length) && movingFrom c 23 == none),
      (let c : Chip := { W 4 [] with adc := { compSettled := true } };
        !c.adc.above.getLsbD 23 && !c.adc.below.getLsbD 23 && c.adc.compSettled)] : List Bool).all id = true := by decide +kernel

/-- States and operands meet the hypotheses of CarrierPointsTakeEffect (part 1). -/
theorem wit_CarrierPointsTakeEffect_1 :
    ([(let c : Chip := { W 4 [(F.PWM_G_LPER_LPER 5, 0), (F.PWM_G_CTL_UPD 5, 2)] with up := 9, pwmG := List.replicate 7 { running := true, half := true } };
        boundaryDue c 5 && issuePoints 5 c == c && !updZero (c.get (F.PWM_G_CTL_UPD 5))),
      (let c : Chip := { W 4 [(F.PWM_G_LPER_LPER 5, 0), (F.PWM_G_CTL_UPD 5, 1)] with up := 9, pwmG := List.replicate 7 { running := true, half := true, pend := some {} } };
        boundaryDue c 5 && issuePoints 5 c == c && updZero (c.get (F.PWM_G_CTL_UPD 5)) && (c.pwmg 5).pend.isSome && decide ((c.pwmg 5).commitUp + 9 ≤ c.up)),
      (let c : Chip := { W 4 [(F.PWM_G_LPER_LPER 5, 0), (F.PWM_G_CTL_UPD 5, 1)] with up := 1, pwmG := List.replicate 7 { running := true, half := true, pend := some {} } };
        boundaryDue c 5 && issuePoints 5 c == c && updZero (c.get (F.PWM_G_CTL_UPD 5)) && (c.pwmg 5).pend.isSome && decide ((c.pwmg 5).commitUp < c.up) && decide (c.up < (c.pwmg 5).commitUp + 9)),
      (let c : Chip := { W 4 [(F.PWM_G_LPER_LPER 5, 0), (F.PWM_G_CTL_UPD 5, 1)] with up := 8, pwmG := List.replicate 7 { running := true, half := true, pend := some {} } };
        boundaryDue c 5 && issuePoints 5 c == c && updZero (c.get (F.PWM_G_CTL_UPD 5)) && (c.pwmg 5).pend.isSome && decide ((c.pwmg 5).commitUp < c.up) && decide (c.up < (c.pwmg 5).commitUp + 9)),
      (let c : Chip := { W 4 [(F.PWM_G_LPER_LPER 5, 0)] with up := 9, pwmG := List.replicate 7 { running := true } };
        going c && (c.pwmg 5).running && !angleMode c 5 && !(c.pwmg 5).half && fallen c (instantOf c 5 (c.get (F.PWM_G_LPER_LPER 5) / 2)) && !updMid (c.pwmg 5).upd),
      (let c : Chip := { W 4 [(F.PWM_G_LPER_LPER 5, 1)] with up := 9, pwmG := List.replicate 7 { running := true, xc := List.replicate 4 0x800000000000 } };
        going c && (c.pwmg 5).running && !angleMode c 5 && ((c.pwmg 5).xc.getD 3 0).field 47 1 == 1 && !(c.pwmg 5).xcDone.getD 3 false && decide (((c.pwmg 5).xc.getD 3 0).field 0 30 < c.get (F.PWM_G_LPER_LPER 5)) && fallen c (instantOf c 5 (((c.pwmg 5).xc.getD 3 0).field 0 30)))] : List Bool).all id = true := by decide +kernel

/-- States and operands meet the hypotheses of CarrierPointsTakeEffect (part 2). -/
theorem wit_CarrierPointsTakeEffect_2 :
    ([(let c : Chip := { W 4 [(F.PWM_G_LPER_LPER 5, 1000000)] with up := 9, pwmG := List.replicate 7 { running := true, xc := List.replicate 4 0x8000000F4240 } };
        going c && ((c.pwmg 5).xc.getD 3 0).field 47 1 == 1 && decide (c.get (F.PWM_G_LPER_LPER 5) ≤ ((c.pwmg 5).xc.getD 3 0).field 0 30) && !fallen c (instantOf c 5 (c.get (F.PWM_G_LPER_LPER 5)))),
      (let c : Chip := { W 4 [(F.PWM_G_LPER_LPER 5, 1)] with up := 9, pwmG := List.replicate 7 { running := true, xcDone := List.replicate 4 true } };
        going c && (c.pwmg 5).xcDone.getD 3 false),
      (let c : Chip := W 4 [];
        !(c.pwmg 6).running),
      (let c : Chip := W 4 [(F.PWM_G_STAT_ANGLE 6, 1)];
        angleMode c 6)] : List Bool).all id = true := by decide +kernel

/-- States and operands meet the hypotheses of LegsFollowTheirCommands. -/
theorem wit_LegsFollowTheirCommands :
    ([(let c : Chip := { W 4 [] with pwmG := List.replicate 7 { running := true, dlBad := 3 } };
        going c && (c.pwmg (groupOf 19)).running && !angleMode c (groupOf 19) && !(c.leg 19).refresh && fallen c (instantOf c (groupOf 19) 0) && decide (19 < c.pwmL.length) && !(cutCommands c 19).1 && !(cutCommands c 19).2 && (c.leg 19).lineH == [] && (c.leg 19).lineL == [] && (c.pwmg 6).dlBad == 3 && !lineDue c (c.leg 19).lineH true),
      (let c : Chip := { W 4 [(F.PWM_G_BSR_EN 6, 1)] with up := 10000000, pwmG := List.replicate 7 { running := true } };
        going c && c.is (F.PWM_G_BSR_EN (groupOf 19)) && (c.pwmg (groupOf 19)).running && !angleMode c (groupOf 19) && !lowLasts c 19 && decide (400 * max 1 (c.get (F.PWM_G_BSR_BSMAX (groupOf 19))) ≤ c.up - (c.leg 19).monUp)),
      (let c : Chip := { W 4 [] with up := 9, pwmL := List.replicate 20 { lineH := [(64, true)], lineL := [(639, false)] } };
        lineDue c (c.leg 19).lineH true && lineDue c (c.leg 19).lineL false && !lineDue c (c.leg 19).lineH false)] : List Bool).all id = true := by decide +kernel

/-- States and operands meet the hypotheses of StrengthFramesAreSentAndLatched. -/
theorem wit_StrengthFramesAreSentAndLatched :
    ([(let c : Chip := { W 4 [] with gdsG := List.replicate 7 { drven := true } };
        (c.gdsg 6).drven && !c.is (F.GDS_G_STAT_LOADED 6) && !(c.gdsg 6).loading && going c),
      (let c : Chip := { W 4 [(F.GDS_G_CFG_DUP 6, 0)] with gdsG := List.replicate 7 { drven := true, cur := some ⟨1, true, 5, 3⟩ } };
        going c && (c.gdsg 6).cur == some ⟨1, true, 5, 3⟩ && c.get (F.GDS_G_CFG_DUP 6) == 0 && !(c.gdsg 6).dupDue),
      (let c : Chip := { W 4 [(F.GDS_G_CFG_DUP 6, 1)] with gdsG := List.replicate 7 { drven := true, cur := some ⟨1, true, 5, 3⟩ } };
        going c && (c.gdsg 6).cur == some ⟨1, true, 5, 3⟩ && c.get (F.GDS_G_CFG_DUP 6) == 1 && !(c.gdsg 6).dupDue),
      (let c : Chip := { W 4 [] with gdsG := List.replicate 7 { drven := true, latching := [⟨1, true, 15, 3⟩] } };
        going c && (c.gdsg 6).latching == [⟨1, true, 15, 3⟩] && !(c.gdsg 6).loading && decide (legOfSwitch 6 1 < 20)),
      (let c : Chip := { W 4 [] with gdsG := List.replicate 7 { drven := true, loading := true, toLoad := [(1, true)], latching := [⟨1, true, 15, 3⟩] } };
        going c && (c.gdsg 6).latching == [⟨1, true, 15, 3⟩] && (c.gdsg 6).loading && (c.gdsg 6).drven && (c.gdsg 6).toLoad == [(1, true)]),
      (let c : Chip := { W 4 [(F.GDS_G_CFG_REFINT 6, 1), (F.GDS_G_STAT_BREAK 6, 1)] with gdsG := List.replicate 7 { drven := true } };
        going c && (c.gdsg 6).drven && (c.gdsg 6).queue == [] && c.get (F.GDS_G_CFG_REFINT 6) != 0 && (c.gdsg 6).refresh == 0 && c.is (F.GDS_G_STAT_BREAK 6) && !anySoft c 6)] : List Bool).all id = true := by decide +kernel

/-- States and operands meet the hypotheses of EdgePulsesAreMeasured. -/
theorem wit_EdgePulsesAreMeasured :
    ([(let c : Chip := { W 4 [(F.GDS_G_CFG_ATTW 6, 1)] with up := 9, gdsG := List.replicate 7 { drven := true, learning := true }, gdsL := List.replicate 20 { lastLaunch := some (3, 576), kinds := List.replicate 4 { ended := false } } };
        going c && (c.gdsg (groupOf 19)).drven && !c.is (F.GDS_L_FLT_LIVEEDG 19) && (c.gdsl 19).lastLaunch.any (fun l => decide (l.2 ≤ 64 * c.up + 0) && decide (64 * c.up + 0 ≤ l.2 + c.get (F.GDS_G_CFG_ATTW (groupOf 19)) * 256)) && (c.gdsg (groupOf 19)).learning && !(kindAt c 19 3).ended),
      (let c : Chip := { W 4 [(F.GDS_G_CFG_ATTW 6, 1)] with up := 9, gdsG := List.replicate 7 { drven := true, learning := true }, gdsL := List.replicate 20 { lastLaunch := some (3, 383), kinds := List.replicate 4 { ended := false } } };
        going c && (c.gdsg (groupOf 19)).drven && !c.is (F.GDS_L_FLT_LIVEEDG 19) && (c.gdsl 19).lastLaunch.any (fun l => decide (l.2 ≤ 64 * c.up + 63) && decide (64 * c.up + 63 ≤ l.2 + c.get (F.GDS_G_CFG_ATTW (groupOf 19)) * 256)) && (c.gdsg (groupOf 19)).learning && !(kindAt c 19 3).ended),
      (let c : Chip := { W 4 [(F.GDS_L_FLT_LIVEEDG 19, 1)] with up := 9, gdsG := List.replicate 7 { drven := true, learning := true }, gdsL := List.replicate 20 { edgAt := some 0, pulse := some ⟨3, 255, 7, false⟩ } };
        going c && (c.gdsg (groupOf 19)).drven && c.is (F.GDS_L_FLT_LIVEEDG 19) && (c.gdsl 19).edgAt == some 0 && (c.gdsl 19).pulse.any (fun p => p.kind == 3 && !p.clean)),
      (let c : Chip := { W 4 [(F.GDS_L_FLT_LIVEEDG 19, 1)] with up := 9, gdsG := List.replicate 7 { drven := true, learning := true }, gdsL := List.replicate 20 { edgAt := some 0 } };
        going c && (c.gdsg (groupOf 19)).drven && c.is (F.GDS_L_FLT_LIVEEDG 19) && (c.gdsl 19).edgAt == some 0 && (c.gdsl 19).pulse.isNone),
      (let c : Chip := W 4 [];
        going c && !(c.gdsg (groupOf 19)).drven)] : List Bool).all id = true := by decide +kernel

/-- States and operands meet the hypotheses of SwitchFaultsAreJudged. -/
theorem wit_SwitchFaultsAreJudged :
    ([(let c : Chip := { W 4 [] with gdsG := List.replicate 7 { drven := true } };
        going c && (c.gdsg (groupOf 19)).drven && !c.is (F.GDS_L_FLT_LIVEDS 19) && !(c.leg 19).outH && !(c.leg 19).outL),
      (let c : Chip := { W 7 [(F.PRT_CHP_LEG, 3), (F.GDS_G_STAT_LOADED 6, 1)] with up := 400, gdsG := List.replicate 7 { drven := true }, gdsL := List.replicate 20 { edgAt := some 0 }, pwmL := List.replicate 20 { outH := true }, pwmG := List.replicate 7 { dlEver := true, follow := true }, sto := { request := false, stoa := true, stob := true } };
        going c && (c.gdsg (groupOf 19)).drven && outOn c 19 true && !outOn c 19 false && overdue c 19 true),
      (let c : Chip := { W 7 [(F.PRT_CHP_LEG, 3), (F.GDS_G_STAT_LOADED 6, 1)] with up := 400, gdsG := List.replicate 7 { drven := true }, gdsL := List.replicate 20 { edgAt := some 0 }, pwmL := List.replicate 20 { outL := true }, pwmG := List.replicate 7 { dlEver := true, follow := true }, sto := { request := false, stoa := true, stob := true } };
        going c && (c.gdsg (groupOf 19)).drven && !outOn c 19 true && outOn c 19 false && overdue c 19 false),
      (let c : Chip := { W 4 [(F.GDS_L_FLT_LATH 19, 1), (F.GDS_L_FLT_LATL 19, 1)] with up := 4000, gdsL := List.replicate 20 { hi := { blanking := true, softWait := true, edge := true }, lo := { blanking := true, softWait := true, edge := true } } };
        going c && [true, false].all (fun h => (switchOf c 19 h).blanking && decide (blankCycles c 19 h ≤ c.up - (switchOf c 19 h).onUp) && (switchOf c 19 h).softWait && (switchOf c 19 h).edge && c.is (latchFld 19 h)) && !(c.gdsg (groupOf 19)).entering && !c.is (F.GDS_G_STAT_FAULT (groupOf 19))),
      (let c : Chip := { W 4 [] with time := { fwt := 0xFFFFFFFFFFFFFFFF }, pwmL := List.replicate 20 { outH := true, outL := true, ilk := some 0 } };
        going c && (legsOf 6).any (interlockLasts c) && !c.is (F.GDS_G_STAT_FAULT 6)),
      (let c : Chip := W 4 [(F.GDS_G_STAT_FAULT 6, 1)];
        c.is (F.GDS_G_STAT_FAULT 6) && !outen c (groupOf 19))] : List Bool).all id = true := by decide +kernel

/-- States and operands meet the hypotheses of ProgramsStartRunAndEnd (part 1). -/
theorem wit_ProgramsStartRunAndEnd_1 :
    ([(let c : Chip := W 4 [(F.ZEN_PG_CFG_EN 63, 1)];
        going c && runMode c.mode && c.is (F.ZEN_PG_CFG_EN 63) && (physLane c (c.get (F.ZEN_PG_CFG_LANE 63))).isSome && !c.is (F.ZEN_PG_STAT_QUEUED 63) && !c.is (F.ZEN_PG_STAT_RUNNING 63) && c.zen.startAt.getD 63 none != some (zclkNow c)),
      (let c : Chip := W 4 [(F.ZEN_PG_CFG_EN 63, 1), (F.ZEN_PG_STAT_QUEUED 63, 1), (F.ZEN_PG_CFG_LANE 63, 7)];
        going c && runMode c.mode && c.is (F.ZEN_PG_STAT_QUEUED 63) && c.is (F.ZEN_PG_CFG_EN 63) && c.zen.startAt.getD 63 none != some (zclkNow c) && laneRun c 7 == none && nextProgram c 7 == some 63 && (physLane c 7).any (· < 9)),
      (let c : Chip := W 4 [(F.ZEN_PG_CFG_EN 63, 1), (F.ZEN_PG_STAT_RUNNING 63, 1)];
        c.is (F.ZEN_PG_STAT_RUNNING 63)),
      (let c : Chip := { W 4 [] with zen := { startAt := List.replicate 64 (some 0) } };
        going c && c.zen.startAt.getD 63 none == some (zclkNow c)),
      (let c : Chip := { W 4 [] with zen := { running := List.replicate 8 (some { prog := 63, cfg := 0, pos := 2000 }) } };
        (laneRun c 7).any (fun r => runNext c r == none && r.cfg.field 39 1 == 0 && decide (r.prog < 64)) && !c.is (F.ZEN_PG_STAT_RUNNING 62) && !c.is (F.ZEN_PG_STAT_QUEUED 62)),
      (let c : Chip := { (W 4 [(F.ZEN_ST_BLK_COUNT 0, 1), (F.ZEN_BK_CFG_TYPE 0, 1)]).set (F.ZEN_BK_SRC0_A 0) (2 * 2 ^ 21 + 0x50) with zen := { running := List.replicate 8 (some { prog := 63, cfg := 0x100, pos := 1, wait := some (5, 1) }) } };
        (laneRun c 7).any (fun r => (runNext c r).any (fun it => itemWaits c r it)))] : List Bool).all id = true := by decide +kernel

/-- States and operands meet the hypotheses of ProgramsStartRunAndEnd (part 2). -/
theorem wit_ProgramsStartRunAndEnd_2 :
    ([(let c : Chip := { (W 4 [(F.ZEN_ST_BLK_COUNT 0, 1), (F.ZEN_BK_CFG_TYPE 0, 1)]).set (F.ZEN_BK_SRC0_A 0) (2 * 2 ^ 21 + 0x50) with zen := { running := List.replicate 8 (some { prog := 63, cfg := 0x100, pos := 1 }) } };
        (laneRun c 7).any (fun r => (runNext c r).any (fun it => !itemWaits c r it)))] : List Bool).all id = true := by decide +kernel

/-- States and operands meet the hypotheses of LanesMigrateAndAreTested (part 1). -/
theorem wit_LanesMigrateAndAreTested_1 :
    ([(let c : Chip := W 4 [];
        (spareLane c).any (· < 9) && (physLane c 7).any (· < 9) && c.get F.ZEN_MIG_PHASE == 0 && runMode c.mode),
      (let c : Chip := W 4 [(F.ZEN_LMAP_SPARE, 15)];
        spareLane c == none),
      (let c : Chip := W 4 [(F.ZEN_MIG_PHASE, 1)];
        c.get F.ZEN_MIG_PHASE == 1 && going c),
      (let c : Chip := W 4 [(F.ZEN_MIG_PHASE, 2), (F.ZEN_MIG_DST, 8)];
        going c && c.get F.ZEN_MIG_PHASE == 2 && laneRun c (migLogical c) == none && queuedOn c (migLogical c) == []),
      (let c : Chip := W 4 [(F.ZEN_LMAP_TESTL, 8), (F.CLK_STAT_REFACT, 1), (F.CLK_STAT_HSTD, 1), (F.CLK_STAT_PLLALK, 1), (F.CLK_STAT_PLLBLK, 1)];
        going c && c.get F.ZEN_LMAP_TESTL != 15 && decide (c.get F.ZEN_LMAP_TESTL < 9) && clkOk c && vOk c),
      (let c : Chip := W 4 [(F.ZEN_LMAP_TESTL, 8)];
        going c && c.get F.ZEN_LMAP_TESTL != 15 && !clkOk c)] : List Bool).all id = true := by decide +kernel

/-- States and operands meet the hypotheses of LanesMigrateAndAreTested (part 2). -/
theorem wit_LanesMigrateAndAreTested_2 :
    ([(let c : Chip := { W 4 [(F.ZEN_LMAP_TESTL, 8)] with clk := { vcoreLow := true } };
        going c && c.get F.ZEN_LMAP_TESTL != 15 && !vOk c),
      (let c : Chip := W 4 [(F.BST_OPCFG_EN, 1), (F.BST_OPCFG_LMASK, 0x80)];
        going c && runMode c.mode && (spareLane c).isSome && c.is F.BST_OPCFG_EN && c.get F.ZEN_MIG_PHASE == 0 && c.get F.ZEN_LMAP_TESTL == 15 && nextTestLane c == some 7),
      (let c : Chip := (W 4 [(F.ZEN_PG_CFG_EN 0, 1), (F.ZEN_PG_CFG_NST 0, 1), (F.ZEN_ST_BLK_COUNT 0, 1), (F.ZEN_BK_CFG_TYPE 0, 2)]).wr (F.ZEN_BK_P0 0) 0x5000;
        going c && runMode c.mode && pulseUsed c 1)] : List Bool).all id = true := by decide +kernel

/-- States and operands meet the hypotheses of CatchesAlignmentsAndPolarity (part 1). -/
theorem wit_CatchesAlignmentsAndPolarity_1 :
    ([(let c : Chip := W 7 [(F.MOT_CFG_FUNC 0, 1), (F.MOT_CFG_PG 0, 63), (F.MOT_CSTP_CSPD 0, 0), (F.MOT_CFG_AT 0, 0), (F.MOT_PLS_PTRY 0, 0), (F.MOT_STAT_STEP 0, 1), (F.DEV_AXST_SUB 0, 1), (F.MOT_CFG_START 0, 0)];
        going c && isMotor c 0 && c.get (F.MOT_STAT_STEP 0) == 1 && !identifying c 0 && (axisSeq c 0).catchN == 0),
      (let c : Chip := W 7 [(F.MOT_CFG_FUNC 0, 1), (F.MOT_CFG_PG 0, 63), (F.MOT_CSTP_CSPD 0, 0), (F.MOT_CFG_AT 0, 0), (F.MOT_PLS_PTRY 0, 0), (F.MOT_STAT_STEP 0, 1), (F.DEV_AXST_SUB 0, 1), (F.MOT_CFG_START 0, 1)];
        going c && isMotor c 0 && c.get (F.MOT_STAT_STEP 0) == 1 && !identifying c 0 && (axisSeq c 0).catchN == 0),
      (let c : Chip := W 7 [(F.MOT_CFG_FUNC 0, 1), (F.MOT_CFG_PG 0, 63), (F.MOT_CSTP_CSPD 0, 0), (F.MOT_CFG_AT 0, 0), (F.MOT_PLS_PTRY 0, 0), (F.MOT_STAT_STEP 0, 1), (F.DEV_AXST_SUB 0, 1), (F.MOT_CFG_START 0, 2)];
        going c && isMotor c 0 && c.get (F.MOT_STAT_STEP 0) == 1 && !identifying c 0 && (axisSeq c 0).catchN == 0),
      (let c : Chip := W 7 [(F.MOT_CFG_FUNC 0, 1), (F.MOT_CFG_PG 0, 63), (F.MOT_CSTP_CSPD 0, 0), (F.MOT_CFG_AT 0, 0), (F.MOT_PLS_PTRY 0, 0), (F.MOT_STAT_STEP 0, 1), (F.DEV_AXST_SUB 0, 1), (F.MOT_CFG_START 0, 3)];
        going c && isMotor c 0 && c.get (F.MOT_STAT_STEP 0) == 1 && !identifying c 0 && (axisSeq c 0).catchN == 0),
      (let c : Chip := { W 7 [(F.MOT_CFG_FUNC 0, 1), (F.MOT_CFG_PG 0, 63), (F.MOT_CSTP_CSPD 0, 0), (F.MOT_CFG_AT 0, 0), (F.MOT_PLS_PTRY 0, 0), (F.MOT_STAT_STEP 0, 1), (F.DEV_AXST_SUB 0, 1), (F.AT_CFG_SRC 0, 4)] with axes := [{ catchN := 2, catchLow := 1, travel := -77777, steps := 5, amp := 1000000, lastTh := some 5 }, {}, {}, {}] };
        going c && isMotor c 0 && c.get (F.MOT_STAT_STEP 0) == 1 && !identifying c 0 && decide (2 * (axisSeq c 0).catchLow ≤ (axisSeq c 0).catchN) && (axisSeq c 0).catchN != 0 && c.get (F.MOT_CSTP_CSPD 0) == 0 && c.rd (F.MOT_PSI_PSI 0).addr == 0 && (axisSource c 0 == 4) == true),
      (let c : Chip := { W 7 [(F.MOT_CFG_FUNC 0, 1), (F.MOT_CFG_PG 0, 63), (F.MOT_CSTP_CSPD 0, 0), (F.MOT_CFG_AT 0, 0), (F.MOT_PLS_PTRY 0, 0), (F.MOT_STAT_STEP 0, 1), (F.DEV_AXST_SUB 0, 1), (F.AT_CFG_SRC 0, 1)] with axes := [{ catchN := 2, catchLow := 1, travel := -77777, steps := 5, amp := 1000000, lastTh := some 5 }, {}, {}, {}] };
        going c && isMotor c 0 && c.get (F.MOT_STAT_STEP 0) == 1 && !identifying c 0 && decide (2 * (axisSeq c 0).catchLow ≤ (axisSeq c 0).catchN) && (axisSeq c 0).catchN != 0 && c.get (F.MOT_CSTP_CSPD 0) == 0 && c.rd (F.MOT_PSI_PSI 0).addr == 0 && (axisSource c 0 == 4) == false)] : List Bool).all id = true := by decide +kernel

/-- States and operands meet the hypotheses of CatchesAlignmentsAndPolarity (part 2). -/
theorem wit_CatchesAlignmentsAndPolarity_2 :
    ([(let c : Chip := { W 7 [(F.MOT_CFG_FUNC 0, 1), (F.MOT_CFG_PG 0, 63), (F.MOT_CSTP_CSPD 0, 0), (F.MOT_CFG_AT 0, 0), (F.MOT_PLS_PTRY 0, 0), (F.MOT_STAT_STEP 0, 1), (F.DEV_AXST_SUB 0, 1), (F.AT_CFG_SRC 0, 2)] with axes := [{ catchN := 2, catchLow := 1, travel := -77777, steps := 5, amp := 1000000, lastTh := some 5 }, {}, {}, {}] };
        going c && isMotor c 0 && c.get (F.MOT_STAT_STEP 0) == 1 && !identifying c 0 && decide (2 * (axisSeq c 0).catchLow ≤ (axisSeq c 0).catchN) && (axisSeq c 0).catchN != 0 && c.get (F.MOT_CSTP_CSPD 0) == 0 && c.rd (F.MOT_PSI_PSI 0).addr == 0 && (axisSource c 0 == 4) == false),
      (let c : Chip := W 7 [(F.MOT_CFG_FUNC 3, 3), (F.MOT_STAT_STEP 3, 2)];
        going c && isMotor c 3 && c.get (F.MOT_STAT_STEP 3) == 2 && !(axisSeq c 3).runDue),
      (let c : Chip := W 7 [(F.MOT_CFG_FUNC 0, 1), (F.MOT_CFG_PG 0, 63), (F.MOT_CSTP_CSPD 0, 0), (F.MOT_CFG_AT 0, 0), (F.MOT_PLS_PTRY 0, 0), (F.DEV_AXST_SUB 0, 2)];
        going c && isMotor c 0 && c.sub 0 == .align && alignMethod c 0 == 0 && !trackerValid c 0),
      (let c : Chip := W 7 [(F.MOT_CFG_FUNC 0, 1), (F.MOT_CFG_PG 0, 63), (F.MOT_CSTP_CSPD 0, 0), (F.MOT_CFG_AT 0, 0), (F.MOT_PLS_PTRY 0, 0), (F.MOT_STAT_STEP 0, 6)];
        going c && isMotor c 0 && c.get (F.MOT_STAT_STEP 0) == 6 && !(axisSeq c 0).runDue),
      (let c : Chip := W 7 [(F.MOT_CFG_FUNC 0, 1), (F.MOT_CFG_PG 0, 63), (F.MOT_CSTP_CSPD 0, 0), (F.MOT_CFG_AT 0, 0), (F.MOT_PLS_PTRY 0, 0), (F.MOT_STAT_STEP 0, 4), (F.MOT_FLAGS_HFI 0, 1), (F.MOT_FLAGS_SEQREF 0, 1)];
        going c && isMotor c 0 && c.get (F.MOT_STAT_STEP 0) == 4),
      (let c : Chip := { W 7 [(F.MOT_CFG_FUNC 0, 1), (F.MOT_CFG_PG 0, 63), (F.MOT_CSTP_CSPD 0, 0), (F.MOT_CFG_AT 0, 0), (F.MOT_PLS_PTRY 0, 0), (F.MOT_STAT_STEP 0, 5), (F.MOT_PLS_PTHR 0, 50)] with axes := [{ polCount := 9999999, iPlus := some 10, iMinus := some 2 }, {}, {}, {}] };
        going c && isMotor c 0 && pairOver c 0 && c.get (F.MOT_STAT_STEP 0) == 5 && !(axisSeq c 0).flipDue && !identifying c 0 && (axisSeq c 0).iPlus == some 10 && (axisSeq c 0).iMinus == some 2)] : List Bool).all id = true := by decide +kernel

/-- States and operands meet the hypotheses of CatchesAlignmentsAndPolarity (part 3). -/
theorem wit_CatchesAlignmentsAndPolarity_3 :
    ([(let c : Chip := { W 7 [(F.MOT_CFG_FUNC 0, 1), (F.MOT_CFG_PG 0, 63), (F.MOT_CSTP_CSPD 0, 0), (F.MOT_CFG_AT 0, 0), (F.MOT_PLS_PTRY 0, 0), (F.MOT_STAT_STEP 0, 5), (F.MOT_PLS_PTHR 0, 50)] with axes := [{ polCount := 9999999, iPlus := some 2, iMinus := some 10 }, {}, {}, {}] };
        going c && isMotor c 0 && pairOver c 0 && c.get (F.MOT_STAT_STEP 0) == 5 && !(axisSeq c 0).flipDue && !identifying c 0 && (axisSeq c 0).iPlus == some 2 && (axisSeq c 0).iMinus == some 10),
      (let c : Chip := { W 7 [(F.MOT_CFG_FUNC 0, 1), (F.MOT_CFG_PG 0, 63), (F.MOT_CSTP_CSPD 0, 0), (F.MOT_CFG_AT 0, 0), (F.MOT_PLS_PTRY 0, 0), (F.MOT_STAT_STEP 0, 5), (F.MOT_PLS_PTHR 0, 50)] with axes := [{ polCount := 9999999, iPlus := some 10, iMinus := some 9 }, {}, {}, {}] };
        going c && isMotor c 0 && pairOver c 0 && c.get (F.MOT_STAT_STEP 0) == 5 && !(axisSeq c 0).flipDue && !identifying c 0 && (axisSeq c 0).iPlus == some 10 && (axisSeq c 0).iMinus == some 9),
      (let c : Chip := { W 7 [(F.MOT_CFG_FUNC 0, 1), (F.MOT_CFG_PG 0, 63), (F.MOT_CSTP_CSPD 0, 0), (F.MOT_CFG_AT 0, 0), (F.MOT_PLS_PTRY 0, 0)] with axes := [{ flipDue := true }, {}, {}, {}] };
        going c && (axisSeq c 0).flipDue && programIdle c 0),
      (let c : Chip := W 7 [(F.MOT_CFG_FUNC 0, 1), (F.MOT_CFG_PG 0, 63), (F.MOT_CSTP_CSPD 0, 0), (F.MOT_CFG_AT 0, 0), (F.MOT_PLS_PTRY 0, 0), (F.MOT_STAT_STEP 0, 3), (F.MOT_CFG_AT 0, 5), (F.AT_CFG_SRC 5, 2), (F.AT_OFFS_OFFS 5, 7), (F.AT_ANG_ANG 5, 9)];
        going c && isMotor c 0 && c.get (F.MOT_STAT_STEP 0) == 3 && (axisSeq c 0).dcRest == 0 && (axisSource c 0 == 1 || axisSource c 0 == 2) && axisTracker c 0 == some 5)] : List Bool).all id = true := by decide +kernel

/-- States and operands meet the hypotheses of RunningIdentifyingAndStoppingAxes (part 1). -/
theorem wit_RunningIdentifyingAndStoppingAxes_1 :
    ([(let c : Chip := W 7 [(F.MOT_CFG_FUNC 0, 1), (F.MOT_CFG_PG 0, 63), (F.MOT_CSTP_CSPD 0, 0), (F.MOT_CFG_AT 0, 0), (F.MOT_PLS_PTRY 0, 0), (F.AT_STAT_VALID 0, 1), (F.AT_SPD_SPD 0, 1000000)];
        going c && isMotor c 0),
      (let c : Chip := W 7 [(F.MOT_CFG_FUNC 0, 1), (F.MOT_CFG_PG 0, 63), (F.MOT_CSTP_CSPD 0, 0), (F.MOT_CFG_AT 0, 0), (F.MOT_PLS_PTRY 0, 0), (F.MOT_LAD_EN 0, 1), (F.DEV_AXST_SUB 0, 3), (F.MOT_PAT_EN 0 2, 1), (F.MOT_PAT_FHI 0 2, 10), (F.MOT_PAT_MHI 0 2, 100), (F.MOT_LORG_LORG 0, 5)];
        going c && axisTracker c 0 == some 0 && isMotor c 0 && c.is (F.MOT_LAD_EN 0) && c.sub 0 == .run && !c.is (F.KT_COMMIT_PENDING 0) && !c.is (F.KT_STAT_ENGD 0)),
      (let c : Chip := W 7 [(F.MOT_CFG_FUNC 0, 1), (F.MOT_CFG_PG 0, 63), (F.MOT_CSTP_CSPD 0, 0), (F.MOT_CFG_AT 0, 0), (F.MOT_PLS_PTRY 0, 0), (F.MOT_LAD_EN 0, 1), (F.DEV_AXST_SUB 0, 3)];
        going c && !(List.range 8).any (fun p => ladderQual c 0 p 0 0 0)),
      (let c : Chip := W 7 [(F.MOT_CFG_FUNC 0, 3), (F.MOT_CFG_AT 0, 0), (F.MOT_STAT_STEP 0, 7)];
        going c && isMotor c 0 && c.get (F.MOT_STAT_STEP 0) == 7 && !c.is (F.MOT_CFG_CRST 0) && (axisSeq c 0).sector != some (sectorOf c 0)),
      (let c : Chip := { W 7 [(F.MOT_CFG_FUNC 0, 3), (F.MOT_CFG_AT 0, 0), (F.MOT_STAT_STEP 0, 7)] with axes := [{ sector := some 0 }, {}, {}, {}] };
        going c && isMotor c 0 && c.get (F.MOT_STAT_STEP 0) == 7 && (axisSeq c 0).sector == some (sectorOf c 0)),
      (let c : Chip := { W 7 [(F.MOT_CFG_FUNC 0, 3), (F.MOT_CFG_GRP 0, 5)] with axes := [{ mon := [0, 0, 0, 0, 3, 0] }, {}, {}, {}] };
        (axisGroups c 0).head? == some 5)] : List Bool).all id = true := by decide +kernel

/-- States and operands meet the hypotheses of RunningIdentifyingAndStoppingAxes (part 2). -/
theorem wit_RunningIdentifyingAndStoppingAxes_2 :
    ([(let c : Chip := { W 7 [(F.MOT_CFG_FUNC 0, 3), (F.MOT_CFG_GRP 0, 5)] with axes := [{ mon := [0, 0, 0, 0, (0 - 3), 0] }, {}, {}, {}] };
        (axisGroups c 0).head? == some 5),
      (let c : Chip := { W 7 [(F.MOT_CFG_FUNC 0, 1), (F.MOT_CFG_PG 0, 63), (F.MOT_CSTP_CSPD 0, 0), (F.MOT_CFG_AT 0, 0), (F.MOT_PLS_PTRY 0, 0), (F.MOT_OBS_AIEN 0, 1)] with axes := [{ angDue := some (.value 7) }, {}, {}, {}] };
        going c && programIdle c 0 && !resetWaits c 0 && (axisSeq c 0).fluxDue == none && (axisSeq c 0).angDue == some (.value 7) && c.is (F.MOT_OBS_AIEN 0)),
      (let c : Chip := { W 7 [(F.MOT_CFG_FUNC 0, 1), (F.MOT_CFG_PG 0, 63), (F.MOT_CSTP_CSPD 0, 0), (F.MOT_CFG_AT 0, 0), (F.MOT_PLS_PTRY 0, 0), (F.DEV_AXST_SUB 0, 3), (F.MOT_PSI_PSI 0, 0x4000000000FD), (F.AT_SPD_SPD 0, 3000000000)] with axes := [{ mon := [0, 4000000, 5, 6, 7, 8] }, {}, {}, {}] };
        going c && axisFunc c 0 == 1 && coefRat (c.rd (F.MOT_PSI_PSI 0).addr) != 0 && c.sub 0 == .run && !c.is (F.MOT_FLAGS_SYNC 0) && elecHz c 0 != 0 && decide (((c.get (F.MOT_KE_KEMIN 0) : Nat) : Rat) ≤ absRat (elecHz c 0))),
      (let c : Chip := { W 6 [(F.MOT_CFG_FUNC 0, 1), (F.MOT_CFG_PG 0, 63), (F.MOT_CSTP_CSPD 0, 0), (F.MOT_CFG_AT 0, 0), (F.MOT_PLS_PTRY 0, 0), (F.DEV_AXST_IDACT 0, 1), (F.MOT_IDC_IDI 0, 40)] with axes := [{ task := some 2 }, {}, {}, {}] };
        going c && identifying c 0 && (axisSeq c 0).task == some 2 && (axisSeq c 0).phase == 0),
      (let c : Chip := W 7 [(F.MOT_CFG_FUNC 0, 1), (F.MOT_CFG_PG 0, 63), (F.MOT_CSTP_CSPD 0, 0), (F.MOT_CFG_AT 0, 0), (F.MOT_PLS_PTRY 0, 0), (F.DEV_AXST_SUB 0, 4), (F.MOT_CSTP_STOPSPD 0, 1), (F.MOT_CVS_STOPTMO 0, 1)];
        going c && stopActs c 0 && decide (measMag c 0 < c.get (F.MOT_CSTP_STOPSPD 0) * 65536) && c.get (F.MOT_CVS_STOPTMO 0) != 0),
      (let c : Chip := W 7 [(F.MOT_CFG_FUNC 0, 1), (F.MOT_CFG_PG 0, 63), (F.MOT_CSTP_CSPD 0, 0), (F.MOT_CFG_AT 0, 0), (F.MOT_PLS_PTRY 0, 0), (F.DEV_AXST_SUB 0, 4), (F.MOT_CVS_STOPTMO 0, 1)];
        going c && stopActs c 0 && c.get (F.MOT_CVS_STOPTMO 0) != 0)] : List Bool).all id = true := by decide +kernel

/-- States and operands meet the hypotheses of ConvertersStartStopAndKeepTheBudget (part 1). -/
theorem wit_ConvertersStartStopAndKeepTheBudget_1 :
    ([(let c : Chip := W 8 [(F.MOT_CFG_FUNC 1, 4), (F.MOT_CFG_AT 1, 2), (F.CNV_STAT_CSTEP 1, 1), (F.AT_STAT_VALID 2, 1), (F.CNV_ILV_NC 1, 15)];
        going c && isConverter c 1 && c.get (F.CNV_STAT_CSTEP 1) == 1 && axisTracker c 1 == some 2 && c.is (F.AT_STAT_VALID 2) && !c.is (F.AT_STAT_SRCFLT 2) && decide (((c.get (F.CNV_MON_VGMIN 1) : Nat) : Rat) ≤ cnvRat c 1 3) && !c.is (F.CNV_ILV_EN 1)),
      (let c : Chip := W 8 [(F.MOT_CFG_FUNC 1, 4), (F.MOT_CFG_AT 1, 2), (F.CNV_STAT_CSTEP 1, 1)];
        going c && isConverter c 1 && c.get (F.CNV_STAT_CSTEP 1) == 1),
      (let c : Chip := W 8 [(F.MOT_CFG_FUNC 1, 4), (F.MOT_CFG_AT 1, 2), (F.CNV_STAT_CSTEP 1, 2)];
        going c && isConverter c 1 && c.get (F.CNV_STAT_CSTEP 1) == 2),
      (let c : Chip := { W 8 [(F.CNV_BFLG_RAMP, 1), (F.CNV_BSTAT_GRANT, 0), (F.CNV_BCFG_BSLEW, 3)] with conv := { bl := 4 * 65536 } };
        going c && c.is F.CNV_BFLG_RAMP && !c.is F.CNV_BFLG_BUDGET_OVER && c.conv.deadline == none && decide (((100 * c.get F.CNV_BSTAT_GRANT : Nat) : Rat) < blW c - ((c.get F.CNV_BCFG_BSLEW : Nat) : Rat))),
      (let c : Chip := { W 8 [(F.CNV_BFLG_RAMP, 1), (F.CNV_BCFG_BSLEW, 4), (F.CNV_BSTAT_GRANT, 0)] with conv := { bl := 4 * 65536 } };
        going c && c.is F.CNV_BFLG_RAMP && !c.is F.CNV_BFLG_BUDGET_OVER && c.conv.deadline == none && decide (blW c - ((c.get F.CNV_BCFG_BSLEW : Nat) : Rat) ≤ ((100 * c.get F.CNV_BSTAT_GRANT : Nat) : Rat))),
      (let c : Chip := { W 8 [(F.CNV_BFLG_BUDGET_OVER, 1), (F.CNV_BSTAT_GRANT, 0), (F.CNV_BCFG_BTOL, 0), (F.MOT_CFG_FUNC 0, 4), (F.CNV_CCFG_BUDEN 0, 1), (F.DEV_AXST_SUB 0, 3)] with conv := { deadline := some 5 }, axes := [{ mon := [65536000] }, {}, {}, {}] };
        going c && c.is F.CNV_BFLG_BUDGET_OVER && c.conv.deadline.isSome && decide (grantLimit c < budgetUse c))] : List Bool).all id = true := by decide +kernel

/-- States and operands meet the hypotheses of ConvertersStartStopAndKeepTheBudget (part 2). -/
theorem wit_ConvertersStartStopAndKeepTheBudget_2 :
    ([(let c : Chip := W 8 [(F.CNV_BFLG_BUDGET_OVER, 1)];
        going c && c.is F.CNV_BFLG_BUDGET_OVER && decide (budgetUse c ≤ grantLimit c)),
      (let c : Chip := W 8 [(F.CNV_BFLG_BUSOK, 1), (F.CNV_BCFG_BTMO, 1), (F.CNV_BCFG_BSRC, 1), (F.CNV_BLIM_BFALL, 17)];
        going c && c.is F.CNV_BFLG_BUSOK && c.get F.CNV_BCFG_BTMO != 0 && c.get F.CNV_BCFG_BSRC == 1 && c.conv.frameUp != some c.up),
      (let c : Chip := W 8 [(F.MOT_CFG_FUNC 1, 4), (F.MOT_CFG_AT 1, 2), (F.DEV_AXST_SUB 1, 4), (F.CNV_STAT_CSTEP 1, 4), (F.CNV_PLIM_PLIM 1, 9)];
        going c && isConverter c 1 && stopRuns c .charge && c.sub 1 == .stopping && decide (absRat (cnvRat c 1 0) ≤ ((100 * c.get (F.CNV_CCFG_PSTOP 1) : Nat) : Rat))),
      (let c : Chip := W 8 [(F.MOT_CFG_FUNC 1, 4), (F.MOT_CFG_AT 1, 2), (F.DEV_AXST_SUB 1, 4), (F.CNV_CCFG_STOPTMO 1, 1)];
        going c && isConverter c 1 && stopRuns c .charge && c.sub 1 == .stopping && c.get (F.CNV_CCFG_STOPTMO 1) != 0)] : List Bool).all id = true := by decide +kernel

/-- States and operands meet the hypotheses of ProtectionTimeoutsAndTheConfigurationCheck (part 1). -/
theorem wit_ProtectionTimeoutsAndTheConfigurationCheck_1 :
    ([(let c : Chip := W 7 [(F.PRT_STAT_VOK, 1)];
        going c && protActs c.mode && c.mode != .config && !c.is F.PRT_DFLT_VLOST),
      (let c : Chip := W 2 [(F.PRT_STAT_VOK, 1)];
        going c && !(protActs c.mode && c.mode != .config && !c.is F.PRT_DFLT_VLOST)),
      (let c : Chip := W 5 [(F.DEV_MODE_LINK_OK, 1)];
        c.mode == .precharge && !c.clk.gated),
      (let c : Chip := W 10 [];
        c.mode == .discharge && !c.clk.gated && !c.is F.PRT_DFLT_DISCH_TMO),
      (let c : Chip := { W 7 [(F.PRT_CHP_LEG, 2), (F.PRT_CHP_CMPEN, 1), (F.PRT_CHS_CHON, 1), (F.PRT_CHP_SW, 1), (F.GDS_G_STAT_LOADED 6, 1)] with prot := { chopDue := true }, pwmL := List.replicate 20 { outL := true }, pwmG := List.replicate 7 { dlEver := true, follow := true }, sto := { request := false, stoa := true, stob := true } };
        going c && c.prot.chopDue && !c.prot.chopSeen && chopperOn c && c.is F.PRT_CHP_CMPEN),
      (let c : Chip := { W 7 [] with prot := { chopDue := true, chopSeen := true } };
        going c && c.prot.chopSeen)] : List Bool).all id = true := by decide +kernel

/-- States and operands meet the hypotheses of ProtectionTimeoutsAndTheConfigurationCheck (part 2). -/
theorem wit_ProtectionTimeoutsAndTheConfigurationCheck_2 :
    ([(let c : Chip := W 7 [(F.MOT_CFG_FUNC 3, 1), (F.PRT_SST_STATE 3, 1), (F.PRT_SST_SCAUSE 3, 9), (F.DEV_AXST_SUB 3, 3)];
        going c && ascOn c 3 && !trackerValid c 3),
      (let c : Chip := W 2 [(F.DEV_CFGCHK_BUSY, 1)];
        going c && c.is F.DEV_CFGCHK_BUSY)] : List Bool).all id = true := by decide +kernel

/-- States and operands meet the hypotheses of RindHoldsStoAndRaisesDemands (part 1). -/
theorem wit_RindHoldsStoAndRaisesDemands_1 :
    ([(let c : Chip := { W 4 [] with sto := { request := false } };
        rindRuns c && !c.sto.request && !c.sto.stoa),
      (let c : Chip := W 4 [];
        (c.sto.request) && ((c.rd 0xC0002).field 7 1 == 0) && (rindRuns c && !monOn c 1) && (rindRuns c) && (rindRuns c && up c && withinPct 10 180000 200000)),
      (let c : Chip := W 4 [(F.SAF_STAT_PROOFH, 5)];
        rindRuns c && c.sto.request && !rindFaulted c),
      (let c : Chip := inForce [(F.SIN_RCMP_EN 3, 1), (F.SIN_RCMP_CH 3, 47), (F.SIN_RCMP_MODE 3, 0), (F.SIN_RCMP_LO 3, 9), (F.SIN_RCMP_HI 3, 4000)] (W 4 []);
        rindRuns c && c.rind.rcmpUv.length == 4 && c.pb (F.SIN_RCMP_EN 3) && decide (c.pf (F.SIN_RCMP_CH 3) < 48) && rcmpCond c 3 3300000 && !rcmpCond c 3 9000 && (c.rd 0xC0001).field 3 1 == 0),
      (let c : Chip := inForce [(F.SIN_RCMP_EN 3, 1), (F.SIN_RCMP_CH 3, 47), (F.SIN_RCMP_MODE 3, 1), (F.SIN_RCMP_LO 3, 9), (F.SIN_RCMP_HI 3, 4000)] (W 4 []);
        rindRuns c && c.rind.rcmpUv.length == 4 && c.pb (F.SIN_RCMP_EN 3) && decide (c.pf (F.SIN_RCMP_CH 3) < 48) && rcmpCond c 3 0 && !rcmpCond c 3 9000 && (c.rd 0xC0001).field 3 1 == 0),
      (let c : Chip := inForce [(F.SIN_RCMP_EN 3, 1), (F.SIN_RCMP_CH 3, 47), (F.SIN_RCMP_MODE 3, 2), (F.SIN_RCMP_LO 3, 9), (F.SIN_RCMP_HI 3, 4000)] (W 4 []);
        rindRuns c && c.rind.rcmpUv.length == 4 && c.pb (F.SIN_RCMP_EN 3) && decide (c.pf (F.SIN_RCMP_CH 3) < 48) && rcmpCond c 3 3300000 && !rcmpCond c 3 9000 && (c.rd 0xC0001).field 3 1 == 0)] : List Bool).all id = true := by decide +kernel

/-- States and operands meet the hypotheses of RindHoldsStoAndRaisesDemands (part 2). -/
theorem wit_RindHoldsStoAndRaisesDemands_2 :
    ([(let c : Chip := { W 4 [] with clk := { rindReset := true } };
        !rindRuns c),
      (let c : Chip := { W 4 [] with clk := { soscStopped := true } };
        !rindRuns c),
      (let c : Chip := inForce [(F.SIN_RSCAN_CH 7, 49), (F.SIN_RSCL_G 7, 3), (F.SIN_RSCL_F 7, 250), (F.SIN_RROLE_ROLE 7, 12)] (W 4 []);
        rindRuns c && decide (c.pf (F.SIN_RSCAN_CH 7) ≤ 49)),
      (let c : Chip := { W 4 [] with rind := { lastBad := [true, false] } };
        rindRuns c && c.rind.lastBad.getD 0 false && decide (2031 < 2032) && (c.rd 0xC0002).field 5 1 == 0),
      (let c : Chip := inForce [(F.SIN_RXC_EN 7, 1)] ({ W 4 [] with rind := { cmp := List.replicate 8 { nR := 1 } } });
        rindRuns c && c.pb (F.SIN_RXC_EN 7) && (c.rind.cmp.getD 7 {}).nR != 0),
      (let c : Chip := inForce [(F.SIN_RXC_EN 7, 1)] ({ W 4 [] with rind := { cmp := List.replicate 8 { nR := 1, nM := 1, run := 3 } } });
        rindRuns c && c.pb (F.SIN_RXC_EN 7) && (c.rind.cmp.getD 7 {}).nR != 0)] : List Bool).all id = true := by decide +kernel

/-- States and operands meet the hypotheses of RindHoldsStoAndRaisesDemands (part 3). -/
theorem wit_RindHoldsStoAndRaisesDemands_3 :
    ([(let c : Chip := inForce [(F.SIN_RTM_CFG_EN 1, 1), (F.SIN_RTM_CFG_ASRC 1, 2)] (W 4 []);
        rindRuns c && monOn c 1),
      (let c : Chip := inForce [(F.SIN_RTM_CFG_EN 1, 1), (F.SIN_RTM_CFG_ASRC 1, 1)] (W 4 []);
        rindRuns c && monOn c 1),
      (let c : Chip := inForce [(F.SIN_RTM_CFG_EN 1, 1), (F.SIN_RTM_CFG_ASRC 1, 4)] (W 4 []);
        rindRuns c && monOn c 1),
      (let c : Chip := inForce [(F.SIN_RTM_CFG_EN 0, 1)] ({ W 7 [(F.DEV_AXST_SUB 0, 3)] with rind := { mon := List.replicate 2 { seqRun := 9999999 } } });
        rindRuns c && trefStale c 0 && (c.rd 0xC0001).field 8 1 == 0),
      (let c : Chip := inForce [(F.SIN_RTM_CFG_EN 0, 1), (F.SIN_RSTOP_SS1MODE, 1), (F.SIN_RSTOP_SSTILL, 1)] ({ W 9 [(F.SAF_STAT_SS1RUN, 1)] with rind := { stillTicks := 9 } });
        rindRuns c && ss1Running c && ss1Ramped c && decide (9 ≤ c.rind.stillTicks) && (enabledMons c).all (fun m => decide (absRat (rindMon c m).speed < ((c.pf F.SIN_RSTOP_SSTILL : Nat) : Rat)))),
      (let c : Chip := W 9 [(F.SAF_STAT_SS1RUN, 1)];
        rindRuns c && ss1Running c)] : List Bool).all id = true := by decide +kernel

/-- States and operands meet the hypotheses of RindHoldsStoAndRaisesDemands (part 4). -/
theorem wit_RindHoldsStoAndRaisesDemands_4 :
    ([(let c : Chip := inForce [(F.SIN_RTM_CFG_EN 0, 1), (F.SIN_RTM_ASC_RASCMAX 0, 1)] ({ (W 7 [(F.PRT_SST_STATE 0, 1)]).wr 0xC0001 0x1000 with sto := { request := false } });
        rindRuns c && deferNow c),
      (let c : Chip := W 4 [(F.SAF_STAT_PSETOK, 1)];
        rindRuns c && c.is F.SAF_STAT_PSETOK),
      (let c : Chip := { W 4 [] with rind := { sclkRun := 7 } };
        rindRuns c && up c && !withinPct 10 179999 200000 && decide (7 ≤ c.rind.sclkRun)),
      (let c : Chip := { W 4 [(F.SAF_STAT_PROOFH, 168)] with sto := { stoa := true } };
        rindRuns c && c.sto.stoa && decide (168 ≤ c.get F.SAF_STAT_PROOFH))] : List Bool).all id = true := by decide +kernel

/-- States and operands meet the hypotheses of SafetyFunctionsPulsesLevelsAndEvaluation (part 1). -/
theorem wit_SafetyFunctionsPulsesLevelsAndEvaluation_1 :
    ([(let c : Chip := inForce [(F.SIN_TP_EN, 8), (F.SIN_F_CFG_TYPE 7, 1), (F.SIN_F_SRC_SRCB 7, 7)] ({ W 4 [(F.SIN_SSTAT_TPLVL, 0)] with rind := { fns := List.replicate 8 { ch := List.replicate 4 { stoodHigh := true } } } });
        rindRuns c && Nat.bitAt (c.pf F.SIN_TP_EN) 3 && !Nat.bitAt (c.get F.SIN_SSTAT_TPLVL) 3 && fromTp c 7 1 3 && ((sinFn c 7).ch.getD 1 {}).stoodHigh && !(0#32).getLsbD (4 * 7 + 1) && windowed c 7 1),
      (let c : Chip := inForce [(F.SIN_TP_EN, 8), (F.SIN_F_CFG_TYPE 7, 1), (F.SIN_F_SRC_SRCB 7, 7)] ({ W 4 [(F.SIN_SSTAT_TPLVL, 8)] with rind := { fns := List.replicate 8 { ch := List.replicate 4 { stoodHigh := true } } } });
        rindRuns c && Nat.bitAt (c.pf F.SIN_TP_EN) 3 && Nat.bitAt (c.get F.SIN_SSTAT_TPLVL) 3),
      (let c : Chip := inForce [(F.SIN_F_CFG_TYPE 7, 1), (F.SIN_F_SRC_SRCB 7, 7)] (W 4 []);
        rindRuns c && (List.range 4).any (fun x => fromTp c 7 x 3)),
      (let c : Chip := inForce [(F.SIN_F_CFG_TYPE 0, 5), (F.SIN_F_CFG_FILT 0, 1)] (W 4 []);
        decide (fnChannels (fnType c 0) ≤ 1) && decide (99 < filterSamples c 0 0 true)),
      (let c : Chip := inForce [(F.SIN_F_CFG_TYPE 7, 1), (F.SIN_F_CFG_FILT 7, 1)] (W 4 []);
        rindRuns c && decide (0 < fnChannels (fnType c 7)) && !windowed c 7 0 && filterSamples c 7 0 true == 100 && chanLvl c 7 0 != some true),
      (let c : Chip := inForce [(F.SIN_F_CFG_TYPE 7, 2), (F.SIN_F_CFG_FILT 7, 1)] (W 4 []);
        rindRuns c && decide (0 < fnChannels (fnType c 7)) && !windowed c 7 0 && filterSamples c 7 0 true == 100 && chanLvl c 7 0 != some true)] : List Bool).all id = true := by decide +kernel

/-- States and operands meet the hypotheses of SafetyFunctionsPulsesLevelsAndEvaluation (part 2). -/
theorem wit_SafetyFunctionsPulsesLevelsAndEvaluation_2 :
    ([(let c : Chip := inForce [(F.SIN_F_CFG_TYPE 7, 3), (F.SIN_F_CFG_FILT 7, 1)] (W 4 []);
        rindRuns c && decide (0 < fnChannels (fnType c 7)) && !windowed c 7 0 && filterSamples c 7 0 true == 100 && chanLvl c 7 0 != some true),
      (let c : Chip := inForce [(F.SIN_F_CFG_TYPE 7, 4), (F.SIN_F_CFG_FILT 7, 1)] (W 4 []);
        rindRuns c && decide (0 < fnChannels (fnType c 7)) && !windowed c 7 0 && filterSamples c 7 0 true == 100 && chanLvl c 7 0 != some true),
      (let c : Chip := inForce [(F.SIN_F_CFG_TYPE 7, 5), (F.SIN_F_CFG_FILT 7, 1)] (W 4 []);
        rindRuns c && decide (0 < fnChannels (fnType c 7)) && !windowed c 7 0 && filterSamples c 7 0 true == 100 && chanLvl c 7 0 != some true),
      (let c : Chip := inForce [(F.SIN_F_CFG_TYPE 7, 5)] ({ W 4 [] with rind := { fns := List.replicate 8 { ch := List.replicate 4 { lvl := some true } } } });
        rindRuns c && fnType c 7 == 5 && chanLvl c 7 0 == some true),
      (let c : Chip := W 4 [];
        !c.is F.SAF_STAT_SELFOK),
      (let c : Chip := inForce [(F.SIN_F_CFG_TYPE 7, 1)] ({ W 4 [(F.SAF_STAT_SELFOK, 1)] with rind := { fns := List.replicate 8 { ch := List.replicate 4 { lvl := some true } } } });
        rindRuns c && c.is F.SAF_STAT_SELFOK && (fnType c 7 == 1 || fnType c 7 == 2 || fnType c 7 == 4))] : List Bool).all id = true := by decide +kernel

/-- States and operands meet the hypotheses of SafetyFunctionsPulsesLevelsAndEvaluation (part 3). -/
theorem wit_SafetyFunctionsPulsesLevelsAndEvaluation_3 :
    ([(let c : Chip := inForce [(F.SIN_F_CFG_TYPE 7, 2)] ({ W 4 [(F.SAF_STAT_SELFOK, 1)] with rind := { fns := List.replicate 8 { ch := List.replicate 4 { lvl := some true } } } });
        rindRuns c && c.is F.SAF_STAT_SELFOK && (fnType c 7 == 1 || fnType c 7 == 2 || fnType c 7 == 4)),
      (let c : Chip := inForce [(F.SIN_F_CFG_TYPE 7, 4)] ({ W 4 [(F.SAF_STAT_SELFOK, 1)] with rind := { fns := List.replicate 8 { ch := List.replicate 4 { lvl := some true } } } });
        rindRuns c && c.is F.SAF_STAT_SELFOK && (fnType c 7 == 1 || fnType c 7 == 2 || fnType c 7 == 4)),
      (let c : Chip := inForce [(F.SIN_F_CFG_TYPE 7, 1)] (W 4 [(F.SAF_STAT_SELFOK, 1)]);
        rindRuns c && c.is F.SAF_STAT_SELFOK && (fnType c 7 == 1 || fnType c 7 == 2 || fnType c 7 == 4)),
      (let c : Chip := inForce [(F.SIN_F_CFG_TYPE 7, 2)] (W 4 [(F.SAF_STAT_SELFOK, 1)]);
        rindRuns c && c.is F.SAF_STAT_SELFOK && (fnType c 7 == 1 || fnType c 7 == 2 || fnType c 7 == 4)),
      (let c : Chip := inForce [(F.SIN_F_CFG_TYPE 7, 4)] (W 4 [(F.SAF_STAT_SELFOK, 1)]);
        rindRuns c && c.is F.SAF_STAT_SELFOK && (fnType c 7 == 1 || fnType c 7 == 2 || fnType c 7 == 4))] : List Bool).all id = true := by decide +kernel

/-- States and operands meet the hypotheses of ThermalReadingsThrottleAndShutdown (part 1). -/
theorem wit_ThermalReadingsThrottleAndShutdown_1 :
    ([(let c : Chip := W 4 [];
        (going c) && (going c && !c.therm.evaluated && c.therm.converted != 0xFFF#12) && (going c && !c.clk.vsafeLow && !c.rind.latch)),
      (let c : Chip := { W 8 [(F.THM_CFG_PCTSLEW, 0), (F.THM_STEP_LIM 6, 40), (F.THM_THR_PCT, 20)] with therm := { converted := 0xFFF#12 } };
        going c && (c.therm.evaluated || c.therm.converted == 0xFFF#12) && decide ((tdInUse c).length < 6)),
      (let c : Chip := { W 8 [(F.THM_CFG_PCTSLEW, 5), (F.THM_STEP_LIM 6, 40), (F.THM_THR_PCT, 20)] with therm := { converted := 0xFFF#12 } };
        going c && (c.therm.evaluated || c.therm.converted == 0xFFF#12) && decide ((tdInUse c).length < 6)),
      (let c : Chip := { W 8 [(F.THM_CFG_PCTSLEW, 5), (F.THM_STEP_LIM 6, 10), (F.THM_THR_PCT, 20), (F.THM_TD_VALID 0, 1), (F.THM_TD_TEMP 0, 900)] with therm := { converted := 0xFFF#12 } };
        going c && (c.therm.evaluated || c.therm.converted == 0xFFF#12) && decide ((tdInUse c).length < 6)),
      (let c : Chip := { W 4 [] with therm := { evaluated := true, returning := 5#24 } };
        going c && c.therm.evaluated),
      (let c : Chip := { W 4 [(F.THM_TD_VALID 0, 1), (F.THM_TD_VALID 1, 1), (F.THM_TD_VALID 4, 1), (F.THM_TD_TEMP 0, 9), (F.THM_CFG_XTOL, 8), (F.THM_CFG_XN, 3)] with therm := { evaluated := true, miss := List.replicate 24 2 } };
        inUse c 0 && decide (2 ≤ ((neighbours c 0).filter (inUse c)).length) && decide (((c.get F.THM_CFG_XTOL : Nat) : Rat) < absRat (((tempOf c 0 : Int) : Rat) - median (((neighbours c 0).filter (inUse c)).map (tempOf c)))) && decide (c.get F.THM_CFG_XN ≤ c.therm.miss.getD 0 0 + 1))] : List Bool).all id = true := by decide +kernel

/-- States and operands meet the hypotheses of ThermalReadingsThrottleAndShutdown (part 2). -/
theorem wit_ThermalReadingsThrottleAndShutdown_2 :
    ([(let c : Chip := { W 4 [] with clk := { vsafeLow := true } };
        going c && c.clk.vsafeLow)] : List Bool).all id = true := by decide +kernel

/-- States and operands meet the hypotheses of PurlinSendsReceivesAndCountsErrors (part 1). -/
theorem wit_PurlinSendsReceivesAndCountsErrors_1 :
    ([(let c : Chip := W 4 [(F.PUR_CFG_MODE 1, 1), (F.PUR_ERR_STATE 1, 3)];
        going c && c.get (F.PUR_CFG_MODE 1) != 0 && !(puOf c 1).joined),
      (let c : Chip := { W 4 [(F.PUR_CFG_MODE 1, 1)] with pu := [{}, { joined := true }] };
        (going c && (puOf c 1).joined && busState c 1 != 2 && c.get (F.PUR_CFG_MODE 1) != 3) && ((puOf c 1).fifo.findIdx? (·.state == .free) == some 0)),
      (let c : Chip := W 4 [];
        going c && !(puOf c 1).joined),
      (let c : Chip := { W 4 [(F.PUR_CFG_MODE 1, 1), (F.PUR_FIFOST_RXOVR 1, 255)] with pu := [{}, { joined := true, fifo := [] }] };
        (puOf c 1).fifo.findIdx? (·.state == .free) == none),
      (let c : Chip := { W 4 [(F.PUR_CFG_MODE 1, 1), (F.PUR_ERR_TEC 1, 0)] with pu := [{}, { joined := true, active := some 2 }] };
        going c && (puOf c 1).active == some 2 && c.get (F.PUR_CFG_MODE 1) != 3),
      (let c : Chip := { W 4 [(F.PUR_CFG_MODE 1, 1), (F.PUR_ERR_TEC 1, 9)] with pu := [{}, { joined := true, active := some 2, bufs := List.replicate 3 { abort := true } }] };
        going c && (puOf c 1).active == some 2)] : List Bool).all id = true := by decide +kernel

/-- States and operands meet the hypotheses of PurlinSendsReceivesAndCountsErrors (part 2). -/
theorem wit_PurlinSendsReceivesAndCountsErrors_2 :
    ([(let c : Chip := { W 4 [(F.PUR_CFG_MODE 1, 1), (F.PUR_ERR_TEC 1, 9)] with pu := [{}, { joined := true, active := some 2, bufs := List.replicate 3 { frame := ⟨0x2000000000, []⟩ } }] };
        going c && (puOf c 1).active == some 2),
      (let c : Chip := { W 4 [(F.PUR_CFG_MODE 1, 1), (F.PUR_ERR_TEC 1, 9)] with pu := [{}, { joined := true, active := some 2, bufs := List.replicate 3 { frame := ⟨0, []⟩ } }] };
        going c && (puOf c 1).active == some 2),
      (let c : Chip := { W 4 [(F.PUR_CFG_MODE 1, 1), (F.PUR_ERR_TEC 1, 9)] with pu := [{}, { joined := true, active := some 2, bufs := List.replicate 3 { frame := ⟨0x4000000000, []⟩ } }] };
        going c && (puOf c 1).active == some 2),
      (let c : Chip := { W 4 [(F.PUR_CFG_MODE 1, 1), (F.PUR_ERR_TEC 1, 248)] with pu := [{}, { joined := true, active := some 2 }] };
        going c && (puOf c 1).active == some 2 && decide (247 < c.get (F.PUR_ERR_TEC 1))),
      (let c : Chip := { W 4 [(F.PUR_CFG_MODE 1, 1), (F.PUR_ERR_TEC 1, 247)] with pu := [{}, { joined := true, active := some 2 }] };
        going c && (puOf c 1).active == some 2),
      (let c : Chip := W 4 [(F.PUR_TXST_ST 1 2, 3), (F.PUR_CFG_RETRY 1, 0)];
        going c && bufState c 1 2 == 3)] : List Bool).all id = true := by decide +kernel

/-- States and operands meet the hypotheses of PurlinSendsReceivesAndCountsErrors (part 3). -/
theorem wit_PurlinSendsReceivesAndCountsErrors_3 :
    ([(let c : Chip := W 4 [(F.PUR_TXST_ST 1 2, 3), (F.PUR_CFG_RETRY 1, 3)];
        going c && bufState c 1 2 == 3),
      (let c : Chip := W 4 [(F.PUR_ERR_STATE 1, 2), (F.PUR_ERR_TEC 1, 99), (F.PUR_ERR_REC 1, 9)];
        going c && busState c 1 == 2),
      (let c : Chip := { W 4 [(F.NWT_CFG_ROLE, 1), (F.NWT_CFG_DNPU, 3), (F.PUR_CFG_MODE 0, 1), (F.PUR_CFG_MODE 1, 1)] with pu := [{ seq := 255 }, { seq := 3 }] };
        going c && sendsTime c 0 && sendsTime c 1 && (puOf c 0).time == none && (puOf c 1).time == none),
      (let c : Chip := { W 4 [(F.PUR_CFG_MODE 1, 1), (F.PUR_ERR_REC 1, 247)] with pu := [{}, { joined := true }] };
        going c && (puOf c 1).joined && busState c 1 != 2),
      (let c : Chip := W 4 [(F.PUR_CFG_MODE 1, 1)];
        c.get (F.PUR_CFG_MODE 1) != 3 && c.get (F.PUR_CFG_MODE 0) == 0),
      (let c : Chip := W 4 [(F.CLK_STAT_REFACT, 0), (F.CLK_STAT_TRIMOK, 0)];
        txInh c)] : List Bool).all id = true := by decide +kernel

/-- States and operands meet the hypotheses of MeterAccumulatesCommitsAndCloses (part 1). -/
theorem wit_MeterAccumulatesCommitsAndCloses_1 :
    ([(let c : Chip := { W 8 [] with fuses := { variant := 1 } };
        going c && !hasMeter c),
      (let c : Chip := { W 8 [(F.MTR_STAT_CALOK, 1), (F.CLK_STAT_TRIMOK, 1)] with meter := { rimp := 4294967295, rexp := 4294967295, inForce := [(0x10000C, 0x40000000001F), (0x10000D, 0x40000000001F)] } };
        going c && hasMeter c && accumulates c && (List.range 4).all (fun k => decide (c.meter.satRun.getD k 0 < 3999))),
      (let c : Chip := { W 8 [] with meter := { count := 4000, sumV := 10000, sumI := 6000, sumP := -9000 } };
        going c && hasMeter c && decide (4000 ≤ c.meter.count)),
      (let c : Chip := W 8 [];
        going c && hasMeter c && !c.meter.tripped && !canStore c),
      (let c : Chip := W 8 [(F.THM_STAT_STWIN, 1)];
        going c && hasMeter c && !c.meter.tripped && canStore c && c.nvm.cur == none && c.nvm.waiting == []),
      (let c : Chip := { W 8 [(F.MTR_SESS_STATE, 1)] with meter := { tripped := true } };
        going c && c.meter.tripped && sessState c == 1)] : List Bool).all id = true := by decide +kernel

/-- States and operands meet the hypotheses of MeterAccumulatesCommitsAndCloses (part 2). -/
theorem wit_MeterAccumulatesCommitsAndCloses_2 :
    ([(let c : Chip := W 8 [(F.MTR_SESS_STATE, 1)];
        going c && hasMeter c),
      (let c : Chip := { W 8 [(F.MTR_SESS_STATE, 2), (F.MTR_SESS_SESSNO, 77), (F.THM_STAT_STWIN, 1)] with meter := { closing := some { reason := 4, words := some [] } } };
        going c && c.meter.closing == some { reason := 4, words := some [] } && sessState c == 2),
      (let c : Chip := { W 8 [(F.MTR_SESS_STATE, 2), (F.MTR_SESS_SESSNO, 77), (F.THM_STAT_STWIN, 0)] with meter := { closing := some { reason := 4, words := some [] } } };
        going c && c.meter.closing == some { reason := 4, words := some [] } && sessState c == 2),
      (let c : Chip := W 8 [(F.DEV_SEAL_SINOPEN, 1), (F.DEV_SEAL_MTROPEN, 1)];
        going c),
      (let c : Chip := W 8 [(F.DEV_SEAL_SINOPEN, 1), (F.DEV_SEAL_MTROPEN, 1), (F.THM_STAT_STWIN, 1)];
        going c)] : List Bool).all id = true := by decide +kernel

/-- States and operands meet the hypotheses of StoreSelfTestAndTraceEventsEnd (part 1). -/
theorem wit_StoreSelfTestAndTraceEventsEnd_1 :
    ([(let c : Chip := { W 2 [] with nvm := { host := some { op := 0x22, tag := 9, part := 2, restore := none, failed := false } } };
        going c && c.nvm.host.isSome && c.nvm.cur == none && c.nvm.waiting == []),
      (let c : Chip := { W 2 [] with nvm := { host := some { op := 0x22, tag := 9, part := 2, restore := none, failed := true } } };
        going c && c.nvm.host.isSome && c.nvm.cur == none && c.nvm.waiting == []),
      (let c : Chip := { W 2 [] with nvm := { cur := some (.image true [3, 0, 5]) } };
        (going c && c.nvm.cur == some (.image true [3, 0, 5]) && c.nvm.waiting == []) && (going c && c.nvm.cur.isSome)),
      (let c : Chip := { W 2 [(F.THM_STAT_STWIN, 1)] with nvm := { deferred := [⟨5, 1, 0, 0⟩] } };
        going c && c.nvm.deferred == [⟨5, 1, 0, 0⟩] && canStore c && c.nvm.cur == none && c.nvm.waiting == [] && !c.meter.tripped),
      (let c : Chip := { W 2 [(F.NVS_CNT_CORCNT, 65535)] with bist := { scrubReq := some ⟨0x40, 3⟩ } };
        going c && c.bist.scrubReq == some ⟨0x40, 3⟩),
      (let c : Chip := { W 2 [] with bist := { fuseReq := some ⟨0x41, 3⟩, fuseSlots := [0, 1] } };
        going c && c.bist.fuseReq == some ⟨0x41, 3⟩)] : List Bool).all id = true := by decide +kernel

/-- States and operands meet the hypotheses of StoreSelfTestAndTraceEventsEnd (part 2). -/
theorem wit_StoreSelfTestAndTraceEventsEnd_2 :
    ([(let c : Chip := W 3 [(F.BST_STAT_SRUN, 1), (F.BST_STAT_RUNS, 255)];
        c.mode == .selftest && !c.clk.gated && !c.bist.ending),
      (let c : Chip := { W 2 [(F.DEV_SEAL_SINOPEN, 1)] with safe := { confirming := some ⟨0x32, 3⟩ }, nvm := { cur := some .confirm } };
        (going c && c.safe.confirming == some ⟨0x32, 3⟩ && c.nvm.cur == some .confirm && sealOpened c false) && (going c)),
      (let c : Chip := { W 2 [(F.OBS_WCFG_EN, 1)] with obs := { fifo := [⟨3, 0, 0, 0, 0, 0⟩] } };
        c.wheyOn && c.obs.lost == 0),
      (let c : Chip := { W 2 [(F.OBS_WCFG_EN, 1)] with obs := { fifo := List.replicate 63 ⟨3, 0, 0, 0, 0, 0⟩, lost := 4 } };
        c.wheyOn && c.obs.lost != 0 && decide (c.obs.fifo.length ≤ 63)),
      (let c : Chip := { W 3 [(F.BST_STAT_SRUN, 1)] with bist := { ending := true }, nvm := { cur := some (.repair ⟨5, 1, 0, 0⟩) } };
        c.mode == .selftest && !c.clk.gated && c.bist.ending && !recording (storeWriteComplete true c)),
      (let c : Chip := { W 3 [(F.BST_STAT_SRUN, 1)] with nvm := { cur := some (.repair ⟨5, 1, 0, 0⟩) } };
        c.mode == .selftest && !c.clk.gated && !c.bist.ending && recording c)] : List Bool).all id = true := by decide +kernel

/-- A check value is below 2 to the 48, so a payload word carries it whole: the word of `rq 0 [checkValue l]` is the check value, which is what the
hypothesis of SealsAndTheSafetySetConfirmation on the payload asks for. -/
theorem wit_check_value_in_a_word (l : List (Nat × Word)) : ((rq 0 [checkValue l]).word 0).toNat = checkValue l := by
  have h : checkValue l < 2 ^ 32 := by unfold checkValue; exact BitVec.isLt _
  simp only [rq, Req.word, List.map_cons, List.getD_cons_zero, BitVec.toNat_ofNat]
  omega

end Sys2Proof.Tests
end

section
/-! SUPPORT. The proofs of the scope chapter (00_scope): the queue, what reset leaves, READ, and what a host write stores. -/

namespace Sys2Proof.Machine

/-! ### The queue -/

/-- Every command's meaning is one next state with another chip: each arm is `act`, `running`, `island` or `quiet`, and none touches the queue. -/
theorem exec_eq_still (i : Instr) (s : State) : ∃ d : Chip, exec i s = .next (s.still d) := by
  cases i <;> exact ⟨_, rfl⟩

theorem step_of_idle {s : State} (h : s.pending = []) : step s = .next (s.acted (idleChip s.chip)) := by
  simp only [step, h]; rfl

theorem step_of_command {s : State} {i : Instr} {rest : List Instr} (h : s.pending = i :: rest) : step s = exec i { s with pending := rest } := by
  simp only [step, h]

/-- Settles O3: an idle step leaves the empty queue, and a command runs on the queue's rest, which its meaning does not touch. -/
theorem everyStepAnswersAndKeepsTheQueueOrder : Obligations.EveryStepAnswersAndKeepsTheQueueOrder := by
  intro s
  cases hp : s.pending with
  | nil => exact ⟨s.acted (idleChip s.chip), step_of_idle hp, hp⟩
  | cons i rest =>
    obtain ⟨d, hd⟩ := exec_eq_still i { s with pending := rest }
    exact ⟨_, (step_of_command hp).trans hd, rfl⟩

/-! ### What reset leaves -/

theorem reset_mode : State.reset.chip.mode = .reset := by decide

/-- No word is listed at reset, so every word reads its reset word. -/
theorem reset_rd (a : Nat) : State.reset.chip.rd a = resetWord a := rfl

theorem resetWord_ident_part : (resetWord 0).field 32 16 = 0x9648 := by decide

theorem reset_events_masks_and_axes (n : Fin 4) :
    State.reset.chip.rd (0x10 + n) = 0 ∧ State.reset.chip.rd (0x14 + n) = 0 ∧ axisFunc State.reset.chip n = 0 := by
  revert n; decide

/-- Settles O29: the memories and lists of the chip after reset are empty, and the words that it names are evaluated. -/
theorem resetLeavesTheResetValues : Obligations.ResetLeavesTheResetValues :=
  ⟨reset_mode, reset_rd, resetWord_ident_part, rfl, rfl, rfl, rfl, rfl, rfl, rfl, rfl, reset_events_masks_and_axes, reset_memWf⟩

/-! ### Frames -/

theorem sameBut_refl (l : List Nat) (c : Chip) : sameBut l c c := ⟨fun _ _ => rfl, rfl, rfl, rfl⟩

theorem sameBut_wr {l : List Nat} {c d : Chip} {a : Nat} (w : Word) (ha : a ∈ l) (h : sameBut l c d) : sameBut l c (d.wr a w) := by
  obtain ⟨hr, hl, hz, hs⟩ := h
  exact ⟨fun b hb => (Chip.rd_wr_ne d w (fun he => hb (by rwa [he]))).trans (hr b hb), hl, hz, hs⟩

/-! ### The RC fields of a word read (R16) -/

/-- The word read with its RC fields cleared. -/
def rcCleared (a : Nat) (c : Chip) : Chip := if accMask a .rc = 0 then c else c.wr a (c.rd a &&& ~~~(accMask a .rc))

theorem rcCleared_def (a : Nat) (c : Chip) :
    rcCleared a c = if accMask a .rc = 0 then c else c.wr a (c.rd a &&& ~~~(accMask a .rc)) := rfl

theorem rcCleared_rd_same (a : Nat) (c : Chip) : (rcCleared a c).rd a = c.rd a &&& ~~~(accMask a .rc) := by
  unfold rcCleared
  split
  next h => rw [h]; exact BitVec.and_allOnes.symm
  next => exact Chip.rd_wr_same c a _

theorem sameBut_rcCleared {l : List Nat} {a : Nat} (c : Chip) (ha : a ∈ l) : sameBut l c (rcCleared a c) := by
  unfold rcCleared
  split
  next => exact sameBut_refl l c
  next => exact sameBut_wr _ ha (sameBut_refl l c)

theorem rcCleared_link (a : Nat) (c : Chip) : (rcCleared a c).link = c.link := by
  unfold rcCleared
  split <;> rfl

/-- What a read clears stands in the words, in the unread mark of PDONE or in the drops of the trace port, never in the link. -/
theorem clearRc_link (a : Nat) (c : Chip) : (clearRc a c).link = c.link := by
  simp only [clearRc, ← rcCleared_def]
  rw [← rcCleared_link a c]
  split_ifs
  · exact modMs_link _ _
  · rfl
  · exact Chip.setb_link _ _ _
  · rfl

/-- Outside the capture units a read clears the RC fields of the word and nothing else of the words and memories. -/
theorem clearRc_of_no_capture {a : Nat} (c : Chip) (ha : a < 0x20040 ∨ 0x20060 ≤ a) :
    (clearRc a c).rd a = c.rd a &&& ~~~(accMask a .rc) ∧ sameBut [a] c (clearRc a c) := by
  have hc : ¬(0x20040 ≤ a ∧ a < 0x20060 ∧ a % 2 = 1) := by omega
  have hw := rcCleared_rd_same a c
  have hf := sameBut_rcCleared c (List.mem_singleton_self a)
  simp only [clearRc, ← rcCleared_def, if_neg hc]
  split_ifs
  · exact ⟨hw, hf⟩
  · exact ⟨hw, hf⟩
  · exact ⟨hw, hf⟩

/-- A read of the value of capture unit n clears the unit's VALID flag as well (R158). -/
theorem clearRc_of_capture {n : Nat} (c : Chip) (hn : n < 16) :
    clearRc (F.NWT_NCAPn_VAL n) c = (rcCleared (F.NWT_NCAPn_VAL n) c).setb (F.NWT_NCAPn_CTL_VALID n) false := by
  have hv : F.NWT_NCAPn_VAL n = 0x20041 + 2 * n := rfl
  have hu : (F.NWT_NCAPn_VAL n - 0x20040) / 2 = n := by omega
  simp only [clearRc, ← rcCleared_def]
  rw [if_neg (by omega), if_neg (by omega), if_pos (by omega), hu]

/-! ### The latches of a two-word quantity (R15) -/

theorem latchesRest_iff (a : Nat) : latchesRest a = true ↔ a = 0x000001 ∨ a = 0x100010 ∨ a = 0x100012 := by
  simp [latchesRest, or_assoc]

/-- The chip with other latches held. -/
def holdLatches (l : List (Nat × Word)) (c : Chip) : Chip := modLink (fun k => { k with latch := l }) c

@[simp] theorem holdLatches_latch (l : List (Nat × Word)) (c : Chip) : (holdLatches l c).link.latch = l := rfl
@[simp] theorem holdLatches_rd (l : List (Nat × Word)) (c : Chip) (a : Nat) : (holdLatches l c).rd a = c.rd a := rfl
@[simp] theorem holdLatches_is (l : List (Nat × Word)) (c : Chip) (f : Fld) : (holdLatches l c).is f = c.is f := rfl

theorem sameBut_holdLatches {l : List Nat} {c d : Chip} (k : List (Nat × Word)) (h : sameBut l c d) : sameBut l c (holdLatches k d) := h

/-- A READ of the first word of a two-word quantity. -/
theorem readLatched_of_first {a : Nat} (c : Chip) (h : latchesRest a = true) :
    readLatched a c = (hostWord c a, holdLatches ((a + 1, hostWord c (a + 1)) :: dropLatch (a + 1) c.link.latch) (clearRc a c)) := by
  rw [← clearRc_link a c]
  simp only [readLatched, h, if_true]
  rfl

/-- A READ of a word that a latch holds. -/
theorem readLatched_of_held {a : Nat} {c : Chip} {e : Nat × Word} (h : latchesRest a = false)
    (he : c.link.latch.find? (fun e => e.1 == a) = some e) :
    readLatched a c = (e.2, holdLatches (dropLatch a c.link.latch) (clearRc a c)) := by
  rw [← clearRc_link a c]
  simp only [readLatched, h, he, Bool.false_eq_true, if_false]
  rfl

/-- A READ of a word that no latch holds. -/
theorem readLatched_of_unheld {a : Nat} {c : Chip} (h : latchesRest a = false) (he : c.link.latch.find? (fun e => e.1 == a) = none) :
    readLatched a c = (hostWord c a, clearRc a c) := by
  simp only [readLatched, h, he, Bool.false_eq_true, if_false]
  rfl

/-- Beside what a read clears, a READ changes the latches only. -/
theorem readLatched_chip (a : Nat) (c : Chip) : ∃ l : List (Nat × Word), (readLatched a c).2 = holdLatches l (clearRc a c) := by
  cases h : latchesRest a with
  | true => rw [readLatched_of_first c h]; exact ⟨_, rfl⟩
  | false =>
    cases he : c.link.latch.find? (fun e => e.1 == a) with
    | some e => rw [readLatched_of_held h he]; exact ⟨_, rfl⟩
    | none => rw [readLatched_of_unheld h he]; exact ⟨(clearRc a c).link.latch, rfl⟩

theorem readLatched_of_no_capture {a : Nat} (c : Chip) (ha : a < 0x20040 ∨ 0x20060 ≤ a) :
    (readLatched a c).2.rd a = c.rd a &&& ~~~(accMask a .rc) ∧ sameBut [a] c (readLatched a c).2 := by
  obtain ⟨l, hl⟩ := readLatched_chip a c
  obtain ⟨hw, hf⟩ := clearRc_of_no_capture c ha
  rw [hl, holdLatches_rd]
  exact ⟨hw, sameBut_holdLatches l hf⟩

theorem readLatched_of_capture {n : Nat} (c : Chip) (hn : n < 16) :
    (readLatched (F.NWT_NCAPn_VAL n) c).2.is (F.NWT_NCAPn_CTL_VALID n) = false ∧
      sameBut [F.NWT_NCAPn_VAL n, (F.NWT_NCAPn_CTL_VALID n).addr] c (readLatched (F.NWT_NCAPn_VAL n) c).2 := by
  obtain ⟨l, hl⟩ := readLatched_chip (F.NWT_NCAPn_VAL n) c
  rw [hl, holdLatches_is, clearRc_of_capture c hn]
  exact ⟨Chip.is_setb_same _ (F.NWT_NCAPn_CTL_VALID n) false rfl (by simp [F.NWT_NCAPn_CTL_VALID]),
    sameBut_holdLatches l (sameBut_wr _ (by simp) (sameBut_rcCleared c (by simp)))⟩

/-! ### READ -/

/-- A READ that its handler judges: nothing follows it. -/
theorem exec_read_of_serves {s : State} {q : Req} (h : serves 0x02 q s.chip = true) :
    exec (.read q) s = .next (s.still (answer 0x02 q (readOp q (heard 0x02 s.chip)))) := by
  rw [← receive_serves readOp h]; rfl

theorem readOp_of_accepted {q : Req} {c : Chip} (hl : q.len = 0) (h : readRefusal c q.hdr.toNat = none) :
    readOp q c = ([0, (readLatched q.hdr.toNat c).1], (readLatched q.hdr.toNat c).2) := by
  simp [readOp, hl, h, orRefuse]

theorem readOp_of_refused {q : Req} {c : Chip} {w : Word} (hl : q.len = 0) (h : readRefusal c q.hdr.toNat = some w) :
    readOp q c = ([w], c) := by
  simp [readOp, hl, h, orRefuse, refuse]

/-- The header of a request fits the address that a status word carries. -/
theorem stAddr_header (code : Nat) (q : Req) : stAddr code q.hdr.toNat = BitVec.ofNat 48 (code + q.hdr.toNat * 2 ^ 8) := by
  rw [stAddr, Nat.mod_eq_of_lt q.hdr.isLt]

theorem readRefusal_of_unlisted {c : Chip} {a : Nat} (hm : meterDenied c a = false) (hl : listed a = false) :
    readRefusal c a = some (stAddr 0x13 a) := by
  simp [readRefusal, hm, hl]

/-- Settles O12: a READ is the word and what it clears, with the latches of R15 beside it. -/
theorem readsAnswerTheWordCoherently : Obligations.ReadsAnswerTheWordCoherently := by
  unfold Obligations.ReadsAnswerTheWordCoherently
  refine ⟨fun s q hs hl hr => ?_, fun a c h he => ?_, fun a c ha => readLatched_of_no_capture c ha,
    fun n c hn => readLatched_of_capture c hn, fun s q hs hl hm hu => ?_, fun a c h => ?_, fun a w c h he => ?_, latchesRest_iff⟩
  · rw [exec_read_of_serves hs, readOp_of_accepted hl hr]
  · rw [readLatched_of_unheld h he]
  · rw [exec_read_of_serves hs, readOp_of_refused hl (readRefusal_of_unlisted hm hu), stAddr_header]
  · rw [readLatched_of_first c h]; exact ⟨rfl, holdLatches_latch _ _⟩
  · rw [readLatched_of_held h he]; exact ⟨rfl, holdLatches_latch _ _⟩

/-! ### Writes -/

theorem exec_write_of_serves {s : State} {q : Req} (h : serves 0x03 q s.chip = true) :
    exec (.write q) s = .next (s.acted (answer 0x03 q (writeOp q (heard 0x03 s.chip)))) := by
  rw [← receive_serves writeOp h]; rfl

theorem exec_maskedWrite_of_serves {s : State} {q : Req} (h : serves 0x06 q s.chip = true) :
    exec (.maskedWrite q) s = .next (s.acted (answer 0x06 q (maskedWrite q (heard 0x06 s.chip)))) := by
  rw [← receive_serves maskedWrite h]; rfl

/-- WRITE of one word: the refusal alone, or the word written. -/
theorem writeOp_eq {q : Req} (c : Chip) (hl : q.len = 1) :
    writeOp q c = orRefuse (writeFails c q.hdr.toNat (BitVec.allOnes 48) (q.word 0)) c
      (done (writeWords [(q.hdr.toNat, BitVec.allOnes 48, q.word 0)] c)) := by
  simp [writeOp, hl]

theorem maskedWrite_eq {q : Req} (c : Chip) (hl : q.len = 2) :
    maskedWrite q c = orRefuse (writeFails c q.hdr.toNat (q.word 0) (q.word 1)) c
      (done (writeWords [(q.hdr.toNat, q.word 0, q.word 1)] c)) := by
  simp [maskedWrite, hl]

theorem exec_registerWrite (s : State) (a : BitVec 24) (mask v : Word) :
    exec (.registerWrite a mask v) s = .next (s.acted (hostWrite a.toNat mask v s.chip)) := rfl

theorem hostWrite_eq (a : Nat) (mask v : Word) (c : Chip) :
    hostWrite a mask v c = if accepts c a mask v = true then writeWords [(a, mask, v)] c else c := by
  have hn : (c.mode = .reset ∨ c.mode = .boot ∨ (writeRefusal c a mask v).isSome) ↔ ¬(accepts c a mask v = true) := by
    simp [accepts, Option.isSome_iff_ne_none, imp_iff_not_or, or_assoc]
  simp only [hostWrite, hn, ite_not]

theorem writeWords_singleton (a : Nat) (mask v : Word) (c : Chip) :
    writeWords [(a, mask, v)] c = wordTaken a (c.rd a) (mask &&& v) (storeWord a mask v c) := rfl

theorem storeWord_of_wordAt {a : Nat} {d : WordDef} (mask v : Word) (c : Chip) (hd : wordAt a = some d) (ha : a < 0x78000 ∨ 0x90000 ≤ a) :
    storeWord a mask v c = c.wr a ((writtenWord c d a mask v &&& ~~~(keptW1c a)) ||| (c.rd a &&& keptW1c a)) := by
  have hlane : ¬(0x78000 ≤ a ∧ a < 0x80000) := by omega
  have hzmem : ¬(0x80000 ≤ a ∧ a < 0x90000) := by omega
  simp only [storeWord, hlane, hzmem, hd, if_false]

/-- With no bit kept, the merge of a new word and the old one is the new word. -/
theorem merge_none_kept (new old : Word) : (new &&& ~~~0) ||| (old &&& 0) = new := by
  rw [show ~~~(0 : Word) = BitVec.allOnes 48 from rfl, BitVec.and_allOnes, show old &&& 0 = 0 from BitVec.and_zero]
  exact BitVec.or_zero

/-- Words of MTR, NVS and BST have no effect of their own. -/
theorem wordTaken_of_mtr_nvs_bst {a : Nat} (old wr : Word) (c : Chip) (hlo : 0x100000 ≤ a) (hhi : a < 0x130000) : wordTaken a old wr c = c := by
  have hr : a / 0x10000 = 0x10 ∨ a / 0x10000 = 0x11 ∨ a / 0x10000 = 0x12 := by omega
  unfold wordTaken
  rcases hr with hr | hr | hr <;> rw [hr] <;> rfl

theorem keptW1c_of_mtr_nvs_bst {a : Nat} (hlo : 0x100000 ≤ a) : keptW1c a = 0 := by
  rw [keptW1c, if_neg (by omega), if_neg (by omega)]

/-- Settles O13: a write is its refusal, or the word stored and then the effect of the word's rule. -/
theorem writesStoreTheValue : Obligations.WritesStoreTheValue := by
  unfold Obligations.WritesStoreTheValue
  refine ⟨fun s q hs hl hf => ?_, fun s q hs hl hf => ?_, fun s q w hs hl hf => ?_, fun s q w hs hl hf => ?_, fun op q c l => ?_,
    fun s a mask v h => ?_, fun s a mask v h => ?_, fun a mask v c d hd ha => ?_, fun s a mask v d hd hlo hhi h => ?_⟩
  · rw [exec_write_of_serves hs, writeOp_eq _ hl, hf]; rfl
  · rw [exec_maskedWrite_of_serves hs, maskedWrite_eq _ hl, hf]; rfl
  · rw [exec_write_of_serves hs, writeOp_eq _ hl, hf]; rfl
  · rw [exec_maskedWrite_of_serves hs, maskedWrite_eq _ hl, hf]; rfl
  · exact ⟨fun a _ => by simp, by simp, by simp, by simp⟩
  · rw [exec_registerWrite, hostWrite_eq, if_pos h]
  · rw [exec_registerWrite, hostWrite_eq, h]; rfl
  · rw [writeWords_singleton, storeWord_of_wordAt mask v c hd ha]
  · rw [exec_registerWrite, hostWrite_eq, if_pos h, writeWords_singleton, wordTaken_of_mtr_nvs_bst _ _ _ hlo hhi,
      storeWord_of_wordAt mask v _ hd (by omega), keptW1c_of_mtr_nvs_bst hlo, merge_none_kept]

/-! ### Fields -/

theorem writeField_rw (w v mask : Word) (lo n r : Nat) (m : When) :
    writeField v mask w (fd lo n .rw r m) =
      if mask.field lo n = 0 then w else w.setField lo n (((w &&& ~~~mask) ||| (v &&& mask)).field lo n) := rfl

theorem writeField_w1c (w v mask : Word) (lo n r : Nat) (m : When) :
    writeField v mask w (fd lo n .w1c r m) = w &&& ~~~(BitVec.ofNat 48 (((v &&& mask).field lo n) <<< lo)) := rfl

/-- A field that a mask leaves out is the old one in the merge (R63). -/
theorem field_masked_of_zero {mask : Word} (w v : Word) {lo n : Nat} (h : mask.field lo n = 0) :
    ((w &&& ~~~mask) ||| (v &&& mask)).field lo n = w.field lo n := by
  apply Nat.eq_of_testBit_eq
  intro i
  have hm : (mask.field lo n).testBit i = false := by rw [h]; exact Nat.zero_testBit i
  rw [Word.testBit_field] at hm ⊢
  rw [Word.testBit_field]
  by_cases hi : i < n
  · simp only [hi, decide_true, Bool.true_and] at hm ⊢
    by_cases h48 : lo + i < 48
    · simp only [BitVec.getLsbD_or, BitVec.getLsbD_and, BitVec.getLsbD_not, hm, h48, decide_true, Bool.not_false, Bool.and_true, Bool.and_false,
        Bool.or_false]
    · rw [BitVec.getLsbD_of_ge _ _ (by omega), BitVec.getLsbD_of_ge _ _ (by omega)]
  · simp only [hi, decide_false, Bool.false_and]

theorem rw_field_takes_masked_bits (w v mask : Word) (lo n r : Nat) (m : When) (h : lo + n ≤ 48) :
    (writeField v mask w (fd lo n .rw r m)).field lo n = ((w &&& ~~~mask) ||| (v &&& mask)).field lo n := by
  rw [writeField_rw]
  split
  next hm => exact (field_masked_of_zero w v hm).symm
  next => rw [Word.field_setField_same _ _ _ _ h, Nat.mod_eq_of_lt (Word.field_lt _ _ _)]

/-- A word, bit by bit, after the bits that a field of x names are cleared. -/
theorem getLsbD_and_not_field (w x : Word) (lo n i : Nat) :
    (w &&& ~~~(BitVec.ofNat 48 ((x.field lo n) <<< lo))).getLsbD i = (w.getLsbD i && !(decide (lo ≤ i) && decide (i < lo + n) && x.getLsbD i)) := by
  by_cases h48 : i < 48
  · simp only [BitVec.getLsbD_and, BitVec.getLsbD_not, BitVec.getLsbD_ofNat, Nat.testBit_shiftLeft, Word.testBit_field, h48, decide_true, Bool.true_and]
    by_cases h : lo ≤ i
    · have hi : (i - lo < n) ↔ (i < lo + n) := by omega
      simp [h, hi]
    · simp [h]
  · simp [BitVec.getLsbD_of_ge _ _ (by omega : 48 ≤ i)]

theorem w1c_bit_clears (w v mask : Word) (lo r : Nat) (m : When) :
    (writeField v mask w (fd lo 1 .w1c r m)).field lo 1 = if (v &&& mask).getLsbD lo then 0 else w.field lo 1 := by
  apply Nat.eq_of_testBit_eq
  intro i
  rw [writeField_w1c, apply_ite (fun x : Nat => x.testBit i), Nat.zero_testBit]
  simp only [Word.testBit_field, getLsbD_and_not_field]
  by_cases hi : i = 0
  · subst hi
    cases (v &&& mask).getLsbD lo <;> simp
  · have : ¬ i < 1 := by omega
    simp [this]

/-- Bits cleared within a field leave a field beside it alone. -/
theorem field_and_not_field_ne (w x : Word) {lo n lo' n' : Nat} (h : lo + n ≤ lo' ∨ lo' + n' ≤ lo) :
    (w &&& ~~~(BitVec.ofNat 48 ((x.field lo n) <<< lo))).field lo' n' = w.field lo' n' := by
  apply Nat.eq_of_testBit_eq
  intro i
  simp only [Word.testBit_field, getLsbD_and_not_field]
  by_cases hi : i < n'
  · have hout : (decide (lo ≤ lo' + i) && decide (lo' + i < lo + n)) = false := by
      simp only [Bool.and_eq_false_iff, decide_eq_false_iff_not]; omega
    rw [hout, Bool.false_and, Bool.not_false, Bool.and_true]
  · simp [hi]

/-- What an RW or SL field takes leaves a field beside it alone. -/
theorem field_setField_unless_ne (p : Prop) [Decidable p] (w : Word) {lo n lo' n' : Nat} (v : Nat) (h : lo + n ≤ lo' ∨ lo' + n' ≤ lo) :
    (if p then w else w.setField lo n v).field lo' n' = w.field lo' n' := by
  split
  · rfl
  · exact Word.field_setField_ne _ _ _ _ _ _ h

theorem writeField_keeps_other_field (w v mask : Word) (f : FieldDef) (lo n : Nat) (h : f.lo + f.width ≤ lo ∨ lo + n ≤ f.lo) :
    (writeField v mask w f).field lo n = w.field lo n := by
  cases ha : f.acc with
  | rw | sl => simp only [writeField, ha]; exact field_setField_unless_ne _ w _ h
  | w1c => simp only [writeField, ha]; exact field_and_not_field_ne w _ h
  | ro | wo | rc | ri => simp only [writeField, ha]

/-! ### Which fields a host write reaches (R16, R17, R99) -/

theorem When.holds_iff (m : Mode) (w : When) :
    w.holds m = true ↔ w = .any ∨ (w = .cfg ∧ m = .config) ∨ (w = .cs ∧ (m = .config ∨ m = .standby)) := by
  cases w <;> simp [When.holds]

theorem fieldWritable_of_rw_or_wo {f : FieldDef} (c : Chip) (a : Nat) (h : f.acc = .rw ∨ f.acc = .wo) :
    fieldWritable c a f = f.whn.holds c.mode := by
  rcases h with h | h <;> simp only [fieldWritable, h]

theorem fieldWritable_of_w1c {f : FieldDef} (c : Chip) (a : Nat) (h : f.acc = .w1c) : fieldWritable c a f = true := by
  simp only [fieldWritable, h]

theorem fieldWritable_of_read_only {f : FieldDef} (c : Chip) (a : Nat) (h : f.acc = .ro ∨ f.acc = .ri ∨ f.acc = .rc) :
    fieldWritable c a f = false := by
  rcases h with h | h | h <;> simp only [fieldWritable, h]

theorem fieldWritable_of_sl {f : FieldDef} (c : Chip) (a : Nat) (h : f.acc = .sl) : fieldWritable c a f = slOpen c a := by
  simp only [fieldWritable, h]

theorem slOpen_of_meter {c : Chip} {a : Nat} (h : regionOf a = 0x10) : slOpen c a = sealOpened c true := by
  simp only [slOpen, h, if_true]

/-- Outside MTR the seal of the safety set guards the SL fields. -/
theorem sealOpened_of_slOpen {c : Chip} {a : Nat} (h : regionOf a ≠ 0x10) (ho : slOpen c a = true) : sealOpened c false = true := by
  simp only [slOpen, h, if_false, Bool.and_eq_true] at ho
  exact ho.1

/-- Settles O14: bit by bit for what a write stores, and by access code for the fields that it reaches. -/
theorem fieldsTakeWritesByAccessModeAndSeal : Obligations.FieldsTakeWritesByAccessModeAndSeal := by
  unfold Obligations.FieldsTakeWritesByAccessModeAndSeal
  refine ⟨rw_field_takes_masked_bits, fun w v mask lo r m _ => w1c_bit_clears w v mask lo r m, fun w v mask lo n r m => ⟨rfl, rfl, rfl⟩,
    fun w v mask f lo n _ h => writeField_keeps_other_field w v mask f lo n h, fun c a f => ⟨fun h => ?_, fieldWritable_of_w1c c a,
    fieldWritable_of_read_only c a, fun h hr => ?_, fun h hr hw => ?_⟩⟩
  · rw [fieldWritable_of_rw_or_wo c a h, When.holds_iff]
  · rw [fieldWritable_of_sl c a h, slOpen_of_meter hr]
  · rw [fieldWritable_of_sl c a h] at hw
    exact sealOpened_of_slOpen hr hw

end Sys2Proof.Machine
end

section
/-! SUPPORT. The proofs of the operating-modes chapter (01_operating_modes): the command of a step, the triggers raised inside it, mode requests. -/

namespace Sys2Proof.Machine

/-! ### The command of a step -/

/-- Settles O1: on a queue that is not empty a step is the meaning of its front command. -/
theorem stepRunsFrontCommand : Obligations.StepRunsFrontCommand := fun _ _ _ h => step_of_command h

/-! ### Operations that raise no trigger -/

/-- What each pass of a counted loop keeps, the loop keeps. -/
theorem Chip.forN_keeps {α : Type} (p : Chip → α) {f : Nat → Chip → Chip} (h : ∀ k c, p (f k c) = p c) (n : Nat) (c : Chip) :
    p (c.forN n f) = p c :=
  foldl_inv p _ (fun c k => h k c) _ c

/-- What each pass of a loop over a list keeps, the loop keeps. -/
theorem Chip.forEach_keeps {α β : Type} (p : Chip → α) {f : β → Chip → Chip} (h : ∀ x c, p (f x c) = p c) (l : List β) (c : Chip) :
    p (c.forEach l f) = p c :=
  foldl_inv p _ (fun c x => h x c) l c

@[simp] theorem captureUnit_notices (src : Nat) (r : Bool) (n : Nat) (c : Chip) : (captureUnit src r n c).notices = c.notices := by
  simp only [captureUnit]
  split_ifs <;> rfl

@[simp] theorem Chip.captureAt_notices (c : Chip) (src : Nat) (r : Bool) : (c.captureAt src r).notices = c.notices :=
  Chip.forN_keeps Chip.notices (captureUnit_notices src r) 16 c

@[simp] theorem dropRecord_notices (p last : Nat) (c : Chip) : (dropRecord p last c).notices = c.notices := by
  unfold dropRecord
  split <;> rfl

@[simp] theorem beginJob_notices (j : StoreJob) (c : Chip) : (beginJob j c).notices = c.notices := by
  simp only [beginJob]
  split
  · rw [dropRecord_notices, modNvm_notices]
  · rfl

@[simp] theorem serveStore_notices (c : Chip) : (serveStore c).notices = c.notices := by
  unfold serveStore
  split
  · rw [beginJob_notices, modNvm_notices]
  · rfl

@[simp] theorem enqueueJob_notices (j : StoreJob) (c : Chip) : (enqueueJob j c).notices = c.notices := by
  rw [enqueueJob, serveStore_notices, modNvm_notices]

/-- Repair records that are due go to the store (R671). -/
@[simp] theorem takeRepairs_notices (c : Chip) : (takeRepairs c).notices = c.notices := by
  simp only [takeRepairs]
  split_ifs
  · rfl
  · exact Chip.forEach_keeps Chip.notices (fun r c => enqueueJob_notices (.repair r) c) _ _
  · rfl
  · rfl

@[simp] theorem stoFall_notices (c : Chip) : (stoFall c).notices = c.notices := by
  simp only [stoFall]
  split
  · rw [Chip.occur_notices, Chip.captureAt_notices]; rfl
  · rfl

@[simp] theorem rindSettle_notices (c : Chip) : (rindSettle c).notices = c.notices := by
  simp only [rindSettle]
  split_ifs <;> simp only [stoFall_notices, modRind_notices, Chip.set_notices, Chip.setb_notices]

@[simp] theorem ladderShown_notices (a : Nat) (c : Chip) : (ladderShown a c).notices = c.notices := by
  unfold ladderShown
  split
  · split <;> rfl
  · rfl

@[simp] theorem placeSample_notices (a : Nat) (c : Chip) : (placeSample a c).notices = c.notices := by
  unfold placeSample
  split
  · split <;> rfl
  · rfl

@[simp] theorem placeSamples_notices (before c : Chip) : (placeSamples before c).notices = c.notices := by
  refine Chip.forN_keeps Chip.notices (fun a c => ?_) 4 c
  split
  · split
    · exact placeSample_notices a c
    · rfl
  · rfl

@[simp] theorem watchSafeState_notices (c : Chip) : (watchSafeState c).notices = c.notices := by
  refine Chip.forN_keeps Chip.notices (fun m c => ?_) 2 c
  simp only []
  split_ifs <;> rfl

/-! ### The triggers of a step (R30) -/

/-- Triggers are taken until none is left. -/
@[simp] theorem reactLoop_notices (n : Nat) (c : Chip) : (reactLoop n c).notices = [] := by
  induction n generalizing c with
  | zero => rfl
  | succ n ih =>
    simp only [reactLoop]
    split
    · exact ih _
    · split
      next hnone => exact List.isEmpty_iff.mp hnone
      next => exact ih _

@[simp] theorem react_notices (c : Chip) : (react c).notices = [] := reactLoop_notices _ c

/-- What is settled at the end of a step raises no trigger. -/
@[simp] theorem settle_notices (before c : Chip) : (settle before c).notices = c.notices := by
  have hladder : (Chip.forN { c with fine := 0 } 4 ladderShown).notices = c.notices := Chip.forN_keeps Chip.notices ladderShown_notices 4 _
  simp only [settle, rindSettle_notices, takeRepairs_notices, Chip.evModeChg]
  split_ifs <;> simp [hladder]

@[simp] theorem after_notices (before c : Chip) : (after before c).notices = [] := by
  simp only [after, settle_notices, react_notices]

/-! ### Commands that nothing follows -/

@[simp] theorem overrun_notices (c : Chip) : (overrun c).notices = c.notices := rfl

@[simp] theorem resend_notices (op : Nat) (e : CacheEntry) (c : Chip) : (resend op e c).notices = c.notices := rfl

theorem rcCleared_notices (a : Nat) (c : Chip) : (rcCleared a c).notices = c.notices := by
  unfold rcCleared
  split <;> rfl

@[simp] theorem clearRc_notices (a : Nat) (c : Chip) : (clearRc a c).notices = c.notices := by
  simp only [clearRc, ← rcCleared_def]
  rw [← rcCleared_notices a c]
  split_ifs
  · exact modMs_notices _ _
  · rfl
  · exact Chip.setb_notices _ _ _
  · rfl

@[simp] theorem readLatched_notices (a : Nat) (c : Chip) : (readLatched a c).2.notices = c.notices := by
  obtain ⟨l, hl⟩ := readLatched_chip a c
  rw [hl]
  exact clearRc_notices a c

@[simp] theorem readAll_notices (l : List Nat) (c : Chip) : (readAll l c).2.notices = c.notices :=
  foldl_inv (fun x : List Word × Chip => x.2.notices) _ (fun x a => clearRc_notices a x.2) l ([], c)

/-- A refusal leaves the chip, so a handler keeps what it keeps when nothing is refused. -/
theorem orRefuse_notices (w : Option Word) {c : Chip} {k : List Word × Chip} (h : k.2.notices = c.notices) :
    (orRefuse w c k).2.notices = c.notices := by
  cases w with
  | none => exact h
  | some x => rfl

@[simp] theorem ping_notices (q : Req) (c : Chip) : (ping q c).2.notices = c.notices := orRefuse_notices _ rfl

@[simp] theorem modeStatus_notices (q : Req) (c : Chip) : (modeStatus q c).2.notices = c.notices := orRefuse_notices _ rfl

@[simp] theorem readOp_notices (q : Req) (c : Chip) : (readOp q c).2.notices = c.notices := by
  simp only [readOp]
  split
  · rfl
  · exact orRefuse_notices _ (readLatched_notices _ c)

@[simp] theorem readBlock_notices (q : Req) (c : Chip) : (readBlock q c).2.notices = c.notices := by
  simp only [readBlock]
  split_ifs
  · rfl
  · rfl
  · exact orRefuse_notices _ (readAll_notices _ c)

/-- A request served in hardware raises what its handler raises. -/
theorem receive_notices (op : Nat) {f : Handler} (hf : ∀ q c, (f q c).2.notices = c.notices) (q : Req) (c : Chip) :
    (receive op f q c).notices = c.notices := by
  unfold receive
  split_ifs
  · rw [overrun_notices, heard_notices]
  · unfold serve
    split
    · rw [resend_notices, heard_notices]
    · rw [answer_notices, hf, heard_notices]
  · rfl

@[simp] theorem wordLock_notices (c : Chip) : (wordLock c).notices = c.notices := by
  unfold wordLock
  split <;> rfl

@[simp] theorem badCrc_notices (op : Nat) (q : Req) (computed : BitVec 32) (c : Chip) : (badCrc op q computed c).notices = c.notices := by
  simp only [badCrc]
  split
  · exact Chip.occur_notices c 0x19 none _
  · rfl

@[simp] theorem linkOverrun_notices (c : Chip) : (linkOverrun c).notices = c.notices := by
  unfold linkOverrun
  split <;> rfl

@[simp] theorem tracePacketSent_notices (c : Chip) : (tracePacketSent c).notices = c.notices := by
  simp only [tracePacketSent]
  split_ifs <;> rfl

@[simp] theorem wheySync_notices (c : Chip) : (wheySync c).notices = c.notices := by
  unfold wheySync Chip.queueSync
  split_ifs <;> rfl

/-- A command's next state is the one that everything follows, or its effect alone, which then raises no trigger. -/
theorem exec_acted_or_no_notice (i : Instr) (s : State) :
    (∃ d : Chip, exec i s = .next (s.acted d)) ∨ ∃ d : Chip, exec i s = .next (s.still d) ∧ d.notices = s.chip.notices := by
  cases i with
  | wordLock => exact .inr ⟨_, rfl, wordLock_notices s.chip⟩
  | badCrc op q computed => exact .inr ⟨_, rfl, badCrc_notices op.toNat q computed s.chip⟩
  | linkOvr => exact .inr ⟨_, rfl, linkOverrun_notices s.chip⟩
  | ping q => exact .inr ⟨_, rfl, receive_notices 0x01 ping_notices q s.chip⟩
  | read q => exact .inr ⟨_, rfl, receive_notices 0x02 readOp_notices q s.chip⟩
  | readBlock q => exact .inr ⟨_, rfl, receive_notices 0x04 readBlock_notices q s.chip⟩
  | modeStatus q => exact .inr ⟨_, rfl, receive_notices 0x11 modeStatus_notices q s.chip⟩
  | tracePacketSent => exact .inr ⟨_, rfl, tracePacketSent_notices s.chip⟩
  | wheySync => exact .inr ⟨_, rfl, wheySync_notices s.chip⟩
  | vioPadHold below => exact .inr ⟨_, rfl, rfl⟩
  | _ => exact .inl ⟨_, rfl⟩

theorem exec_notices {i : Instr} {s t : State} (hs : s.chip.notices = []) (h : exec i s = .next t) : t.chip.notices = [] := by
  rcases exec_acted_or_no_notice i s with ⟨d, hd⟩ | ⟨d, hd, hn⟩
  · obtain rfl : s.acted d = t := Host.Outcome.next.inj (hd.symm.trans h)
    exact after_notices s.chip d
  · obtain rfl : s.still d = t := Host.Outcome.next.inj (hd.symm.trans h)
    exact hn.trans hs

/-- Settles O4: the reaction loop ends with no trigger left, what is settled after it raises none, and neither does a command that nothing follows. -/
theorem noTriggerOutlivesItsStep : Obligations.NoTriggerOutlivesItsStep := by
  intro s t hs h
  cases hp : s.pending with
  | nil =>
    obtain rfl : s.acted (idleChip s.chip) = t := Host.Outcome.next.inj ((step_of_idle hp).symm.trans h)
    exact after_notices s.chip _
  | cons i rest => exact exec_notices (s := { s with pending := rest }) hs ((step_of_command hp).symm.trans h)

/-! ### The transition table (R31) -/

theorem mayGo_from_config (b : Mode) : mayGo .config b = true ↔ b = .standby ∨ b = .selftest := by
  cases b <;> simp [mayGo]

theorem mayGo_from_standby (b : Mode) : mayGo .standby b = true ↔
    b = .selftest ∨ b = .config ∨ b = .precharge ∨ b = .identify ∨ b = .drive ∨ b = .charge ∨ b = .discharge := by
  cases b <;> simp [mayGo]

theorem mayGo_from_precharge (b : Mode) : mayGo .precharge b = true ↔ b = .standby ∨ b = .safestop ∨ b = .discharge := by
  cases b <;> simp [mayGo]

/-- A mode with gates on is left for STANDBY or SAFESTOP. -/
theorem mayGo_from_run {a : Mode} (h : a = .identify ∨ a = .drive ∨ a = .charge) (b : Mode) :
    mayGo a b = true ↔ b = .standby ∨ b = .safestop := by
  rcases h with rfl | rfl | rfl <;> cases b <;> simp [mayGo]

theorem mayGo_from_discharge (b : Mode) : mayGo .discharge b = true ↔ b = .safestop := by
  cases b <;> simp [mayGo]

theorem mayGo_from_safestop (b : Mode) : mayGo .safestop b = true ↔ b = .standby ∨ b = .discharge := by
  cases b <;> simp [mayGo]

/-- The modes that no host request leaves. -/
theorem mayGo_from_unrequested {a : Mode} (h : a = .reset ∨ a = .boot ∨ a = .selftest ∨ a = .latched) (b : Mode) : mayGo a b = false := by
  rcases h with rfl | rfl | rfl | rfl <;> rfl

/-- Settles O18: mode by mode, the rows of the table of R31 with trigger host. -/
theorem onlyTheListedTransitionsAreRequested : Obligations.OnlyTheListedTransitionsAreRequested := by
  intro a b
  cases a with
  | config => simp [mayGo_from_config]
  | standby => simp [mayGo_from_standby]
  | precharge => simp [mayGo_from_precharge]
  | identify | drive | charge => simp [mayGo_from_run]
  | discharge => simp [mayGo_from_discharge]
  | safestop => simp [mayGo_from_safestop]
  | reset | boot | selftest | latched => simp [mayGo_from_unrequested]

/-! ### A mode request judged (R27 to R32) -/

/-- No listed transition ends in the mode it starts from. -/
theorem ne_of_mayGo {a b : Mode} (h : mayGo a b = true) : b ≠ a := by
  rintro rfl
  cases b <;> exact Bool.false_ne_true h

/-- The table lists no transition between DRIVE and CHARGE. -/
theorem not_exclusive_of_mayGo {a b : Mode} (h : mayGo a b = true) : ¬((a = .drive ∧ b = .charge) ∨ (a = .charge ∧ b = .drive)) := by
  rintro (⟨rfl, rfl⟩ | ⟨rfl, rfl⟩) <;> exact Bool.false_ne_true h

theorem ofCode_eq_drive (n : Nat) : Mode.ofCode n = .drive ↔ n = 7 := by
  unfold Mode.ofCode
  split <;> simp_all

theorem ofCode_eq_charge (n : Nat) : Mode.ofCode n = .charge ↔ n = 8 := by
  unfold Mode.ofCode
  split <;> simp_all

/-- A mode request that none of the first four checks of R29 refuses. -/
structure ReachesTheTable (c : Chip) (w : Word) : Prop where
  notLatched : c.mode ≠ .latched
  notBoot : c.mode ≠ .boot
  allowed : noSuchMode w = false
  finished : shutdownRunning c (mrTarget w) = false
  learnt : learningEnds c w = false

/-- The chip on which the conditions of a transition are judged: out of CONFIG to STANDBY the configuration check has run (log entry 23). -/
def conditionChip (w : Word) (c : Chip) : Chip := if c.mode = .config ∧ Mode.ofCode (mrTarget w) = .standby then runCheck c else c

theorem conditionChip_of_not_config {c : Chip} (w : Word) (h : c.mode ≠ .config) : conditionChip w c = c := if_neg (fun hc => h hc.1)

theorem conditionChip_config_standby {c : Chip} {w : Word} (h : c.mode = .config) (ht : Mode.ofCode (mrTarget w) = .standby) :
    conditionChip w c = runCheck c := if_pos ⟨h, ht⟩

theorem judgeMode_latched {c : Chip} (w : Word) (q : PendReq) (h : c.mode = .latched) : judgeMode w q c = modeRefused (mrTarget w) 0x10 c := by
  simp only [judgeMode, h, if_true]

theorem judgeMode_boot {c : Chip} (w : Word) (q : PendReq) (h : c.mode = .boot) : judgeMode w q c = modeRefused (mrTarget w) 0x11 c := by
  simp [judgeMode, h]

theorem judgeMode_noSuchMode {c : Chip} {w : Word} (q : PendReq) (hl : c.mode ≠ .latched) (hb : c.mode ≠ .boot) (h : noSuchMode w = true) :
    judgeMode w q c = modeRefused (mrTarget w) 1 c := by
  simp only [judgeMode, hl, hb, h, if_true, if_false]

theorem judgeMode_unfinished {c : Chip} {w : Word} (q : PendReq) (hl : c.mode ≠ .latched) (hb : c.mode ≠ .boot) (ha : noSuchMode w = false)
    (h : shutdownRunning c (mrTarget w) = true ∨ learningEnds c w = true) : judgeMode w q c = modeRefused (mrTarget w) 0xD c := by
  simp only [judgeMode, hl, hb, ha, Bool.or_eq_true, h, Bool.false_eq_true, if_true, if_false]

section
variable {c : Chip} {w : Word} (q : PendReq) (h : ReachesTheTable c w)
include h

/-- A request for the present mode without an axis command has no condition to fail. -/
theorem judgeMode_present (hm : Mode.ofCode (mrTarget w) = c.mode) (hc : (c.mode ≠ .drive ∧ c.mode ≠ .charge) ∨ mrCmd w = 0) :
    judgeMode w q c = done (sameMode w c) := by
  have hno : ¬((c.mode = .drive ∨ c.mode = .charge) ∧ mrCmd w ≠ 0) := by tauto
  simp only [judgeMode, h.notLatched, h.notBoot, h.allowed, h.finished, h.learnt, hm, hno, Bool.or_self, Bool.false_eq_true, if_true, if_false,
    lowestReason]

theorem judgeMode_exclusive
    (hx : (c.mode = .drive ∧ Mode.ofCode (mrTarget w) = .charge) ∨ (c.mode = .charge ∧ Mode.ofCode (mrTarget w) = .drive)) :
    judgeMode w q c = modeRefused (mrTarget w) 3 c := by
  have hm : Mode.ofCode (mrTarget w) ≠ c.mode := by
    rcases hx with ⟨hc, ht⟩ | ⟨hc, ht⟩ <;> rw [hc, ht] <;> decide
  simp only [judgeMode, h.notLatched, h.notBoot, h.allowed, h.finished, h.learnt, hm, hx, Bool.or_self, Bool.false_eq_true, if_true, if_false]

theorem judgeMode_unlisted (hm : Mode.ofCode (mrTarget w) ≠ c.mode)
    (hx : ¬((c.mode = .drive ∧ Mode.ofCode (mrTarget w) = .charge) ∨ (c.mode = .charge ∧ Mode.ofCode (mrTarget w) = .drive)))
    (hgo : mayGo c.mode (Mode.ofCode (mrTarget w)) = false) : judgeMode w q c = modeRefused (mrTarget w) 2 c := by
  simp only [judgeMode, h.notLatched, h.notBoot, h.allowed, h.finished, h.learnt, hm, hx, hgo, Bool.or_self, Bool.not_false, Bool.false_eq_true,
    if_true, if_false]

theorem judgeMode_condition_fails {r : Nat} (hgo : mayGo c.mode (Mode.ofCode (mrTarget w)) = true)
    (hr : lowestReason (conditionReasons (conditionChip w c) w) = some r) :
    judgeMode w q c = modeRefused (mrTarget w) r (conditionChip w c) := by
  unfold conditionChip at hr ⊢
  simp only [judgeMode, h.notLatched, h.notBoot, h.allowed, h.finished, h.learnt, ne_of_mayGo hgo, not_exclusive_of_mayGo hgo, hgo, hr, Bool.or_self,
    Bool.not_true, Bool.false_eq_true, if_false]

theorem judgeMode_carried_out (hgo : mayGo c.mode (Mode.ofCode (mrTarget w)) = true)
    (hr : lowestReason (conditionReasons (conditionChip w c) w) = none) :
    judgeMode w q c = ([if (goMode w q (conditionChip w c)).1 then 0 else 1], (goMode w q (conditionChip w c)).2) := by
  unfold conditionChip at hr ⊢
  simp only [judgeMode, h.notLatched, h.notBoot, h.allowed, h.finished, h.learnt, ne_of_mayGo hgo, not_exclusive_of_mayGo hgo, hgo, hr, Bool.or_self,
    Bool.not_true, Bool.false_eq_true, if_false]

end

/-! ### What a refusal records, and what the configuration check leaves -/

theorem modeRefused_lastref {r : Nat} (t : Nat) (c : Chip) (h : r < 32) : (modeRefused t r c).2.get F.DEV_MODE_LASTREF = r := by
  rw [modeRefused, Chip.get_set_ne _ _ _ _ (by decide), Chip.get_set_same _ _ _ (by decide)]
  exact Nat.mod_eq_of_lt (h.trans (by decide))

theorem modeRefused_lastreq {t : Nat} (r : Nat) (c : Chip) (h : t < 16) : (modeRefused t r c).2.get F.DEV_MODE_LASTREQ = t := by
  rw [modeRefused, Chip.get_set_same _ _ _ (by decide)]
  exact Nat.mod_eq_of_lt h

theorem modeRefused_mode (t r : Nat) (c : Chip) : (modeRefused t r c).2.mode = c.mode := by
  rw [modeRefused, Chip.mode, Chip.get_set_ne _ _ _ _ (by decide), Chip.get_set_ne _ _ _ _ (by decide), ← Chip.mode]

theorem sameBut_modeRefused (t r : Nat) (c : Chip) : sameBut [8] c (modeRefused t r c).2 :=
  sameBut_wr _ (by simp [F.DEV_MODE_LASTREQ]) (sameBut_wr _ (by simp [F.DEV_MODE_LASTREF]) (sameBut_refl [8] c))

@[simp] theorem runCheck_mode (c : Chip) : (runCheck c).mode = c.mode := by
  have hrec : ((c.set F.DEV_CFGCHK_ITEM (checkResult c).1).set F.DEV_CFGCHK_WHERE (checkResult c).2).get F.DEV_MODE_MODE = c.get F.DEV_MODE_MODE := by
    rw [Chip.get_set_ne _ _ _ _ (by decide), Chip.get_set_ne _ _ _ _ (by decide)]
  simp only [runCheck, Chip.mode]
  split
  · rw [hrec]
  · rw [Chip.evCfgFail, Chip.get_evt_ne _ _ _ _ (by decide), hrec]

/-- Out of CONFIG to STANDBY the transition is carried out at once. -/
theorem goMode_config_standby {c : Chip} {w : Word} (q : PendReq) (h : c.mode = .config) (ht : Mode.ofCode (mrTarget w) = .standby) :
    goMode w q c = (true, enterMode .standby .host c) := by
  simp only [goMode, h, ht]

/-- A request for STANDBY in CONFIG, with no check running, reaches the table. -/
theorem reachesTheTable_config_standby {c : Chip} {w : Word} (h : c.mode = .config) (ht : mrTarget w = 4)
    (hb : c.is F.DEV_CFGCHK_BUSY = false) : ReachesTheTable c w where
  notLatched := by simp [h]
  notBoot := by simp [h]
  allowed := by simp [noSuchMode, ht]
  finished := by simp [shutdownRunning, h, ht, hb]
  learnt := by simp [learningEnds, ht]

/-- MODE_REQUEST with its unused bits zero is judged. -/
theorem modeRequest_eq_judgeMode {q : Req} (c : Chip) (hl : q.len = 1) (hh : q.hdr = 0) (hu : q.word 0 &&& 0xFFFFFFFF0000 = 0) :
    modeRequest q c = judgeMode (q.word 0) ⟨0x10, q.tag.toNat⟩ c := by
  have hno : oneRefusal q 0xFFFFFFFF0000 = none := by simp only [oneRefusal, hl, hh, hu, ne_eq, not_true, or_self, if_false]
  rw [modeRequest, hno]
  rfl

theorem exec_modeRequest_of_serves {s : State} {q : Req} (h : servesC 0x10 q s.chip = true) :
    exec (.modeRequest q) s = .next (s.acted (answer 0x10 q (modeRequest q (heard 0x10 s.chip)))) := by
  rw [← receiveC_serves modeRequest h]; rfl

/-- Settles O17: the checks of R29 in their order, one lemma for each outcome. -/
theorem modeRequestsAreJudged : Obligations.ModeRequestsAreJudged := by
  unfold Obligations.ModeRequestsAreJudged
  refine ⟨fun s q hs hl hh hu => ?_, fun c w q hl hb hc ha hf hn hgo hr => ?_, fun c w q hc ht hb hr => ?_, fun t r c ht hr => ?_,
    fun c w q => judgeMode_latched w q, fun c w q => judgeMode_boot w q, fun c w q => judgeMode_noSuchMode q,
    fun c w q => judgeMode_unfinished q, fun c w q hl hb ha hf hn => ?_⟩
  · rw [exec_modeRequest_of_serves hs, modeRequest_eq_judgeMode _ hl hh hu]
  · have hcc := conditionChip_of_not_config w hc
    rw [judgeMode_carried_out q ⟨hl, hb, ha, hf, hn⟩ hgo (by rw [hcc, hr]), hcc]
  · have hm : Mode.ofCode (mrTarget w) = .standby := by rw [ht]; rfl
    have hcc := conditionChip_config_standby hc hm
    rw [judgeMode_carried_out q (reachesTheTable_config_standby hc ht hb) (by rw [hc, hm]; rfl) (by rw [hcc, hr]), hcc,
      goMode_config_standby q ((runCheck_mode c).trans hc) hm]
    rfl
  · exact ⟨modeRefused_lastref t c hr, modeRefused_lastreq r c ht, modeRefused_mode t r c, sameBut_modeRefused t r c⟩
  · have hj : ReachesTheTable c w := ⟨hl, hb, ha, hf, hn⟩
    rw [← ofCode_eq_drive, ← ofCode_eq_charge]
    refine ⟨fun hm hcmd => ?_, fun hx => judgeMode_exclusive q hj hx, fun hm hd hch hgo => ?_, fun r hc hgo hr => ?_⟩
    · rw [judgeMode_present q hj hm hcmd]; rfl
    · exact judgeMode_unlisted q hj hm (not_or.mpr ⟨hd, hch⟩) hgo
    · have hcc := conditionChip_of_not_config w hc
      rw [judgeMode_condition_fails q hj hgo (by rw [hcc, hr]), hcc]

end Sys2Proof.Machine
end

section
/-! SUPPORT. The proofs of the host-link chapter (02_tenon_host_link): the CRC, requests that are lost, discarded or refused, the replay cache, the requests
that hardware serves, RESET, and the host watchdog with network time (05_network_time). -/

namespace Sys2Proof.Machine

/-! ### The CRC (R53) -/

theorem crcWord_eq_bytes (c : BitVec 32) (w : Word) :
    crcWord c w = crcByte (crcByte (crcByte (crcByte (crcByte (crcByte c (w.toNat >>> 40)) (w.toNat >>> 32)) (w.toNat >>> 24)) (w.toNat >>> 16))
      (w.toNat >>> 8)) (w.toNat >>> 0) := rfl

theorem crc32_singleton (w : Word) : crc32 [w] = crcWord 0xFFFFFFFF w ^^^ 0xFFFFFFFF := rfl

/-- Settles O7: the running values of R53, byte by byte. -/
theorem crcOfThePingHeader : Obligations.CrcOfThePingHeader := by
  have h1 : crcByte 0xFFFFFFFF ((0x010700000000 : Word).toNat >>> 40) = 0x5AFA20E4 := by decide
  have h2 : crcByte 0x5AFA20E4 ((0x010700000000 : Word).toNat >>> 32) = 0x395949E2 := by decide
  have h3 : crcByte 0x395949E2 ((0x010700000000 : Word).toNat >>> 24) = 0x4E3DDA1D := by decide
  have h4 : crcByte 0x4E3DDA1D ((0x010700000000 : Word).toNat >>> 16) = 0x63485103 := by decide
  have h5 : crcByte 0x63485103 ((0x010700000000 : Word).toNat >>> 8) = 0x996A19EB := by decide
  have h6 : crcByte 0x996A19EB ((0x010700000000 : Word).toNat >>> 0) = 0x374151E9 := by decide
  have hword : crcWord 0xFFFFFFFF 0x010700000000 = 0x374151E9 := by rw [crcWord_eq_bytes, h1, h2, h3, h4, h5, h6]
  rw [Obligations.CrcOfThePingHeader, crc32_singleton, hword]
  decide

/-! ### Requests that the device does not receive (R46, R55) -/

/-- A request served in hardware that the device does not receive has no effect; what follows is what follows of the chip itself. -/
theorem act_receive_unheard {s : State} {q : Req} (h : listening q s.chip = false) (op : Nat) (f : Handler) :
    act s (receive op f q) = .next (s.acted s.chip) := by
  rw [act, receive_unheard f h]; rfl

/-- A request for Cellar that the device does not receive has no effect. -/
theorem act_receiveC_unheard {s : State} {q : Req} (h : listening q s.chip = false) (op : Nat) (f : Handler) :
    act s (receiveC op f q) = .next (s.acted s.chip) := by
  rw [act, receiveC_unheard f h]; rfl

theorem quiet_receive_unheard {s : State} {q : Req} (h : listening q s.chip = false) (op : Nat) (f : Handler) :
    quiet s (receive op f q) = .next s := by
  rw [quiet, receive_unheard f h]

/-- Settles O9: whichever way an opcode is served, its request is lost on a chip that does not listen. -/
theorem unheardRequestsChangeNothing : Obligations.UnheardRequestsChangeNothing := by
  intro s q h
  have hw := act_receive_unheard h
  have cellar := act_receiveC_unheard h
  refine ⟨⟨quiet_receive_unheard h 0x01 ping, quiet_receive_unheard h 0x02 readOp, quiet_receive_unheard h 0x04 readBlock,
    quiet_receive_unheard h 0x11 modeStatus⟩, ?_⟩
  simp only [List.forall_mem_cons]
  exact ⟨hw 0x03 writeOp, hw 0x05 writeBlock, hw 0x06 maskedWrite, hw 0x08 commitOp, cellar 0x10 modeRequest, hw 0x12 setpointOp,
    hw 0x18 eventReadClear, cellar 0x20 storeSave, cellar 0x21 storeRestore, cellar 0x22 storeErase, cellar 0x30 sealOpenOp,
    cellar 0x31 sealCloseOp, cellar 0x32 safeConfirm, cellar 0x38 meterRead, cellar 0x39 meterSession, cellar 0x39 meterSession,
    cellar 0x39 meterSession, cellar 0x3A meterRecord, cellar 0x40 bistRun, cellar 0x40 bistRun, cellar 0x41 repairApply,
    cellar 0x41 repairApply, cellar 0x50 timeSetOp, cellar 0x51 timeAdjust, cellar 0x51 timeAdjust, cellar 0x51 timeAdjust,
    cellar 0x60 busSend, cellar 0x61 busReceive, cellar 0x62 busAck, cellar 0x70 patchLoad, cellar 0x7F resetOp, List.forall_mem_nil _⟩

/-! ### Word lock, overruns and bad CRCs (R46, R55, R58) -/

theorem wordLock_of_up {c : Chip} (h : up c = true) : wordLock c = c.raise F.DEV_TLK_LOCK := by
  have hm : c.mode ≠ .reset := by simpa [up] using h
  rw [wordLock, if_neg hm]

theorem linkOverrun_of_full {c : Chip} (h : up c = true) (hf : heldFull c = true) : linkOverrun c = overrun c := by
  have hm : c.mode ≠ .reset := by simpa [up] using h
  simp [linkOverrun, hm, hf]

theorem overrun_counts (c : Chip) : (overrun c).get F.DEV_TLK_OVERRUN = min (c.get F.DEV_TLK_OVERRUN + 1) 255 := by
  rw [overrun, Chip.evLinkOvr, Chip.get_evt_ne _ _ _ _ (by decide), Chip.get_countSat_same _ _ _ (by decide)]; rfl

theorem sameBut_overrun (c : Chip) : sameBut [0xA, 0x10] c (overrun c) :=
  sameBut_wr _ (by simp) (sameBut_wr _ (by simp [F.DEV_TLK_OVERRUN]) (sameBut_refl _ c))

/-- A reply sent changes the link alone, and of it the replies sent. -/
theorem sendReply_link (op tag hdr : Nat) (payload : List Word) (c : Chip) :
    (sendReply op tag hdr payload c).link = { c.link with sent := replyPacket op tag hdr payload :: c.link.sent } := rfl

/-- What a packet with a bad CRC leaves of the chip before its reply goes out (R55). -/
def crcFailed (op : Nat) (c : Chip) : Chip :=
  (modLink (fun l => { l with skipping := true }) (c.occur 0x19 none (BitVec.ofNat 48 (op * 2 ^ 40)))).countSat F.DEV_TLK_CRCERR 1

theorem badCrc_of_listening {op : Nat} {q : Req} {c : Chip} (computed : BitVec 32) (h : listening q c = true) :
    badCrc op q computed c =
      sendReply op q.tag.toNat q.hdr.toNat [BitVec.ofNat 48 (0x10 + computed.toNat * 2 ^ 8)] (crcFailed op c) := by
  simp only [badCrc, h, if_true]; rfl

@[simp] theorem crcFailed_link (op : Nat) (c : Chip) : (crcFailed op c).link = { c.link with skipping := true } := by
  simp only [crcFailed, Chip.countSat_link, modLink, Chip.occur_link]

theorem crcFailed_counts (op : Nat) (c : Chip) : (crcFailed op c).get F.DEV_TLK_CRCERR = min (c.get F.DEV_TLK_CRCERR + 1) 255 := by
  rw [crcFailed, Chip.get_countSat_same _ _ _ (by decide), modLink_get, Chip.occur_get]; rfl

theorem sameBut_occur {l : List Nat} (c : Chip) (e : Nat) (i : Option Nat) (d : Word) : sameBut l c (c.occur e i d) :=
  ⟨fun a _ => Chip.occur_rd c e i d a, Chip.occur_lanes c e i d, Chip.occur_zmem c e i d, Chip.occur_store c e i d⟩

theorem sameBut_crcFailed (op : Nat) (c : Chip) : sameBut [0xA] c (crcFailed op c) :=
  sameBut_wr (d := modLink _ (c.occur _ _ _)) _ (by simp [F.DEV_TLK_CRCERR]) (sameBut_occur c 0x19 none _)

/-! ### Opcodes that R59 does not assign (R60) -/

theorem handlerOf_unassigned {op : Nat} (h : assigned op = false) : handlerOf op = badOpcode := by
  unfold handlerOf
  split
  case h_30 => rfl
  all_goals exact absurd h (by decide)

theorem cellarServed_unassigned {op : Nat} (h : assigned op = false) : cellarServed op = false := by
  simp only [assigned, opcodes, cellarServed, List.contains_eq_mem, decide_eq_false_iff_not, List.mem_cons, not_or] at h ⊢
  simp only [h, not_false_eq_true, and_self]

theorem receiveAny_unassigned {op : Nat} {q : Req} {c : Chip} (ha : assigned op = false) (h : serves op q c = true) :
    receiveAny op q c = answer op q ([0x11], heard op c) := by
  simp only [receiveAny, cellarServed_unassigned ha, handlerOf_unassigned ha, receive_serves _ h]; rfl

/-- An answer to a request that its handler leaves without effect changes no word and no memory. -/
theorem sameWords_answer_heard (op : Nat) (q : Req) (c : Chip) (l : List Word) : sameWords c (answer op q (l, heard op c)) :=
  ⟨fun a _ => by simp, by simp, by simp, by simp⟩

/-- A request whose framing fails is received as without the error (R47). -/
theorem framingError_goodCrc {op : Nat} {q : Req} {c : Chip} (h : listening q c = true) :
    framingError op q none c = ((receiveAny op q c).countSat F.DEV_TLK_FRAMERR 1).setb F.DEV_TLK_LOCK false := by
  simp only [framingError, h, if_true]

theorem framingError_badCrc {op : Nat} {q : Req} {c : Chip} (computed : BitVec 32) (h : listening q c = true) :
    framingError op q (some computed) c = ((badCrc op q computed c).countSat F.DEV_TLK_FRAMERR 1).setb F.DEV_TLK_LOCK false := by
  simp only [framingError, h, if_true]

/-- Settles O8: each packet leaves what its rule counts, and of the words nothing else; a framing error comes after the reception. -/
theorem linkErrorsAreCountedAndAnswered : Obligations.LinkErrorsAreCountedAndAnswered := by
  unfold Obligations.LinkErrorsAreCountedAndAnswered
  refine ⟨fun s hu => ⟨_, rfl, ?_, fun g hg => ?_⟩, fun s hu hf => ⟨_, rfl, ?_⟩, fun s op q computed h => ⟨_, rfl, ?_⟩,
    fun s op q h => ?_, fun s op q computed h => ?_, fun s op q ha h => ⟨_, rfl, ?_⟩⟩
  · rw [wordLock_of_up hu]
    exact Chip.is_raise_same _ _ rfl (by decide)
  · rw [wordLock_of_up hu]
    exact Chip.get_raise_ne _ _ _ (hg.imp_right .inl)
  · rw [linkOverrun_of_full hu hf]
    exact ⟨overrun_counts _, Chip.evt_field _ 0 2 (by decide), sameBut_overrun _⟩
  · rw [badCrc_of_listening computed h]
    refine ⟨crcFailed_counts _ _, ?_, ?_, ?_, sameBut_crcFailed _ _⟩
    · rw [sendReply_link, crcFailed_link]
    · rw [sendReply_link, crcFailed_link]
    · rw [sendReply_link, crcFailed_link]
  · rw [← framingError_goodCrc h]; rfl
  · rw [← framingError_badCrc computed h]; rfl
  · rw [receiveAny_unassigned ha h]
    exact ⟨by rw [answer_sent, heard_link], sameWords_answer_heard _ q s.chip _⟩

/-! ### The replay cache (R68, R70) -/

theorem replayOf_eq_some {c : Chip} {op : Nat} {q : Req} {e : CacheEntry} (h : replayOf c op q = some e) :
    q.tag.getLsbD 7 = true ∧ e ∈ c.link.cache ∧ e.op = op ∧ e.tag = q.tag.toNat % 128 ∧ e.retryCrc = retryCrc op q := by
  unfold replayOf at h
  split at h
  next ht =>
    have hp := List.find?_some h
    simp only [Bool.and_eq_true, beq_iff_eq, and_assoc] at hp
    exact ⟨ht, List.mem_of_find?_eq_some h, hp⟩
  next => exact absurd h (by simp)

theorem replayOf_eq_none {c : Chip} {op : Nat} {q : Req}
    (h : q.tag.getLsbD 7 = false ∨ ∀ e ∈ c.link.cache, ¬(e.op = op ∧ e.tag = q.tag.toNat % 128 ∧ e.retryCrc = retryCrc op q)) :
    replayOf c op q = none := by
  unfold replayOf
  split
  next ht =>
    have hno := h.resolve_left (by simp [ht])
    exact List.find?_eq_none.mpr fun e he => by simpa [and_assoc] using hno e he
  next => rfl

/-- A retry for Cellar that the replay cache answers. -/
theorem receiveC_replay {op : Nat} {q : Req} {c : Chip} {e : CacheEntry} (f : Handler) (h : listening q c = true) (hf : heldFull c = false)
    (hq : q.later = false) (he : c.link.held = []) (hr : replayOf (heard op c) op q = some e) : receiveC op f q c = resend op e (heard op c) := by
  have hn : (heard op c).link.held = [] := by rw [heard_link]; exact he
  simp only [receiveC, h, hf, hq, serveHeld_of_none hn, serve, hr, Bool.not_true, Bool.false_eq_true, if_false]

theorem sameWords_resend_heard (op : Nat) (e : CacheEntry) (c : Chip) : sameWords c (resend op e (heard op c)) := by
  simp [sameWords, sameBut, resend, sendReply]

theorem serves_iff (op : Nat) (q : Req) (c : Chip) :
    serves op q c = true ↔ listening q c = true ∧ heldFull c = false ∧ replayOf (heard op c) op q = none := by
  simp [serves, and_assoc]

theorem answer_cache_short {op : Nat} {q : Req} {r : List Word × Chip} (h : r.1.length ≤ 16) :
    (answer op q r).link.cache = (⟨op, q.tag.toNat % 128, retryCrc op q, q.hdr.toNat, r.1⟩ :: r.2.link.cache).take 16 := by
  rw [answer, cacheReply, if_neg (Nat.not_lt.mpr h)]; rfl

theorem answer_cache_long {op : Nat} {q : Req} {r : List Word × Chip} (h : 16 < r.1.length) : (answer op q r).link.cache = r.2.link.cache := by
  rw [answer, cacheReply, if_pos h]; rfl

/-- Settles O10: a request received is a cached reply sent again, or it is executed and enters the cache. -/
theorem retriesAreAnsweredFromTheCache : Obligations.RetriesAreAnsweredFromTheCache := by
  unfold Obligations.RetriesAreAnsweredFromTheCache
  refine ⟨fun op f q c r e h hf hr he => ?_, fun op q c h hf hno => ?_, fun op f q c r hr => ?_, fun s q => ⟨rfl, rfl, rfl, rfl⟩⟩
  · obtain rfl : r = resend op e (heard op c) := by
      rcases hr with rfl | ⟨rfl, hq, hn⟩
      · exact receive_replay f h hf he
      · exact receiveC_replay f h hf hq hn he
    obtain ⟨ht, hmem, hmatch⟩ := replayOf_eq_some he
    exact ⟨by rw [resend, sendReply_link, heard_link], by rw [resend, sendReply_link, heard_link], sameWords_resend_heard op e c, ht,
      by rwa [heard_link] at hmem, hmatch⟩
  · exact (serves_iff op q c).mpr ⟨h, hf, replayOf_eq_none (by simpa using hno)⟩
  · obtain rfl : r = answer op q (f q (heard op c)) := by
      rcases hr with ⟨h, rfl⟩ | ⟨h, rfl⟩
      · exact receive_serves f h
      · exact receiveC_serves f h
    exact ⟨answer_sent op q _, answer_cache_short, answer_cache_long⟩

/-! ### PING, MODE_STATUS and READ_BLOCK (R59, R62) -/

theorem exec_ping_of_serves {s : State} {q : Req} (h : serves 0x01 q s.chip = true) :
    exec (.ping q) s = .next (s.still (answer 0x01 q (ping q (heard 0x01 s.chip)))) := by
  rw [← receive_serves ping h]; rfl

theorem exec_modeStatus_of_serves {s : State} {q : Req} (h : serves 0x11 q s.chip = true) :
    exec (.modeStatus q) s = .next (s.still (answer 0x11 q (modeStatus q (heard 0x11 s.chip)))) := by
  rw [← receive_serves modeStatus h]; rfl

theorem exec_readBlock_of_serves {s : State} {q : Req} (h : serves 0x04 q s.chip = true) :
    exec (.readBlock q) s = .next (s.still (answer 0x04 q (readBlock q (heard 0x04 s.chip)))) := by
  rw [← receive_serves readBlock h]; rfl

theorem plainRefusal_none {q : Req} (hl : q.len = 0) (hh : q.hdr = 0) : plainRefusal q = none := by
  rw [plainRefusal, if_neg (not_not.mpr hl), if_neg (not_not.mpr hh)]

theorem plainRefusal_length {q : Req} (hl : q.len ≠ 0) : plainRefusal q = some (badLength q) :=
  if_pos hl

theorem plainRefusal_header {q : Req} (hl : q.len = 0) (hh : q.hdr ≠ 0) : plainRefusal q = some (badHeader q) := by
  rw [plainRefusal, if_neg (not_not.mpr hl), if_pos hh]

theorem badHeader_eq (q : Req) : badHeader q = BitVec.ofNat 48 (0x13 + q.hdr.toNat * 2 ^ 8) := stAddr_header 0x13 q

/-- Words already read stay in front of what a block read adds. -/
theorem readAll_from (l : List Nat) (ws : List Word) (c : Chip) :
    l.foldl (fun (x : List Word × Chip) a => let r := readWord a x.2; (x.1 ++ [r.1], r.2)) (ws, c) =
      (ws ++ (readAll l c).1, (readAll l c).2) := by
  induction l generalizing ws c with
  | nil => simp [readAll]
  | cons a l ih =>
    simp only [readAll, List.foldl_cons, List.nil_append]
    rw [ih (ws ++ [(readWord a c).1]), ih [(readWord a c).1], List.append_assoc]

theorem readAll_nil (c : Chip) : readAll [] c = ([], c) := rfl

theorem readAll_cons (a : Nat) (l : List Nat) (c : Chip) :
    readAll (a :: l) c = (hostWord c a :: (readAll l (clearRc a c)).1, (readAll l (clearRc a c)).2) :=
  readAll_from l [hostWord c a] (clearRc a c)

theorem readAll_length (l : List Nat) (c : Chip) : (readAll l c).1.length = l.length := by
  induction l generalizing c with
  | nil => rfl
  | cons a l ih => rw [readAll_cons, List.length_cons, List.length_cons, ih]

theorem readBlock_of_accepted {q : Req} {c : Chip} (hl : q.len = 1) (h1 : 1 ≤ (q.word 0).toNat) (h255 : (q.word 0).toNat ≤ 255)
    (h : blockRefusal q.hdr.toNat (readRefusal c) (q.word 0).toNat = none) :
    readBlock q c = (0 :: (readAll ((List.range (q.word 0).toNat).map (q.hdr.toNat + ·)) c).1,
      (readAll ((List.range (q.word 0).toNat).map (q.hdr.toNat + ·)) c).2) := by
  have hn : ¬((q.word 0).toNat = 0 ∨ 255 < (q.word 0).toNat) := by omega
  simp only [readBlock, hl, hn, h, ne_eq, not_true, if_false, orRefuse]

/-- Settles O11: the length is judged before the header; a block is read word by word, each after what the reads before it cleared. -/
theorem pingModeStatusAndReadBlockAnswer : Obligations.PingModeStatusAndReadBlockAnswer := by
  unfold Obligations.PingModeStatusAndReadBlockAnswer
  refine ⟨fun s q h hl hh => ?_, fun s q h hl hh => ?_, fun s q h hl => ?_, fun s q h hl => ?_, fun s q h hl hh => ?_, fun s q h hl hh => ?_,
    fun op q c l => sameWords_answer_heard op q c l, fun s q h hl h1 h255 hr => ⟨_, _, Prod.mk.eta.symm, ?_, ?_⟩,
    fun a l c => ⟨readAll_nil c, readAll_cons a l c⟩⟩
  · rw [exec_ping_of_serves h, ping, plainRefusal_none hl hh]; rfl
  · rw [exec_modeStatus_of_serves h, modeStatus, plainRefusal_none hl hh]; rfl
  · rw [exec_ping_of_serves h, ping, plainRefusal_length hl]; rfl
  · rw [exec_modeStatus_of_serves h, modeStatus, plainRefusal_length hl]; rfl
  · rw [exec_ping_of_serves h, ping, plainRefusal_header hl hh, badHeader_eq]; rfl
  · rw [exec_modeStatus_of_serves h, modeStatus, plainRefusal_header hl hh, badHeader_eq]; rfl
  · rw [readAll_length, List.length_map, List.length_range]
  · rw [exec_readBlock_of_serves h, readBlock_of_accepted hl h1 h255 hr]

/-! ### WRITE_BLOCK and COMMIT (R62, R244) -/

theorem exec_writeBlock_of_serves {s : State} {q : Req} (h : serves 0x05 q s.chip = true) :
    exec (.writeBlock q) s = .next (s.acted (answer 0x05 q (writeBlock q (heard 0x05 s.chip)))) := by
  rw [← receive_serves writeBlock h]; rfl

theorem exec_commit_of_serves {s : State} {q : Req} (h : serves 0x08 q s.chip = true) :
    exec (.commit q) s = .next (s.acted (answer 0x08 q (commitOp q (heard 0x08 s.chip)))) := by
  rw [← receive_serves commitOp h]; rfl

/-- WRITE_BLOCK: the refusal alone, or the whole block written. -/
theorem writeBlock_eq (q : Req) (c : Chip) :
    writeBlock q c = orRefuse (blockRefusal q.hdr.toNat (fun b => writeFails c b (BitVec.allOnes 48) (q.word (b - q.hdr.toNat))) q.needed) c
      (done (writeWords ((List.range q.needed).map (fun k => (q.hdr.toNat + k, BitVec.allOnes 48, q.word k))) c)) := rfl

theorem commitObject_group (g : Fin 7) : commitObject (0x50004 + 0x20 * g.val) = some (true, g.val) := by
  revert g; decide

theorem commitObject_kerf (n : Fin 6) : commitObject (0x30404 + 0x20 * n.val) = some (false, n.val) := by
  revert n; decide

theorem bootRefusal_none {c : Chip} (h : c.mode ≠ .boot) : bootRefusal c = none := if_neg h

/-- COMMIT of an object that R244 or R184 lists, in a mode that serves it. -/
theorem commitOp_of_object {q : Req} {c : Chip} {o : Bool × Nat} (hl : q.len = 0) (ho : commitObject q.hdr.toNat = some o)
    (hb : c.mode ≠ .boot) (hm : c.mode ≠ .latched) : commitOp q c = ([0], if o.1 then commitGroup o.2 c else commitKerf o.2 c) := by
  simp only [commitOp, hl, ho, bootRefusal_none hb, hm, ne_eq, not_true, if_false, Option.none_or, orRefuse, done]

theorem stMode_latched {c : Chip} (h : c.mode = .latched) : stMode 0x20 c = 0xB20 := by
  rw [stMode, h]; rfl

theorem commitOp_latched {q : Req} {c : Chip} (hl : q.len = 0) (ho : (commitObject q.hdr.toNat).isSome = true) (hm : c.mode = .latched) :
    commitOp q c = ([0xB20], c) := by
  obtain ⟨o, ho⟩ := Option.isSome_iff_exists.mp ho
  have hb : c.mode ≠ .boot := by simp [hm]
  simp only [commitOp, hl, ho, bootRefusal_none hb, hm, stMode_latched hm, ne_eq, not_true, if_false, if_true, Option.none_or, orRefuse, refuse]

theorem commitOp_of_no_object {q : Req} {c : Chip} (hl : q.len = 0) (ho : commitObject q.hdr.toNat = none) :
    commitOp q c = ([BitVec.ofNat 48 (0x13 + q.hdr.toNat * 2 ^ 8)], c) := by
  simp only [commitOp, hl, ho, badHeader_eq, ne_eq, not_true, if_false, refuse]

theorem commitKerf_pending (n : Nat) (c : Chip) : (commitKerf n c).is (F.KT_COMMIT_PENDING n) = true :=
  Chip.is_raise_same _ _ rfl (by simp [F.KT_COMMIT_PENDING])

/-- Settles O15: a block is its refusal or is written whole; COMMIT goes by the object that its header names, then by the mode. -/
theorem blocksAreWrittenWholeAndCommitsTaken : Obligations.BlocksAreWrittenWholeAndCommitsTaken := by
  unfold Obligations.BlocksAreWrittenWholeAndCommitsTaken
  refine ⟨fun s q h hr => ?_, fun s q w h hr => ?_, fun s q g h hl hb hm ha => ?_, fun s q n h hl hb hm ha => ⟨?_, commitKerf_pending _ _⟩,
    fun s q h hl hm ho => ?_, fun s q h hl ho => ?_⟩
  · rw [exec_writeBlock_of_serves h, writeBlock_eq, hr]; rfl
  · rw [exec_writeBlock_of_serves h, writeBlock_eq, hr]; rfl
  · have ho := ha ▸ commitObject_group g
    rw [exec_commit_of_serves h, commitOp_of_object hl ho (by simpa using hb) (by simpa using hm)]; rfl
  · have ho := ha ▸ commitObject_kerf n
    rw [exec_commit_of_serves h, commitOp_of_object hl ho (by simpa using hb) (by simpa using hm)]; rfl
  · rw [exec_commit_of_serves h, commitOp_latched hl ho (by simpa using hm)]
  · rw [exec_commit_of_serves h, commitOp_of_no_object hl ho]

/-! ### EVENT_READ_CLEAR (R65) -/

theorem exec_eventReadClear_of_serves {s : State} {q : Req} (h : serves 0x18 q s.chip = true) :
    exec (.eventReadClear q) s = .next (s.acted (answer 0x18 q (eventReadClear q (heard 0x18 s.chip)))) := by
  rw [← receive_serves eventReadClear h]; rfl

theorem eventReadClear_of_accepted {q : Req} (c : Chip) (hl : q.len = 1) (hh : q.hdr.toNat < 4) :
    eventReadClear q c = ([0, hostWord c (0x10 + q.hdr.toNat)],
      c.wr (0x10 + q.hdr.toNat) (c.rd (0x10 + q.hdr.toNat) &&& ~~~(q.word 0))) := by
  simp only [eventReadClear, hl, Nat.not_le.mpr hh, ne_eq, not_true, if_false]

theorem sameWords_heard (op : Nat) (c : Chip) : sameWords c (heard op c) :=
  ⟨fun a _ => heard_rd op c a, heard_lanes op c, heard_zmem op c, heard_store op c⟩

theorem sameBut_of_sameWords {l : List Nat} {c d : Chip} (h : sameWords c d) : sameBut l c d :=
  ⟨fun a _ => h.1 a List.not_mem_nil, h.2⟩

/-! ### SETPOINT (R60, R64) -/

theorem exec_setpoint_of_serves {s : State} {q : Req} (h : serves 0x12 q s.chip = true) :
    exec (.setpoint q) s = .next (s.acted (answer 0x12 q (setpointOp q (heard 0x12 s.chip)))) := by
  rw [← receive_serves setpointOp h]; rfl

theorem mem_axesOf (a m : Nat) : a ∈ axesOf m ↔ a < 4 ∧ Nat.bitAt m a = true := by
  rw [axesOf, List.mem_filter, List.mem_range]

/-- SETPOINT with one word for each axis of its mask: the refusal of its last checks, or the words given to the axes. -/
theorem setpointOp_of_length {q : Req} (c : Chip) (hh : q.hdr.toNat < 16) (hl : q.len.toNat = (axesOf q.hdr.toNat).length) :
    setpointOp q c = orRefuse (setpointRefusal c q.hdr.toNat) c
      (done (c.forEach (axesOf q.hdr.toNat).zipIdx (fun e c => takeSetpoint e.1 (q.word e.2) c))) := by
  simp only [setpointOp, Nat.mod_eq_of_lt hh, hl, Nat.not_le.mpr hh, ne_eq, not_true, if_false]

theorem setpointOp_bad_length {q : Req} (c : Chip) (hh : q.hdr.toNat < 16) (hl : q.len.toNat ≠ (axesOf q.hdr.toNat).length) :
    setpointOp q c = refuse (badLength q) c := by
  simp only [setpointOp, Nat.mod_eq_of_lt hh, ne_eq, hl, not_false_eq_true, if_true]

theorem setpointRefusal_standby {c : Chip} {m : Nat} (hm : m ≠ 0) (h : c.mode = .standby) : setpointRefusal c m = some 0x420 := by
  simp [setpointRefusal, stMode, h, hm, Mode.code]

/-- Settles O16: EVENT_READ_CLEAR is one word written; SETPOINT judges its length before the mode. -/
theorem eventReadClearAndSetpoint : Obligations.EventReadClearAndSetpoint := by
  unfold Obligations.EventReadClearAndSetpoint
  refine ⟨fun s q h hl hh => ⟨_, (exec_eventReadClear_of_serves h).trans (by rw [eventReadClear_of_accepted _ hl hh]), ?_, ?_⟩,
    fun s q h hh hl hr => ?_, fun s q h hh hl => ?_, fun s q h hh hl hz hm => ?_, mem_axesOf⟩
  · rw [Chip.rd_wr_same, heard_rd]
  · exact sameBut_wr _ (List.mem_singleton_self _) (sameBut_of_sameWords (sameWords_heard 0x18 s.chip))
  · rw [exec_setpoint_of_serves h, setpointOp_of_length _ hh hl, hr]; rfl
  · rw [exec_setpoint_of_serves h, setpointOp_bad_length _ hh hl]; rfl
  · rw [exec_setpoint_of_serves h, setpointOp_of_length _ hh hl, setpointRefusal_standby hz (by simpa using hm)]; rfl

/-! ### The main domain after a reset (R126 to R128) -/

theorem Mem.find_filter_kept {p : Nat × Word → Bool} {a : Nat} (h : ∀ w, p (a, w) = true) (m : Mem) : Mem.find (m.filter p) a = m.find a := by
  induction m with
  | nil => rfl
  | cons e m ih =>
    obtain ⟨b, v⟩ := e
    cases hp : p (b, v) with
    | true => rw [List.filter_cons_of_pos hp, Mem.find, Mem.find, ih]
    | false =>
      have ha : a ≠ b := by rintro rfl; simp [h] at hp
      rw [List.filter_cons_of_neg (by simp [hp]), Mem.find, if_neg ha, ih]

theorem Mem.find_filter_dropped {p : Nat × Word → Bool} {a : Nat} (h : ∀ w, p (a, w) = false) (m : Mem) : Mem.find (m.filter p) a = none := by
  induction m with
  | nil => rfl
  | cons e m ih =>
    obtain ⟨b, v⟩ := e
    cases hp : p (b, v) with
    | true =>
      have ha : a ≠ b := by rintro rfl; simp [h] at hp
      rw [List.filter_cons_of_pos hp, Mem.find, if_neg ha, ih]
    | false => rw [List.filter_cons_of_neg (by simp [hp]), ih]

theorem Chip.rd_of_kept {c d : Chip} {p : Nat × Word → Bool} {a : Nat} (hd : d.regs = c.regs.filter p) (h : ∀ w, p (a, w) = true) :
    d.rd a = c.rd a := by
  rw [Chip.rd, hd, Mem.find_filter_kept h, Chip.rd]

theorem Chip.rd_of_dropped {c d : Chip} {p : Nat × Word → Bool} {a : Nat} (hd : d.regs = c.regs.filter p) (h : ∀ w, p (a, w) = false) :
    d.rd a = resetWord a := by
  rw [Chip.rd, hd, Mem.find_filter_dropped h]; rfl

theorem Chip.mode_eq (c : Chip) : c.mode = Mode.ofCode ((c.rd 8).field 0 4) := rfl

/-- The mode, and the sources that the reset in progress has recorded. -/
def resetView (c : Chip) : Mode × BitVec 8 := (c.mode, c.clk.logged)

theorem resetView_set (c : Chip) (f : Fld) (v : Nat) (h : f.addr ≠ 8 ∨ 4 ≤ f.lo) : resetView (c.set f v) = resetView c := by
  rw [resetView, Chip.mode, Chip.get_set_ne _ _ _ _ (h.imp Ne.symm .inr)]; rfl

theorem resetView_setb (c : Chip) (f : Fld) (b : Bool) (h : f.addr ≠ 8 ∨ 4 ≤ f.lo) : resetView (c.setb f b) = resetView c :=
  resetView_set c f (bit b) h

theorem resetView_raise (c : Chip) (f : Fld) (h : f.addr ≠ 8 ∨ 4 ≤ f.lo) : resetView (c.raise f) = resetView c := resetView_set c f 1 h

@[simp] theorem resetView_showRate (c : Chip) : resetView (showRate c) = resetView c := by
  unfold showRate
  split
  · rw [resetView_set _ _ _ (by decide), resetView_raise _ _ (by decide)]
  · rw [resetView_setb _ _ _ (by decide)]

@[simp] theorem resetView_takeRate (c : Chip) : resetView (takeRate c) = resetView c := resetView_showRate _

@[simp] theorem resetView_startSwitch (hclk : Bool) (c : Chip) : resetView (startSwitch hclk c) = resetView c := by
  rw [startSwitch, resetView_setb _ _ _ (by decide), resetView_setb _ _ _ (by decide), resetView_raise _ _ (by decide)]; rfl

@[simp] theorem resetView_chooseRef (c : Chip) : resetView (chooseRef c) = resetView c := by
  unfold chooseRef
  split
  · split
    · rw [resetView_setb _ _ _ (by decide)]; rfl
    · split
      · split
        · rfl
        · exact resetView_startSwitch _ c
      · split
        · rfl
        · exact resetView_startSwitch _ c
  · split
    · rfl
    · split <;> rfl

@[simp] theorem resetView_showKept (old c : Chip) : resetView (showKept old c) = resetView c := by
  simp only [showKept]
  split
  · rw [resetView_set _ _ _ (by decide), resetView_setb _ _ _ (by decide)]
  · simp only [resetView_takeRate, List.foldl_cons, List.foldl_nil]
    rw [resetView_set _ _ _ (by decide), resetView_set _ _ _ (by decide), resetView_set _ _ _ (by decide), resetView_set _ _ _ (by decide),
      resetView_setb _ _ _ (by decide)]

@[simp] theorem modSeal_clk (mtr : Bool) (f : SealLog → SealLog) (c : Chip) : (modSeal mtr f c).clk = c.clk := by
  unfold modSeal
  split <;> rfl

@[simp] theorem closeByReset_clk (c : Chip) : (closeByReset c).clk = c.clk := by
  simp only [closeByReset, modSafe_clk]
  split_ifs <;> simp only [modSeal_clk]

theorem storeWrite_clk (p : Nat) (ws : List Word) (c : Chip) : (storeWrite p ws c).clk = c.clk :=
  foldl_inv (fun x : Nat × Chip => x.2.clk) (fun x w => (x.1 + 1, x.2.storeWr x.1 w)) (fun _ _ => rfl) ws (p, c)

@[simp] theorem abandonJob_clk (j : StoreJob) (c : Chip) : (abandonJob j c).clk = c.clk := by
  simp only [abandonJob]
  split
  · exact storeWrite_clk _ _ _
  · rfl

@[simp] theorem resetStore_clk (c : Chip) : (resetStore c).clk = c.clk := by
  simp only [resetStore]
  split
  · exact abandonJob_clk _ c
  · rfl

theorem keptWord_mode : keptWord 8 = false := by decide

/-- A reset of scope MAIN ends in RESET, with the sources that it has recorded (R127, R128). -/
theorem resetView_mainReset (c : Chip) : resetView (mainReset c) = (.reset, c.clk.logged) := by
  simp only [mainReset, resetView_chooseRef, resetView_showKept]
  refine Prod.ext ?_ ?_
  · rw [resetView, Chip.mode_eq, Chip.rd_of_dropped (c := closeByReset (resetStore c)) rfl (fun _ => keptWord_mode)]
    exact reset_mode
  · simp only [resetView, clkAfterReset, closeByReset_clk, resetStore_clk]

/-- The words that Rind's reset returns to their reset state are none of the main domain's (R126). -/
theorem resetView_rindReset (c : Chip) : resetView (rindReset c) = resetView c := by
  simp only [rindReset]
  refine Prod.ext ?_ rfl
  rw [resetView, Chip.mode_eq, Chip.rd_wr_ne _ _ (by decide), Chip.rd_of_kept (c := c) rfl (fun _ => by simp [F.SIN_ACHK, F.SIN_SSTAT])]
  rfl

theorem resetView_applyReset (c : Chip) : resetView (applyReset c) = (.reset, c.clk.logged) := by
  simp only [applyReset]
  split
  · rw [resetView_rindReset]; exact resetView_mainReset c
  · exact resetView_mainReset c

/-- A source that becomes active leaves the device in RESET, and is recorded (R128). -/
theorem resetSource_mode (p : Nat) (lasting : Bool) (c : Chip) : (resetSource p lasting c).mode = .reset :=
  congrArg Prod.fst (resetView_applyReset _)

theorem resetSource_logged (p : Nat) (lasting : Bool) (c : Chip) (h : p < 8) : (resetSource p lasting c).clk.logged.getLsbD p = true := by
  refine (congrArg (fun v : Mode × BitVec 8 => v.2.getLsbD p) (resetView_applyReset _)).trans ?_
  simp [modClk, h]

/-! ### RESET (R66) -/

theorem exec_resetOp_of_serves {s : State} {q : Req} (h : servesC 0x7F q s.chip = true) :
    exec (.resetOp q) s = .next (s.acted (answer 0x7F q (resetOp q (heard 0x7F s.chip)))) := by
  rw [← receiveC_serves resetOp h]; rfl

theorem exec_resetAfterReply (s : State) : exec .resetAfterReply s = .next (s.acted (resetAfterReply s.chip)) := rfl

theorem confirmWord_of_no_header : confirmWord 0 = 0xFFFFFF := by decide

section
variable {q : Req} {c : Chip} (hl : q.len = 1) (hh : q.hdr = 0) (hb : c.mode ≠ .boot) (hm : c.mode ≠ .latched)
include hl hh hb hm

theorem resetOp_confirmed (hw : q.word 0 = 0xFFFFFF) : resetOp q c = ([0], modLink (fun l => { l with resetArmed := true }) c) := by
  simp only [resetOp, hl, hh, bootRefusal_none hb, hm, hw, confirmWord_of_no_header, ne_eq, not_true, if_false, orRefuse, done]

theorem resetOp_unconfirmed (hw : q.word 0 ≠ 0xFFFFFF) : resetOp q c = ([0x14], c) := by
  simp only [resetOp, hl, hh, bootRefusal_none hb, hm, hw, confirmWord_of_no_header, ne_eq, not_true, not_false_eq_true, if_false, if_true, orRefuse,
    refuse]
  rfl

end

theorem answer_resetArmed (op : Nat) (q : Req) (r : List Word × Chip) : (answer op q r).link.resetArmed = r.2.link.resetArmed := by
  simp only [answer, sendReply, cacheReply, modLink]
  split <;> rfl

/-- What the balls show in RESET (R48, R71, R129). -/
theorem balls_of_reset {c : Chip} (h : c.mode = .reset) : rstoutLow c = true ∧ hreqLow c = false ∧ hdopIdle c = none := by
  simp [rstoutLow, hreqLow, hdopIdle, h]

/-- Settles O19: RESET only arms the reset, and the reset after the reply leaves the device in RESET, whatever else it restores. -/
theorem resetFollowsItsReply : Obligations.ResetFollowsItsReply := by
  unfold Obligations.ResetFollowsItsReply
  refine ⟨fun s q h hl hh hb hm hw => ?_, fun s q h hl hh hb hm hw => ⟨?_, ?_⟩, fun s h => ?_,
    fun c => ⟨resetSource_mode 7 false c, resetSource_logged 7 false c (by decide), balls_of_reset (resetSource_mode 7 false c)⟩⟩
  · rw [exec_resetOp_of_serves h, resetOp_confirmed hl hh (by simpa using hb) (by simpa using hm) hw]
    exact ⟨_, rfl, rfl, sameWords_heard 0x7F s.chip⟩
  · rw [exec_resetOp_of_serves h, resetOp_unconfirmed hl hh (by simpa using hb) (by simpa using hm) hw]
  · rw [answer_resetArmed, heard_link]
  · rw [exec_resetAfterReply, resetAfterReply, if_pos h]

/-! ### The host watchdog and network time (R76, R137, R144, R150) -/

theorem watchdogExpiry_of_running {c : Chip} (h : c.ms.hwdRunning = true) :
    watchdogExpiry c = (modMs (fun s => { s with hwdRunning := false }) ((c.raise F.DEV_HWD_EXPIRED).evHwdExp)).notice .watchdog := if_pos h

/-- An event of the main domain, while its clocks run. -/
theorem running_of_going {s : State} (h : going s.chip = true) (f : Chip → Chip) : running s f = .next (s.acted (f s.chip)) := by
  have hg : ¬(s.chip.mode = .reset ∨ s.chip.clk.gated = true) := by simpa [going] using h
  simp only [running, act, hg, if_false]; rfl

theorem exec_servoHoldover_of_going {s : State} (h : going s.chip = true) :
    exec .servoHoldover s = .next (s.acted (servoHoldover s.chip)) := running_of_going h servoHoldover

theorem exec_slewDone_of_going {s : State} (h : going s.chip = true) :
    exec .slewDone s = .next (s.acted (slewDone s.chip)) := running_of_going h slewDone

theorem servoHoldover_of_slave {c : Chip} (hs : isSlave c = true) (h : c.get F.NWT_STAT_SRV = 1 ∨ c.get F.NWT_STAT_SRV = 2) :
    servoHoldover c = setSrv 3 c := if_pos ⟨hs, h⟩

/-- A servo that leaves LOCKED sets LOCKLOST (R151). -/
theorem setSrv_from_locked {v : Nat} {c : Chip} (h : c.get F.NWT_STAT_SRV = 2) (hv : v ≠ 2) :
    setSrv v c = ((c.set F.NWT_STAT_SRV v).evTime).raise F.NWT_STAT_LOCKLOST := by
  simp only [setSrv, h, hv.symm, if_true, if_false]

theorem setSrv_unlocked {v : Nat} {c : Chip} (h : c.get F.NWT_STAT_SRV ≠ 2) (hv : v ≠ 2) (hc : c.get F.NWT_STAT_SRV ≠ v) :
    setSrv v c = (c.set F.NWT_STAT_SRV v).evTime := by
  simp only [setSrv, h, hv, hc, if_false]

theorem get_evTime_set_srv (c : Chip) : ((c.set F.NWT_STAT_SRV 3).evTime).get F.NWT_STAT_SRV = 3 := by
  rw [Chip.evTime, Chip.get_evt_ne _ _ _ _ (by decide), Chip.get_set_same _ _ _ (by decide)]; rfl

/-- Settles O34: the watchdog and the servo by the flags that each sets, the slew by what a cycle takes of it. -/
theorem watchdogHoldoverAndSlew : Obligations.WatchdogHoldoverAndSlew := by
  unfold Obligations.WatchdogHoldoverAndSlew
  refine ⟨fun s h => ⟨_, rfl, ?_⟩, fun s hg hs h => ⟨_, exec_servoHoldover_of_going hg, ?_⟩, fun s hg hs h => ⟨_, exec_servoHoldover_of_going hg, ?_⟩,
    fun s hg h => ⟨_, exec_slewDone_of_going hg, ?_⟩, fun s hg h => ?_, fun c => ⟨rfl, rfl⟩⟩
  · rw [watchdogExpiry_of_running h]
    refine ⟨?_, ?_, rfl, rfl, sameBut_wr (d := s.chip.raise F.DEV_HWD_EXPIRED) _ (by simp)
      (sameBut_wr _ (by simp [F.DEV_HWD_EXPIRED]) (sameBut_refl _ _))⟩
    · rw [notice_is, modMs_is, Chip.is, Chip.evHwdExp, Chip.get_evt_ne _ _ _ _ (by decide), ← Chip.is,
        Chip.is_raise_same _ _ rfl (by decide)]
    · exact beq_iff_eq.mpr (Chip.evt_field (s.chip.raise F.DEV_HWD_EXPIRED) 0 3 (by decide))
  · rw [servoHoldover_of_slave hs (.inr h), setSrv_from_locked h (by decide)]
    refine ⟨?_, Chip.is_raise_same _ _ rfl (by decide), ?_⟩
    · rw [Chip.get_raise_ne _ _ _ (by decide), get_evTime_set_srv]
    · exact sameBut_wr _ (by simp [F.NWT_STAT_LOCKLOST, F.NWT_STAT_SRV])
        (sameBut_wr (d := s.chip.set F.NWT_STAT_SRV 3) _ (by simp) (sameBut_wr _ (by simp) (sameBut_refl _ _)))
  · rw [servoHoldover_of_slave hs (.inl h), setSrv_unlocked (by rw [h]; decide) (by decide) (by rw [h]; decide)]
    refine ⟨get_evTime_set_srv _, ?_⟩
    rw [Chip.is, Chip.evTime, Chip.get_evt_ne _ _ _ _ (by decide), Chip.get_set_ne _ _ _ _ (by decide), ← Chip.is]
  · rw [slewDone, if_pos h]
    exact ⟨Chip.is_setb_same _ _ false rfl (by decide), rfl, sameBut_wr _ (by simp) (sameBut_refl _ _)⟩
  · rw [exec_slewDone_of_going hg, slewDone, if_neg h]

end Sys2Proof.Machine
end

section
/-! SUPPORT. The proofs of the parameter-space chapter (03_parameter_space): what a host write stores and what follows of it, the seals, and the confirmation
of the safety set. -/

namespace Sys2Proof.Machine

/-! ### Frames -/

theorem sameBut_mode {l : List Nat} {c d : Chip} (h : sameBut l c d) (hl : 8 ∉ l) : d.mode = c.mode := by
  rw [Chip.mode_eq, h.1 8 hl, ← Chip.mode_eq]

/-! ### Accepted host writes (R17) -/

theorem storeWord_of_unlisted {a : Nat} (mask v : Word) (c : Chip) (hd : wordAt a = none) (ha : a < 0x78000 ∨ 0x90000 ≤ a) :
    storeWord a mask v c = c := by
  have hlane : ¬(0x78000 ≤ a ∧ a < 0x80000) := by omega
  have hzmem : ¬(0x80000 ≤ a ∧ a < 0x90000) := by omega
  simp only [storeWord, hlane, hzmem, hd, if_false]

/-- Outside the windows of the engine's memories a host write stores in its own word and nowhere else. -/
theorem sameBut_storeWord {l : List Nat} {a : Nat} (mask v : Word) (c : Chip) (hl : a ∈ l) (ha : a < 0x78000 ∨ 0x90000 ≤ a) :
    sameBut l c (storeWord a mask v c) := by
  cases hd : wordAt a with
  | some d => rw [storeWord_of_wordAt mask v c hd ha]; exact sameBut_wr _ hl (sameBut_refl l c)
  | none => rw [storeWord_of_unlisted mask v c hd ha]; exact sameBut_refl l c

theorem sameBut_wrote {l : List Nat} {a : Nat} (c : Chip) (v : Word) (hl : a ∈ l) (ha : a < 0x78000 ∨ 0x90000 ≤ a) : sameBut l c (wrote c a v) :=
  sameBut_storeWord _ v c hl ha

/-- An accepted host write of masked bits: the word stored, the effect of its owning rule, and what follows in the same step. -/
theorem act_hostWrite_of_accepts {s : State} {a : Nat} {mask v : Word} (h : accepts s.chip a mask v = true) :
    act s (hostWrite a mask v) = .next (s.acted (wordTaken a (s.chip.rd a) (mask &&& v) (storeWord a mask v s.chip))) := by
  rw [act, hostWrite_eq, if_pos h, writeWords_singleton, State.acted]

theorem act_hostWriteWord_of_accepts {s : State} {a : Nat} {v : Word} (h : acceptsWord s.chip a v = true) :
    act s (hostWriteWord a v) = .next (s.acted (wordTaken a (s.chip.rd a) v (wrote s.chip a v))) := by
  refine (act_hostWrite_of_accepts h).trans ?_
  rw [BitVec.allOnes_and, wrote]

/-! ### A flag cleared by its own bit (R16) -/

theorem field_and_of_zero {mask : Word} (v : Word) {lo n : Nat} (h : mask.field lo n = 0) : (v &&& mask).field lo n = 0 := by
  apply Nat.eq_of_testBit_eq
  intro i
  have hm : (mask.field lo n).testBit i = false := by rw [h]; exact Nat.zero_testBit i
  rw [Word.testBit_field] at hm
  rw [Word.testBit_field, Nat.zero_testBit, BitVec.getLsbD_and, Bool.and_comm (v.getLsbD _), ← Bool.and_assoc, hm, Bool.false_and]

/-- A write that carries no bit of a field leaves it alone, whatever its access code (R63). -/
theorem writeField_of_unmasked (w v : Word) {mask : Word} {f : FieldDef} (h : mask.field f.lo f.width = 0) : writeField v mask w f = w := by
  cases ha : f.acc with
  | rw | sl => simp only [writeField, ha, h, if_true]
  | w1c => simp only [writeField, ha, field_and_of_zero v h, Nat.zero_shiftLeft]; exact BitVec.and_allOnes
  | ro | wo | rc | ri => simp only [writeField, ha]

theorem foldl_writeField_of_unmasked (w v : Word) {mask : Word} {l : List FieldDef} (h : ∀ f ∈ l, mask.field f.lo f.width = 0) :
    l.foldl (writeField v mask) w = w := by
  induction l with
  | nil => rfl
  | cons f l ih =>
    rw [List.foldl_cons, writeField_of_unmasked w v (h f List.mem_cons_self), ih fun g hg => h g (List.mem_cons_of_mem f hg)]

/-- A word after a write that carries bits of one of its fields only, a W1C field. -/
theorem writtenWord_of_one_w1c {d : WordDef} {l₁ l₂ : List FieldDef} {f : FieldDef} (c : Chip) (a : Nat) {mask : Word} (v : Word)
    (hd : d.fields = l₁ ++ f :: l₂) (hf : f.acc = .w1c) (h : ∀ g ∈ l₁ ++ l₂, mask.field g.lo g.width = 0) :
    writtenWord c d a mask v = writeField v mask (c.rd a) f := by
  have h₁ : ∀ g ∈ l₁.filter (fieldWritable c a), mask.field g.lo g.width = 0 :=
    fun g hg => h g (List.mem_append_left l₂ (List.mem_of_mem_filter hg))
  have h₂ : ∀ g ∈ l₂.filter (fieldWritable c a), mask.field g.lo g.width = 0 :=
    fun g hg => h g (List.mem_append_right l₁ (List.mem_of_mem_filter hg))
  rw [writtenWord, hd, List.filter_append, List.filter_cons_of_pos (fieldWritable_of_w1c c a hf), List.foldl_append,
    foldl_writeField_of_unmasked _ _ h₁, List.foldl_cons, foldl_writeField_of_unmasked _ _ h₂]

/-- DEV.HWD after a write of EXPIRED alone. -/
theorem storeWord_expired (c : Chip) :
    storeWord 0xB (oneBit F.DEV_HWD_EXPIRED) (oneBit F.DEV_HWD_EXPIRED) c =
      c.wr 0xB (writeField (oneBit F.DEV_HWD_EXPIRED) (oneBit F.DEV_HWD_EXPIRED) (c.rd 0xB) (fd 23 1 .w1c 0x0)) := by
  rw [storeWord_of_wordAt (d := ⟨"DEV.HWD", 0xb, [], [fd 23 1 .w1c 0x0, fd 16 4 .rw 0x0 .cs, fd 15 1 .rw 0x0 .cs,
      fd 0 10 .rw 0xa .any (.clamp 1 1000)]⟩) _ _ c rfl (by decide),
    writtenWord_of_one_w1c (l₁ := []) c 0xB _ rfl rfl (by decide), show keptW1c 0xB = 0 from rfl, merge_none_kept]

theorem get_storeWord_expired (c : Chip) {f : Fld} (h : f.addr = 0xB) :
    (storeWord 0xB (oneBit F.DEV_HWD_EXPIRED) (oneBit F.DEV_HWD_EXPIRED) c).get f =
      (writeField (oneBit F.DEV_HWD_EXPIRED) (oneBit F.DEV_HWD_EXPIRED) (c.rd 0xB) (fd 23 1 .w1c 0x0)).field f.lo f.width := by
  rw [storeWord_expired, Chip.get, h, Chip.rd_wr_same]

theorem is_expired_storeWord_expired (c : Chip) :
    (storeWord 0xB (oneBit F.DEV_HWD_EXPIRED) (oneBit F.DEV_HWD_EXPIRED) c).is F.DEV_HWD_EXPIRED = false := by
  have hcleared : (storeWord 0xB (oneBit F.DEV_HWD_EXPIRED) (oneBit F.DEV_HWD_EXPIRED) c).get F.DEV_HWD_EXPIRED = 0 :=
    (get_storeWord_expired c rfl).trans ((w1c_bit_clears (c.rd 0xB) _ _ 23 0 .any).trans (if_pos (by decide)))
  rw [Chip.is, hcleared]; rfl

theorem is_enable_storeWord_expired (c : Chip) :
    (storeWord 0xB (oneBit F.DEV_HWD_EXPIRED) (oneBit F.DEV_HWD_EXPIRED) c).is F.DEV_HWD_ENABLE = c.is F.DEV_HWD_ENABLE := by
  rw [Chip.is, get_storeWord_expired c rfl, writeField_keeps_other_field _ _ _ _ _ _ (by decide)]; rfl

/-! ### The effects of the words that the table names (R77, R97, R107) -/

theorem wordTaken_hrq_swset {v : Word} (old : Word) (c : Chip) (h : v.getLsbD 8 = true) : wordTaken 0x18 old v c = c.evSw := if_pos h

theorem wordTaken_cfgchk_run {v : Word} (old : Word) (c : Chip) (h : v.getLsbD 41 = true) : wordTaken 0x1B old v c = startCheck c := if_pos h

theorem startCheck_of_config {c : Chip} (h : c.mode = .config) :
    startCheck c = modMs (fun s => { s with checkRunning := true }) (c.raise F.DEV_CFGCHK_BUSY) := if_pos h

theorem wordTaken_hwd_expired {old wr : Word} (c : Chip) (ho : old.getLsbD 23 = true) (hw : wr.getLsbD 23 = true) :
    wordTaken 0xB old wr c = expiredCleared c := if_pos (by rw [ho, hw]; rfl)

/-- A flag that reads 1 is its bit in the word. -/
theorem getLsbD_of_is {c : Chip} {f : Fld} (hw : f.width = 1) (h : c.is f = true) : (c.rd f.addr).getLsbD f.lo = true := by
  have hb : ((c.rd f.addr).field f.lo f.width).testBit 0 = true := by
    rw [show (c.rd f.addr).field f.lo f.width = 1 from beq_iff_eq.mp h]; rfl
  rw [Word.testBit_field, hw] at hb
  simpa using hb

/-- A clearing of EXPIRED while it stands (R77). -/
theorem exec_expiredClear_of_accepts {s : State} (h : accepts s.chip 0xB (oneBit F.DEV_HWD_EXPIRED) (oneBit F.DEV_HWD_EXPIRED) = true)
    (he : s.chip.is F.DEV_HWD_EXPIRED = true) :
    exec .expiredClear s =
      .next (s.acted (expiredCleared (storeWord 0xB (oneBit F.DEV_HWD_EXPIRED) (oneBit F.DEV_HWD_EXPIRED) s.chip))) := by
  rw [← wordTaken_hwd_expired (wr := oneBit F.DEV_HWD_EXPIRED &&& oneBit F.DEV_HWD_EXPIRED) _ (getLsbD_of_is (f := F.DEV_HWD_EXPIRED) rfl he)
    (by decide)]
  exact act_hostWrite_of_accepts h

theorem sameBut_expiredCleared {l : List Nat} {c d : Chip} (h : sameBut l c d) : sameBut l c (expiredCleared d) := by
  unfold expiredCleared
  split
  · exact h
  · exact h

theorem expiredCleared_is (c : Chip) (f : Fld) : (expiredCleared c).is f = c.is f := by
  unfold expiredCleared
  split
  · exact modMs_is _ _ _
  · rfl

theorem expiredCleared_hwdRunning {c : Chip} (hm : c.mode = .drive ∨ c.mode = .charge) (he : c.is F.DEV_HWD_ENABLE = true) :
    (expiredCleared c).ms.hwdRunning = true := by
  rw [expiredCleared, if_pos ⟨hm, he⟩]; rfl

/-! ### The trim source, the reference and the sample sets (R114, R193, R197, R203) -/

theorem chooseTrim_trimsrc (c : Chip) : (chooseTrim c).get F.CLK_STAT_TRIMSRC = trimSource c % 4 := by
  rw [chooseTrim, Chip.get_setb_ne _ _ _ _ (by decide), Chip.get_set_same _ _ _ (by decide)]; rfl

theorem chooseTrim_holdover (c : Chip) : (chooseTrim c).is F.CLK_STAT_HOLDOVER = (trimSource c == 0) := Chip.is_setb_same _ _ _ rfl (by decide)

theorem refOf_refsel_lt (c : Chip) : refOf (c.get F.ADC_CFG_REFSEL) < 4 := by
  unfold refOf
  split
  · decide
  · exact Word.field_lt _ 0 2

theorem changeRef_refact {src : Nat} (c : Chip) (h : src < 4) : (changeRef src c).get F.ADC_STAT_REFACT = src := by
  rw [changeRef, Chip.get_setb_ne _ _ _ _ (by decide), Chip.get_set_same _ _ _ (by decide)]
  exact Nat.mod_eq_of_lt h

theorem changeRef_refpok (src : Nat) (c : Chip) : (changeRef src c).is F.ADC_STAT_REFPOK = c.is F.ADC_STAT_REFPOK := by
  rw [Chip.is, changeRef, Chip.get_setb_ne _ _ _ _ (by decide), Chip.get_set_ne _ _ _ _ (by decide), ← Chip.is]

theorem changeRef_unsettled (src : Nat) (c : Chip) : (changeRef src c).is F.ADC_STAT_REF_SETTLED = false := Chip.is_setb_same _ _ _ rfl (by decide)

/-- No reference fault while the source in use is internal, or external and within its limits (R196). -/
theorem refFault_of_good {c : Chip} (h : c.get F.ADC_STAT_REFACT ≠ 1 ∨ c.is F.ADC_STAT_REFPOK = true) : refFault c = c :=
  if_neg fun hf => h.elim (fun hn => hn hf.1) hf.2

theorem refSelected_of_change {c : Chip} (h : refOf (c.get F.ADC_CFG_REFSEL) ≠ c.get F.ADC_STAT_REFACT)
    (hok : refOf (c.get F.ADC_CFG_REFSEL) ≠ 1 ∨ c.is F.ADC_STAT_REFPOK = true) :
    refSelected c = changeRef (refOf (c.get F.ADC_CFG_REFSEL)) c := by
  simp only [refSelected, if_neg h]
  exact refFault_of_good (by rwa [changeRef_refact c (refOf_refsel_lt c), changeRef_refpok])

theorem setRun_setRunTo_same {k : Nat} {c : Chip} (r : Option SetRun) (h : k < c.adc.runs.length) : setRun (setRunTo k r c) k = r := by
  simp [setRun, setRunTo, h]

/-- A trigger starts a run of an enabled set without one (R204). -/
theorem setRun_triggerSet_of_idle {k : Nat} {c : Chip} (hk : k < c.adc.runs.length) (hm : runMode c.mode = true)
    (he : c.is (F.ADC_SET_CFG_EN k) = true) (hr : setRun c k = none) :
    setRun (triggerSet k c) k =
      some { cfg := c.rd (F.ADC_SET_CFG k), slots := slotsOf c k, ranks := ranksOf (slotsOf c k), takeAt := takeEdge c } := by
  simp only [triggerSet, hm, he, hr, Bool.and_self, if_true, setRun_setRunTo_same _ hk]

/-! ### The role in network time (R144) -/

theorem setSrv_srv {v : Nat} (c : Chip) (hv : v < 4) : (setSrv v c).get F.NWT_STAT_SRV = v := by
  have htaken : ((c.set F.NWT_STAT_SRV v).evTime).get F.NWT_STAT_SRV = v := by
    rw [Chip.evTime, Chip.get_evt_ne _ _ _ _ (by decide), Chip.get_set_same _ _ _ (by decide)]
    exact Nat.mod_eq_of_lt hv
  simp only [setSrv]
  split
  next hsame => exact hsame
  next =>
    split_ifs
    · rw [Chip.get_raise_ne _ _ _ (by decide), htaken]
    · rw [Chip.get_raise_ne _ _ _ (by decide), htaken]
    · exact htaken

theorem roleChanged_srv {old : Nat} {c : Chip} (ho : old < 3) (hn : c.get F.NWT_CFG_ROLE < 3) (h : old ≠ c.get F.NWT_CFG_ROLE) :
    (roleChanged old c).get F.NWT_STAT_SRV = if isSlave c then 1 else 0 := by
  simp only [roleChanged, Nat.ne_of_lt ho, Nat.ne_of_lt hn, h, if_false]
  split
  · exact setSrv_srv _ (by decide)
  · exact setSrv_srv _ (by decide)

/-- Settles O20: an accepted write is the word stored and the effect of its rule, and each effect is read off the words and flags that it sets. -/
theorem deviceClockAndAcquisitionWritesTakeEffect : Obligations.DeviceClockAndAcquisitionWritesTakeEffect := by
  unfold Obligations.DeviceClockAndAcquisitionWritesTakeEffect
  refine ⟨fun s v h hb => ⟨?_, ?_, ?_⟩, fun s v h hb hm => ⟨_, act_hostWriteWord_of_accepts h, ?_⟩, fun s v h => act_hostWriteWord_of_accepts h,
    fun c => ⟨chooseTrim_trimsrc c, chooseTrim_holdover c⟩, fun s v h => act_hostWriteWord_of_accepts h, fun c h hok => ?_,
    fun s v h => act_hostWriteWord_of_accepts h, fun k c hk hm he hr => ⟨_, setRun_triggerSet_of_idle hk hm he hr, rfl⟩,
    fun s v h => act_hostWriteWord_of_accepts h, fun old c ho hn h => roleChanged_srv ho hn h, fun s h he => ⟨_, exec_expiredClear_of_accepts h he, ?_⟩⟩
  · exact (act_hostWriteWord_of_accepts h).trans (by rw [wordTaken_hrq_swset _ _ hb])
  · exact beq_iff_eq.mpr (Chip.evt_field _ 0 12 (by decide))
  · exact sameBut_wr _ (by simp) (sameBut_wrote s.chip v (by simp) (by decide))
  · have hf : sameBut [0x1B] s.chip (wrote s.chip 0x1B v) := sameBut_wrote s.chip v (by simp) (by decide)
    rw [wordTaken_cfgchk_run _ _ hb, startCheck_of_config ((sameBut_mode hf (by decide)).trans hm), modMs_is]
    exact ⟨Chip.is_raise_same _ _ rfl (by decide), rfl, sameBut_wr _ (by simp [F.DEV_CFGCHK_BUSY]) hf⟩
  · rw [refSelected_of_change h hok]
    exact ⟨changeRef_refact c (refOf_refsel_lt c), changeRef_unsettled _ c⟩
  · have hf : sameBut [0xB] s.chip (storeWord 0xB (oneBit F.DEV_HWD_EXPIRED) (oneBit F.DEV_HWD_EXPIRED) s.chip) :=
      sameBut_storeWord _ _ s.chip (by simp) (by decide)
    refine ⟨?_, sameBut_expiredCleared hf, fun hm hen => expiredCleared_hwdRunning ?_ ?_⟩
    · rw [expiredCleared_is, is_expired_storeWord_expired]
    · rwa [sameBut_mode hf (by decide)]
    · rwa [is_enable_storeWord_expired]

/-! ### What the logs and DEV.SEAL leave alone (R102, R104, R552) -/

@[simp] theorem heard_safe (op : Nat) (c : Chip) : (heard op c).safe = c.safe := Chip.occur_keeps Chip.safe (fun _ _ => rfl) _ _ _ _

@[simp] theorem heard_sealOpened (op : Nat) (c : Chip) (mtr : Bool) : sealOpened (heard op c) mtr = sealOpened c mtr := heard_is op c _

@[simp] theorem heard_canStore (op : Nat) (c : Chip) : canStore (heard op c) = canStore c := heard_is op c _

@[simp] theorem committedIn_rd (base a : Nat) (c : Chip) : (committedIn base c).rd a = c.rd a := Chip.occur_rd c.free.2 _ _ _ a

@[simp] theorem mtrLogAdd_rd (e : LogEntry) (a : Nat) (c : Chip) : (mtrLogAdd e c).rd a = c.rd a := by
  unfold mtrLogAdd
  split
  · rfl
  · exact modMeter_rd _ _ _

/-- A log entry changes no word. -/
@[simp] theorem sealEntry_rd (mtr : Bool) (event detail a : Nat) (c : Chip) : (sealEntry mtr event detail c).rd a = c.rd a := by
  cases mtr with
  | false => exact (committedIn_rd _ _ _).trans (modSafe_rd _ _ _)
  | true => exact (committedIn_rd _ _ _).trans (mtrLogAdd_rd _ _ _)

@[simp] theorem modSeal_rd (mtr : Bool) (f : SealLog → SealLog) (a : Nat) (c : Chip) : (modSeal mtr f c).rd a = c.rd a := by
  cases mtr with
  | false => exact modSafe_rd _ _ _
  | true => exact modMeter_rd _ _ _

/-- The fail counts and lockouts that DEV.SEAL shows stand beside its open bits. -/
theorem showSeals_get {g : Fld} (c : Chip) (h : g.addr ≠ 0x1A ∨ g.lo + g.width ≤ 2) : (showSeals c).get g = c.get g := by
  have beside {n : Nat} (hn : 2 ≤ n) (m : Nat) : g.addr ≠ 0x1A ∨ n + m ≤ g.lo ∨ g.lo + g.width ≤ n :=
    h.imp_right fun hg => .inr (hg.trans hn)
  rw [showSeals, Chip.get_setb_ne _ _ _ _ (beside (by decide) _), Chip.get_setb_ne _ _ _ _ (beside (by decide) _),
    Chip.get_set_ne _ _ _ _ (beside (by decide) _), Chip.get_set_ne _ _ _ _ (beside (by decide) _)]

theorem sealFld_addr (mtr : Bool) : (sealFld mtr).addr = 0x1A := by cases mtr <;> rfl

theorem sealFld_width (mtr : Bool) : (sealFld mtr).width = 1 := by cases mtr <;> rfl

theorem sealFld_bounds (mtr : Bool) : (sealFld mtr).lo + (sealFld mtr).width ≤ 2 := by cases mtr <;> decide

theorem sealOpened_showSeals (c : Chip) (mtr : Bool) : sealOpened (showSeals c) mtr = sealOpened c mtr :=
  congrArg (· == 1) (showSeals_get c (.inr (sealFld_bounds mtr)))

theorem sealOpened_evSealChg (c : Chip) (mtr : Bool) : sealOpened c.evSealChg mtr = sealOpened c mtr :=
  congrArg (· == 1) (Chip.get_evt_ne c 0 4 (sealFld mtr) (by rw [sealFld_addr]; decide))

theorem sealOpened_modSeal (mtr : Bool) (f : SealLog → SealLog) (c : Chip) (m : Bool) : sealOpened (modSeal mtr f c) m = sealOpened c m := by
  simp only [sealOpened, Chip.is, Chip.get, modSeal_rd]

theorem sealOpened_sealEntry (mtr : Bool) (event detail : Nat) (c : Chip) (m : Bool) : sealOpened (sealEntry mtr event detail c) m = sealOpened c m := by
  simp only [sealOpened, Chip.is, Chip.get, sealEntry_rd]

theorem evSealChg_is (c : Chip) : c.evSealChg.is F.DEV_EVT0_SEAL_CHG = true := beq_iff_eq.mpr (Chip.evt_field c 0 4 (by decide))

/-! ### Seals opened, refused and closed (R99 to R102) -/

theorem openSeal_opened (mtr : Bool) (detail : Nat) (c : Chip) : sealOpened (openSeal mtr detail c) mtr = true := by
  rw [openSeal, sealOpened_showSeals, sealOpened_evSealChg]
  exact Chip.is_raise_same _ _ (sealFld_width mtr) ((sealFld_bounds mtr).trans (by decide))

theorem openSeal_evSealChg (mtr : Bool) (detail : Nat) (c : Chip) : (openSeal mtr detail c).is F.DEV_EVT0_SEAL_CHG = true :=
  (congrArg (· == 1) (showSeals_get _ (.inl (by decide)))).trans (evSealChg_is _)

/-- A wrong credential opens and closes no seal. -/
theorem wrongCredential_sealOpened (mtr : Bool) (detail : Nat) (c : Chip) (m : Bool) :
    sealOpened (wrongCredential mtr detail c) m = sealOpened c m := by
  simp only [wrongCredential, sealOpened_showSeals]
  split
  · rw [sealOpened_modSeal, sealOpened_evSealChg, sealOpened_sealEntry]
  · rw [sealOpened_sealEntry, sealOpened_modSeal, sealOpened_modSeal, sealOpened_evSealChg, sealOpened_sealEntry]

theorem closeSeal_of_closed {mtr : Bool} {c : Chip} (event : Nat) (h : sealOpened c mtr = false) : closeSeal mtr event c = c := by
  simp only [closeSeal, h, Bool.not_false, if_true]

/-- Whatever becomes of the staged values, a close of an open seal ends with its bit cleared and the event. -/
theorem closeSeal_of_open {mtr : Bool} {c : Chip} (event : Nat) (h : sealOpened c mtr = true) :
    ∃ d : Chip, closeSeal mtr event c = (d.setb (sealFld mtr) false).evSealChg := by
  simp only [closeSeal, h, Bool.not_true, Bool.false_eq_true, if_false]
  exact ⟨_, rfl⟩

theorem closeSeal_closes {mtr : Bool} {c : Chip} (event : Nat) (h : sealOpened c mtr = true) :
    sealOpened (closeSeal mtr event c) mtr = false ∧ (closeSeal mtr event c).is F.DEV_EVT0_SEAL_CHG = true := by
  obtain ⟨d, hd⟩ := closeSeal_of_open event h
  rw [hd, sealOpened_evSealChg]
  exact ⟨Chip.is_setb_same _ _ _ (sealFld_width mtr) ((sealFld_bounds mtr).trans (by decide)), evSealChg_is _⟩

/-! ### SEAL_OPEN and SEAL_CLOSE -/

theorem configRefusal_config {c : Chip} (h : c.mode = .config) : configRefusal c = none := by
  rw [configRefusal, h]; rfl

theorem configRefusal_standby {c : Chip} (h : c.mode = .standby) : configRefusal c = some 0x420 := by
  rw [configRefusal, stMode, stMode, h]; rfl

theorem exec_sealOpen_of_serves {s : State} {q : Req} (h : servesC 0x30 q s.chip = true) :
    exec (.sealOpen q) s = .next (s.acted (answer 0x30 q (sealOpenOp q (heard 0x30 s.chip)))) := by
  rw [← receiveC_serves sealOpenOp h]; rfl

theorem exec_sealClose_of_serves {s : State} {q : Req} (h : servesC 0x31 q s.chip = true) :
    exec (.sealClose q) s = .next (s.acted (answer 0x31 q (sealCloseOp q (heard 0x31 s.chip)))) := by
  rw [← receiveC_serves sealCloseOp h]; rfl

theorem field_of_zero_word (lo n : Nat) : Word.field 0#48 lo n = 0 := by simp [Word.field]

/-- SEAL_OPEN of the safety seal in CONFIG with a check value as its credential (R547). -/
theorem sealOpenOp_checkvalue {q : Req} {c : Chip} (hh : q.hdr.toNat = 0x0D0000) (hl : q.len = 2) (hw : q.word 0 = 0)
    (hz : (q.word 1).field 32 16 = 0) (hm : c.mode = .config) : sealOpenOp q c = judgeSeal false q c := by
  have hbase : sealBase q.hdr.toNat = some false := by rw [hh]; rfl
  have hlen : credentialLength false q = true := by simp [credentialLength, hw, hl, field_of_zero_word]
  have hbad : credentialBad false q = false := by simp [credentialBad, hw, hz, field_of_zero_word]
  simp [sealOpenOp, hl, hbase, hlen, hbad, configRefusal_config hm, orRefuse]

theorem credentialKind_checkvalue {q : Req} (hw : q.word 0 = 0) : credentialKind false q = 1 := by
  simp [credentialKind, hw, field_of_zero_word]

/-- The safety seal with both seals closed, no lockout, and a log entry that can be committed: the credential decides (R101, R102). -/
theorem judgeSeal_sin {q : Req} {c : Chip} (hmtr : sealOpened c true = false) (hsin : sealOpened c false = false)
    (hlock : c.safe.sealLog.lockEnd = none) (hs : canStore c = true) (hq : q.storeOk = true) :
    judgeSeal false q c = if sinRight c q then ([0], openSeal false (credentialKind false q) c)
      else ([0x0D000014], wrongCredential false (credentialKind false q) c) := by
  simp only [judgeSeal, hmtr, hsin, sealLogOf, hlock, hs, hq, Bool.not_false, Bool.not_true, Bool.false_and, Option.isSome_none, Bool.false_eq_true,
    if_false]
  rfl

/-- SEAL_OPEN of the safety seal with a check value, up to the judgement of the credential. -/
theorem exec_sealOpen_sin {s : State} {q : Req} (h : servesC 0x30 q s.chip = true) (hh : q.hdr.toNat = 0x0D0000) (hl : q.len = 2)
    (hw : q.word 0 = 0) (hz : (q.word 1).field 32 16 = 0) (hm : s.chip.mode = .config) (hmtr : sealOpened s.chip true = false)
    (hsin : sealOpened s.chip false = false) (hlock : s.chip.safe.sealLog.lockEnd = none) (hs : canStore s.chip = true) (hq : q.storeOk = true) :
    exec (.sealOpen q) s = .next (s.acted (answer 0x30 q
      (if sinRight (heard 0x30 s.chip) q then ([0], openSeal false 1 (heard 0x30 s.chip))
        else ([0x0D000014], wrongCredential false 1 (heard 0x30 s.chip))))) := by
  rw [exec_sealOpen_of_serves h, sealOpenOp_checkvalue hh hl hw hz (by simpa using hm),
    judgeSeal_sin (by simpa using hmtr) (by simpa using hsin) (by simpa using hlock) (by simpa using hs) hq, credentialKind_checkvalue hw]

theorem sealCloseOp_sin {q : Req} {c : Chip} (hh : q.hdr.toNat = 0x0D0000) (hl : q.len = 0) (hb : c.mode ≠ .boot) :
    sealCloseOp q c = ([0], closeSeal false 4 c) := by
  have hbase : sealBase q.hdr.toNat = some false := by rw [hh]; rfl
  simp only [sealCloseOp, hl, hbase, bootRefusal_none hb, orRefuse, done, ne_eq, not_true, Bool.false_and, Bool.false_eq_true, if_false]

/-! ### SAFE_PARAM_CONFIRM (R551) -/

theorem exec_safeParamConfirm_of_serves {s : State} {q : Req} (h : servesC 0x32 q s.chip = true) :
    exec (.safeParamConfirm q) s = .next (s.acted (answer 0x32 q (safeConfirm q (heard 0x32 s.chip)))) := by
  rw [← receiveC_serves safeConfirm h]; rfl

/-- A check value is a CRC of 32 bits: a word that holds one has no bit above. -/
theorem field_of_checkValue {w : Word} {l : List (Nat × Word)} (h : w.toNat = checkValue l) : w.field 32 16 = 0 := by
  have hlt : w.toNat < 2 ^ 32 := by rw [h, checkValue]; exact BitVec.isLt _
  rw [Word.field, Nat.shiftRight_eq_div_pow, Nat.div_eq_of_lt hlt, Nat.zero_mod]

/-- The chip on which the confirmation of a request waits for the store. -/
def confirmationWaits (q : Req) (c : Chip) : Chip := modSafe (fun s => { s with confirming := some ⟨0x32, q.tag.toNat⟩ }) c

section
variable {q : Req} {c : Chip} (hl : q.len = 1) (hh : q.hdr = 0)
include hl hh

theorem safeConfirm_standby (hm : c.mode = .standby) : safeConfirm q c = ([0x420], c) := by
  simp only [safeConfirm, hl, hh, configRefusal_standby hm, orRefuse, refuse, ne_eq, not_true, if_false]

theorem safeConfirm_sealed (hm : c.mode = .config) (ho : sealOpened c false = false) : safeConfirm q c = ([0x0D000015], c) := by
  simp only [safeConfirm, hl, hh, configRefusal_config hm, ho, orRefuse, refuse, ne_eq, not_true, Bool.not_false, if_false, if_true]
  rfl

theorem safeConfirm_accepted (hm : c.mode = .config) (ho : sealOpened c false = true) (hv : (q.word 0).toNat = checkValue (slImage c))
    (hn : c.safe.confirming = none) (hset : (checkSafetySet c).isEmpty = true) (hp : wantsPassword c = false) (hs : canStore c = true) :
    safeConfirm q c = ([1], enqueueJob .confirm (confirmationWaits q c)) := by
  have hwaits : canStore (modSafe (fun s => { s with confirming := some (pendOf 0x32 q) }) c) = true := hs
  simp only [safeConfirm, hl, hh, configRefusal_config hm, ho, field_of_checkValue hv, hv, hn, hset, hp, hwaits, orRefuse, ne_eq, not_true, and_false,
    Bool.not_true, Bool.false_and, Bool.or_self, Option.isSome_none, Bool.false_eq_true, if_false, if_true]
  rfl

end

/-- Settles O25: each request passes its checks one by one, and what it then leaves stands last in the update of DEV.SEAL and of the events. -/
theorem sealsAndTheSafetySetConfirmation : Obligations.SealsAndTheSafetySetConfirmation := by
  unfold Obligations.SealsAndTheSafetySetConfirmation
  refine ⟨fun s q h hh hl hw hz hm hmtr hsin hlock hs hq hr => ?_, fun s q h hh hl hw hz hm hmtr hsin hlock hs hq hr => ?_,
    fun detail c => ⟨openSeal_opened false detail c, openSeal_evSealChg false detail c⟩,
    fun detail c => wrongCredential_sealOpened false detail c false, fun s q h hh hl hb => ?_, fun c ho => closeSeal_closes 4 ho,
    fun mtr e c ho => closeSeal_of_closed e ho, fun s q h hl hh hm ho hv hn hset hp hs => ⟨confirmationWaits q (heard 0x32 s.chip), ?_, rfl, ?_⟩,
    fun s q h hl hh hm ho => ?_, fun s q h hl hh hm => ?_⟩
  · rw [exec_sealOpen_sin h hh hl hw hz hm hmtr hsin hlock hs hq, if_pos hr]
  · rw [exec_sealOpen_sin h hh hl hw hz hm hmtr hsin hlock hs hq, if_neg (by simp [hr])]
  · rw [exec_sealClose_of_serves h, sealCloseOp_sin hh hl (by simpa using hb)]
  · rw [exec_safeParamConfirm_of_serves h, safeConfirm_accepted hl hh (by simpa using hm) (by simpa using ho) hv (by simpa using hn) hset hp
      (by simpa using hs)]
  · exact sameWords_heard 0x32 s.chip
  · rw [exec_safeParamConfirm_of_serves h, safeConfirm_sealed hl hh (by simpa using hm) (by simpa using ho)]
  · rw [exec_safeParamConfirm_of_serves h, safeConfirm_standby hl hh (by simpa using hm)]

end Sys2Proof.Machine
end

section
/-! SUPPORT. The proofs of the chapter on clocks and reset (04_clocks_and_reset): reset sources, the way out of RESET and BOOT, and the events of the clocks. -/

namespace Sys2Proof.Machine

/-! ### Operations on the clocks alone -/

/-- The chip d is c but for its words, its clock state and the triggers raised. -/
def clockOnly (c d : Chip) : Prop := ∃ (r : Mem) (k : Clk) (n : List Notice), d = { c with regs := r, clk := k, notices := n }

theorem clockOnly.trans {c d e : Chip} (h : clockOnly c d) (g : clockOnly d e) : clockOnly c e := by
  obtain ⟨_, _, _, rfl⟩ := h
  obtain ⟨r, k, n, rfl⟩ := g
  exact ⟨r, k, n, rfl⟩

theorem clockOnly.keeps {α : Type} {c d : Chip} (h : clockOnly c d) {p : Chip → α}
    (hp : ∀ (c : Chip) (r : Mem) (k : Clk) (n : List Notice), p { c with regs := r, clk := k, notices := n } = p c) : p d = p c := by
  obtain ⟨r, k, n, rfl⟩ := h
  exact hp c r k n

theorem clockOnly_showRate (c : Chip) : clockOnly c (showRate c) := by
  unfold showRate
  split <;> exact ⟨_, _, _, rfl⟩

theorem clockOnly_takeRate (c : Chip) : clockOnly c (takeRate c) := clockOnly.trans ⟨_, _, _, rfl⟩ (clockOnly_showRate _)

theorem clockOnly_showKept (old c : Chip) : clockOnly c (showKept old c) := by
  simp only [showKept]
  split
  · exact ⟨_, _, _, rfl⟩
  · exact clockOnly.trans ⟨_, _, _, rfl⟩ (clockOnly_takeRate _)

theorem clockOnly_startSwitch (hclk : Bool) (c : Chip) : clockOnly c (startSwitch hclk c) := ⟨_, _, _, rfl⟩

/-- What the choice of the reference can do (R117, R119, R122, R124): nothing, feed REFCLK, start a switch, stop feeding it, or ask for clock hold. -/
theorem chooseRef_cases (c : Chip) :
    chooseRef c = c ∨ (∃ r : Bool, chooseRef c = (modClk (fun k => { k with refFed := true }) c).setb F.CLK_STAT_REFACT r) ∨
      (∃ r : Bool, chooseRef c = startSwitch r c) ∨
      chooseRef c = modClk (fun k => { k with refFed := false, switchTo := none, switchForced := false }) c ∨
      ∃ n : Notice, chooseRef c = c.notice n := by
  simp only [chooseRef]
  split
  next r _ =>
    split
    · exact .inr (.inl ⟨r, rfl⟩)
    · split
      · split
        · exact .inl rfl
        · exact .inr (.inr (.inl ⟨r, rfl⟩))
      · split
        · exact .inl rfl
        · exact .inr (.inr (.inl ⟨r, rfl⟩))
  next =>
    split
    · exact .inl rfl
    · split
      · exact .inr (.inr (.inr (.inl rfl)))
      · exact .inr (.inr (.inr (.inr ⟨_, rfl⟩)))

theorem clockOnly_chooseRef (c : Chip) : clockOnly c (chooseRef c) := by
  obtain h | ⟨r, h⟩ | ⟨r, h⟩ | h | ⟨n, h⟩ := chooseRef_cases c <;> rw [h]
  · exact ⟨_, _, _, rfl⟩
  · exact ⟨_, _, _, rfl⟩
  · exact clockOnly_startSwitch r c
  · exact ⟨_, _, _, rfl⟩
  · exact ⟨_, _, _, rfl⟩

/-! ### What a reset of the main domain clears (R126, R127) -/

/-- The lane memories, ZMEM, the replay cache and the axes. -/
def clearedView (c : Chip) : Mem × Mem × List CacheEntry × List AxisSeq := (c.lanes, c.zmem, c.link.cache, c.axes)

theorem clearedView_mainReset (c : Chip) : clearedView (mainReset c) = ([], [], [], List.replicate 4 {}) := by
  simp only [mainReset]
  rw [(clockOnly_chooseRef _).keeps (p := clearedView) (fun _ _ _ _ => rfl), (clockOnly_showKept _ _).keeps (p := clearedView) (fun _ _ _ _ => rfl)]
  rfl

/-- Rind's reset touches none of the main domain's memories. -/
theorem clearedView_rindReset (c : Chip) : clearedView (rindReset c) = clearedView c := rfl

theorem clearedView_applyReset (c : Chip) : clearedView (applyReset c) = ([], [], [], List.replicate 4 {}) := by
  simp only [applyReset]
  split
  · rw [clearedView_rindReset]; exact clearedView_mainReset c
  · exact clearedView_mainReset c

theorem clearedView_resetSource (p : Nat) (lasting : Bool) (c : Chip) :
    clearedView (resetSource p lasting c) = ([], [], [], List.replicate 4 {}) := clearedView_applyReset _

/-! ### Reset sources (R126) -/

theorem levelSource_of_new {p : Nat} {c : Chip} (h : c.clk.active.getLsbD p = false) : levelSource p true c = resetSource p true c := by
  simp [levelSource, h]

theorem levelSource_of_active {p : Nat} {c : Chip} (h : c.clk.active.getLsbD p = true) : levelSource p true c = c := by
  simp [levelSource, h]

theorem vsafeMonitor_of_new {c : Chip} (h : c.clk.active.getLsbD 1 = false) :
    vsafeMonitor true c = resetSource 1 true (modClk (fun k => { k with vsafeLow := true }) c) := levelSource_of_new h

theorem vcoreMonitor_of_new {c : Chip} (h : c.clk.active.getLsbD 2 = false) :
    vcoreMonitor true c = resetSource 2 true (modClk (fun k => { k with vcoreLow := true }) c) := levelSource_of_new h

theorem releaseSource_active {p : Nat} (c : Chip) (h : p < 8) : (releaseSource p c).clk.active.getLsbD p = false := by
  simp only [releaseSource]
  split <;> simp [modClk, h]

theorem exec_vsafeMonitor (low : Bool) (s : State) : exec (.vsafeMonitor low) s = .next (s.acted (vsafeMonitor low s.chip)) := rfl
theorem exec_vcoreMonitor (low : Bool) (s : State) : exec (.vcoreMonitor low) s = .next (s.acted (vcoreMonitor low s.chip)) := rfl
theorem exec_porstN (low : Bool) (s : State) : exec (.porstN low) s = .next (s.acted (levelSource 3 low s.chip)) := rfl
theorem exec_hrstN (low : Bool) (s : State) : exec (.hrstN low) s = .next (s.acted (levelSource 5 low s.chip)) := rfl

theorem powerOn_mode (c : Chip) : (powerOn c).mode = .reset := by
  simp only [powerOn, Chip.mode, Chip.get_set_ne _ _ _ _ (by decide : F.DEV_MODE_MODE.addr ≠ F.CLK_TRIM_CODE.addr ∨ _)]
  exact reset_mode

/-- Settles O30: each source is its reset or its release; a reset keeps of the main domain neither mode nor memories, link and axes. -/
theorem resetSourcesReset : Obligations.ResetSourcesReset := by
  unfold Obligations.ResetSourcesReset
  refine ⟨fun s => ⟨rfl, powerOn_mode s.chip, rfl, rfl, rfl⟩, fun s h => ?_, fun s h => ?_, fun s h => ?_, fun s h => ?_, fun s => rfl,
    fun p lasting c => ?_, fun s => rfl, fun s => rfl, fun s h => ?_, fun s h => ?_,
    fun s => ⟨rfl, releaseSource_active s.chip (by decide)⟩, fun s => ⟨rfl, releaseSource_active s.chip (by decide)⟩⟩
  · rw [exec_vsafeMonitor, vsafeMonitor_of_new h]
  · rw [exec_vcoreMonitor, vcoreMonitor_of_new h]
  · rw [exec_porstN, levelSource_of_new h]
  · rw [exec_hrstN, levelSource_of_new h]
  · obtain ⟨hl, hz, hk, ha⟩ : _ ∧ _ ∧ _ ∧ _ := by simpa only [clearedView, Prod.mk.injEq] using clearedView_resetSource p lasting c
    exact ⟨resetSource_mode p lasting c, hl, hz, hk, ha⟩
  · rw [exec_porstN, levelSource_of_active h]
  · rw [exec_hrstN, levelSource_of_active h]

/-! ### The way out of RESET, of clock hold and of BOOT (R124, R129, R660) -/

theorem exec_resetRelease (b : Bool) (s : State) : exec (.resetRelease b) s = .next (s.acted (resetRelease b s.chip)) := rfl
theorem exec_clockHoldEnd (w : Nat) (b : Bool) (s : State) : exec (.clockHoldEnd w b) s = .next (s.acted (clockHoldEnd w b s.chip)) := rfl
theorem exec_bootComplete (s : State) : exec .bootComplete s = .next (s.acted (bootComplete s.chip)) := rfl

theorem releaseSource_rd (p : Nat) (c : Chip) (a : Nat) : (releaseSource p c).rd a = c.rd a := by
  simp only [releaseSource]
  split <;> rfl

theorem releaseSource_get (p : Nat) (c : Chip) (f : Fld) : (releaseSource p c).get f = c.get f := by
  rw [Chip.get, releaseSource_rd, Chip.get]

theorem releaseSource_hold (p : Nat) (c : Chip) : (releaseSource p c).clk.hold = c.clk.hold := by
  simp only [releaseSource]
  split <;> rfl

theorem endHold_hold (w : Nat) (c : Chip) : (endHold w c).clk.hold = false := by
  rw [endHold, releaseSource_hold]; rfl

theorem endHold_new (w : Nat) (c : Chip) : (endHold w c).is F.CLK_HOLD_NEW = true := by
  rw [endHold, Chip.is, releaseSource_get, modClk_get]
  exact Chip.is_raise_same _ _ rfl (by decide)

theorem endHold_dur (w : Nat) (c : Chip) : (endHold w c).get F.CLK_HOLD_DUR = min 0xFFFF w := by
  rw [endHold, releaseSource_get, modClk_get, Chip.get_raise_ne _ _ _ (by decide), Chip.get_set_same _ _ _ (by decide)]
  exact Nat.mod_eq_of_lt (by simp [F.CLK_HOLD_DUR])

theorem evBootDone_is (c : Chip) : c.evBootDone.is F.DEV_EVT0_BOOT_DONE = true := beq_iff_eq.mpr (Chip.evt_field c 0 8 (by decide))

theorem evClk_keeps_bootDone {c : Chip} (h : c.is F.DEV_EVT0_BOOT_DONE = true) : c.evClk.is F.DEV_EVT0_BOOT_DONE = true :=
  beq_iff_eq.mpr (Chip.evt_evt_field c 0 0 8 7 (beq_iff_eq.mp h) (by decide))

/-- The last things that BOOT_COMPLETE does: it sets BOOT_DONE, and after a clock hold CLK_EVT. -/
theorem bootComplete_ends {c : Chip} (h : bootMayEnd c = true) :
    ∃ d : Chip, bootComplete c = d.evBootDone ∨ bootComplete c = d.evBootDone.evClk := by
  rw [bootComplete, if_pos h]
  extract_lets _ _ _ checked ended
  refine ⟨bootExit checked, ?_⟩
  split
  · exact .inr rfl
  · exact .inl rfl

theorem bootComplete_bootDone {c : Chip} (h : bootMayEnd c = true) : (bootComplete c).is F.DEV_EVT0_BOOT_DONE = true := by
  obtain ⟨d, hd | hd⟩ := bootComplete_ends h <;> rw [hd]
  · exact evBootDone_is d
  · exact evClk_keeps_bootDone (evBootDone_is d)

theorem bootExit_of_latch {c : Chip} (h : c.rind.latch = true) : bootExit c = enterMode .latched c.rind.latchCause c := if_pos h

/-- Settles O31: each event of the way out is guarded by one condition, and the exit from BOOT is decided case by case. -/
theorem resetEndsInBootAndBootEnds : Obligations.ResetEndsInBootAndBootEnds := by
  unfold Obligations.ResetEndsInBootAndBootEnds
  refine ⟨fun s b h => ?_, fun s b h => ?_, fun s w b h => ⟨?_, endHold_hold w s.chip, endHold_new w s.chip, endHold_dur w s.chip⟩,
    fun s h => ⟨exec_bootComplete s, bootComplete_bootDone h⟩, fun c h => bootExit_of_latch h, fun c hl hb => ?_,
    fun c hl hb hi hk hs hc hf => ?_⟩
  · rw [exec_resetRelease, resetRelease, if_pos h]
  · rw [exec_resetRelease, resetRelease, h, if_neg Bool.false_ne_true]
  · rw [exec_clockHoldEnd, clockHoldEnd, if_pos h]
  · simp [bootExit, hl, hb]
  · simp [bootExit, hl, hb, hi, hk, hs, hc, hf]

/-! ### Reference sources (R111 to R122) -/

/-- The choice of the reference shows in REFACT, SWBUSY, PLLALK and PLLBLK of CLK.STAT, and in no other field. -/
theorem chooseRef_get (c : Chip) {f : Fld} (h : f.addr ≠ 0x10001 ∨ 12 ≤ f.lo ∨ f.lo + f.width ≤ 8) : (chooseRef c).get f = c.get f := by
  have hset (g : Fld) (hg : g.addr = 0x10001 ∧ 8 ≤ g.lo ∧ g.lo + g.width ≤ 12) (v : Nat) (c : Chip) : (c.set g v).get f = c.get f :=
    Chip.get_set_ne c g f v (by omega)
  obtain h | ⟨r, h⟩ | ⟨r, h⟩ | h | ⟨n, h⟩ := chooseRef_cases c <;> rw [h]
  · exact hset _ (by decide) _ _
  · exact ((hset F.CLK_STAT_PLLBLK (by decide) 0 _).trans (hset F.CLK_STAT_PLLALK (by decide) 0 _)).trans (hset F.CLK_STAT_SWBUSY (by decide) 1 _)
  · rfl
  · rfl

theorem chooseRef_is (c : Chip) {f : Fld} (h : f.addr ≠ 0x10001 ∨ 12 ≤ f.lo ∨ f.lo + f.width ≤ 8) : (chooseRef c).is f = c.is f := by
  rw [Chip.is, chooseRef_get c h, Chip.is]

theorem chooseRef_hkhzTaken (c : Chip) : (chooseRef c).clk.hkhzTaken = c.clk.hkhzTaken := by
  obtain h | ⟨r, h⟩ | ⟨r, h⟩ | h | ⟨n, h⟩ := chooseRef_cases c <;> rw [h] <;> rfl

/-- The trim source shows in TRIMSRC and HOLDOVER, and in no other field. -/
theorem chooseTrim_get (c : Chip) {f : Fld} (h : f.addr ≠ 0x10001 ∨ f.lo + f.width ≤ 13) : (chooseTrim c).get f = c.get f := by
  rw [chooseTrim, Chip.get_setb_ne _ _ _ _ (by simp only [F.CLK_STAT_HOLDOVER]; omega),
    Chip.get_set_ne _ _ _ _ (by simp only [F.CLK_STAT_TRIMSRC]; omega)]

theorem chooseTrim_is (c : Chip) {f : Fld} (h : f.addr ≠ 0x10001 ∨ f.lo + f.width ≤ 13) : (chooseTrim c).is f = c.is f := by
  rw [Chip.is, chooseTrim_get c h, Chip.is]

/-- The frequency taken shows in HSTD and HDIV: HRDY stays. -/
theorem showRate_hrdy (c : Chip) : (showRate c).is F.CLK_STAT_HRDY = c.is F.CLK_STAT_HRDY := by
  unfold showRate Chip.is
  split
  · rw [Chip.get_set_ne _ _ _ _ (by decide), Chip.get_raise_ne _ _ _ (by decide)]
  · rw [Chip.get_setb_ne _ _ _ _ (by decide)]

theorem showRate_clk (c : Chip) : (showRate c).clk = c.clk := by
  unfold showRate
  split <;> rfl

theorem sourceReady_hclk {c : Chip} {khz t : Nat} (h : hclkTaken c khz = some t) :
    sourceReady true khz c =
      chooseRef (chooseTrim (showRate ((modClk (fun k => { k with hkhzTaken := t, hMeas := khz }) c).raise F.CLK_STAT_HRDY))) := by
  simp only [sourceReady, h, if_true]; rfl

theorem sourceReady_hclk_hrdy {c : Chip} {khz t : Nat} (h : hclkTaken c khz = some t) : (sourceReady true khz c).is F.CLK_STAT_HRDY = true := by
  rw [sourceReady_hclk h, chooseRef_is _ (by decide), chooseTrim_is _ (by decide), showRate_hrdy]
  exact Chip.is_raise_same _ _ rfl (by decide)

theorem sourceReady_hclk_taken {c : Chip} {khz t : Nat} (h : hclkTaken c khz = some t) : (sourceReady true khz c).clk.hkhzTaken = t := by
  rw [sourceReady_hclk h, chooseRef_hkhzTaken, chooseTrim, Chip.setb_clk, Chip.set_clk, showRate_clk]; rfl

/-- 14 % about 200 MHz (R111). -/
theorem withinPct_rosc {khz : Nat} (hlo : 172000 ≤ khz) (hhi : khz ≤ 228000) : withinPct 14 khz 200000 = true := by
  simp only [withinPct, Bool.and_eq_true, decide_eq_true_eq]; omega

theorem sourceReady_rosc {c : Chip} {khz : Nat} (hr : c.clk.roscRunning = true) (hw : withinPct 14 khz 200000 = true) :
    sourceReady false khz c = chooseRef (c.raise F.CLK_STAT_RRDY) := by
  simp only [sourceReady, hr, hw, Bool.false_eq_true, Bool.and_self, if_false, if_true]

theorem sourceLost_hclk {c : Chip} (h : c.is F.CLK_STAT_HRDY = true) :
    sourceLost true c = chooseRef (chooseTrim ((c.setb F.CLK_STAT_HRDY false).raise F.CLK_SWSTAT_HLOSS)) := by
  simp only [sourceLost, h, if_true]

theorem sourceLost_rosc {c : Chip} (h : c.is F.CLK_STAT_RRDY = true) :
    sourceLost false c = chooseRef (chooseTrim ((c.setb F.CLK_STAT_RRDY false).raise F.CLK_SWSTAT_RLOSS)) := by
  simp only [sourceLost, h, Bool.false_eq_true, if_false, if_true]

/-- A source that is lost: its flag of CLK.STAT falls and its flag of CLK.SWSTAT is set, whatever the choice of the reference then does. -/
theorem lost_flags (c : Chip) {ready loss : Fld} (hr : ready.addr = 0x10001 ∧ ready.width = 1 ∧ ready.lo + ready.width ≤ 8)
    (hl : loss.addr = 0x10003 ∧ loss.width = 1 ∧ loss.lo + loss.width ≤ 48) :
    (chooseRef (chooseTrim ((c.setb ready false).raise loss))).is ready = false ∧
      (chooseRef (chooseTrim ((c.setb ready false).raise loss))).is loss = true := by
  constructor
  · rw [chooseRef_is _ (by omega), chooseTrim_is _ (by omega), Chip.is, Chip.get_raise_ne _ _ _ (by omega)]
    exact Chip.is_setb_same _ _ _ hr.2.1 (by omega)
  · rw [chooseRef_is _ (by omega), chooseTrim_is _ (by omega)]
    exact Chip.is_raise_same _ _ hl.2.1 hl.2.2

section
variable {c : Chip} (hs : c.clk.switchTo.isSome = true) (hf : c.clk.switchForced = false)
include hs hf

theorem forcedSwitch_of_usable (hu : (refUsable c true || refUsable c false) = true) :
    forcedSwitch c = countSwitch ((modClk (fun k => { k with switchForced := true, gated := true, gateHeld := List.replicate 7 true }) c).raise
      F.CLK_SWSTAT_CLKSW_FORCED) := by
  simp only [forcedSwitch, hs, hf, hu, Bool.not_false, Bool.and_self, if_true]; rfl

theorem forcedSwitch_of_none (hu : (refUsable c true || refUsable c false) = false) : forcedSwitch c = c.notice (.clockHold 3) := by
  simp only [forcedSwitch, hs, hf, hu, Bool.not_false, Bool.and_self, Bool.false_eq_true, if_true, if_false]

end

theorem countSwitch_is {f : Fld} (c : Chip) (h : f.addr ≠ 0x10 ∧ (f.addr ≠ 0x10003 ∨ f.lo + f.width ≤ 8)) : (countSwitch c).is f = c.is f := by
  rw [Chip.is, countSwitch, Chip.evClk, Chip.get_evt_ne _ _ _ _ h.1,
    Chip.get_countSat_ne _ _ _ _ (by simp only [F.CLK_SWSTAT_SWCNT]; omega), Chip.is]

theorem evClk_is (c : Chip) : c.evClk.is F.DEV_EVT0_CLK_EVT = true := beq_iff_eq.mpr (Chip.evt_field c 0 7 (by decide))

/-! ### PLL locks (R113, R121, R122) -/

/-- The lock flag of a PLL: true for PLLB. -/
def lockFld (b : Bool) : Fld := if b then F.CLK_STAT_PLLBLK else F.CLK_STAT_PLLALK

theorem lockFld_addr (b : Bool) : (lockFld b).addr = 0x10001 := by cases b <;> rfl

theorem lockFld_width (b : Bool) : (lockFld b).width = 1 := by cases b <;> rfl

theorem lockFld_bounds (b : Bool) : (lockFld b).lo + (lockFld b).width ≤ 48 := by cases b <;> decide

theorem endSwitch_of_no_switch {c : Chip} (h : c.clk.switchTo = none) : endSwitch c = c := by
  simp only [endSwitch, h]

theorem pllLock_outside_switch {c : Chip} (b : Bool) (hr : c.clk.refFed = true) (hs : c.clk.switchTo = none) :
    pllLock b c = c.raise (lockFld b) :=
  (if_pos hr).trans (endSwitch_of_no_switch hs)

theorem pllLockLoss_outside_switch {c : Chip} {b : Bool} (hl : c.is (lockFld b) = true) (hh : c.clk.hold = false) (hs : c.clk.switchTo = none) :
    pllLockLoss b c = (c.setb (lockFld b) false).notice (.clockHold (pllCause b)) := by
  rw [pllLockLoss, ← lockFld, if_pos hl]
  exact if_neg (by simp [hh, hs])

theorem pllLockTimeout_in_switch {c : Chip} (hs : c.clk.switchTo.isSome = true) (hl : pllsLocked c = false) :
    pllLockTimeout c = c.notice (.clockHold (pllCause (c.is F.CLK_STAT_PLLALK))) := by
  simp only [pllLockTimeout, hs, hl, Bool.not_false, Bool.and_self, if_true]

/-! ### The trim of ROSC (R115) -/

theorem trimSource_le (c : Chip) : trimSource c ≤ 2 := by
  unfold trimSource
  split_ifs
  · omega
  · split
    · split_ifs <;> omega
    · omega
  · omega

theorem roundDiv_zero {b : Nat} (h : 0 < b) : roundDiv 0 b = 0 := by
  rw [roundDiv, if_pos le_rfl]
  exact Int.ediv_eq_zero_of_lt (by omega) (by omega)

theorem clampInt_of_mem {lo hi z : Int} (hlo : lo ≤ z) (hhi : z ≤ hi) : clampInt lo hi z = z := by
  rw [clampInt, if_neg (by omega), if_neg (by omega)]

/-- The time over which a measurement counts (R115): 256 µs of HCLK, else the time between the frame pairs. -/
def gateTime (c : Chip) (gate : Nat) : Nat := if trimSource c = 1 then 256000 else gate

/-- The deviation of the count from the nominal one over a gate time, in millionths of the latter times 200 (R115). -/
def trimDeviation (counted g : Nat) : Int := (((1000 * counted : Nat) : Int) - ((200 * g : Nat) : Int)) * 1000000

/-- The largest step of the trim code (R115). -/
def trimStep (c : Chip) : Int := if !c.is F.CLK_STAT_TRIMOK then 256 else if trimSource c = 1 then 16 else 4

/-- CLK.TRIM after a measurement (R115). -/
def trimmed (step : Int) (counted g : Nat) (c : Chip) : Chip :=
  (c.set F.CLK_TRIM_CODE
    (clampInt 0 4095 ((c.get F.CLK_TRIM_CODE : Nat) - clampInt (-step) step (roundDiv (trimDeviation counted g) (200 * g * 200)))).toNat).seti
    F.CLK_TRIM_ERR (clampInt (-32768) 32767 (roundDiv (trimDeviation counted g) (200 * g)))

/-- What a measurement does once it has written CLK.TRIM (R115): the error judges TRIMOK, and the trim source is chosen anew. -/
def judgeTrim (dev : Int) (g : Nat) (c : Chip) : Chip :=
  let mag := if dev < 0 then -dev else dev
  let good := if mag ≤ 500 * ((200 * g : Nat) : Int) then c.clk.trimGood + 1 else 0
  let c := modClk (fun k => { k with trimGood := good }) c
  let c := if 8 ≤ good then c.raise F.CLK_STAT_TRIMOK else c
  chooseTrim (if 1000 * ((200 * g : Nat) : Int) < mag then c.setb F.CLK_STAT_TRIMOK false else c)

theorem judgeTrim_get {f : Fld} (dev : Int) (g : Nat) (c : Chip) (h : f.addr ≠ 0x10001) : (judgeTrim dev g c).get f = c.get f := by
  simp only [judgeTrim, chooseTrim_get _ (.inl h), apply_ite (Chip.get · f), Chip.get_setb_ne _ F.CLK_STAT_TRIMOK f _ (.inl h),
    Chip.get_raise_ne _ F.CLK_STAT_TRIMOK f (.inl h), modClk_get, ite_self]

theorem chooseTrim_trimsrc_eq (c : Chip) : (chooseTrim c).get F.CLK_STAT_TRIMSRC = trimSource c := by
  rw [chooseTrim_trimsrc]; exact Nat.mod_eq_of_lt (by have := trimSource_le c; omega)

/-- A measurement with a trim source and a gate time that is long enough (R115). -/
theorem trimMeasurement_of_long {c : Chip} {gate : Nat} (counted : Nat)
    (h : ¬(trimSource c = 0 ∨ gateTime c gate < 256000 ∨ (trimSource c = 2 ∧ gateTime c gate < 10000000))) :
    trimMeasurement counted gate c =
      judgeTrim (trimDeviation counted (gateTime c gate)) (gateTime c gate) (trimmed (trimStep c) counted (gateTime c gate) (chooseTrim c)) := by
  have hok : (chooseTrim c).is F.CLK_STAT_TRIMOK = c.is F.CLK_STAT_TRIMOK := chooseTrim_is c (by decide)
  simp only [trimMeasurement, chooseTrim_trimsrc_eq, hok]
  exact if_neg h

/-- A count without error leaves the trim code, and error 0 (R115). -/
theorem trimmed_of_nominal {step : Int} {counted g : Nat} {c : Chip} (hs : 0 ≤ step) (hg : 0 < g) (h : 1000 * counted = 200 * g) :
    trimmed step counted g c = (c.set F.CLK_TRIM_CODE (c.get F.CLK_TRIM_CODE)).seti F.CLK_TRIM_ERR 0 := by
  have hdev : trimDeviation counted g = 0 := by rw [trimDeviation, h, sub_self, zero_mul]
  have hcode : (c.get F.CLK_TRIM_CODE : Int) ≤ 4095 := by
    have : c.get F.CLK_TRIM_CODE < 2 ^ 12 := Word.field_lt _ _ _
    omega
  rw [trimmed, hdev, roundDiv_zero (by omega), roundDiv_zero (by omega), clampInt_of_mem (z := 0) (by omega) hs, sub_zero,
    clampInt_of_mem (by omega) hcode, clampInt_of_mem (z := 0) (by decide) (by decide), Int.toNat_natCast]

section
variable {c : Chip} {counted gate : Nat} (hg : 10000000 ≤ gate) (hs : trimSource c ≠ 0) (hn : 1000 * counted = 200 * gateTime c gate)
include hg hs hn

/-- A measurement without error writes CLK.TRIM as it stands, with error 0. -/
theorem trimMeasurement_of_nominal :
    trimMeasurement counted gate c =
      judgeTrim (trimDeviation counted (gateTime c gate)) (gateTime c gate)
        (((chooseTrim c).set F.CLK_TRIM_CODE (c.get F.CLK_TRIM_CODE)).seti F.CLK_TRIM_ERR 0) := by
  have hlong : 256000 ≤ gateTime c gate ∧ (trimSource c = 2 → 10000000 ≤ gateTime c gate) := by
    unfold gateTime; split_ifs <;> omega
  have hstep : 0 ≤ trimStep c := by unfold trimStep; split_ifs <;> decide
  rw [trimMeasurement_of_long counted (by omega), trimmed_of_nominal hstep (by omega) hn, chooseTrim_get c (by decide)]

theorem trimMeasurement_code : (trimMeasurement counted gate c).get F.CLK_TRIM_CODE = c.get F.CLK_TRIM_CODE := by
  rw [trimMeasurement_of_nominal hg hs hn, judgeTrim_get _ _ _ (by decide), Chip.get_seti_ne _ _ _ _ (by decide), Chip.get_set_same _ _ _ (by decide)]
  exact Nat.mod_eq_of_lt (Word.field_lt _ _ _)

theorem trimMeasurement_err : (trimMeasurement counted gate c).geti F.CLK_TRIM_ERR = 0 := by
  rw [Chip.geti, trimMeasurement_of_nominal hg hs hn, judgeTrim_get _ _ _ (by decide), Chip.seti, Chip.get_set_same _ _ _ (by decide)]
  rfl

end

/-! ### SOSC (R110) -/

theorem internalFault_of_new {k : Nat} {c : Chip} (h : (c.rd 0xC0002).field k 1 ≠ 1) :
    internalFault k c = (setRindLatch .internal (c.wr 0xC0002 ((c.rd 0xC0002).setField k 1 1)).evRindDiag).notice (.latch .internal) := by
  simp only [internalFault, beq_iff_eq, h, if_false]

theorem setRindLatch_latch (cause : Cause) (c : Chip) : (setRindLatch cause c).rind.latch = true := by
  simp only [setRindLatch, modRind]
  split
  next h => exact h
  next => rfl

theorem setRindLatch_rd {a : Nat} (cause : Cause) (c : Chip) (h : a ≠ 8) : (setRindLatch cause c).rd a = c.rd a := by
  rw [setRindLatch, modRind_rd, Chip.rd_raise_ne _ _ h]

section
variable {k : Nat} {c : Chip} (h : (c.rd 0xC0002).field k 1 ≠ 1)
include h

theorem internalFault_diag (hk : k < 48) : ((internalFault k c).rd 0xC0002).field k 1 = 1 := by
  rw [internalFault_of_new h, notice_rd, setRindLatch_rd _ _ (by decide), Chip.evRindDiag, Chip.rd_evt_ne _ _ _ (by decide), Chip.rd_wr_same,
    Word.field_setField_same _ _ _ _ (by omega)]
  rfl

theorem internalFault_latch : (internalFault k c).rind.latch = true := by
  rw [internalFault_of_new h, Chip.notice_rind, setRindLatch_latch]

theorem internalFault_notices : (internalFault k c).notices = c.notices ++ [.latch .internal] := by
  rw [internalFault_of_new h]; rfl

theorem internalFault_rd {a : Nat} (ha : a ≠ 0xC0002 ∧ a ≠ 8 ∧ a ≠ 0x11) : (internalFault k c).rd a = c.rd a := by
  obtain ⟨hd, hm, he⟩ := ha
  rw [internalFault_of_new h, notice_rd, setRindLatch_rd _ _ hm, Chip.evRindDiag, Chip.rd_evt_ne _ _ _ he, Chip.rd_wr_ne _ _ hd]

end

/-- SOSC_FAULT is the internal fault 3 of a chip whose SRDY reads 0. -/
theorem soscFault_effect {c : Chip} (h : (c.rd 0xC0002).field 3 1 ≠ 1) :
    ((soscFault c).rd 0xC0002).field 3 1 = 1 ∧ (soscFault c).rind.latch = true ∧
      (soscFault c).notices = c.notices ++ [.latch .internal] ∧ (soscFault c).is F.CLK_STAT_SRDY = false := by
  have hd : ((c.setb F.CLK_STAT_SRDY false).rd 0xC0002).field 3 1 ≠ 1 := by rwa [Chip.rd_setb_ne _ _ _ (by decide)]
  refine ⟨internalFault_diag hd (by decide), internalFault_latch hd, internalFault_notices hd, ?_⟩
  rw [soscFault, Chip.is, Chip.get, internalFault_rd hd (by decide)]
  exact Chip.is_setb_same c F.CLK_STAT_SRDY false rfl (by decide)

/-- A capture writes the words of the capture units only. -/
theorem captureUnit_rd {a : Nat} (src : Nat) (r : Bool) (n : Nat) (c : Chip) (h : a < 0x20040) : (captureUnit src r n c).rd a = c.rd a := by
  have hctl (lo : Nat) (c : Chip) : (c.raise ⟨0x20040 + 2 * n, lo, 1⟩).rd a = c.rd a := Chip.rd_raise_ne c _ (by simp only; omega)
  have hheld (keep : Bool) (c : Chip) : (if keep then c else (c.wr (F.NWT_NCAPn_VAL n) c.now).raise (F.NWT_NCAPn_CTL_VALID n)).rd a = c.rd a := by
    split
    · rfl
    · exact (hctl 13 _).trans (Chip.rd_wr_ne c _ (by simp only [F.NWT_NCAPn_VAL]; omega))
  simp only [captureUnit]
  split
  · split
    · exact (hheld _ _).trans (hctl 14 c)
    · exact hheld _ c
  · rfl

theorem captureAt_rd {a : Nat} (src : Nat) (r : Bool) (c : Chip) (h : a < 0x20040) : (c.captureAt src r).rd a = c.rd a :=
  Chip.forN_keeps (Chip.rd · a) (fun n c => captureUnit_rd src r n c h) 16 c

theorem captureUnit_clk (src : Nat) (r : Bool) (n : Nat) (c : Chip) : (captureUnit src r n c).clk = c.clk := by
  simp only [captureUnit]
  split_ifs <;> rfl

theorem captureAt_clk (src : Nat) (r : Bool) (c : Chip) : (c.captureAt src r).clk = c.clk :=
  Chip.forN_keeps Chip.clk (captureUnit_clk src r) 16 c

theorem stoFall_rd {a : Nat} (c : Chip) (h : a < 0x20040 ∧ a ≠ 0x11) : (stoFall c).rd a = c.rd a := by
  simp only [stoFall]
  split
  · rw [Chip.occur_rd, captureAt_rd _ _ _ h.1, Chip.evStoChg, Chip.rd_evt_ne _ _ _ h.2]; rfl
  · rfl

theorem stoFall_clk (c : Chip) : (stoFall c).clk = c.clk := by
  simp only [stoFall]
  split
  · rw [Chip.occur_clk, captureAt_clk]; rfl
  · rfl

theorem soscStop_effect (c : Chip) :
    (soscStop c).clk.soscStopped = true ∧ (soscStop c).sto.stoa = false ∧ (soscStop c).sto.stob = false ∧
      (soscStop c).is F.CLK_STAT_SRDY = false := by
  refine ⟨?_, ?_, ?_, ?_⟩
  · rw [soscStop, stoFall_clk]; rfl
  · rw [soscStop, stoFall_sto]
  · rw [soscStop, stoFall_sto]
  · rw [soscStop, Chip.is, Chip.get, stoFall_rd _ (by decide)]
    exact Chip.is_setb_same _ F.CLK_STAT_SRDY false rfl (by decide)

/-! ### The pads (R696) -/

/-- The state of a ball above the pad-hold level does not follow the level of VIO. -/
theorem ballState_vioHold (b : Bool) (c : Chip) (p : Ball) : ballState (vioHold b c) p = ballState c p := by
  cases p <;> rfl

theorem pad_vioHold (b : Bool) (c : Chip) (p : Ball) : pad (vioHold b c) p = if b then .undriven else ballState c p := by
  rw [pad, ballState_vioHold]; rfl

theorem pad_above_hold {c : Chip} (p : Ball) (h : c.clk.vioBelow = false) : pad c p = ballState c p := by
  rw [pad, h, if_neg Bool.false_ne_true]

theorem beforeModes_of_reset {c : Chip} (h : c.mode = .reset) : beforeModes c = true := by simp [beforeModes, h]

/-- The balls that R696 holds low, high, released or undriven in RESET. -/
theorem ballState_of_reset {c : Chip} (h : c.mode = .reset) (n g : Nat) (hi b : Bool) :
    ballState c (.pwm n hi) = .low ∧ ballState c (.drven g) = .low ∧ ballState c (.sto b) = .low ∧ ballState c (.sso b) = .low ∧
      ballState c .rstoutN = .low ∧ ballState c .hreqN = .released ∧ ballState c (.puTx g) = .high ∧ ballState c (.puStb g) = .high ∧
      ballState c (.gpio n) = .undriven := by
  obtain ⟨hrst, hreq, -⟩ := balls_of_reset h
  simp [ballState, beforeModes_of_reset h, hrst, hreq, puTxRecessive, puStbHigh, h, Pad.level]

/-! ### The events of the clocks -/

theorem exec_roscStart (s : State) : exec .roscStart s = .next (s.acted (roscStart s.chip)) := rfl
theorem exec_clockSourceReady_hclk (khz : Nat) (s : State) :
    exec (.clockSourceReady .hclk khz) s = .next (s.acted (sourceReady true khz s.chip)) := rfl
theorem exec_clockSourceReady_rosc (khz : Nat) (s : State) :
    exec (.clockSourceReady .rosc khz) s = .next (s.acted (sourceReady false khz s.chip)) := rfl
theorem exec_clockSourceLost_hclk (s : State) : exec (.clockSourceLost .hclk) s = .next (s.acted (sourceLost true s.chip)) := rfl
theorem exec_clockSourceLost_rosc (s : State) : exec (.clockSourceLost .rosc) s = .next (s.acted (sourceLost false s.chip)) := rfl
theorem exec_forcedSwitch (s : State) : exec .forcedSwitch s = .next (s.acted (forcedSwitch s.chip)) := rfl
theorem exec_pllLock (b : Bool) (s : State) : exec (.pllLock b) s = .next (s.acted (pllLock b s.chip)) := rfl
theorem exec_pllLockLoss (b : Bool) (s : State) : exec (.pllLockLoss b) s = .next (s.acted (pllLockLoss b s.chip)) := rfl
theorem exec_pllLockTimeout (s : State) : exec .pllLockTimeout s = .next (s.acted (pllLockTimeout s.chip)) := rfl
theorem exec_trimMeasurement (counted gate : Nat) (s : State) :
    exec (.trimMeasurement counted gate) s = .next (s.acted (trimMeasurement counted gate s.chip)) := rfl
theorem exec_soscFault (s : State) : exec .soscFault s = .next (s.acted (soscFault s.chip)) := rfl
theorem exec_soscStop (s : State) : exec .soscStop s = .next (s.acted (soscStop s.chip)) := rfl
theorem exec_vioPadHold (b : Bool) (s : State) : exec (.vioPadHold b) s = .next (s.still (vioHold b s.chip)) := rfl

theorem roscStart_powered {c : Chip} (h : c.clk.vcoreLow = false) : roscStart c = modClk (fun k => { k with roscRunning := true }) c := by
  rw [roscStart, h, if_neg Bool.false_ne_true]; rfl

/-- Settles O32: each event of the clocks by its one effect; the choice of the reference that follows leaves what the event shows. -/
theorem referenceSourcesLocksTrimAndSosc : Obligations.ReferenceSourcesLocksTrimAndSosc := by
  unfold Obligations.ReferenceSourcesLocksTrimAndSosc
  refine ⟨fun s h => ⟨_, exec_roscStart s, ?_⟩, fun s khz t h => ⟨_, exec_clockSourceReady_hclk khz s, sourceReady_hclk_hrdy h, sourceReady_hclk_taken h⟩,
    fun s khz hr hlo hhi => ⟨_, exec_clockSourceReady_rosc khz s, ?_⟩, fun s h => ⟨_, exec_clockSourceLost_hclk s, ?_⟩,
    fun s h => ⟨_, exec_clockSourceLost_rosc s, ?_⟩, fun s hs hf hu => ⟨_, exec_forcedSwitch s, ?_⟩, fun s hs hf hu => ?_,
    fun s => ⟨_, rfl, rfl, sameBut_refl [] s.chip⟩, fun s b hr hs => ⟨_, exec_pllLock b s, ?_⟩,
    fun s b hl hh hs => ⟨_, exec_pllLockLoss b s, ?_⟩, fun s hs hl => ?_,
    fun s counted gate hg hs hn => ⟨_, exec_trimMeasurement counted gate s, trimMeasurement_code hg hs hn, trimMeasurement_err hg hs hn⟩,
    fun s h => ⟨_, exec_soscFault s, soscFault_effect h⟩, fun s => ⟨_, exec_soscStop s, soscStop_effect s.chip⟩,
    fun s b => ⟨_, exec_vioPadHold b s, rfl, sameBut_refl [] s.chip, pad_vioHold b s.chip⟩, fun c n g hi b hv hm => ?_⟩
  · rw [roscStart_powered h]
    exact ⟨rfl, sameBut_refl [] s.chip⟩
  · rw [sourceReady_rosc hr (withinPct_rosc hlo hhi), chooseRef_is _ (by decide)]
    exact Chip.is_raise_same _ _ rfl (by decide)
  · rw [sourceLost_hclk h]
    exact lost_flags s.chip (by decide) (by decide)
  · rw [sourceLost_rosc h]
    exact lost_flags s.chip (by decide) (by decide)
  · rw [forcedSwitch_of_usable hs hf hu]
    exact ⟨rfl, rfl, (countSwitch_is _ (by decide)).trans (Chip.is_raise_same _ _ rfl (by decide)), evClk_is _⟩
  · rw [exec_forcedSwitch, forcedSwitch_of_none hs hf hu]
  · rw [pllLock_outside_switch b hr hs]
    exact ⟨Chip.is_raise_same _ _ (lockFld_width b) (lockFld_bounds b), sameBut_wr _ (by simp [lockFld_addr, F.CLK_STAT_PLLALK]) (sameBut_refl _ s.chip)⟩
  · rw [pllLockLoss_outside_switch hl hh hs]
    exact ⟨rfl, Chip.is_setb_same _ _ _ (lockFld_width b) (lockFld_bounds b)⟩
  · rw [exec_pllLockTimeout, pllLockTimeout_in_switch hs hl]; rfl
  · simp only [pad_above_hold _ hv]
    exact ballState_of_reset hm n g hi b

end Sys2Proof.Machine
end

section
/-! SUPPORT. The proofs of the network-time chapter (05_network_time): the idle step, and the compare and capture units. -/

namespace Sys2Proof.Machine

/-! ### The idle step (log entries 2 and 7) -/

theorem tickChip_of_stopped {c : Chip} (h : c.mode = .reset ∨ c.clk.gated = true) : tickChip c = { c with up := c.up + 1 } := if_pos h

theorem serveOldest_of_none {c : Chip} (h : c.link.held = []) : serveOldest c = c := by
  rw [serveOldest, h]

theorem serveOldest_of_held {c : Chip} {op : Nat} {q : Req} {l : List (Nat × Req)} (h : c.link.held = (op, q) :: l) :
    serveOldest c = after c (serve op (handlerOf op) q (modLink (fun k => { k with held := l }) c)) := by
  simp only [serveOldest, h]

/-- A request for Cellar that waits is held, behind the ones before it (R56, R57). -/
theorem receiveC_later {op : Nat} {q : Req} {c : Chip} (f : Handler) (h : listening q c = true) (hf : heldFull c = false) (hq : q.later = true) :
    receiveC op f q c = modLink (fun k => { k with held := c.link.held ++ [(op, q)] }) (heard op c) := by
  simp only [receiveC, h, hf, hq, modLink, heard_link, Bool.not_true, Bool.false_eq_true, if_false, if_true]

/-- Settles O2: the idle step by definition, and what Cellar serves by the list of the requests that it holds. -/
theorem idleStepPassesOneCycle : Obligations.IdleStepPassesOneCycle := fun _ hp =>
  ⟨step_of_idle hp, tickChip_of_stopped, fun _ h => serveOldest_of_none h, fun _ _ _ _ h => serveOldest_of_held h,
    fun _ f _ _ h hf hq => receiveC_later f h hf hq⟩

/-! ### Frames -/

theorem sameBut_trans {l : List Nat} {c d e : Chip} (h : sameBut l c d) (g : sameBut l d e) : sameBut l c e := by
  obtain ⟨hr, hl, hz, hs⟩ := h
  obtain ⟨gr, gl, gz, gs⟩ := g
  exact ⟨fun a ha => (gr a ha).trans (hr a ha), gl.trans hl, gz.trans hz, gs.trans hs⟩

/-! ### Compare units (R152 to R154) -/

theorem exec_ncFire_of_going {s : State} (n : Fin 16) (h : going s.chip = true) : exec (.ncFire n) s = .next (s.acted (ncFireAll n s.chip)) :=
  running_of_going h (ncFireAll n)

theorem exec_comparePulseEnd_of_going {s : State} (pin : Fin 5) (h : going s.chip = true) :
    exec (.comparePulseEnd pin) s = .next (s.acted (comparePulseEnd pin s.chip)) := running_of_going h (comparePulseEnd pin)

/-- Unit n has fired: FIRED, and LATE where it was due late. -/
def ncFlagged (n : Nat) (c : Chip) : Chip :=
  if c.time.stepped.getLsbD n || c.time.lateArm.getLsbD n then (c.raise (F.NWT_NCn_CTL_FIRED n)).raise (F.NWT_NCn_CTL_LATE n)
  else c.raise (F.NWT_NCn_CTL_FIRED n)

/-- Unit n is disarmed, or takes its next target: one period on, or the first one ahead where a step has passed `k` of them by. -/
def ncNext (n : Nat) (c d : Chip) : Chip :=
  let per := c.get (F.NWT_NCn_CTL_PERIOD n)
  let tgt := c.rd (F.NWT_NCn_TGT n)
  if per = 0 then d.setb (F.NWT_NCn_CTL_ARM n) false
  else if c.time.stepped.getLsbD n then
    let k := (sdiff48 (ncTime d n) tgt).toNat / per + 1
    (d.wr (F.NWT_NCn_TGT n) (tgt + BitVec.ofNat 48 (k * per))).countSat (F.NWT_NCn_CTL_MISSED n) (k - 1)
  else d.wr (F.NWT_NCn_TGT n) (tgt + BitVec.ofNat 48 per)

section
variable (n : Nat) (c d : Chip)

/-- The fields of NCn.CTL below LATE are not touched by what follows a firing. -/
theorem ncNext_get {g : Fld} (ha : g.addr = 0x20011 + 2 * n) (hg : g.lo + g.width ≤ 14) : (ncNext n c d).get g = d.get g := by
  have htgt (w : Word) : (d.wr (F.NWT_NCn_TGT n) w).get g = d.get g := Chip.get_wr_ne d _ w g (by simp only [F.NWT_NCn_TGT, ha]; omega)
  simp only [ncNext]
  split_ifs
  · exact Chip.get_setb_ne d _ g _ (by simp only [F.NWT_NCn_CTL_ARM]; omega)
  · exact (Chip.get_countSat_ne _ _ g _ (by simp only [F.NWT_NCn_CTL_MISSED]; omega)).trans (htgt _)
  · exact htgt _

theorem ncFlagged_get {g : Fld} (hg : g.lo + g.width ≤ 13) : (ncFlagged n c).get g = c.get g := by
  have hfired : (c.raise (F.NWT_NCn_CTL_FIRED n)).get g = c.get g := Chip.get_raise_ne c _ g (by simp only [F.NWT_NCn_CTL_FIRED]; omega)
  simp only [ncFlagged]
  split
  · exact (Chip.get_raise_ne _ _ g (by simp only [F.NWT_NCn_CTL_LATE]; omega)).trans hfired
  · exact hfired

theorem ncFlagged_fired : (ncFlagged n c).is (F.NWT_NCn_CTL_FIRED n) = true := by
  have hfired : (c.raise (F.NWT_NCn_CTL_FIRED n)).is (F.NWT_NCn_CTL_FIRED n) = true := Chip.is_raise_same c _ rfl (by simp [F.NWT_NCn_CTL_FIRED])
  simp only [ncFlagged]
  split
  · rw [Chip.is, Chip.get_raise_ne _ _ _ (by simp [F.NWT_NCn_CTL_FIRED, F.NWT_NCn_CTL_LATE])]; exact hfired
  · exact hfired

theorem ncFlagged_rd {a : Nat} (h : a ≠ 0x20011 + 2 * n) : (ncFlagged n c).rd a = c.rd a := by
  have hfired : (c.raise (F.NWT_NCn_CTL_FIRED n)).rd a = c.rd a := Chip.rd_raise_ne c _ h
  simp only [ncFlagged]
  split
  · exact (Chip.rd_raise_ne _ _ h).trans hfired
  · exact hfired

/-- Firing and re-arming write the target and the control word of the unit alone. -/
theorem sameBut_ncNext_ncFlagged : sameBut [F.NWT_NCn_TGT n, (F.NWT_NCn_CTL_FIRED n).addr] c (ncNext n c (ncFlagged n c)) := by
  have hflagged : sameBut [F.NWT_NCn_TGT n, (F.NWT_NCn_CTL_FIRED n).addr] c (ncFlagged n c) := by
    have hctl : sameBut [F.NWT_NCn_TGT n, (F.NWT_NCn_CTL_FIRED n).addr] c (c.raise (F.NWT_NCn_CTL_FIRED n)) := sameBut_wr _ (by simp) (sameBut_refl _ c)
    simp only [ncFlagged]
    split
    · exact sameBut_wr _ (by simp [F.NWT_NCn_CTL_LATE, F.NWT_NCn_CTL_FIRED]) hctl
    · exact hctl
  have htgt (w : Word) := sameBut_wr (a := F.NWT_NCn_TGT n) w (by simp) hflagged
  simp only [ncNext]
  split_ifs
  · exact sameBut_wr _ (by simp [F.NWT_NCn_CTL_ARM, F.NWT_NCn_CTL_FIRED]) hflagged
  · exact sameBut_wr _ (by simp [F.NWT_NCn_CTL_MISSED, F.NWT_NCn_CTL_FIRED]) (htgt _)
  · exact htgt _

end

/-- The chip on which unit n, fired and re-armed, carries out its action: its marks of a step and of a late arming are gone. -/
def ncRearmed (n : Nat) (c : Chip) : Chip :=
  let d := ncNext n c (ncFlagged n c)
  let m : BitVec 16 := ~~~(1#16 <<< n)
  { d with time := { d.time with stepped := d.time.stepped &&& m, lateArm := d.time.lateArm &&& m } }

theorem ncFire_of_due {n : Nat} {c : Chip} (h : ncDue c n = true) :
    ncFire n c = ncAction ((ncRearmed n c).get (F.NWT_NCn_CTL_ACTION n)) ((ncRearmed n c).get (F.NWT_NCn_CTL_ARG n)) (c.rd (F.NWT_NCn_TGT n))
      ((ncRearmed n c).occur 0x12 (some n) 0) := if_pos h

theorem ncRearmed_action (n : Nat) (c : Chip) : (ncRearmed n c).get (F.NWT_NCn_CTL_ACTION n) = c.get (F.NWT_NCn_CTL_ACTION n) :=
  (ncNext_get n c _ rfl (by simp [F.NWT_NCn_CTL_ACTION])).trans (ncFlagged_get n c (by simp [F.NWT_NCn_CTL_ACTION]))

/-- A unit without an action that fires does no more than be re-armed or disarmed, and be counted (R152, R153). -/
theorem ncFire_of_no_action {n : Nat} {c : Chip} (h : ncDue c n = true) (ha : c.get (F.NWT_NCn_CTL_ACTION n) = 0) :
    ncFire n c = (ncRearmed n c).occur 0x12 (some n) 0 := by
  rw [ncFire_of_due h, ncRearmed_action, ha]
  rfl

theorem ncRearmed_fired (n : Nat) (c : Chip) : (ncRearmed n c).is (F.NWT_NCn_CTL_FIRED n) = true := by
  have hkept : (ncRearmed n c).get (F.NWT_NCn_CTL_FIRED n) = (ncFlagged n c).get (F.NWT_NCn_CTL_FIRED n) :=
    ncNext_get n c _ rfl (by simp [F.NWT_NCn_CTL_FIRED])
  rw [Chip.is, hkept]
  exact ncFlagged_fired n c

theorem ncRearmed_one_shot {n : Nat} {c : Chip} (h : c.get (F.NWT_NCn_CTL_PERIOD n) = 0) :
    (ncRearmed n c).is (F.NWT_NCn_CTL_ARM n) = false ∧ (ncRearmed n c).rd (F.NWT_NCn_TGT n) = c.rd (F.NWT_NCn_TGT n) := by
  have hnext : ncNext n c (ncFlagged n c) = (ncFlagged n c).setb (F.NWT_NCn_CTL_ARM n) false := if_pos h
  have htgt : F.NWT_NCn_TGT n ≠ 0x20011 + 2 * n := by simp only [F.NWT_NCn_TGT]; omega
  constructor
  · exact (congrArg (Chip.is · (F.NWT_NCn_CTL_ARM n)) hnext).trans (Chip.is_setb_same _ _ _ rfl (by simp [F.NWT_NCn_CTL_ARM]))
  · exact (congrArg (Chip.rd · (F.NWT_NCn_TGT n)) hnext).trans ((Chip.rd_setb_ne _ _ _ htgt).trans (ncFlagged_rd n c htgt))

theorem ncRearmed_periodic {n : Nat} {c : Chip} (h : c.get (F.NWT_NCn_CTL_PERIOD n) ≠ 0) (hs : c.time.stepped.getLsbD n = false) :
    (ncRearmed n c).rd (F.NWT_NCn_TGT n) = c.rd (F.NWT_NCn_TGT n) + BitVec.ofNat 48 (c.get (F.NWT_NCn_CTL_PERIOD n)) := by
  have hnext : ncNext n c (ncFlagged n c) =
      (ncFlagged n c).wr (F.NWT_NCn_TGT n) (c.rd (F.NWT_NCn_TGT n) + BitVec.ofNat 48 (c.get (F.NWT_NCn_CTL_PERIOD n))) := by
    simp only [ncNext, h, hs, Bool.false_eq_true, if_false]
  exact (congrArg (Chip.rd · (F.NWT_NCn_TGT n)) hnext).trans (Chip.rd_wr_same _ _ _)

theorem ncFireAll_of_not_due {n : Nat} {c : Chip} (h : ncDue c n = false) : ncFireAll n c = c := by
  simp only [ncFireAll, ncFire, h, Bool.false_and, Bool.false_eq_true, if_false]

/-- The end of a pulse drives its pin low (R154). -/
theorem comparePulseEnd_low {pin : Nat} {c : Chip} (h : c.time.pulsing.getLsbD pin = true) (hp : pin < 5) :
    (comparePulseEnd pin c).time.tio.getLsbD pin = false := by
  simp [comparePulseEnd, h, levelTio, driveTio, hp]

/-! ### Captures (R157) -/

theorem exec_capture_of_going {s : State} (src : BitVec 6) (r : Bool) (h : going s.chip = true) :
    exec (.capture src r) s = .next (s.acted (s.chip.captureAt src.toNat r)) := by
  obtain ⟨hm, -⟩ : s.chip.mode ≠ .reset ∧ s.chip.clk.gated = false := by simpa [going] using h
  rw [show exec (.capture src r) s = running s (captureEvent src.toNat r) from rfl, running_of_going h, captureEvent, if_neg hm]

/-- Capture unit n takes the present time. -/
def captureTake (n : Nat) (c : Chip) : Chip := (c.wr (F.NWT_NCAPn_VAL n) c.now).raise (F.NWT_NCAPn_CTL_VALID n)

/-- A qualifying edge at capture unit n: a capture onto one that it holds is an overrun, and is not taken where the unit keeps what it holds. -/
def captureHit (n : Nat) (c : Chip) : Chip :=
  let d := if c.is (F.NWT_NCAPn_CTL_VALID n) then c.raise (F.NWT_NCAPn_CTL_OVR n) else c
  if c.is (F.NWT_NCAPn_CTL_VALID n) && d.is (F.NWT_NCAPn_CTL_KEEP n) then d else captureTake n d

section
variable {n : Nat} {c : Chip}

theorem captureUnit_of_pin {src : Nat} {r : Bool} (hsrc : src ≤ 4) (hen : c.is (F.NWT_NCAPn_CTL_EN n) = true)
    (hs : c.get (F.NWT_NCAPn_CTL_SRC n) = src)
    (he : c.get (F.NWT_NCAPn_CTL_EDGE n) = 3 ∨ (r = true ∧ c.get (F.NWT_NCAPn_CTL_EDGE n) ≠ 2) ∨ (r = false ∧ c.get (F.NWT_NCAPn_CTL_EDGE n) = 2))
    (hg : c.get (F.NWT_NCAPn_CTL_GATE n) = 0 ∨ 4 < c.get (F.NWT_NCAPn_CTL_GATE n) ∨
      c.time.tio.getLsbD (c.get (F.NWT_NCAPn_CTL_GATE n) - 1) = true) : captureUnit src r n c = captureHit n c := by
  refine if_pos ?_
  simp only [Bool.and_eq_true, Bool.or_eq_true, Bool.not_eq_true', decide_eq_true_eq, beq_iff_eq]
  exact ⟨⟨⟨⟨hen, hs⟩, .inr (.inl hsrc)⟩, by tauto⟩, by tauto⟩

theorem captureUnit_of_other {src : Nat} (r : Bool) (h : c.is (F.NWT_NCAPn_CTL_EN n) = false ∨ c.get (F.NWT_NCAPn_CTL_SRC n) ≠ src) :
    captureUnit src r n c = c := by
  rcases h with h | h <;> simp [captureUnit, h]

theorem captureTake_valid : (captureTake n c).is (F.NWT_NCAPn_CTL_VALID n) = true := Chip.is_raise_same _ _ rfl (by simp [F.NWT_NCAPn_CTL_VALID])

theorem captureTake_val : (captureTake n c).rd (F.NWT_NCAPn_VAL n) = c.now :=
  (Chip.rd_raise_ne _ _ (by simp only [F.NWT_NCAPn_VAL, F.NWT_NCAPn_CTL_VALID]; omega)).trans (Chip.rd_wr_same _ _ _)

theorem sameBut_captureTake {d : Chip} (h : sameBut [F.NWT_NCAPn_VAL n, (F.NWT_NCAPn_CTL_VALID n).addr] d c) :
    sameBut [F.NWT_NCAPn_VAL n, (F.NWT_NCAPn_CTL_VALID n).addr] d (captureTake n c) :=
  sameBut_wr (d := c.wr (F.NWT_NCAPn_VAL n) c.now) _ (by simp) (sameBut_wr _ (by simp) h)

theorem raiseOvr_ovr : (c.raise (F.NWT_NCAPn_CTL_OVR n)).is (F.NWT_NCAPn_CTL_OVR n) = true :=
  Chip.is_raise_same c _ rfl (by simp [F.NWT_NCAPn_CTL_OVR])

theorem sameBut_raiseOvr : sameBut [F.NWT_NCAPn_VAL n, (F.NWT_NCAPn_CTL_VALID n).addr] c (c.raise (F.NWT_NCAPn_CTL_OVR n)) :=
  sameBut_wr _ (by simp [F.NWT_NCAPn_CTL_OVR, F.NWT_NCAPn_CTL_VALID]) (sameBut_refl _ c)

theorem captureHit_of_empty (h : c.is (F.NWT_NCAPn_CTL_VALID n) = false) : captureHit n c = captureTake n c := by
  simp only [captureHit, h, Bool.false_and, Bool.false_eq_true, if_false]

theorem captureHit_of_full (h : c.is (F.NWT_NCAPn_CTL_VALID n) = true) :
    captureHit n c = if c.is (F.NWT_NCAPn_CTL_KEEP n) then c.raise (F.NWT_NCAPn_CTL_OVR n) else captureTake n (c.raise (F.NWT_NCAPn_CTL_OVR n)) := by
  have hkeep : (c.raise (F.NWT_NCAPn_CTL_OVR n)).is (F.NWT_NCAPn_CTL_KEEP n) = c.is (F.NWT_NCAPn_CTL_KEEP n) :=
    congrArg (· == 1) (Chip.get_raise_ne c _ _ (by simp [F.NWT_NCAPn_CTL_OVR, F.NWT_NCAPn_CTL_KEEP]))
  simp only [captureHit, h, hkeep, Bool.true_and, if_true]

theorem captureHit_valid : (captureHit n c).is (F.NWT_NCAPn_CTL_VALID n) = true := by
  cases hv : c.is (F.NWT_NCAPn_CTL_VALID n)
  case false => rw [captureHit_of_empty hv]; exact captureTake_valid
  case true =>
    rw [captureHit_of_full hv]
    split
    · rw [Chip.is, Chip.get_raise_ne _ _ _ (by simp [F.NWT_NCAPn_CTL_OVR, F.NWT_NCAPn_CTL_VALID])]; exact hv
    · exact captureTake_valid

theorem captureHit_val (h : c.is (F.NWT_NCAPn_CTL_VALID n) = false ∨ c.is (F.NWT_NCAPn_CTL_KEEP n) = false) :
    (captureHit n c).rd (F.NWT_NCAPn_VAL n) = c.now := by
  cases hv : c.is (F.NWT_NCAPn_CTL_VALID n)
  case false => rw [captureHit_of_empty hv, captureTake_val]
  case true =>
    have hk : c.is (F.NWT_NCAPn_CTL_KEEP n) = false := h.resolve_left (by simp [hv])
    rw [captureHit_of_full hv, hk, if_neg Bool.false_ne_true, captureTake_val]
    rfl

theorem captureHit_ovr (h : c.is (F.NWT_NCAPn_CTL_VALID n) = true) : (captureHit n c).is (F.NWT_NCAPn_CTL_OVR n) = true := by
  rw [captureHit_of_full h]
  split
  · exact raiseOvr_ovr
  · rw [captureTake, Chip.is, Chip.get_raise_ne _ _ _ (by simp [F.NWT_NCAPn_CTL_OVR, F.NWT_NCAPn_CTL_VALID]),
      Chip.get_wr_ne _ _ _ _ (by simp only [F.NWT_NCAPn_CTL_OVR, F.NWT_NCAPn_VAL]; omega)]
    exact raiseOvr_ovr

theorem captureHit_keeps (h : c.is (F.NWT_NCAPn_CTL_VALID n) = true) (hk : c.is (F.NWT_NCAPn_CTL_KEEP n) = true) :
    (captureHit n c).rd (F.NWT_NCAPn_VAL n) = c.rd (F.NWT_NCAPn_VAL n) := by
  rw [captureHit_of_full h, if_pos hk, Chip.rd_raise_ne _ _ (by simp only [F.NWT_NCAPn_VAL, F.NWT_NCAPn_CTL_OVR]; omega)]

theorem sameBut_captureHit : sameBut [F.NWT_NCAPn_VAL n, (F.NWT_NCAPn_CTL_VALID n).addr] c (captureHit n c) := by
  cases hv : c.is (F.NWT_NCAPn_CTL_VALID n)
  case false => rw [captureHit_of_empty hv]; exact sameBut_captureTake (sameBut_refl _ c)
  case true =>
    rw [captureHit_of_full hv]
    split
    · exact sameBut_raiseOvr
    · exact sameBut_captureTake sameBut_raiseOvr

end

/-- Settles O33: a firing is read off the unit's two words after re-arming, a capture off what the unit held before it. -/
theorem compareUnitsFireAndCapturesHold : Obligations.CompareUnitsFireAndCapturesHold := by
  unfold Obligations.CompareUnitsFireAndCapturesHold
  refine ⟨fun s n h => exec_ncFire_of_going n h, fun n c _ hd ha => ?_, fun n c h => ncFireAll_of_not_due h,
    fun s pin hg hp => ⟨_, exec_comparePulseEnd_of_going pin hg, comparePulseEnd_low hp pin.isLt⟩, fun s src r h => exec_capture_of_going src r h,
    fun n src r c _ hsrc hen hs he hg => ?_, fun n src r c h => captureUnit_of_other r h⟩
  · simp only [ncFire_of_no_action hd ha, Chip.occur_is, Chip.occur_rd]
    exact ⟨ncRearmed_fired n c, ncRearmed_one_shot, ncRearmed_periodic, sameBut_trans (sameBut_ncNext_ncFlagged n c) (sameBut_occur _ _ _ _)⟩
  · rw [captureUnit_of_pin hsrc hen hs he hg]
    exact ⟨captureHit_valid, captureHit_val, fun hv => ⟨captureHit_ovr hv, captureHit_keeps hv⟩, sameBut_captureHit⟩

end Sys2Proof.Machine
end

section
/-! SUPPORT. The proofs of the network-time chapter (05_network_time), second part: a step of the time and the carriers that restart with it, and
the requests that set the time, use the bus or load a patch. -/

namespace Sys2Proof.Machine

/-! ### The time while a period opens -/

@[simp] theorem Chip.occur_time (c : Chip) (e : Nat) (i : Option Nat) (d : Word) : (c.occur e i d).time = c.time :=
  Chip.occur_keeps Chip.time (fun _ _ => rfl) c e i d

@[simp] theorem captureUnit_time (src : Nat) (r : Bool) (n : Nat) (c : Chip) : (captureUnit src r n c).time = c.time := by
  simp only [captureUnit]
  split_ifs <;> rfl

@[simp] theorem Chip.captureAt_time (c : Chip) (src : Nat) (r : Bool) : (c.captureAt src r).time = c.time :=
  Chip.forN_keeps Chip.time (captureUnit_time src r) 16 c

@[simp] theorem triggerSet_time (k : Nat) (c : Chip) : (triggerSet k c).time = c.time := by
  simp only [triggerSet]
  split
  · split
    · split
      · rfl
      · exact Chip.occur_time _ _ _ _
    · rfl
  · rfl

@[simp] theorem triggerSource_time (src : Nat) (c : Chip) : (triggerSource src c).time = c.time := by
  refine Chip.forN_keeps Chip.time (fun k c => ?_) 16 c
  split
  · exact triggerSet_time k c
  · rfl

@[simp] theorem computeWindows_time (g : Nat) (c : Chip) : (computeWindows g c).time = c.time := by
  refine Chip.forEach_keeps Chip.time (fun n c => ?_) _ c
  exact modLeg_time _ _ _

@[simp] theorem markXcskip_time (g : Nat) (c : Chip) : (markXcskip g c).time = c.time := by
  unfold markXcskip
  split <;> rfl

@[simp] theorem setCut_time (n : Nat) (c : Chip) : (setCut n c).time = c.time := by
  unfold setCut
  split
  · rfl
  · exact Chip.occur_time _ _ _ _

@[simp] theorem evalCuts_time (legs : List Nat) (c : Chip) : (evalCuts legs c).time = c.time := by
  refine Chip.forEach_keeps Chip.time (fun n c => ?_) legs c
  split
  · exact setCut_time n c
  · rfl

@[simp] theorem releaseCuts_time (g : Nat) (c : Chip) : (releaseCuts g c).time = c.time := by
  refine (evalCuts_time _ _).trans (Chip.forEach_keeps Chip.time (fun n c => ?_) _ c)
  exact modLeg_time _ _ _

@[simp] theorem insertRefresh_time (n : Nat) (c : Chip) : (insertRefresh n c).time = c.time := by
  unfold insertRefresh
  split <;> rfl

@[simp] theorem commandGroup_time (g p : Nat) (c : Chip) : (commandGroup g p c).time = c.time := by
  refine Chip.forEach_keeps Chip.time (fun n c => ?_) _ c
  exact modLeg_time _ _ _

@[simp] theorem openPeriod_time (g : Nat) (t : BitVec 72) (c : Chip) : (openPeriod g t c).time = c.time := by
  have hrefresh (c : Chip) : (c.forEach (legsOf g) (fun n c => insertRefresh n (c.modLeg n (fun l => { l with refresh := false })))).time = c.time := by
    refine Chip.forEach_keeps Chip.time (fun n c => ?_) _ c
    exact insertRefresh_time _ _
  simp only [openPeriod]
  split_ifs <;> simp [hrefresh]

/-! ### The time while a set is taken, and over a restart -/

@[simp] theorem takeLeg_time (q : PwmGroup) (s : PwmSet) (p n : Nat) (cb : Chip × Bool) : (takeLeg q s p n cb).1.time = cb.1.time := by
  obtain ⟨c, b⟩ := cb
  simp only [takeLeg, Chip.seti_time]
  split
  · split <;> rfl
  · split <;> rfl

@[simp] theorem dutyClamp_time (g : Nat) (c : Chip) : (dutyClamp g c).time = c.time := Chip.occur_time _ _ _ _

@[simp] theorem takeSet_time (g : Nat) (mid : Bool) (c : Chip) : (takeSet g mid c).time = c.time := by
  have hlegs (q : PwmGroup) (s : PwmSet) (p : Nat) (cb : Chip × Bool) : ((legsOf g).foldl (fun cb n => takeLeg q s p n cb) cb).1.time = cb.1.time :=
    foldl_inv (fun cb : Chip × Bool => cb.1.time) _ (fun cb n => takeLeg_time q s p n cb) _ cb
  have hclamp (b : Bool) (d : Chip) : (if b then dutyClamp g d else d).time = d.time := by
    split
    · exact dutyClamp_time g d
    · rfl
  simp only [takeSet]
  split
  · rfl
  · simp only [Chip.occur_time, hclamp, hlegs, Chip.set_time, modPwmg_time]

@[simp] theorem restartCarrier_time (step : Bool) (t : BitVec 72) (g : Nat) (c : Chip) : (restartCarrier step t g c).time = c.time := by
  have hset (take : Bool) (d : Chip) : (if take then takeSet g false d else d).time = d.time := by
    split
    · exact takeSet_time g false d
    · rfl
  simp only [restartCarrier, restartAt]
  split
  · split
    · rw [Chip.raise_time, openPeriod_time, hset]; rfl
    · rw [Chip.raise_time, openPeriod_time, hset]; rfl
  · rfl

/-! ### A step of NWT and FWT (R143, R149, R250) -/

/-- A step as it is shown, before the carriers restart: the units that it passed are marked, STEPPED and TIME_EVT set, a trace SYNC queued. -/
def stepShown (before c : Chip) : Chip := ((markStepped before c).raise F.NWT_STAT_STEPPED).evTime.queueSync

theorem stepTime_both (t : BitVec 72) (c : Chip) :
    stepTime true t c = (stepShown c { c with time := { c.time with nwt := t, fwt := t } }).forN 7 (restartCarrier true t) := rfl

theorem Chip.queueSync_eq (c : Chip) : ∃ o : Obs, c.queueSync = { c with obs := o } := by
  unfold Chip.queueSync
  split
  · exact ⟨_, rfl⟩
  · exact ⟨c.obs, rfl⟩

/-- Of the time a step shown changes the marks of the compare units only. -/
theorem stepShown_times (before c : Chip) : (stepShown before c).time.nwt = c.time.nwt ∧ (stepShown before c).time.fwt = c.time.fwt := by
  obtain ⟨o, h⟩ := (((markStepped before c).raise F.NWT_STAT_STEPPED).evTime).queueSync_eq
  rw [stepShown, h]
  exact ⟨rfl, rfl⟩

theorem stepShown_pwmg (before c : Chip) (g : Nat) : (stepShown before c).pwmg g = c.pwmg g := by
  obtain ⟨o, h⟩ := (((markStepped before c).raise F.NWT_STAT_STEPPED).evTime).queueSync_eq
  rw [stepShown, h]
  rfl

theorem stepShown_flags (before c : Chip) :
    (stepShown before c).is F.NWT_STAT_STEPPED = true ∧ (stepShown before c).is F.DEV_EVT0_TIME_EVT = true := by
  obtain ⟨o, h⟩ := (((markStepped before c).raise F.NWT_STAT_STEPPED).evTime).queueSync_eq
  rw [stepShown, h]
  constructor
  · exact (congrArg (· == 1) (Chip.get_evt_ne _ 0 11 _ (by decide))).trans (Chip.is_raise_same (markStepped before c) _ rfl (by decide))
  · exact beq_iff_eq.mpr (Chip.evt_field _ 0 11 (by decide))

theorem restartCarrier_of_stopped {g : Nat} {c : Chip} (step : Bool) (t : BitVec 72) (h : (c.pwmg g).running = false) :
    restartCarrier step t g c = c := by
  simp only [restartCarrier, restartAt, h, Bool.false_and, Bool.false_eq_true, if_false]

theorem stepTime_both_of_stopped {c : Chip} (t : BitVec 72) (h : ∀ g : Nat, (c.pwmg g).running = false) :
    stepTime true t c = stepShown c { c with time := { c.time with nwt := t, fwt := t } } := by
  have hfixed (g : Nat) := restartCarrier_of_stopped (c := stepShown c { c with time := { c.time with nwt := t, fwt := t } }) true t
    (by rw [stepShown_pwmg]; exact h g)
  rw [stepTime_both, Chip.forN, List.foldl_fixed' hfixed]

theorem stepTime_both_times (t : BitVec 72) (c : Chip) : (stepTime true t c).time.nwt = t ∧ (stepTime true t c).time.fwt = t := by
  rw [stepTime_both, Chip.forN_keeps Chip.time (restartCarrier_time true t)]
  exact stepShown_times _ _

/-- The integer part of a time given in nanoseconds (R137). -/
theorem ofNs_integer_part (w : Word) : BitVec.ofNat 48 ((ofNs w).toNat / 2 ^ 24) = w := by
  have hlt : w.toNat * 2 ^ 24 < 2 ^ 72 := by have := w.isLt; omega
  rw [ofNs, BitVec.toNat_ofNat, Nat.mod_eq_of_lt hlt, Nat.mul_div_cancel _ (by decide), BitVec.ofNat_toNat, BitVec.setWidth_eq]

theorem stepTime_both_ofNs (w : Word) (c : Chip) : (stepTime true (ofNs w) c).now = w ∧ (stepTime true (ofNs w) c).fnow = w := by
  obtain ⟨hn, hf⟩ := stepTime_both_times (ofNs w) c
  rw [Chip.now, Chip.fnow, hn, hf]
  exact ⟨ofNs_integer_part w, ofNs_integer_part w⟩

/-! ### TIME_SET and TIME_ADJUST (R149, R150) -/

theorem exec_timeSet_of_serves {s : State} {q : Req} (h : servesC 0x50 q s.chip = true) :
    exec (.timeSet q) s = .next (s.acted (answer 0x50 q (timeSetOp q (heard 0x50 s.chip)))) := by
  rw [← receiveC_serves timeSetOp h]; rfl

theorem timeSetOp_config {q : Req} {c : Chip} (hl : q.len = 1) (hh : q.hdr = 0) (hm : c.mode = .config) :
    timeSetOp q c = ([0, c.now], timeSet (q.word 0) c) := by
  simp [timeSetOp, oneRefusal, hl, hh, configRefusal_config hm, orRefuse]

theorem act_timeAdjust_of_serves {s : State} {q : Req} (h : servesC 0x51 q s.chip = true) :
    act s (receiveC 0x51 timeAdjust q) = .next (s.acted (answer 0x51 q (timeAdjust q (heard 0x51 s.chip)))) := by
  rw [← receiveC_serves timeAdjust h]; rfl

/-- The fields of the word of TIME_ADJUST (R150): its kind, and a number below it. -/
theorem adjustWord_fields {w : Word} {k n : Nat} (h : w = BitVec.ofNat 48 (k * 2 ^ 44 + n)) (hk : k < 16) (hn : n < 2 ^ 40) :
    w.field 44 4 = k ∧ w.field 40 4 = 0 ∧ w.field 0 40 = n ∧ w.field 20 20 = n / 2 ^ 20 ∧ w.field 0 20 = n % 2 ^ 20 := by
  subst h
  simp only [Word.field, BitVec.toNat_ofNat, Nat.shiftRight_eq_div_pow]
  omega

section
variable {q : Req} {c : Chip} (hl : q.len = 1) (hh : q.hdr = 0)
include hl hh

theorem timeAdjust_step {d : BitVec 40} (hw : q.word 0 = BitVec.ofNat 48 d.toNat) (hm : c.mode = .config ∨ c.mode = .standby) :
    timeAdjust q c = ([0], adjustStep (signed 40 d.toNat) c) := by
  obtain ⟨hk, hz, hv, -, -⟩ := adjustWord_fields (k := 0) (n := d.toNat) (by simpa using hw) (by decide) d.isLt
  have hb : c.mode ≠ .boot := by rcases hm with h | h <;> simp [h]
  simp [timeAdjust, hl, hh, hk, hz, hv, bootRefusal_none hb, hm, orRefuse, done]

theorem timeAdjust_slew {d : BitVec 40} (hw : q.word 0 = BitVec.ofNat 48 (2 ^ 44 + d.toNat)) (hb : c.mode ≠ .boot) :
    timeAdjust q c = ([0], adjustSlew (signed 40 d.toNat) c) := by
  obtain ⟨hk, hz, hv, -, -⟩ := adjustWord_fields (k := 1) (n := d.toNat) (by simpa using hw) (by decide) d.isLt
  simp [timeAdjust, hl, hh, hk, hz, hv, bootRefusal_none hb, orRefuse, done]

theorem timeAdjust_rate {d : BitVec 20} (hw : q.word 0 = BitVec.ofNat 48 (2 * 2 ^ 44 + d.toNat)) (hb : c.mode ≠ .boot)
    (hs : isSlave c = false) : timeAdjust q c = ([0], adjustRate (signed 20 d.toNat) c) := by
  obtain ⟨hk, hz, -, hu, hv⟩ := adjustWord_fields (k := 2) (n := d.toNat) hw (by decide) (by have := d.isLt; omega)
  rw [Nat.div_eq_of_lt d.isLt] at hu
  rw [Nat.mod_eq_of_lt d.isLt] at hv
  simp [timeAdjust, hl, hh, hk, hz, hu, hv, hs, bootRefusal_none hb, orRefuse, done]

end

theorem adjustSlew_slewing (d : Int) (c : Chip) : (adjustSlew d c).is F.NWT_STAT_SLEWING = (d != 0) := Chip.is_setb_same _ _ _ rfl (by decide)

theorem sameBut_adjustSlew (d : Int) (c : Chip) : sameBut [F.NWT_STAT_SLEWING.addr] c (adjustSlew d c) :=
  sameBut_wr _ (by simp) (sameBut_refl _ c)

theorem unsigned_lt (w : Nat) (z : Int) : unsigned w z < 2 ^ w := by
  have := Int.emod_lt_of_pos z (b := (2 ^ w : Nat)) (by have := Nat.two_pow_pos w; omega)
  have := Nat.two_pow_pos w
  rw [unsigned]
  omega

/-- A number that its bits in two's complement hold is read back. -/
theorem signed_unsigned {m : Nat} {z : Int} (hlo : -(2 ^ m : Nat) ≤ z) (hhi : z < (2 ^ m : Nat)) : signed (m + 1) (unsigned (m + 1) z) = z := by
  have hpow : 2 ^ (m + 1) = 2 * 2 ^ m := Nat.pow_succ'
  have hu : ((unsigned (m + 1) z : Nat) : Int) = z % (2 ^ (m + 1) : Nat) := Int.toNat_of_nonneg (Int.emod_nonneg _ (by omega))
  rw [signed, Nat.mod_eq_of_lt (unsigned_lt _ z), Nat.add_sub_cancel]
  by_cases hz : 0 ≤ z
  · rw [Int.emod_eq_of_lt hz (by omega)] at hu
    split <;> omega
  · rw [← Int.add_emod_right, Int.emod_eq_of_lt (by omega) (by omega)] at hu
    split <;> omega

theorem Chip.geti_seti_same {f : Fld} {m : Nat} {z : Int} (c : Chip) (hw : f.width = m + 1) (h : f.lo + f.width ≤ 48)
    (hlo : -(2 ^ m : Nat) ≤ z) (hhi : z < (2 ^ m : Nat)) : (c.seti f z).geti f = z := by
  rw [Chip.geti, Chip.seti, Chip.get_set_same _ _ _ h, Nat.mod_eq_of_lt (unsigned_lt _ z), hw, signed_unsigned hlo hhi]

theorem clampInt_mem {lo hi : Int} (z : Int) (h : lo ≤ hi) : lo ≤ clampInt lo hi z ∧ clampInt lo hi z ≤ hi := by
  simp only [clampInt]
  split_ifs <;> omega

theorem adjustRate_rate (r : Int) (c : Chip) : (adjustRate r c).geti F.NWT_OFFS_RATE = clampInt (-209715) 209715 r := by
  obtain ⟨hlo, hhi⟩ := clampInt_mem (lo := -209715) (hi := 209715) r (by decide)
  exact Chip.geti_seti_same (m := 19) c rfl (by decide) (by omega) (by omega)

theorem sameBut_adjustRate (r : Int) (c : Chip) : sameBut [F.NWT_OFFS_RATE.addr] c (adjustRate r c) :=
  sameBut_wr _ (by simp) (sameBut_refl _ c)

/-! ### The bus requests and PATCH_LOAD (R595, R602, R603, R659) -/

theorem exec_busSend_of_serves {s : State} {q : Req} (h : servesC 0x60 q s.chip = true) :
    exec (.busSend q) s = .next (s.acted (answer 0x60 q (busSend q (heard 0x60 s.chip)))) := by
  rw [← receiveC_serves busSend h]; rfl

theorem exec_busReceive_of_serves {s : State} {q : Req} (h : servesC 0x61 q s.chip = true) :
    exec (.busReceive q) s = .next (s.acted (answer 0x61 q (busReceive q (heard 0x61 s.chip)))) := by
  rw [← receiveC_serves busReceive h]; rfl

theorem exec_busAck_of_serves {s : State} {q : Req} (h : servesC 0x62 q s.chip = true) :
    exec (.busAck q) s = .next (s.acted (answer 0x62 q (busAck q (heard 0x62 s.chip)))) := by
  rw [← receiveC_serves busAck h]; rfl

theorem exec_patchLoad_of_serves {s : State} {q : Req} (h : servesC 0x70 q s.chip = true) :
    exec (.patchLoad q) s = .next (s.acted (answer 0x70 q (patchLoad q (heard 0x70 s.chip)))) := by
  rw [← receiveC_serves patchLoad h]; rfl

section
variable {q : Req} {c : Chip}

theorem busSend_accepted {u : Fin 2} {b : Fin 3} (hh : q.hdr.toNat = u + 2 * b) (hl : q.needed = 1 + dataWords (q.word 0))
    (hw : cwBad (q.word 0) = false) (hb : c.mode ≠ .boot) (hm : c.get (F.PUR_CFG_MODE u) ≠ 0)
    (hid : cwIde (q.word 0) = false ∨ (cwId (q.word 0) / 2 ^ 26 ≠ 0 ∧
      (c.is (F.PUR_CFG_IDCHK u) = false ∨ idNode (q.word 0) = c.ms.naddr)))
    (hfree : bufState c u b = 0 ∨ 3 < bufState c u b) :
    busSend q c = ([0], busLoad u b ⟨q.word 0, q.words 1 (dataWords (q.word 0))⟩ c) := by
  have hu : q.hdr.toNat % 2 = u := by omega
  have hbuf : q.hdr.toNat / 2 % 4 = b := by omega
  have hident : (cwIde (q.word 0) && (cwId (q.word 0) / 2 ^ 26 == 0 || (c.is (F.PUR_CFG_IDCHK u) && idNode (q.word 0) != c.ms.naddr))) = false := by
    rcases hid with h | ⟨hx, h⟩
    · rw [h, Bool.false_and]
    · rw [beq_false_of_ne hx, Bool.false_or]
      rcases h with h | h <;> simp [h]
  have hheader : ¬(8 ≤ q.hdr.toNat ∨ b.val = 3 ∨ cwBad (q.word 0) = true) := by rw [hw]; simp; omega
  have hbusy : ¬(1 ≤ bufState c u b ∧ bufState c u b ≤ 3) := by omega
  simp only [busSend, hu, hbuf, hl, hheader, hm, hident, hbusy, bootRefusal_none hb, orRefuse, done, ne_eq, not_true, Bool.false_eq_true, if_false]

theorem busReceive_oldest {k : Nat} {e : RxEntry} (hl : q.len = 0) (hh : q.hdr.toNat < 2) (hb : c.mode ≠ .boot)
    (he : oldestFull c q.hdr.toNat = some (k, e)) :
    busReceive q c = (BitVec.ofNat 48 (e.ts % 2 ^ 40 * 2 ^ 8) :: e.frame.cw.setField 29 6 k :: e.frame.data, setEntry q.hdr.toNat k .held c) := by
  simp only [busReceive, hl, Nat.not_le.mpr hh, he, bootRefusal_none hb, orRefuse, ne_eq, not_true, if_false]

theorem busAck_accepted (hl : q.len = 1) (hh : q.hdr.toNat < 2) (hk : (q.word 0).toNat < 64) (hb : c.mode ≠ .boot)
    (he : ((puOf c q.hdr.toNat).fifo.getD (q.word 0).toNat {}).state ≠ .free) :
    busAck q c = ([0], setEntry q.hdr.toNat (q.word 0).toNat .free c) := by
  simp only [busAck, hl, Nat.not_le.mpr hh, Nat.not_le.mpr hk, he, bootRefusal_none hb, orRefuse, done, ne_eq, not_true, or_self, if_false]

theorem patchLoad_accepted (hn : q.hdr.toNat + q.needed ≤ 24573) (hm : c.mode = .config) :
    patchLoad q c = ([0], patchStage q.hdr.toNat (q.words 0 q.needed) c) := by
  have hfits : ¬(24572 < q.hdr.toNat + q.needed - 1) := by omega
  simp only [patchLoad, hfits, configRefusal_config hm, orRefuse, done, if_false]

end

/-- Settles O28: each request passes its checks one by one; what a step of the time shows is set before the carriers restart. -/
theorem timeBusAndPatchRequestsAreTaken : Obligations.TimeBusAndPatchRequestsAreTaken := by
  unfold Obligations.TimeBusAndPatchRequestsAreTaken
  refine ⟨fun s q h hl hh hm => ?_, stepTime_both_ofNs, fun w c hr => ?_, fun s q d h hl hh hw hm => ?_, fun s q d h hl hh hw hb => ?_,
    fun s q d h hl hh hw hb hs => ?_, fun s q u b h hh hl hw hb hm hid hf => ?_, fun s q k e h hl hh hb he => ?_,
    fun s q h hl hh hk hb he => ?_, fun s q h hn hm => ?_⟩
  · rw [exec_timeSet_of_serves h, timeSetOp_config hl hh (by simpa using hm)]
  · rw [stepTime_both_of_stopped _ hr]
    exact stepShown_flags _ _
  · exact (act_timeAdjust_of_serves h).trans (by rw [timeAdjust_step hl hh hw (by simpa using hm)])
  · exact ⟨adjustSlew (signed 40 d.toNat) (heard 0x51 s.chip),
      (act_timeAdjust_of_serves h).trans (by rw [timeAdjust_slew hl hh hw (by simpa using hb)]),
      rfl, adjustSlew_slewing _ _, sameBut_trans (sameBut_of_sameWords (sameWords_heard 0x51 s.chip)) (sameBut_adjustSlew _ _)⟩
  · exact ⟨adjustRate (signed 20 d.toNat) (heard 0x51 s.chip),
      (act_timeAdjust_of_serves h).trans (by rw [timeAdjust_rate hl hh hw (by simpa using hb) hs]),
      adjustRate_rate _ _, sameBut_trans (sameBut_of_sameWords (sameWords_heard 0x51 s.chip)) (sameBut_adjustRate _ _)⟩
  · rw [exec_busSend_of_serves h, busSend_accepted hh hl hw (by simpa using hb) hm hid hf]
  · rw [exec_busReceive_of_serves h, busReceive_oldest hl hh (by simpa using hb) he]
  · rw [exec_busAck_of_serves h, busAck_accepted hl hh hk (by simpa using hb) he]
  · rw [exec_patchLoad_of_serves h, patchLoad_accepted hn (by simpa using hm)]

end Sys2Proof.Machine
end

section
/-! SUPPORT. The proofs of the angle chapter (06_angle_scheduling): measurements and faults of a tracker's source, the index edge, the hold and the
windows, and the entries and boundaries of a Kerf table. -/

namespace Sys2Proof.Machine

/-! ### Trackers and tables beside their words -/

/-- A part of a tracker that an update leaves as it was. -/
theorem tracker_modTracker_keeps {α : Type} (p : Tracker → α) {f : Tracker → Tracker} (h : ∀ t, p (f t) = p t) (c : Chip) (n : Nat) :
    p ((c.modTracker n f).tracker n) = p (c.tracker n) := by
  simp only [Chip.tracker, Chip.modTracker, List.getD_eq_getElem?_getD, List.getElem?_modify_eq]
  cases c.trackers[n]? with
  | none => rfl
  | some t => exact h t

theorem tracker_modTracker_same {c : Chip} {n : Nat} (f : Tracker → Tracker) (h : n < c.trackers.length) :
    (c.modTracker n f).tracker n = f (c.tracker n) := by
  simp [Chip.tracker, Chip.modTracker, List.getD_eq_getElem?_getD, List.getElem?_eq_getElem h]

/-- A part of a Kerf table that an update leaves as it was. -/
theorem kerf_modKerf_keeps {α : Type} (p : Kerf → α) {f : Kerf → Kerf} (h : ∀ k, p (f k) = p k) (c : Chip) (n : Nat) :
    p ((c.modKerf n f).kerf n) = p (c.kerf n) := by
  simp only [Chip.kerf, Chip.modKerf, List.getD_eq_getElem?_getD, List.getElem?_modify_eq]
  cases c.kerfs[n]? with
  | none => rfl
  | some k => exact h k

theorem kerf_modKerf_same {c : Chip} {n : Nat} (f : Kerf → Kerf) (h : n < c.kerfs.length) : (c.modKerf n f).kerf n = f (c.kerf n) := by
  simp [Chip.kerf, Chip.modKerf, List.getD_eq_getElem?_getD, List.getElem?_eq_getElem h]

@[simp] theorem Chip.raise_kerf (c : Chip) (f : Fld) (n : Nat) : (c.raise f).kerf n = c.kerf n := rfl
@[simp] theorem Chip.countSat_kerf (c : Chip) (f : Fld) (k n : Nat) : (c.countSat f k).kerf n = c.kerf n := rfl
@[simp] theorem Chip.occur_kerf (c : Chip) (e : Nat) (i : Option Nat) (d : Word) (n : Nat) : (c.occur e i d).kerf n = c.kerf n :=
  Chip.occur_keeps (Chip.kerf · n) (fun _ _ => rfl) c e i d

theorem sameBut_set {l : List Nat} {c d : Chip} {f : Fld} (v : Nat) (hf : f.addr ∈ l) (h : sameBut l c d) : sameBut l c (d.set f v) :=
  sameBut_wr _ hf h

/-- The bit of a field that was set. -/
theorem Chip.getBit_setBit_same (c : Chip) (f : Fld) {k : Nat} (b : Bool) (h : f.lo + k < 48) : (c.setBit f k b).getBit f k = b := by
  rw [Chip.getBit, Chip.setBit, Chip.rd_wr_same, Word.field_setField_same _ _ _ _ h]
  cases b <;> rfl

/-- A field of another word, or of the same word below the field, keeps its value when a bit of the field is set. -/
theorem Chip.get_setBit_below (c : Chip) (f : Fld) {g : Fld} (k : Nat) (b : Bool) (h : g.addr ≠ f.addr ∨ g.lo + g.width ≤ f.lo) :
    (c.setBit f k b).get g = c.get g :=
  Chip.get_set_ne c ⟨f.addr, f.lo + k, 1⟩ g _ (by dsimp only; omega)

/-! ### Setting the angle (R162, R177) -/

section
variable {α : Type} {n : Nat} (p : Chip → α) (hkerf : ∀ c f, p (c.modKerf n f) = p c)
include hkerf

/-- What no update of a Kerf table touches, its advance leaves alone. -/
theorem advanceKerf_keeps (jump : Bool) (c : Chip) : p (advanceKerf jump n c) = p c := by
  simp only [advanceKerf]
  split
  · rfl
  · exact (hkerf _ _).trans (hkerf _ _)

/-- What no update of a Kerf table touches, its start leaves alone. -/
theorem startKerf_keeps (c : Chip) : p (startKerf n c) = p c := by
  simp only [startKerf]
  split
  · rfl
  · exact hkerf _ _

/-- An angle set is written to ANG; then the window bits are formed anew and the table on the tracker moves. -/
theorem setAngle_after_write (hwin : ∀ c k b, p (c.setBit (F.AT_STAT_WIN n) k b) = p c) (a : Word) (c : Chip) :
    p (setAngle n a c) = p (c.wr (F.AT_ANG n) a) :=
  (advanceKerf_keeps p hkerf true _).trans (Chip.forN_keeps p (fun k c => hwin c k _) 4 _)

end

/-- The source that feeds the loop depends on three fields alone. -/
theorem activeSrc_congr {c d : Chip} {n : Nat} (haltact : d.get (F.AT_STAT_ALTACT n) = c.get (F.AT_STAT_ALTACT n))
    (halt : d.get (F.AT_CFG_ALT n) = c.get (F.AT_CFG_ALT n)) (hsrc : d.get (F.AT_CFG_SRC n) = c.get (F.AT_CFG_SRC n)) :
    activeSrc d n = activeSrc c n := by
  have halternative : altOf d n = altOf c n := by
    unfold altOf srcOf
    rw [halt, hsrc]
  unfold activeSrc srcOf Chip.is
  rw [haltact, halternative, hsrc]

theorem stat_ne_ang (n : Nat) : (0x30009 : Nat) + 0x20 * n ≠ F.AT_ANG n := by simp only [F.AT_ANG]; omega

section
variable (n : Nat) (a : Word) (c : Chip)

theorem setAngle_ang : (setAngle n a c).rd (F.AT_ANG n) = a :=
  (setAngle_after_write (Chip.rd · (F.AT_ANG n)) (fun _ _ => rfl) (fun c k b => Chip.rd_setBit_ne c _ k b (stat_ne_ang n).symm) a c).trans
    (Chip.rd_wr_same c _ a)

theorem setAngle_get {g : Fld} (ha : g.addr ≠ F.AT_ANG n) (hw : g.addr ≠ 0x30009 + 0x20 * n ∨ g.lo + g.width ≤ 16) :
    (setAngle n a c).get g = c.get g :=
  (setAngle_after_write (Chip.get · g) (fun _ _ => rfl) (fun c k b => Chip.get_setBit_below c _ k b hw) a c).trans (Chip.get_wr_ne c _ a g ha)

theorem setAngle_trackers : (setAngle n a c).trackers = c.trackers :=
  setAngle_after_write Chip.trackers (fun _ _ => rfl) (fun _ _ _ => rfl) a c

theorem setAngle_activeSrc : activeSrc (setAngle n a c) n = activeSrc c n := by
  have halt : (setAngle n a c).get (F.AT_CFG_ALT n) = c.get (F.AT_CFG_ALT n) :=
    setAngle_get n a c (by simp only [F.AT_CFG_ALT, F.AT_ANG]; omega) (.inl (by simp only [F.AT_CFG_ALT]; omega))
  have hsrc : (setAngle n a c).get (F.AT_CFG_SRC n) = c.get (F.AT_CFG_SRC n) :=
    setAngle_get n a c (by simp only [F.AT_CFG_SRC, F.AT_ANG]; omega) (.inl (by simp only [F.AT_CFG_SRC]; omega))
  have haltact : (setAngle n a c).get (F.AT_STAT_ALTACT n) = c.get (F.AT_STAT_ALTACT n) :=
    setAngle_get n a c (stat_ne_ang n) (.inr (by simp [F.AT_STAT_ALTACT]))
  exact activeSrc_congr haltact halt hsrc

theorem sameBut_setAngle : sameBut [F.AT_ANG n, (F.AT_STAT_HOMED n).addr] c (setAngle n a c) := by
  refine ⟨fun b hb => ?_, setAngle_after_write Chip.lanes (fun _ _ => rfl) (fun _ _ _ => rfl) a c,
    setAngle_after_write Chip.zmem (fun _ _ => rfl) (fun _ _ _ => rfl) a c, setAngle_after_write Chip.store (fun _ _ => rfl) (fun _ _ _ => rfl) a c⟩
  obtain ⟨hang, hstat⟩ : b ≠ F.AT_ANG n ∧ b ≠ (F.AT_STAT_HOMED n).addr := by simpa using hb
  exact (setAngle_after_write (Chip.rd · b) (fun _ _ => rfl) (fun c k v => Chip.rd_setBit_ne c _ k v hstat) a c).trans (Chip.rd_wr_ne c a hang)

end

/-- A first measurement is the angle, and the tracker is valid (R172). -/
theorem firstMeasurement_effect (n : Nat) (a : Word) (c : Chip) :
    (firstMeasurement n a c).rd (F.AT_ANG n) = a ∧ (firstMeasurement n a c).is (F.AT_STAT_VALID n) = true := by
  have hstarted := startKerf_keeps (n := n) (fun d : Chip => (d.rd (F.AT_ANG n), d.is (F.AT_STAT_VALID n))) (fun _ _ => rfl)
    (showHomed n ((setAngle n a c).raise (F.AT_STAT_VALID n)))
  obtain ⟨hang, hvalid⟩ := Prod.mk.inj hstarted
  constructor
  · rw [firstMeasurement, hang, showHomed, Chip.rd_setb_ne _ _ _ (stat_ne_ang n).symm, Chip.rd_raise_ne _ _ (stat_ne_ang n).symm, setAngle_ang]
  · rw [firstMeasurement, hvalid, showHomed, Chip.is, Chip.get_setb_ne _ _ _ _ (by simp [F.AT_STAT_VALID, F.AT_STAT_HOMED])]
    exact Chip.is_raise_same _ _ rfl (by simp [F.AT_STAT_VALID])

/-! ### Measurements and source faults (R165, R171) -/

theorem exec_trackerMeasurement_of_going {s : State} (n : Fin 6) (m : TrackerMeas) (h : going s.chip = true) :
    exec (.trackerMeasurement n m) s = .next (s.acted (trackerMeasure n m s.chip)) := running_of_going h (trackerMeasure n m)

theorem deliverFault_of_active {n src : Nat} {c : Chip} (h : activeSrc c n = src) : deliverFault n src c = sourceFault n c := if_pos h.symm

@[simp] theorem trackerFault_is (n : Nat) (c : Chip) (f : Fld) : (trackerFault n c).is f = c.is f :=
  Chip.forEach_keeps (Chip.is · f) (fun a d => notice_is d (.axis a .tracker) f) (trackerAxes c n) c

/-- A fault of an enabled tracker's source is shown, whether the alternative source takes over or the tracker holds (R171). -/
theorem sourceFault_srcflt {n : Nat} {c : Chip} (h : srcOf c n ≠ 0) : (sourceFault n c).is (F.AT_STAT_SRCFLT n) = true := by
  have hraised : (trackerFault n (c.raise (F.AT_STAT_SRCFLT n))).is (F.AT_STAT_SRCFLT n) = true := by
    rw [trackerFault_is]; exact Chip.is_raise_same c _ rfl (by simp [F.AT_STAT_SRCFLT])
  simp only [sourceFault, if_neg h]
  split
  · rw [showHomed, Chip.is, Chip.get_setb_ne _ _ _ _ (by simp [F.AT_STAT_SRCFLT, F.AT_STAT_HOMED]),
      Chip.get_raise_ne _ _ _ (by simp [F.AT_STAT_SRCFLT, F.AT_STAT_ALTACT])]
    exact hraised
  · exact hraised

section
variable {n : Nat} {c : Chip} (hr : c.mode ≠ .reset) (hb : c.mode ≠ .boot)
include hr hb

theorem trackerMeasure_resolver (hu : usesSrc c n 1 = true) : trackerMeasure n .resolver c = resolverMeasure n c := by
  simp only [trackerMeasure, hr, hb, hu, or_self, if_true, if_false]

/-- A quadrature edge counts one up or down within a turn, and delivers the angle of the count (R165). -/
theorem trackerMeasure_encoder (up : Bool) (hu : usesSrc c n 2 = true) {k : Nat}
    (hk : (k : Int) = (((c.tracker n).cnt : Int) + (if up then 1 else -1)) % ((4 * encLines c n : Nat) : Int)) :
    trackerMeasure n (.encoder up) c =
      deliver n 2 (encoderAngle c n k) (c.rd (F.AT_ANG n)) (c.modTracker n (fun t => { t with cnt := k })) := by
  simp only [trackerMeasure, hr, hb, hu, ← hk, or_self, if_true, if_false, Int.toNat_natCast]
  rfl

theorem trackerMeasure_encoderBoth (hu : usesSrc c n 2 = true) : trackerMeasure n .encoderBoth c = deliverFault n 2 c := by
  simp only [trackerMeasure, hr, hb, hu, or_self, if_true, if_false]

/-- A code that names no sector is a fault of the Hall source (R165). -/
theorem trackerMeasure_hall_of_no_sector {code : BitVec 3} (hu : usesSrc c n 3 = true) (hs : hallSector code.toNat = none) :
    trackerMeasure n (.hall code) c = deliverFault n 3 c := by
  simp only [trackerMeasure, hr, hb, hu, hallCode, hs, or_self, if_true, if_false]

end

theorem four_encLines_pos (c : Chip) (n : Nat) : (0 : Int) < ((4 * encLines c n : Nat) : Int) := by
  have : 1 ≤ encLines c n := Nat.le_max_left _ _
  omega

/-- Settles O35: each measurement is a delivery or a fault of its source by its own branch of the model; the first measurement sets ANG before
anything else, and no later update of STAT meets SRCFLT or VALID. -/
theorem measurementsReachTheTracker : Obligations.MeasurementsReachTheTracker := by
  unfold Obligations.MeasurementsReachTheTracker
  refine ⟨fun s n m h => exec_trackerMeasurement_of_going n m h, fun n c hr hb hu ha hlow => ?_, fun n c hr hb hu hlo hhi => ?_,
    fun n up c hr hb hu => ?_, fun n c hr hb hu ha => ?_, fun n c hr hb hu ha => ⟨?_, ?_⟩, fun n a c _ => firstMeasurement_effect n a c,
    fun n c h => sourceFault_srcflt h⟩
  · rw [trackerMeasure_resolver hr hb hu]
    exact (if_pos (.inl hlow)).trans (deliverFault_of_active ha)
  · rw [trackerMeasure_resolver hr hb hu]
    exact if_neg (not_or.mpr ⟨not_lt.mpr hlo, not_lt.mpr hhi⟩)
  · have hcnt := Int.toNat_of_nonneg (Int.emod_nonneg (((c.tracker n).cnt : Int) + (if up then 1 else -1)) (four_encLines_pos c n).ne')
    exact ⟨_, _, hcnt, trackerMeasure_encoder hr hb up hu hcnt, tracker_modTracker_keeps Tracker.indexed (fun _ => by rfl) c n, sameBut_refl [] c⟩
  · rw [trackerMeasure_encoderBoth hr hb hu, deliverFault_of_active ha]
  · rw [trackerMeasure_hall_of_no_sector hr hb hu rfl, deliverFault_of_active ha]
  · rw [trackerMeasure_hall_of_no_sector hr hb hu rfl, deliverFault_of_active ha]

/-! ### Index edges, time-outs and holds (R165, R166, R171) -/

theorem exec_indexEdge_of_going {s : State} (n : Fin 6) (h : going s.chip = true) :
    exec (.indexEdge n) s = .next (s.acted (indexEdge n s.chip)) := running_of_going h (indexEdge n)

theorem exec_sourceTimeout_of_going {s : State} (n : Fin 6) (alt : Bool) (h : going s.chip = true) :
    exec (.sourceTimeout n alt) s = .next (s.acted (sourceTimeout n alt s.chip)) := running_of_going h (sourceTimeout n alt)

theorem exec_holdExpiry_of_going {s : State} (n : Fin 6) (h : going s.chip = true) :
    exec (.holdExpiry n) s = .next (s.acted (holdExpiry n s.chip)) := running_of_going h (holdExpiry n)

theorem exec_angleWindowCrossing_of_going {s : State} (n : Fin 6) (w : Fin 4) (hi : Bool) (h : going s.chip = true) :
    exec (.angleWindowCrossing n w hi) s = .next (s.acted (windowCrossing n w hi s.chip)) := running_of_going h (windowCrossing n w hi)

/-- The tracker on an encoder's first index edge: the count is 0, and the angle and HOMED are set from it (R166). -/
def indexHomed (n : Nat) (c : Chip) : Chip :=
  showHomed n (setAngle n (encoderAngle c n 0) (c.modTracker n (fun t => { t with cnt := 0, indexed := true })))

section
variable {n : Nat} {c : Chip}

theorem indexEdge_first (hr : c.mode ≠ .reset) (hb : c.mode ≠ .boot) (hu : usesSrc c n 2 = true) (ha : activeSrc c n = 2)
    (hx : c.is (F.AT_SRC_P3 n) = true) (hi : (c.tracker n).indexed = false) : indexEdge n c = updateFollow (indexHomed n c) := by
  simp only [indexEdge, hu, hx, hi, ha, bne_iff_ne.mpr hr, bne_iff_ne.mpr hb, Bool.and_self, Bool.not_false, if_true]
  rfl

theorem indexHomed_homed (ha : activeSrc c n = 2) (hn : n < c.trackers.length) : (indexHomed n c).is (F.AT_STAT_HOMED n) = true := by
  have hactive : activeSrc (c.modTracker n (fun t => { t with cnt := 0, indexed := true })) n = 2 := ha
  have hindexed : ((c.modTracker n (fun t => { t with cnt := 0, indexed := true })).tracker n).indexed = true := by
    rw [tracker_modTracker_same _ hn]
  rw [indexHomed, showHomed, Chip.is_setb_same _ _ _ rfl (by simp [F.AT_STAT_HOMED]), setAngle_activeSrc, if_pos hactive, Chip.tracker,
    setAngle_trackers]
  exact hindexed

theorem indexHomed_ang : (indexHomed n c).rd (F.AT_ANG n) = encoderAngle c n 0 := by
  rw [indexHomed, showHomed, Chip.rd_setb_ne _ _ _ (stat_ne_ang n).symm, setAngle_ang]

theorem sameBut_indexHomed : sameBut [F.AT_ANG n, (F.AT_STAT_HOMED n).addr] c (indexHomed n c) :=
  sameBut_wr _ (by simp) (sameBut_setAngle n (encoderAngle c n 0) (c.modTracker n (fun t => { t with cnt := 0, indexed := true })))

/-- A time-out of the source that feeds the loop is a fault where that source measures at its own times: RESOLVER, OBSERVER and GRID (R165). -/
theorem sourceTimeout_of_active {alt : Bool} (h : c.is (F.AT_STAT_ALTACT n) = alt)
    (ha : activeSrc c n = 1 ∨ activeSrc c n = 4 ∨ activeSrc c n = 5) :
    sourceTimeout n alt c =
      sourceFault n (c.modTracker n (fun t => if alt then { t with altFresh := false } else { t with primFresh := false })) := by
  have hactive (f : Tracker → Tracker) : activeSrc (c.modTracker n f) n = activeSrc c n := rfl
  simp only [sourceTimeout, modTracker_is, h, if_true, hactive]
  rcases ha with ha | ha | ha <;> simp only [ha]

/-- The tracker whose hold has run out: it no longer holds, VALID is clear and HOLDEXP set (R171). -/
def holdEnded (n : Nat) (c : Chip) : Chip :=
  showHomed n (((c.modTracker n (fun t => { t with holding := false })).setb (F.AT_STAT_VALID n) false).raise (F.AT_STAT_HOLDEXP n))

theorem holdExpiry_of_holding (h : (c.tracker n).holding = true) :
    holdExpiry n c = updateFollow (trackerFault n (validLost n (holdEnded n c))) := if_pos h

theorem holdEnded_valid : (holdEnded n c).is (F.AT_STAT_VALID n) = false := by
  rw [holdEnded, showHomed, Chip.is, Chip.get_setb_ne _ _ _ _ (by simp [F.AT_STAT_VALID, F.AT_STAT_HOMED]),
    Chip.get_raise_ne _ _ _ (by simp [F.AT_STAT_VALID, F.AT_STAT_HOLDEXP])]
  exact Chip.is_setb_same _ _ _ rfl (by simp [F.AT_STAT_VALID])

theorem holdEnded_holdexp : (holdEnded n c).is (F.AT_STAT_HOLDEXP n) = true := by
  rw [holdEnded, showHomed, Chip.is, Chip.get_setb_ne _ _ _ _ (by simp [F.AT_STAT_HOLDEXP, F.AT_STAT_HOMED])]
  exact Chip.is_raise_same _ _ rfl (by simp [F.AT_STAT_HOLDEXP])

theorem sameBut_holdEnded : sameBut [(F.AT_STAT_VALID n).addr] c (holdEnded n c) :=
  have hvalid := sameBut_set (f := F.AT_STAT_VALID n) (d := c.modTracker n (fun t => { t with holding := false })) 0 (List.mem_singleton_self _)
    (sameBut_refl _ c)
  have hholdexp := sameBut_set (f := F.AT_STAT_HOLDEXP n) 1 (by simp [F.AT_STAT_HOLDEXP, F.AT_STAT_VALID]) hvalid
  sameBut_set (f := F.AT_STAT_HOMED n) _ (by simp [F.AT_STAT_HOMED, F.AT_STAT_VALID]) hholdexp

end

/-! ### Windows (R177) -/

section
variable {n w : Nat} {hi : Bool} {c : Chip}

theorem windowCrossing_of_crossed
    (h : (crossed (c.rd (if hi then F.AT_WIN_HI n w else F.AT_WIN_LO n w)) (c.tracker n).th (c.tracker n).inc).isSome = true) :
    windowCrossing n w hi c = c.setBit (F.AT_STAT_WIN n) w
      (windowAfter (c.rd (F.AT_WIN_LO n w)) (c.rd (F.AT_WIN_HI n w)) (c.tracker n).th (c.tracker n).inc (c.getBit (F.AT_STAT_WIN n) w)) :=
  if_neg (by rw [Option.isNone_iff_eq_none]; exact Option.isSome_iff_ne_none.mp h)

theorem windowCrossing_of_uncrossed
    (h : crossed (c.rd (if hi then F.AT_WIN_HI n w else F.AT_WIN_LO n w)) (c.tracker n).th (c.tracker n).inc = none) :
    windowCrossing n w hi c = c := if_pos (Option.isNone_iff_eq_none.mpr h)

end

section
variable {lo hi th : Word} {inc : Int}

/-- A travel over the bound that it enters by, and not over the other, ends in the window. -/
theorem windowAfter_of_entered (was : Bool) (hne : lo ≠ hi) (he : crossed (if 0 < inc then lo else hi) th inc ≠ none)
    (hl : crossed (if 0 < inc then hi else lo) th inc = none) : windowAfter lo hi th inc was = true := by
  simp only [windowAfter, if_neg hne, Option.isSome_iff_ne_none.mpr he, hl, if_true, Option.isSome_none, Bool.not_false, Bool.true_or]

/-- A travel over the bound that it leaves by, and not over the other, ends outside the window. -/
theorem windowAfter_of_left (was : Bool) (he : crossed (if 0 < inc then lo else hi) th inc = none)
    (hl : crossed (if 0 < inc then hi else lo) th inc ≠ none) : windowAfter lo hi th inc was = false := by
  simp only [windowAfter, he, Option.isSome_iff_ne_none.mpr hl, Option.isSome_none, Bool.false_eq_true, if_false, Bool.not_true, Bool.and_false,
    ite_self]

end

/-- A window whose bounds are equal holds no angle. -/
theorem inAngleWindow_of_equal_bounds (lo a : Word) (r : Bool) : inAngleWindow lo lo a r = false := by simp [inAngleWindow]

/-- Settles O36: the chips after the index edge and after the hold are named and read field by field; a window bit follows the two crossings. -/
theorem indexTimeoutHoldAndWindows : Obligations.IndexTimeoutHoldAndWindows := by
  unfold Obligations.IndexTimeoutHoldAndWindows
  refine ⟨fun s n hg hb hu ha hx hn hi => ?_, fun s n alt hg halt ha => ?_, fun s n hg hh => ?_, fun s n w hi hg hc => ?_,
    fun s n w hi hg hc => ?_, fun lo hi th inc was hne he hl => windowAfter_of_entered was hne he hl,
    fun lo hi th inc was he hl => windowAfter_of_left was he hl, inAngleWindow_of_equal_bounds⟩
  · obtain ⟨hr, -⟩ : s.chip.mode ≠ .reset ∧ s.chip.clk.gated = false := by simpa [going] using hg
    exact ⟨indexHomed n s.chip, by rw [exec_indexEdge_of_going n hg, indexEdge_first hr hb hu ha hx hi], indexHomed_homed ha hn, indexHomed_ang,
      sameBut_indexHomed⟩
  · rw [exec_sourceTimeout_of_going n alt hg, sourceTimeout_of_active halt ha]
  · exact ⟨holdEnded n s.chip, by rw [exec_holdExpiry_of_going n hg, holdExpiry_of_holding hh], holdEnded_valid, holdEnded_holdexp,
      sameBut_holdEnded⟩
  · exact ⟨_, by rw [exec_angleWindowCrossing_of_going n w hi hg, windowCrossing_of_crossed hc],
      Chip.getBit_setBit_same _ _ _ (by simp only [F.AT_STAT_WIN]; omega), sameBut_wr _ (List.mem_singleton_self _) (sameBut_refl _ _)⟩
  · rw [exec_angleWindowCrossing_of_going n w hi hg, windowCrossing_of_uncrossed hc]

/-! ### Kerf boundaries (R182, R184, R185) -/

theorem exec_kerfEntry_of_going {s : State} (n : Fin 6) (h : going s.chip = true) :
    exec (.kerfEntry n) s = .next (s.acted (kerfEntry n s.chip)) := running_of_going h (kerfEntry n)

theorem exec_kerfBoundary_of_going {s : State} (n j : Fin 6) (h : going s.chip = true) :
    exec (.kerfBoundary n j) s = .next (s.acted (kerfBoundary n j s.chip)) := running_of_going h (kerfBoundary n j)

theorem kerfBoundary_of_stopped {n : Nat} {c : Chip} (j : Nat) (h : kerfRuns c n = false) : kerfBoundary n j c = c := by
  simp only [kerfBoundary, h, Bool.not_false, Bool.true_or, if_true]

theorem kerfBoundary_of_uncrossed {n : Nat} {c : Chip} (j : Nat) (h : boundaryCrossed c n = false) : kerfBoundary n j c = c := by
  simp only [kerfBoundary, h, Bool.not_false, Bool.or_true, Bool.true_or, if_true]

/-- Boundary j of table n has been crossed: its segment shows, and the next boundary is the one behind it in the direction of travel. -/
def segmentShown (n j : Nat) (c : Chip) : Chip :=
  let item := nextItem (c.kerf n).rev (c.kerf n).bnd
  (c.set (F.KT_STAT_SEG n) j).modKerf n (fun q => { q with bnd := if q.rev then item else item + 1, bndUp := none })

section
variable {n j : Nat} {c : Chip}

theorem segmentShown_seg (hj : j < 6) : (segmentShown n j c).get (F.KT_STAT_SEG n) = j :=
  (Chip.get_set_same c (F.KT_STAT_SEG n) j (by simp [F.KT_STAT_SEG])).trans (Nat.mod_eq_of_lt (by simp only [F.KT_STAT_SEG]; omega))

theorem segmentShown_pending : ((segmentShown n j c).kerf n).pending = (c.kerf n).pending :=
  kerf_modKerf_keeps Kerf.pending (fun _ => by rfl) (c.set (F.KT_STAT_SEG n) j) n

theorem sameBut_segmentShown : sameBut [(F.KT_STAT_SEG n).addr] c (segmentShown n j c) :=
  sameBut_wr _ (List.mem_singleton_self _) (sameBut_refl _ c)

section
variable (hrun : kerfRuns c n = true) (hx : boundaryCrossed c n = true) (he : entryBefore c n (nextBoundaryAngle c n) = false)
  (hj : nextItem (c.kerf n).rev (c.kerf n).bnd % (patSegs c n (c.get (F.KT_STAT_CURPAT n)) : Int) = j)
include hrun hx he hj

/-- The next boundary, crossed with no entry before it, shows its segment; what is pending is taken unless it comes late (R184, R185). -/
theorem kerfBoundary_of_crossed :
    kerfBoundary n j c = match (c.kerf n).pending with
      | none => segmentShown n j c
      | some ks =>
        if (c.kerf n).bndUp.getD c.up ≤ (c.kerf n).commitUp then (segmentShown n j c).raise (F.KT_STAT_COMMIT_LATE n)
        else takeKerf n ks (boundaryAngle (patSegs c n (c.get (F.KT_STAT_CURPAT n))) j)
          (nextItem (c.kerf n).rev (c.kerf n).bnd / (patSegs c n (c.get (F.KT_STAT_CURPAT n)) : Int))
          (crossFine c n (nextBoundaryAngle c n)) (segmentShown n j c) := by
  have hgo : (!kerfRuns c n || nextItem (c.kerf n).rev (c.kerf n).bnd % (patSegs c n (c.get (F.KT_STAT_CURPAT n)) : Int) != j ||
      !boundaryCrossed c n || entryBefore c n (nextBoundaryAngle c n)) = false := by simp [hrun, hx, he, hj]
  exact if_neg (ne_true_of_eq_false hgo)

theorem kerfBoundary_with_nothing_pending (hp : (c.kerf n).pending = none) : kerfBoundary n j c = segmentShown n j c := by
  rw [kerfBoundary_of_crossed hrun hx he hj, hp]

theorem kerfBoundary_with_late_set {ks : KerfSet} (hp : (c.kerf n).pending = some ks) (hl : (c.kerf n).bndUp.getD c.up ≤ (c.kerf n).commitUp) :
    kerfBoundary n j c = (segmentShown n j c).raise (F.KT_STAT_COMMIT_LATE n) := by
  rw [kerfBoundary_of_crossed hrun hx he hj, hp]
  exact if_pos hl

theorem kerfBoundary_with_set_in_time {ks : KerfSet} (hp : (c.kerf n).pending = some ks)
    (hl : (c.kerf n).commitUp < (c.kerf n).bndUp.getD c.up) :
    kerfBoundary n j c = takeKerf n ks (boundaryAngle (patSegs c n (c.get (F.KT_STAT_CURPAT n))) j)
      (nextItem (c.kerf n).rev (c.kerf n).bnd / (patSegs c n (c.get (F.KT_STAT_CURPAT n)) : Int))
      (crossFine c n (nextBoundaryAngle c n)) (segmentShown n j c) := by
  rw [kerfBoundary_of_crossed hrun hx he hj, hp]
  exact if_neg (Nat.not_le.mpr hl)

end

/-- A set that comes late leaves the segment shown, and waits. -/
theorem late_set_waits (hj : j < 6) :
    ((segmentShown n j c).raise (F.KT_STAT_COMMIT_LATE n)).get (F.KT_STAT_SEG n) = j ∧
      ((segmentShown n j c).raise (F.KT_STAT_COMMIT_LATE n)).is (F.KT_STAT_COMMIT_LATE n) = true ∧
      (((segmentShown n j c).raise (F.KT_STAT_COMMIT_LATE n)).kerf n).pending = (c.kerf n).pending ∧
      sameBut [(F.KT_STAT_SEG n).addr] c ((segmentShown n j c).raise (F.KT_STAT_COMMIT_LATE n)) := by
  refine ⟨?_, Chip.is_raise_same _ _ rfl (by simp [F.KT_STAT_COMMIT_LATE]), ?_,
    sameBut_set _ (by simp [F.KT_STAT_COMMIT_LATE, F.KT_STAT_SEG]) sameBut_segmentShown⟩
  · rw [Chip.get_raise_ne _ _ _ (by simp [F.KT_STAT_SEG, F.KT_STAT_COMMIT_LATE]), segmentShown_seg hj]
  · rw [Chip.raise_kerf, segmentShown_pending]

end

/-! ### A pending set is taken (R185, R186) -/

theorem setEngaged_of_same {n : Nat} {eng : Bool} {c : Chip} (t : BitVec 72) (h : c.is (F.KT_STAT_ENGD n) = eng) : setEngaged n eng t c = c := if_pos h

/-- The origin of a set is in force, as far as ORGMAX lets it move. -/
def originTaken (n : Nat) (ks : KerfSet) (c : Chip) : Chip :=
  let lim : Int := (c.get (F.KT_CTL_ORGMAX n) * 2 ^ 40 : Nat)
  let d := sdiff48 ks.norg (c.rd (F.KT_ORG n))
  let e := if clampInt (-lim) lim d = d then c else c.raise (F.KT_STAT_ORGCLAMP n)
  e.wr (F.KT_ORG n) (e.rd (F.KT_ORG n) + BitVec.ofInt 48 (clampInt (-lim) lim d))

theorem originTaken_engd (n : Nat) (ks : KerfSet) (c : Chip) : (originTaken n ks c).get (F.KT_STAT_ENGD n) = c.get (F.KT_STAT_ENGD n) := by
  simp only [originTaken]
  rw [Chip.get_wr_ne _ _ _ _ (by simp only [F.KT_STAT_ENGD, F.KT_ORG]; omega)]
  split
  · rfl
  · exact Chip.get_raise_ne _ _ _ (by simp [F.KT_STAT_ENGD, F.KT_STAT_ORGCLAMP])

/-- NOBND is set where no entry stands at the boundary at which a set is taken. -/
def boundaryNoted (n : Nat) (found : Bool) (c : Chip) : Chip := if found then c else c.raise (F.KT_STAT_NOBND n)

theorem boundaryNoted_get (n : Nat) (found : Bool) (c : Chip) {g : Fld} (h : 6 ≤ g.lo) : (boundaryNoted n found c).get g = c.get g := by
  simp only [boundaryNoted]
  split
  · rfl
  · exact Chip.get_raise_ne c _ g (by simp only [F.KT_STAT_NOBND]; omega)

/-- The set taken is engaged or released last, its origin and pattern being in force, the cursor placed and a missing entry noted. -/
theorem takeKerf_eq (n : Nat) (ks : KerfSet) (b : Word) (turn : Int) (f : Nat) (c : Chip) :
    ∃ (t : BitVec 72) (place : Kerf → Kerf) (found : Bool), takeKerf n ks b turn f c = setEngaged n ks.eng t
      ((discardPending n (boundaryNoted n found (((originTaken n ks c).set (F.KT_STAT_CURPAT n) ks.pat).modKerf n place))).raise (F.KT_STAT_SWITCHED n)) :=
  ⟨_, _, _, rfl⟩

/-- Taking the pending set's mark away and showing SWITCHED changes no other field of STAT. -/
theorem switched_get {n : Nat} {g : Fld} (d : Chip) (hg : 1 ≤ g.lo) (ha : g.addr = 0x30405 + 0x20 * n) :
    ((discardPending n d).raise (F.KT_STAT_SWITCHED n)).get g = d.get g := by
  rw [Chip.get_raise_ne _ _ _ (by simp only [F.KT_STAT_SWITCHED]; omega), discardPending,
    Chip.get_setb_ne _ _ _ _ (by simp only [F.KT_COMMIT_PENDING, ha]; omega), modKerf_get]

/-- A set that keeps the engagement shows SWITCHED and its pattern, and no longer waits. -/
theorem takeKerf_effect {n : Nat} {ks : KerfSet} {c : Chip} (b : Word) (turn : Int) (f : Nat) (h : ks.eng = c.is (F.KT_STAT_ENGD n)) :
    (takeKerf n ks b turn f c).is (F.KT_STAT_SWITCHED n) = true ∧ (takeKerf n ks b turn f c).get (F.KT_STAT_CURPAT n) = ks.pat % 8 ∧
      (takeKerf n ks b turn f c).is (F.KT_COMMIT_PENDING n) = false := by
  obtain ⟨t, place, found, htake⟩ := takeKerf_eq n ks b turn f c
  have hpat : ((originTaken n ks c).set (F.KT_STAT_CURPAT n) ks.pat).get (F.KT_STAT_CURPAT n) = ks.pat % 8 :=
    Chip.get_set_same _ _ _ (by simp [F.KT_STAT_CURPAT])
  have hengd : ((originTaken n ks c).set (F.KT_STAT_CURPAT n) ks.pat).get (F.KT_STAT_ENGD n) = c.get (F.KT_STAT_ENGD n) := by
    rw [Chip.get_set_ne _ _ _ _ (by simp [F.KT_STAT_ENGD, F.KT_STAT_CURPAT]), originTaken_engd]
  rw [htake, setEngaged_of_same]
  · refine ⟨Chip.is_raise_same _ _ rfl (by simp [F.KT_STAT_SWITCHED]), ?_, ?_⟩
    · rw [switched_get _ (by simp [F.KT_STAT_CURPAT]) rfl, boundaryNoted_get _ _ _ (by simp [F.KT_STAT_CURPAT]), modKerf_get, hpat]
    · rw [Chip.is, Chip.get_raise_ne _ _ _ (by simp only [F.KT_COMMIT_PENDING, F.KT_STAT_SWITCHED]; omega)]
      exact Chip.is_setb_same _ _ _ rfl (by simp [F.KT_COMMIT_PENDING])
  · rw [h, Chip.is, switched_get _ (by simp [F.KT_STAT_ENGD]) rfl, boundaryNoted_get _ _ _ (by simp [F.KT_STAT_ENGD]), modKerf_get, hengd, Chip.is]

/-! ### Kerf entries (R178, R180) -/

/-- The entry of the table that the cursor of table n examines next, counted from the table's first. -/
def nextEntry (n : Nat) (c : Chip) : Nat :=
  c.get (F.KT_PAT_FIRST n (c.get (F.KT_STAT_CURPAT n))) +
    (nextItem (c.kerf n).rev (c.kerf n).cursor % (patCount c n (c.get (F.KT_STAT_CURPAT n)) : Int)).toNat

/-- The cursor of table n moves over the item that it examined, in the present cycle. -/
def cursorMoved (n : Nat) (c : Chip) : Chip :=
  let item := nextItem (c.kerf n).rev (c.kerf n).cursor
  c.modKerf n (fun q => { q with cursor := if q.rev then item else item + 1, execUp := some c.up })

/-- Entry i of table n acts out of order or late: ORDER shows the first; either is counted, and LATE set. -/
def entryMarked (n i : Nat) (dis late : Bool) (c : Chip) : Chip :=
  let c := if dis then c.raise (F.KT_STAT_ORDER n) else c
  if dis || late then ((c.raise (F.KT_STAT_LATE n)).countSat (F.KT_STAT_LATECNT n) 1).occur 0x10 (some n) (BitVec.ofNat 48 i) else c

section
variable {n : Nat} {c : Chip}

theorem kerfEntry_of_stopped (h : kerfRuns c n = false) : kerfEntry n c = c := by
  simp only [kerfEntry, kerfBoundary_of_stopped _ h, h, Bool.not_false, Bool.true_or, if_true]
  split <;> rfl

theorem kerfEntry_of_uncrossed (hb : boundaryCrossed c n = false) (he : entryCrossed c n = false) : kerfEntry n c = c := by
  simp only [kerfEntry, kerfBoundary_of_uncrossed _ hb, he, Bool.not_false, Bool.or_true, Bool.true_or, if_true]
  split <;> rfl

/-- An entry that has been crossed acts, the cursor having moved over it and what it shows late or out of order being marked. -/
theorem kerfEntry_of_crossed {a : Int} (hrun : kerfRuns c n = true) (hb : boundaryCrossed c n = false) (ha : nextEntryAngle c n = some a)
    (he : entryCrossed c n = true) (hup : (c.kerf n).execUp ≠ some c.up) :
    ∃ dis : Bool, kerfEntry n c = kerfAct n (nextEntry n c) (c.kerf n).rev (crossFine c n a)
      (entryMarked n (nextEntry n c) dis (beyond (c.kerf n).rev (c.kerf n).prev a) (cursorMoved n c)) := by
  have hgo : (!kerfRuns c n || !entryCrossed c n || (c.kerf n).execUp == some c.up) = false := by simp [hrun, he, hup]
  simp only [kerfEntry, kerfBoundary_of_uncrossed _ hb, ha, hgo, Bool.false_eq_true, if_false]
  exact ⟨_, rfl⟩

theorem entryMarked_kerf (i : Nat) (dis late : Bool) : (entryMarked n i dis late c).kerf n = c.kerf n := by
  cases dis <;> cases late <;> simp [entryMarked]

/-- Marking an entry writes the table's STAT and nothing else. -/
theorem sameBut_entryMarked (i : Nat) (dis late : Bool) : sameBut [(F.KT_STAT_LATE n).addr] c (entryMarked n i dis late c) := by
  have hlate {d : Chip} (h : sameBut [(F.KT_STAT_LATE n).addr] c d) : sameBut [(F.KT_STAT_LATE n).addr] c
      (((d.raise (F.KT_STAT_LATE n)).countSat (F.KT_STAT_LATECNT n) 1).occur 0x10 (some n) (BitVec.ofNat 48 i)) := by
    have hraised := sameBut_set (f := F.KT_STAT_LATE n) 1 (List.mem_singleton_self _) h
    exact sameBut_trans (sameBut_set (f := F.KT_STAT_LATECNT n) _ (by simp [F.KT_STAT_LATECNT, F.KT_STAT_LATE]) hraised) (sameBut_occur _ _ _ _)
  have horder : sameBut [(F.KT_STAT_LATE n).addr] c (c.raise (F.KT_STAT_ORDER n)) :=
    sameBut_set _ (by simp [F.KT_STAT_ORDER, F.KT_STAT_LATE]) (sameBut_refl _ c)
  simp only [entryMarked]
  cases dis with
  | true => simpa only [Bool.true_or, if_true] using hlate horder
  | false =>
    cases late with
    | true => simpa only [Bool.false_or, Bool.false_eq_true, if_true, if_false] using hlate (sameBut_refl _ c)
    | false => simpa only [Bool.or_self, Bool.false_eq_true, if_false] using sameBut_refl _ c

/-- An entry that had been crossed before is counted, up to 255, and LATE is set (R180). -/
theorem entryMarked_late (i : Nat) (dis : Bool) :
    (entryMarked n i dis true c).is (F.KT_STAT_LATE n) = true ∧
      (entryMarked n i dis true c).get (F.KT_STAT_LATECNT n) = min (c.get (F.KT_STAT_LATECNT n) + 1) 255 := by
  have hmarked (d : Chip) (hd : d.get (F.KT_STAT_LATECNT n) = c.get (F.KT_STAT_LATECNT n)) :
      ((d.raise (F.KT_STAT_LATE n)).countSat (F.KT_STAT_LATECNT n) 1).is (F.KT_STAT_LATE n) = true ∧
        ((d.raise (F.KT_STAT_LATE n)).countSat (F.KT_STAT_LATECNT n) 1).get (F.KT_STAT_LATECNT n) =
          min (c.get (F.KT_STAT_LATECNT n) + 1) 255 := by
    constructor
    · rw [Chip.is, Chip.get_countSat_ne _ _ _ _ (by simp [F.KT_STAT_LATE, F.KT_STAT_LATECNT])]
      exact Chip.is_raise_same d _ rfl (by simp [F.KT_STAT_LATE])
    · rw [Chip.get_countSat_same _ _ _ (by simp [F.KT_STAT_LATECNT]), Chip.get_raise_ne _ _ _ (by simp [F.KT_STAT_LATE, F.KT_STAT_LATECNT]), hd]
      rfl
  simp only [entryMarked, Bool.or_true, if_true, Chip.occur_is, Chip.occur_get]
  split
  · exact hmarked _ (Chip.get_raise_ne _ _ _ (by simp [F.KT_STAT_LATECNT, F.KT_STAT_ORDER]))
  · exact hmarked c rfl

theorem cursorMoved_cursor (h : n < c.kerfs.length) :
    ((cursorMoved n c).kerf n).cursor = if (c.kerf n).rev then (c.kerf n).cursor - 1 else (c.kerf n).cursor + 1 := by
  rw [cursorMoved, kerf_modKerf_same _ h]
  cases (c.kerf n).rev <;> simp [nextItem]

theorem cursorMoved_execUp (h : n < c.kerfs.length) : ((cursorMoved n c).kerf n).execUp = some c.up := by
  rw [cursorMoved, kerf_modKerf_same _ h]

/-- An entry with no window, leg state or trigger to act on is only seen by the counters and the trace. -/
theorem sameWords_kerfAct_of_idle {i : Nat} (r : Bool) (f : Nat) (hw : c.is (F.KT_E_ACT_WEN n i) = false) (he : c.is (F.KT_STAT_ENGD n) = false)
    (hf : c.is (F.KT_E_ACT_TFWD n i) = false) (hr : c.is (F.KT_E_ACT_TREV n i) = false) : sameWords c (kerfAct n i r f c) := by
  have hfine (g : Fld) : Chip.is { c with fine := f } g = c.is g := rfl
  have hact : kerfAct n i r f c = Chip.occur { c with fine := f } 0x0F (some n) (BitVec.ofNat 48 i) := by
    simp only [kerfAct, hfine, hw, he, hf, hr, Bool.false_and, Bool.false_eq_true, if_false, ite_self]
  rw [hact]
  exact sameBut_occur (l := []) { c with fine := f } 0x0F (some n) (BitVec.ofNat 48 i)

end

/-- Settles O37: a crossed entry acts on the chip whose cursor has moved and that bears its marks; a crossed boundary shows its segment, and the
pending set decides what follows. -/
theorem kerfEntriesAndBoundaries : Obligations.KerfEntriesAndBoundaries := by
  unfold Obligations.KerfEntriesAndBoundaries
  refine ⟨fun s n h => exec_kerfEntry_of_going n h, fun n c h => kerfEntry_of_stopped h, fun n c hb he => kerfEntry_of_uncrossed hb he,
    fun n a c hn hrun hb ha he hup => ?_, fun n i f r c hw he hf hr => sameWords_kerfAct_of_idle r f hw he hf hr,
    fun s n j hg hrun hx he hj => ⟨fun hp => ?_, fun ks hp hl => ?_, fun ks hp hl => ?_⟩, fun s n j hg hx => ?_,
    fun n ks b turn f c h => takeKerf_effect b turn f h⟩
  · obtain ⟨dis, hentry⟩ := kerfEntry_of_crossed hrun hb ha he hup
    refine ⟨_, hentry, ?_, ?_, fun hlate => ?_, sameBut_entryMarked (c := cursorMoved n c) _ dis _⟩
    · rw [entryMarked_kerf, cursorMoved_cursor hn]
    · rw [entryMarked_kerf, cursorMoved_execUp hn]
    · rw [hlate]
      exact entryMarked_late (c := cursorMoved n c) _ dis
  · exact ⟨_, by rw [exec_kerfBoundary_of_going n j hg, kerfBoundary_with_nothing_pending hrun hx he hj hp], segmentShown_seg j.isLt,
      sameBut_segmentShown⟩
  · obtain ⟨hseg, hlate, hwaits, hsame⟩ := late_set_waits (n := n) (c := s.chip) j.isLt
    exact ⟨_, by rw [exec_kerfBoundary_of_going n j hg, kerfBoundary_with_late_set hrun hx he hj hp hl], hseg, hlate, hwaits.trans hp, hsame⟩
  · exact ⟨_, by rw [exec_kerfBoundary_of_going n j hg, kerfBoundary_with_set_in_time hrun hx he hj hp hl], segmentShown_seg j.isLt,
      sameBut_segmentShown⟩
  · rw [exec_kerfBoundary_of_going n j hg, kerfBoundary_of_uncrossed j hx]

end Sys2Proof.Machine
end

section
/-! SUPPORT. The proofs of the chapter on analog acquisition (07_analog_acquisition): triggers of sample sets, and the reference. -/

namespace Sys2Proof.Machine

/-! ### Triggers of sample sets (R204, R206, R207) -/

theorem exec_setTrigger_of_going {s : State} (k : Fin 16) (h : going s.chip = true) :
    exec (.setTrigger k) s = .next (s.acted (triggerSet k s.chip)) := running_of_going h (triggerSet k)

theorem exec_exciterTrigger_of_going {s : State} (u : Fin 2) (h : going s.chip = true) :
    exec (.exciterTrigger u) s = .next (s.acted (exciterTrigger u s.chip)) := running_of_going h (exciterTrigger u)

/-- A set that has a run is one of the sets. -/
theorem lt_length_of_setRun {c : Chip} {k : Nat} {r : SetRun} (h : setRun c k = some r) : k < c.adc.runs.length := by
  by_contra hk
  rw [setRun, List.getD_eq_default _ _ (Nat.le_of_not_lt hk)] at h
  contradiction

section
variable {k : Nat} {c : Chip}

theorem triggerSet_of_disabled (h : c.is (F.ADC_SET_CFG_EN k) = false) : triggerSet k c = c := by
  simp only [triggerSet, h, Bool.and_false, Bool.false_eq_true, if_false]

theorem triggerSet_of_idle (hm : runMode c.mode = true) (he : c.is (F.ADC_SET_CFG_EN k) = true) (hr : setRun c k = none) :
    triggerSet k c = setRunTo k (some
      { cfg := c.rd (F.ADC_SET_CFG k), slots := slotsOf c k, ranks := ranksOf (slotsOf c k), takeAt := takeEdge c }) c := by
  simp only [triggerSet, hm, he, hr, Bool.and_self, if_true]

/-- A trigger taken at the edge at which the run was triggered is one with the run's own trigger (R206). -/
theorem triggerSet_at_same_edge {r : SetRun} (hr : setRun c k = some r) (ht : r.takeAt = takeEdge c) : triggerSet k c = c := by
  simp only [triggerSet, hr, ht, if_true, ite_self]

/-- A trigger at a later edge is dropped: the run is marked and the drop counted (R206). -/
theorem triggerSet_at_other_edge {r : SetRun} (hm : runMode c.mode = true) (he : c.is (F.ADC_SET_CFG_EN k) = true) (hr : setRun c k = some r)
    (ht : r.takeAt ≠ takeEdge c) :
    triggerSet k c = ((setRunTo k (some { r with ovr := true }) c).countSat (F.ADC_SET_STAT_TRGDROP k) 1).occur 0x03 (some k) 0 := by
  simp only [triggerSet, hm, he, hr, ht, Bool.and_self, if_true, if_false]

end

@[simp] theorem Chip.occur_setRun (c : Chip) (e : Nat) (i : Option Nat) (d : Word) (k : Nat) : setRun (c.occur e i d) k = setRun c k :=
  Chip.occur_keeps (setRun · k) (fun _ _ => rfl) c e i d

theorem countSat_setRun (c : Chip) (f : Fld) (n k : Nat) : setRun (c.countSat f n) k = setRun c k := rfl

theorem setRunTo_get (k : Nat) (r : Option SetRun) (c : Chip) (f : Fld) : (setRunTo k r c).get f = c.get f := rfl

theorem sameBut_setRunTo (l : List Nat) (k : Nat) (r : Option SetRun) (c : Chip) : sameBut l c (setRunTo k r c) := sameBut_refl l c

/-- Settles O38: a trigger finds its set disabled, idle, triggered at the same edge or already running, and an exciter triggers set by set. -/
theorem setTriggersStartOrDrop : Obligations.SetTriggersStartOrDrop := by
  unfold Obligations.SetTriggersStartOrDrop
  refine ⟨fun s k hg hm he hr => ⟨_, exec_setTrigger_of_going k hg, ?_⟩, fun s k r hg hm he hr ht => ⟨_, exec_setTrigger_of_going k hg, ?_⟩,
    fun s k r hg hr ht => ?_, fun k c h => triggerSet_of_disabled h, fun s u hg hu => ?_, fun s u hg hu => ?_⟩
  · rw [triggerSet_of_idle hm he hr]
    exact ⟨rfl, sameBut_setRunTo [] k _ _⟩
  · rw [triggerSet_at_other_edge hm he hr ht]
    refine ⟨?_, ?_, sameBut_trans (sameBut_set _ (List.mem_singleton_self _) (sameBut_setRunTo _ k _ _)) (sameBut_occur _ _ _ _)⟩
    · rw [Chip.occur_setRun, countSat_setRun, setRun_setRunTo_same _ (lt_length_of_setRun hr)]
    · rw [Chip.occur_get, Chip.get_countSat_same _ _ _ (by simp [F.ADC_SET_STAT_TRGDROP]), setRunTo_get]
      rfl
  · rw [exec_setTrigger_of_going k hg, triggerSet_at_same_edge hr ht]
  · rw [exec_exciterTrigger_of_going u hg, exciterTrigger, if_pos hu]
    rfl
  · rw [exec_exciterTrigger_of_going u hg, exciterTrigger, hu]
    rfl

/-! ### The reference (R193, R196) -/

theorem exec_referenceSettled_of_going {s : State} (h : going s.chip = true) :
    exec .referenceSettled s = .next (s.acted (referenceSettled s.chip)) := running_of_going h referenceSettled

theorem exec_refpMonitor_of_going {s : State} (inside : Bool) (h : going s.chip = true) :
    exec (.refpMonitor inside) s = .next (s.acted (refpMonitor inside s.chip)) := running_of_going h (refpMonitor inside)

theorem mode_ne_reset_of_going {c : Chip} (h : going c = true) : c.mode ≠ .reset := by
  rintro hr
  simp [going, hr] at h

theorem refpMonitor_regained {c : Chip} (h : c.is F.ADC_STAT_REFPOK = false) : refpMonitor true c = c.raise F.ADC_STAT_REFPOK := by
  simp only [refpMonitor, h, Bool.true_eq_false, if_false, if_true]

theorem refpMonitor_lost {c : Chip} (h : c.is F.ADC_STAT_REFPOK = true) : refpMonitor false c = refFault (c.setb F.ADC_STAT_REFPOK false) := by
  simp only [refpMonitor, h, Bool.false_eq_true, if_false]

theorem get_refpok_lost {f : Fld} (c : Chip) (h : f.addr ≠ 0x40001 ∨ f.lo + f.width ≤ 2 ∨ 3 ≤ f.lo) :
    (c.setb F.ADC_STAT_REFPOK false).get f = c.get f := Chip.get_setb_ne c _ f false (by simp only [F.ADC_STAT_REFPOK]; omega)

theorem refpok_lost (c : Chip) : (c.setb F.ADC_STAT_REFPOK false).is F.ADC_STAT_REFPOK = false := Chip.is_setb_same c _ false rfl (by decide)

/-- The chip after the loss of REFP with REFAUTO: REFFLT with its device cause, REFFB, and the internal reference in use (R196). -/
def fellBack (c : Chip) : Chip := changeRef 0 (((c.raise F.ADC_STAT_REFFLT).notice (.device .refflt)).raise F.ADC_STAT_REFFB)

theorem refFault_with_refauto {c : Chip} (ha : c.get F.ADC_STAT_REFACT = 1) (hp : c.is F.ADC_STAT_REFPOK = false)
    (hauto : c.is F.ADC_CFG_REFAUTO = true) :
    refFault c = fellBack c := by
  have hraised : (c.raise F.ADC_STAT_REFFLT).is F.ADC_CFG_REFAUTO = true := by rwa [Chip.is, Chip.get_raise_ne _ _ _ (by decide)]
  have hbad : c.get F.ADC_STAT_REFACT = 1 ∧ ¬ c.is F.ADC_STAT_REFPOK = true := ⟨ha, by rw [hp]; decide⟩
  simp only [refFault, if_pos hbad, notice_is, hraised, if_true, fellBack]

/-- A change of the source in use shows in REFACT and REF_SETTLED, and in no other field. -/
theorem changeRef_is {f : Fld} (src : Nat) (c : Chip) (h : f.addr ≠ 0x40001 ∨ f.lo + f.width ≤ 12) : (changeRef src c).is f = c.is f := by
  rw [Chip.is, changeRef, Chip.get_setb_ne _ _ _ _ (by simp only [F.ADC_STAT_REF_SETTLED]; omega),
    Chip.get_set_ne _ _ _ _ (by simp only [F.ADC_STAT_REFACT]; omega), ← Chip.is]

theorem fellBack_flags (c : Chip) :
    (fellBack c).is F.ADC_STAT_REFPOK = c.is F.ADC_STAT_REFPOK ∧ (fellBack c).is F.ADC_STAT_REFFLT = true ∧
      (fellBack c).is F.ADC_STAT_REFFB = true := by
  refine ⟨?_, ?_, ?_⟩ <;> rw [fellBack, changeRef_is _ _ (by decide)]
  · rw [Chip.is, Chip.get_raise_ne _ _ _ (by decide), notice_get, Chip.get_raise_ne _ _ _ (by decide), Chip.is]
  · rw [Chip.is, Chip.get_raise_ne _ _ _ (by decide), ← Chip.is, notice_is]
    exact Chip.is_raise_same c _ rfl (by decide)
  · exact Chip.is_raise_same _ _ rfl (by decide)

/-- Settles O40: REFPOK follows the monitor; what else its loss does depends on whether REFP is the source in use. -/
theorem referencesSettleAndFail : Obligations.ReferencesSettleAndFail := by
  unfold Obligations.ReferencesSettleAndFail
  refine ⟨fun s hg => ⟨s.chip.setb F.ADC_STAT_REF_SETTLED true, ?_, Chip.is_setb_same _ _ _ rfl (by decide),
      sameBut_set _ (List.mem_singleton_self _) (sameBut_refl _ _)⟩,
    fun s hg hp => ⟨s.chip.raise F.ADC_STAT_REFPOK, ?_, Chip.is_raise_same _ _ rfl (by decide),
      sameBut_set _ (List.mem_singleton_self _) (sameBut_refl _ _)⟩,
    fun s hg hp ha hauto => ⟨_, exec_refpMonitor_of_going false hg, ?_⟩, fun s hg hp ha => ⟨_, exec_refpMonitor_of_going false hg, ?_⟩⟩
  · rw [exec_referenceSettled_of_going hg, referenceSettled, if_neg (mode_ne_reset_of_going hg)]
  · rw [exec_refpMonitor_of_going true hg, refpMonitor_regained hp]
  · have hauto' : (s.chip.setb F.ADC_STAT_REFPOK false).is F.ADC_CFG_REFAUTO = true := by rwa [Chip.is, get_refpok_lost _ (by decide)]
    rw [refpMonitor_lost hp, refFault_with_refauto ((get_refpok_lost _ (by decide)).trans ha) (refpok_lost _) hauto']
    obtain ⟨hpok, hflt, hfb⟩ := fellBack_flags (s.chip.setb F.ADC_STAT_REFPOK false)
    exact ⟨hpok.trans (refpok_lost _), hflt, hfb, changeRef_refact _ (by decide), changeRef_unsettled _ _, rfl⟩
  · have hact : (s.chip.setb F.ADC_STAT_REFPOK false).get F.ADC_STAT_REFACT ≠ 1 := by
      rw [get_refpok_lost _ (by decide), ha]; decide
    rw [refpMonitor_lost hp, refFault_of_good (.inl hact)]
    exact ⟨refpok_lost _, rfl⟩

end Sys2Proof.Machine
end

section
/-! SUPPORT. The proofs of the chapter on analog acquisition (07_analog_acquisition), second part: the window comparators. -/

namespace Sys2Proof.Machine

/-! ### Counted loops whose passes touch different parts -/

theorem Chip.forN_succ (c : Chip) (n : Nat) (f : Nat → Chip → Chip) : c.forN (n + 1) f = f n (c.forN n f) := by
  simp only [Chip.forN, List.range_succ, List.foldl_append, List.foldl_cons, List.foldl_nil]

/-- What the passes below a number keep, the loop up to that number keeps. -/
theorem Chip.forN_keeps_below {α : Type} (p : Chip → α) {f : Nat → Chip → Chip} {n : Nat} (h : ∀ j < n, ∀ c, p (f j c) = p c) (c : Chip) :
    p (c.forN n f) = p c := by
  induction n with
  | zero => rfl
  | succ n ih => rw [Chip.forN_succ, h n (Nat.lt_succ_self n), ih fun j hj => h j (Nat.lt_succ_of_lt hj)]

/-- A part that pass k alone touches is after the loop what pass k makes of it. -/
theorem Chip.forN_one_pass {α : Type} (p : Chip → α) {f : Nat → Chip → Chip} {k n : Nat} (hk : k < n)
    (h : ∀ j c, j ≠ k → p (f j c) = p c) (c : Chip) : ∃ d : Chip, p d = p c ∧ p (c.forN n f) = p (f k d) := by
  induction n with
  | zero => exact absurd hk (Nat.not_lt_zero k)
  | succ n ih =>
    rw [Chip.forN_succ]
    rcases Nat.lt_succ_iff_lt_or_eq.mp hk with hlt | rfl
    · obtain ⟨d, hd, hloop⟩ := ih hlt
      exact ⟨d, hd, (h n _ hlt.ne').trans hloop⟩
    · exact ⟨_, Chip.forN_keeps_below p (fun j hj c => h j c hj.ne) c, rfl⟩

theorem sameBut_forN {l : List Nat} {n : Nat} {f : Nat → Chip → Chip} (h : ∀ k < n, ∀ d, sameBut l d (f k d)) (c : Chip) :
    sameBut l c (c.forN n f) := by
  induction n with
  | zero => exact sameBut_refl l c
  | succ n ih =>
    rw [Chip.forN_succ]
    exact sameBut_trans (ih fun k hk => h k (Nat.lt_succ_of_lt hk)) (h n (Nat.lt_succ_self n) _)

/-! ### The latches HIL and LOL (R231) -/

theorem exec_comparatorSettled_of_going {s : State} (h : going s.chip = true) :
    exec .comparatorSettled s = .next (s.acted (comparatorSettled s.chip)) := running_of_going h comparatorSettled

theorem exec_comparatorCondition_of_going {s : State} (w : Fin 24) (uv : Nat) (h : going s.chip = true) :
    exec (.comparatorCondition w uv) s = .next (s.acted (compLevel w uv s.chip)) := running_of_going h (compLevel w uv)

/-- HIL and LOL of comparator w, each set where its condition is to be noted. -/
def latchConditions (w : Nat) (hi lo : Bool) (c : Chip) : Chip :=
  let c := if hi then c.raise (F.ADC_CMP_CTL_HIL w) else c
  if lo then c.raise (F.ADC_CMP_CTL_LOL w) else c

section
variable (w : Nat) (hi lo : Bool) (c : Chip)

@[simp] theorem latchConditions_adc : (latchConditions w hi lo c).adc = c.adc := by
  cases hi <;> cases lo <;> rfl

theorem latchConditions_hil : (latchConditions w hi lo c).is (F.ADC_CMP_CTL_HIL w) = (c.is (F.ADC_CMP_CTL_HIL w) || hi) := by
  have hlol (d : Chip) : (d.raise (F.ADC_CMP_CTL_LOL w)).is (F.ADC_CMP_CTL_HIL w) = d.is (F.ADC_CMP_CTL_HIL w) := by
    rw [Chip.is, Chip.get_raise_ne _ _ _ (by simp [F.ADC_CMP_CTL_HIL, F.ADC_CMP_CTL_LOL]), Chip.is]
  have hhil : (c.raise (F.ADC_CMP_CTL_HIL w)).is (F.ADC_CMP_CTL_HIL w) = true := Chip.is_raise_same c _ rfl (by simp [F.ADC_CMP_CTL_HIL])
  cases hi <;> cases lo <;> simp [latchConditions, hlol, hhil]

theorem latchConditions_lol : (latchConditions w hi lo c).is (F.ADC_CMP_CTL_LOL w) = (c.is (F.ADC_CMP_CTL_LOL w) || lo) := by
  have hhil : (c.raise (F.ADC_CMP_CTL_HIL w)).is (F.ADC_CMP_CTL_LOL w) = c.is (F.ADC_CMP_CTL_LOL w) := by
    rw [Chip.is, Chip.get_raise_ne _ _ _ (by simp [F.ADC_CMP_CTL_HIL, F.ADC_CMP_CTL_LOL]), Chip.is]
  have hlol (d : Chip) : (d.raise (F.ADC_CMP_CTL_LOL w)).is (F.ADC_CMP_CTL_LOL w) = true :=
    Chip.is_raise_same d _ rfl (by simp [F.ADC_CMP_CTL_LOL])
  cases hi <;> cases lo <;> simp [latchConditions, hhil, hlol]

theorem sameBut_latchConditions {l : List Nat} (h : (F.ADC_CMP_CTL_HIL w).addr ∈ l) : sameBut l c (latchConditions w hi lo c) := by
  have hhil : sameBut l c (if hi then c.raise (F.ADC_CMP_CTL_HIL w) else c) := by
    cases hi with
    | true => exact sameBut_set 1 h (sameBut_refl l c)
    | false => exact sameBut_refl l c
  cases lo with
  | true => exact sameBut_set (f := F.ADC_CMP_CTL_LOL w) 1 h hhil
  | false => exact hhil

end

/-! ### The end of settling (R228) -/

/-- The conditions of comparator w that its input meets at the end of settling are noted. -/
def latchInputs (w : Nat) (c : Chip) : Chip :=
  let c := if c.adc.above.getLsbD w then c.raise (F.ADC_CMP_CTL_HIL w) else c
  if c.adc.below.getLsbD w then c.raise (F.ADC_CMP_CTL_LOL w) else c

theorem latchInputs_eq (w : Nat) (c : Chip) : latchInputs w c = latchConditions w (c.adc.above.getLsbD w) (c.adc.below.getLsbD w) c := by
  cases ha : c.adc.above.getLsbD w <;> simp [latchInputs, latchConditions, ha]

/-- The chip whose comparators are settled, before their conditions are noted. -/
def settledComparators (c : Chip) : Chip := { c with adc := { c.adc with compSettled := true } }

theorem comparatorSettled_of_unsettled {c : Chip} (hr : c.mode ≠ .reset) (hs : c.adc.compSettled = false) :
    comparatorSettled c = (settledComparators c).forN 24 latchInputs := if_neg (by simp [hr, hs])

theorem sameBut_settledComparators (l : List Nat) (c : Chip) : sameBut l c (settledComparators c) := sameBut_refl l c

theorem latchInputs_adc (w : Nat) (c : Chip) : (latchInputs w c).adc = c.adc := by
  rw [latchInputs_eq, latchConditions_adc]

theorem sameBut_latchInputs {l : List Nat} {w : Nat} (c : Chip) (h : (F.ADC_CMP_CTL_HIL w).addr ∈ l) : sameBut l c (latchInputs w c) := by
  rw [latchInputs_eq]
  exact sameBut_latchConditions w _ _ c h

theorem is_of_sameBut {l : List Nat} {c d : Chip} {f : Fld} (h : sameBut l c d) (hf : f.addr ∉ l) : d.is f = c.is f := by
  rw [Chip.is, Chip.get, h.1 _ hf, ← Chip.get, ← Chip.is]

/-- A flag of comparator w that its own pass joins with a condition is joined with it by the whole loop. -/
theorem latchInputs_all {w : Nat} (hw : w < 24) {f : Fld} (hf : f.addr = (F.ADC_CMP_CTL_HIL w).addr) (cond : Adc → Bool)
    (hpass : ∀ d : Chip, (latchInputs w d).is f = (d.is f || cond d.adc)) (c : Chip) :
    (c.forN 24 latchInputs).is f = (c.is f || cond c.adc) := by
  have hother (j : Nat) (d : Chip) (hj : j ≠ w) : ((latchInputs j d).is f, (latchInputs j d).adc) = (d.is f, d.adc) := by
    have hne : f.addr ∉ [(F.ADC_CMP_CTL_HIL j).addr] := by
      simp only [hf, F.ADC_CMP_CTL_HIL, List.mem_singleton]; omega
    rw [latchInputs_adc, is_of_sameBut (sameBut_latchInputs d (List.mem_singleton_self _)) hne]
  obtain ⟨d, hd, hloop⟩ := Chip.forN_one_pass (fun d => (d.is f, d.adc)) hw hother c
  obtain ⟨hflag, hadc⟩ := Prod.mk.inj hd
  obtain ⟨hall, -⟩ := Prod.mk.inj hloop
  rw [hall, hpass, hflag, hadc]

theorem latchInputs_all_adc (c : Chip) : (c.forN 24 latchInputs).adc = c.adc := Chip.forN_keeps Chip.adc latchInputs_adc 24 c

theorem sameBut_latchInputs_all (c : Chip) :
    sameBut ((List.range 24).map (fun w => (F.ADC_CMP_CTL_HIL w).addr)) c (c.forN 24 latchInputs) :=
  sameBut_forN (fun _ hk d => sameBut_latchInputs d (List.mem_map_of_mem (f := fun w => (F.ADC_CMP_CTL_HIL w).addr) (List.mem_range.mpr hk))) c

/-! ### The conditions (R227, R228) -/

/-- Bit w of the conditions, set or cleared. -/
def bitPut (w : Nat) (v : Bool) (x : BitVec 24) : BitVec 24 :=
  if v then x ||| BitVec.ofNat 24 (1 <<< w) else x &&& ~~~(BitVec.ofNat 24 (1 <<< w))

theorem getLsbD_bitPut {w : Nat} (v : Bool) (x : BitVec 24) (h : w < 24) : (bitPut w v x).getLsbD w = v := by
  have hbit : (BitVec.ofNat 24 (1 <<< w)).getLsbD w = true := by simp [BitVec.getLsbD_ofNat, h]
  cases v
  · simp only [bitPut, Bool.false_eq_true, if_false, BitVec.getLsbD_and, BitVec.getLsbD_not, hbit, Bool.not_true, Bool.and_false]
  · simp only [bitPut, if_true, BitVec.getLsbD_or, hbit, Bool.or_true]

/-- The conditions of comparator w, put into their bits. -/
def putConditions (w : Nat) (a b : Bool) (c : Chip) : Chip :=
  { c with adc := { c.adc with above := bitPut w a c.adc.above, below := bitPut w b c.adc.below } }

section
variable {w : Nat} (a b : Bool) (c : Chip)

/-- New conditions note those that rise and stand in their own bits. -/
theorem compInputs_eq (w : Nat) :
    compInputs w a b c = putConditions w a b
      (latchConditions w (a && !c.adc.above.getLsbD w && c.adc.compSettled) (b && !c.adc.below.getLsbD w && c.adc.compSettled) c) := by
  cases h : (a && !c.adc.above.getLsbD w && c.adc.compSettled) <;> simp [compInputs, putConditions, latchConditions, bitPut, h]

theorem compInputs_conditions (h : w < 24) : (compInputs w a b c).adc.above.getLsbD w = a ∧ (compInputs w a b c).adc.below.getLsbD w = b := by
  rw [compInputs_eq]
  exact ⟨getLsbD_bitPut a _ h, getLsbD_bitPut b _ h⟩

theorem compInputs_hil :
    (compInputs w a b c).is (F.ADC_CMP_CTL_HIL w) =
      (c.is (F.ADC_CMP_CTL_HIL w) || (a && !c.adc.above.getLsbD w && c.adc.compSettled)) := by
  rw [compInputs_eq]
  exact latchConditions_hil w _ _ c

theorem compInputs_lol :
    (compInputs w a b c).is (F.ADC_CMP_CTL_LOL w) =
      (c.is (F.ADC_CMP_CTL_LOL w) || (b && !c.adc.below.getLsbD w && c.adc.compSettled)) := by
  rw [compInputs_eq]
  exact latchConditions_lol w _ _ c

theorem sameBut_compInputs : sameBut [(F.ADC_CMP_CTL_HIL w).addr] c (compInputs w a b c) := by
  rw [compInputs_eq]
  exact sameBut_latchConditions w _ _ c (List.mem_singleton_self _)

end

/-- Where no threshold moves, the conditions are formed from the thresholds in force (R227). -/
theorem compEval_of_unmoved {w : Nat} {c : Chip} (h : movingFrom c w = none) :
    compEval w c = compInputs w
      (aboveHi (c.adc.levels.getD w 0) (c.get (F.ADC_CMP_THR_HI w)) (c.get (F.ADC_CMP_CTL_HYST w)) (c.adc.above.getLsbD w))
      (belowLo (c.adc.levels.getD w 0) (c.get (F.ADC_CMP_THR_LO w)) (c.get (F.ADC_CMP_CTL_HYST w)) (c.adc.below.getLsbD w)) c := by
  simp only [compEval, h, Option.getD_none, beq_self_eq_true, Bool.and_self, if_true]
  rfl

/-- The chip on which comparator w sees a voltage. -/
def inputAt (w uv : Nat) (c : Chip) : Chip := { c with adc := { c.adc with levels := c.adc.levels.set w uv } }

theorem inputAt_level {w : Nat} (uv : Nat) {c : Chip} (h : w < c.adc.levels.length) : (inputAt w uv c).adc.levels.getD w 0 = uv := by
  simp [inputAt, h]

theorem compLevel_of_unmoved {w : Nat} (uv : Nat) {c : Chip} (hw : w < c.adc.levels.length) (h : movingFrom c w = none) :
    compLevel w uv c = compInputs w (aboveHi uv (c.get (F.ADC_CMP_THR_HI w)) (c.get (F.ADC_CMP_CTL_HYST w)) (c.adc.above.getLsbD w))
      (belowLo uv (c.get (F.ADC_CMP_THR_LO w)) (c.get (F.ADC_CMP_CTL_HYST w)) (c.adc.below.getLsbD w)) (inputAt w uv c) := by
  have hmoves : movingFrom (inputAt w uv c) w = none := h
  refine (compEval_of_unmoved hmoves).trans ?_
  rw [inputAt_level uv hw]
  rfl

theorem compCond_iff (c : Chip) (w : Nat) :
    compCond c w = true ↔ c.adc.compSettled = true ∧ c.is (F.ADC_CMP_CTL_EN w) = true ∧
      ((c.get (F.ADC_CMP_CTL_MODE w) = 0 ∧ (c.adc.above.getLsbD w = true ∨ c.adc.below.getLsbD w = true)) ∨
        (c.get (F.ADC_CMP_CTL_MODE w) = 1 ∧ c.adc.above.getLsbD w = true) ∨ (c.get (F.ADC_CMP_CTL_MODE w) = 2 ∧ c.adc.below.getLsbD w = true) ∨
        (3 ≤ c.get (F.ADC_CMP_CTL_MODE w) ∧ c.adc.above.getLsbD w = false ∧ c.adc.below.getLsbD w = false)) := by
  rcases hm : c.get (F.ADC_CMP_CTL_MODE w) with _ | _ | _ | n <;> simp [compCond, hm, and_assoc]

/-- Settles O42: the end of settling is a loop in which each comparator's pass writes its own word; a new input is judged by the equations of its
conditions, and the condition of a comparator by its MODE. -/
theorem comparatorsJudgeTheWindow : Obligations.ComparatorsJudgeTheWindow := by
  unfold Obligations.ComparatorsJudgeTheWindow
  refine ⟨fun s hg hs => ⟨_, exec_comparatorSettled_of_going hg, ?_⟩, fun s w uv hg => exec_comparatorCondition_of_going w uv hg,
    fun w uv c hw hm => ⟨_, compLevel_of_unmoved uv hw hm, rfl, rfl, rfl, sameBut_refl [] c⟩, fun w a b c hw => ?_, compCond_iff⟩
  · rw [comparatorSettled_of_unsettled (mode_ne_reset_of_going hg) hs]
    refine ⟨?_, fun w => ⟨?_, ?_⟩, ?_⟩
    · rw [latchInputs_all_adc]; rfl
    · exact latchInputs_all w.isLt rfl (fun q => q.above.getLsbD w) (fun d => by rw [latchInputs_eq, latchConditions_hil])
        (settledComparators s.chip)
    · exact latchInputs_all (f := F.ADC_CMP_CTL_LOL w) w.isLt rfl (fun q => q.below.getLsbD w) (fun d => by rw [latchInputs_eq, latchConditions_lol])
        (settledComparators s.chip)
    · exact sameBut_trans (sameBut_settledComparators _ s.chip) (sameBut_latchInputs_all _)
  · obtain ⟨habove, hbelow⟩ := compInputs_conditions a b c hw
    refine ⟨habove, hbelow, fun ha hold hs => ?_, fun hb hold hs => ?_, sameBut_compInputs a b c⟩
    · simp [compInputs_hil, ha, hold, hs]
    · simp [compInputs_lol, hb, hold, hs]

end Sys2Proof.Machine
end

section
/-! SUPPORT. The proofs of the chapter on analog acquisition (07_analog_acquisition), third part: the background calibration cycle of a bank. -/

namespace Sys2Proof.Machine

/-! ### Events of the cycle -/

theorem exec_calibrationTick_of_going {s : State} (b : Fin 2) (h : going s.chip = true) :
    exec (.calibrationTick b) s = .next (s.acted (calibrationTick b s.chip)) := running_of_going h (calibrationTick b)

theorem exec_referenceCalibrationDone_of_going {s : State} (sl : Fin 18) (codes : List (BitVec 16)) (h : going s.chip = true) :
    exec (.referenceCalibrationDone sl codes) s = .next (s.acted (referenceCalibrationDone sl codes s.chip)) :=
  running_of_going h (referenceCalibrationDone sl codes)

theorem exec_phaseTimeLimit_of_going {s : State} (b : Fin 2) (h : going s.chip = true) :
    exec (.phaseTimeLimit b) s = .next (s.acted (phaseTimeLimit b s.chip)) := running_of_going h (phaseTimeLimit b)

theorem exec_swap_of_going {s : State} (b : Fin 2) (h : going s.chip = true) :
    exec (.swap b) s = .next (s.acted (swapRoles b s.chip)) := running_of_going h (swapRoles b)

theorem exec_swapinTimeout_of_going {s : State} (b : Fin 2) (h : going s.chip = true) :
    exec (.swapinTimeout b) s = .next (s.acted (swapinTimeout b s.chip)) := running_of_going h (swapinTimeout b)

/-! ### Chips with the same words -/

theorem Chip.get_of_regs {c d : Chip} (h : d.regs = c.regs) (f : Fld) : d.get f = c.get f := by
  rw [Chip.get, Chip.rd_of_regs h, ← Chip.get]

theorem Chip.mode_of_regs {c d : Chip} (h : d.regs = c.regs) : d.mode = c.mode := by
  rw [Chip.mode, Chip.get_of_regs h, ← Chip.mode]

theorem Chip.set_regs_of_regs {c d : Chip} (h : d.regs = c.regs) (f : Fld) (v : Nat) : (d.set f v).regs = (c.set f v).regs := by
  simp only [Chip.set, Chip.wr, Chip.rd_of_regs h, h]

/-! ### Where the fields of the cycle stand -/

section
variable (b : Nat) (v : Nat) (c : Chip)

theorem get_set_phase {f : Fld} (h : f.addr ≠ 0x40004 + b ∨ 4 ≤ f.lo) : (c.set (F.ADC_CAL_PHASE b) v).get f = c.get f :=
  Chip.get_set_ne c _ f v (by simp only [F.ADC_CAL_PHASE]; omega)

theorem get_set_sliceState (sl : Nat) {f : Fld} (h : f.addr ≠ 0x40010 + sl ∨ 4 ≤ f.lo) :
    (c.set (F.ADC_C_STAT_STATE sl) v).get f = c.get f :=
  Chip.get_set_ne c _ f v (by simp only [F.ADC_C_STAT_STATE]; omega)

theorem get_set_spareState {f : Fld} (h : f.addr ≠ 0x40020 + b ∨ 4 ≤ f.lo) : (c.set (F.ADC_CS_STAT_STATE b) v).get f = c.get f :=
  Chip.get_set_ne c _ f v (by simp only [F.ADC_CS_STAT_STATE]; omega)

theorem phase_set (h : v < 16) : (c.set (F.ADC_CAL_PHASE b) v).get (F.ADC_CAL_PHASE b) = v :=
  (Chip.get_set_same c _ v (by simp [F.ADC_CAL_PHASE])).trans (Nat.mod_eq_of_lt h)

theorem sliceState_set (sl : Nat) (h : v < 16) : (c.set (F.ADC_C_STAT_STATE sl) v).get (F.ADC_C_STAT_STATE sl) = v :=
  (Chip.get_set_same c _ v (by simp [F.ADC_C_STAT_STATE])).trans (Nat.mod_eq_of_lt h)

theorem spareState_set (h : v < 16) : (c.set (F.ADC_CS_STAT_STATE b) v).get (F.ADC_CS_STAT_STATE b) = v :=
  (Chip.get_set_same c _ v (by simp [F.ADC_CS_STAT_STATE])).trans (Nat.mod_eq_of_lt h)

theorem curConv_lt : curConv c b < 16 := Word.field_lt _ 16 4

end

/-! ### A tick begins a cycle (R216) -/

/-- The words of a cycle that begins on converter cv of bank b: REFCAL, with the spare in calibration. -/
def cycleBegun (b cv : Nat) (c : Chip) : Chip :=
  ((c.set (F.ADC_CAL_CUR b) cv).set (F.ADC_CAL_PHASE b) 1).set (F.ADC_CS_STAT_STATE b) 7

/-- The first tick of an idle bank takes the bank's first converter, which is neither retired nor dead. -/
theorem calibrationTick_first {b : Nat} {c : Chip} (hen : c.is F.ADC_CALCFG_EN = true) (hm : c.mode = .standby ∨ c.mode = .drive)
    (hh : c.is (F.ADC_CAL_HALT b) = false) (hp : c.get (F.ADC_CAL_PHASE b) = 0) (hf : (bank c b).failing = false)
    (ha : (bank c b).abandoned = false) (hl : (bank c b).last = none) (hs : c.get (F.ADC_C_STAT_STATE (8 * b)) = 0) :
    (calibrationTick b c).regs = (cycleBegun b (8 * b) c).regs := by
  have hfind : ((List.range 8).map (fun k => 8 * b + (0 + k) % 8)).find?
      (fun cv => c.get (F.ADC_C_STAT_STATE cv) != 3 && c.get (F.ADC_C_STAT_STATE cv) != 6) = some (8 * b) :=
    List.find?_cons_of_pos (by simp [hs])
  rcases hm with hm | hm <;>
  · simp only [calibrationTick, hen, hm, hh, hp, hf, ha, hl, hfind, Bool.not_false, Bool.and_self, beq_self_eq_true, if_true]
    exact Chip.set_regs_of_regs (modBank_regs _ b _) _ _

theorem cycleBegun_shows {b cv : Nat} (c : Chip) (hcv : cv < 16) :
    (cycleBegun b cv c).get (F.ADC_CAL_CUR b) = cv ∧ (cycleBegun b cv c).get (F.ADC_CAL_PHASE b) = 1 ∧
      (cycleBegun b cv c).get (F.ADC_CS_STAT_STATE b) = 7 := by
  refine ⟨?_, ?_, spareState_set b 7 _ (by decide)⟩ <;>
    rw [cycleBegun, get_set_spareState _ _ _ (by simp only [F.ADC_CAL_CUR, F.ADC_CAL_PHASE]; omega)]
  · rw [get_set_phase _ _ _ (by simp [F.ADC_CAL_CUR]), Chip.get_set_same _ _ _ (by simp [F.ADC_CAL_CUR])]
    exact Nat.mod_eq_of_lt hcv
  · exact phase_set b 1 _ (by decide)

/-! ### The end of a reference calibration at BOOT (R213, R219) -/

/-- The codes of a reference calibration as numbers. -/
def rawCodes (codes : List (BitVec 16)) : List Int := (List.range 9).map (fun k => ((codes.getD k 0).toNat : Int))

theorem evAdcSpare_get {f : Fld} (c : Chip) (h : f.addr ≠ 0x12) : c.evAdcSpare.get f = c.get f := Chip.get_evt_ne c 2 18 f h

theorem evAdcSpare_mode (c : Chip) : c.evAdcSpare.mode = c.mode := by
  rw [Chip.mode, evAdcSpare_get c (by decide), ← Chip.mode]

/-- Coefficients that pass lie within the limits of R213. -/
theorem limits_of_calibrationPasses {raw : List Int} {g o : Int} (h : calibrationPasses raw g o = true) :
    (-20972 ≤ g ∧ g ≤ 20972) ∧ -4096 ≤ o ∧ o ≤ 4096 := by
  simp only [calibrationPasses, Bool.and_eq_true, decide_eq_true_eq] at h
  obtain ⟨⟨holo, hohi, hglo, hghi⟩, -⟩ := h
  exact ⟨⟨hglo, hghi⟩, holo, hohi⟩

section
variable {sl : Nat} (g o : Int) (c : Chip) (hsl : sl < 16)
include hsl

/-- The coefficients of a converter stand in its own word, above STATE. -/
theorem takeCoefficients_get {f : Fld} (h : f.addr ≠ 0x40010 + sl ∨ f.lo + f.width ≤ 8) : (takeCoefficients sl g o c).get f = c.get f := by
  rw [takeCoefficients, if_pos hsl, Chip.get_countMod_ne _ _ _ _ (by simp only [F.ADC_C_STAT_CALCNT]; omega),
    Chip.get_seti_ne _ _ _ _ (by simp only [F.ADC_C_STAT_OFFS]; omega), Chip.get_seti_ne _ _ _ _ (by simp only [F.ADC_C_STAT_GAIN]; omega)]

theorem takeCoefficients_mode : (takeCoefficients sl g o c).mode = c.mode := by
  rw [Chip.mode, takeCoefficients_get g o c hsl (.inl (by simp only [F.DEV_MODE_MODE]; omega)), Chip.mode]

theorem takeCoefficients_gain (hlo : -20972 ≤ g) (hhi : g ≤ 20972) : (takeCoefficients sl g o c).geti (F.ADC_C_STAT_GAIN sl) = g := by
  rw [takeCoefficients, if_pos hsl, Chip.geti, Chip.get_countMod_ne _ _ _ _ (by simp [F.ADC_C_STAT_GAIN, F.ADC_C_STAT_CALCNT]),
    Chip.get_seti_ne _ _ _ _ (by simp [F.ADC_C_STAT_GAIN, F.ADC_C_STAT_OFFS]), ← Chip.geti]
  exact Chip.geti_seti_same (m := 15) _ rfl (by simp [F.ADC_C_STAT_GAIN]) (by omega) (by omega)

theorem takeCoefficients_offs (hlo : -4096 ≤ o) (hhi : o ≤ 4096) : (takeCoefficients sl g o c).geti (F.ADC_C_STAT_OFFS sl) = o := by
  rw [takeCoefficients, if_pos hsl, Chip.geti, Chip.get_countMod_ne _ _ _ _ (by simp [F.ADC_C_STAT_OFFS, F.ADC_C_STAT_CALCNT]), ← Chip.geti]
  exact Chip.geti_seti_same (m := 15) _ rfl (by simp [F.ADC_C_STAT_OFFS]) (by omega) (by omega)

end

section
variable {sl : Nat} {codes : List (BitVec 16)} {c : Chip} (hsl : sl < 16) (hrun : c.adc.calRunning.getLsbD sl = true)
  (hset : c.is F.ADC_STAT_REF_SETTLED = true) (hboot : c.mode = .boot)
include hsl hrun hset hboot

/-- A converter in calibration at BOOT that passes takes its coefficients and is ACTIVE. -/
theorem referenceCalibrationDone_passed {g o : Int} (hst : c.get (F.ADC_C_STAT_STATE sl) = 7) (hfit : fitCoefficients (rawCodes codes) = some (g, o))
    (hpass : calibrationPasses (rawCodes codes) g o = true) :
    ∃ d : Chip, d.regs = c.regs ∧ referenceCalibrationDone sl codes c = (takeCoefficients sl g o d).set (F.ADC_C_STAT_STATE sl) 0 := by
  rw [rawCodes] at hfit hpass
  simp only [referenceCalibrationDone, hrun, hset, hfit, hpass, hsl, Bool.and_self, if_true, Option.getD_some]
  generalize hd : modBank (bankOf sl) _ _ = d
  have hregs : d.regs = c.regs := by rw [← hd, modBank_regs]
  refine ⟨d, hregs, ?_⟩
  rw [if_pos ((takeCoefficients_mode g o d hsl).trans ((Chip.mode_of_regs hregs).trans hboot)),
    if_pos ((takeCoefficients_get g o d hsl (by simp [F.ADC_C_STAT_STATE])).trans ((Chip.get_of_regs hregs _).trans hst))]

/-- Codes that determine no coefficients are a failure of the converter. -/
theorem referenceCalibrationDone_undetermined (hfit : fitCoefficients (rawCodes codes) = none) :
    ∃ d : Chip, d.regs = c.regs ∧ referenceCalibrationDone sl codes c = convFails sl d.evAdcSpare := by
  rw [rawCodes] at hfit
  simp only [referenceCalibrationDone, hrun, hset, hfit, hsl, Bool.and_self, Bool.false_eq_true, if_true, if_false]
  generalize hd : modBank (bankOf sl) _ _ = d
  have hregs : d.regs = c.regs := by rw [← hd, modBank_regs]
  exact ⟨d, hregs, if_pos ((evAdcSpare_mode d).trans ((Chip.mode_of_regs hregs).trans hboot))⟩

end

/-! ### A converter is retired for its spare (R219) -/

/-- At BOOT a converter that fails is retired for its spare, unless the spare is permanent or failed itself. -/
theorem convFails_at_boot {cv : Nat} {c : Chip} (hs : c.get (F.ADC_CS_STAT_STATE (bankOf cv)) < 4) (hm : c.mode = .boot) :
    convFails cv c = makePermanent (bankOf cv) cv c := by
  simp only [convFails]
  rw [if_neg (by omega), if_pos (.inr hm)]

theorem dueRepair_get (c : Chip) (r : RepairRec) (f : Fld) : (c.dueRepair r).get f = c.get f := rfl

/-- Beside the states of the two slices a retirement writes the bank's CAL word and two event words. -/
theorem makePermanent_get {b cv : Nat} {f : Fld} (c : Chip) (h : f.addr ≠ 0x10 ∧ f.addr ≠ 0x12 ∧ f.addr ≠ 0x40004 + b) :
    (makePermanent b cv c).get f = ((c.set (F.ADC_C_STAT_STATE cv) 3).set (F.ADC_CS_STAT_STATE b) 4).get f := by
  obtain ⟨hevt0, hevt2, hcal⟩ := h
  rw [makePermanent, dueRepair_get, Chip.evBist, Chip.get_evt_ne _ _ _ _ hevt0, evAdcSpare_get _ hevt2, modBank_get,
    get_set_phase _ _ _ (.inl hcal), Chip.get_raise_ne _ _ _ (.inl (by simp only [F.ADC_CAL_HALT]; omega))]

theorem makePermanent_states {cv : Nat} (c : Chip) (hcv : cv < 16) :
    (makePermanent (bankOf cv) cv c).get (F.ADC_C_STAT_STATE cv) = 3 ∧
      (makePermanent (bankOf cv) cv c).get (F.ADC_CS_STAT_STATE (bankOf cv)) = 4 := by
  have hbank : bankOf cv < 2 := by simp only [bankOf]; omega
  constructor <;> rw [makePermanent_get _ (by simp only [F.ADC_C_STAT_STATE, F.ADC_CS_STAT_STATE]; omega)]
  · rw [get_set_spareState _ _ _ (.inl (by simp only [F.ADC_C_STAT_STATE]; omega))]
    exact sliceState_set 3 _ _ (by decide)
  · exact spareState_set _ 4 _ (by decide)

/-- A retirement is an event of the spares (R94). -/
theorem makePermanent_event (b cv : Nat) (c : Chip) : (makePermanent b cv c).is F.DEV_EVT2_ADC_SPARE = true := by
  rw [makePermanent, Chip.is, dueRepair_get, Chip.evBist, Chip.get_evt_ne _ _ _ _ (by decide)]
  exact beq_iff_eq.mpr (Chip.evt_field _ 2 18 (by decide))

/-! ### The time limit, the swap-in and its end (R218, R220) -/

theorem phaseTimeLimit_of_shadow {b : Nat} {c : Chip} (hp : c.get (F.ADC_CAL_PHASE b) = 2) (hf : (bank c b).failing = false) :
    phaseTimeLimit b c = (modBank b (fun k => { k with miss := 0, compares := 0 }) c).set (F.ADC_CAL_PHASE b) 3 := by
  simp only [phaseTimeLimit, phasePasses, modBank_get, hp, hf, true_or, true_and, if_true, Bool.false_eq_true, not_false_eq_true]

/-- The words after a swap-in: CONVCAL, with the roles of the converter of the cycle and of the spare substituted (log entry 76). -/
def swappedIn (b : Nat) (c : Chip) : Chip :=
  ((c.set (F.ADC_CAL_PHASE b) 4).set (F.ADC_C_STAT_STATE (curConv c b)) 2).set (F.ADC_CS_STAT_STATE b) 2

theorem swapRoles_of_swapin {b : Nat} {c : Chip} (hg : inGap c b = true) (hf : (bank c b).failing = false) (ha : (bank c b).abandoned = false)
    (hp : c.get (F.ADC_CAL_PHASE b) = 3) : (swapRoles b c).regs = (swappedIn b c).regs := by
  simp only [swapRoles, hg, hf, ha, hp, Bool.not_true, Bool.false_eq_true, if_false, if_true]
  rfl

theorem swappedIn_shows {b : Nat} (c : Chip) (hb : b < 2) :
    (swappedIn b c).get (F.ADC_CAL_PHASE b) = 4 ∧ (swappedIn b c).get (F.ADC_CS_STAT_STATE b) = 2 ∧
      (swappedIn b c).get (F.ADC_C_STAT_STATE (curConv c b)) = 2 := by
  have hcur := curConv_lt b c
  refine ⟨?_, spareState_set b 2 _ (by decide), ?_⟩ <;>
    rw [swappedIn, get_set_spareState _ _ _ (.inl (by simp only [F.ADC_CAL_PHASE, F.ADC_C_STAT_STATE]; omega))]
  · rw [get_set_sliceState _ _ _ (.inl (by simp only [F.ADC_CAL_PHASE]; omega))]
    exact phase_set b 4 c (by decide)
  · exact sliceState_set 2 _ _ (by decide)

theorem swapinTimeout_of_swapin {b : Nat} {c : Chip} (hp : c.get (F.ADC_CAL_PHASE b) = 3) (hf : (bank c b).failing = false) :
    swapinTimeout b c = endCycle b (c.countSat (F.ADC_CAL_CALSKIP b) 1) := if_pos ⟨hp, by rw [hf]; decide⟩

/-- The end of a cycle writes of the bank's CAL word PHASE alone. -/
theorem endCycle_get {b : Nat} {f : Fld} (c : Chip) (hb : b < 2) (h : f.addr = 0x40004 + b) :
    (endCycle b c).get f = (c.set (F.ADC_CAL_PHASE b) 0).get f := by
  rw [endCycle, modBank_get, get_set_spareState _ _ _ (.inl (by omega)), get_set_sliceState _ _ _ (.inl (by omega))]

/-- Settles O41: each event of the cycle is brought to the words that it sets, and these are read field by field. -/
theorem theBackgroundCycleRuns : Obligations.TheBackgroundCycleRuns := by
  unfold Obligations.TheBackgroundCycleRuns
  refine ⟨fun s b hg => exec_calibrationTick_of_going b hg, fun b c hb hen hm hh hp hf ha hl hs => ?_,
    fun s sl codes hg => exec_referenceCalibrationDone_of_going sl codes hg, fun sl codes g o c hsl hrun hset hboot hst hfit hpass => ?_,
    fun sl codes c hsl hrun hset hboot hspare hfit => ?_, fun s b hg hp hf => ⟨_, exec_phaseTimeLimit_of_going b hg, ?_⟩,
    fun s b hg hgap hf ha hp => ⟨_, exec_swap_of_going b hg, ?_⟩, fun s b hg hp hf => ⟨_, exec_swapinTimeout_of_going b hg, ?_⟩⟩
  · simp only [Chip.get_of_regs (calibrationTick_first hen hm hh hp hf ha hl hs)]
    exact cycleBegun_shows c (by omega)
  · obtain ⟨d, -, hdone⟩ := referenceCalibrationDone_passed hsl hrun hset hboot hst hfit hpass
    obtain ⟨⟨hglo, hghi⟩, holo, hohi⟩ := limits_of_calibrationPasses hpass
    rw [hdone]
    refine ⟨sliceState_set 0 _ sl (by decide), ?_, ?_⟩
    · rw [Chip.geti, get_set_sliceState _ _ _ (by simp [F.ADC_C_STAT_GAIN]), ← Chip.geti, takeCoefficients_gain g o d hsl hglo hghi]
    · rw [Chip.geti, get_set_sliceState _ _ _ (by simp [F.ADC_C_STAT_OFFS]), ← Chip.geti, takeCoefficients_offs g o d hsl holo hohi]
  · obtain ⟨d, hregs, hdone⟩ := referenceCalibrationDone_undetermined hsl hrun hset hboot hfit
    have hspare' : d.evAdcSpare.get (F.ADC_CS_STAT_STATE (bankOf sl)) < 4 := by
      rwa [evAdcSpare_get _ (by simp only [F.ADC_CS_STAT_STATE]; omega), Chip.get_of_regs hregs]
    rw [hdone, convFails_at_boot hspare' ((evAdcSpare_mode d).trans ((Chip.mode_of_regs hregs).trans hboot))]
    obtain ⟨hretired, hpermanent⟩ := makePermanent_states d.evAdcSpare hsl
    exact ⟨hretired, hpermanent, makePermanent_event _ _ _⟩
  · rw [phaseTimeLimit_of_shadow hp hf]
    exact ⟨phase_set b 3 _ (by decide), sameBut_set _ (List.mem_singleton_self _) (sameBut_refl _ s.chip)⟩
  · simp only [Chip.get_of_regs (swapRoles_of_swapin hgap hf ha hp)]
    exact swappedIn_shows s.chip b.isLt
  · rw [swapinTimeout_of_swapin hp hf]
    constructor
    · rw [endCycle_get _ b.isLt (by simp [F.ADC_CAL_PHASE])]
      exact phase_set b 0 _ (by decide)
    · rw [endCycle_get _ b.isLt (by simp [F.ADC_CAL_CALSKIP]), get_set_phase _ _ _ (by simp [F.ADC_CAL_CALSKIP]),
        Chip.get_countSat_same _ _ _ (by simp [F.ADC_CAL_CALSKIP])]
      rfl

end Sys2Proof.Machine
end

section
/-! SUPPORT. The proofs of the PWM generator's chapter (08_pwm_generator), first part: windows and commands, and the points of a carrier's period. -/

namespace Sys2Proof.Machine

/-! ### Timebases and legs beside their words -/

/-- A part of a timebase that an update leaves as it was. -/
theorem pwmg_modPwmg_keeps {α : Type} (p : PwmGroup → α) {f : PwmGroup → PwmGroup} (h : ∀ q, p (f q) = p q) (c : Chip) (g : Nat) :
    p ((c.modPwmg g f).pwmg g) = p (c.pwmg g) := by
  simp only [Chip.pwmg, Chip.modPwmg, List.getD_eq_getElem?_getD, List.getElem?_modify_eq]
  cases c.pwmG[g]? with
  | none => rfl
  | some q => exact h q

theorem pwmg_modPwmg_same {c : Chip} {g : Nat} (f : PwmGroup → PwmGroup) (h : g < c.pwmG.length) : (c.modPwmg g f).pwmg g = f (c.pwmg g) := by
  simp [Chip.pwmg, Chip.modPwmg, List.getD_eq_getElem?_getD, List.getElem?_eq_getElem h]

/-- A timebase that differs from an idle one is one of the device's. -/
theorem lt_length_of_pwmg_ne {c : Chip} {g : Nat} (h : c.pwmg g ≠ {}) : g < c.pwmG.length := by
  by_contra hlen
  exact h (List.getD_eq_default _ _ (Nat.le_of_not_lt hlen))

theorem lt_length_of_running {c : Chip} {g : Nat} (h : (c.pwmg g).running = true) : g < c.pwmG.length :=
  lt_length_of_pwmg_ne fun hidle => by simp [hidle] at h

theorem leg_modLeg_same {c : Chip} {n : Nat} (f : PwmLeg → PwmLeg) (h : n < c.pwmL.length) : (c.modLeg n f).leg n = f (c.leg n) := by
  simp [Chip.leg, Chip.modLeg, List.getD_eq_getElem?_getD, List.getElem?_eq_getElem h]

/-- A part of a leg that an update leaves as it was. -/
theorem leg_modLeg_keeps {α : Type} (p : PwmLeg → α) {f : PwmLeg → PwmLeg} (h : ∀ l, p (f l) = p l) (c : Chip) (n : Nat) :
    p ((c.modLeg n f).leg n) = p (c.leg n) := by
  simp only [Chip.leg, Chip.modLeg, List.getD_eq_getElem?_getD, List.getElem?_modify_eq]
  cases c.pwmL[n]? with
  | none => rfl
  | some l => exact h l

theorem lt_length_of_leg_ne {c : Chip} {n : Nat} (h : c.leg n ≠ {}) : n < c.pwmL.length := by
  by_contra hlen
  exact h (List.getD_eq_default _ _ (Nat.le_of_not_lt hlen))

/-! ### Windows (R240, R246) -/

/-- The duty that the minimum pulse leaves of a duty (R246 step 4). -/
def pulseDuty (minp duty p : Nat) : Nat :=
  if minp = 0 then duty else if duty < minp * 256 then 0 else if p - duty < minp * 256 then p else duty

/-- Where the window of a duty opens without a shift (R240). -/
def windowCentre (cmode d p : Nat) : Int := if cmode = 0 then 0 else (p / 2 : Nat) - (d / 2 : Nat)

/-- Where the window of a duty opens under a shift, which is held so that the window stays inside the period (R240). -/
def windowOn (cmode d : Nat) (shift : Int) (p : Nat) : Nat :=
  (windowCentre cmode d p + clampInt (-windowCentre cmode d p) ((p : Int) - d - windowCentre cmode d p) shift).toNat

theorem window_eq (cmode minp duty : Nat) (shift : Int) (p : Nat) :
    window cmode minp duty shift p =
      (windowOn cmode (pulseDuty minp duty p) shift p, windowOn cmode (pulseDuty minp duty p) shift p + pulseDuty minp duty p) := rfl

theorem pulseDuty_of_no_minimum (duty p : Nat) : pulseDuty 0 duty p = duty := rfl

theorem pulseDuty_le {duty p : Nat} (minp : Nat) (h : duty ≤ p) : pulseDuty minp duty p ≤ p := by
  unfold pulseDuty
  split_ifs <;> omega

theorem windowOn_add_le {d p : Nat} (cmode : Nat) (shift : Int) (h : d ≤ p) : windowOn cmode d shift p + d ≤ p := by
  have hclamp := clampInt_mem (lo := -windowCentre cmode d p) (hi := (p : Int) - d - windowCentre cmode d p) shift (by omega)
  unfold windowOn
  omega

/-- Without a shift the window opens at its centre place, which leaves room for its width. -/
theorem windowOn_unshifted {cmode d p : Nat} (hlo : 0 ≤ windowCentre cmode d p) (hhi : windowCentre cmode d p + d ≤ p) :
    windowOn cmode d 0 p = (windowCentre cmode d p).toNat := by
  rw [windowOn, clampInt_of_mem (by omega) (by omega), Int.add_zero]

theorem window_edge_aligned {duty p : Nat} (h : duty ≤ p) : window 0 0 duty 0 p = (0, duty) := by
  have hon : windowOn 0 duty 0 p = 0 := windowOn_unshifted (cmode := 0) (Int.le_refl 0) (by rw [windowCentre, if_pos rfl]; omega)
  rw [window_eq, pulseDuty_of_no_minimum, hon, Nat.zero_add]

theorem window_centre_aligned {duty p : Nat} (h : duty ≤ p) : window 1 0 duty 0 p = (p / 2 - duty / 2, p / 2 - duty / 2 + duty) := by
  have hcentre : windowCentre 1 duty p = ((p / 2 - duty / 2 : Nat) : Int) := by rw [windowCentre, if_neg (by decide)]; omega
  have hon : windowOn 1 duty 0 p = p / 2 - duty / 2 := by
    rw [windowOn_unshifted (by omega) (by omega), hcentre, Int.toNat_natCast]
  rw [window_eq, pulseDuty_of_no_minimum, hon]

/-! ### Commands (R241, R179) -/

theorem legCommands_exclusive (m : Nat) (act : Bool) : ¬((legCommands m act).1 = true ∧ (legCommands m act).2 = true) := by
  unfold legCommands
  split <;> simp

theorem kerfCommands_exclusive (st : Nat) : ¬((kerfCommands st).1 = true ∧ (kerfCommands st).2 = true) := by
  rintro ⟨hhigh, hlow⟩
  exact absurd ((beq_iff_eq.mp hhigh).symm.trans (beq_iff_eq.mp hlow)) (by decide)

/-- Settles O43: the shift is held where the window still fits into the period, and a leg mode or a Kerf state turns on one switch at most. -/
theorem windowsLieInsideThePeriod : Obligations.WindowsLieInsideThePeriod := by
  unfold Obligations.WindowsLieInsideThePeriod
  refine ⟨fun cmode minp duty p shift h => ⟨Nat.le_add_right _ _, windowOn_add_le cmode shift (pulseDuty_le minp h), ?_⟩,
    fun duty p h => ⟨window_edge_aligned h, window_centre_aligned h⟩, legCommands_exclusive, kerfCommands_exclusive⟩
  rintro rfl
  rfl

/-! ### The period boundary (R237 to R239, R245) -/

theorem exec_periodBoundary_of_going {s : State} (g : Fin 7) (h : going s.chip = true) :
    exec (.periodBoundary g) s = .next (s.acted (periodBoundaryAll g s.chip)) := running_of_going h (periodBoundaryAll g)

theorem exec_midPoint_of_going {s : State} (g : Fin 7) (h : going s.chip = true) :
    exec (.midPoint g) s = .next (s.acted (midPoint g s.chip)) := running_of_going h (midPoint g)

theorem exec_xcTrigger_of_going {s : State} (g : Fin 6) (n : Fin 4) (h : going s.chip = true) :
    exec (.xcTrigger g n) s = .next (s.acted (xcTrigger g n s.chip)) := running_of_going h (xcTrigger g n)

theorem boundaryDue_iff (c : Chip) (g : Nat) :
    boundaryDue c g = true ↔
      (c.pwmg g).running = true ∧ angleMode c g = false ∧ fallen c (instantOf c g (c.get (F.PWM_G_LPER_LPER g))) = true := by
  simp [boundaryDue, and_assoc]

theorem periodBoundary_of_not_due {g : Nat} {c : Chip} (h : boundaryDue c g = false) : periodBoundary g c = c := by
  simp only [periodBoundary, h, Bool.false_eq_true, if_false]

theorem takeCtl_upd {g : Nat} {c : Chip} (h : g < c.pwmG.length) : ((takeCtl g c).pwmg g).upd = c.get (F.PWM_G_CTL_UPD g) := by
  rw [takeCtl, pwmg_modPwmg_same _ h]

theorem takeCtl_pend (g : Nat) (c : Chip) : ((takeCtl g c).pwmg g).pend = (c.pwmg g).pend :=
  pwmg_modPwmg_keeps PwmGroup.pend (fun _ => by rfl) c g

theorem takeCtl_commitUp (g : Nat) (c : Chip) : ((takeCtl g c).pwmg g).commitUp = (c.pwmg g).commitUp :=
  pwmg_modPwmg_keeps PwmGroup.commitUp (fun _ => by rfl) c g

section
variable {g : Nat} {c : Chip} (hdue : boundaryDue c g = true) (hissued : issuePoints g c = c)
include hdue hissued

/-- A boundary that falls with every point before it issued: the settings are taken, then what an update point takes, and a period opens at its instant. -/
theorem periodBoundary_of_due :
    periodBoundary g c = openPeriod g (instantOf c g (c.get (F.PWM_G_LPER_LPER g)))
      (if updZero (c.get (F.PWM_G_CTL_UPD g)) then updatePoint g false (takeCtl g c) else takeCtl g c) := by
  obtain ⟨hrun, -, -⟩ := (boundaryDue_iff c g).mp hdue
  simp only [periodBoundary, hdue, hissued, if_true, takeCtl_upd (lt_length_of_running hrun)]

theorem periodBoundary_without_update (h : updZero (c.get (F.PWM_G_CTL_UPD g)) = false) :
    periodBoundary g c = openPeriod g (instantOf c g (c.get (F.PWM_G_LPER_LPER g))) (takeCtl g c) := by
  rw [periodBoundary_of_due hdue hissued, h, if_neg Bool.false_ne_true]

theorem periodBoundary_with_update (h : updZero (c.get (F.PWM_G_CTL_UPD g)) = true) :
    periodBoundary g c = openPeriod g (instantOf c g (c.get (F.PWM_G_LPER_LPER g))) (updatePoint g false (takeCtl g c)) := by
  rw [periodBoundary_of_due hdue hissued, h, if_pos rfl]

end

/-- At an update point a pending set is taken whose last commit lies nine cycles or more back. -/
theorem updatePoint_of_early {g : Nat} {c : Chip} (mid : Bool) (hp : (c.pwmg g).pend.isSome = true) (h : (c.pwmg g).commitUp + 9 ≤ c.up) :
    updatePoint g mid c = takeSet g mid c := by
  simp [updatePoint, h, Option.isSome_iff_ne_none.mp hp]

/-- A set whose last commit lies one to eight cycles back waits, and is late. -/
theorem updatePoint_of_late {g : Nat} {c : Chip} (mid : Bool) (hp : (c.pwmg g).pend.isSome = true) (hlo : (c.pwmg g).commitUp < c.up)
    (hhi : c.up < (c.pwmg g).commitUp + 9) : updatePoint g mid c = commitLate g c := by
  simp [updatePoint, hlo, Nat.not_le_of_lt hhi, Option.isSome_iff_ne_none.mp hp]

theorem commitLate_is_commit_late {g : Nat} (c : Chip) (h : g < 7) : (commitLate g c).is (F.PWM_G_STAT_COMMIT_LATE g) = true := by
  rw [commitLate, Chip.occur_is, Chip.evPwmWarn, Chip.is, Chip.get_evt_ne _ _ _ _ (by simp only [F.PWM_G_STAT_COMMIT_LATE]; omega),
    Chip.get_countSat_ne _ _ _ _ (by simp only [F.PWM_G_STAT_COMMIT_LATE, F.PWM_G_CNT_LATECNT]; omega)]
  exact Chip.is_raise_same c _ rfl (by simp [F.PWM_G_STAT_COMMIT_LATE])

theorem commitLate_latecnt {g : Nat} (c : Chip) (h : g < 7) :
    (commitLate g c).get (F.PWM_G_CNT_LATECNT g) = min (c.get (F.PWM_G_CNT_LATECNT g) + 1) 255 := by
  rw [commitLate, Chip.occur_get, Chip.evPwmWarn, Chip.get_evt_ne _ _ _ _ (by simp only [F.PWM_G_CNT_LATECNT]; omega),
    Chip.get_countSat_same _ _ _ (by simp [F.PWM_G_CNT_LATECNT]),
    Chip.get_raise_ne _ _ _ (by simp only [F.PWM_G_STAT_COMMIT_LATE, F.PWM_G_CNT_LATECNT]; omega)]
  rfl

/-! ### The middle of a period and the extra compares (R238, R252) -/

/-- The chip with a fine position of the present cycle (R237). -/
def atFine (p : Nat) (c : Chip) : Chip := { c with fine := p }

@[simp] theorem atFine_pwmG (p : Nat) (c : Chip) : (atFine p c).pwmG = c.pwmG := rfl

theorem sameWords_atFine (p : Nat) (c : Chip) : sameWords c (atFine p c) := sameBut_refl [] c

/-- The middle of the running period, before what it triggers: its fine position, and the mark that the position has passed it. -/
def midReached (g : Nat) (c : Chip) : Chip :=
  (atFine (finePos c (instantOf c g (c.get (F.PWM_G_LPER_LPER g) / 2))) c).modPwmg g (fun q => { q with half := true })

theorem sameWords_midReached (g : Nat) (c : Chip) : sameWords c (midReached g c) := sameBut_refl [] c

theorem midReached_half {g : Nat} {c : Chip} (h : g < c.pwmG.length) : ((midReached g c).pwmg g).half = true := by
  rw [midReached, pwmg_modPwmg_same _ (by rwa [atFine_pwmG])]

theorem midReached_upd (g : Nat) (c : Chip) : ((midReached g c).pwmg g).upd = (c.pwmg g).upd :=
  pwmg_modPwmg_keeps PwmGroup.upd (fun _ => by rfl) (atFine _ c) g

/-- The middle of a period that is no update point. -/
theorem midPoint_without_update {g : Nat} {c : Chip} (hrun : (c.pwmg g).running = true) (ha : angleMode c g = false) (hh : (c.pwmg g).half = false)
    (hf : fallen c (instantOf c g (c.get (F.PWM_G_LPER_LPER g) / 2)) = true) (hu : updMid (c.pwmg g).upd = false) :
    midPoint g c = if g < 6 then triggerSource (0x10 + g) (midReached g c) else midReached g c := by
  have hupd : updMid ((midReached g c).pwmg g).upd = false := by rwa [midReached_upd]
  have hnone (d : Chip) : ((d.pwmg g).pend.isSome && (d.pwmg g).pend.isNone) = false := by cases (d.pwmg g).pend <;> rfl
  simp only [midReached, atFine] at hupd
  simp only [midPoint, hrun, ha, hh, hf, hupd, hnone, Bool.not_false, Bool.and_self, if_true, Bool.false_eq_true, if_false]
  rfl

theorem midPoint_of_stopped {g : Nat} {c : Chip} (h : (c.pwmg g).running = false ∨ angleMode c g = true) : midPoint g c = c := by
  rcases h with h | h <;> simp [midPoint, h]

theorem boundaryDue_of_stopped {g : Nat} {c : Chip} (h : (c.pwmg g).running = false ∨ angleMode c g = true) : boundaryDue c g = false := by
  rcases h with h | h <;> simp [boundaryDue, h]

theorem boundaryDue_of_not_fallen {g : Nat} {c : Chip} (h : fallen c (instantOf c g (c.get (F.PWM_G_LPER_LPER g))) = false) :
    boundaryDue c g = false := by
  simp [boundaryDue, h]

/-- Extra compare n of a timebase is marked as issued in the running period. -/
def xcIssued (g n : Nat) (c : Chip) : Chip := c.modPwmg g (fun q => { q with xcDone := q.xcDone.set n true })

theorem sameWords_xcIssued (g n : Nat) (c : Chip) : sameWords c (xcIssued g n c) := sameBut_refl [] c

theorem xcIssued_xcDone {g : Nat} {c : Chip} (n : Nat) (h : g < c.pwmG.length) :
    ((xcIssued g n c).pwmg g).xcDone = (c.pwmg g).xcDone.set n true := by
  rw [xcIssued, pwmg_modPwmg_same _ h]

section
variable {g n : Nat} {c : Chip}

theorem xcTrigger_of_reached (hrun : (c.pwmg g).running = true) (ha : angleMode c g = false) (hen : ((c.pwmg g).xc.getD n 0).field 47 1 = 1)
    (hd : (c.pwmg g).xcDone.getD n false = false) (hp : ((c.pwmg g).xc.getD n 0).field 0 30 < c.get (F.PWM_G_LPER_LPER g))
    (hf : fallen c (instantOf c g (((c.pwmg g).xc.getD n 0).field 0 30)) = true) :
    xcTrigger g n c = triggerSource (0x20 + 4 * g + n) (xcIssued g n c) := by
  simp only [xcTrigger, hrun, ha, hen, hd, hp, hf, Bool.not_false, Bool.and_self, beq_self_eq_true, decide_true, if_true]
  rfl

theorem xcTrigger_of_skipped (h : c.get (F.PWM_G_LPER_LPER g) ≤ ((c.pwmg g).xc.getD n 0).field 0 30 ∨ (c.pwmg g).xcDone.getD n false = true) :
    xcTrigger g n c = c := by
  rcases h with h | h
  · simp only [xcTrigger, decide_eq_false (Nat.not_lt_of_le h), Bool.and_false, Bool.false_and, Bool.false_eq_true, if_false]
  · simp only [xcTrigger, h, Bool.not_true, Bool.and_false, Bool.false_and, Bool.false_eq_true, if_false]

/-- An enabled extra compare is one of the four of its timebase. -/
theorem mem_of_xc_enabled (hen : ((c.pwmg g).xc.getD n 0).field 47 1 = 1) : (c.pwmg g).xc.getD n 0 ∈ (c.pwmg g).xc := by
  rw [List.getD_eq_getElem?_getD] at hen ⊢
  cases hx : (c.pwmg g).xc[n]? with
  | none => simp [hx, Word.field] at hen
  | some w => exact List.mem_of_getElem? hx

theorem markXcskip_of_beyond (hen : ((c.pwmg g).xc.getD n 0).field 47 1 = 1)
    (hp : c.get (F.PWM_G_LPER_LPER g) ≤ ((c.pwmg g).xc.getD n 0).field 0 30) : markXcskip g c = c.raise (F.PWM_G_STAT_XCSKIP g) :=
  if_pos (List.any_eq_true.mpr ⟨_, mem_of_xc_enabled hen, by rw [hen, decide_eq_true hp]; rfl⟩)

end

/-- Settles O44: a boundary that falls takes the settings and then what its update point takes, and the other points of a period are brought to
the marks that they set and to what they trigger. -/
theorem carrierPointsTakeEffect : Obligations.CarrierPointsTakeEffect := by
  unfold Obligations.CarrierPointsTakeEffect
  refine ⟨fun s g hg => exec_periodBoundary_of_going g hg, fun g c hd hi hu => periodBoundary_without_update hd hi hu,
    fun g c hd hi hu hp hc => ?_, fun g c hd hi hu hp hlo hhi => ?_, fun s g hg hrun ha hh hf hu => ⟨midReached g s.chip, ?_, ?_, ?_⟩,
    fun s g n hg hrun ha hen hd hp hf => ⟨xcIssued g n s.chip, ?_, ?_, ?_⟩, fun s g n hg h => ?_, fun g n c hen hp => ?_,
    fun g c h => ⟨periodBoundary_of_not_due (boundaryDue_of_stopped h), midPoint_of_stopped h⟩,
    fun g c h => periodBoundary_of_not_due (boundaryDue_of_not_fallen h), fun g c h => ⟨commitLate_is_commit_late c h, commitLate_latecnt c h⟩⟩
  · rw [periodBoundary_with_update hd hi hu, updatePoint_of_early false (by rwa [takeCtl_pend]) (by rwa [takeCtl_commitUp])]
  · rw [periodBoundary_with_update hd hi hu,
      updatePoint_of_late false (by rwa [takeCtl_pend]) (by rwa [takeCtl_commitUp]) (by rwa [takeCtl_commitUp])]
  · rw [exec_midPoint_of_going g hg, midPoint_without_update hrun ha hh hf hu]
  · exact midReached_half (lt_length_of_running hrun)
  · exact sameWords_midReached g s.chip
  · rw [exec_xcTrigger_of_going g n hg, xcTrigger_of_reached hrun ha hen hd hp hf]
  · exact xcIssued_xcDone n (lt_length_of_running hrun)
  · exact sameWords_xcIssued g n s.chip
  · rw [exec_xcTrigger_of_going g n hg, xcTrigger_of_skipped h]
  · rw [markXcskip_of_beyond hen hp]
    exact Chip.is_raise_same c _ rfl (by simp [F.PWM_G_STAT_XCSKIP])

end Sys2Proof.Machine
end

section
/-! SUPPORT. The proofs of the PWM generator's chapter (08_pwm_generator), second part: the commands of the legs, the refresh, the delay lines and their
measurement. -/

namespace Sys2Proof.Machine

/-! ### Command edges (R240 to R242, R253) -/

theorem exec_commandEdge_of_going {s : State} (n : Fin 20) (pos : BitVec 30) (h : going s.chip = true) :
    exec (.commandEdge n pos) s = .next (s.acted (commandEdge n pos.toNat s.chip)) := running_of_going h (commandEdge n pos.toNat)

/-- The commands that a leg mode gives at position p of the period. -/
def windowCommands (n p : Nat) (c : Chip) : Bool × Bool :=
  legCommands (c.get (F.PWM_L_LDUTY_LMODE n)) (decide ((c.leg n).on ≤ p) && decide (p < (c.leg n).off))

section
variable {n : Nat} {c : Chip}

theorem setCommands_cmdH (hi lo : Bool) (h : n < c.pwmL.length) : ((setCommands n hi lo c).leg n).cmdH = hi := by
  rw [setCommands, leg_modLeg_same _ h]

theorem setCommands_cmdL (hi lo : Bool) (h : n < c.pwmL.length) : ((setCommands n hi lo c).leg n).cmdL = lo := by
  rw [setCommands, leg_modLeg_same _ h]

theorem sameWords_setCommands (n : Nat) (hi lo : Bool) (c : Chip) : sameWords c (setCommands n hi lo c) := sameBut_refl [] c

/-- A leg of a carrier without a refresh follows its window. -/
theorem commandLeg_of_carrier (p : Nat) (hr : (c.leg n).refresh = false) (ha : angleMode c (groupOf n) = false) :
    commandLeg n p c = setCommands n (windowCommands n p c).1 (windowCommands n p c).2 c := by
  simp only [commandLeg, hr, ha, Bool.false_eq_true, if_false, windowCommands]

theorem commandEdge_of_fallen {pos : Nat} (hrun : (c.pwmg (groupOf n)).running = true) (ha : angleMode c (groupOf n) = false)
    (hr : (c.leg n).refresh = false) (hf : fallen c (instantOf c (groupOf n) pos) = true) :
    commandEdge n pos c = commandLeg n (positionNow c (groupOf n)) (atFine (finePos c (instantOf c (groupOf n) pos)) c) := by
  simp only [commandEdge, hr, ha, hrun, hf, Bool.false_and, Bool.and_self, Bool.false_eq_true, if_false, if_true, atFine]

end

/-! ### The refresh monitor (R260) -/

theorem exec_bootstrapRefreshDue_of_going {s : State} (n : Fin 20) (h : going s.chip = true) :
    exec (.bootstrapRefreshDue n) s = .next (s.acted (bootstrapRefreshDue n s.chip)) := running_of_going h (bootstrapRefreshDue n)

/-- A refresh of leg n is due. -/
def refreshMarked (n : Nat) (c : Chip) : Chip := c.modLeg n (fun l => { l with refreshDue := true })

/-- The refresh of a carrier's leg waits for the boundary. -/
theorem angleRefresh_of_carrier {n : Nat} {c : Chip} (h : angleMode c (groupOf n) = false) : angleRefresh n c = c := by
  simp only [angleRefresh, h, Bool.and_false, Bool.false_and, Bool.false_eq_true, if_false]

theorem bootstrapRefreshDue_of_expired {n : Nat} {c : Chip} (hen : c.is (F.PWM_G_BSR_EN (groupOf n)) = true)
    (hrun : (c.pwmg (groupOf n)).running = true) (ha : angleMode c (groupOf n) = false) (hl : lowLasts c n = false)
    (ht : 400 * max 1 (c.get (F.PWM_G_BSR_BSMAX (groupOf n))) ≤ c.up - (c.leg n).monUp) : bootstrapRefreshDue n c = refreshMarked n c := by
  have hcarrier : angleMode (refreshMarked n c) (groupOf n) = false := ha
  simp only [bootstrapRefreshDue, hen, hrun, hl, decide_eq_true ht, Bool.not_false, Bool.and_self, if_true]
  exact angleRefresh_of_carrier hcarrier

/-! ### Delays and delay lines (R254, R255) -/

theorem exec_delayUpdate_of_going {s : State} (n : Fin 20) (high : Bool) (h : going s.chip = true) :
    exec (.delayUpdate n high) s = .next (s.acted (delayUpdate n high s.chip)) := running_of_going h (delayUpdate n high)

theorem exec_edgeLaunch_of_going {s : State} (n : Fin 20) (high on : Bool) (h : going s.chip = true) :
    exec (.edgeLaunch n high on) s = .next (s.acted (edgeLaunch n high on s.chip)) := running_of_going h (edgeLaunch n high on)

/-- The high output of leg n takes the delays of its word. -/
def highDelaysTaken (n : Nat) (c : Chip) : Chip :=
  c.modLeg n (fun l => { l with riseH := c.get (F.PWM_L_DLYH_RISE n), fallH := c.get (F.PWM_L_DLYH_FALL n) })

/-- The low output of leg n takes the delays of its word. -/
def lowDelaysTaken (n : Nat) (c : Chip) : Chip :=
  c.modLeg n (fun l => { l with riseL := c.get (F.PWM_L_DLYL_RISE n), fallL := c.get (F.PWM_L_DLYL_FALL n) })

section
variable {n : Nat} {c : Chip}

theorem delayUpdate_of_high_off (hc : (cutCommands c n).1 = false) (hl : (c.leg n).lineH = []) : delayUpdate n true c = highDelaysTaken n c := by
  simp only [delayUpdate, hc, hl, List.isEmpty_nil, Bool.not_true, Bool.or_self, Bool.false_eq_true, if_false, if_true, highDelaysTaken]

theorem delayUpdate_of_low_off (hc : (cutCommands c n).2 = false) (hl : (c.leg n).lineL = []) : delayUpdate n false c = lowDelaysTaken n c := by
  simp only [delayUpdate, hc, hl, List.isEmpty_nil, Bool.not_true, Bool.or_self, Bool.false_eq_true, if_false, lowDelaysTaken]

theorem not_lineDue_nil (c : Chip) (on : Bool) : lineDue c [] on = false := rfl

/-- A leg with an edge due in a delay line is one of the device's. -/
theorem lt_length_of_lineDue (p : PwmLeg → List (Nat × Bool)) (hp : p {} = []) {on : Bool} (h : lineDue c (p (c.leg n)) on = true) :
    n < c.pwmL.length :=
  lt_length_of_leg_ne fun hidle => by simp [hidle, hp, not_lineDue_nil] at h

/-- The edge at the head of a delay line leaves it and is the leg's delayed signal, before what the interlock makes of it. -/
def edgeTaken (n : Nat) (high on : Bool) (c : Chip) : Chip :=
  (atFine (((if high then (c.leg n).lineH else (c.leg n).lineL).headD (0, on)).1 - 64 * c.up) c).modLeg n
    (fun l => if high then { l with outH := on, lineH := l.lineH.tail } else { l with outL := on, lineL := l.lineL.tail })

theorem edgeTaken_leg (high on : Bool) (h : n < c.pwmL.length) :
    (edgeTaken n high on c).leg n =
      if high then { c.leg n with outH := on, lineH := (c.leg n).lineH.tail } else { c.leg n with outL := on, lineL := (c.leg n).lineL.tail } :=
  leg_modLeg_same (c := atFine _ c) _ h

theorem edgeLaunch_of_not_due {high on : Bool} (h : lineDue c (if high then (c.leg n).lineH else (c.leg n).lineL) on = false) :
    edgeLaunch n high on c = c := by
  simp only [edgeLaunch, h, Bool.false_eq_true, if_false]

theorem edgeLaunch_of_due {high on : Bool} (h : lineDue c (if high then (c.leg n).lineH else (c.leg n).lineL) on = true) :
    edgeLaunch n high on c =
      if interlocked (edgeTaken n high on c) n then (if interlocked c n then edgeTaken n high on c else interlockBegins n (edgeTaken n high on c))
      else (edgeTaken n high on c).modLeg n (fun l => { l with ilk := none }) := if_pos h

/-- The beginning of an interlock sets of its leg the instant at which it began. -/
theorem interlockBegins_leg {α : Type} (p : PwmLeg → α) (hp : ∀ l i, p { l with ilk := i } = p l) (c : Chip) (n : Nat) :
    p ((interlockBegins n c).leg n) = p (c.leg n) := by
  rw [interlockBegins, Chip.occur_keeps (fun c => p (c.leg n)) (fun _ _ => rfl)]
  exact leg_modLeg_keeps p (fun l => hp l _) c n

/-- What a launch makes of its leg, apart from the interlock, is what the edge makes of it. -/
theorem edgeLaunch_leg {α : Type} (p : PwmLeg → α) (hp : ∀ l i, p { l with ilk := i } = p l) {high on : Bool}
    (h : lineDue c (if high then (c.leg n).lineH else (c.leg n).lineL) on = true) :
    p ((edgeLaunch n high on c).leg n) = p ((edgeTaken n high on c).leg n) := by
  rw [edgeLaunch_of_due h]
  split
  · split
    · rfl
    · exact interlockBegins_leg p hp _ n
  · exact leg_modLeg_keeps p (fun l => hp l none) _ n

theorem edgeLaunch_high {on : Bool} (h : lineDue c (c.leg n).lineH on = true) :
    ((edgeLaunch n true on c).leg n).outH = on ∧ ((edgeLaunch n true on c).leg n).lineH = (c.leg n).lineH.tail := by
  have htaken := edgeTaken_leg (c := c) true on (lt_length_of_lineDue PwmLeg.lineH rfl h)
  rw [edgeLaunch_leg PwmLeg.outH (fun _ _ => rfl) h, edgeLaunch_leg PwmLeg.lineH (fun _ _ => rfl) h, htaken]
  exact ⟨rfl, rfl⟩

theorem edgeLaunch_low {on : Bool} (h : lineDue c (c.leg n).lineL on = true) :
    ((edgeLaunch n false on c).leg n).outL = on ∧ ((edgeLaunch n false on c).leg n).lineL = (c.leg n).lineL.tail := by
  have htaken := edgeTaken_leg (c := c) false on (lt_length_of_lineDue PwmLeg.lineL rfl h)
  rw [edgeLaunch_leg PwmLeg.outL (fun _ _ => rfl) h, edgeLaunch_leg PwmLeg.lineL (fun _ _ => rfl) h, htaken]
  exact ⟨rfl, rfl⟩

end

/-! ### Measurements of a delay line (R261) -/

theorem exec_delayLineMeasurement_of_going {s : State} (g : Fin 7) (taps : Nat) (h : going s.chip = true) :
    exec (.delayLineMeasurement g taps) s = .next (s.acted (delayLineMeasurement g taps s.chip)) :=
  running_of_going h (delayLineMeasurement g taps)

theorem sameBut_modPwmg {l : List Nat} {c d : Chip} (f : PwmGroup → PwmGroup) (g : Nat) (h : sameBut l c d) : sameBut l c (d.modPwmg g f) := h

/-- A measurement in range shows its taps and DLOK, and the run of bad ones begins anew. -/
def lineMeasured (g taps : Nat) (c : Chip) : Chip :=
  ((c.set (F.PWM_G_DLC_TAPS g) taps).raise (F.PWM_G_DLC_DLOK g)).modPwmg g (fun q => { q with dlEver := true, dlBad := 0 })

/-- The fourth bad measurement in a row. -/
def lineFailed (g : Nat) (c : Chip) : Chip :=
  (((c.modPwmg g (fun q => { q with dlBad := q.dlBad + 1 })).setb (F.PWM_G_DLC_DLOK g) false).raise (F.PWM_G_DLC_DLFAIL g)).notice (.device .dlfail)

section
variable {g taps : Nat} {c : Chip}

theorem delayLineMeasurement_in_range (hm : c.mode ≠ .reset) (hlo : 72 ≤ taps) (hhi : taps ≤ 160) :
    delayLineMeasurement g taps c = lineMeasured g taps c := by
  rw [delayLineMeasurement, if_neg hm, if_pos ⟨hlo, hhi⟩, lineMeasured]

theorem delayLineMeasurement_fourth_bad (hm : c.mode ≠ .reset) (ht : taps < 72 ∨ 160 < taps) (hb : (c.pwmg g).dlBad = 3) :
    delayLineMeasurement g taps c = lineFailed g c := by
  have hlen : g < c.pwmG.length := lt_length_of_pwmg_ne fun hidle => by simp [hidle] at hb
  have hfourth : ((c.modPwmg g (fun q => { q with dlBad := q.dlBad + 1 })).pwmg g).dlBad = 4 := by rw [pwmg_modPwmg_same _ hlen, hb]
  rw [delayLineMeasurement, if_neg hm, if_neg (by omega)]
  exact if_pos hfourth

theorem lineMeasured_taps (h : taps ≤ 160) : (lineMeasured g taps c).get (F.PWM_G_DLC_TAPS g) = taps := by
  rw [lineMeasured, modPwmg_get, Chip.get_raise_ne _ _ _ (by simp [F.PWM_G_DLC_TAPS, F.PWM_G_DLC_DLOK]),
    Chip.get_set_same _ _ _ (by simp [F.PWM_G_DLC_TAPS])]
  exact Nat.mod_eq_of_lt (Nat.lt_of_le_of_lt h (by decide : 160 < 256))

theorem lineMeasured_dlok : (lineMeasured g taps c).is (F.PWM_G_DLC_DLOK g) = true := by
  rw [lineMeasured, modPwmg_is]
  exact Chip.is_raise_same _ _ rfl (by simp [F.PWM_G_DLC_DLOK])

theorem sameBut_lineMeasured (g taps : Nat) (c : Chip) : sameBut [(F.PWM_G_DLC_TAPS g).addr] c (lineMeasured g taps c) := by
  have htaps : sameBut [(F.PWM_G_DLC_TAPS g).addr] c (c.set (F.PWM_G_DLC_TAPS g) taps) :=
    sameBut_set taps (List.mem_singleton_self _) (sameBut_refl _ c)
  exact sameBut_modPwmg _ g (sameBut_set (f := F.PWM_G_DLC_DLOK g) 1 (by simp [F.PWM_G_DLC_TAPS, F.PWM_G_DLC_DLOK]) htaps)

theorem lineFailed_dlok : (lineFailed g c).is (F.PWM_G_DLC_DLOK g) = false := by
  rw [lineFailed, notice_is, Chip.is, Chip.get_raise_ne _ _ _ (by simp [F.PWM_G_DLC_DLOK, F.PWM_G_DLC_DLFAIL]), ← Chip.is]
  exact Chip.is_setb_same _ _ false rfl (by simp [F.PWM_G_DLC_DLOK])

theorem lineFailed_dlfail : (lineFailed g c).is (F.PWM_G_DLC_DLFAIL g) = true := by
  rw [lineFailed, notice_is]
  exact Chip.is_raise_same _ _ rfl (by simp [F.PWM_G_DLC_DLFAIL])

theorem lineFailed_notices : (lineFailed g c).notices = c.notices ++ [.device .dlfail] := rfl

end

/-- Settles O45: each event of a leg is brought to the update of the leg that it makes, and a measurement to the words that it sets. -/
theorem legsFollowTheirCommands : Obligations.LegsFollowTheirCommands := by
  unfold Obligations.LegsFollowTheirCommands
  refine ⟨fun s n pos hg hrun ha hr hf =>
      ⟨atFine (finePos s.chip (instantOf s.chip (groupOf n) pos.toNat)) s.chip, ?_, rfl, rfl, sameWords_atFine _ s.chip⟩, fun n p c hn hr ha => ?_,
    fun s n hg hen hrun ha hl ht => ⟨refreshMarked n s.chip, ?_, rfl, sameBut_refl [] _⟩, fun s n hg hc hl => ⟨highDelaysTaken n s.chip, ?_, rfl, sameBut_refl [] _⟩,
    fun s n hg hc hl => ⟨lowDelaysTaken n s.chip, ?_, rfl, sameBut_refl [] _⟩, fun s n high on hg => exec_edgeLaunch_of_going n high on hg,
    fun n high on c h => edgeLaunch_of_not_due h, fun n on c h => edgeLaunch_high h, fun n on c h => edgeLaunch_low h,
    fun s g taps hg hlo hhi => ⟨lineMeasured g taps s.chip, ?_, lineMeasured_taps hhi, lineMeasured_dlok, rfl, sameBut_lineMeasured g taps s.chip⟩,
    fun s g taps hg ht hb => ⟨lineFailed g s.chip, ?_, lineFailed_dlok, lineFailed_dlfail, lineFailed_notices⟩⟩
  · rw [exec_commandEdge_of_going n pos hg, commandEdge_of_fallen hrun ha hr hf]
  · rw [commandLeg_of_carrier p hr ha]
    exact ⟨setCommands_cmdH _ _ hn, setCommands_cmdL _ _ hn, sameWords_setCommands n _ _ c⟩
  · rw [exec_bootstrapRefreshDue_of_going n hg, bootstrapRefreshDue_of_expired hen hrun ha hl ht]
  · rw [exec_delayUpdate_of_going n true hg, delayUpdate_of_high_off hc hl]
  · rw [exec_delayUpdate_of_going n false hg, delayUpdate_of_low_off hc hl]
  · rw [exec_delayLineMeasurement_of_going g taps hg, delayLineMeasurement_in_range (mode_ne_reset_of_going hg) hlo hhi]
  · rw [exec_delayLineMeasurement_of_going g taps hg, delayLineMeasurement_fourth_bad (mode_ne_reset_of_going hg) ht hb]

end Sys2Proof.Machine
end

section
/-! SUPPORT. The proofs of the PWM generator's chapter (08_pwm_generator), third part: the writes of PWM, gate-drive and engine words that have effects. -/

namespace Sys2Proof.Machine

/-! ### What the writes do beside storing their word (R248, R284, R297, R321, R325, R332) -/

/-- A write of a group's CLR word clears its fault and reloads its codes, as its two bits say. -/
theorem wordTaken_gdsClr {g : Nat} (hg : g < 7) (old wr : Word) (c : Chip) :
    wordTaken (0x60004 + 0x10 * g) old wr c =
      if wr.getLsbD 1 then reloadGroup g (if wr.getLsbD 0 then gdsClear g c else c) else if wr.getLsbD 0 then gdsClear g c else c := by
  have hregion : (0x60004 + 0x10 * g) / 0x10000 = 6 := by omega
  have hgroup : (0x60004 + 0x10 * g - 0x60000) / 0x10 = g := by omega
  have hword : 0x60000 ≤ 0x60004 + 0x10 * g ∧ 0x60004 + 0x10 * g < 0x60070 ∧ (0x60004 + 0x10 * g) % 0x10 = 4 := by omega
  simp only [wordTaken, hregion, takenDrive]
  rw [if_neg (by omega), if_neg (by omega), if_neg (by omega), if_neg (by omega), if_neg (by omega), if_neg (by omega), if_pos hword, hgroup]

theorem wordTaken_gdsClr_clear {g : Nat} (hg : g < 7) (old : Word) (c : Chip) : wordTaken (0x60004 + 0x10 * g) old 1 c = gdsClear g c :=
  wordTaken_gdsClr hg old 1 c

theorem wordTaken_gdsClr_reload {g : Nat} (hg : g < 7) (old : Word) (c : Chip) : wordTaken (0x60004 + 0x10 * g) old 2 c = reloadGroup g c :=
  wordTaken_gdsClr hg old 2 c

theorem wordTaken_mig_req {v : Word} (old : Word) (c : Chip) (h : v.getLsbD 15 = true) :
    wordTaken 0x70002 old v c = requestMigration (v.field 12 3) false c := if_pos h

/-! ### Commits (R244) -/

/-- A commit with a staged word makes a pending set, and no mark stays. -/
theorem commitGroup_of_staged {g : Nat} {c : Chip} (hg : g < c.pwmG.length) (h : anyStaged (c.pwmg g).marks = true) :
    ((commitGroup g c).pwmg g).pend.isSome = true ∧ anyStaged ((commitGroup g c).pwmg g).marks = false := by
  simp only [commitGroup, h, if_true, Chip.occur_keeps (Chip.pwmg · g) (fun _ _ => rfl), pwmg_modPwmg_same _ hg]
  exact ⟨rfl, rfl⟩

/-! ### The fault of a group and its clearing (R297) -/

@[simp] theorem modSwitches_is (g : Nat) (f : GdsSwitch → GdsSwitch) (c : Chip) (fl : Fld) : (modSwitches g f c).is fl = c.is fl := by
  rw [modSwitches]
  exact Chip.forEach_keeps (Chip.is · fl) (fun n c => modGdsl_is c n _ fl) _ c

/-- The switch latches stand in the words of the legs. -/
theorem clearLatch_is_fault (g n : Nat) (high : Bool) (c : Chip) :
    (c.setb (latchFld n high) false).is (F.GDS_G_STAT_FAULT g) = c.is (F.GDS_G_STAT_FAULT g) := by
  have haddr : (latchFld n high).addr = 0x60101 + 0x10 * n := by cases high <;> rfl
  rw [Chip.is, Chip.get_setb_ne _ _ _ _ (.inl (by rw [haddr]; simp only [F.GDS_G_STAT_FAULT]; omega)), ← Chip.is]

/-- A clear of a group that nothing holds. -/
theorem gdsClear_of_free {g : Nat} {c : Chip} (hl : c.is (F.GDS_G_STAT_GLOCK g) = false) (ht : tripActive c g = false)
    (hlegs : ∀ n ∈ legsOf g, c.is (F.GDS_L_FLT_LIVEDS n) = false ∧ interlocked c n = false) :
    (gdsClear g c).is (F.GDS_G_STAT_FAULT g) = false := by
  have hds : (legsOf g).any (fun n => c.is (F.GDS_L_FLT_LIVEDS n)) = false := List.any_eq_false.mpr fun n hn => by simp [(hlegs n hn).1]
  have hilk : (legsOf g).any (interlocked c) = false := List.any_eq_false.mpr fun n hn => by simp [(hlegs n hn).2]
  have hlatches (d : Chip) : (d.forEach (legsOf g) (fun n c => (c.setb (latchFld n true) false).setb (latchFld n false) false)).is
      (F.GDS_G_STAT_FAULT g) = d.is (F.GDS_G_STAT_FAULT g) :=
    Chip.forEach_keeps (Chip.is · (F.GDS_G_STAT_FAULT g)) (fun n c => by rw [clearLatch_is_fault, clearLatch_is_fault]) _ d
  simp only [gdsClear]
  split
  next hnone => simpa using hnone
  next =>
    simp only [hl, hds, ht, hilk, Bool.or_self, Bool.false_eq_true, if_false, modGdsg_is, hlatches, modSwitches_is]
    exact Chip.is_setb_same c _ false rfl (by simp [F.GDS_G_STAT_FAULT])

theorem gdsClear_of_locked {g : Nat} {c : Chip} (hf : c.is (F.GDS_G_STAT_FAULT g) = true) (hl : c.is (F.GDS_G_STAT_GLOCK g) = true) :
    gdsClear g c = c.raise (F.GDS_G_STAT_CLRREF g) := by
  simp only [gdsClear, hf, hl, Bool.not_true, Bool.true_or, Bool.false_eq_true, if_false, if_true]

/-! ### Resets of programs (R325) -/

/-- The bits of the programs of a mask, from program `base` on, joined to those of the resets that wait. -/
def resetBits (base : Nat) (w : Word) (l : List Nat) (b : BitVec 64) : BitVec 64 :=
  l.foldl (fun b k => if w.getLsbD k then b ||| (1#64 <<< (base + k)) else b) b

theorem requestReset_pgrst (base n : Nat) (w : Word) (c : Chip) : (requestReset base n w c).zen.pgrst = resetBits base w (List.range n) c.zen.pgrst :=
  rfl

/-- A reset that waits goes on waiting. -/
theorem resetBits_keeps (base : Nat) (w : Word) (l : List Nat) {b : BitVec 64} {i : Nat} (h : b.getLsbD i = true) :
    (resetBits base w l b).getLsbD i = true := by
  induction l generalizing b with
  | nil => exact h
  | cons k l ih =>
    refine ih ?_
    beta_reduce
    split
    · rw [BitVec.getLsbD_or, h, Bool.true_or]
    · exact h

theorem resetBits_sets {base p : Nat} {w : Word} {l : List Nat} (b : BitVec 64) (hp : p ∈ l) (hw : w.getLsbD p = true) (h64 : base + p < 64) :
    (resetBits base w l b).getLsbD (base + p) = true := by
  induction l generalizing b with
  | nil => exact absurd hp List.not_mem_nil
  | cons k l ih =>
    rcases List.mem_cons.mp hp with rfl | hl
    · refine resetBits_keeps base w l ?_
      simp [hw, h64]
    · exact ih _ hl

/-- A program with its bit written 1 waits for its reset. -/
theorem requestReset_sets {base n p : Nat} {w : Word} (c : Chip) (hp : p < n) (hw : w.getLsbD p = true) (h64 : base + p < 64) :
    (requestReset base n w c).zen.pgrst.getLsbD (base + p) = true := by
  rw [requestReset_pgrst]
  exact resetBits_sets _ (List.mem_range.mpr hp) hw h64

/-! ### Migration (R332) -/

/-- The words of a migration that begins, of logical lane j from physical lane z to the spare d. -/
def migrationBegun (j z d : Nat) (c : Chip) : Chip :=
  (setLane d 2 j (((c.set F.ZEN_MIG_SRC z).set F.ZEN_MIG_DST d).set F.ZEN_MIG_PHASE 1)).set F.ZEN_LMAP_SPARE 15

theorem requestMigration_of_idle {j d z : Nat} {c : Chip} (bist : Bool) (hs : spareLane c = some d) (hz : physLane c j = some z)
    (hp : c.get F.ZEN_MIG_PHASE = 0) (hm : runMode c.mode = true) : (requestMigration j bist c).regs = (migrationBegun j z d c).regs := by
  simp only [requestMigration, hs, hz, hp, hm, Bool.not_true, ne_eq, not_true_eq_false, Bool.false_eq_true, or_self, if_false]
  rfl

theorem requestMigration_of_migrating {c : Chip} (j : Nat) (bist : Bool) (h : c.get F.ZEN_MIG_PHASE ≠ 0) :
    requestMigration j bist c = c.raise F.ZEN_STAT_MIGREF := by
  unfold requestMigration
  split
  · exact if_pos (.inl h)
  · rfl

/-- The fields of ZEN.MIG while a migration begins: the lanes' own words and the map stand elsewhere. -/
theorem migrationBegun_get (j z d : Nat) (c : Chip) {f : Fld} (h : f.addr = 0x70002) :
    (migrationBegun j z d c).get f = (((c.set F.ZEN_MIG_SRC z).set F.ZEN_MIG_DST d).set F.ZEN_MIG_PHASE 1).get f := by
  rw [migrationBegun, setLane, Chip.get_set_ne _ _ _ _ (.inl (by rw [h]; decide)),
    Chip.get_set_ne _ _ _ _ (.inl (by rw [h]; simp only [F.ZEN_LANE_STAT_LOG]; omega)),
    Chip.get_set_ne _ _ _ _ (.inl (by rw [h]; simp only [F.ZEN_LANE_STAT_STATE]; omega))]

theorem migrationBegun_shows (j z d : Nat) (c : Chip) :
    (migrationBegun j z d c).get F.ZEN_MIG_PHASE = 1 ∧ (migrationBegun j z d c).get F.ZEN_MIG_SRC = z % 16 ∧
      (migrationBegun j z d c).get F.ZEN_MIG_DST = d % 16 := by
  refine ⟨?_, ?_, ?_⟩ <;> rw [migrationBegun_get j z d c rfl]
  · exact Chip.get_set_same _ F.ZEN_MIG_PHASE 1 (by decide)
  · rw [Chip.get_set_ne _ _ _ _ (by decide), Chip.get_set_ne _ _ _ _ (by decide)]
    exact Chip.get_set_same c F.ZEN_MIG_SRC z (by decide)
  · rw [Chip.get_set_ne _ _ _ _ (by decide)]
    exact Chip.get_set_same _ F.ZEN_MIG_DST d (by decide)

/-- Settles O21: an accepted write is the word stored and the effect of its rule, and each effect is read off the state that it leaves. -/
theorem pwmGateAndEngineWritesTakeEffect : Obligations.PwmGateAndEngineWritesTakeEffect := by
  unfold Obligations.PwmGateAndEngineWritesTakeEffect
  refine ⟨fun s v h => act_hostWriteWord_of_accepts h, fun g c hg h => commitGroup_of_staged hg h,
    fun s g h => (act_hostWriteWord_of_accepts h).trans (by rw [wordTaken_gdsClr_clear g.isLt]),
    fun g c _ hl ht hlegs => gdsClear_of_free hl ht hlegs,
    fun s g h => (act_hostWriteWord_of_accepts h).trans (by rw [wordTaken_gdsClr_reload g.isLt, reloadGroup]),
    fun s v h => act_hostWriteWord_of_accepts h, fun s v h => act_hostWriteWord_of_accepts h,
    fun s v h => ⟨_, act_hostWriteWord_of_accepts h, fun p hp hw => ?_⟩, fun s v h => ⟨_, act_hostWriteWord_of_accepts h, fun p hp hw => ?_⟩,
    fun s v h hb => (act_hostWriteWord_of_accepts h).trans (by rw [wordTaken_mig_req _ _ hb]), fun j d z bist c hs hz hp hm => ?_,
    fun j bist c h => requestMigration_of_migrating j bist h, fun g c hf hl => ?_⟩
  · exact Nat.zero_add p ▸ requestReset_sets (base := 0) (wrote s.chip 0x70006 v) hp hw (by omega)
  · exact requestReset_sets (base := 48) (wrote s.chip 0x70007 v) hp hw (by omega)
  · simp only [Chip.get_of_regs (requestMigration_of_idle bist hs hz hp hm)]
    exact migrationBegun_shows j z d c
  · rw [gdsClear_of_locked hf hl]
    exact ⟨Chip.is_raise_same c _ rfl (by simp [F.GDS_G_STAT_CLRREF]), sameBut_set 1 (List.mem_singleton_self _) (sameBut_refl _ c)⟩

end Sys2Proof.Machine
end

section
/-! SUPPORT. The proofs of gate-drive supervision's chapter (09_gate_drive), first part: the strength frames, their queue, their latch and the break. -/

namespace Sys2Proof.Machine

/-! ### Groups and legs of gate-drive supervision beside their words -/

@[simp] theorem Chip.occur_gdsG (c : Chip) (e : Nat) (i : Option Nat) (d : Word) : (c.occur e i d).gdsG = c.gdsG :=
  Chip.occur_keeps Chip.gdsG (fun _ _ => rfl) c e i d

@[simp] theorem Chip.occur_gdsg (c : Chip) (e : Nat) (i : Option Nat) (d : Word) (g : Nat) : (c.occur e i d).gdsg g = c.gdsg g :=
  Chip.occur_keeps (Chip.gdsg · g) (fun _ _ => rfl) c e i d

theorem gdsg_modGdsg_same {c : Chip} {g : Nat} (f : GdsGroup → GdsGroup) (h : g < c.gdsG.length) : (c.modGdsg g f).gdsg g = f (c.gdsg g) := by
  simp [Chip.gdsg, Chip.modGdsg, List.getD_eq_getElem?_getD, List.getElem?_eq_getElem h]

/-- A group that differs from an idle one is one of the device's. -/
theorem lt_length_of_gdsg_ne {c : Chip} {g : Nat} (h : c.gdsg g ≠ {}) : g < c.gdsG.length := by
  by_contra hlen
  exact h (List.getD_eq_default _ _ (Nat.le_of_not_lt hlen))

theorem lt_length_of_drven {c : Chip} {g : Nat} (h : (c.gdsg g).drven = true) : g < c.gdsG.length :=
  lt_length_of_gdsg_ne fun hidle => by simp [hidle] at h

theorem lt_length_of_cur {c : Chip} {g : Nat} {f : Frame} (h : (c.gdsg g).cur = some f) : g < c.gdsG.length :=
  lt_length_of_gdsg_ne fun hidle => by simp [hidle] at h

theorem gdsl_modGdsl_same {c : Chip} {n : Nat} (f : GdsLeg → GdsLeg) (h : n < c.gdsL.length) : (c.modGdsl n f).gdsl n = f (c.gdsl n) := by
  simp [Chip.gdsl, Chip.modGdsl, List.getD_eq_getElem?_getD, List.getElem?_eq_getElem h]

/-- A leg that differs from an idle one is one of the device's. -/
theorem lt_length_of_gdsl_ne {c : Chip} {n : Nat} (h : c.gdsl n ≠ {}) : n < c.gdsL.length := by
  by_contra hlen
  exact h (List.getD_eq_default _ _ (Nat.le_of_not_lt hlen))

theorem sameBut_modGdsg {l : List Nat} {c d : Chip} (f : GdsGroup → GdsGroup) (g : Nat) (h : sameBut l c d) : sameBut l c (d.modGdsg g f) := h

theorem sameBut_modGdsl {l : List Nat} {c d : Chip} (f : GdsLeg → GdsLeg) (n : Nat) (h : sameBut l c d) : sameBut l c (d.modGdsl n f) := h

/-! ### The bits of a frame (R274) -/

/-- How many of the sixteen bits of a number are 1. -/
def onesOf (w : Nat) : Nat := (List.range 16).countP (fun k => w / 2 ^ k % 2 = 1)

/-- The bits of a frame above its parity bit. -/
def frameData (f : Frame) : Nat := 2 * 2 ^ 14 + f.sw % 8 * 2 ^ 11 + bit f.on * 2 ^ 10 + f.code % 16 * 2 ^ 6 + f.seq % 8 * 2 ^ 3

/-- Adding up bits counts those that are 1. -/
theorem foldl_bits_eq_countP (w : Nat) (l : List Nat) (m : Nat) :
    l.foldl (fun n k => n + w / 2 ^ k % 2) m = m + l.countP (fun k => w / 2 ^ k % 2 = 1) := by
  induction l generalizing m with
  | nil => rfl
  | cons k l ih =>
    rw [List.foldl_cons, ih, List.countP_cons]
    rcases Nat.mod_two_eq_zero_or_one (w / 2 ^ k) with h | h <;> simp [h]
    omega

theorem frameBits_eq (f : Frame) : frameBits f = frameData f + if onesOf (frameData f) % 2 = 0 then 1 else 0 := by
  rw [frameBits, foldl_bits_eq_countP, Nat.zero_add]
  rfl

/-- The lowest bit of an even number takes no part in the bits above it. -/
theorem onesOf_add_bit {w p : Nat} (hw : w % 2 = 0) (hp : p < 2) : onesOf (w + p) = onesOf w + p := by
  have habove (k : Nat) : (w + p) / 2 ^ (k + 1) = w / 2 ^ (k + 1) := by
    rw [Nat.pow_succ', ← Nat.div_div_eq_div_mul, ← Nat.div_div_eq_div_mul, show (w + p) / 2 = w / 2 by omega]
  have hbit : (w + p) % 2 = p := by omega
  have hsplit (v : Nat) : onesOf v = (List.range 15).countP (fun k => v / 2 ^ (k + 1) % 2 = 1) + if v % 2 = 1 then 1 else 0 := by
    simp [onesOf, List.range_succ_eq_map (n := 15), List.countP_cons, List.countP_map, Function.comp_def]
  rw [hsplit, hsplit w]
  simp only [habove, hbit, hw, Nat.zero_ne_one, if_false]
  split <;> omega

theorem frameBits_odd_parity (f : Frame) : onesOf (frameBits f) % 2 = 1 := by
  have heven : frameData f % 2 = 0 := by simp only [frameData]; omega
  rw [frameBits_eq]
  split
  next h => rw [onesOf_add_bit heven (by decide)]; omega
  next h => rw [Nat.add_zero]; omega

theorem frameBits_fields (f : Frame) :
    frameBits f / 2 ^ 14 = 2 ∧ frameBits f / 2 ^ 11 % 8 = f.sw % 8 ∧ frameBits f / 2 ^ 10 % 2 = bit f.on ∧ frameBits f / 2 ^ 6 % 16 = f.code % 16 ∧
      frameBits f / 2 ^ 3 % 8 = f.seq % 8 := by
  have hon : bit f.on < 2 := by cases f.on <;> decide
  obtain ⟨p, hp, hbits⟩ : ∃ p < 2, frameBits f = frameData f + p := ⟨_, by split <;> decide, frameBits_eq f⟩
  rw [hbits, frameData]
  omega

/-! ### The initial load (R273) -/

theorem exec_initialLoad_of_going {s : State} (g : Fin 7) (h : going s.chip = true) :
    exec (.initialLoad g) s = .next (s.acted (initialLoad g s.chip)) := running_of_going h (initialLoad g)

/-- Every switch and edge of a group, in the order of the initial load. -/
def switchEdges (g : Nat) : List (Nat × Bool) := (List.range (switchCount g)).flatMap (fun sw => [(sw, true), (sw, false)])

/-- The initial load of a group has begun, and none of its frames is queued yet. -/
def loadBegun (g : Nat) (c : Chip) : Chip := c.modGdsg g (fun q => { q with loading := true, toLoad := switchEdges g })

section
variable {g : Nat} {c : Chip}

theorem initialLoad_of_enabled (hd : (c.gdsg g).drven = true) (hl : c.is (F.GDS_G_STAT_LOADED g) = false) (hn : (c.gdsg g).loading = false) :
    initialLoad g c = queueAll g (loadBegun g c) := by
  simp only [initialLoad, hd, hl, hn, Bool.not_false, Bool.and_self, if_true, loadBegun, switchEdges]

theorem loadBegun_gdsg (h : g < c.gdsG.length) : (loadBegun g c).gdsg g = { c.gdsg g with loading := true, toLoad := switchEdges g } :=
  gdsg_modGdsg_same _ h

/-! ### Frames sent (R276) -/

theorem exec_strengthFrameSent_of_going {s : State} (g : Fin 7) (h : going s.chip = true) :
    exec (.strengthFrameSent g) s = .next (s.acted (strengthFrameSent g s.chip)) := running_of_going h (strengthFrameSent g)

/-- The end of a frame, as the trace port and the counters see it. -/
def frameTraced (g : Nat) (f : Frame) (c : Chip) : Chip := c.occur 0x0E (some g) (BitVec.ofNat 48 (frameBits f))

/-- The first of two frames has been sent, and its duplicate is due. -/
def duplicateDue (g : Nat) (f : Frame) (c : Chip) : Chip :=
  (frameTraced g f c).modGdsg g (fun q => { q with dupDue := true, latching := q.latching ++ [f] })

/-- A frame has been sent for the last time, and the line is free. -/
def frameDone (g : Nat) (f : Frame) (c : Chip) : Chip :=
  (frameTraced g f c).modGdsg g (fun q =>
    { q with cur := none, dupDue := false, seq := (q.seq + 1) % 8, latching := if q.dupDue then q.latching else q.latching ++ [f] })

theorem strengthFrameSent_first {f : Frame} (hf : (c.gdsg g).cur = some f) (hd : c.is (F.GDS_G_CFG_DUP g) = true) (hn : (c.gdsg g).dupDue = false) :
    strengthFrameSent g c = duplicateDue g f c := by
  simp only [strengthFrameSent, hf, Chip.occur_is, hd, hn, Bool.not_false, Bool.and_self, if_true, duplicateDue, frameTraced]

theorem strengthFrameSent_single {f : Frame} (hf : (c.gdsg g).cur = some f) (hd : c.is (F.GDS_G_CFG_DUP g) = false) :
    strengthFrameSent g c = startFrame g (frameDone g f c) := by
  simp only [strengthFrameSent, hf, Chip.occur_is, hd, Bool.false_and, Bool.false_eq_true, if_false, frameDone, frameTraced]

theorem duplicateDue_gdsg (f : Frame) (h : g < c.gdsG.length) :
    (duplicateDue g f c).gdsg g = { c.gdsg g with dupDue := true, latching := (c.gdsg g).latching ++ [f] } := by
  rw [duplicateDue, gdsg_modGdsg_same _ (by simpa [frameTraced] using h), frameTraced, Chip.occur_gdsg]

theorem frameDone_gdsg (f : Frame) (h : g < c.gdsG.length) :
    (frameDone g f c).gdsg g = { c.gdsg g with
      cur := none, dupDue := false, seq := ((c.gdsg g).seq + 1) % 8,
      latching := if (c.gdsg g).dupDue then (c.gdsg g).latching else (c.gdsg g).latching ++ [f] } := by
  rw [frameDone, gdsg_modGdsg_same _ (by simpa [frameTraced] using h), frameTraced, Chip.occur_gdsg]

theorem sameWords_duplicateDue (g : Nat) (f : Frame) (c : Chip) : sameWords c (duplicateDue g f c) :=
  sameBut_modGdsg _ g (sameBut_occur c _ _ _)

theorem sameWords_frameDone (g : Nat) (f : Frame) (c : Chip) : sameWords c (frameDone g f c) :=
  sameBut_modGdsg _ g (sameBut_occur c _ _ _)

/-! ### Codes that take effect (R277) -/

theorem exec_codeLatch_of_going {s : State} (g : Fin 7) (h : going s.chip = true) :
    exec (.codeLatch g) s = .next (s.acted (codeLatch g s.chip)) := running_of_going h (codeLatch g)

/-- The field that shows the code in force for the switch and edge of a frame. -/
def curOf (g : Nat) (f : Frame) : Fld := F.GDS_L_A_CUR (legOfSwitch g f.sw) (kindOfSwitch f.sw f.on)

/-- The code of a frame is in force and shown; `rest` waits for its latch. -/
def codeShown (g : Nat) (f : Frame) (rest : List Frame) (c : Chip) : Chip :=
  (c.set (curOf g f) f.code).modGdsg g (fun q => { q with latching := rest, toLoad := q.toLoad.filter (· != (f.sw, f.on)) })

/-- The last code of an initial load is in force. -/
def loadDone (g : Nat) (f : Frame) (rest : List Frame) (c : Chip) : Chip :=
  ((codeShown g f rest c).raise (F.GDS_G_STAT_LOADED g)).modGdsg g (fun q => { q with loading := false })

theorem codeShown_gdsg (f : Frame) (rest : List Frame) (h : g < c.gdsG.length) :
    (codeShown g f rest c).gdsg g = { c.gdsg g with latching := rest, toLoad := (c.gdsg g).toLoad.filter (· != (f.sw, f.on)) } :=
  gdsg_modGdsg_same (c := c.set (curOf g f) f.code) _ h

theorem codeLatch_of_latching {f : Frame} {rest : List Frame} (hf : (c.gdsg g).latching = f :: rest) :
    codeLatch g c =
      if (c.gdsg g).loading && (c.gdsg g).drven && ((codeShown g f rest c).gdsg g).toLoad.isEmpty then loadDone g f rest c else codeShown g f rest c := by
  simp only [codeLatch, hf]
  rfl

theorem codeLatch_of_loaded {f : Frame} {rest : List Frame} (hf : (c.gdsg g).latching = f :: rest) (hl : (c.gdsg g).loading = false) :
    codeLatch g c = codeShown g f rest c := by
  rw [codeLatch_of_latching hf, hl, Bool.false_and, Bool.false_and, if_neg Bool.false_ne_true]

theorem codeLatch_of_last {f : Frame} {rest : List Frame} (hf : (c.gdsg g).latching = f :: rest) (hl : (c.gdsg g).loading = true)
    (hd : (c.gdsg g).drven = true) (hlast : (c.gdsg g).toLoad = [(f.sw, f.on)]) : codeLatch g c = loadDone g f rest c := by
  have hempty : ((codeShown g f rest c).gdsg g).toLoad = [] := by rw [codeShown_gdsg f rest (lt_length_of_drven hd)]; simp [hlast]
  rw [codeLatch_of_latching hf, hl, hd, hempty]
  rfl

theorem codeShown_cur {f : Frame} (rest : List Frame) (h : f.code < 16) : (codeShown g f rest c).get (curOf g f) = f.code := by
  rw [codeShown, modGdsg_get, Chip.get_set_same _ _ _ (by simp [curOf, F.GDS_L_A_CUR])]
  exact Nat.mod_eq_of_lt h

theorem sameBut_codeShown (f : Frame) (rest : List Frame) : sameBut [(curOf g f).addr] c (codeShown g f rest c) :=
  sameBut_modGdsg _ g (sameBut_set _ (List.mem_singleton_self _) (sameBut_refl _ c))

theorem loadDone_loaded (f : Frame) (rest : List Frame) : (loadDone g f rest c).is (F.GDS_G_STAT_LOADED g) = true := by
  rw [loadDone, modGdsg_is]
  exact Chip.is_raise_same _ _ rfl (by simp [F.GDS_G_STAT_LOADED])

theorem loadDone_loading (f : Frame) (rest : List Frame) (h : g < c.gdsG.length) : ((loadDone g f rest c).gdsg g).loading = false := by
  have hlen : g < ((codeShown g f rest c).raise (F.GDS_G_STAT_LOADED g)).gdsG.length := by simpa [codeShown, Chip.modGdsg] using h
  rw [loadDone, gdsg_modGdsg_same _ hlen]

/-! ### Refresh, break and clear pulse (R276, R278, R297) -/

theorem exec_refreshFrame_of_going {s : State} (g : Fin 7) (h : going s.chip = true) :
    exec (.refreshFrame g) s = .next (s.acted (refreshFrame g s.chip)) := running_of_going h (refreshFrame g)

theorem exec_breakEnd_of_going {s : State} (g : Fin 7) (h : going s.chip = true) :
    exec (.breakEnd g) s = .next (s.acted (breakEnd g s.chip)) := running_of_going h (breakEnd g)

theorem exec_drvenClearPulseEnd_of_going {s : State} (g : Fin 7) (h : going s.chip = true) :
    exec (.drvenClearPulseEnd g) s = .next (s.acted (drvenClearPulseEnd g s.chip)) := running_of_going h (drvenClearPulseEnd g)

/-- The first refresh frame is that of switch 0's turn-on. -/
theorem refreshFrame_of_first (hd : (c.gdsg g).drven = true) (hq : (c.gdsg g).queue = []) (hi : c.get (F.GDS_G_CFG_REFINT g) ≠ 0)
    (hr : (c.gdsg g).refresh = 0) :
    refreshFrame g c = queueFrame g 0 true (c.modGdsg g (fun q => { q with refresh := 1 % (2 * switchCount g) })) := by
  simp only [refreshFrame, hd, hq, hr, List.isEmpty_nil, Bool.and_self, decide_eq_true hi, if_true, Nat.zero_mod, Nat.zero_div, Nat.zero_add]
  rfl

theorem breakEnd_of_none_soft (hb : c.is (F.GDS_G_STAT_BREAK g) = true) (hs : anySoft c g = false) :
    breakEnd g c = startFrame g (c.setb (F.GDS_G_STAT_BREAK g) false) := by
  simp only [breakEnd, hb, hs, Bool.not_false, Bool.and_self, if_true]

theorem drvenClearPulseEnd_clearPulse (g : Nat) (c : Chip) : ((drvenClearPulseEnd g c).gdsg g).clearPulse = false := by
  by_cases hlen : g < c.gdsG.length
  · rw [drvenClearPulseEnd, gdsg_modGdsg_same _ hlen]
  · have hidle : (drvenClearPulseEnd g c).gdsg g = {} :=
      List.getD_eq_default _ _ (by simpa [drvenClearPulseEnd, Chip.modGdsg] using Nat.le_of_not_lt hlen)
    rw [hidle]

end

/-- Settles O46: parity and fields of a frame are arithmetic on its bits; each event of a line is brought to the state that it leaves, before the next
frame starts. -/
theorem strengthFramesAreSentAndLatched : Obligations.StrengthFramesAreSentAndLatched := by
  unfold Obligations.StrengthFramesAreSentAndLatched
  refine ⟨fun f => ⟨frameBits_odd_parity f, frameBits_fields f⟩,
    fun s g hg hd hl hn => ⟨loadBegun g s.chip, ?_, ?_, ?_, sameBut_refl [] _⟩,
    fun s g f hg hf hd hn => ⟨duplicateDue g f s.chip, ?_, ?_, ?_, ?_, sameWords_duplicateDue g f s.chip⟩,
    fun s g f hg hf hd => ⟨frameDone g f s.chip, ?_, ?_, ?_, sameWords_frameDone g f s.chip⟩,
    fun s g f rest hg hf hl _ hcode => ⟨codeShown g f rest s.chip, ?_, codeShown_cur rest hcode, sameBut_codeShown f rest⟩,
    fun s g f rest hg hf hl hd hlast =>
      ⟨loadDone g f rest s.chip, ?_, loadDone_loaded f rest, loadDone_loading f rest (lt_length_of_drven hd)⟩,
    fun s g hg hd hq hi hr => ?_,
    fun s g hg hb hs => ⟨s.chip.setb (F.GDS_G_STAT_BREAK g) false, ?_, Chip.is_setb_same _ _ _ rfl (by simp [F.GDS_G_STAT_BREAK]),
      sameBut_set _ (List.mem_singleton_self _) (sameBut_refl _ _)⟩,
    fun s g hg => ⟨drvenClearPulseEnd g s.chip, exec_drvenClearPulseEnd_of_going g hg, drvenClearPulseEnd_clearPulse g s.chip, sameBut_refl [] _⟩⟩
  · rw [exec_initialLoad_of_going g hg, initialLoad_of_enabled hd hl hn]
  · rw [loadBegun_gdsg (lt_length_of_drven hd)]
  · rw [loadBegun_gdsg (lt_length_of_drven hd), switchEdges]
  · rw [exec_strengthFrameSent_of_going g hg, strengthFrameSent_first hf hd hn]
  · rw [duplicateDue_gdsg f (lt_length_of_cur hf), hf]
  · rw [duplicateDue_gdsg f (lt_length_of_cur hf)]
  · rw [duplicateDue_gdsg f (lt_length_of_cur hf)]
  · rw [exec_strengthFrameSent_of_going g hg, strengthFrameSent_single hf hd]
  · rw [frameDone_gdsg f (lt_length_of_cur hf)]
  · rw [frameDone_gdsg f (lt_length_of_cur hf)]
  · rw [exec_codeLatch_of_going g hg, codeLatch_of_loaded hf hl]
  · rw [exec_codeLatch_of_going g hg, codeLatch_of_last hf hl hd hlast]
  · rw [exec_refreshFrame_of_going g hg, refreshFrame_of_first hd hq hi hr]
  · rw [exec_breakEnd_of_going g hg, breakEnd_of_none_soft hb hs]

end Sys2Proof.Machine
end

section
/-! SUPPORT. The proofs of gate-drive supervision's chapter (09_gate_drive), second part: edge sense and the time-out of learning. -/

namespace Sys2Proof.Machine

/-- Counting modulo a field's range changes its count by what is counted. -/
theorem Chip.get_countMod_same (c : Chip) (f : Fld) (n : Nat) (h : f.lo + f.width ≤ 48) : (c.countMod f n).get f = (c.get f + n) % 2 ^ f.width :=
  Chip.get_set_same c f _ h

/-! ### Edges (R280, R304) -/

theorem exec_edgeSensePulse_of_going {s : State} (n : Fin 20) (level : Bool) (f : Fin 64) (h : going s.chip = true) :
    exec (.edgeSensePulse n level f) s = .next (s.acted (edgeSensePulse n level f s.chip)) := running_of_going h (edgeSensePulse n level f)

/-- EDGn shows its level. -/
def edgeShown (n : Nat) (level : Bool) (c : Chip) : Chip := c.setb (F.GDS_L_FLT_LIVEEDG n) level

/-- What was known of the pulse on EDGn is forgotten. -/
def edgeForgotten (n : Nat) (c : Chip) : Chip := c.modGdsl n (fun l => { l with edgAt := none, pulse := none })

/-- EDGn has risen at `ts`, in a pulse that belongs to a launch of kind k at `t`. -/
def edgeAttributed (n k t ts : Nat) (c : Chip) : Chip :=
  c.modGdsl n (fun l => { l with edgAt := some ts, pulse := some ⟨k, ts - t, (kindAt c n k).codeAt, true⟩ })

/-- The words of a measurement of the pulse p with width `wid`. -/
def pulseMeasured (n wid : Nat) (p : GdsPulse) (c : Chip) : Chip :=
  (((c.countMod (F.GDS_L_M_CNT n p.kind) 1).set (F.GDS_L_M_CODEM n p.kind) p.code).set (F.GDS_L_M_DLY n p.kind) (min p.dly 0xFFFFF)).set
    (F.GDS_L_M_WID n p.kind) (min wid 0xFFFFF)

section
variable {n : Nat} {c : Chip}

theorem edgeShown_is (level : Bool) : (edgeShown n level c).is (F.GDS_L_FLT_LIVEEDG n) = level :=
  Chip.is_setb_same _ _ level rfl (by simp [F.GDS_L_FLT_LIVEEDG])

theorem edgeForgotten_is (f : Fld) : (edgeForgotten n c).is f = c.is f := modGdsl_is c n _ f

theorem sameBut_edgeShown (level : Bool) : sameBut [(F.GDS_L_FLT_LIVEEDG n).addr] c (edgeShown n level c) :=
  sameBut_set _ (List.mem_singleton_self _) (sameBut_refl _ c)

theorem edgeSensePulse_eq (level : Bool) (f : Nat) :
    edgeSensePulse n level f c =
      if c.is (F.GDS_L_FLT_LIVEEDG n) == level then edgeShown n level c
      else if !(c.gdsg (groupOf n)).drven then edgeForgotten n (edgeShown n level c)
      else if level then edgeRises n (64 * c.up + f) (edgeShown n level c)
      else edgeFalls n (64 * c.up + f) (edgeShown n level c) := rfl

theorem edgeSensePulse_of_rise {f : Nat} (hw : c.is (F.GDS_L_FLT_LIVEEDG n) = false) (hd : (c.gdsg (groupOf n)).drven = true) :
    edgeSensePulse n true f c = edgeRises n (64 * c.up + f) (edgeShown n true c) := by
  simp only [edgeSensePulse_eq, hw, hd, Bool.not_true, Bool.false_eq_true, Bool.false_beq, if_false, if_true]

theorem edgeSensePulse_of_fall {f : Nat} (hw : c.is (F.GDS_L_FLT_LIVEEDG n) = true) (hd : (c.gdsg (groupOf n)).drven = true) :
    edgeSensePulse n false f c = edgeFalls n (64 * c.up + f) (edgeShown n false c) := by
  simp only [edgeSensePulse_eq, hw, hd, Bool.not_true, Bool.false_eq_true, Bool.true_beq, if_false]

/-- While the driver is off, EDGn shows its level, and an edge leaves nothing of the pulse. -/
theorem edgeSensePulse_of_disabled (level : Bool) (f : Nat) (hd : (c.gdsg (groupOf n)).drven = false) :
    edgeSensePulse n level f c = edgeShown n level c ∨ edgeSensePulse n level f c = edgeForgotten n (edgeShown n level c) := by
  simp only [edgeSensePulse_eq, hd, Bool.not_false, if_true]
  split
  · exact .inl rfl
  · exact .inr rfl

/-! ### Attribution (R280) -/

theorem lt_length_of_lastLaunch {l : Nat × Nat} (h : (c.gdsl n).lastLaunch = some l) : n < c.gdsL.length :=
  lt_length_of_gdsl_ne fun hidle => by simp [hidle] at h

theorem edgeRises_of_launch {k t ts : Nat} (hl : (c.gdsl n).lastLaunch = some (k, t)) (hlo : t ≤ ts)
    (hhi : ts ≤ t + c.get (F.GDS_G_CFG_ATTW (groupOf n)) * 256) : edgeRises n ts c = edgeAttributed n k t ts c := by
  simp only [edgeRises, hl, hlo, hhi, and_self, if_true, edgeAttributed]

theorem edgeAttributed_gdsl (k t ts : Nat) (h : n < c.gdsL.length) :
    (edgeAttributed n k t ts c).gdsl n =
      { c.gdsl n with edgAt := some ts, pulse := some ⟨k, ts - t, (kindAt c n k).codeAt, true⟩ } := gdsl_modGdsl_same _ h

/-- The window of attribution stands in a group's word, beside that of EDGn. -/
theorem edgeShown_attw (level : Bool) (g : Nat) : (edgeShown n level c).get (F.GDS_G_CFG_ATTW g) = c.get (F.GDS_G_CFG_ATTW g) :=
  Chip.get_setb_ne _ _ _ _ (.inl (by simp only [F.GDS_G_CFG_ATTW, F.GDS_L_FLT_LIVEEDG]; omega))

/-! ### Measurement (R281) -/

theorem lt_length_of_edgAt {ts : Nat} (h : (c.gdsl n).edgAt = some ts) : n < c.gdsL.length :=
  lt_length_of_gdsl_ne fun hidle => by simp [hidle] at h

theorem edgeForgotten_edgAt (h : n < c.gdsL.length) : ((edgeForgotten n c).gdsl n).edgAt = none := by
  rw [edgeForgotten, gdsl_modGdsl_same _ h]

/-- A pulse that a later launch keeps from adaptation is measured and no more. -/
theorem edgeFalls_of_unclean {tf ts : Nat} {p : GdsPulse} (he : (c.gdsl n).edgAt = some ts) (hp : (c.gdsl n).pulse = some p) (hc : p.clean = false) :
    edgeFalls n tf c = pulseMeasured n (tf - ts) p (edgeForgotten n c) := by
  simp only [edgeFalls, he, hp, hc, Bool.false_and, Bool.false_eq_true, if_false, pulseMeasured, edgeForgotten]

theorem edgeFalls_of_orphan {tf ts : Nat} (he : (c.gdsl n).edgAt = some ts) (hp : (c.gdsl n).pulse = none) :
    edgeFalls n tf c = (edgeForgotten n c).countSat (F.GDS_G_CNT_ORPHAN (groupOf n)) 1 := by
  simp only [edgeFalls, he, hp, edgeForgotten]

/-- A measurement sets fields of the word of its kind alone. -/
theorem pulseMeasured_get_ne {wid : Nat} {p : GdsPulse} {f : Fld} (h : f.addr ≠ 0x60106 + 0x10 * n + 1 * p.kind) :
    (pulseMeasured n wid p c).get f = c.get f := by
  rw [pulseMeasured, Chip.get_set_ne _ _ _ _ (.inl h), Chip.get_set_ne _ _ _ _ (.inl h), Chip.get_set_ne _ _ _ _ (.inl h),
    Chip.get_countMod_ne _ _ _ _ (.inl h)]

theorem pulseMeasured_gdsl (wid : Nat) (p : GdsPulse) (m : Nat) : (pulseMeasured n wid p c).gdsl m = c.gdsl m := rfl

theorem pulseMeasured_wid (wid : Nat) (p : GdsPulse) : (pulseMeasured n wid p c).get (F.GDS_L_M_WID n p.kind) = min wid 0xFFFFF := by
  rw [pulseMeasured, Chip.get_set_same _ _ _ (by simp [F.GDS_L_M_WID])]
  exact Nat.mod_eq_of_lt (Nat.lt_of_le_of_lt (Nat.min_le_right _ _) (by decide : 0xFFFFF < 2 ^ 20))

theorem pulseMeasured_dly (wid : Nat) (p : GdsPulse) : (pulseMeasured n wid p c).get (F.GDS_L_M_DLY n p.kind) = min p.dly 0xFFFFF := by
  rw [pulseMeasured, Chip.get_set_ne _ _ _ _ (by simp [F.GDS_L_M_WID, F.GDS_L_M_DLY]), Chip.get_set_same _ _ _ (by simp [F.GDS_L_M_DLY])]
  exact Nat.mod_eq_of_lt (Nat.lt_of_le_of_lt (Nat.min_le_right _ _) (by decide : 0xFFFFF < 2 ^ 20))

theorem pulseMeasured_codem (wid : Nat) (p : GdsPulse) :
    (pulseMeasured n wid p c).get (F.GDS_L_M_CODEM n p.kind) = p.code % 2 ^ (F.GDS_L_M_CODEM n p.kind).width := by
  rw [pulseMeasured, Chip.get_set_ne _ _ _ _ (by simp [F.GDS_L_M_WID, F.GDS_L_M_CODEM]),
    Chip.get_set_ne _ _ _ _ (by simp [F.GDS_L_M_DLY, F.GDS_L_M_CODEM]), Chip.get_set_same _ _ _ (by simp [F.GDS_L_M_CODEM])]

theorem pulseMeasured_cnt (wid : Nat) (p : GdsPulse) :
    (pulseMeasured n wid p c).get (F.GDS_L_M_CNT n p.kind) = (c.get (F.GDS_L_M_CNT n p.kind) + 1) % 2 ^ (F.GDS_L_M_CNT n p.kind).width := by
  rw [pulseMeasured, Chip.get_set_ne _ _ _ _ (by simp [F.GDS_L_M_WID, F.GDS_L_M_CNT]), Chip.get_set_ne _ _ _ _ (by simp [F.GDS_L_M_DLY, F.GDS_L_M_CNT]),
    Chip.get_set_ne _ _ _ _ (by simp [F.GDS_L_M_CODEM, F.GDS_L_M_CNT]), Chip.get_countMod_same _ _ _ (by simp [F.GDS_L_M_CNT])]

/-! ### The time-out of learning (R285) -/

theorem exec_learningTimeout_of_going {s : State} (n : Fin 20) (k : Fin 4) (h : going s.chip = true) :
    exec (.learningTimeout n k) s = .next (s.acted (learningTimeout n k s.chip)) := running_of_going h (learningTimeout n k)

theorem learningTimeout_of_learning {k : Nat} (hl : (c.gdsg (groupOf n)).learning = true) (he : (kindAt c n k).ended = false) :
    learningTimeout n k c = learnEnds n k false c := by
  simp only [learningTimeout, hl, he, Bool.not_false, Bool.and_self, if_true]

theorem legPos_le (h : n < 20) : legPos n ≤ 2 := by
  unfold legPos
  split <;> omega

/-- A kind that ends without having converged shows in FAIL, whether or not the learning of its group ends with it. -/
theorem learnEnds_fail {k : Nat} (hn : n < 20) (hk : k < 4) :
    (learnEnds n k false c).getBit (F.GDS_G_LRN_FAIL (groupOf n)) (4 * legPos n + k) = true := by
  have hb : 4 * legPos n + k < 12 := by have := legPos_le hn; omega
  have hset : (c.setBit (F.GDS_G_LRN_FAIL (groupOf n)) (4 * legPos n + k) true).getBit (F.GDS_G_LRN_FAIL (groupOf n)) (4 * legPos n + k) = true :=
    Chip.getBit_setBit_same _ _ _ (by simp only [F.GDS_G_LRN_FAIL]; omega)
  have hactive (d : Chip) : (d.setb (F.GDS_G_LRN_ACTIVE (groupOf n)) false).getBit (F.GDS_G_LRN_FAIL (groupOf n)) (4 * legPos n + k) =
      d.getBit (F.GDS_G_LRN_FAIL (groupOf n)) (4 * legPos n + k) :=
    congrArg (· == 1) (Chip.get_setb_ne d _ ⟨_, (F.GDS_G_LRN_FAIL (groupOf n)).lo + (4 * legPos n + k), 1⟩ false
      (.inr (.inr (by simp only [F.GDS_G_LRN_FAIL, F.GDS_G_LRN_ACTIVE]; omega))))
  simp only [learnEnds, Bool.false_eq_true, if_false]
  split
  · exact (hactive _).trans hset
  · exact hset

end

/-- Settles O47: a change of EDGn is a rise or a fall of its own branch of the model, and a time-out the end of a kind. -/
theorem edgePulsesAreMeasured : Obligations.EdgePulsesAreMeasured := by
  unfold Obligations.EdgePulsesAreMeasured
  refine ⟨fun s n f k t hg hd hw hl hlo hhi => ?_, fun s n f ts p hg hd hw he hp hk hc => ?_, fun s n f ts hg hd hw he hp => ?_,
    fun s n l f hg hd => ⟨_, exec_edgeSensePulse_of_going n l f hg, ?_⟩,
    fun s n k hg hl he => ⟨?_, learnEnds_fail n.isLt k.isLt⟩⟩
  · have hgdsl := edgeAttributed_gdsl (c := edgeShown n true s.chip) k t (64 * s.chip.up + f) (lt_length_of_lastLaunch hl)
    refine ⟨edgeAttributed n k t (64 * s.chip.up + f) (edgeShown n true s.chip), ?_, edgeShown_is true, by rw [hgdsl], ?_,
      sameBut_modGdsl _ n (sameBut_edgeShown true)⟩
    · rw [exec_edgeSensePulse_of_going n true f hg, edgeSensePulse_of_rise hw hd, edgeRises_of_launch (c := edgeShown n true s.chip) hl hlo]
      rwa [edgeShown_attw]
    · rw [hgdsl]
      rfl
  · refine ⟨pulseMeasured n (64 * s.chip.up + f - ts) p (edgeForgotten n (edgeShown n false s.chip)), ?_, ?_, pulseMeasured_dly _ p, pulseMeasured_wid _ p,
      pulseMeasured_codem _ p, ?_, ?_⟩
    · rw [exec_edgeSensePulse_of_going n false f hg, edgeSensePulse_of_fall hw hd, edgeFalls_of_unclean (c := edgeShown n false s.chip) he hp hc]
    · rw [Chip.is, pulseMeasured_get_ne (by simp only [F.GDS_L_FLT_LIVEEDG]; omega), ← Chip.is, edgeForgotten_is, edgeShown_is]
    · rw [pulseMeasured_cnt, edgeForgotten, modGdsl_get, edgeShown, Chip.get_setb_ne _ _ _ _ (.inl (by simp only [F.GDS_L_FLT_LIVEEDG, F.GDS_L_M_CNT]; omega))]
    · rw [pulseMeasured_gdsl, edgeForgotten_edgAt (c := edgeShown n false s.chip) (lt_length_of_edgAt he)]
  · have hne : (F.GDS_L_FLT_LIVEEDG n).addr ≠ (F.GDS_G_CNT_ORPHAN (groupOf n)).addr := by simp only [F.GDS_L_FLT_LIVEEDG, F.GDS_G_CNT_ORPHAN]; omega
    refine ⟨(edgeForgotten n (edgeShown n false s.chip)).countSat (F.GDS_G_CNT_ORPHAN (groupOf n)) 1, ?_, ?_, ?_⟩
    · rw [exec_edgeSensePulse_of_going n false f hg, edgeSensePulse_of_fall hw hd, edgeFalls_of_orphan (c := edgeShown n false s.chip) he hp]
    · rw [Chip.is, Chip.get_countSat_ne _ _ _ _ (.inl hne), ← Chip.is, edgeForgotten_is, edgeShown_is]
    · rw [Chip.get_countSat_same _ _ _ (by simp [F.GDS_G_CNT_ORPHAN]), edgeForgotten, modGdsl_get, edgeShown,
        Chip.get_setb_ne _ _ _ _ (.inl hne.symm)]
      rfl
  · rcases edgeSensePulse_of_disabled l f hd with h | h <;> rw [h]
    · exact ⟨edgeShown_is l, sameBut_edgeShown l⟩
    · exact ⟨(edgeForgotten_is _).trans (edgeShown_is l), sameBut_modGdsl _ n (sameBut_edgeShown l)⟩
  · rw [exec_learningTimeout_of_going n k hg, learningTimeout_of_learning hl he]

end Sys2Proof.Machine
end

section
/-! SUPPORT. The proofs of gate-drive supervision's chapter (09_gate_drive), third part: the faults of switches, their latches and the fault of a group. -/

namespace Sys2Proof.Machine

/-! ### Switches beside their words -/

theorem switchOf_modSwitch_same {c : Chip} {n : Nat} (high : Bool) (f : GdsSwitch → GdsSwitch) (h : n < c.gdsL.length) :
    switchOf (modSwitch n high f c) n high = f (switchOf c n high) := by
  rw [switchOf, modSwitch, gdsl_modGdsl_same _ h]
  cases high <;> rfl

/-- A switch that differs from an idle one belongs to one of the device's legs. -/
theorem lt_length_of_switchOf_ne {c : Chip} {n : Nat} {high : Bool} (h : switchOf c n high ≠ {}) : n < c.gdsL.length :=
  lt_length_of_gdsl_ne fun hidle => h (by rw [switchOf, hidle]; cases high <;> rfl)

theorem sameBut_modSwitch {l : List Nat} {c d : Chip} (n : Nat) (high : Bool) (f : GdsSwitch → GdsSwitch) (h : sameBut l c d) :
    sameBut l c (modSwitch n high f d) := h

theorem latchFld_width (n : Nat) (high : Bool) : (latchFld n high).width = 1 := by cases high <;> rfl

theorem latchFld_fits (n : Nat) (high : Bool) : (latchFld n high).lo + (latchFld n high).width ≤ 48 := by
  cases high <;> simp [latchFld, F.GDS_L_FLT_LATH, F.GDS_L_FLT_LATL]

section
variable {n : Nat} {c : Chip}

/-! ### Desaturation (R287, R289) -/

theorem exec_dsatAssertion_of_going {s : State} (n : Fin 20) (level : Bool) (h : going s.chip = true) :
    exec (.dsatAssertion n level) s = .next (s.acted (dsatLevel n level s.chip)) := running_of_going h (dsatLevel n level)

/-- DSATn shows its level. -/
def dsatShown (n : Nat) (level : Bool) (c : Chip) : Chip := c.setb (F.GDS_L_FLT_LIVEDS n) level

/-- An assertion with both outputs of the leg off. -/
def dsatIdle (n : Nat) (c : Chip) : Chip :=
  ((dsatShown n true c).raise (F.GDS_L_FLT_DSIDLE n)).countSat (F.GDS_G_CNT_DSIDLE (groupOf n)) 1

theorem dsatShown_is (level : Bool) : (dsatShown n level c).is (F.GDS_L_FLT_LIVEDS n) = level :=
  Chip.is_setb_same _ _ level rfl (by simp [F.GDS_L_FLT_LIVEDS])

theorem sameBut_dsatShown {l : List Nat} (level : Bool) (h : (F.GDS_L_FLT_LIVEDS n).addr ∈ l) : sameBut l c (dsatShown n level c) :=
  sameBut_set _ h (sameBut_refl _ c)

theorem dsatLevel_of_release : dsatLevel n false c = dsatShown n false c := by
  simp only [dsatLevel, Bool.not_false, Bool.or_true, Bool.true_or, if_true, dsatShown]

/-- A switch whose delayed signal is off is off. -/
theorem outOn_of_off (high : Bool) (h : (if high then (c.leg n).outH else (c.leg n).outL) = false) : outOn c n high = false := by
  rw [outOn, h, Bool.false_and, Bool.false_and]

theorem dsatLevel_of_idle (hd : (c.gdsg (groupOf n)).drven = true) (hw : c.is (F.GDS_L_FLT_LIVEDS n) = false) (hh : (c.leg n).outH = false)
    (hl : (c.leg n).outL = false) : dsatLevel n true c = dsatIdle n c := by
  have hdrven : ((c.setb (F.GDS_L_FLT_LIVEDS n) true).gdsg (groupOf n)).drven = true := hd
  have hoffH : outOn (c.setb (F.GDS_L_FLT_LIVEDS n) true) n true = false := outOn_of_off true hh
  have hoffL : outOn (c.setb (F.GDS_L_FLT_LIVEDS n) true) n false = false := outOn_of_off false hl
  simp only [dsatLevel, hdrven, hw, hoffH, hoffL, Bool.not_true, Bool.or_self, Bool.false_eq_true, if_false, dsatIdle, dsatShown]

/-- The count of a group stands beside the flags of a leg. -/
theorem dsidle_addr_ne (g : Nat) (f : Fld) (h : f.addr = 0x60101 + 0x10 * n) : f.addr ≠ (F.GDS_G_CNT_DSIDLE g).addr := by
  simp only [h, F.GDS_G_CNT_DSIDLE]
  omega

theorem dsatIdle_liveds : (dsatIdle n c).is (F.GDS_L_FLT_LIVEDS n) = true := by
  rw [Chip.is, dsatIdle, Chip.get_countSat_ne _ _ _ _ (.inl (dsidle_addr_ne _ _ rfl)),
    Chip.get_raise_ne _ _ _ (by simp [F.GDS_L_FLT_DSIDLE, F.GDS_L_FLT_LIVEDS]), ← Chip.is, dsatShown_is]

theorem dsatIdle_dsidle : (dsatIdle n c).is (F.GDS_L_FLT_DSIDLE n) = true := by
  rw [Chip.is, dsatIdle, Chip.get_countSat_ne _ _ _ _ (.inl (dsidle_addr_ne _ _ rfl)), ← Chip.is]
  exact Chip.is_raise_same _ _ rfl (by simp [F.GDS_L_FLT_DSIDLE])

theorem dsatIdle_count :
    (dsatIdle n c).get (F.GDS_G_CNT_DSIDLE (groupOf n)) = min (c.get (F.GDS_G_CNT_DSIDLE (groupOf n)) + 1) 255 := by
  rw [dsatIdle, Chip.get_countSat_same _ _ _ (by simp [F.GDS_G_CNT_DSIDLE]), Chip.get_raise_ne _ _ _ (.inl (dsidle_addr_ne _ _ rfl).symm), dsatShown,
    Chip.get_setb_ne _ _ _ _ (.inl (dsidle_addr_ne _ _ rfl).symm)]
  rfl

theorem sameBut_dsatIdle : sameBut [(F.GDS_L_FLT_LIVEDS n).addr, (F.GDS_G_CNT_DSIDLE (groupOf n)).addr] c (dsatIdle n c) :=
  sameBut_set _ (List.mem_cons_of_mem _ (List.mem_singleton_self _))
    (sameBut_set (f := F.GDS_L_FLT_DSIDLE n) 1 List.mem_cons_self (sameBut_dsatShown true List.mem_cons_self))

/-! ### Overdue edges, blanking and soft turn-off (R288 to R291) -/

theorem exec_overdueFault_of_going {s : State} (n : Fin 20) (h : going s.chip = true) :
    exec (.overdueFault n) s = .next (s.acted (overdueFault n s.chip)) := running_of_going h (overdueFault n)

theorem exec_blankingEnd_of_going {s : State} (n : Fin 20) (high : Bool) (h : going s.chip = true) :
    exec (.blankingEnd n high) s = .next (s.acted (blankingEnd n high s.chip)) := running_of_going h (blankingEnd n high)

theorem exec_softForceOff_of_going {s : State} (n : Fin 20) (high : Bool) (h : going s.chip = true) :
    exec (.softForceOff n high) s = .next (s.acted (softForceOff n high s.chip)) := running_of_going h (softForceOff n high)

/-- The fault is that of the one switch that is on. -/
theorem overdueFault_of_overdue (high : Bool) (hd : (c.gdsg (groupOf n)).drven = true) (hon : outOn c n true = high) (hoff : outOn c n false = !high)
    (ho : overdue c n high = true) : overdueFault n c = switchFault n high false false c := by
  cases high <;> simp [overdueFault, hd, hon, hoff, ho]

theorem blankingEnd_of_passed {high : Bool} (hb : (switchOf c n high).blanking = true)
    (ht : blankCycles c n high ≤ c.up - (switchOf c n high).onUp) : blankingEnd n high c = endBlanking n high false c := by
  simp only [blankingEnd, hb, decide_eq_true ht, Bool.and_self, if_true]

/-- The soft turn-off of a switch has ended: it is forced off while its fault is latched. -/
def softEnded (n : Nat) (high : Bool) (c : Chip) : Chip := modSwitch n high (fun s => { s with softWait := false, forced := c.is (latchFld n high) }) c

theorem softForceOff_of_waiting {high : Bool} (hs : (switchOf c n high).softWait = true) (he : (c.gdsg (groupOf n)).entering = false) :
    softForceOff n high c = softEnded n high c := by
  have hentering : ((softEnded n high c).gdsg (groupOf n)).entering = false := he
  rw [softEnded] at hentering
  simp only [softForceOff, hs, hentering, Bool.false_and, Bool.false_eq_true, if_false, if_true, softEnded]

theorem softEnded_switch {high : Bool} (hs : (switchOf c n high).softWait = true) :
    switchOf (softEnded n high c) n high = { switchOf c n high with softWait := false, forced := c.is (latchFld n high) } :=
  switchOf_modSwitch_same high _ (lt_length_of_switchOf_ne (high := high) fun hidle => by simp [hidle] at hs)

/-! ### The fault latch (R292) -/

theorem exec_faultLatchClear_of_going {s : State} (n : Fin 20) (high : Bool) (h : going s.chip = true) :
    exec (.faultLatchClear n high) s = .next (s.acted (faultLatchClear n high s.chip)) := running_of_going h (faultLatchClear n high)

/-- The fault latch of a switch is clear, and no longer forces the switch off. -/
def latchCleared (n : Nat) (high : Bool) (c : Chip) : Chip :=
  modSwitch n high (fun s => { s with forced := false, edge := false }) (c.setb (latchFld n high) false)

theorem faultLatchClear_of_edge {high : Bool} (hl : c.is (latchFld n high) = true) (he : (switchOf c n high).edge = true)
    (hf : c.is (F.GDS_G_STAT_FAULT (groupOf n)) = false) : faultLatchClear n high c = latchCleared n high c := by
  simp only [faultLatchClear, hl, he, hf, Bool.not_false, Bool.and_self, if_true, latchCleared]

theorem latchCleared_is (high : Bool) : (latchCleared n high c).is (latchFld n high) = false := by
  rw [latchCleared, modSwitch, modGdsl_is]
  exact Chip.is_setb_same _ _ false (latchFld_width n high) (latchFld_fits n high)

theorem latchCleared_forced {high : Bool} (he : (switchOf c n high).edge = true) : (switchOf (latchCleared n high c) n high).forced = false := by
  have hlen : n < (c.setb (latchFld n high) false).gdsL.length := lt_length_of_switchOf_ne (c := c) (high := high) fun hidle => by simp [hidle] at he
  rw [latchCleared, switchOf_modSwitch_same high _ hlen]

theorem sameBut_latchCleared (high : Bool) : sameBut [(latchFld n high).addr] c (latchCleared n high c) :=
  sameBut_modSwitch n high _ (sameBut_set _ (List.mem_singleton_self _) (sameBut_refl _ c))

end

/-! ### The fault of a group (R255, R295, R297) -/

theorem exec_interlockFault_of_going {s : State} (g : Fin 7) (h : going s.chip = true) :
    exec (.interlockFault g) s = .next (s.acted (interlockFault g s.chip)) := running_of_going h (interlockFault g)

/-- A group that enters its fault state shows it: what follows the entry stands in other words or beside the flag. -/
theorem enterFault_is_fault (g : Nat) (c : Chip) : (enterFault g c).is (F.GDS_G_STAT_FAULT g) = true := by
  have hraised (d : Chip) : (d.raise (F.GDS_G_STAT_FAULT g)).is (F.GDS_G_STAT_FAULT g) = true := Chip.is_raise_same d _ rfl (by simp [F.GDS_G_STAT_FAULT])
  have hcount (d : Chip) : (d.countSat (F.GDS_G_CNT_GFCNT g) 1).is (F.GDS_G_STAT_FAULT g) = d.is (F.GDS_G_STAT_FAULT g) :=
    congrArg (· == 1) (Chip.get_countSat_ne d _ _ 1 (.inl (by simp [F.GDS_G_STAT_FAULT, F.GDS_G_CNT_GFCNT])))
  have hlock (d : Chip) : (d.raise (F.GDS_G_STAT_GLOCK g)).is (F.GDS_G_STAT_FAULT g) = d.is (F.GDS_G_STAT_FAULT g) :=
    congrArg (· == 1) (Chip.get_raise_ne d _ _ (by simp [F.GDS_G_STAT_FAULT, F.GDS_G_STAT_GLOCK]))
  have hevent (d : Chip) : (d.evGflt g).is (F.GDS_G_STAT_FAULT g) = d.is (F.GDS_G_STAT_FAULT g) :=
    congrArg (· == 1) (Chip.get_evt_ne d 2 g _ (by simp only [F.GDS_G_STAT_FAULT]; omega))
  unfold enterFault
  split
  next hfault => exact hfault
  next =>
    extract_lets off counted entries entered recent locked told
    have hentered : entered.is (F.GDS_G_STAT_FAULT g) = true := (modGdsg_is counted g _ _).trans ((hcount _).trans (hraised off))
    have hlocked : locked.is (F.GDS_G_STAT_FAULT g) = true := by
      unfold locked
      split
      · exact (hlock entered).trans hentered
      · exact hentered
    have htold : told.is (F.GDS_G_STAT_FAULT g) = true := (Chip.occur_is _ _ _ _ _).trans ((hevent locked).trans hlocked)
    split <;> exact htold

section
variable {g : Nat} {c : Chip}

theorem interlockFault_of_lasting (hl : (legsOf g).any (interlockLasts c) = true) (hf : c.is (F.GDS_G_STAT_FAULT g) = false) :
    interlockFault g c = enterFault g ((c.raise (F.PWM_G_STAT_ILKFLT g)).raise (F.GDS_G_STAT_ILK g)) := by
  simp only [interlockFault, hl, hf, Bool.not_false, Bool.and_self, if_true]

theorem outen_of_fault (h : c.is (F.GDS_G_STAT_FAULT g) = true) : outen c g = false := by
  rw [outen, h, Bool.not_true, Bool.and_false, Bool.false_and, Bool.false_and]

/-- Stage 5 forces every switch of a group without OUTEN off. -/
theorem outOn_of_not_outen {n : Nat} (high : Bool) (h : outen c (groupOf n) = false) : outOn c n high = false := by
  have hforced : forcedOff c n high = true := by simp only [forcedOff, h, Bool.not_false, Bool.true_or]
  rw [outOn, hforced, Bool.not_true, Bool.and_false]

end

/-- Settles O48: each event of a switch is brought to the branch of the model that its premises choose, and that branch to the flags that it sets. -/
theorem switchFaultsAreJudged : Obligations.SwitchFaultsAreJudged := by
  unfold Obligations.SwitchFaultsAreJudged
  refine ⟨fun s n hg => ⟨dsatShown n false s.chip, ?_, dsatShown_is false, sameBut_dsatShown false (List.mem_singleton_self _)⟩,
    fun s n hg hd hw hh hl => ⟨dsatIdle n s.chip, ?_, dsatIdle_liveds, dsatIdle_dsidle, dsatIdle_count, sameBut_dsatIdle⟩,
    fun s n hg hd hon hoff ho => ?_, fun s n hg hd hoff hon ho => ?_, fun s n h hg hb ht => ?_,
    fun s n h hg hs he => ⟨softEnded n h s.chip, ?_, ?_, ?_, sameBut_modSwitch n h _ (sameBut_refl [] _)⟩,
    fun s n h hg hl he hf => ⟨latchCleared n h s.chip, ?_, latchCleared_is h, latchCleared_forced he, sameBut_latchCleared h⟩,
    fun s g hg hl hf => ⟨?_, enterFault_is_fault g _⟩, fun g c h => outen_of_fault h, fun n high c h => outOn_of_not_outen high h⟩
  · rw [exec_dsatAssertion_of_going n false hg, dsatLevel_of_release]
  · rw [exec_dsatAssertion_of_going n true hg, dsatLevel_of_idle hd hw hh hl]
  · rw [exec_overdueFault_of_going n hg, overdueFault_of_overdue true hd hon hoff ho]
  · rw [exec_overdueFault_of_going n hg, overdueFault_of_overdue false hd hoff hon ho]
  · rw [exec_blankingEnd_of_going n h hg, blankingEnd_of_passed hb ht]
  · rw [exec_softForceOff_of_going n h hg, softForceOff_of_waiting hs he]
  · rw [softEnded_switch hs]
  · rw [softEnded_switch hs]
  · rw [exec_faultLatchClear_of_going n h hg, faultLatchClear_of_edge hl he hf]
  · rw [exec_interlockFault_of_going g hg, interlockFault_of_lasting hl hf]

end Sys2Proof.Machine
end

section
/-! SUPPORT. The proofs of the engine's chapter (10_zaensan_engine), first part: the starts of programs, their queues, their runs and their resets. -/

namespace Sys2Proof.Machine

/-! ### The engine beside its words -/

@[simp] theorem noteStart_get (p : Nat) (t : Option Nat) (c : Chip) (f : Fld) : (noteStart p t c).get f = c.get f := rfl
@[simp] theorem noteStart_is (p : Nat) (t : Option Nat) (c : Chip) (f : Fld) : (noteStart p t c).is f = c.is f := rfl
@[simp] theorem noteStart_running (p : Nat) (t : Option Nat) (c : Chip) : (noteStart p t c).zen.running = c.zen.running := rfl
@[simp] theorem noteStart_physLane (p : Nat) (t : Option Nat) (c : Chip) (j : Nat) : physLane (noteStart p t c) j = physLane c j := rfl

theorem sameBut_noteStart (l : List Nat) (p : Nat) (t : Option Nat) (c : Chip) : sameBut l c (noteStart p t c) := sameBut_refl l c

@[simp] theorem laneRunTo_get (j : Nat) (r : Option ZRun) (c : Chip) (f : Fld) : (laneRunTo j r c).get f = c.get f := rfl
@[simp] theorem laneRunTo_is (j : Nat) (r : Option ZRun) (c : Chip) (f : Fld) : (laneRunTo j r c).is f = c.is f := rfl

theorem laneRunTo_running (j : Nat) (r : Option ZRun) (c : Chip) : (laneRunTo j r c).zen.running = c.zen.running.set j r := rfl

theorem laneRun_laneRunTo_none (j : Nat) (c : Chip) : laneRun (laneRunTo j none c) j = none := by
  rw [laneRun, laneRunTo, List.getD_eq_getElem?_getD, List.getElem?_set_self']
  cases c.zen.running[j]? <;> rfl

@[simp] theorem Chip.occur_zen (c : Chip) (e : Nat) (i : Option Nat) (d : Word) : (c.occur e i d).zen = c.zen :=
  Chip.occur_keeps Chip.zen (fun _ _ => rfl) c e i d

/-! ### Starts (R321, R322) -/

theorem exec_programStart_of_going {s : State} (p : Fin 64) (h : going s.chip = true) :
    exec (.programStart p) s = .next (s.acted (startProgram p s.chip)) := running_of_going h (startProgram p)

section
variable {p : Nat} {c : Chip}

/-- A start of the ZCLK cycle of the one before it forms one start with it (R322). -/
theorem startProgram_at_same_cycle (h : c.zen.startAt.getD p none = some (zclkNow c)) : startProgram p c = c := by
  simp only [startProgram, reachProgram, h, if_true, ite_self]

/-- A start that is not one with the one before it queues its program, or is dropped. -/
theorem startProgram_at_other_cycle (hm : runMode c.mode = true) (he : c.is (F.ZEN_PG_CFG_EN p) = true)
    (ht : c.zen.startAt.getD p none ≠ some (zclkNow c)) :
    startProgram p c =
      if (physLane c (c.get (F.ZEN_PG_CFG_LANE p))).isNone || c.is (F.ZEN_PG_STAT_QUEUED p) || c.is (F.ZEN_PG_STAT_RUNNING p) then
        dropStart p (noteStart p (some (zclkNow c)) c)
      else (noteStart p (some (zclkNow c)) c).raise (F.ZEN_PG_STAT_QUEUED p) := by
  simp only [startProgram, reachProgram, hm, he, ht, Bool.not_true, Bool.or_self, Bool.false_eq_true, if_false, noteStart_get, noteStart_is,
    noteStart_physLane]
  rfl

theorem startProgram_of_idle {z : Nat} (hm : runMode c.mode = true) (he : c.is (F.ZEN_PG_CFG_EN p) = true)
    (hz : physLane c (c.get (F.ZEN_PG_CFG_LANE p)) = some z) (hq : c.is (F.ZEN_PG_STAT_QUEUED p) = false)
    (hr : c.is (F.ZEN_PG_STAT_RUNNING p) = false) (ht : c.zen.startAt.getD p none ≠ some (zclkNow c)) :
    startProgram p c = (noteStart p (some (zclkNow c)) c).raise (F.ZEN_PG_STAT_QUEUED p) := by
  rw [startProgram_at_other_cycle hm he ht, hz, hq, hr]
  rfl

theorem startProgram_of_held (hm : runMode c.mode = true) (he : c.is (F.ZEN_PG_CFG_EN p) = true)
    (hh : c.is (F.ZEN_PG_STAT_QUEUED p) = true ∨ c.is (F.ZEN_PG_STAT_RUNNING p) = true)
    (ht : c.zen.startAt.getD p none ≠ some (zclkNow c)) : startProgram p c = dropStart p (noteStart p (some (zclkNow c)) c) := by
  rw [startProgram_at_other_cycle hm he ht, if_pos (by rcases hh with h | h <;> simp [h])]

end

theorem dropStart_ovrun (p : Nat) (c : Chip) : (dropStart p c).get (F.ZEN_PG_STAT_OVRUN p) = min (c.get (F.ZEN_PG_STAT_OVRUN p) + 1) 255 := by
  rw [dropStart, Chip.occur_get, Chip.get_countSat_same _ _ _ (by simp [F.ZEN_PG_STAT_OVRUN])]
  rfl

theorem sameBut_dropStart (p : Nat) (c : Chip) : sameBut [(F.ZEN_PG_STAT_OVRUN p).addr] c (dropStart p c) :=
  sameBut_trans (sameBut_set _ (List.mem_singleton_self _) (sameBut_refl _ c)) (sameBut_occur _ _ _ _)

/-! ### Queues (R323) -/

theorem mem_queuedOn {c : Chip} {j p : Nat} :
    p ∈ queuedOn c j ↔ p < 64 ∧ c.is (F.ZEN_PG_STAT_QUEUED p) = true ∧ c.get (F.ZEN_PG_CFG_LANE p) = j := by
  simp [queuedOn]

/-- The better of the best program so far and another one, which is better only with a higher priority. -/
def betterOf (c : Chip) (best : Option Nat) (p : Nat) : Option Nat :=
  match best with
  | none => some p
  | some b => if c.get (F.ZEN_PG_CFG_PRIO b) < c.get (F.ZEN_PG_CFG_PRIO p) then some p else some b

theorem nextProgram_eq (c : Chip) (j : Nat) : nextProgram c j = (queuedOn c j).foldl (betterOf c) none := rfl

theorem betterOf_spec (c : Chip) (best : Option Nat) (p : Nat) :
    ∃ b, betterOf c best p = some b ∧ (b = p ∨ best = some b) ∧ c.get (F.ZEN_PG_CFG_PRIO p) ≤ c.get (F.ZEN_PG_CFG_PRIO b) ∧
      ∀ q, best = some q → c.get (F.ZEN_PG_CFG_PRIO q) ≤ c.get (F.ZEN_PG_CFG_PRIO b) := by
  cases best with
  | none => exact ⟨p, rfl, .inl rfl, le_rfl, fun _ h => nomatch h⟩
  | some b =>
    by_cases hlt : c.get (F.ZEN_PG_CFG_PRIO b) < c.get (F.ZEN_PG_CFG_PRIO p)
    · exact ⟨p, if_pos hlt, .inl rfl, le_rfl, fun q hq => Option.some.inj hq ▸ hlt.le⟩
    · exact ⟨b, if_neg hlt, .inr rfl, Nat.le_of_not_lt hlt, fun q hq => Option.some.inj hq ▸ le_rfl⟩

/-- The best program of a list is one of it, and none of it has a higher priority. -/
theorem foldl_betterOf {c : Chip} {l : List Nat} {best : Option Nat} {p : Nat} (h : l.foldl (betterOf c) best = some p) :
    (p ∈ l ∨ best = some p) ∧ ∀ q, q ∈ l ∨ best = some q → c.get (F.ZEN_PG_CFG_PRIO q) ≤ c.get (F.ZEN_PG_CFG_PRIO p) := by
  induction l generalizing best with
  | nil =>
    refine ⟨.inr h, fun q hq => ?_⟩
    obtain rfl : q = p := Option.some.inj ((hq.resolve_left List.not_mem_nil).symm.trans h)
    exact le_rfl
  | cons x l ih =>
    obtain ⟨b, hb, hfrom, hx, hbest⟩ := betterOf_spec c best x
    obtain ⟨hp, hmax⟩ := ih h
    have hbp := hmax b (.inr hb)
    refine ⟨?_, fun q hq => ?_⟩
    · rcases hp with hp | hp
      · exact .inl (List.mem_cons_of_mem x hp)
      · obtain rfl : b = p := Option.some.inj (hb.symm.trans hp)
        exact hfrom.imp (fun he : b = x => he ▸ List.mem_cons_self) id
    · rcases hq with hq | hq
      · rcases List.mem_cons.mp hq with rfl | hq
        · exact hx.trans hbp
        · exact hmax q (.inl hq)
      · exact (hbest q hq).trans hbp

theorem nextProgram_highest {c : Chip} {j p : Nat} (h : nextProgram c j = some p) :
    c.is (F.ZEN_PG_STAT_QUEUED p) = true ∧ c.get (F.ZEN_PG_CFG_LANE p) = j ∧
      ∀ q : Nat, q < 64 → c.is (F.ZEN_PG_STAT_QUEUED q) = true → c.get (F.ZEN_PG_CFG_LANE q) = j →
        c.get (F.ZEN_PG_CFG_PRIO q) ≤ c.get (F.ZEN_PG_CFG_PRIO p) := by
  obtain ⟨hmem | hnone, hmax⟩ := foldl_betterOf ((nextProgram_eq c j).symm.trans h)
  · obtain ⟨-, hq, hl⟩ := mem_queuedOn.mp hmem
    exact ⟨hq, hl, fun q hq64 hqq hql => hmax q (.inl (mem_queuedOn.mpr ⟨hq64, hqq, hql⟩))⟩
  · exact nomatch hnone

/-! ### What a run carries out (R314, R320, R328) -/

section
variable {j : Nat} {r : ZRun} {it : Nat × Option Nat} {c : Chip}

theorem carryOut_of_over (timed : Bool) (n : Nat) (hr : laneRun c j = some r) (hn : runNext c r = none) : carryOut timed n j c = c := by
  cases n with
  | zero => rfl
  | succ n => simp only [carryOut, hr, hn]

theorem carryOut_of_waiting (timed : Bool) (n : Nat) (hr : laneRun c j = some r) (hn : runNext c r = some it) (hw : itemWaits c r it = true) :
    carryOut timed n j c = c := by
  cases n with
  | zero => rfl
  | succ n => simp only [carryOut, hr, hn, hw, Bool.true_or, if_true]

theorem carryOut_of_ready (n : Nat) (hr : laneRun c j = some r) (hn : runNext c r = some it) (hw : itemWaits c r it = false) :
    carryOut false (n + 1) j c = carryOut false n j (doItem j r it c) := by
  simp only [carryOut, hr, hn, hw, Bool.false_and, Bool.or_self, Bool.false_eq_true, if_false]

/-- The start of a stage is its rescale (R317), after which the run goes on with the next thing. -/
theorem doItem_stage (j s : Nat) (r : ZRun) (c : Chip) :
    ∃ q : ZRun, doItem j r (s, none) c = laneRunTo j (some q) (rescaleStage j s c) ∧ q.pos = r.pos + 1 ∧ q.prog = r.prog := ⟨_, rfl, rfl, rfl⟩

theorem finishItems_of_run (hr : laneRun c j = some r) : finishItems j c = carryOut false (runItems c r.cfg).length j c := by
  simp only [finishItems, hr]

end

/-! ### The beginning of a run (R323) -/

theorem exec_runBegin_of_going {s : State} (j : Fin 8) (h : going s.chip = true) :
    exec (.runBegin j) s = .next (s.acted (runBegin j s.chip)) := running_of_going h (runBegin j)

/-- The early start of program p is taken: its slots are no longer kept for it (R328). -/
def earlyTaken (p : Nat) (c : Chip) : Chip := { c with zen := { c.zen with early := c.zen.early.filter (fun e => e.1 != p) } }

/-- Program p is no longer queued, and runs. -/
def runShown (p : Nat) (c : Chip) : Chip := (c.setb (F.ZEN_PG_STAT_QUEUED p) false).raise (F.ZEN_PG_STAT_RUNNING p)

/-- Program p runs on physical lane z, which is busy, and its start is taken. -/
def laneTaken (p z : Nat) (c : Chip) : Chip := noteStart p none ((earlyTaken p (runShown p c)).raise (F.ZEN_LANE_STAT_BUSY z))

/-- The run of program p, with the settings in force, before its first stage. -/
def freshRun (c : Chip) (p : Nat) : ZRun :=
  { prog := p, cfg := c.rd (F.ZEN_PG_CFG p), wait := (c.zen.early.find? (·.1 == p)).map (·.2) }

theorem runBegin_of_next {j p z : Nat} {c : Chip} (hr : laneRun c j = none) (hm : runMode c.mode = true) (hp : nextProgram c j = some p)
    (hz : physLane c j = some z) : runBegin j c = carryOut false 1 j (laneRunTo j (some (freshRun c p)) (laneTaken p z c)) := by
  simp only [runBegin, hr, hm, hp, hz, Option.isSome_none, Bool.not_true, Bool.or_self, Bool.false_eq_true, if_false, laneTaken, earlyTaken, runShown,
    freshRun]

theorem earlyTaken_get (p : Nat) (c : Chip) (f : Fld) : (earlyTaken p c).get f = c.get f := rfl

theorem earlyTaken_running (p : Nat) (c : Chip) : (earlyTaken p c).zen.running = c.zen.running := rfl

theorem laneTaken_running (p z : Nat) (c : Chip) : (laneTaken p z c).zen.running = c.zen.running := by
  rw [laneTaken, noteStart_running, Chip.raise_zen, earlyTaken_running, runShown, Chip.raise_zen, Chip.setb_zen]

/-- The status of the programs stands beside that of the lanes. -/
theorem laneTaken_get {p z : Nat} (c : Chip) {f : Fld} (h : 0x70019 ≤ f.addr) (hz : z < 9) : (laneTaken p z c).get f = (runShown p c).get f := by
  rw [laneTaken, noteStart_get, Chip.get_raise_ne _ _ _ (.inl (by simp only [F.ZEN_LANE_STAT_BUSY]; omega)), earlyTaken_get]

theorem laneTaken_shows {p z : Nat} (c : Chip) (hz : z < 9) :
    (laneTaken p z c).is (F.ZEN_PG_STAT_QUEUED p) = false ∧ (laneTaken p z c).is (F.ZEN_PG_STAT_RUNNING p) = true ∧
      (laneTaken p z c).is (F.ZEN_LANE_STAT_BUSY z) = true := by
  refine ⟨?_, ?_, ?_⟩
  · rw [Chip.is, laneTaken_get c (by simp only [F.ZEN_PG_STAT_QUEUED]; omega) hz, runShown,
      Chip.get_raise_ne _ _ _ (by simp [F.ZEN_PG_STAT_QUEUED, F.ZEN_PG_STAT_RUNNING])]
    exact Chip.is_setb_same c (F.ZEN_PG_STAT_QUEUED p) false rfl (by simp [F.ZEN_PG_STAT_QUEUED])
  · rw [Chip.is, laneTaken_get c (by simp only [F.ZEN_PG_STAT_RUNNING]; omega) hz]
    exact Chip.is_raise_same _ (F.ZEN_PG_STAT_RUNNING p) rfl (by simp [F.ZEN_PG_STAT_RUNNING])
  · rw [laneTaken, noteStart_is]
    exact Chip.is_raise_same _ (F.ZEN_LANE_STAT_BUSY z) rfl (by simp [F.ZEN_LANE_STAT_BUSY])

/-! ### The end of a run (R320, R328, R343) -/

theorem exec_runEnd_of_going {s : State} (j : Fin 8) (waits : Nat) (h : going s.chip = true) :
    exec (.runEnd j waits) s = .next (s.acted (runEndAll j waits s.chip)) := running_of_going h (runEndAll j waits)

/-- Logical lane j is free: it holds no run, and its physical lane is not busy. -/
def laneFreed (j : Nat) (c : Chip) : Chip :=
  match physLane c j with
  | some z => (laneRunTo j none c).setb (F.ZEN_LANE_STAT_BUSY z) false
  | none => laneRunTo j none c

/-- Program p shows the end of a run of so many lane cycles. -/
def endShown (p cycles : Nat) (c : Chip) : Chip :=
  let d := (((c.setb (F.ZEN_PG_STAT_RUNNING p) false).raise (F.ZEN_PG_STAT_DONE p)).set (F.ZEN_PG_STAT_CYCLAST p) (min cycles 4095)).countMod
    (F.ZEN_PG_STAT_SEQ p) 1
  d.set (F.ZEN_PG_STAT_CYCMAX p) (max (d.get (F.ZEN_PG_STAT_CYCMAX p)) (min cycles 4095))

theorem laneFreed_zen (j : Nat) (c : Chip) : (laneFreed j c).zen = (laneRunTo j none c).zen := by
  unfold laneFreed
  split <;> rfl

theorem endShown_zen (p cycles : Nat) (c : Chip) : (endShown p cycles c).zen = c.zen := rfl

theorem endShown_shows (p cycles : Nat) (c : Chip) :
    (endShown p cycles c).is (F.ZEN_PG_STAT_DONE p) = true ∧ (endShown p cycles c).is (F.ZEN_PG_STAT_RUNNING p) = false ∧
      (endShown p cycles c).get (F.ZEN_PG_STAT_CYCLAST p) = min cycles 4095 := by
  refine ⟨?_, ?_, ?_⟩
  · rw [endShown, Chip.is, Chip.get_set_ne _ _ _ _ (by simp [F.ZEN_PG_STAT_DONE, F.ZEN_PG_STAT_CYCMAX]),
      Chip.get_countMod_ne _ _ _ _ (by simp [F.ZEN_PG_STAT_DONE, F.ZEN_PG_STAT_SEQ]),
      Chip.get_set_ne _ _ _ _ (by simp [F.ZEN_PG_STAT_DONE, F.ZEN_PG_STAT_CYCLAST])]
    exact Chip.is_raise_same _ (F.ZEN_PG_STAT_DONE p) rfl (by simp [F.ZEN_PG_STAT_DONE])
  · rw [endShown, Chip.is, Chip.get_set_ne _ _ _ _ (by simp [F.ZEN_PG_STAT_RUNNING, F.ZEN_PG_STAT_CYCMAX]),
      Chip.get_countMod_ne _ _ _ _ (by simp [F.ZEN_PG_STAT_RUNNING, F.ZEN_PG_STAT_SEQ]),
      Chip.get_set_ne _ _ _ _ (by simp [F.ZEN_PG_STAT_RUNNING, F.ZEN_PG_STAT_CYCLAST]),
      Chip.get_raise_ne _ _ _ (by simp [F.ZEN_PG_STAT_RUNNING, F.ZEN_PG_STAT_DONE])]
    exact Chip.is_setb_same c (F.ZEN_PG_STAT_RUNNING p) false rfl (by simp [F.ZEN_PG_STAT_RUNNING])
  · rw [endShown, Chip.get_set_ne _ _ _ _ (by simp [F.ZEN_PG_STAT_CYCLAST, F.ZEN_PG_STAT_CYCMAX]),
      Chip.get_countMod_ne _ _ _ _ (by simp [F.ZEN_PG_STAT_CYCLAST, F.ZEN_PG_STAT_SEQ]),
      Chip.get_set_same _ _ _ (by simp [F.ZEN_PG_STAT_CYCLAST])]
    exact Nat.mod_eq_of_lt (Nat.lt_of_le_of_lt (Nat.min_le_right _ _) (by norm_num [F.ZEN_PG_STAT_CYCLAST]))

section
variable {j waits : Nat} {r : ZRun} {c : Chip}

/-- A run of which nothing is left, and which no other program follows, ends (R320, R321). -/
theorem runEnd_of_over (hr : laneRun c j = some r) (hn : runNext c r = none) (hchain : r.cfg.field 39 1 = 0) :
    ∃ detail : Word, runEnd j waits c = (endShown r.prog (runCycles r waits) (laneFreed j c)).occur 0x04 (some r.prog) detail := by
  have hlane : physLane (laneRunTo j none c) j = physLane c j := rfl
  simp only [runEnd, finishItems_of_run hr, carryOut_of_over false _ hr hn, hr, hn, hchain, Option.isSome_none, Bool.false_eq_true, if_false,
    Nat.zero_ne_one, hlane, laneFreed]
  exact ⟨_, rfl⟩

theorem runEnd_of_waiting {it : Nat × Option Nat} (hr : laneRun c j = some r) (hn : runNext c r = some it) (hw : itemWaits c r it = true) :
    runEnd j waits c = c := by
  simp only [runEnd, finishItems_of_run hr, carryOut_of_waiting false _ hr hn hw, hr, hn, Option.isSome_some, if_true]

theorem runEnd_shows (hr : laneRun c j = some r) (hn : runNext c r = none) (hchain : r.cfg.field 39 1 = 0) :
    (runEnd j waits c).is (F.ZEN_PG_STAT_DONE r.prog) = true ∧ (runEnd j waits c).is (F.ZEN_PG_STAT_RUNNING r.prog) = false ∧
      (runEnd j waits c).get (F.ZEN_PG_STAT_CYCLAST r.prog) = min (runCycles r waits) 4095 ∧ laneRun (runEnd j waits c) j = none := by
  obtain ⟨detail, hend⟩ := runEnd_of_over (waits := waits) hr hn hchain
  obtain ⟨hdone, hrun, hcycles⟩ := endShown_shows r.prog (runCycles r waits) (laneFreed j c)
  rw [hend, laneRun, Chip.occur_zen, endShown_zen, laneFreed_zen, ← laneRun]
  simp only [Chip.occur_is, Chip.occur_get]
  exact ⟨hdone, hrun, hcycles, laneRun_laneRunTo_none j c⟩

end

/-! ### Resets (R325) -/

theorem exec_programReset_of_going {s : State} (p : Fin 64) (h : going s.chip = true) :
    exec (.programReset p) s = .next (s.acted (programReset p s.chip)) := running_of_going h (programReset p)

theorem laneStore_zen (j a : Nat) (w : Word) (c : Chip) : (laneStore j a w c).zen = c.zen := by
  simp only [laneStore]
  split
  · split <;> rfl
  · rfl

/-- The reset that a program waited for waits no longer; what it does to the program's blocks and stages asks for no other. -/
theorem programReset_of_requested {p : Nat} {c : Chip} (hb : c.zen.pgrst.getLsbD p = true) (hr : c.is (F.ZEN_PG_STAT_RUNNING p) = false)
    (hq : c.is (F.ZEN_PG_STAT_QUEUED p) = false) : (programReset p c).zen.pgrst = c.zen.pgrst &&& ~~~(1#64 <<< p) := by
  simp only [programReset, hb, hr, hq, Bool.not_false, Bool.and_self, if_true]
  refine Chip.forEach_keeps (fun d => d.zen.pgrst) (fun s d => ?_) _ _
  refine Chip.forEach_keeps (fun d => d.zen.pgrst) (fun b d => ?_) _ d
  exact Chip.forN_keeps (fun d => d.zen.pgrst) (fun k d => congrArg Zen.pgrst (laneStore_zen _ _ 0 d)) _ d

theorem programReset_takes {p : Nat} {c : Chip} (hr : c.is (F.ZEN_PG_STAT_RUNNING p) = false) (hq : c.is (F.ZEN_PG_STAT_QUEUED p) = false) :
    (programReset p c).zen.pgrst.getLsbD p = false := by
  cases hb : c.zen.pgrst.getLsbD p with
  | false => simp only [programReset, hb, Bool.false_and, Bool.false_eq_true, if_false]
  | true =>
    rw [programReset_of_requested hb hr hq]
    simp

/-- Settles O49: each event is brought to the branch of the model that its premises choose, and each thing that a run carries out to one pass of its loop. -/
theorem programsStartRunAndEnd : Obligations.ProgramsStartRunAndEnd := by
  unfold Obligations.ProgramsStartRunAndEnd
  refine ⟨fun s p z hg hm he hz hq hr ht => ⟨_, exec_programStart_of_going p hg, ?_⟩,
    fun s p hg hm he hh ht => ⟨_, exec_programStart_of_going p hg, ?_⟩, fun s p hg ht => ?_,
    fun s j p z hg hr hm hp hz _ hz9 => ⟨laneRunTo j (some (freshRun s.chip p)) (laneTaken p z s.chip), ?_, ?_⟩,
    fun n j r it c hr hn => ⟨carryOut_of_waiting false (n + 1) hr hn, carryOut_of_ready n hr hn⟩, fun j s r c => doItem_stage j s r c,
    fun c j p h => nextProgram_highest h, fun s j waits hg => exec_runEnd_of_going j waits hg,
    fun j waits c r hr hn hchain _ => runEnd_shows hr hn hchain, fun j waits c r it hr hn hw => runEnd_of_waiting hr hn hw,
    fun s p hg => exec_programReset_of_going p hg, fun p c _ hr hq => programReset_takes hr hq⟩
  · rw [startProgram_of_idle hm he hz hq hr ht]
    exact ⟨Chip.is_raise_same _ _ rfl (by simp [F.ZEN_PG_STAT_QUEUED]),
      sameBut_set 1 (List.mem_singleton_self _) (sameBut_noteStart _ p _ s.chip)⟩
  · rw [startProgram_of_held hm he hh ht]
    exact ⟨dropStart_ovrun p _, sameBut_trans (sameBut_noteStart _ p _ s.chip) (sameBut_dropStart p _)⟩
  · rw [exec_programStart_of_going p hg, startProgram_at_same_cycle ht]
  · rw [exec_runBegin_of_going j hg, runBegin_of_next hr hm hp hz]
  · obtain ⟨hqueued, hrunning, hbusy⟩ := laneTaken_shows (p := p) s.chip hz9
    rw [laneRunTo_is, laneRunTo_is, laneRunTo_is, laneRunTo_running, laneTaken_running]
    exact ⟨hqueued, hrunning, hbusy, rfl⟩

end Sys2Proof.Machine
end

section
/-! SUPPORT. The proofs of the engine's chapter (10_zaensan_engine), second part: the migration of lanes, their tests in operation and the pulse meters. -/

namespace Sys2Proof.Machine

/-! ### Where the words of the lanes stand -/

theorem setLane_get (z st log : Nat) (c : Chip) {f : Fld} (h : f.addr ≠ 0x70010 + z) : (setLane z st log c).get f = c.get f := by
  rw [setLane, Chip.get_set_ne _ _ _ _ (.inl (by simp only [F.ZEN_LANE_STAT_LOG]; omega)),
    Chip.get_set_ne _ _ _ _ (.inl (by simp only [F.ZEN_LANE_STAT_STATE]; omega))]

theorem setLane_state {st : Nat} (z log : Nat) (c : Chip) (h : st < 16) : (setLane z st log c).get (F.ZEN_LANE_STAT_STATE z) = st := by
  rw [setLane, Chip.get_set_ne _ _ _ _ (by simp [F.ZEN_LANE_STAT_STATE, F.ZEN_LANE_STAT_LOG]),
    Chip.get_set_same _ _ _ (by simp [F.ZEN_LANE_STAT_STATE])]
  exact Nat.mod_eq_of_lt h

theorem mapLane_get (j z : Nat) (c : Chip) {f : Fld} (h : f.addr ≠ 0x70001) : (mapLane j z c).get f = c.get f := Chip.get_wr_ne _ _ _ _ h

theorem countActive_get (c : Chip) {f : Fld} (h : f.addr ≠ 0x70000 ∨ f.lo + f.width ≤ 8) : (countActive c).get f = c.get f :=
  Chip.get_set_ne _ _ _ _ (by simp only [F.ZEN_STAT_NACT]; omega)

theorem evLane_get (c : Chip) {f : Fld} (h : f.addr ≠ 0x12) : c.evLane.get f = c.get f := Chip.get_evt_ne c 2 17 f h

theorem evBist_get (c : Chip) {f : Fld} (h : f.addr ≠ 0x10) : c.evBist.get f = c.get f := Chip.get_evt_ne c 0 9 f h

/-! ### Requests (R332) -/

section
variable {c : Chip}

theorem requestMigration_migBist {j d z : Nat} (bist : Bool) (hs : spareLane c = some d) (hz : physLane c j = some z)
    (hp : c.get F.ZEN_MIG_PHASE = 0) (hm : runMode c.mode = true) : (requestMigration j bist c).zen.migBist = bist := by
  simp only [requestMigration, hs, hz, hp, hm, Bool.not_true, ne_eq, not_true_eq_false, Bool.false_eq_true, or_self, if_false]

theorem migrationBegun_spare (j z d : Nat) (c : Chip) : (migrationBegun j z d c).get F.ZEN_LMAP_SPARE = 15 :=
  Chip.get_set_same _ F.ZEN_LMAP_SPARE 15 (by decide)

theorem requestMigration_of_no_spare (j : Nat) (bist : Bool) (h : spareLane c = none) : requestMigration j bist c = c.raise F.ZEN_STAT_MIGREF := by
  simp only [requestMigration, h]

/-! ### The copy (R332) -/

theorem exec_migrationCopyDone_of_going {s : State} (h : going s.chip = true) :
    exec .migrationCopyDone s = .next (s.acted (migrationCopyDone s.chip)) := running_of_going h migrationCopyDone

/-- The destination of the migration holds the words of its source, and no other. -/
def laneCopied (c : Chip) : Chip :=
  Chip.forEach { c with lanes := c.lanes.filter (fun e => e.1 / 4096 != c.get F.ZEN_MIG_DST) } (laneWords c (c.get F.ZEN_MIG_SRC))
    (fun e d => d.laneWr (c.get F.ZEN_MIG_DST) e.1 e.2)

theorem migrationCopyDone_of_copying (h : c.get F.ZEN_MIG_PHASE = 1) : migrationCopyDone c = (laneCopied c).set F.ZEN_MIG_PHASE 2 := if_pos h

/-- What no lane word touches stays while a lane is copied. -/
theorem laneCopied_keeps {α : Type} (p : Chip → α) (hp : ∀ (c : Chip) (l : Mem), p { c with lanes := l } = p c) (c : Chip) :
    p (laneCopied c) = p c :=
  (Chip.forEach_keeps p (fun _ _ => hp _ _) _ _).trans (hp c _)

/-! ### The switch instant (R333) -/

theorem exec_switchInstant_of_going {s : State} (h : going s.chip = true) :
    exec .switchInstant s = .next (s.acted (switchInstant s.chip)) := running_of_going h switchInstant

/-- Logical lane j is mapped to physical lane d, and physical lane z goes to its test or is the spare. -/
def laneSwitched (j z d : Nat) (c : Chip) : Chip :=
  let e := setLane d 0 j (mapLane j d c)
  if e.zen.migBist then (setLane z 3 15 e).set F.ZEN_LMAP_TESTL z else (setLane z 1 15 e).set F.ZEN_LMAP_SPARE z

/-- A switch is counted and reported. -/
def switchReported (c : Chip) : Chip := ((c.countSat F.ZEN_MIG_MIGCNT 1).raise F.ZEN_STAT_LANEEVT).evLane

theorem switchInstant_of_free (hp : c.get F.ZEN_MIG_PHASE = 2) (hr : laneRun c (migLogical c) = none) (hq : queuedOn c (migLogical c) = []) :
    switchInstant c =
      countActive ((switchReported (laneSwitched (migLogical c) (c.get F.ZEN_MIG_SRC) (c.get F.ZEN_MIG_DST) c)).set F.ZEN_MIG_PHASE 0) := by
  simp only [switchInstant, hp, hr, hq, Option.isNone_none, List.isEmpty_nil, and_self, if_true, switchReported, laneSwitched]

/-- The lanes' own words and the map stand beside ZEN.MIG. -/
theorem laneSwitched_get (j z d : Nat) (c : Chip) {f : Fld} (h : f.addr = 0x70002) : (laneSwitched j z d c).get f = c.get f := by
  have hmapped : (setLane d 0 j (mapLane j d c)).get f = c.get f := by rw [setLane_get _ _ _ _ (by omega), mapLane_get _ _ _ (by omega)]
  unfold laneSwitched
  extract_lets e
  split <;> rw [Chip.get_set_ne _ _ _ _ (.inl (by rw [h]; decide)), setLane_get _ _ _ _ (by omega)] <;> exact hmapped

theorem switchReported_shows (c : Chip) :
    (switchReported c).is F.ZEN_STAT_LANEEVT = true ∧ (switchReported c).get F.ZEN_MIG_MIGCNT = min (c.get F.ZEN_MIG_MIGCNT + 1) 255 ∧
      ((switchReported c).rd 0x12).field 17 1 = 1 := by
  refine ⟨?_, ?_, Chip.evt_field _ 2 17 (by decide)⟩
  · rw [switchReported, Chip.is, evLane_get _ (by decide)]
    exact Chip.is_raise_same _ F.ZEN_STAT_LANEEVT rfl (by decide)
  · rw [switchReported, evLane_get _ (by decide), Chip.get_raise_ne _ _ _ (by decide)]
    exact Chip.get_countSat_same c F.ZEN_MIG_MIGCNT 1 (by decide)

theorem switchInstant_shows (hp : c.get F.ZEN_MIG_PHASE = 2) (hr : laneRun c (migLogical c) = none) (hq : queuedOn c (migLogical c) = []) :
    (switchInstant c).get F.ZEN_MIG_PHASE = 0 ∧ (switchInstant c).is F.ZEN_STAT_LANEEVT = true ∧
      (switchInstant c).get F.ZEN_MIG_MIGCNT = min (c.get F.ZEN_MIG_MIGCNT + 1) 255 ∧ ((switchInstant c).rd 0x12).field 17 1 = 1 := by
  obtain ⟨hevt, hcnt, hlane⟩ := switchReported_shows (laneSwitched (migLogical c) (c.get F.ZEN_MIG_SRC) (c.get F.ZEN_MIG_DST) c)
  rw [switchInstant_of_free hp hr hq]
  refine ⟨?_, ?_, ?_, ?_⟩
  · rw [countActive_get _ (by decide)]
    exact Chip.get_set_same _ F.ZEN_MIG_PHASE 0 (by decide)
  · rw [Chip.is, countActive_get _ (by decide), Chip.get_set_ne _ _ _ _ (by decide)]
    exact hevt
  · rw [countActive_get _ (by decide), Chip.get_set_ne _ _ _ _ (by decide), hcnt, laneSwitched_get _ _ _ _ rfl]
  · rw [countActive, Chip.rd_set_ne _ _ _ (by decide), Chip.rd_set_ne _ _ _ (by decide)]
    exact hlane

/-! ### The end of a pending BIST_RUN LANE (R670) -/

theorem pdone_get (op tag status detail : Nat) (c : Chip) {f : Fld} (h : f.addr ≠ 0x10 ∧ f.addr ≠ 0x19) :
    (pdone op tag status detail c).get f = c.get f := by
  obtain ⟨hevt, hdone⟩ := h
  have hset (d : Chip) (g : Fld) (v : Nat) (hg : g.addr = 0x19) : (d.set g v).get f = d.get f := Chip.get_set_ne d g f v (.inl (by rw [hg]; exact hdone))
  have hlost : (if c.ms.pdoneUnread then c.countSat F.DEV_PDONE_LOST 1 else c).get f = c.get f := by
    split
    · exact hset c _ _ rfl
    · rfl
  rw [pdone, Chip.evPendDone, Chip.get_evt_ne _ _ _ _ hevt]
  exact (hset _ _ _ rfl).trans ((hset _ _ _ rfl).trans ((hset _ _ _ rfl).trans ((hset _ _ _ rfl).trans hlost)))

theorem endLaneReq_get (res : Nat) (c : Chip) {f : Fld} (h : f.addr ≠ 0x10 ∧ f.addr ≠ 0x19 ∧ f.addr ≠ 0x120000) :
    (endLaneReq res c).get f = c.get f := by
  obtain ⟨hevt, hdone, hstat⟩ := h
  unfold endLaneReq
  split
  · rw [pdone_get _ _ _ _ _ ⟨hevt, hdone⟩, evBist_get _ hevt, Chip.get_raise_ne _ _ _ (.inl hstat), modBist_get]
  · rfl

/-! ### Migrations abandoned (R334) -/

theorem exec_migrationTimeout_of_going {s : State} (h : going s.chip = true) :
    exec .migrationTimeout s = .next (s.acted (migrationAbandoned s.chip)) := running_of_going h migrationAbandoned

theorem migrationAbandoned_get (hp : c.get F.ZEN_MIG_PHASE = 2) {f : Fld} (h : f.addr = 0x70001 ∨ f.addr = 0x70002) :
    (migrationAbandoned c).get f = (abandonMigration true c).get f := by
  rw [← endLaneReq_get 4 (abandonMigration true c) (f := f) (by omega)]
  simp only [migrationAbandoned, migrationTimeout, hp, if_true]
  split
  · exact modBist_get _ _ f
  · rfl

theorem abandonMigration_shows (c : Chip) :
    (abandonMigration true c).get F.ZEN_MIG_PHASE = 0 ∧ (abandonMigration true c).get F.ZEN_LMAP_SPARE = c.get F.ZEN_MIG_DST ∧
      (abandonMigration true c).get F.ZEN_MIG_MIGSKIP = min (c.get F.ZEN_MIG_MIGSKIP + 1) 255 := by
  simp only [abandonMigration, if_true]
  refine ⟨Chip.get_set_same _ F.ZEN_MIG_PHASE 0 (by decide), ?_, ?_⟩
  · rw [Chip.get_set_ne _ _ _ _ (by decide), Chip.get_countSat_ne _ _ _ _ (by decide), Chip.get_set_same _ _ _ (by decide)]
    exact Nat.mod_eq_of_lt (Word.field_lt _ 16 4)
  · rw [Chip.get_set_ne _ _ _ _ (by decide), Chip.get_countSat_same _ _ _ (by decide), Chip.get_set_ne _ _ _ _ (by decide),
      setLane_get _ _ _ _ (by simp only [F.ZEN_MIG_MIGSKIP]; omega)]
    rfl

/-! ### Lane tests (R336, R664, R669) -/

theorem exec_laneTestDone_of_going {s : State} (pass valid : Bool) (h : going s.chip = true) :
    exec (.laneTestDone pass valid) s = .next (s.acted (laneTestDone pass valid s.chip)) := running_of_going h (laneTestDone pass valid)

theorem laneTestDone_passed (hz : c.get F.ZEN_LMAP_TESTL ≠ 15) (hclk : clkOk c = true) (hv : vOk c = true) :
    laneTestDone true true c = endLaneReq 1 (laneTested true c).evBist := by
  simp only [laneTestDone, hz, hclk, hv, Bool.not_true, Bool.or_self, Bool.false_eq_true, if_false, if_true]

/-- A lane that fails is counted and reported, and its repair record is due. -/
def failureRecorded (z : Nat) (c : Chip) : Chip := ((c.countSat F.BST_STAT_OPFAIL 1).raise F.BST_STAT_FAIL).evBist.dueRepair ⟨5, z, 0, 0⟩

theorem laneTestDone_failed (hz : c.get F.ZEN_LMAP_TESTL ≠ 15) (hclk : clkOk c = true) (hv : vOk c = true) :
    laneTestDone false true c = endLaneReq 2 (failureRecorded (c.get F.ZEN_LMAP_TESTL) (laneTested false c)) := by
  simp only [laneTestDone, hz, hclk, hv, Bool.not_true, Bool.or_self, Bool.false_eq_true, if_false, failureRecorded]

/-- A test is invalid where it is said to be, or where its conditions do not hold (R664). -/
theorem laneTestDone_invalid {pass valid : Bool} (hz : c.get F.ZEN_LMAP_TESTL ≠ 15) (h : valid = false ∨ clkOk c = false ∨ vOk c = false) :
    laneTestDone pass valid c = endLaneReq 3 (laneTestInvalid c) := by
  have hinvalid : (!valid || !clkOk c || !vOk c) = true := by rcases h with h | h | h <;> simp [h]
  simp only [laneTestDone, hz, hinvalid, if_false, if_true]

theorem laneTested_passed (hz : c.get F.ZEN_LMAP_TESTL ≠ 15) :
    laneTested true c = ((setLane (c.get F.ZEN_LMAP_TESTL) 1 15 (c.set F.ZEN_LMAP_TESTL 15)).set F.ZEN_LMAP_SPARE
      (c.get F.ZEN_LMAP_TESTL)).countMod (F.ZEN_LANE_STAT_TESTS (c.get F.ZEN_LMAP_TESTL)) 1 := by
  simp only [laneTested, hz, if_false, if_true]

theorem laneTested_failed (hz : c.get F.ZEN_LMAP_TESTL ≠ 15) :
    laneTested false c =
      (((setLane (c.get F.ZEN_LMAP_TESTL) 4 15 (c.set F.ZEN_LMAP_TESTL 15)).raise F.ZEN_STAT_NOSPARE).raise F.ZEN_STAT_LANEEVT).evLane := by
  simp only [laneTested, hz, if_false, Bool.false_eq_true]

theorem laneTested_passed_shows (hz : c.get F.ZEN_LMAP_TESTL ≠ 15) :
    (laneTested true c).get F.ZEN_LMAP_TESTL = 15 ∧ (laneTested true c).get F.ZEN_LMAP_SPARE = c.get F.ZEN_LMAP_TESTL ∧
      (laneTested true c).get (F.ZEN_LANE_STAT_STATE (c.get F.ZEN_LMAP_TESTL)) = 1 := by
  rw [laneTested_passed hz]
  generalize hlane : c.get F.ZEN_LMAP_TESTL = z
  have hz16 : z < 16 := hlane ▸ Word.field_lt _ 32 4
  have hmap (d : Chip) {f : Fld} (hf : f.addr = 0x70001) : (d.countMod (F.ZEN_LANE_STAT_TESTS z) 1).get f = d.get f :=
    Chip.get_countMod_ne _ _ _ _ (.inl (by simp only [F.ZEN_LANE_STAT_TESTS]; omega))
  refine ⟨?_, ?_, ?_⟩
  · rw [hmap _ rfl, Chip.get_set_ne _ _ _ _ (by decide), setLane_get _ _ _ _ (by simp only [F.ZEN_LMAP_TESTL]; omega)]
    exact Chip.get_set_same c F.ZEN_LMAP_TESTL 15 (by decide)
  · rw [hmap _ rfl, Chip.get_set_same _ _ _ (by decide)]
    exact Nat.mod_eq_of_lt hz16
  · rw [Chip.get_countMod_ne _ _ _ _ (by simp [F.ZEN_LANE_STAT_STATE, F.ZEN_LANE_STAT_TESTS]),
      Chip.get_set_ne _ _ _ _ (.inl (by simp only [F.ZEN_LANE_STAT_STATE, F.ZEN_LMAP_SPARE]; omega))]
    exact setLane_state z 15 _ (by decide)

theorem laneTested_failed_shows (hz : c.get F.ZEN_LMAP_TESTL ≠ 15) :
    (laneTested false c).get (F.ZEN_LANE_STAT_STATE (c.get F.ZEN_LMAP_TESTL)) = 4 ∧ (laneTested false c).is F.ZEN_STAT_NOSPARE = true := by
  rw [laneTested_failed hz]
  generalize c.get F.ZEN_LMAP_TESTL = z
  constructor
  · rw [evLane_get _ (by simp only [F.ZEN_LANE_STAT_STATE]; omega),
      Chip.get_raise_ne _ _ _ (.inl (by simp only [F.ZEN_LANE_STAT_STATE, F.ZEN_STAT_LANEEVT]; omega)),
      Chip.get_raise_ne _ _ _ (.inl (by simp only [F.ZEN_LANE_STAT_STATE, F.ZEN_STAT_NOSPARE]; omega))]
    exact setLane_state z 15 _ (by decide)
  · rw [Chip.is, evLane_get _ (by decide), Chip.get_raise_ne _ _ _ (by decide)]
    exact Chip.is_raise_same _ F.ZEN_STAT_NOSPARE rfl (by decide)

/-- Self-test's own words and records stand beside what a lane's failure changes. -/
theorem laneTested_failed_get (hz : c.get F.ZEN_LMAP_TESTL ≠ 15) {f : Fld} (h : f.addr = 0x120000) : (laneTested false c).get f = c.get f := by
  have hlane : c.get F.ZEN_LMAP_TESTL < 16 := Word.field_lt _ 32 4
  rw [laneTested_failed hz, evLane_get _ (by omega), Chip.get_raise_ne _ _ _ (.inl (by rw [h]; decide)),
    Chip.get_raise_ne _ _ _ (.inl (by rw [h]; decide)), setLane_get _ _ _ _ (by omega), Chip.get_set_ne _ _ _ _ (.inl (by rw [h]; decide))]

theorem laneTested_failed_repairs (hz : c.get F.ZEN_LMAP_TESTL ≠ 15) : (laneTested false c).repairs = c.repairs := by
  rw [laneTested_failed hz, Chip.evLane, Chip.evt_repairs, Chip.raise_repairs, Chip.raise_repairs, setLane, Chip.set_repairs, Chip.set_repairs,
    Chip.set_repairs]

theorem failureRecorded_shows (z : Nat) (c : Chip) :
    (failureRecorded z c).is F.BST_STAT_FAIL = true ∧ (failureRecorded z c).get F.BST_STAT_OPFAIL = min (c.get F.BST_STAT_OPFAIL + 1) 255 ∧
      (failureRecorded z c).repairs = c.repairs ++ [⟨5, z, 0, 0⟩] := by
  refine ⟨?_, ?_, rfl⟩
  · rw [failureRecorded, Chip.is, dueRepair_get, evBist_get _ (by decide)]
    exact Chip.is_raise_same _ F.BST_STAT_FAIL rfl (by decide)
  · rw [failureRecorded, dueRepair_get, evBist_get _ (by decide), Chip.get_raise_ne _ _ _ (by decide)]
    exact Chip.get_countSat_same c F.BST_STAT_OPFAIL 1 (by decide)

/-! ### The scheduler (R668) -/

theorem exec_bistSchedulerTick_of_going {s : State} (h : going s.chip = true) :
    exec .bistSchedulerTick s = .next (s.acted (schedulerTick s.chip)) := running_of_going h schedulerTick

theorem schedulerTick_of_due {j : Nat} (hm : runMode c.mode = true) (hs : (spareLane c).isSome = true) (he : c.is F.BST_OPCFG_EN = true)
    (hp : c.get F.ZEN_MIG_PHASE = 0) (hz : c.get F.ZEN_LMAP_TESTL = 15) (hj : nextTestLane c = some j) :
    schedulerTick c = requestMigration j true (modBist (fun b => { b with lastLane := j }) c) := by
  have hspare : (spareLane c).isNone = false := by rw [← Option.not_isSome, hs]; rfl
  simp only [schedulerTick, he, hm, hp, hz, hspare, hj, Bool.not_true, bne_self_eq_false, Bool.or_self, Bool.false_eq_true, if_false]

/-! ### Pulse meters (R372) -/

theorem exec_pulseMeterEdge_of_going {s : State} (u : Fin 2) (high period : Nat) (h : going s.chip = true) :
    exec (.pulseMeterEdge u high period) s = .next (s.acted (pulseEdge u high period s.chip)) := running_of_going h (pulseEdge u high period)

theorem pulseEdge_of_short {high period : Nat} (u : Nat) (h : high < 50 ∨ period < high + 50) : pulseEdge u high period c = c := by
  rw [pulseEdge, if_neg]
  simp only [Bool.and_eq_true, decide_eq_true_eq]
  omega

/-- Pulse meter u holds a period with its high time, and the instant of the edge that ends it. -/
def pulseHeld (u high period : Nat) (c : Chip) : Chip :=
  { c with zen := { c.zen with meters := c.zen.meters.modify u (fun m =>
      { edges := min 2 (m.edges + 1), high := high / 5 * 5, period := period / 5 * 5, edgeAt := c.now }) } }

theorem pulseEdge_of_period {u high period : Nat} (hm : runMode c.mode = true) (hu : pulseUsed c u = true) (hh : 50 ≤ high)
    (hp : high + 50 ≤ period) : pulseEdge u high period c = pulseHeld u high period c := by
  simp only [pulseEdge, hm, hu, hh, hp, decide_true, Bool.and_self, if_true, pulseHeld]

theorem sameWords_pulseHeld (u high period : Nat) (c : Chip) : sameWords c (pulseHeld u high period c) := sameBut_refl [] c

end

/-- Settles O50: each event is brought to the branch of the model that its premises choose, and each word it shows is read past the updates beside it. -/
theorem lanesMigrateAndAreTested : Obligations.LanesMigrateAndAreTested := by
  unfold Obligations.LanesMigrateAndAreTested
  refine ⟨fun j d z b c hs hz hp hm hd hz9 => ?_, fun j b c hs => ?_, fun s hg hp => ⟨_, exec_migrationCopyDone_of_going hg, ?_⟩,
    fun s hg hp hr hq => ⟨_, exec_switchInstant_of_going hg, switchInstant_shows hp hr hq⟩,
    fun s hg hp => ⟨_, exec_migrationTimeout_of_going hg, ?_⟩,
    fun s hg hz hclk hv => ⟨(laneTested true s.chip).evBist, ?_, beq_iff_eq.mpr (Chip.evt_field _ 0 9 (by decide)),
      sameBut_wr _ (List.mem_singleton_self _) (sameBut_refl _ _)⟩,
    fun s p v hg hz h => ?_, fun s hg hz hclk hv => ⟨failureRecorded (s.chip.get F.ZEN_LMAP_TESTL) (laneTested false s.chip), ?_, ?_⟩, fun c hz => ?_,
    fun s j hg hm hs he hp hz hj => ?_, fun s u h p hg hshort => ?_,
    fun s u h p hg hm hu hh hp => ⟨pulseHeld u h p s.chip, ?_, sameWords_pulseHeld u h p s.chip, rfl⟩⟩
  · simp only [Chip.get_of_regs (requestMigration_of_idle b hs hz hp hm)]
    obtain ⟨hphase, hsrc, hdst⟩ := migrationBegun_shows j z d c
    exact ⟨hphase, hsrc.trans (Nat.mod_eq_of_lt (by omega)), hdst.trans (Nat.mod_eq_of_lt (by omega)), migrationBegun_spare j z d c,
      requestMigration_migBist b hs hz hp hm⟩
  · rw [requestMigration_of_no_spare j b hs]
    exact ⟨Chip.is_raise_same c _ rfl (by decide), sameBut_set 1 (List.mem_singleton_self _) (sameBut_refl _ c)⟩
  · rw [migrationCopyDone_of_copying hp]
    exact ⟨Chip.get_set_same _ F.ZEN_MIG_PHASE 2 (by decide),
      fun a ha => (Chip.rd_set_ne _ _ _ ha).trans (laneCopied_keeps (Chip.rd · a) (fun _ _ => rfl) s.chip),
      laneCopied_keeps Chip.zmem (fun _ _ => rfl) s.chip, laneCopied_keeps Chip.store (fun _ _ => rfl) s.chip⟩
  · rw [migrationAbandoned_get hp (.inr rfl), migrationAbandoned_get hp (.inl rfl), migrationAbandoned_get hp (.inr rfl)]
    exact abandonMigration_shows s.chip
  · rw [exec_laneTestDone_of_going true true hg, laneTestDone_passed hz hclk hv]
  · rw [exec_laneTestDone_of_going p v hg, laneTestDone_invalid hz h]
  · rw [exec_laneTestDone_of_going false true hg, laneTestDone_failed hz hclk hv]
  · rw [← laneTested_failed_get hz (f := F.BST_STAT_OPFAIL) rfl, ← laneTested_failed_repairs hz]
    exact failureRecorded_shows _ _
  · have hne : c.get F.ZEN_LMAP_TESTL ≠ 15 := by omega
    obtain ⟨htestl, hspare, hstate⟩ := laneTested_passed_shows hne
    exact ⟨htestl, hspare, hstate, laneTested_failed_shows hne⟩
  · rw [exec_bistSchedulerTick_of_going hg, schedulerTick_of_due hm hs he hp hz hj]
  · rw [exec_pulseMeterEdge_of_going u h p hg, pulseEdge_of_short u hshort]
  · rw [exec_pulseMeterEdge_of_going u h p hg, pulseEdge_of_period hm hu hh hp]

end Sys2Proof.Machine
end

section
/-! SUPPORT. The proofs of the STO outputs (15_rind_safety_island, R492): what their safety rests on, and the commands that leave all of it alone. -/

namespace Sys2Proof.Machine

/-! ### What the safety of the STO outputs rests on -/

/-- The words that R492 judges: the mode, Rind's indications, the active demands and its faults, the safe states and the safety functions. -/
def stoWords : List Nat :=
  [0x8, 0xC0000, 0xC0001, 0xC0002] ++ (List.range 4).map (fun a => (F.PRT_SST_STATE a).addr) ++ (List.range 8).map (fun f => (F.SIN_F_STAT_LATCH f).addr)

/-- Everything on which the safety of the STO outputs rests. -/
def stoView (c : Chip) : Sto × Rind × Prot × Bool × Bool × List Word := (c.sto, c.rind, c.prot, c.clk.soscStopped, c.clk.hold, stoWords.map c.rd)

theorem rd_of_stoView {c d : Chip} (h : stoView d = stoView c) {a : Nat} (ha : a ∈ stoWords) : d.rd a = c.rd a := by
  simp only [stoView, Prod.mk.injEq] at h
  exact List.map_inj_left.mp h.2.2.2.2.2 a ha

theorem is_of_stoView {c d : Chip} (h : stoView d = stoView c) {f : Fld} (hf : f.addr ∈ stoWords) : d.is f = c.is f := by
  simp only [Chip.is, Chip.get, rd_of_stoView h hf]

theorem mode_of_stoView {c d : Chip} (h : stoView d = stoView c) : d.mode = c.mode := by
  rw [Chip.mode_eq, Chip.mode_eq, rd_of_stoView h (by decide)]

theorem anyAsc_of_stoView {c d : Chip} (h : stoView d = stoView c) : anyAsc d = anyAsc c := by
  simp (disch := decide) only [anyAsc, ascOn, Chip.get, show List.range 4 = [0, 1, 2, 3] from rfl, List.any_cons, List.any_nil, rd_of_stoView h]

theorem demandHolds_of_stoView {c d : Chip} (h : stoView d = stoView c) : demandHolds d = demandHolds c := by
  have hrind : d.rind = c.rind := congrArg (fun v => v.2.1) h
  have hpf : ∀ f, d.pf f = c.pf f := fun f => by simp only [Chip.pf, hrind]
  have hdemand := rd_of_stoView h (a := 0xC0001) (by decide)
  have hsin : sinSs1 d = sinSs1 c := by
    simp (disch := decide) only [sinSs1, fnSs1, defaultSs1, hpf, show List.range 8 = [0, 1, 2, 3, 4, 5, 6, 7] from rfl, List.all_cons, List.all_nil,
      is_of_stoView h]
  have hkind : demandKind d = demandKind c := by simp only [demandKind, hdemand, hsin]
  have hdefer : ∀ k, deferrable d k = deferrable c k := fun k => by simp only [deferrable, Chip.pb, hpf]
  simp only [demandHolds, hkind, hdemand, hdefer, anyAsc_of_stoView h, is_of_stoView h (f := F.SAF_STAT_SS1RUN) (by decide)]

theorem stoSafe_of_stoView {c d : Chip} (h : stoView d = stoView c) : stoSafe d = stoSafe c := by
  have hsto : d.sto = c.sto := congrArg (fun v => v.1) h
  have hrind : d.rind = c.rind := congrArg (fun v => v.2.1) h
  have hprot : d.prot = c.prot := congrArg (fun v => v.2.2.1) h
  have hsosc : d.clk.soscStopped = c.clk.soscStopped := congrArg (fun v => v.2.2.2.1) h
  have hhold : d.clk.hold = c.clk.hold := congrArg (fun v => v.2.2.2.2.1) h
  have hmain : mainReleases d = mainReleases c := by
    simp only [mainReleases, mode_of_stoView h, hprot, is_of_stoView h (f := F.DEV_MODE_HOLD) (by decide)]
  simp (disch := decide) only [stoSafe, stoMayBeHigh, rindFaulted, hsto, hrind, hsosc, hhold, hmain, demandHolds_of_stoView h, is_of_stoView h,
    rd_of_stoView h]

/-! ### Updates beside it -/

theorem stoView_wr {a : Nat} (c : Chip) (w : Word) (ha : a ∉ stoWords) : stoView (c.wr a w) = stoView c := by
  have hw : stoWords.map (c.wr a w).rd = stoWords.map c.rd :=
    List.map_congr_left fun b hb => Chip.rd_wr_ne c w fun e => ha (e ▸ hb)
  simp only [stoView, hw, Chip.wr_sto, Chip.wr_rind, Chip.wr_prot, Chip.wr_clk]

theorem stoView_set {f : Fld} (c : Chip) (v : Nat) (hf : f.addr ∉ stoWords) : stoView (c.set f v) = stoView c := stoView_wr c _ hf

theorem stoView_occur (c : Chip) (e : Nat) (i : Option Nat) (d : Word) : stoView (c.occur e i d) = stoView c :=
  Chip.occur_keeps stoView (fun _ _ => rfl) c e i d

theorem stoView_heard (op : Nat) (c : Chip) : stoView (heard op c) = stoView c := stoView_occur _ _ _ _

theorem stoView_answer (op : Nat) (q : Req) (r : List Word × Chip) : stoView (answer op q r) = stoView r.2 := by
  obtain ⟨l, h⟩ := answer_eq op q r
  rw [h]
  rfl

theorem stoView_overrun (c : Chip) : stoView (overrun c) = stoView c :=
  (stoView_wr _ _ (by decide)).trans (stoView_set c _ (by decide))

/-- No word of R492 is cleared by a read. -/
theorem accMask_rc_of_stoWords : ∀ a ∈ stoWords, accMask a .rc = 0 := by decide

theorem stoView_rcCleared (a : Nat) (c : Chip) : stoView (rcCleared a c) = stoView c := by
  unfold rcCleared
  split
  next => rfl
  next h => exact stoView_wr c _ fun ha => h (accMask_rc_of_stoWords a ha)

theorem ncap_ctl_not_mem_stoWords {n : Nat} (hn : n < 16) : (F.NWT_NCAPn_CTL_VALID n).addr ∉ stoWords := by
  revert hn n
  decide

theorem stoView_clearRc (a : Nat) (c : Chip) : stoView (clearRc a c) = stoView c := by
  simp only [clearRc, ← rcCleared_def]
  rw [← stoView_rcCleared a c]
  split_ifs
  · rfl
  · rfl
  · exact stoView_set _ _ (ncap_ctl_not_mem_stoWords (by omega))
  · rfl

theorem stoView_readAll (l : List Nat) (c : Chip) : stoView (readAll l c).2 = stoView c :=
  foldl_inv (fun x : List Word × Chip => stoView x.2) _ (fun x a => stoView_clearRc a x.2) l ([], c)

theorem stoView_readLatched (a : Nat) (c : Chip) : stoView (readLatched a c).2 = stoView c := by
  obtain ⟨l, hl⟩ := readLatched_chip a c
  rw [hl]
  exact stoView_clearRc a c

/-- A refusal leaves the chip, so a handler leaves what it leaves when nothing is refused. -/
theorem stoView_orRefuse (w : Option Word) {c : Chip} {k : List Word × Chip} (h : stoView k.2 = stoView c) : stoView (orRefuse w c k).2 = stoView c := by
  cases w with
  | none => exact h
  | some x => rfl

theorem stoView_ping (q : Req) (c : Chip) : stoView (ping q c).2 = stoView c := stoView_orRefuse _ rfl

theorem stoView_modeStatus (q : Req) (c : Chip) : stoView (modeStatus q c).2 = stoView c := stoView_orRefuse _ rfl

theorem stoView_readOp (q : Req) (c : Chip) : stoView (readOp q c).2 = stoView c := by
  simp only [readOp]
  split
  · rfl
  · exact stoView_orRefuse _ (stoView_readLatched _ c)

theorem stoView_readBlock (q : Req) (c : Chip) : stoView (readBlock q c).2 = stoView c := by
  simp only [readBlock]
  split_ifs
  · rfl
  · rfl
  · exact stoView_orRefuse _ (stoView_readAll _ c)

/-- A request served in hardware leaves what its handler leaves. -/
theorem stoView_receive (op : Nat) {f : Handler} (hf : ∀ q c, stoView (f q c).2 = stoView c) (q : Req) (c : Chip) :
    stoView (receive op f q c) = stoView c := by
  unfold receive
  split_ifs
  · rw [stoView_overrun, stoView_heard]
  · unfold serve
    split
    · exact stoView_heard op c
    · rw [stoView_answer, hf, stoView_heard]
  · rfl

/-! ### Commands that nothing follows -/

theorem stoView_wordLock (c : Chip) : stoView (wordLock c) = stoView c := by
  unfold wordLock
  split
  · rfl
  · exact stoView_set c 1 (by decide)

theorem stoView_crcFailed (op : Nat) (c : Chip) : stoView (crcFailed op c) = stoView c := by
  rw [crcFailed, Chip.countSat, stoView_set _ _ (by decide)]
  exact stoView_occur c _ _ _

theorem stoView_sendReply (op tag hdr : Nat) (payload : List Word) (c : Chip) : stoView (sendReply op tag hdr payload c) = stoView c := rfl

theorem stoView_badCrc (op : Nat) (q : Req) (computed : BitVec 32) (c : Chip) : stoView (badCrc op q computed c) = stoView c := by
  cases h : listening q c with
  | false => simp only [badCrc, h, Bool.false_eq_true, if_false]
  | true =>
    rw [badCrc_of_listening computed h, stoView_sendReply, stoView_crcFailed]

theorem stoView_linkOverrun (c : Chip) : stoView (linkOverrun c) = stoView c := by
  unfold linkOverrun
  split
  · rfl
  · exact stoView_overrun c

theorem stoView_tracePacketSent (c : Chip) : stoView (tracePacketSent c) = stoView c := by
  simp only [tracePacketSent]
  split_ifs <;> rfl

theorem stoView_wheySync (c : Chip) : stoView (wheySync c) = stoView c := by
  unfold wheySync Chip.queueSync
  split_ifs <;> rfl

/-- A command's next state is the one that everything follows, or its effect alone, which then leaves everything on which the STO outputs rest. -/
theorem exec_acted_or_keeps_stoView (i : Instr) (s : State) :
    (∃ d : Chip, exec i s = .next (s.acted d)) ∨ ∃ d : Chip, exec i s = .next (s.still d) ∧ stoView d = stoView s.chip := by
  cases i with
  | wordLock => exact .inr ⟨_, rfl, stoView_wordLock s.chip⟩
  | badCrc op q computed => exact .inr ⟨_, rfl, stoView_badCrc op.toNat q computed s.chip⟩
  | linkOvr => exact .inr ⟨_, rfl, stoView_linkOverrun s.chip⟩
  | ping q => exact .inr ⟨_, rfl, stoView_receive 0x01 stoView_ping q s.chip⟩
  | read q => exact .inr ⟨_, rfl, stoView_receive 0x02 stoView_readOp q s.chip⟩
  | readBlock q => exact .inr ⟨_, rfl, stoView_receive 0x04 stoView_readBlock q s.chip⟩
  | modeStatus q => exact .inr ⟨_, rfl, stoView_receive 0x11 stoView_modeStatus q s.chip⟩
  | tracePacketSent => exact .inr ⟨_, rfl, stoView_tracePacketSent s.chip⟩
  | wheySync => exact .inr ⟨_, rfl, stoView_wheySync s.chip⟩
  | vioPadHold below => exact .inr ⟨_, rfl, rfl⟩
  | _ => exact .inl ⟨_, rfl⟩

/-! ### Every step -/

/-- Everything that follows of itself ends with the settling of the STO request, after which the outputs are safe. -/
theorem after_stoSafe (before c : Chip) : stoSafe (after before c) = true := rindSettle_safe _

theorem exec_stoSafe {i : Instr} {s t : State} (hs : stoSafe s.chip = true) (h : exec i s = .next t) : stoSafe t.chip = true := by
  rcases exec_acted_or_keeps_stoView i s with ⟨d, hd⟩ | ⟨d, hd, hv⟩
  · obtain rfl : s.acted d = t := Host.Outcome.next.inj (hd.symm.trans h)
    exact after_stoSafe s.chip d
  · obtain rfl : s.still d = t := Host.Outcome.next.inj (hd.symm.trans h)
    exact (stoSafe_of_stoView hv).trans hs

/-- Settles O5: a step ends with the settling of the STO request, or its command leaves alone all that their safety rests on. -/
theorem stoStaysSafe : Obligations.StoStaysSafe := by
  intro s t hs h
  cases hp : s.pending with
  | nil =>
    obtain rfl : s.acted (idleChip s.chip) = t := Host.Outcome.next.inj ((step_of_idle hp).symm.trans h)
    exact after_stoSafe s.chip _
  | cons i rest => exact exec_stoSafe (s := { s with pending := rest }) hs ((step_of_command hp).symm.trans h)

/-- Settles O6: the request stands at reset and every ball is low, evaluated on the reset state. -/
theorem stoIsAssertedAtReset : Obligations.StoIsAssertedAtReset := by
  unfold Obligations.StoIsAssertedAtReset
  decide

end Sys2Proof.Machine
end

section
/-! SUPPORT. What the outputs of an axis, its tracker and its timebases leave alone when they change: the sequencers, the engine and every word beside those
of the trackers, the sample sets, the captures, the events and the PWM generator. -/

namespace Sys2Proof.Machine

theorem Chip.forEach_keeps_of_mem {α β : Type} (p : Chip → α) {f : β → Chip → Chip} {l : List β} (h : ∀ x ∈ l, ∀ c, p (f x c) = p c) (c : Chip) :
    p (c.forEach l f) = p c := by
  induction l generalizing c with
  | nil => rfl
  | cons x l ih =>
    rw [← h x List.mem_cons_self c]
    exact ih (fun y hy => h y (List.mem_cons_of_mem x hy)) (f x c)

/-! ### The view -/

/-- The words that neither outputs nor timebases nor followers of a tracker touch: those of the device's state, the offsets of the trackers, and all from
gate-drive supervision on. -/
def axisWord (a : Nat) : Bool := decide (a < 0x10 ∨ 0x60000 ≤ a ∨ (0x30000 ≤ a ∧ a < 0x30200 ∧ a % 0x20 = 3))

/-- What is left when outputs, timebases and followers of a tracker change. -/
def axesView (c : Chip) : Chip × (Nat → Word) :=
  ({ c with regs := [], obs := {}, notices := [], pwmG := [], pwmL := [], adc := {}, clk := {}, trackers := [], kerfs := [], fine := 0 },
    fun a => if axisWord a then c.rd a else 0)

section
variable {c d : Chip} (h : axesView d = axesView c)
include h

theorem rd_of_axesView {a : Nat} (ha : axisWord a = true) : d.rd a = c.rd a := by
  have hrd := congrFun (congrArg Prod.snd h) a
  simpa only [axesView, ha, if_true] using hrd

theorem get_of_axesView {f : Fld} (ha : axisWord f.addr = true) : d.get f = c.get f := by
  simp only [Chip.get, rd_of_axesView h ha]

theorem is_of_axesView {f : Fld} (ha : axisWord f.addr = true) : d.is f = c.is f := by
  simp only [Chip.is, get_of_axesView h ha]

theorem zen_of_axesView : d.zen = c.zen := congrArg (fun v => v.1.zen) h

end

/-! ### Updates beside it -/

theorem axesView_wr {a : Nat} (c : Chip) (w : Word) (ha : axisWord a = false) : axesView (c.wr a w) = axesView c := by
  refine Prod.ext rfl (funext fun b => ?_)
  by_cases hb : axisWord b = true
  · simp only [axesView, hb, if_true]
    exact Chip.rd_wr_ne c w fun e => by rw [e, ha] at hb; exact absurd hb (by decide)
  · simp only [axesView, hb, Bool.false_eq_true, if_false]

section
variable {f : Fld} (c : Chip) (hf : axisWord f.addr = false)
include hf

theorem axesView_set (v : Nat) : axesView (c.set f v) = axesView c := axesView_wr c _ hf
theorem axesView_setb (b : Bool) : axesView (c.setb f b) = axesView c := axesView_wr c _ hf
theorem axesView_seti (z : Int) : axesView (c.seti f z) = axesView c := axesView_wr c _ hf
theorem axesView_raise : axesView (c.raise f) = axesView c := axesView_wr c _ hf
theorem axesView_countSat (n : Nat) : axesView (c.countSat f n) = axesView c := axesView_wr c _ hf
theorem axesView_setBit (k : Nat) (b : Bool) : axesView (c.setBit f k b) = axesView c := axesView_wr c _ hf

end

theorem axesView_evt (c : Chip) (n k : Nat) (hn : n < 4) : axesView (c.evt n k) = axesView c := by
  refine axesView_wr c _ ?_
  simp only [axisWord, decide_eq_false_iff_not]
  omega

theorem axesView_occur (c : Chip) (e : Nat) (i : Option Nat) (d : Word) : axesView (c.occur e i d) = axesView c :=
  Chip.occur_keeps axesView (fun _ _ => rfl) c e i d

theorem axesView_modPwmg (c : Chip) (g : Nat) (f : PwmGroup → PwmGroup) : axesView (c.modPwmg g f) = axesView c := rfl
theorem axesView_modLeg (c : Chip) (n : Nat) (f : PwmLeg → PwmLeg) : axesView (c.modLeg n f) = axesView c := rfl

/-- A loop over a list leaves the view that each of its passes leaves. -/
theorem axesView_forEach {β : Type} {f : β → Chip → Chip} {l : List β} (h : ∀ x ∈ l, ∀ c, axesView (f x c) = axesView c) (c : Chip) :
    axesView (c.forEach l f) = axesView c := Chip.forEach_keeps_of_mem axesView h c

/-! ### Legs and groups -/

theorem legsOf_le {g n : Nat} (hg : g ≤ 6) (hn : n ∈ legsOf g) : n ≤ 20 := by
  unfold legsOf at hn
  split at hn <;> simp only [List.mem_cons, List.not_mem_nil, or_false] at hn <;> omega

theorem groupOf_le (n : Nat) : groupOf n ≤ 6 := by
  unfold groupOf
  split <;> omega

/-- The words of the PWM generator are none of the view. -/
theorem axisWord_pwm {a : Nat} (h : 0x50000 ≤ a ∧ a < 0x60000) : axisWord a = false := by
  simp only [axisWord, decide_eq_false_iff_not]
  omega

/-- The words of the events, the captures and the sample sets are none of the view. -/
theorem axisWord_event {a : Nat} (h : 0x10 ≤ a ∧ a < 0x30000 ∨ 0x40000 ≤ a ∧ a < 0x50000) : axisWord a = false := by
  simp only [axisWord, decide_eq_false_iff_not]
  omega

/-! ### A restart of a timebase (R237, R245, R249) -/

theorem axesView_triggerSet {k : Nat} (c : Chip) (hk : k < 16) : axesView (triggerSet k c) = axesView c := by
  simp only [triggerSet]
  split
  · split
    · split
      · rfl
      · exact (axesView_occur _ _ _ _).trans (axesView_countSat _ (axisWord_event (by simp only [F.ADC_SET_STAT_TRGDROP]; omega)) _)
    · rfl
  · rfl

theorem axesView_triggerSource (src : Nat) (c : Chip) : axesView (triggerSource src c) = axesView c := by
  refine Chip.forN_keeps_below axesView (fun k hk c => ?_) c
  split
  · exact axesView_triggerSet c hk
  · rfl

theorem axesView_captureUnit (src : Nat) (r : Bool) {n : Nat} (c : Chip) (hn : n < 16) : axesView (captureUnit src r n c) = axesView c := by
  have hctl : axisWord (F.NWT_NCAPn_CTL n) = false := axisWord_event (by simp only [F.NWT_NCAPn_CTL]; omega)
  have hval : axisWord (F.NWT_NCAPn_VAL n) = false := axisWord_event (by simp only [F.NWT_NCAPn_VAL]; omega)
  have hovr (d : Chip) : axesView (d.raise (F.NWT_NCAPn_CTL_OVR n)) = axesView d := axesView_raise d hctl
  have hvalid (d : Chip) : axesView (d.raise (F.NWT_NCAPn_CTL_VALID n)) = axesView d := axesView_raise d hctl
  simp only [captureUnit]
  split_ifs <;> simp only [hvalid, hovr, axesView_wr _ _ hval]

theorem axesView_captureAt (src : Nat) (r : Bool) (c : Chip) : axesView (c.captureAt src r) = axesView c :=
  Chip.forN_keeps_below axesView (fun _ hn c => axesView_captureUnit src r c hn) c

theorem axesView_computeWindows (g : Nat) (c : Chip) : axesView (computeWindows g c) = axesView c := by
  refine axesView_forEach (fun _ _ _ => ?_) c
  rfl

theorem axesView_setCut (n : Nat) (c : Chip) : axesView (setCut n c) = axesView c := by
  have hg := groupOf_le n
  unfold setCut
  split
  · rfl
  · rw [axesView_occur, axesView_countSat _ (axisWord_pwm (by simp only [F.PWM_G_CNT_CUTCNT]; omega)),
      axesView_raise _ (axisWord_pwm (by simp only [F.PWM_G_STAT_CUT]; omega)), axesView_modLeg]

theorem axesView_evalCuts (legs : List Nat) (c : Chip) : axesView (evalCuts legs c) = axesView c := by
  refine axesView_forEach (fun n _ c => ?_) c
  split
  · exact axesView_setCut n c
  · rfl

theorem axesView_releaseCuts (g : Nat) (c : Chip) : axesView (releaseCuts g c) = axesView c :=
  (axesView_evalCuts _ _).trans (axesView_forEach (f := fun n c => c.modLeg n fun l => { l with cut := false }) (fun _ _ _ => rfl) c)

theorem axesView_insertRefresh (n : Nat) (c : Chip) : axesView (insertRefresh n c) = axesView c := by
  have hg := groupOf_le n
  unfold insertRefresh
  split
  · rw [axesView_countSat _ (axisWord_pwm (by simp only [F.PWM_G_CNT_BSCNT]; omega)),
      axesView_raise _ (axisWord_pwm (by simp only [F.PWM_G_STAT_BSINS]; omega)), axesView_modLeg]
  · rfl

theorem axesView_commandGroup (g p : Nat) (c : Chip) : axesView (commandGroup g p c) = axesView c := by
  refine axesView_forEach (fun _ _ _ => ?_) c
  rfl

section
variable {g : Nat} (hg : g ≤ 6)
include hg

theorem axesView_markXcskip (c : Chip) : axesView (markXcskip g c) = axesView c := by
  unfold markXcskip
  split
  · exact axesView_raise _ (axisWord_pwm (by simp only [F.PWM_G_STAT_XCSKIP]; omega))
  · rfl

theorem axesView_openPeriod (t : BitVec 72) (c : Chip) : axesView (openPeriod g t c) = axesView c := by
  have hfine (d : Chip) (k : Nat) : axesView { d with fine := k } = axesView d := rfl
  have hclk (d : Chip) (k : Clk) : axesView { d with clk := k } = axesView d := rfl
  have hrefresh (d : Chip) :
      axesView (d.forEach (legsOf g) (fun n c => insertRefresh n (c.modLeg n (fun l => { l with refresh := false })))) = axesView d := by
    refine axesView_forEach (fun n _ c => ?_) d
    exact axesView_insertRefresh n _
  simp only [openPeriod]
  split_ifs <;> simp only [axesView_captureAt, axesView_triggerSource, axesView_commandGroup, hrefresh, axesView_modPwmg, hclk, axesView_releaseCuts,
    hfine, axesView_markXcskip hg, axesView_computeWindows]

theorem axesView_takeLeg (q : PwmGroup) (s : PwmSet) (p : Nat) {n : Nat} (hn : n ∈ legsOf g) (cb : Chip × Bool) :
    axesView (takeLeg q s p n cb).1 = axesView cb.1 := by
  have hle := legsOf_le hg hn
  have hduty : axisWord (F.PWM_L_LDUTY n) = false := axisWord_pwm (by simp only [F.PWM_L_LDUTY]; omega)
  have hshift : axisWord (F.PWM_L_LSHIFT n) = false := axisWord_pwm (by simp only [F.PWM_L_LSHIFT]; omega)
  have hlmode (d : Chip) (v : Nat) : axesView (d.set (F.PWM_L_LDUTY_LMODE n) v) = axesView d := axesView_set d hduty v
  have hset (d : Chip) (v : Nat) : axesView (d.set (F.PWM_L_LDUTY_DUTY n) v) = axesView d := axesView_set d hduty v
  obtain ⟨c, b⟩ := cb
  simp only [takeLeg]
  rw [axesView_seti _ hshift]
  cases s.duty.getD (legPos n) none with
  | none => dsimp only; split <;> simp only [hset]
  | some w => dsimp only; split <;> simp only [hset, hlmode]

theorem axesView_dutyClamp (c : Chip) : axesView (dutyClamp g c) = axesView c := by
  rw [dutyClamp, axesView_occur, Chip.evPwmWarn, axesView_evt _ _ _ (by decide),
    axesView_countSat _ (axisWord_pwm (by simp only [F.PWM_G_CNT_CLAMPCNT]; omega)),
    axesView_raise _ (axisWord_pwm (by simp only [F.PWM_G_STAT_DUTY_CLAMP]; omega))]

theorem axesView_takeSet (mid : Bool) (c : Chip) : axesView (takeSet g mid c) = axesView c := by
  have hlegs (q : PwmGroup) (s : PwmSet) (p : Nat) (l : List Nat) (hl : ∀ n ∈ l, n ∈ legsOf g) (cb : Chip × Bool) :
      axesView (l.foldl (fun cb n => takeLeg q s p n cb) cb).1 = axesView cb.1 := by
    induction l generalizing cb with
    | nil => rfl
    | cons n l ih =>
      rw [← axesView_takeLeg hg q s p (hl n List.mem_cons_self) cb]
      exact ih (fun m hm => hl m (List.mem_cons_of_mem n hm)) _
  have hclamp (b : Bool) (d : Chip) : axesView (if b then dutyClamp g d else d) = axesView d := by
    split
    · exact axesView_dutyClamp hg d
    · rfl
  simp only [takeSet]
  split
  · rfl
  · rw [axesView_occur, hclamp, hlegs _ _ _ _ (fun _ h => h),
      axesView_set _ (axisWord_pwm (by simp only [F.PWM_G_LPER_LPER]; omega)), axesView_modPwmg]

theorem axesView_restartAt (take step : Bool) (t : BitVec 72) (c : Chip) : axesView (restartAt take step t g c) = axesView c := by
  have hset (d : Chip) : axesView (if take then takeSet g false d else d) = axesView d := by
    split
    · exact axesView_takeSet hg false d
    · rfl
  have hstat : axisWord (F.PWM_G_STAT g) = false := axisWord_pwm (by simp only [F.PWM_G_STAT]; omega)
  simp only [restartAt]
  split
  · split
    · rw [axesView_raise _ hstat, axesView_openPeriod hg, hset]; rfl
    · rw [axesView_raise _ hstat, axesView_openPeriod hg, hset]; rfl
  · rfl

theorem axesView_releaseGroup (t : BitVec 72) (c : Chip) : axesView (releaseGroup g t c) = axesView c :=
  (axesView_restartAt hg _ _ _ _).trans
    (axesView_setb c (axisWord_pwm (by simp only [F.PWM_G_STAT_ANGLE]; omega)) false)

end

/-! ### Followers of a tracker (R165, R166) -/

/-- The words of a tracker beside its offset, and those of its table, are none of the view. -/
theorem axisWord_tracker {a : Nat} (h : 0x30000 ≤ a ∧ a < 0x40000 ∧ (a % 0x20 ≠ 3 ∨ 0x30200 ≤ a)) : axisWord a = false := by
  simp only [axisWord, decide_eq_false_iff_not]
  omega

theorem axesView_disengage (n : Nat) (t : BitVec 72) (c : Chip) (hn : n < 6) : axesView (setEngaged n false t c) = axesView c := by
  unfold setEngaged
  split
  · rfl
  · rw [axesView_forEach, axesView_setb _ (axisWord_tracker (by simp only [F.KT_STAT_ENGD]; omega))]
    intro g hg d
    have hlt : g < 6 := by
      have := (List.mem_filter.mp hg).2
      simpa using this
    simp only [Bool.false_eq_true, if_false]
    exact axesView_releaseGroup (by omega) t d

theorem axesView_validLost {n : Nat} (c : Chip) (hn : n < 6) : axesView (validLost n c) = axesView c := by
  have hfollow (l : List Nat) (d : Chip) : axesView (d.forEach l (fun g c => c.modPwmg g (fun q => { q with follow := false }))) = axesView d := by
    refine axesView_forEach (fun _ _ _ => ?_) d
    rfl
  have hdiscard (d : Chip) : axesView (discardPending n d) = axesView d :=
    axesView_setb _ (axisWord_tracker (by simp only [F.KT_COMMIT_PENDING]; omega)) false
  simp only [validLost]
  split
  · rw [hfollow, axesView_disengage n _ _ hn, hdiscard]
  · rw [axesView_disengage n _ _ hn, hdiscard]

theorem axesView_trackerFault (n : Nat) (c : Chip) : axesView (trackerFault n c) = axesView c := by
  refine axesView_forEach (fun _ _ _ => ?_) c
  rfl

theorem axesView_setAngle {n : Nat} (ang : Word) (c : Chip) (hn : n < 6) : axesView (setAngle n ang c) = axesView c :=
  (setAngle_after_write axesView (fun _ _ => rfl)
      (fun d k b => axesView_setBit d (axisWord_tracker (by simp only [F.AT_STAT_WIN]; omega)) k b)
      ang c).trans
    (axesView_wr c ang (axisWord_tracker (by simp only [F.AT_ANG]; omega)))

theorem axesView_followParent {n : Nat} (c : Chip) (hn : n < 6) : axesView (followParent false n c) = axesView c := by
  have hstat : axisWord (F.AT_STAT n) = false := axisWord_tracker (by simp only [F.AT_STAT]; omega)
  have hspd : axisWord (F.AT_SPD n) = false := axisWord_tracker (by simp only [F.AT_SPD]; omega)
  have hvalid (d : Chip) (b : Bool) : axesView (d.setb (F.AT_STAT_VALID n) b) = axesView d := axesView_setb d hstat b
  have hhomed (d : Chip) (b : Bool) : axesView (d.setb (F.AT_STAT_HOMED n) b) = axesView d := axesView_setb d hstat b
  have hdir (d : Chip) (b : Bool) : axesView (d.setb (F.AT_STAT_DIR n) b) = axesView d := axesView_setb d hstat b
  have hovspd (d : Chip) : axesView (d.raise (F.AT_STAT_OVSPD n)) = axesView d := axesView_raise d hstat
  have hspeed (d : Chip) (z : Int) : axesView (d.seti (F.AT_SPD_SPD n) z) = axesView d := axesView_seti d hspd z
  have hstart (d : Chip) : axesView (startKerf n d) = axesView d := startKerf_keeps axesView (fun _ _ => rfl) d
  simp only [followParent, Bool.false_eq_true, if_false]
  split_ifs <;> simp only [axesView_validLost _ hn, hstart, axesView_trackerFault, hovspd, axesView_setAngle _ _ hn, hdir, hhomed, hvalid, hspeed]

theorem axesView_updateFollow (c : Chip) : axesView (updateFollow c) = axesView c := by
  unfold updateFollow
  exact Chip.forN_keeps_below axesView (fun _ hn c => axesView_followParent c hn) c

/-! ### Staging and committing the outputs of an axis (R243, R390) -/

theorem axesView_writeDuty {n : Nat} (lmode duty : Nat) (c : Chip) (hn : n ≤ 20) : axesView (writeDuty n lmode duty c) = axesView c := by
  have hduty : axisWord (F.PWM_L_DUTY n) = false := axisWord_pwm (by simp only [F.PWM_L_DUTY]; omega)
  have hlmode (d : Chip) (v : Nat) : axesView (d.set (F.PWM_L_DUTY_LMODE n) v) = axesView d := axesView_set d hduty v
  have hset (d : Chip) (v : Nat) : axesView (d.set (F.PWM_L_DUTY_DUTY n) v) = axesView d := axesView_set d hduty v
  have hstage (d : Chip) : axesView (stageDuty n d) = axesView d := axesView_modPwmg d _ _
  rw [writeDuty, hstage, hset, hlmode]

theorem axesView_commitGroup (g : Nat) (c : Chip) : axesView (commitGroup g c) = axesView c := by
  simp only [commitGroup]
  split
  · exact axesView_occur _ _ _ _
  · rfl

theorem axesView_engineCommit (g : Nat) (c : Chip) : axesView (engineCommit g c) = axesView c := by
  unfold engineCommit
  split
  · exact axesView_commitGroup g c
  · rfl

theorem axisGroups_le {c : Chip} {a g : Nat} (h : g ∈ axisGroups c a) : g ≤ 6 := by
  simp only [axisGroups] at h
  split_ifs at h <;> simp only [List.mem_cons, List.not_mem_nil, or_false] at h <;> omega

theorem axesView_stageOff (a : Nat) (c : Chip) : axesView (stageOff a c) = axesView c := by
  refine axesView_forEach (fun g hg c => ?_) c
  rw [axesView_engineCommit]
  exact axesView_forEach (fun n hn c => axesView_writeDuty 3 0 c (legsOf_le (axisGroups_le hg) hn)) c

theorem axesView_stageVector (a amp : Nat) (phi : Word) (c : Chip) : axesView (stageVector a amp phi c) = axesView c := by
  refine axesView_forEach (fun gk hgk c => ?_) c
  have hg : gk.1 ≤ 6 := axisGroups_le (List.fst_mem_of_mem_zipIdx hgk)
  rw [axesView_engineCommit]
  exact Chip.forN_keeps_below axesView (fun x hx c => axesView_writeDuty _ _ c (by omega)) c

theorem axesView_commitKerf {t : Nat} (c : Chip) (ht : t < 6) : axesView (commitKerf t c) = axesView c :=
  axesView_raise _ (axisWord_tracker (by simp only [F.KT_COMMIT_PENDING]; omega))

end Sys2Proof.Machine
end

section
/-! SUPPORT. The proofs of motor control (12_motor_control), first part: substates and steps of the sequencer, catches, alignment and polarity. -/

namespace Sys2Proof.Machine

/-! ### Substates, steps and resets of the axis program (R38, R387, R389) -/

theorem Sub.ofCode_code (x : Sub) : Sub.ofCode x.code = x := by cases x <;> rfl

theorem Sub.code_lt (x : Sub) : x.code < 16 := by cases x <;> decide

/-- A substate set is the substate read. -/
theorem Chip.sub_set_same {a : Nat} (c : Chip) (x : Sub) (ha : a < 4) : (c.set (F.DEV_AXST_SUB a) x.code).sub a = x := by
  rw [Chip.sub, Chip.get_set_same _ _ _ (by simp only [F.DEV_AXST_SUB]; omega)]
  exact (congrArg Sub.ofCode (Nat.mod_eq_of_lt x.code_lt)).trans x.ofCode_code

theorem Chip.sub_of_rd {c d : Chip} {a : Nat} (h : d.rd 9 = c.rd 9) : d.sub a = c.sub a := by
  simp only [Chip.sub, Chip.get, F.DEV_AXST_SUB, h]

/-- A substate taken, with its flags and its event, before what entry into RUN adds. -/
def subShown (a : Nat) (x : Sub) (c : Chip) : Chip :=
  (((c.set (F.DEV_AXST_SUB a) x.code).evModeChg.setb (F.MOT_FLAGS_STOP a) (x == .stopping))).setb (F.MOT_FLAGS_RUN a) (x == .run || x == .stopping)

theorem setSub_of_same {a : Nat} {x : Sub} {c : Chip} (h : c.sub a = x) : setSub a x c = c := if_pos h

theorem setSub_of_other {a : Nat} {x : Sub} {c : Chip} (h : c.sub a ≠ x) :
    setSub a x c = if x = .run then pendRamps a (subShown a x c) else subShown a x c := if_neg h

theorem subShown_rd {a b : Nat} (x : Sub) (c : Chip) (h : b ≠ 9 ∧ b ≠ 0x10 ∧ b ≠ F.MOT_FLAGS a) : (subShown a x c).rd b = c.rd b := by
  obtain ⟨hsub, hevt, hflags⟩ := h
  rw [subShown, Chip.rd_setb_ne _ _ _ hflags, Chip.rd_setb_ne _ _ _ hflags, Chip.evModeChg, Chip.rd_evt_ne _ _ _ hevt, Chip.rd_set_ne _ _ _ hsub]

theorem pendRamps_rd (a b : Nat) (c : Chip) : (pendRamps a c).rd b = c.rd b := rfl

theorem setSub_rd {a b : Nat} (x : Sub) (c : Chip) (h : b ≠ 9 ∧ b ≠ 0x10 ∧ b ≠ F.MOT_FLAGS a) : (setSub a x c).rd b = c.rd b := by
  by_cases hs : c.sub a = x
  · rw [setSub_of_same hs]
  · rw [setSub_of_other hs]
    split
    · rw [pendRamps_rd, subShown_rd x c h]
    · exact subShown_rd x c h

theorem setSub_get {a : Nat} (x : Sub) (c : Chip) {f : Fld} (h : f.addr ≠ 9 ∧ f.addr ≠ 0x10 ∧ f.addr ≠ F.MOT_FLAGS a) :
    (setSub a x c).get f = c.get f := by simp only [Chip.get, setSub_rd x c h]

theorem setSub_sub {a : Nat} (x : Sub) (c : Chip) (ha : a < 4) : (setSub a x c).sub a = x := by
  by_cases hs : c.sub a = x
  · rw [setSub_of_same hs, hs]
  · have hshown : (subShown a x c).sub a = x := by
      refine Eq.trans (Chip.sub_of_rd ?_) (Chip.sub_set_same c x ha)
      rw [subShown, Chip.rd_setb_ne _ _ _ (by simp only [F.MOT_FLAGS_RUN]; omega), Chip.rd_setb_ne _ _ _ (by simp only [F.MOT_FLAGS_STOP]; omega),
        Chip.evModeChg, Chip.rd_evt_ne _ _ _ (by decide)]
    rw [setSub_of_other hs]
    split
    · rw [Chip.sub_of_rd (pendRamps_rd a 9 _), hshown]
    · exact hshown

theorem identifying_of_rd {c d : Chip} {a : Nat} (h : d.rd 9 = c.rd 9) : identifying d a = identifying c a := by
  simp only [identifying, Chip.is, Chip.get, F.DEV_AXST_IDACT, h]

/-- Whether IDENTIFY has axis a in its care is told beside the substate. -/
theorem setSub_identifying {a : Nat} (x : Sub) (c : Chip) : identifying (setSub a x c) a = identifying c a := by
  by_cases hs : c.sub a = x
  · rw [setSub_of_same hs]
  · have hshown : identifying (subShown a x c) a = identifying c a := by
      simp only [identifying, Chip.is, subShown, Chip.evModeChg]
      rw [Chip.get_setb_ne _ _ _ _ (.inl (by simp only [F.DEV_AXST_IDACT, F.MOT_FLAGS_RUN]; omega)),
        Chip.get_setb_ne _ _ _ _ (.inl (by simp only [F.DEV_AXST_IDACT, F.MOT_FLAGS_STOP]; omega)),
        Chip.get_evt_ne _ _ _ _ (by simp only [F.DEV_AXST_IDACT]; omega),
        Chip.get_set_ne _ _ _ _ (by simp only [F.DEV_AXST_IDACT, F.DEV_AXST_SUB]; omega)]
    rw [setSub_of_other hs]
    split
    · rw [identifying_of_rd (pendRamps_rd a 9 _), hshown]
    · exact hshown

theorem setStep_rd {a b : Nat} (step : Nat) (own : Bool) (c : Chip) (h : b ≠ F.MOT_STAT a) : (setStep a step own c).rd b = c.rd b := by
  rw [setStep, Chip.rd_setb_ne _ _ _ h, Chip.rd_set_ne _ _ _ h]

theorem setStep_step {a step : Nat} (own : Bool) (c : Chip) (h : step < 16) : (setStep a step own c).get (F.MOT_STAT_STEP a) = step := by
  rw [setStep, Chip.get_setb_ne _ _ _ _ (by simp only [F.MOT_STAT_STEP, F.MOT_STAT_OWN]; omega), Chip.get_set_same _ _ _ (by simp only [F.MOT_STAT_STEP]; omega)]
  exact Nat.mod_eq_of_lt h

theorem setStep_own (a step : Nat) (own : Bool) (c : Chip) : (setStep a step own c).is (F.MOT_STAT_OWN a) = own :=
  Chip.is_setb_same _ _ _ rfl (by simp only [F.MOT_STAT_OWN]; omega)

theorem setRefs_rd {a b : Nat} (x y : Rat) (c : Chip) (h : b ≠ (F.MOT_IDREF_IDREF a).addr ∧ b ≠ (F.MOT_IQREF_IQREF a).addr) :
    (setRefs a x y c).rd b = c.rd b := by
  rw [setRefs, Chip.rd_wr_ne _ _ h.2, Chip.rd_wr_ne _ _ h.1]

theorem setInject_rd {a b : Nat} (x y z : Bool) (c : Chip) (h : b ≠ F.MOT_FLAGS a) : (setInject a x y z c).rd b = c.rd b := by
  rw [setInject, Chip.rd_setb_ne _ _ _ h, Chip.rd_setb_ne _ _ _ h, Chip.rd_setb_ne _ _ _ h]

theorem requestReset_one (p : Nat) (c : Chip) (hp : p < 64) : (requestReset p 1 1 c).zen.pgrst.getLsbD p = true := by
  simp [requestReset, hp]

theorem axisProgram_lt (c : Chip) (a : Nat) : c.get (F.MOT_CFG_PG a) < 64 := Word.field_lt _ _ _

theorem resetAxisProgram_pgrst (a : Nat) (c : Chip) : (resetAxisProgram a c).zen.pgrst.getLsbD (c.get (F.MOT_CFG_PG a)) = true :=
  requestReset_one _ c (axisProgram_lt c a)

theorem enterRun_pgrst (a : Nat) (c : Chip) : (enterRun a c).zen.pgrst.getLsbD (c.get (F.MOT_CFG_PG a)) = true := resetAxisProgram_pgrst a c

theorem enterRun_rd (a : Nat) (c : Chip) (b : Nat) : (enterRun a c).rd b = c.rd b := rfl

/-! ### Alignment (R410 to R414) -/

/-- The words from gate-drive supervision on are in the view. -/
theorem axisWord_high {a : Nat} (h : 0x60000 ≤ a) : axisWord a = true := by
  simp only [axisWord, decide_eq_true_eq]
  omega

theorem axisWord_offs {t : Nat} (h : t < 6) : axisWord (F.AT_OFFS t) = true := by
  rw [axisWord, F.AT_OFFS, decide_eq_true_eq]
  omega

/-- The step of an alignment's first action. -/
def alignStep : Nat → Nat
  | 1 => 3 | 2 => 4 | 3 => 6 | _ => 0

/-- The first action of an alignment stages outputs after it has taken its step. -/
theorem beginAlign_eq (a : Nat) (c : Chip) : ∃ (own : Bool) (d : Chip), axesView (beginAlign a c) = axesView (setStep a (alignStep (alignMethod c a)) own d) ∧
    d.zen = c.zen ∧ d.rd 9 = c.rd 9 := by
  have h9 (x y : Rat) (k l m : Bool) : (setRefs a x y (setInject a k l m c)).rd 9 = c.rd 9 := by
    rw [setRefs_rd _ _ _ (by simp only [F.MOT_IDREF_IDREF, F.MOT_IQREF_IQREF]; omega), setInject_rd _ _ _ _ (by simp only [F.MOT_FLAGS]; omega)]
  unfold beginAlign
  split
  · next h => exact ⟨true, c, by rw [axesView_stageVector, h]; rfl, rfl, rfl⟩
  · next h => exact ⟨false, setRefs a 0 0 (setInject a true true false c), by rw [h]; rfl, rfl, h9 ..⟩
  · next h =>
    exact ⟨false, setRefs a ((c.get (F.MOT_SEQ_IDMAG a) : Nat) : Rat) 0 (setInject a true false false c), by rw [h]; rfl, rfl, h9 ..⟩
  · next h1 h2 h3 =>
    refine ⟨false, c, ?_, rfl, rfl⟩
    have hstep : alignStep (alignMethod c a) = 0 := by
      unfold alignStep
      split <;> simp_all
    rw [hstep]

theorem alignStep_lt (m : Nat) : alignStep m < 16 := by
  unfold alignStep
  split <;> decide

theorem beginAlign_step (a : Nat) (c : Chip) : (beginAlign a c).get (F.MOT_STAT_STEP a) = alignStep (alignMethod c a) := by
  obtain ⟨own, d, hview, -, -⟩ := beginAlign_eq a c
  rw [get_of_axesView hview (axisWord_high (by simp only [F.MOT_STAT_STEP]; omega)), setStep_step own d (alignStep_lt _)]

theorem beginAlign_zen (a : Nat) (c : Chip) : (beginAlign a c).zen = c.zen := by
  obtain ⟨own, d, hview, hzen, -⟩ := beginAlign_eq a c
  exact (zen_of_axesView hview).trans hzen

theorem beginAlign_sub (a : Nat) (c : Chip) : (beginAlign a c).sub a = c.sub a := by
  obtain ⟨own, d, hview, -, hsub⟩ := beginAlign_eq a c
  refine Chip.sub_of_rd ((rd_of_axesView hview (by decide)).trans ?_)
  rw [setStep_rd _ _ _ (by simp only [F.MOT_STAT]; omega), hsub]

theorem alignMethod_of_not_identifying {c : Chip} {a : Nat} (h : identifying c a = false) : alignMethod c a = c.get (F.MOT_CFG_START a) := by
  simp only [alignMethod, h, Bool.false_and, Bool.false_eq_true, if_false]

/-- Entry into ALIGN outside IDENTIFY shows the step of the configured method, with the reset of the axis program requested. -/
theorem enterAlign_shows {c : Chip} {a : Nat} (ha : a < 4) (hi : identifying c a = false) :
    (enterAlign a c).sub a = .align ∧ (enterAlign a c).zen.pgrst.getLsbD (c.get (F.MOT_CFG_PG a)) = true ∧
      (enterAlign a c).get (F.MOT_STAT_STEP a) = alignStep (c.get (F.MOT_CFG_START a)) := by
  have hcfg {f : Fld} (h : f.addr = F.MOT_CFG a) : (setSub a .align c).get f = c.get f :=
    setSub_get .align c (by rw [h]; simp only [F.MOT_CFG, F.MOT_FLAGS]; omega)
  have hident : identifying (resetAxisProgram a (setSub a .align c)) a = false := (setSub_identifying .align c).trans hi
  refine ⟨?_, ?_, ?_⟩
  · rw [enterAlign, beginAlign_sub]
    exact setSub_sub .align c ha
  · rw [enterAlign, beginAlign_zen, ← hcfg (f := F.MOT_CFG_PG a) rfl]
    exact resetAxisProgram_pgrst a _
  · rw [enterAlign, beginAlign_step, alignMethod_of_not_identifying hident]
    exact congrArg alignStep (hcfg (f := F.MOT_CFG_START a) rfl)

/-- The tracker placed: its offset takes the difference, and words beside ALIGNED from gate-drive supervision on stay. -/
theorem placeTracker_of_tracker {c : Chip} {a t : Nat} (ang : Word) (ht : axisTracker c a = some t) :
    placeTracker a ang c = (updateFollow ((c.wr (F.AT_OFFS_OFFS t).addr (c.rd (F.AT_OFFS_OFFS t).addr + (ang - c.rd (F.AT_ANG_ANG t).addr))).wr
      (F.AT_ANG_ANG t).addr ang)).raise (F.MOT_STAT_ALIGNED a) := by
  simp only [placeTracker, ht]

theorem axisTracker_lt {c : Chip} {a t : Nat} (h : axisTracker c a = some t) : t < 6 := by
  unfold axisTracker at h
  split at h
  · next hlt => exact Option.some.inj h ▸ hlt
  · exact absurd h (by simp)

theorem placeTracker_offs {c : Chip} {a t : Nat} (ang : Word) (ht : axisTracker c a = some t) :
    (placeTracker a ang c).rd (F.AT_OFFS t) = c.rd (F.AT_OFFS t) + (ang - c.rd (F.AT_ANG t)) := by
  have hlt := axisTracker_lt ht
  rw [placeTracker_of_tracker ang ht, Chip.rd_raise_ne _ _ (by simp only [F.AT_OFFS, F.MOT_STAT_ALIGNED]; omega),
    rd_of_axesView (axesView_updateFollow _) (axisWord_offs hlt),
    Chip.rd_wr_ne _ _ (by simp only [F.AT_OFFS, F.AT_ANG_ANG]; omega)]
  exact Chip.rd_wr_same c _ _

theorem placeTracker_get {c : Chip} {a : Nat} (ang : Word) {f : Fld} (hlo : 0x60000 ≤ f.addr)
    (h : f.addr ≠ F.MOT_STAT a ∨ 21 ≤ f.lo ∨ f.lo + f.width ≤ 20) : (placeTracker a ang c).get f = c.get f := by
  cases ht : axisTracker c a with
  | none => simp only [placeTracker, ht]
  | some t =>
    have hlt := axisTracker_lt ht
    rw [placeTracker_of_tracker ang ht, Chip.get_raise_ne _ _ _ h,
      get_of_axesView (axesView_updateFollow _) (axisWord_high hlo),
      Chip.get_wr_ne _ _ _ _ (by simp only [F.AT_ANG_ANG]; omega), Chip.get_wr_ne _ _ _ _ (by simp only [F.AT_OFFS_OFFS]; omega)]

/-! ### Catching (R405 to R408) -/

theorem writeCres_rd {a b : Nat} (c : Chip) (h : b ≠ F.MOT_CRES a) : (writeCres a c).1.rd b = c.rd b := by
  simp only [writeCres]
  rw [Chip.rd_set_ne _ _ _ h, Chip.rd_seti_ne _ _ _ h, Chip.rd_set_ne _ _ _ h]
  split <;> rfl

/-- The end of the detect phase has judged what the catch found. -/
def catchJudged (a : Nat) (c : Chip) : Chip :=
  modAxis a (fun q => { q with negative := decide (caughtSpeed (writeCres a c).1 a < 0), psic := roundRat ((writeCres a c).2 * twoTo 40) }) (writeCres a c).1

theorem catchJudged_rd {a b : Nat} (c : Chip) (h : b ≠ F.MOT_CRES a) : (catchJudged a c).rd b = c.rd b := by
  rw [catchJudged, modAxis_rd, writeCres_rd c h]

theorem catchJudged_get {a : Nat} (c : Chip) {f : Fld} (h : f.addr ≠ F.MOT_CRES a) : (catchJudged a c).get f = c.get f := by
  simp only [Chip.get, catchJudged_rd c h]

theorem catchJudged_identifying (a : Nat) (c : Chip) : identifying (catchJudged a c) a = identifying c a := by
  exact identifying_of_rd (catchJudged_rd c (by simp only [F.MOT_CRES]; omega))

/-- A catch that found enough has its direction shown, and an encoder's tracker that is not homed is placed. -/
def catchPlaced (a : Nat) (c : Chip) : Chip :=
  let neg := decide (caughtSpeed (writeCres a c).1 a < 0)
  let d := (catchJudged a c).setb (F.MOT_STAT_CDIR a) (decide (((catchJudged a c).rd (F.MOT_SPE_SPE a).addr).toInt < 0) != neg)
  let homed := match axisTracker (catchJudged a c) a with | some t => (catchJudged a c).is (F.AT_STAT_HOMED t) | none => false
  if axisSource (catchJudged a c) a = 2 ∧ !homed then placeTracker a (rotorAngle ((axisSeq c a).lastTh.getD 0) neg) d else d

theorem absRat_nonneg (q : Rat) : 0 ≤ absRat q := by
  unfold absRat
  split <;> linarith

theorem coefRat_zero : coefRat 0 = 0 := by
  have h : (coef 0).1 = 0 := by decide
  simp only [coefRat, h, Int.cast_zero, zero_mul]

section
variable {c : Chip} {a : Nat} (hm : isMotor c a = true) (hs : c.get (F.MOT_STAT_STEP a) = 1) (hi : identifying c a = false)
include hm hs hi

theorem catchDetectEnd_of_low (h : (axisSeq c a).catchN < 2 * (axisSeq c a).catchLow ∨ (axisSeq c a).catchN = 0) :
    catchDetectEnd a c = enterAlign a (catchJudged a c) := by
  have hident : identifying (catchJudged a c) a = false := (catchJudged_identifying a c).trans hi
  have hcond (p : Prop) : (axisSeq c a).catchN < 2 * (axisSeq c a).catchLow ∨ (axisSeq c a).catchN = 0 ∨ p := by tauto
  unfold catchDetectEnd
  rw [if_neg (by simp [hm, hs])]
  unfold catchJudged at hident
  simp only [hident, Bool.false_eq_true, if_false, if_pos (hcond _)]
  rfl

theorem catchDetectEnd_of_enough (hn : 2 * (axisSeq c a).catchLow ≤ (axisSeq c a).catchN) (h0 : (axisSeq c a).catchN ≠ 0)
    (hspd : c.get (F.MOT_CSTP_CSPD a) = 0) (hpsi : c.rd (F.MOT_PSI_PSI a).addr = 0) :
    catchDetectEnd a c = if axisSource (catchJudged a c) a = 4 then setStep a 2 true (modAxis a (fun q => { q with lockRun := 0 }) (catchPlaced a c))
      else enterRun a (catchPlaced a c) := by
  have hident : identifying (catchJudged a c) a = false := (catchJudged_identifying a c).trans hi
  have hspd' : (catchJudged a c).get (F.MOT_CSTP_CSPD a) = 0 :=
    (catchJudged_get c (by simp only [F.MOT_CSTP_CSPD, F.MOT_CRES]; omega)).trans hspd
  have hpsi' : (catchJudged a c).rd (F.MOT_PSI_PSI a).addr = 0 := (catchJudged_rd c (by simp only [F.MOT_PSI_PSI, F.MOT_CRES]; omega)).trans hpsi
  have hlow (x : Rat) : ¬((axisSeq c a).catchN < 2 * (axisSeq c a).catchLow ∨ (axisSeq c a).catchN = 0 ∨ absRat x < ((0 : Nat) : Rat)) := by
    have := absRat_nonneg x
    simp only [Nat.cast_zero, not_or, not_lt]
    exact ⟨hn, h0, this⟩
  unfold catchDetectEnd
  rw [if_neg (by simp [hm, hs])]
  unfold catchPlaced
  unfold catchJudged at *
  simp only [hident, Bool.false_eq_true, if_false, hspd', hpsi', if_neg (hlow _), coefRat_zero, ne_eq, not_true, false_and, and_false] <;> rfl

end

end Sys2Proof.Machine
end

section
/-! SUPPORT. The proofs of motor control (12_motor_control), second part: each event of a catch, an alignment and the polarity. -/

namespace Sys2Proof.Machine

/-! ### The end of a catch (R407) -/

theorem catchPlaced_get {a : Nat} (c : Chip) {f : Fld} (hlo : 0x60000 ≤ f.addr)
    (h : f.addr ≠ F.MOT_STAT a ∧ f.addr ≠ F.MOT_CRES a ∨ f = F.MOT_STAT_STEP a) : (catchPlaced a c).get f = c.get f := by
  have hcres : f.addr ≠ F.MOT_CRES a := by
    rcases h with h | rfl
    · exact h.2
    · simp only [F.MOT_STAT_STEP, F.MOT_CRES]; omega
  have hcdir (b : Bool) : ((catchJudged a c).setb (F.MOT_STAT_CDIR a) b).get f = c.get f := by
    rw [Chip.get_setb_ne _ _ _ _ (by
      rcases h with h | rfl
      · exact .inl h.1
      · simp only [F.MOT_STAT_STEP, F.MOT_STAT_CDIR]; omega), catchJudged_get c hcres]
  have hplace (p : Prop) [Decidable p] (ang : Word) (b : Bool) :
      (if p then placeTracker a ang ((catchJudged a c).setb (F.MOT_STAT_CDIR a) b) else (catchJudged a c).setb (F.MOT_STAT_CDIR a) b).get f =
        c.get f := by
    split
    · rw [placeTracker_get _ hlo (by
        rcases h with h | rfl
        · exact .inl h.1
        · simp only [F.MOT_STAT_STEP]; omega), hcdir]
    · exact hcdir b
  exact hplace _ _ _

/-- The source of the axis is judged as it stood. -/
theorem catchJudged_axisSource (a : Nat) (c : Chip) (ha : a < 4) : axisSource (catchJudged a c) a = axisSource c a := by
  have htr : axisTracker (catchJudged a c) a = axisTracker c a := by
    have hat : (catchJudged a c).get (F.MOT_CFG_AT a) = c.get (F.MOT_CFG_AT a) :=
      catchJudged_get c (by simp only [F.MOT_CFG_AT, F.MOT_CRES]; omega)
    simp only [axisTracker, hat]
  unfold axisSource
  rw [htr]
  cases h : axisTracker c a with
  | none => rfl
  | some t =>
    have hlt := axisTracker_lt h
    have hw {f : Fld} (hf : f.addr < 0x90000) : (catchJudged a c).get f = c.get f := catchJudged_get c (by simp only [F.MOT_CRES]; omega)
    exact activeSrc_congr (hw (by simp only [F.AT_STAT_ALTACT]; omega)) (hw (by simp only [F.AT_CFG_ALT]; omega))
      (hw (by simp only [F.AT_CFG_SRC]; omega))

theorem enterAlign_catchJudged_shows {c : Chip} {a : Nat} (ha : a < 4) (hi : identifying c a = false) :
    (enterAlign a (catchJudged a c)).sub a = .align ∧ (enterAlign a (catchJudged a c)).zen.pgrst.getLsbD (c.get (F.MOT_CFG_PG a)) = true ∧
      (enterAlign a (catchJudged a c)).get (F.MOT_STAT_STEP a) = alignStep (c.get (F.MOT_CFG_START a)) := by
  have hpg : (catchJudged a c).get (F.MOT_CFG_PG a) = c.get (F.MOT_CFG_PG a) := catchJudged_get c (by simp only [F.MOT_CFG_PG, F.MOT_CRES]; omega)
  have hstart : (catchJudged a c).get (F.MOT_CFG_START a) = c.get (F.MOT_CFG_START a) :=
    catchJudged_get c (by simp only [F.MOT_CFG_START, F.MOT_CRES]; omega)
  rw [← hpg, ← hstart]
  exact enterAlign_shows ha ((catchJudged_identifying a c).trans hi)

/-- A catch that found enough goes on to its lock, or requests the reset of the axis program and stays at its step. -/
theorem catchDetectEnd_goes_on {c : Chip} {a : Nat} (ha : a < 4) (hm : isMotor c a = true) (hs : c.get (F.MOT_STAT_STEP a) = 1)
    (hi : identifying c a = false) (hn : 2 * (axisSeq c a).catchLow ≤ (axisSeq c a).catchN) (h0 : (axisSeq c a).catchN ≠ 0)
    (hspd : c.get (F.MOT_CSTP_CSPD a) = 0) (hpsi : c.rd (F.MOT_PSI_PSI a).addr = 0) :
    if axisSource c a = 4 then (catchDetectEnd a c).get (F.MOT_STAT_STEP a) = 2 ∧ (catchDetectEnd a c).is (F.MOT_STAT_OWN a) = true
    else (catchDetectEnd a c).zen.pgrst.getLsbD (c.get (F.MOT_CFG_PG a)) = true ∧ (catchDetectEnd a c).get (F.MOT_STAT_STEP a) = 1 := by
  rw [catchDetectEnd_of_enough hm hs hi hn h0 hspd hpsi, catchJudged_axisSource a c ha]
  by_cases h4 : axisSource c a = 4
  · simp only [if_pos h4]
    exact ⟨setStep_step true _ (by decide), setStep_own a 2 true _⟩
  · simp only [if_neg h4]
    have hpg : (catchPlaced a c).get (F.MOT_CFG_PG a) = c.get (F.MOT_CFG_PG a) :=
      catchPlaced_get c (by simp only [F.MOT_CFG_PG]; omega) (.inl (by simp only [F.MOT_CFG_PG, F.MOT_STAT, F.MOT_CRES]; omega))
    refine ⟨hpg ▸ enterRun_pgrst a _, ?_⟩
    simp only [Chip.get, enterRun_rd]
    exact (catchPlaced_get c (by simp only [F.MOT_STAT_STEP]; omega) (.inr rfl)).trans hs

theorem catchLockTimeout_of_locking {c : Chip} {a : Nat} (hm : isMotor c a = true) (hs : c.get (F.MOT_STAT_STEP a) = 2)
    (hr : (axisSeq c a).runDue = false) : catchLockTimeout a c = c.notice (.axis a .catch) := by
  simp [catchLockTimeout, hm, hs, hr]

/-! ### Alignment (R410, R411) -/

theorem alignTimeout_of_waiting {c : Chip} {a : Nat} (hm : isMotor c a = true) (hs : c.sub a = .align) (hmeth : alignMethod c a = 0)
    (hv : trackerValid c a = false) : alignTimeout a c = c.notice (.axis a .align) := by
  have hwaits : (isMotor c a && c.sub a == .align && alignMethod c a == 0 && !trackerValid c a) = true := by
    simp only [hm, hs, hmeth, hv, beq_self_eq_true, Bool.and_true, Bool.not_false]
  exact if_pos hwaits

theorem magnEnd_of_magnetised {c : Chip} {a : Nat} (hm : isMotor c a = true) (hs : c.get (F.MOT_STAT_STEP a) = 6)
    (hr : (axisSeq c a).runDue = false) : magnEnd a c = enterRun a c := by
  simp [magnEnd, hm, hs, hr]

/-- A DC alignment held: an angle source of a resolver or an encoder reads 0, ALIGNED is set, and all legs stand at 1/2. -/
theorem dcAlignEnd_of_held {c : Chip} {a : Nat} (hm : isMotor c a = true) (hs : c.get (F.MOT_STAT_STEP a) = 3) (hr : (axisSeq c a).dcRest = 0)
    (hsrc : axisSource c a = 1 ∨ axisSource c a = 2) :
    dcAlignEnd a c = modAxis a (fun q => { q with dcRest := 2 }) (stageHalf a ((placeTracker a 0 c).raise (F.MOT_STAT_ALIGNED a))) := by
  have h4 : axisSource c a ≠ 4 := by omega
  unfold dcAlignEnd
  rw [if_neg (by simp [hm, hs, hr])]
  simp only [if_neg h4, if_pos hsrc]

theorem dcAlignEnd_shows {c : Chip} {a t : Nat} (hm : isMotor c a = true) (hs : c.get (F.MOT_STAT_STEP a) = 3) (hr : (axisSeq c a).dcRest = 0)
    (hsrc : axisSource c a = 1 ∨ axisSource c a = 2) (ht : axisTracker c a = some t) :
    (dcAlignEnd a c).is (F.MOT_STAT_ALIGNED a) = true ∧ (dcAlignEnd a c).rd (F.AT_OFFS t) = c.rd (F.AT_OFFS t) - c.rd (F.AT_ANG t) := by
  have hview := axesView_stageVector a 0 0 ((placeTracker a 0 c).raise (F.MOT_STAT_ALIGNED a))
  rw [dcAlignEnd_of_held hm hs hr hsrc, modAxis_is, modAxis_rd, stageHalf,
    is_of_axesView hview (axisWord_high (by simp only [F.MOT_STAT_ALIGNED]; omega)), rd_of_axesView hview (axisWord_offs (axisTracker_lt ht))]
  refine ⟨Chip.is_raise_same _ _ rfl (by simp only [F.MOT_STAT_ALIGNED]; omega), ?_⟩
  have hlt := axisTracker_lt ht
  rw [Chip.rd_raise_ne _ _ (by simp only [F.AT_OFFS, F.MOT_STAT_ALIGNED]; omega), placeTracker_offs 0 ht, zero_sub, sub_eq_add_neg]

/-! ### Polarity (R412 to R414) -/

/-- Injection has ended: nothing is injected, and the polarity pulses' step stands with the sequencer as owner. -/
def polarityBegun (a : Nat) (c : Chip) : Chip := modAxis a (fun q => { q with polPairs := 0 }) (setStep a 5 true (setInject a false false false c))

theorem hfiEnd_of_injecting {c : Chip} {a : Nat} (hm : isMotor c a = true) (hs : c.get (F.MOT_STAT_STEP a) = 4) :
    hfiEnd a c = beginPolarity a (polarityBegun a c) := by
  simp [hfiEnd, hm, hs, polarityBegun]

theorem axesView_beginPolarity (a : Nat) (c : Chip) : ∃ f : AxisSeq → AxisSeq, axesView (beginPolarity a c) = axesView (modAxis a f c) := by
  unfold beginPolarity
  exact ⟨_, axesView_stageVector _ _ _ _⟩

theorem beginPolarity_get (a : Nat) (c : Chip) {f : Fld} (h : 0x60000 ≤ f.addr) : (beginPolarity a c).get f = c.get f := by
  obtain ⟨g, hview⟩ := axesView_beginPolarity a c
  rw [get_of_axesView hview (axisWord_high h), modAxis_get]

theorem hfiEnd_shows {c : Chip} {a : Nat} (hm : isMotor c a = true) (hs : c.get (F.MOT_STAT_STEP a) = 4) :
    (hfiEnd a c).get (F.MOT_STAT_STEP a) = 5 ∧ (hfiEnd a c).is (F.MOT_STAT_OWN a) = true ∧ (hfiEnd a c).is (F.MOT_FLAGS_HFI a) = false ∧
      (hfiEnd a c).is (F.MOT_FLAGS_SEQREF a) = false := by
  have hflags {f : Fld} (h : f.addr = F.MOT_FLAGS a) : (setStep a 5 true (setInject a false false false c)).is f = (setInject a false false false c).is f := by
    simp only [Chip.is, Chip.get]
    rw [setStep_rd 5 true _ (by rw [h]; simp only [F.MOT_FLAGS, F.MOT_STAT]; omega)]
  have hget {f : Fld} (h : 0x60000 ≤ f.addr) : (hfiEnd a c).get f = (setStep a 5 true (setInject a false false false c)).get f := by
    rw [hfiEnd_of_injecting hm hs, beginPolarity_get a _ h, polarityBegun, modAxis_get]
  have his {f : Fld} (h : 0x60000 ≤ f.addr) : (hfiEnd a c).is f = (setStep a 5 true (setInject a false false false c)).is f := by
    simp only [Chip.is, hget h]
  refine ⟨?_, ?_, ?_, ?_⟩
  · rw [hget (by simp only [F.MOT_STAT_STEP]; omega), setStep_step true _ (by decide)]
  · rw [his (by simp only [F.MOT_STAT_OWN]; omega), setStep_own]
  · rw [his (by simp only [F.MOT_FLAGS_HFI]; omega), hflags rfl, setInject, Chip.is,
      Chip.get_setb_ne _ _ _ _ (by simp only [F.MOT_FLAGS_HFI, F.MOT_FLAGS_INJQ]; omega)]
    exact Chip.is_setb_same _ _ _ rfl (by simp only [F.MOT_FLAGS_HFI]; omega)
  · rw [his (by simp only [F.MOT_FLAGS_SEQREF]; omega), hflags rfl, setInject, Chip.is,
      Chip.get_setb_ne _ _ _ _ (by simp only [F.MOT_FLAGS_SEQREF, F.MOT_FLAGS_INJQ]; omega),
      Chip.get_setb_ne _ _ _ _ (by simp only [F.MOT_FLAGS_SEQREF, F.MOT_FLAGS_HFI]; omega)]
    exact Chip.is_setb_same _ _ _ rfl (by simp only [F.MOT_FLAGS_SEQREF]; omega)

/-- A decided polarity is shown, and the axis is aligned. -/
def polarityShown (a : Nat) (c : Chip) : Chip := (c.raise (F.MOT_STAT_POLOK a)).raise (F.MOT_STAT_ALIGNED a)

theorem polarityShown_polok (a : Nat) (c : Chip) : (polarityShown a c).is (F.MOT_STAT_POLOK a) = true := by
  rw [polarityShown, Chip.is, Chip.get_raise_ne _ _ _ (by simp only [F.MOT_STAT_POLOK, F.MOT_STAT_ALIGNED]; omega)]
  exact Chip.is_raise_same _ _ rfl (by simp only [F.MOT_STAT_POLOK]; omega)

theorem polarityShown_aligned (a : Nat) (c : Chip) : (polarityShown a c).is (F.MOT_STAT_ALIGNED a) = true :=
  Chip.is_raise_same _ _ rfl (by simp only [F.MOT_STAT_ALIGNED]; omega)

theorem polarityShown_rd {a b : Nat} (c : Chip) (h : b ≠ F.MOT_STAT a) : (polarityShown a c).rd b = c.rd b := by
  rw [polarityShown, Chip.rd_raise_ne _ _ h, Chip.rd_raise_ne _ _ h]

theorem aligned_of_not_identifying {a : Nat} {c : Chip} (h : identifying c a = false) : aligned a c = enterRun a c := by
  simp only [aligned, h, Bool.false_eq_true, if_false]

section
variable {c : Chip} {a : Nat} {p m : Int} (hm : isMotor c a = true) (ho : pairOver c a = true) (hs : c.get (F.MOT_STAT_STEP a) = 5)
  (hf : (axisSeq c a).flipDue = false) (hp : (axisSeq c a).iPlus = some p) (hq : (axisSeq c a).iMinus = some m) (h0 : max p m ≠ 0)
include hm ho hs hf hp hq h0

/-- The two responses of a pair decide by their asymmetry in percent (R413). -/
theorem polarityPulseEnd_of_responses :
    polarityPulseEnd a c =
      (let r : Rat := (((p - m) * 100 : Int) : Rat) / ((max p m : Int) : Rat)
       let t : Rat := ((c.get (F.MOT_PLS_PTHR a) : Int) : Rat)
       if t ≤ r then aligned a (polarityShown a c)
       else if r ≤ -t then modAxis a (fun q => { q with flipDue := true }) (polarityShown a c)
       else if (axisSeq c a).polPairs < c.get (F.MOT_PLS_PTRY a) then beginPolarity a c
       else c.notice (.axis a .polarity)) := by
  unfold polarityPulseEnd
  rw [if_neg (by simp [hm, ho, hs, hf])]
  simp only [hp, hq, Option.getD_some, if_neg h0, Int.cast_neg, polarityShown]

theorem polarityPulseEnd_shows (hi : identifying c a = false) :
    (let r : Rat := (((p - m) * 100 : Int) : Rat) / ((max p m : Int) : Rat)
     let t : Rat := ((c.get (F.MOT_PLS_PTHR a) : Int) : Rat)
     if t ≤ r then (polarityPulseEnd a c).is (F.MOT_STAT_POLOK a) = true ∧ (polarityPulseEnd a c).is (F.MOT_STAT_ALIGNED a) = true ∧
       (polarityPulseEnd a c).zen.pgrst.getLsbD (c.get (F.MOT_CFG_PG a)) = true
     else if r ≤ -t then (polarityPulseEnd a c).is (F.MOT_STAT_POLOK a) = true ∧ (polarityPulseEnd a c).is (F.MOT_STAT_ALIGNED a) = true ∧
       (polarityPulseEnd a c).axes = c.axes.modify a (fun q => { q with flipDue := true })
     else (axisSeq c a).polPairs < c.get (F.MOT_PLS_PTRY a) ∨ polarityPulseEnd a c = c.notice (.axis a .polarity)) := by
  have hshown : identifying (polarityShown a c) a = false :=
    (identifying_of_rd (polarityShown_rd c (by simp only [F.MOT_STAT]; omega))).trans hi
  have hpg : (polarityShown a c).get (F.MOT_CFG_PG a) = c.get (F.MOT_CFG_PG a) := by
    simp only [Chip.get]
    rw [polarityShown_rd c (by simp only [F.MOT_CFG_PG, F.MOT_STAT]; omega)]
  rw [polarityPulseEnd_of_responses hm ho hs hf hp hq h0]
  dsimp only
  split_ifs
  · rw [aligned_of_not_identifying hshown]
    exact ⟨polarityShown_polok a c, polarityShown_aligned a c, hpg ▸ enterRun_pgrst a _⟩
  · exact ⟨polarityShown_polok a c, polarityShown_aligned a c, rfl⟩
  · exact .inl ‹_›
  · exact .inr rfl

end

theorem polarityFlip_of_due {c : Chip} {a : Nat} (hf : (axisSeq c a).flipDue = true) (hp : programIdle c a = true) :
    polarityFlip a c = aligned a (modAxis a (fun q => { q with flipDue := false })
      (if c.is (F.MOT_OBS_AIEN a) then
        presetWord a (c.get (F.MOT_OBS_AIBLK a)) 0 (presetRead c a (c.get (F.MOT_OBS_AIBLK a)) 0 + 0x800000000000).toInt c else c)) := by
  simp only [polarityFlip, hf, hp, Bool.and_self, if_true]

/-- Settles O51: each event is brought to the branch of the model that its premises choose, and the words that it shows are read past the outputs
staged beside them. -/
theorem catchesAlignmentsAndPolarity : Obligations.CatchesAlignmentsAndPolarity := by
  unfold Obligations.CatchesAlignmentsAndPolarity
  refine ⟨fun s a hg hm hs hi hl => ⟨_, running_of_going hg (catchDetectEnd a), ?_⟩,
    fun s a hg hm hs hi hn h0 hspd hpsi => ⟨_, running_of_going hg (catchDetectEnd a), catchDetectEnd_goes_on a.isLt hm hs hi hn h0 hspd hpsi⟩,
    fun s a hg hm hs hr => (running_of_going hg (catchLockTimeout a)).trans (by rw [catchLockTimeout_of_locking hm hs hr]),
    fun s a hg hm hs hmeth hv => (running_of_going hg (alignTimeout a)).trans (by rw [alignTimeout_of_waiting hm hs hmeth hv]),
    fun s a hg hm hs hr => ⟨_, running_of_going hg (magnEnd a), ?_⟩,
    fun s a hg hm hs => ⟨_, running_of_going hg (hfiEnd a), hfiEnd_shows hm hs⟩,
    fun s a p m hg hm ho hs hf hi hp hq h0 => ⟨_, running_of_going hg (polarityPulseEnd a), polarityPulseEnd_shows hm ho hs hf hp hq h0 hi⟩,
    fun s a hg hf hp => (running_of_going hg (polarityFlip a)).trans (by rw [polarityFlip_of_due hf hp]),
    fun s a t hg hm hs hr hsrc ht => ⟨_, running_of_going hg (dcAlignEnd a), dcAlignEnd_shows hm hs hr hsrc ht⟩⟩
  · rw [catchDetectEnd_of_low hm hs hi hl]
    exact enterAlign_catchJudged_shows a.isLt hi
  · rw [magnEnd_of_magnetised hm hs hr]
    exact ⟨enterRun_pgrst a s.chip, rfl, sameBut_refl [] s.chip⟩

end Sys2Proof.Machine
end

section
/-! SUPPORT. The proofs of motor control (12_motor_control), third part: the tick, the ladder, block commutation, monitoring, identification and stops. -/

namespace Sys2Proof.Machine

/-! ### What outputs leave alone below the PWM generator -/

theorem writeDuty_rd_ne {n b : Nat} (lmode duty : Nat) (c : Chip) (h : b ≠ F.PWM_L_DUTY n) : (writeDuty n lmode duty c).rd b = c.rd b := by
  have hstage (d : Chip) : (stageDuty n d).rd b = d.rd b := rfl
  rw [writeDuty, hstage, Chip.rd_set_ne _ _ _ h, Chip.rd_set_ne _ _ _ h]

theorem writeDuty_lmode (n lmode duty : Nat) (c : Chip) : (writeDuty n lmode duty c).get (F.PWM_L_DUTY_LMODE n) = lmode % 8 := by
  have hstage (d : Chip) : (stageDuty n d).get (F.PWM_L_DUTY_LMODE n) = d.get (F.PWM_L_DUTY_LMODE n) := rfl
  rw [writeDuty, hstage, Chip.get_set_ne _ _ _ _ (by simp only [F.PWM_L_DUTY_LMODE, F.PWM_L_DUTY_DUTY]; omega)]
  exact Chip.get_set_same c _ _ (by simp only [F.PWM_L_DUTY_LMODE]; omega)

theorem commitGroup_rd (g : Nat) (c : Chip) (b : Nat) : (commitGroup g c).rd b = c.rd b := by
  simp only [commitGroup]
  split
  · exact Chip.occur_keeps (fun d => d.rd b) (fun _ _ => rfl) _ _ _ _
  · rfl

theorem engineCommit_rd (g : Nat) (c : Chip) (b : Nat) : (engineCommit g c).rd b = c.rd b := by
  unfold engineCommit
  split
  · exact commitGroup_rd g c b
  · rfl

/-- Outputs staged OFF are words of the PWM generator only. -/
theorem stageOff_rd {b : Nat} (a : Nat) (c : Chip) (h : b < 0x50000) : (stageOff a c).rd b = c.rd b := by
  refine Chip.forEach_keeps_of_mem (fun d => d.rd b) (fun g _ d => ?_) c
  refine (engineCommit_rd g _ b).trans ?_
  exact Chip.forEach_keeps_of_mem (fun d => d.rd b) (fun n _ d => writeDuty_rd_ne 3 0 d (by simp only [F.PWM_L_DUTY]; omega)) d

/-! ### The tick (R386, R395) -/

theorem axisTracker_of_rd {c d : Chip} {a : Nat} (h : d.rd (F.MOT_CFG a) = c.rd (F.MOT_CFG a)) : axisTracker d a = axisTracker c a := by
  have hat : d.get (F.MOT_CFG_AT a) = c.get (F.MOT_CFG_AT a) := by simp only [Chip.get, F.MOT_CFG_AT]; exact congrArg (Word.field · _ _) h
  simp only [axisTracker, hat]

theorem updateSpe_rd {a b : Nat} (c : Chip) (h : b ≠ F.MOT_SPE a) : (updateSpe a c).rd b = c.rd b := by
  unfold updateSpe
  split
  · rfl
  · exact Chip.rd_wr_ne c _ h

theorem revbRule_rd {a b : Nat} (c : Chip) (h : b ≠ F.MOT_FLAGS a) : (revbRule a c).rd b = c.rd b := by
  simp only [revbRule]
  split_ifs
  · exact Chip.rd_setb_ne c _ _ h
  · rfl
  · rfl

theorem hfiRule_rd {a b : Nat} (c : Chip) (h : b ≠ F.MOT_FLAGS a) : (hfiRule a c).rd b = c.rd b := by
  simp only [hfiRule]
  split_ifs
  · rfl
  · rfl
  · exact (Chip.rd_raise_ne _ _ h).trans (modAxis_rd ..)
  · exact Chip.rd_setb_ne c _ _ h
  · rfl

theorem learnTick_rd {a b : Nat} (c : Chip) (h : b ≠ F.MOT_IDREF a ∧ b ≠ F.MOT_IQREF a) : (learnTick a c).rd b = c.rd b := by
  simp only [learnTick]
  split
  · exact (setRefs_rd _ _ _ h).trans (modAxis_rd ..)
  · rfl

theorem keepOff_rd {b : Nat} (a : Nat) (c : Chip) (h : b < 0x50000 ∨ axisWord b = true) : (keepOff a c).rd b = c.rd b := by
  simp only [keepOff]
  split
  · exact h.elim (stageOff_rd a c) (rd_of_axesView (axesView_stageOff a c))
  · rfl

/-- MEAS as the tick refreshes it (R395). -/
def measShown (c : Chip) (a : Nat) : Int := match axisTracker c a with
  | some t => if c.is (F.AT_STAT_VALID t) then roundDiv (c.geti (F.AT_SPD_SPD t) * 24000000000) (2 ^ 32 * polePairs c a) else 0
  | none => 0

theorem refreshMeas_meas (a : Nat) (c : Chip) : (refreshMeas a c).rd (F.MOT_MEAS a) = BitVec.ofInt 48 (measShown c a) := Chip.rd_wr_same c _ _

theorem measShown_keepOff (a : Nat) (c : Chip) : measShown (keepOff a c) a = measShown c a := by
  have hcfg : (keepOff a c).rd (F.MOT_CFG a) = c.rd (F.MOT_CFG a) := keepOff_rd a c (.inr (axisWord_high (by simp only [F.MOT_CFG]; omega)))
  have hpp : polePairs (keepOff a c) a = polePairs c a := by
    simp only [polePairs, Chip.get, F.MOT_CFG_PP]
    exact congrArg (fun w : Word => max 1 (w.field _ _)) hcfg
  unfold measShown
  rw [axisTracker_of_rd hcfg, hpp]
  cases ht : axisTracker c a with
  | none => rfl
  | some t =>
    have hlt := axisTracker_lt ht
    have hvalid : (keepOff a c).is (F.AT_STAT_VALID t) = c.is (F.AT_STAT_VALID t) := by
      simp only [Chip.is, Chip.get]
      rw [keepOff_rd a c (.inl (by simp only [F.AT_STAT_VALID]; omega))]
    have hspd : (keepOff a c).geti (F.AT_SPD_SPD t) = c.geti (F.AT_SPD_SPD t) := by
      simp only [Chip.geti, Chip.get]
      rw [keepOff_rd a c (.inl (by simp only [F.AT_SPD_SPD]; omega))]
    simp only [hvalid, hspd]

theorem motorTick_meas {a : Nat} {c : Chip} (hm : isMotor c a = true) :
    (motorTick a c).rd (F.MOT_MEAS a) = BitVec.ofInt 48 (measShown c a) := by
  rw [motorTick, if_pos hm, learnTick_rd _ (by simp only [F.MOT_MEAS, F.MOT_IDREF, F.MOT_IQREF]; omega),
    updateSpe_rd _ (by simp only [F.MOT_MEAS, F.MOT_SPE]; omega), hfiRule_rd _ (by simp only [F.MOT_MEAS, F.MOT_FLAGS]; omega),
    revbRule_rd _ (by simp only [F.MOT_MEAS, F.MOT_FLAGS]; omega), refreshMeas_meas, measShown_keepOff]

theorem exec_sequencerTick_of_going {s : State} (hg : going s.chip = true) :
    exec .sequencerTick s = .next (s.acted ((s.chip.forN 4 (fun a c => convTick a (motorTick a c))).forN 4 ascSpeed)) := by
  have hmode : s.chip.mode ≠ .reset := by
    simp only [going, Bool.and_eq_true, bne_iff_ne] at hg
    exact hg.1
  refine (running_of_going hg axesTick).trans ?_
  rw [axesTick, if_neg hmode, sequencerTick, if_neg hmode]

/-! ### The modulation ladder (R401) -/

/-- A Kerf table's next set as the ladder writes it: its origin, and the pattern found, if any. -/
def ladderStaged (t : Nat) (org : Word) (sel : Option Nat) (c : Chip) : Chip :=
  let d := (c.wr (F.KT_NORG t) org).setb (F.KT_NSEL_ENG t) sel.isSome
  commitKerf t (match sel with | some p => d.set (F.KT_NSEL_PAT t) p | none => d)

theorem commitKerf_rd {t b : Nat} (c : Chip) (h : b ≠ F.KT_COMMIT t) : (commitKerf t c).rd b = c.rd b :=
  Chip.rd_raise_ne _ (F.KT_COMMIT_PENDING t) h

theorem ladderStaged_norg (t : Nat) (org : Word) (sel : Option Nat) (c : Chip) : (ladderStaged t org sel c).rd (F.KT_NORG t) = org := by
  have hset : ((c.wr (F.KT_NORG t) org).setb (F.KT_NSEL_ENG t) sel.isSome).rd (F.KT_NORG t) = org := by
    rw [Chip.rd_setb_ne _ _ _ (by simp only [F.KT_NORG, F.KT_NSEL_ENG]; omega), Chip.rd_wr_same]
  unfold ladderStaged
  rw [commitKerf_rd _ (by simp only [F.KT_NORG, F.KT_COMMIT]; omega)]
  cases sel with
  | none => exact hset
  | some p => exact (Chip.rd_set_ne _ _ _ (by simp only [F.KT_NORG, F.KT_NSEL_PAT]; omega)).trans hset

theorem commitKerf_get {t : Nat} (c : Chip) {f : Fld} (h : f.addr ≠ F.KT_COMMIT t) : (commitKerf t c).get f = c.get f := by
  simp only [Chip.get, commitKerf_rd c h]

theorem ladderStaged_eng (t : Nat) (org : Word) (sel : Option Nat) (c : Chip) : (ladderStaged t org sel c).is (F.KT_NSEL_ENG t) = sel.isSome := by
  unfold ladderStaged
  rw [Chip.is, commitKerf_get _ (by simp only [F.KT_NSEL_ENG, F.KT_COMMIT]; omega)]
  cases sel with
  | none => exact Chip.is_setb_same _ _ _ rfl (by simp only [F.KT_NSEL_ENG]; omega)
  | some p =>
    dsimp only
    rw [Chip.get_set_ne _ _ _ _ (by simp only [F.KT_NSEL_ENG, F.KT_NSEL_PAT]; omega)]
    exact Chip.is_setb_same _ _ _ rfl (by simp only [F.KT_NSEL_ENG]; omega)

theorem ladderStaged_pat {p : Nat} (t : Nat) (org : Word) (c : Chip) (hp : p < 8) : (ladderStaged t org (some p) c).get (F.KT_NSEL_PAT t) = p := by
  unfold ladderStaged
  rw [commitKerf_get _ (by simp only [F.KT_NSEL_PAT, F.KT_COMMIT]; omega)]
  exact (Chip.get_set_same _ _ _ (by simp only [F.KT_NSEL_PAT]; omega)).trans (Nat.mod_eq_of_lt hp)

/-- A ladder that is not engaged stages the first pattern that qualifies. -/
theorem ladderTick_of_released {c : Chip} {a t : Nat} (ht : axisTracker c a = some t) (hm : isMotor c a = true) (hen : c.is (F.MOT_LAD_EN a) = true)
    (hs : c.sub a = .run) (hp : c.is (F.KT_COMMIT_PENDING t) = false) (he : c.is (F.KT_STAT_ENGD t) = false) :
    ladderTick a c = ladderStaged t (c.rd (F.MOT_LORG a) - (axisSeq c a).mon.getD 5 0)
      ((List.range 8).find? (fun p => ladderQual c a p 0 (absRat (elecHz c a)) (monRat c a 4))) c := by
  have hrun : (Sub.run == Sub.run) = true := rfl
  have hoff : (Sub.run == Sub.off) = false := rfl
  simp only [ladderTick, ht, hm, hen, hs, hp, he, hrun, hoff, Bool.and_true, Bool.true_or, Bool.not_true, Bool.or_self, Bool.false_eq_true,
    if_false, Bool.false_and, ladderStaged] <;> rfl

theorem find_range_isSome (q : Nat → Bool) (n : Nat) : ((List.range n).find? q).isSome = true ↔ ∃ p, p < n ∧ q p = true := by
  simp [List.find?_isSome]

/-- The first number that qualifies is the one found. -/
theorem find_range_of_first {q : Nat → Bool} {n p : Nat} (hp : p < n) (hq : q p = true) (h : ∀ r, r < p → q r = false) :
    (List.range n).find? q = some p := by
  rw [List.find?_range_eq_some]
  exact ⟨hq, List.mem_range.mpr hp, fun r hr => by rw [h r hr]; rfl⟩

theorem ladderTick_shows {c : Chip} {a t : Nat} (ht : axisTracker c a = some t) (hm : isMotor c a = true) (hen : c.is (F.MOT_LAD_EN a) = true)
    (hs : c.sub a = .run) (hp : c.is (F.KT_COMMIT_PENDING t) = false) (he : c.is (F.KT_STAT_ENGD t) = false) :
    (ladderTick a c).is (F.KT_COMMIT_PENDING t) = true ∧ (ladderTick a c).rd (F.KT_NORG t) = c.rd (F.MOT_LORG a) - (axisSeq c a).mon.getD 5 0 ∧
      (let q (p : Nat) : Bool := ladderQual c a p 0 (absRat (elecHz c a)) (monRat c a 4)
       ((ladderTick a c).is (F.KT_NSEL_ENG t) = true ↔ ∃ p, p < 8 ∧ q p = true) ∧
         ∀ p, p < 8 → q p = true → (∀ r, r < p → q r = false) → (ladderTick a c).get (F.KT_NSEL_PAT t) = p) := by
  rw [ladderTick_of_released ht hm hen hs hp he]
  refine ⟨commitKerf_pending t _, ladderStaged_norg t _ _ c, ?_, fun p hp8 hq hfirst => ?_⟩
  · rw [ladderStaged_eng]
    exact find_range_isSome _ 8
  · rw [find_range_of_first hp8 hq hfirst, ladderStaged_pat t _ c hp8]

/-! ### Block commutation (R403, R404) -/

/-- The legs of a sector that switch and that are held low; the other way round for a negative duty. -/
def blockLegs (s : Nat) (d : Rat) : Nat × Nat :=
  let hl : Nat × Nat := match s with
    | 0 => (0, 1) | 1 => (0, 2) | 2 => (1, 2) | 3 => (1, 0) | 4 => (2, 0) | _ => (2, 1)
  if d < 0 then (hl.2, hl.1) else hl

theorem blockLegs_apart (s : Nat) (d : Rat) : (blockLegs s d).1 < 3 ∧ (blockLegs s d).2 < 3 ∧ (blockLegs s d).1 ≠ (blockLegs s d).2 := by
  unfold blockLegs
  split <;> split_ifs <;> decide

/-- A sector's legs staged: h switches, l is held low, and the third is off. -/
def blockStaged (g h l duty : Nat) (c : Chip) : Chip :=
  writeDuty (3 * g + (3 - h - l)) 3 0 (writeDuty (3 * g + l) 5 0 (writeDuty (3 * g + h) 1 duty c))

theorem commutate_all {c : Chip} {a g : Nat} (k : Nat) (hg : (axisGroups c a).head? = some g) :
    ∃ duty : Nat, commutate a k true c = engineCommit g (modAxis a (fun q => { q with sector := some k })
      (blockStaged g (blockLegs k (monRat c a 4)).1 (blockLegs k (monRat c a 4)).2 duty c)) := by
  obtain ⟨rest, hgroups⟩ := List.head?_eq_some_iff.mp hg
  unfold commutate
  simp only [hgroups, if_true]
  unfold blockLegs blockStaged
  by_cases hd : monRat c a 4 < 0
  · simp only [hd, if_true]
    exact ⟨_, rfl⟩
  · simp only [hd, if_false]
    exact ⟨_, rfl⟩

theorem blockStaged_lmode {g h l : Nat} (duty : Nat) (c : Chip) (hh : h < 3) (hl : l < 3) (hne : h ≠ l) :
    (blockStaged g h l duty c).get (F.PWM_L_DUTY_LMODE (3 * g + h)) = 1 ∧ (blockStaged g h l duty c).get (F.PWM_L_DUTY_LMODE (3 * g + l)) = 5 ∧
      (blockStaged g h l duty c).get (F.PWM_L_DUTY_LMODE (3 * g + (3 - h - l))) = 3 := by
  have hskip {n m : Nat} (x y : Nat) (d : Chip) (h : m ≠ n) : (writeDuty n x y d).get (F.PWM_L_DUTY_LMODE m) = d.get (F.PWM_L_DUTY_LMODE m) := by
    simp only [Chip.get]
    rw [writeDuty_rd_ne x y d (by simp only [F.PWM_L_DUTY_LMODE, F.PWM_L_DUTY]; omega)]
  unfold blockStaged
  refine ⟨?_, ?_, writeDuty_lmode _ 3 0 _⟩
  · rw [hskip _ _ _ (by omega), hskip _ _ _ (by omega)]
    exact writeDuty_lmode _ 1 duty c
  · rw [hskip _ _ _ (by omega)]
    exact writeDuty_lmode _ 5 0 _

theorem commutate_lmodes {c : Chip} {a g : Nat} (k : Nat) (hg : (axisGroups c a).head? = some g) :
    ∃ h l : Nat, h < 3 ∧ l < 3 ∧ h ≠ l ∧ (commutate a k true c).get (F.PWM_L_DUTY_LMODE (3 * g + h)) = 1 ∧
      (commutate a k true c).get (F.PWM_L_DUTY_LMODE (3 * g + l)) = 5 ∧ (commutate a k true c).get (F.PWM_L_DUTY_LMODE (3 * g + (3 - h - l))) = 3 := by
  obtain ⟨duty, heq⟩ := commutate_all k hg
  obtain ⟨hh, hl, hne⟩ := blockLegs_apart k (monRat c a 4)
  have hget (d : Chip) (f : AxisSeq → AxisSeq) (b : Fld) : (engineCommit g (modAxis a f d)).get b = d.get b := by
    simp only [Chip.get]
    rw [engineCommit_rd, modAxis_rd]
  refine ⟨_, _, hh, hl, hne, ?_⟩
  rw [heq, hget, hget, hget]
  exact blockStaged_lmode duty c hh hl hne

theorem sectorChange_of_same {c : Chip} {a : Nat} (h : (axisSeq c a).sector = some (sectorOf c a)) : sectorChange a c = c := by
  simp [sectorChange, h]

theorem commutate_rd {a b : Nat} (k : Nat) (c : Chip) (hb : axisWord b = true) : (commutate a k true c).rd b = c.rd b := by
  cases hg : (axisGroups c a).head? with
  | none =>
    unfold commutate
    rw [List.head?_eq_none_iff.mp hg]
  | some g =>
    have hle : g ≤ 6 := axisGroups_le (List.mem_of_head? hg)
    obtain ⟨hh, hl, hne⟩ := blockLegs_apart k (monRat c a 4)
    obtain ⟨duty, heq⟩ := commutate_all k hg
    have hleg {n : Nat} (hn : n ≤ 20) (x y : Nat) (d : Chip) : (writeDuty n x y d).rd b = d.rd b :=
      rd_of_axesView (axesView_writeDuty x y d hn) hb
    rw [heq, engineCommit_rd, modAxis_rd, blockStaged, hleg (by omega), hleg (by omega), hleg (by omega)]

theorem sectorChange_of_other {c : Chip} {a : Nat} (hm : isMotor c a = true) (hs : c.get (F.MOT_STAT_STEP a) = 7)
    (hr : c.is (F.MOT_CFG_CRST a) = false) (h : (axisSeq c a).sector ≠ some (sectorOf c a)) :
    sectorChange a c = commutate a (sectorOf c a) true c := by
  have hcrst : (commutate a (sectorOf c a) true c).is (F.MOT_CFG_CRST a) = false := by
    simp only [Chip.is, Chip.get] at hr ⊢
    rw [commutate_rd _ _ (axisWord_high (by simp only [F.MOT_CFG_CRST]; omega)), hr]
  simp only [sectorChange, hm, hs, bne_iff_ne, ne_eq, h, not_false_eq_true, hcrst, beq_self_eq_true, Bool.and_self, Bool.true_and, if_true,
    Bool.false_eq_true, if_false]

/-! ### Presets of the observers (R416) -/

theorem observerPreset_of_angle {c : Chip} {a : Nat} {w : Word} (hi : programIdle c a = true) (hr : resetWaits c a = false)
    (hf : (axisSeq c a).fluxDue = none) (ha : (axisSeq c a).angDue = some (.value w)) (he : c.is (F.MOT_OBS_AIEN a) = true) :
    observerPreset a c = modAxis a (fun q => { q with fluxDue := none, angDue := none }) (presetWord a (c.get (F.MOT_OBS_AIBLK a)) 0 w.toInt c) := by
  simp only [observerPreset, hi, hr, hf, ha, he, Bool.not_true, Bool.or_self, Bool.false_eq_true, if_false, if_true]

/-! ### Back-EMF monitoring (R422) -/

theorem twoPi_pos : 0 < twoPi := by
  unfold twoPi twoTo
  norm_num

/-- The ratio of R422, of the voltage that the magnets induce to the one expected of PSI. -/
def kemfRatio (c : Chip) (a : Nat) : Rat :=
  let w : Rat := twoPi * elecHz c a
  (monRat c a 1 - coefRat (c.rd (F.MOT_RS_RS a).addr) * monRat c a 3 - w * coefRat (c.rd (F.MOT_LD_LD a).addr) * monRat c a 2) /
    (w * coefRat (c.rd (F.MOT_PSI_PSI a).addr))

/-- The ratio shown, and its evaluations outside the limits counted and told. -/
def kemfJudged (a : Nat) (r : Rat) (c : Chip) : Chip :=
  let d := c.set (F.MOT_KER_RATIO a) (clampInt 0 0xFFFFFF (roundRat (r * 65536))).toNat
  let outside (x : Nat) : Bool := decide (((x : Nat) : Rat) / 1000 < absRat (r - 1))
  let ow := outside (d.get (F.MOT_KE_KEW a))
  let ok := outside (d.get (F.MOT_KE_KEF a))
  let e := modAxis a (fun q => { q with keWarn := if ow then q.keWarn + 1 else 0, keFault := if ok then q.keFault + 1 else 0 }) d
  let w := if e.get (F.MOT_KE_KEN a) ≤ (axisSeq e a).keWarn then (e.raise (F.MOT_STAT_KEWARN a)).evAxmon a else e
  if e.get (F.MOT_KE_KEN a) ≤ (axisSeq w a).keFault then w.notice (.axis a .kemf) else w

theorem kemfEvaluation_of_running {c : Chip} {a : Nat} (hf : axisFunc c a = 1) (hpsi : coefRat (c.rd (F.MOT_PSI a)) ≠ 0) (hs : c.sub a = .run)
    (hsync : c.is (F.MOT_FLAGS_SYNC a) = false) (hne : elecHz c a ≠ 0) (hmin : ((c.get (F.MOT_KE_KEMIN a) : Nat) : Rat) ≤ absRat (elecHz c a)) :
    kemfEvaluation a c = kemfJudged a (kemfRatio c a) c := by
  have hw : twoPi * elecHz c a ≠ 0 := mul_ne_zero twoPi_pos.ne' hne
  have hfunc : (axisFunc c a == 1) = true := beq_iff_eq.mpr hf
  have hpsi' : (coefRat (c.rd (F.MOT_PSI_PSI a).addr) != 0) = true := bne_iff_ne.mpr hpsi
  have hsub : (c.sub a == .run) = true := beq_iff_eq.mpr hs
  have hlow : decide (absRat (elecHz c a) < ((c.get (F.MOT_KE_KEMIN a) : Nat) : Rat)) = false := decide_eq_false (not_lt.mpr hmin)
  simp only [kemfEvaluation, hfunc, hpsi', hsub, hsync, hlow, Bool.and_self, Bool.not_true, Bool.not_false, Bool.or_self, Bool.false_eq_true, if_false,
    if_neg hw] <;> rfl

/-- A ratio is kept within its 24 bits. -/
theorem clampInt_toNat_lt (z : Int) : (clampInt 0 0xFFFFFF z).toNat < 2 ^ 24 := by
  unfold clampInt
  omega

theorem kemfJudged_ratio (a : Nat) (r : Rat) (c : Chip) :
    (kemfJudged a r c).get (F.MOT_KER_RATIO a) = (clampInt 0 0xFFFFFF (roundRat (r * 65536))).toNat := by
  have hset : (c.set (F.MOT_KER_RATIO a) (clampInt 0 0xFFFFFF (roundRat (r * 65536))).toNat).get (F.MOT_KER_RATIO a) =
      (clampInt 0 0xFFFFFF (roundRat (r * 65536))).toNat := by
    rw [Chip.get_set_same _ _ _ (by simp only [F.MOT_KER_RATIO]; omega)]
    exact Nat.mod_eq_of_lt (clampInt_toNat_lt _)
  have hraise (d : Chip) : ((d.raise (F.MOT_STAT_KEWARN a)).evAxmon a).get (F.MOT_KER_RATIO a) = d.get (F.MOT_KER_RATIO a) := by
    rw [Chip.evAxmon, Chip.get_evt_ne _ _ _ _ (by simp only [F.MOT_KER_RATIO]; omega),
      Chip.get_raise_ne _ _ _ (by simp only [F.MOT_KER_RATIO, F.MOT_STAT_KEWARN]; omega)]
  have hnotice (d : Chip) (x : Notice) : (d.notice x).get (F.MOT_KER_RATIO a) = d.get (F.MOT_KER_RATIO a) := rfl
  simp only [kemfJudged]
  split_ifs <;> simp only [hnotice, hraise, modAxis_get, hset]

/-! ### Identification (R423, R424) -/

theorem roundRat_zero : roundRat 0 = 0 := by simp [roundRat, roundDiv]

theorem beginPhase_one (a : Nat) (c : Chip) : beginPhase a 1 c = setRefs a ((c.get (F.MOT_IDC_IDI a) : Nat) : Rat) 0 (modAxis a (fun q => { q with phase := 1, samples := [] }) c) := rfl

theorem setRefs_idref (a : Nat) (x y : Rat) (c : Chip) : (setRefs a x y c).rd (F.MOT_IDREF a) = BitVec.ofInt 48 (roundRat (x * 65536)) := by
  have hne : F.MOT_IDREF a ≠ (F.MOT_IQREF_IQREF a).addr := by simp only [F.MOT_IDREF, F.MOT_IQREF_IQREF]; omega
  exact (Chip.rd_wr_ne _ _ hne).trans (Chip.rd_wr_same c _ _)

theorem setRefs_iqref (a : Nat) (x y : Rat) (c : Chip) : (setRefs a x y c).rd (F.MOT_IQREF a) = BitVec.ofInt 48 (roundRat (y * 65536)) := Chip.rd_wr_same ..

theorem idTestEnd_of_first {c : Chip} {a : Nat} (hi : identifying c a = true) (ht : (axisSeq c a).task = some 2) (hp : (axisSeq c a).phase = 0) :
    ∃ f : AxisSeq → AxisSeq, idTestEnd a c = beginPhase a 1 (modAxis a f c) := by
  have htask : ((axisSeq c a).task == some 2) = true := beq_iff_eq.mpr ht
  simp only [idTestEnd, hi, htask, hp, Bool.and_self, Bool.not_true, Bool.false_eq_true, if_false]
  exact ⟨_, rfl⟩

theorem idTestEnd_refs {c : Chip} {a : Nat} (hi : identifying c a = true) (ht : (axisSeq c a).task = some 2) (hp : (axisSeq c a).phase = 0) :
    (idTestEnd a c).rd (F.MOT_IDREF a) = BitVec.ofInt 48 (roundRat (((c.get (F.MOT_IDC_IDI a) : Nat) : Rat) * 65536)) ∧
      (idTestEnd a c).rd (F.MOT_IQREF a) = 0 := by
  obtain ⟨f, heq⟩ := idTestEnd_of_first hi ht hp
  rw [heq, beginPhase_one, setRefs_idref, setRefs_iqref, modAxis_get, zero_mul, roundRat_zero]
  exact ⟨rfl, rfl⟩

/-! ### Stops and OFF (R38, R418) -/

/-- What OFF shows of an axis: its substate, the idle sequencer as owner, and no flag of the sequencer. -/
def offShown (a : Nat) (c : Chip) : Chip :=
  ((((setStep a 0 true (setSub a .off c)).setb (F.MOT_FLAGS_REVB a) false).setb (F.MOT_FLAGS_INJQ a) false).setb (F.MOT_FLAGS_HFI a) false).setb
    (F.MOT_FLAGS_SEQREF a) false

/-- An engaged table of an axis is asked to release. -/
def ladderReleased (a : Nat) (c : Chip) : Chip :=
  match axisTracker c a with
  | some t => if isMotor c a && c.is (F.MOT_LAD_EN a) && c.is (F.KT_STAT_ENGD t) then commitKerf t (c.setb (F.KT_NSEL_ENG t) false) else c
  | none => c

theorem axesView_ladderReleased (a : Nat) (c : Chip) : axesView (ladderReleased a c) = axesView c := by
  unfold ladderReleased
  cases ht : axisTracker c a with
  | none => rfl
  | some t =>
    have hlt := axisTracker_lt ht
    dsimp only
    split
    · rw [axesView_commitKerf _ hlt, axesView_setb _ (axisWord_tracker (by simp only [F.KT_NSEL_ENG]; omega))]
    · rfl

theorem enterOff_eq (a : Nat) (c : Chip) : enterOff a c = updateSpe a (ladderReleased a (stageOff a (modAxis a
    (fun q => { mon := q.mon, tasks := q.tasks, task := q.task, phase := q.phase, failed := q.failed }) (offShown a c)))) := rfl

/-- The words of an axis beside its set-point are, once it is OFF, those that OFF shows. -/
theorem enterOff_rd {a b : Nat} (c : Chip) (hb : axisWord b = true) (hspe : b ≠ F.MOT_SPE a) : (enterOff a c).rd b = (offShown a c).rd b := by
  rw [enterOff_eq, updateSpe_rd _ hspe, rd_of_axesView (axesView_ladderReleased a _) hb, rd_of_axesView (axesView_stageOff a _) hb, modAxis_rd]

theorem enterOff_get {a : Nat} (c : Chip) {f : Fld} (hb : axisWord f.addr = true) (hspe : f.addr ≠ F.MOT_SPE a) :
    (enterOff a c).get f = (offShown a c).get f := by
  simp only [Chip.get, enterOff_rd c hb hspe]

theorem offShown_rd {a b : Nat} (c : Chip) (h : b ≠ F.MOT_FLAGS a) : (offShown a c).rd b = (setStep a 0 true (setSub a .off c)).rd b := by
  rw [offShown, Chip.rd_setb_ne _ _ _ h, Chip.rd_setb_ne _ _ _ h, Chip.rd_setb_ne _ _ _ h, Chip.rd_setb_ne _ _ _ h]

theorem enterOff_sub {a : Nat} (c : Chip) (ha : a < 4) : (enterOff a c).sub a = .off := by
  refine (Chip.sub_of_rd ?_).trans (setSub_sub .off c ha)
  rw [enterOff_rd c (by decide) (by simp only [F.MOT_SPE]; omega), offShown_rd c (by simp only [F.MOT_FLAGS]; omega),
    setStep_rd _ _ _ (by simp only [F.MOT_STAT]; omega)]

theorem enterOff_stat {a : Nat} (c : Chip) {f : Fld} (h : f.addr = F.MOT_STAT a) : (enterOff a c).get f = (setStep a 0 true (setSub a .off c)).get f := by
  rw [enterOff_get c (axisWord_high (by rw [h]; simp only [F.MOT_STAT]; omega)) (by rw [h]; simp only [F.MOT_STAT, F.MOT_SPE]; omega)]
  simp only [Chip.get]
  rw [offShown_rd c (by rw [h]; simp only [F.MOT_STAT, F.MOT_FLAGS]; omega)]

theorem enterOff_step (a : Nat) (c : Chip) : (enterOff a c).get (F.MOT_STAT_STEP a) = 0 :=
  (enterOff_stat c rfl).trans (setStep_step true _ (by decide))

theorem enterOff_own (a : Nat) (c : Chip) : (enterOff a c).is (F.MOT_STAT_OWN a) = true := by
  rw [Chip.is, enterOff_stat c rfl]
  exact setStep_own a 0 true _

/-- A cause of a stop stays shown in OFF. -/
theorem enterOff_stopto (a : Nat) (c : Chip) : (enterOff a c).is (F.MOT_STAT_STOPTO a) = c.is (F.MOT_STAT_STOPTO a) := by
  rw [Chip.is, enterOff_stat c rfl, setStep, Chip.get_setb_ne _ _ _ _ (by simp only [F.MOT_STAT_STOPTO, F.MOT_STAT_OWN]; omega),
    Chip.get_set_ne _ _ _ _ (by simp only [F.MOT_STAT_STOPTO, F.MOT_STAT_STEP]; omega),
    setSub_get _ _ (by simp only [F.MOT_STAT_STOPTO, F.MOT_FLAGS]; omega)]
  rfl

/-- A flag of the sequencer beside those that OFF clears is the substate's. -/
theorem enterOff_flag {a : Nat} (c : Chip) {f : Fld} (ha : f.addr = F.MOT_FLAGS a)
    (h : ∀ g ∈ [F.MOT_FLAGS_REVB a, F.MOT_FLAGS_INJQ a, F.MOT_FLAGS_HFI a, F.MOT_FLAGS_SEQREF a], g.lo + g.width ≤ f.lo ∨ f.lo + f.width ≤ g.lo)
    (hs : c.sub a ≠ .off) : (enterOff a c).get f = (subShown a .off c).get f := by
  simp only [List.forall_mem_cons, List.not_mem_nil, false_imp_iff, implies_true, and_true] at h
  obtain ⟨hrevb, hinjq, hhfi, hseq⟩ := h
  rw [enterOff_get c (axisWord_high (by rw [ha]; simp only [F.MOT_FLAGS]; omega)) (by rw [ha]; simp only [F.MOT_FLAGS, F.MOT_SPE]; omega), offShown,
    Chip.get_setb_ne _ _ _ _ (.inr hseq), Chip.get_setb_ne _ _ _ _ (.inr hhfi), Chip.get_setb_ne _ _ _ _ (.inr hinjq),
    Chip.get_setb_ne _ _ _ _ (.inr hrevb), setSub_of_other hs, if_neg (by decide)]
  simp only [Chip.get]
  rw [setStep_rd _ _ _ (by rw [ha]; simp only [F.MOT_FLAGS, F.MOT_STAT]; omega)]

theorem enterOff_run {a : Nat} (c : Chip) (hs : c.sub a ≠ .off) : (enterOff a c).is (F.MOT_FLAGS_RUN a) = false := by
  rw [Chip.is, enterOff_flag c rfl (by simp [F.MOT_FLAGS_REVB, F.MOT_FLAGS_INJQ, F.MOT_FLAGS_HFI, F.MOT_FLAGS_SEQREF, F.MOT_FLAGS_RUN]) hs]
  exact Chip.is_setb_same _ _ _ rfl (by simp only [F.MOT_FLAGS_RUN]; omega)

theorem enterOff_stop {a : Nat} (c : Chip) (hs : c.sub a ≠ .off) : (enterOff a c).is (F.MOT_FLAGS_STOP a) = false := by
  rw [Chip.is, enterOff_flag c rfl (by simp [F.MOT_FLAGS_REVB, F.MOT_FLAGS_INJQ, F.MOT_FLAGS_HFI, F.MOT_FLAGS_SEQREF, F.MOT_FLAGS_STOP]) hs,
    subShown, Chip.get_setb_ne _ _ _ _ (by simp only [F.MOT_FLAGS_STOP, F.MOT_FLAGS_RUN]; omega)]
  exact Chip.is_setb_same _ _ _ rfl (by simp only [F.MOT_FLAGS_STOP]; omega)

theorem motorStopTimeout_shows {c : Chip} {a : Nat} (ha : a < 4) (hs : stopActs c a = true) (ht : c.get (F.MOT_CVS_STOPTMO a) ≠ 0) :
    (motorStopTimeout a c).is (F.MOT_STAT_STOPTO a) = true ∧ (motorStopTimeout a c).sub a = .off := by
  have hact : motorStopTimeout a c = enterOff a (c.raise (F.MOT_STAT_STOPTO a)) := by simp [motorStopTimeout, hs, ht]
  rw [hact, enterOff_stopto]
  exact ⟨Chip.is_raise_same _ _ rfl (by simp only [F.MOT_STAT_STOPTO]; omega), enterOff_sub _ ha⟩

/-- Settles O52: each event is brought to the branch that its premises choose; the words of the axis are read past the outputs staged beside them. -/
theorem runningIdentifyingAndStoppingAxes : Obligations.RunningIdentifyingAndStoppingAxes := by
  unfold Obligations.RunningIdentifyingAndStoppingAxes
  refine ⟨fun s hg => exec_sequencerTick_of_going hg,
    fun a c _ hm => motorTick_meas hm,
    fun s a t hg ht hm hen hs hp he => ⟨_, running_of_going hg (ladderTick a), ladderTick_shows ht hm hen hs hp he⟩,
    fun s a hg _ _ h => (running_of_going hg (sectorChange a)).trans (by rw [sectorChange_of_same h]),
    fun s a hg hm hs hr h => (running_of_going hg (sectorChange a)).trans (by rw [sectorChange_of_other hm hs hr h]),
    fun c a k g _ _ _ hg => commutate_lmodes k hg,
    fun s a w hg hi hr hf ha he => (running_of_going hg (observerPreset a)).trans (by rw [observerPreset_of_angle hi hr hf ha he]),
    fun s a hg hf hpsi hs hsync hne hmin => ⟨_, running_of_going hg (kemfEvaluation a), ?_⟩,
    fun s a hg hi ht hp => ⟨_, running_of_going hg (idTestEnd a), idTestEnd_refs hi ht hp⟩,
    fun s a hg hs hlow => (running_of_going hg (motorStopComplete a)).trans (by simp [motorStopComplete, hs, hlow]),
    fun s a hg hs ht => ⟨_, running_of_going hg (motorStopTimeout a), motorStopTimeout_shows a.isLt hs ht⟩,
    fun c a ha => ⟨enterOff_sub c ha, enterOff_step a c, enterOff_own a c, fun hs => ⟨enterOff_run c hs, enterOff_stop c hs⟩⟩⟩
  rw [kemfEvaluation_of_running hf hpsi hs hsync hne hmin]
  exact kemfJudged_ratio a (kemfRatio s.chip a) s.chip

end Sys2Proof.Machine
end

section
/-! SUPPORT. The proofs of charge conversion (13_charge_conversion): starts, the power budget and stops. -/

namespace Sys2Proof.Machine

/-! ### Starts (R437 to R439) -/

/-- The compare unit's words of an armed restart (R438), before the unit takes note of them. -/
def restartArmed (n mask : Nat) (tgt : Word) (c : Chip) : Chip :=
  ((((c.wr (F.NWT_NCn_TGT n) tgt).set (F.NWT_NCn_CTL_PERIOD n) 0).set (F.NWT_NCn_CTL_ACTION n) 3).set (F.NWT_NCn_CTL_ARG n) mask).raise
    (F.NWT_NCn_CTL_ARM n)

theorem restartArmed_target (n mask : Nat) (tgt : Word) (c : Chip) : (restartArmed n mask tgt c).rd (F.NWT_NCn_TGT n) = tgt := by
  have hctl : F.NWT_NCn_TGT n ≠ F.NWT_NCn_CTL n := by simp only [F.NWT_NCn_TGT, F.NWT_NCn_CTL]; omega
  rw [restartArmed, Chip.rd_raise_ne _ _ hctl, Chip.rd_set_ne _ _ _ hctl, Chip.rd_set_ne _ _ _ hctl, Chip.rd_set_ne _ _ _ hctl, Chip.rd_wr_same]

theorem restartArmed_action (n mask : Nat) (tgt : Word) (c : Chip) : (restartArmed n mask tgt c).get (F.NWT_NCn_CTL_ACTION n) = 3 := by
  rw [restartArmed, Chip.get_raise_ne _ _ _ (by simp only [F.NWT_NCn_CTL_ACTION, F.NWT_NCn_CTL_ARM]; omega),
    Chip.get_set_ne _ _ _ _ (by simp only [F.NWT_NCn_CTL_ACTION, F.NWT_NCn_CTL_ARG]; omega)]
  exact Chip.get_set_same _ _ _ (by simp only [F.NWT_NCn_CTL_ACTION]; omega)

theorem restartArmed_rd {n b : Nat} (mask : Nat) (tgt : Word) (c : Chip) (h : b ≠ F.NWT_NCn_TGT n ∧ b ≠ F.NWT_NCn_CTL n) :
    (restartArmed n mask tgt c).rd b = c.rd b := by
  rw [restartArmed, Chip.rd_raise_ne _ _ h.2, Chip.rd_set_ne _ _ _ h.2, Chip.rd_set_ne _ _ _ h.2, Chip.rd_set_ne _ _ _ h.2, Chip.rd_wr_ne _ _ h.1]

theorem ncArmed_rd (n b : Nat) (c : Chip) : (ncArmed n c).rd b = c.rd b := rfl

theorem setCstep_same {a v : Nat} (c : Chip) (h : v < 16) : (setCstep a v c).get (F.CNV_STAT_CSTEP a) = v :=
  (Chip.get_set_same c _ _ (by simp only [F.CNV_STAT_CSTEP]; omega)).trans (Nat.mod_eq_of_lt h)

theorem setCstep_get {a : Nat} (v : Nat) (c : Chip) {f : Fld} (h : f.addr ≠ F.CNV_STAT a) : (setCstep a v c).get f = c.get f :=
  Chip.get_set_ne _ _ _ _ (.inl h)

theorem setCstep_fnow (a v : Nat) (c : Chip) : (setCstep a v c).fnow = c.fnow := rfl

/-- Entry into ARM without interleaving: the restart is armed 100 µs ahead. -/
theorem enterArm_eq {a : Nat} {c : Chip} (h : c.is (F.CNV_ILV_EN a) = false) :
    ∃ mask : Nat, enterArm a c = ncArmed (c.get (F.CNV_ILV_NC a)) (restartArmed (c.get (F.CNV_ILV_NC a)) mask (c.fnow + 100000) (setCstep a 2 c)) := by
  have hilv {f : Fld} (hf : f.addr = F.CNV_ILV a) : (setCstep a 2 c).get f = c.get f :=
    setCstep_get 2 c (by rw [hf]; simp only [F.CNV_ILV, F.CNV_STAT]; omega)
  have hen : (setCstep a 2 c).is (F.CNV_ILV_EN a) = false := by rw [Chip.is, hilv rfl]; exact h
  unfold enterArm
  simp only [hen, hilv (f := F.CNV_ILV_NC a) rfl, setCstep_fnow, Bool.false_eq_true, if_false]
  exact ⟨_, rfl⟩

theorem enterArm_shows {a : Nat} {c : Chip} (h : c.is (F.CNV_ILV_EN a) = false) :
    (enterArm a c).get (F.CNV_STAT_CSTEP a) = 2 ∧ (enterArm a c).rd (F.NWT_NCn_TGT (c.get (F.CNV_ILV_NC a))) = c.fnow + 100000 ∧
      (enterArm a c).get (F.NWT_NCn_CTL_ACTION (c.get (F.CNV_ILV_NC a))) = 3 := by
  obtain ⟨mask, heq⟩ := enterArm_eq h
  have hnc : c.get (F.CNV_ILV_NC a) < 16 := Word.field_lt _ _ _
  rw [heq]
  refine ⟨?_, ?_, ?_⟩
  · rw [Chip.get, ncArmed_rd, restartArmed_rd _ _ _ (by simp only [F.CNV_STAT_CSTEP, F.NWT_NCn_TGT, F.NWT_NCn_CTL]; omega)]
    exact setCstep_same c (by decide)
  · rw [ncArmed_rd, restartArmed_target]
  · rw [Chip.get, ncArmed_rd]
    exact restartArmed_action _ mask _ _

theorem gsyncSteady_of_steady {c : Chip} {a t : Nat} (hc : isConverter c a = true) (hs : c.get (F.CNV_STAT_CSTEP a) = 1)
    (ht : axisTracker c a = some t) (hv : c.is (F.AT_STAT_VALID t) = true) (hf : c.is (F.AT_STAT_SRCFLT t) = false)
    (hg : ((c.get (F.CNV_MON_VGMIN a) : Nat) : Rat) ≤ cnvRat c a 3) : gsyncSteady a c = enterArm a c := by
  simp [gsyncSteady, hc, hs, ht, hv, hf, hg]

/-! ### The budget (R444, R445) -/

theorem roundRat_natCast (n : Nat) : roundRat (n : Rat) = n := by
  simp only [roundRat, roundDiv, Rat.num_natCast, Rat.den_natCast]
  omega

theorem showBudget_get (c : Chip) {f : Fld} (h : f.addr ≠ F.CNV_BSTAT ∧ f.addr ≠ F.CNV_BFLG ∨ f.addr = F.CNV_BFLG ∧ f.lo + f.width ≤ 32 ∨
    f = F.CNV_BSTAT_GRANT) : (showBudget c).get f = c.get f := by
  have hrem : f.addr ≠ F.CNV_BFLG_RAMPREM.addr ∨ 48 ≤ f.lo ∨ f.lo + f.width ≤ 32 := by
    rcases h with h | h | rfl
    · exact .inl h.2
    · exact .inr (.inr h.2)
    · exact .inl (by decide)
  have hstat {g : Fld} (hg : g = F.CNV_BSTAT_USE ∨ g = F.CNV_BSTAT_BL) : f.addr ≠ g.addr ∨ g.lo + g.width ≤ f.lo ∨ f.lo + f.width ≤ g.lo := by
    have hga : g.addr = F.CNV_BSTAT ∧ g.lo + g.width ≤ 32 := by rcases hg with rfl | rfl <;> decide
    rcases h with h | h | rfl
    · exact .inl (by rw [hga.1]; exact h.1)
    · exact .inl (by rw [hga.1, h.1]; decide)
    · exact .inr (.inl (by simpa [F.CNV_BSTAT_GRANT] using hga.2))
  unfold showBudget
  rw [Chip.get_set_ne _ _ _ _ hrem, Chip.get_set_ne _ _ _ _ (hstat (.inl rfl)), Chip.get_set_ne _ _ _ _ (hstat (.inr rfl))]

/-- A flag of the budget beside what the budget shows. -/
theorem showBudget_flag (c : Chip) {f : Fld} (ha : f.addr = F.CNV_BFLG) (h : f.lo + f.width ≤ 32) : (showBudget c).is f = c.is f := by
  simp only [Chip.is, showBudget_get c (.inr (.inl ⟨ha, h⟩))]

theorem showBudget_conv (c : Chip) : (showBudget c).conv = c.conv := rfl
theorem showBudget_notices (c : Chip) : (showBudget c).notices = c.notices := rfl

theorem setBl_is (q : Rat) (c : Chip) (f : Fld) : (setBl q c).is f = c.is f := rfl
theorem setBl_conv (q : Rat) (c : Chip) : (setBl q c).conv = { c.conv with bl := (roundRat (q * 65536)).toNat } := rfl
theorem Chip.conv_setb (c : Chip) (f : Fld) (b : Bool) : (c.setb f b).conv = c.conv := rfl

theorem overEnds_of_within {c : Chip} (h : c.is F.CNV_BFLG_BUDGET_OVER = false) : overEnds c = c := by
  simp [overEnds, h]

/-- A tick of a budget that ramps and is not overrun ends with the lowered limit, or with the grant and the ramp over. -/
theorem budgetTick_of_ramp {c : Chip} (hr : c.is F.CNV_BFLG_RAMP = true) (ho : c.is F.CNV_BFLG_BUDGET_OVER = false) (hd : c.conv.deadline = none) :
    budgetTick c = showBudget
      (let gw : Rat := ((100 * c.get F.CNV_BSTAT_GRANT : Nat) : Rat)
       let bl := blW c - ((c.get F.CNV_BCFG_BSLEW : Nat) : Rat)
       if bl ≤ gw then (setBl gw c).setb F.CNV_BFLG_RAMP false else setBl bl c) := by
  have hdone (q : Rat) : overEnds ((setBl q c).setb F.CNV_BFLG_RAMP false) = (setBl q c).setb F.CNV_BFLG_RAMP false :=
    overEnds_of_within (by rw [Chip.is, Chip.get_setb_ne _ _ _ _ (by decide)]; exact ho)
  have hgoes (q : Rat) : overEnds (setBl q c) = setBl q c := overEnds_of_within ho
  by_cases hb : blW c - ((c.get F.CNV_BCFG_BSLEW : Nat) : Rat) ≤ ((100 * c.get F.CNV_BSTAT_GRANT : Nat) : Rat)
  · simp only [budgetTick, hr, if_true, if_pos hb, hdone, Chip.conv_setb, setBl_conv, hd, Bool.false_eq_true, if_false]
  · simp only [budgetTick, hr, if_true, if_neg hb, hgoes, setBl_conv, hd, Bool.false_eq_true, if_false]

theorem budgetTick_lowers {c : Chip} (hr : c.is F.CNV_BFLG_RAMP = true) (ho : c.is F.CNV_BFLG_BUDGET_OVER = false) (hd : c.conv.deadline = none)
    (hb : ((100 * c.get F.CNV_BSTAT_GRANT : Nat) : Rat) < blW c - ((c.get F.CNV_BCFG_BSLEW : Nat) : Rat)) :
    (budgetTick c).is F.CNV_BFLG_RAMP = true ∧
      (budgetTick c).conv.bl = (roundRat ((blW c - ((c.get F.CNV_BCFG_BSLEW : Nat) : Rat)) * 65536)).toNat := by
  rw [budgetTick_of_ramp hr ho hd]
  simp only [if_neg (not_le.mpr hb)]
  rw [showBudget_flag _ rfl (by decide), setBl_is, showBudget_conv, setBl_conv]
  exact ⟨hr, rfl⟩

theorem budgetTick_ends {c : Chip} (hr : c.is F.CNV_BFLG_RAMP = true) (ho : c.is F.CNV_BFLG_BUDGET_OVER = false) (hd : c.conv.deadline = none)
    (hb : blW c - ((c.get F.CNV_BCFG_BSLEW : Nat) : Rat) ≤ ((100 * c.get F.CNV_BSTAT_GRANT : Nat) : Rat)) :
    (budgetTick c).is F.CNV_BFLG_RAMP = false ∧ (budgetTick c).conv.bl = 100 * c.get F.CNV_BSTAT_GRANT * 65536 := by
  have hround : (roundRat (((100 * c.get F.CNV_BSTAT_GRANT : Nat) : Rat) * 65536)).toNat = 100 * c.get F.CNV_BSTAT_GRANT * 65536 := by
    have := roundRat_natCast (100 * c.get F.CNV_BSTAT_GRANT * 65536)
    rw [Nat.cast_mul] at this
    exact (congrArg Int.toNat this).trans (Int.toNat_natCast _)
  rw [budgetTick_of_ramp hr ho hd]
  simp only [if_pos hb]
  rw [showBudget_flag _ rfl (by decide), showBudget_conv, Chip.conv_setb, setBl_conv]
  exact ⟨Chip.is_setb_same _ _ _ rfl (by decide), hround⟩

/-- Use over the grant at the deadline of a cut is the budget's fault. -/
def budgetFailed (c : Chip) : Chip :=
  (({ c with conv := { c.conv with deadline := none } }.setb F.CNV_BFLG_BUDGET_OVER false).raise F.CNV_BFLG_BUDFLT).notice (.device .budflt)

theorem budgetDeadline_of_over {c : Chip} (ho : c.is F.CNV_BFLG_BUDGET_OVER = true) (hd : c.conv.deadline.isSome) (hu : grantLimit c < budgetUse c) :
    budgetDeadline c = showBudget (budgetFailed c) := by
  have hnot : overEnds c = c := by simp [overEnds, hu]
  simp only [budgetDeadline, hnot, hd, if_true, deadlineReached, ho, budgetFailed]

theorem budgetFailed_over (c : Chip) : (budgetFailed c).is F.CNV_BFLG_BUDGET_OVER = false := by
  rw [budgetFailed, notice_is, Chip.is, Chip.get_raise_ne _ _ _ (by decide)]
  exact Chip.is_setb_same _ _ _ rfl (by decide)

theorem budgetFailed_fault (c : Chip) : (budgetFailed c).is F.CNV_BFLG_BUDFLT = true := by
  rw [budgetFailed, notice_is]
  exact Chip.is_raise_same _ _ rfl (by decide)

theorem budgetDeadline_fails {c : Chip} (ho : c.is F.CNV_BFLG_BUDGET_OVER = true) (hd : c.conv.deadline.isSome) (hu : grantLimit c < budgetUse c) :
    (budgetDeadline c).is F.CNV_BFLG_BUDFLT = true ∧ (budgetDeadline c).is F.CNV_BFLG_BUDGET_OVER = false ∧ (budgetDeadline c).conv.deadline = none ∧
      (budgetDeadline c).notices = c.notices ++ [.device .budflt] := by
  rw [budgetDeadline_of_over ho hd hu, showBudget_flag _ rfl (by decide), showBudget_flag _ rfl (by decide), showBudget_conv, showBudget_notices]
  exact ⟨budgetFailed_fault c, budgetFailed_over c, rfl, rfl⟩

/-- A use back within the tolerance ends the overrun. -/
def overCleared (c : Chip) : Chip := { c.setb F.CNV_BFLG_BUDGET_OVER false with conv := { c.conv with deadline := none } }

theorem overCleared_is (c : Chip) (f : Fld) : (overCleared c).is f = (c.setb F.CNV_BFLG_BUDGET_OVER false).is f := rfl

theorem budgetDeadline_of_within {c : Chip} (ho : c.is F.CNV_BFLG_BUDGET_OVER = true) (hu : budgetUse c ≤ grantLimit c) :
    budgetDeadline c = showBudget (overCleared c) := by
  simp [budgetDeadline, overEnds, ho, hu, overCleared]

theorem budgetDeadline_ends {c : Chip} (ho : c.is F.CNV_BFLG_BUDGET_OVER = true) (hu : budgetUse c ≤ grantLimit c) :
    (budgetDeadline c).is F.CNV_BFLG_BUDGET_OVER = false ∧ (budgetDeadline c).conv.deadline = none ∧
      (budgetDeadline c).is F.CNV_BFLG_BUDFLT = c.is F.CNV_BFLG_BUDFLT := by
  rw [budgetDeadline_of_within ho hu, showBudget_flag _ rfl (by decide), showBudget_flag _ rfl (by decide), showBudget_conv, overCleared_is, overCleared_is]
  refine ⟨Chip.is_setb_same _ _ _ rfl (by decide), rfl, ?_⟩
  rw [Chip.is, Chip.get_setb_ne _ _ _ _ (by decide), Chip.is]

/-! ### The lease of the bus grant (R444) -/

/-- The lease has run out, before the grant follows. -/
def leaseEnded (c : Chip) : Chip := (c.setb F.CNV_BFLG_BUSOK false).raise F.CNV_BFLG_LEASE

theorem leaseExpiry_of_leased {c : Chip} (hb : c.is F.CNV_BFLG_BUSOK = true) (ht : c.get F.CNV_BCFG_BTMO ≠ 0) (hf : c.conv.frameUp ≠ some c.up) :
    leaseExpiry c = grantUpdate false (leaseEnded c) := by
  simp [leaseExpiry, hb, ht, hf, leaseEnded]

theorem leaseEnded_lease (c : Chip) : (leaseEnded c).is F.CNV_BFLG_LEASE = true := Chip.is_raise_same _ _ rfl (by decide)

theorem leaseEnded_busok (c : Chip) : (leaseEnded c).is F.CNV_BFLG_BUSOK = false := by
  rw [leaseEnded, Chip.is, Chip.get_raise_ne _ _ _ (by decide)]
  exact Chip.is_setb_same _ _ _ rfl (by decide)

theorem leaseEnded_get (c : Chip) {f : Fld} (h : f.addr ≠ F.CNV_BFLG) : (leaseEnded c).get f = c.get f := by
  rw [leaseEnded, Chip.get_raise_ne _ _ _ (.inl h), Chip.get_setb_ne _ _ _ _ (.inl h)]

/-- With the bus alone as source, an ended lease leaves the fall-back grant. -/
theorem grantOf_leaseEnded {c : Chip} (h : c.get F.CNV_BCFG_BSRC = 1) : grantOf (leaseEnded c) = c.get F.CNV_BLIM_BFALL := by
  have hsrc : (leaseEnded c).get F.CNV_BCFG_BSRC = 1 := (leaseEnded_get c (by decide)).trans h
  simp only [grantOf, hsrc, busGrant, leaseEnded_lease, if_true]
  exact leaseEnded_get c (by decide)

theorem grantMerge_of_bus {c : Chip} (frame : Bool) (h : c.get F.CNV_BCFG_BSRC = 1) : grantMerge frame c = c := by
  unfold grantMerge
  split
  · simp [h]
  · rfl

/-- The grant in force and the flags of the bus. -/
def grantView (c : Chip) : Nat × Bool × Bool := (c.get F.CNV_BSTAT_GRANT, c.is F.CNV_BFLG_BUSOK, c.is F.CNV_BFLG_LEASE)

theorem grantView_showBudget (c : Chip) : grantView (showBudget c) = grantView c := by
  rw [grantView, showBudget_get c (.inr (.inr rfl)), showBudget_flag c rfl (by decide), showBudget_flag c rfl (by decide)]
  rfl

/-- The budget's own flags stand beside those of the bus. -/
theorem grantView_set (c : Chip) {f : Fld} (v : Nat) (ha : f.addr = F.CNV_BFLG) (h : f.lo + f.width ≤ 4 ∨ 6 ≤ f.lo) : grantView (c.set f v) = grantView c := by
  have hflag {g : Fld} (hg : 4 ≤ g.lo ∧ g.lo + g.width ≤ 6) : (c.set f v).is g = c.is g := by
    rw [Chip.is, Chip.get_set_ne _ _ _ _ (by omega), Chip.is]
  rw [grantView, hflag (by decide), hflag (by decide), Chip.get_set_ne _ _ _ _ (.inl (by rw [ha]; decide))]
  rfl

theorem grantView_conv (c : Chip) (k : Conv) : grantView { c with conv := k } = grantView c := rfl
theorem grantView_setBl (q : Rat) (c : Chip) : grantView (setBl q c) = grantView c := rfl

/-- A changed grant that needs no cut. -/
def grantFits (gw : Rat) (c : Chip) : Chip :=
  showBudget (({ setBl gw c with conv := { (setBl gw c).conv with deadline := none } }.setb F.CNV_BFLG_RAMP false).setb F.CNV_BFLG_BUDGET_OVER false)

/-- A changed grant that cuts the limit, with its deadline. -/
def grantCuts (bl : Rat) (d : Word) (c : Chip) : Chip :=
  showBudget (((({ setBl bl c with conv := { (setBl bl c).conv with deadline := some d } }.raise F.CNV_BFLG_RAMP).raise F.CNV_BFLG_BUDGET_OVER).raise
    F.CNV_BFLG_BOVL).countSat F.CNV_BFLG_CUTCNT 1)

theorem grantView_grantFits (gw : Rat) (c : Chip) : grantView (grantFits gw c) = grantView c := by
  rw [grantFits, grantView_showBudget, Chip.setb, grantView_set _ _ rfl (by decide), Chip.setb, grantView_set _ _ rfl (by decide), grantView_conv,
    grantView_setBl]

theorem grantView_grantCuts (bl : Rat) (d : Word) (c : Chip) : grantView (grantCuts bl d c) = grantView c := by
  rw [grantCuts, grantView_showBudget, Chip.countSat, grantView_set _ _ rfl (by decide), Chip.raise, grantView_set _ _ rfl (by decide), Chip.raise,
    grantView_set _ _ rfl (by decide), Chip.raise, grantView_set _ _ rfl (by decide), grantView_conv, grantView_setBl]

/-- A new grant, shown and told, before what it does to the limit. -/
def grantShown (frame : Bool) (g : Nat) (c : Chip) : Chip :=
  ({ c with conv := { c.conv with before := some (budgetMark frame c) } }.set F.CNV_BSTAT_GRANT g).evBudget

theorem grantView_grantShown {g : Nat} (frame : Bool) (c : Chip) (h : g < 65536) :
    grantView (grantShown frame g c) = (g, c.is F.CNV_BFLG_BUSOK, c.is F.CNV_BFLG_LEASE) := by
  have hconv (k : Conv) (f : Fld) : ({ c with conv := k } : Chip).get f = c.get f := rfl
  have hgrant (k : Conv) : ({ c with conv := k }.set F.CNV_BSTAT_GRANT g).get F.CNV_BSTAT_GRANT = g :=
    (Chip.get_set_same _ _ _ (by decide)).trans (Nat.mod_eq_of_lt h)
  simp only [grantView, grantShown, Chip.evBudget, Chip.is]
  rw [Chip.get_evt_ne _ _ _ _ (by decide), Chip.get_evt_ne _ _ _ _ (by decide), Chip.get_evt_ne _ _ _ _ (by decide), hgrant,
    Chip.get_set_ne _ _ _ _ (by decide), Chip.get_set_ne _ _ _ _ (by decide), hconv]
  rfl

/-- With the bus alone as source a grant that is the one in force changes nothing; another is shown, and fits or cuts. -/
theorem grantUpdate_cases {c : Chip} (frame : Bool) (h : c.get F.CNV_BCFG_BSRC = 1) :
    (grantOf c = c.get F.CNV_BSTAT_GRANT ∧ grantUpdate frame c = c) ∨
      ∃ (q : Rat) (d : Word), grantUpdate frame c = grantFits q (grantShown frame (grantOf c) c) ∨
        grantUpdate frame c = grantCuts q d (grantShown frame (grantOf c) c) := by
  by_cases hg : grantOf c = c.get F.CNV_BSTAT_GRANT
  · exact .inl ⟨hg, by simp only [grantUpdate, if_pos hg]⟩
  · refine .inr ?_
    simp only [grantUpdate, grantMerge_of_bus frame h, if_neg hg]
    split
    · exact ⟨_, 0, .inl rfl⟩
    · exact ⟨_, _, .inr rfl⟩

/-- A grant from the bus alone is in force afterwards, and the flags of the bus stay. -/
theorem grantView_grantUpdate {c : Chip} (frame : Bool) (h : c.get F.CNV_BCFG_BSRC = 1) (hg : grantOf c < 65536) :
    grantView (grantUpdate frame c) = (grantOf c, c.is F.CNV_BFLG_BUSOK, c.is F.CNV_BFLG_LEASE) := by
  obtain ⟨hsame, heq⟩ | ⟨q, d, heq | heq⟩ := grantUpdate_cases frame h
  · rw [heq, hsame, grantView]
  · rw [heq, grantView_grantFits, grantView_grantShown frame c hg]
  · rw [heq, grantView_grantCuts, grantView_grantShown frame c hg]

theorem leaseExpiry_shows {c : Chip} (hb : c.is F.CNV_BFLG_BUSOK = true) (ht : c.get F.CNV_BCFG_BTMO ≠ 0) (hs : c.get F.CNV_BCFG_BSRC = 1)
    (hf : c.conv.frameUp ≠ some c.up) :
    (leaseExpiry c).is F.CNV_BFLG_BUSOK = false ∧ (leaseExpiry c).is F.CNV_BFLG_LEASE = true ∧
      (leaseExpiry c).get F.CNV_BSTAT_GRANT = c.get F.CNV_BLIM_BFALL := by
  have hsrc : (leaseEnded c).get F.CNV_BCFG_BSRC = 1 := (leaseEnded_get c (by decide)).trans hs
  have hlt : grantOf (leaseEnded c) < 65536 := grantOf_leaseEnded hs ▸ Word.field_lt _ _ _
  have hview := grantView_grantUpdate false hsrc hlt
  rw [leaseEnded_busok, leaseEnded_lease, grantOf_leaseEnded hs, grantView] at hview
  simp only [Prod.mk.injEq] at hview
  obtain ⟨hgrant, hbusok, hlease⟩ := hview
  rw [leaseExpiry_of_leased hb ht hf]
  exact ⟨hbusok, hlease, hgrant⟩

/-! ### Stops (R448) -/

/-- OFF leaves the words that no motor sequencer shows. -/
theorem enterOff_rd_of_other {a b : Nat} (c : Chip) (hb : axisWord b = true) (h : b ≠ F.MOT_SPE a ∧ b ≠ F.MOT_FLAGS a ∧ b ≠ F.MOT_STAT a ∧ b ≠ 9 ∧ b ≠ 0x10) :
    (enterOff a c).rd b = c.rd b := by
  obtain ⟨hspe, hflags, hstat, hsub, hevt⟩ := h
  rw [enterOff_rd c hb hspe, offShown_rd c hflags, setStep_rd _ _ _ hstat, setSub_rd _ _ ⟨hsub, hevt, hflags⟩]

/-- The words of a converter that is going to OFF. -/
def convStopped (a : Nat) (c : Chip) : Chip := (setCstep a 0 c).wr (F.CNV_PLIM a) 0

theorem convOff_eq (a : Nat) (c : Chip) : ∃ k : Conv, convOff a c = enterOff a { convStopped a c with conv := k } := ⟨_, rfl⟩

theorem convOff_shows {a : Nat} (c : Chip) (ha : a < 4) :
    (convOff a c).sub a = .off ∧ (convOff a c).get (F.CNV_STAT_CSTEP a) = 0 ∧ (convOff a c).rd (F.CNV_PLIM a) = 0 ∧
      (convOff a c).is (F.MOT_STAT_STOPTO a) = c.is (F.MOT_STAT_STOPTO a) := by
  obtain ⟨k, heq⟩ := convOff_eq a c
  have hconv (b : Nat) : ({ convStopped a c with conv := k } : Chip).rd b = (convStopped a c).rd b := rfl
  have hrd {b : Nat} (hb : 0xa0000 ≤ b) : (convOff a c).rd b = (convStopped a c).rd b := by
    rw [heq, enterOff_rd_of_other _ (axisWord_high (by omega)) (by simp only [F.MOT_SPE, F.MOT_FLAGS, F.MOT_STAT]; omega), hconv]
  have hget {f : Fld} (hf : 0xa0000 ≤ f.addr) : (convOff a c).get f = (convStopped a c).get f := by simp only [Chip.get, hrd hf]
  refine ⟨?_, ?_, ?_, ?_⟩
  · rw [heq]
    exact enterOff_sub _ ha
  · rw [hget (by simp only [F.CNV_STAT_CSTEP]; omega), convStopped, Chip.get_wr_ne _ _ _ _ (by simp only [F.CNV_STAT_CSTEP, F.CNV_PLIM]; omega)]
    exact setCstep_same c (by decide)
  · rw [hrd (by simp only [F.CNV_PLIM]; omega), convStopped, Chip.rd_wr_same]
  · rw [heq, enterOff_stopto]
    simp only [Chip.is, Chip.get]
    rw [hconv, convStopped, Chip.rd_wr_ne _ _ (by simp only [F.MOT_STAT_STOPTO, F.CNV_PLIM]; omega), setCstep,
      Chip.rd_set_ne _ _ _ (by simp only [F.MOT_STAT_STOPTO, F.CNV_STAT_CSTEP]; omega)]

theorem converterStopComplete_of_low {c : Chip} {a : Nat} (hc : isConverter c a = true) (hr : stopRuns c .charge = true) (hs : c.sub a = .stopping)
    (hp : absRat (cnvRat c a 0) ≤ ((100 * c.get (F.CNV_CCFG_PSTOP a) : Nat) : Rat)) : converterStopComplete a c = convOff a c := by
  have hsub : (c.sub a == .stopping) = true := beq_iff_eq.mpr hs
  simp only [converterStopComplete, hc, hr, hsub, hp, decide_true, Bool.and_self, if_true]

theorem converterStopTimeout_of_late {c : Chip} {a : Nat} (hc : isConverter c a = true) (hr : stopRuns c .charge = true) (hs : c.sub a = .stopping)
    (ht : c.get (F.CNV_CCFG_STOPTMO a) ≠ 0) : converterStopTimeout a c = convOff a (c.raise (F.MOT_STAT_STOPTO a)) := by
  have hsub : (c.sub a == .stopping) = true := beq_iff_eq.mpr hs
  have htmo : (c.get (F.CNV_CCFG_STOPTMO a) != 0) = true := bne_iff_ne.mpr ht
  simp only [converterStopTimeout, hc, hr, hsub, htmo, Bool.and_self, if_true]

/-- Settles O53: the budget's events by what each leaves in its flags and its limit, the stops by what OFF leaves of a converter's words. -/
theorem convertersStartStopAndKeepTheBudget : Obligations.ConvertersStartStopAndKeepTheBudget := by
  unfold Obligations.ConvertersStartStopAndKeepTheBudget
  refine ⟨fun s a t hg hc hs ht hv hf hgrid hen => ⟨_, running_of_going hg (gsyncSteady a), ?_⟩,
    fun s a hg hc hs => (running_of_going hg (gsyncTimeout a)).trans (by simp [gsyncTimeout, hc, hs]),
    fun s a hg hc hs => (running_of_going hg (armTimeout a)).trans (by simp [armTimeout, hc, hs]),
    fun s hg hr ho hd hb => ⟨_, running_of_going hg budgetTick, budgetTick_lowers hr ho hd hb⟩,
    fun s hg hr ho hd hb => ⟨_, running_of_going hg budgetTick, budgetTick_ends hr ho hd hb⟩,
    fun s hg ho hd hu => ⟨_, running_of_going hg budgetDeadline, budgetDeadline_fails ho hd hu⟩,
    fun s hg ho hu => ⟨_, running_of_going hg budgetDeadline, budgetDeadline_ends ho hu⟩,
    fun s hg hb ht hs hf => ⟨_, running_of_going hg leaseExpiry, leaseExpiry_shows hb ht hs hf⟩,
    fun s a hg hc hr hs hp => ⟨_, running_of_going hg (converterStopComplete a), ?_⟩,
    fun s a hg hc hr hs ht => ⟨_, running_of_going hg (converterStopTimeout a), ?_⟩⟩
  · rw [gsyncSteady_of_steady hc hs ht hv hf hgrid]
    exact enterArm_shows hen
  · obtain ⟨hoff, hstep, hplim, -⟩ := convOff_shows s.chip a.isLt
    rw [converterStopComplete_of_low hc hr hs hp]
    exact ⟨hoff, hstep, hplim⟩
  · obtain ⟨hoff, -, hplim, hstopto⟩ := convOff_shows (s.chip.raise (F.MOT_STAT_STOPTO a)) a.isLt
    rw [converterStopTimeout_of_late hc hr hs ht, hstopto]
    exact ⟨hoff, Chip.is_raise_same _ _ rfl (by simp only [F.MOT_STAT_STOPTO]; omega), hplim⟩

end Sys2Proof.Machine
end

section
/-! SUPPORT. The proofs of power-stage protection (14_power_stage_protection) and of the configuration check (R106). -/

namespace Sys2Proof.Machine

/-! ### Causes and the link (R463, R480) -/


theorem raiseCause_raises {f : Fld} (k : FaultCause) (c : Chip) (hw : f.width = 1) (h : f.lo + f.width ≤ 48) : (raiseCause f k c).is f = true := by
  unfold raiseCause
  split
  · assumption
  · rw [notice_is]
    exact Chip.is_raise_same c f hw h

theorem raiseCause_get {f g : Fld} (k : FaultCause) (c : Chip) (h : g.addr ≠ f.addr ∨ f.lo + f.width ≤ g.lo ∨ g.lo + g.width ≤ f.lo) :
    (raiseCause f k c).get g = c.get g := by
  unfold raiseCause
  split
  · rfl
  · rw [notice_get, Chip.get_raise_ne _ _ _ h]

/-- A cause that stands is told once. -/
theorem raiseCause_of_new {f : Fld} {c : Chip} (k : FaultCause) (h : c.is f = false) : raiseCause f k c = (c.raise f).notice (.device k) :=
  if_neg (by rw [h]; decide)

theorem raiseCause_of_standing {f : Fld} {c : Chip} (k : FaultCause) (h : c.is f = true) : raiseCause f k c = c := if_pos h

theorem linkDown_link (c : Chip) : (linkDown c).is F.DEV_MODE_LINK_OK = false := by
  rw [linkDown, modProt_is]
  exact Chip.is_setb_same _ _ _ rfl (by decide)

theorem linkDown_get (c : Chip) {f : Fld} (h : f.addr ≠ F.DEV_MODE) : (linkDown c).get f = c.get f := by
  rw [linkDown, modProt_get, Chip.get_setb_ne _ _ _ _ (.inl h)]

/-! ### The link voltage, precharge and discharge (R459, R464, R475) -/

theorem vlostTimeout_vok (c : Chip) : (vlostTimeout c).is F.PRT_STAT_VOK = false := by
  have hclear : (c.setb F.PRT_STAT_VOK false).is F.PRT_STAT_VOK = false := Chip.is_setb_same _ _ _ rfl (by decide)
  unfold vlostTimeout
  dsimp only
  split
  · rw [Chip.is, raiseCause_get _ _ (by decide)]
    exact hclear
  · exact hclear

theorem Chip.mode_setb_vok (c : Chip) (b : Bool) : (c.setb F.PRT_STAT_VOK b).mode = c.mode := by
  simp only [Chip.mode, Chip.get_setb_ne c F.PRT_STAT_VOK F.DEV_MODE_MODE b (by decide)]

/-- VLOST is raised, and told, exactly where it protects and does not stand. -/
theorem vlostTimeout_cause (c : Chip) :
    if (protActs c.mode && c.mode != .config && !c.is F.PRT_DFLT_VLOST) = true then
      (vlostTimeout c).is F.PRT_DFLT_VLOST = true ∧ (vlostTimeout c).notices = c.notices ++ [.device .vlost]
    else (vlostTimeout c).notices = c.notices := by
  have hflag : (c.setb F.PRT_STAT_VOK false).is F.PRT_DFLT_VLOST = c.is F.PRT_DFLT_VLOST := by
    rw [Chip.is, Chip.get_setb_ne _ _ _ _ (by decide), Chip.is]
  simp only [vlostTimeout, Chip.mode_setb_vok]
  cases hacts : protActs c.mode && c.mode != .config with
  | false => simp only [Bool.false_and, Bool.false_eq_true, if_false]; rfl
  | true =>
    cases hv : c.is F.PRT_DFLT_VLOST with
    | true =>
      simp only [Bool.not_true, Bool.and_false, Bool.false_eq_true, if_false, if_true, raiseCause_of_standing _ (hflag.trans hv)]
      rfl
    | false =>
      simp only [Bool.not_false, Bool.and_true, if_true]
      exact ⟨raiseCause_raises _ _ rfl (by decide), by rw [raiseCause_of_new _ (hflag.trans hv)]; rfl⟩

theorem prechargeBall_of_off {c : Chip} (n : Nat) (h : c.prot.pchOut = false) : prechargeBall c n ≠ some true := by
  unfold prechargeBall
  split <;> simp [h]

theorem envelopeViolated_shows {kind : Nat} (c : Chip) (hk : kind < 4) :
    (envelopeViolated kind c).is F.PRT_DFLT_PRECH = true ∧ (envelopeViolated kind c).get F.PRT_STAT_PCRSN = kind ∧
      (envelopeViolated kind c).is F.DEV_MODE_LINK_OK = false ∧ (envelopeViolated kind c).prot.pchOut = false ∧
      (envelopeViolated kind c).notices.getLast? = some (.complete .standby .complete) := by
  refine ⟨?_, ?_, ?_, rfl, List.getLast?_concat⟩
  · rw [envelopeViolated, notice_is, Chip.is, linkDown_get _ (by decide)]
    exact raiseCause_raises .prech _ rfl (by decide)
  · rw [envelopeViolated, notice_get, linkDown_get _ (by decide), raiseCause_get _ _ (by decide), Chip.get_set_same _ _ _ (by decide)]
    exact Nat.mod_eq_of_lt hk
  · rw [envelopeViolated, notice_is, linkDown_link]

theorem dischargeTimeout_shows {c : Chip} (hm : c.mode = .discharge) (hf : c.is F.PRT_DFLT_DISCH_TMO = false) :
    (dischargeTimeout c).is F.PRT_DFLT_DISCH_TMO = true ∧ (dischargeTimeout c).notices = c.notices ++ [.device .dischTmo, .complete .standby .complete] := by
  rw [dischargeTimeout, if_pos hm, raiseCause_of_new _ hf, notice_is, notice_is]
  exact ⟨Chip.is_raise_same _ _ rfl (by decide), by simp only [Chip.notice, List.append_assoc, List.singleton_append]; rfl⟩

/-! ### The chopper (R466) -/

/-- Five microseconds after a turn-on, the check is no longer due. -/
def chopChecked (c : Chip) : Chip := modProt (fun p => { p with chopDue := false }) c

theorem chnoiCheck_of_dark {c : Chip} (hd : c.prot.chopDue = true) (hs : c.prot.chopSeen = false) (ho : chopperOn c = true) (he : c.is F.PRT_CHP_CMPEN = true) :
    chnoiCheck c = chopperFailed ((chopChecked c).raise F.PRT_CHS_CHNOI) := by
  have hon : chopperOn (modProt (fun p => { p with chopDue := false }) c) = true := ho
  simp only [chnoiCheck, hd, hs, hon, modProt_is, he, Bool.not_false, Bool.and_self, if_true, chopChecked]

theorem chnoiCheck_of_seen {c : Chip} (hs : c.prot.chopSeen = true) : chnoiCheck c = chopChecked c := by
  simp only [chnoiCheck, hs, Bool.not_true, Bool.and_false, Bool.false_and, Bool.false_eq_true, if_false, chopChecked]

theorem setChon_off (c : Chip) : setChon false c = c.setb F.PRT_CHS_CHON false := rfl

theorem chopperFailed_shows (c : Chip) : (chopperFailed c).is F.PRT_CHS_CHFAIL = true ∧ (chopperFailed c).is F.PRT_CHS_CHON = false ∧
    (chopperFailed c).get F.PRT_CHS_CHNOI = c.get F.PRT_CHS_CHNOI := by
  rw [chopperFailed, setChon_off, Chip.evChopper]
  refine ⟨?_, Chip.is_setb_same _ _ _ rfl (by decide), ?_⟩
  · rw [Chip.is, Chip.get_setb_ne _ _ _ _ (by decide), Chip.get_evt_ne _ _ _ _ (by decide)]
    exact Chip.is_raise_same _ _ rfl (by decide)
  · rw [Chip.get_setb_ne _ _ _ _ (by decide), Chip.get_evt_ne _ _ _ _ (by decide), Chip.get_raise_ne _ _ _ (by decide)]

theorem chnoiCheck_fails {c : Chip} (hd : c.prot.chopDue = true) (hs : c.prot.chopSeen = false) (ho : chopperOn c = true) (he : c.is F.PRT_CHP_CMPEN = true) :
    (chnoiCheck c).is F.PRT_CHS_CHNOI = true ∧ (chnoiCheck c).is F.PRT_CHS_CHFAIL = true ∧ (chnoiCheck c).is F.PRT_CHS_CHON = false ∧
      (chnoiCheck c).prot.chopDue = false := by
  obtain ⟨hfail, hchon, hchnoi⟩ := chopperFailed_shows ((chopChecked c).raise F.PRT_CHS_CHNOI)
  rw [chnoiCheck_of_dark hd hs ho he]
  refine ⟨?_, hfail, hchon, rfl⟩
  rw [Chip.is, hchnoi]
  exact Chip.is_raise_same _ _ rfl (by decide)

/-! ### Active short circuit (R472) -/

theorem recordSafe_state {a st : Nat} (idx : Nat) (c : Chip) (h : st < 4) : (recordSafe a st idx c).get (F.PRT_SST_STATE a) = st := by
  rw [recordSafe, Chip.evSafeState, Chip.get_evt_ne _ _ _ _ (by simp only [F.PRT_SST_STATE]; omega),
    Chip.get_set_ne _ _ _ _ (by simp only [F.PRT_SST_STATE, F.PRT_SST_SCAUSE]; omega), Chip.get_set_same _ _ _ (by simp only [F.PRT_SST_STATE]; omega)]
  exact Nat.mod_eq_of_lt h

theorem recordSafe_cause {a idx : Nat} (st : Nat) (c : Chip) (h : idx < 256) : (recordSafe a st idx c).get (F.PRT_SST_SCAUSE a) = idx := by
  rw [recordSafe, Chip.evSafeState, Chip.get_evt_ne _ _ _ _ (by simp only [F.PRT_SST_SCAUSE]; omega),
    Chip.get_set_same _ _ _ (by simp only [F.PRT_SST_SCAUSE]; omega)]
  exact Nat.mod_eq_of_lt h

/-- A short circuit ends freewheeling, with the cause kept, and the axis OFF. -/
theorem ascEnd_shows {a : Nat} (c : Chip) (ha : a < 4) :
    (ascEnd a c).get (F.PRT_SST_STATE a) = 3 ∧ (ascEnd a c).get (F.PRT_SST_SCAUSE a) = c.get (F.PRT_SST_SCAUSE a) ∧ (ascEnd a c).sub a = .off := by
  have hget {f : Fld} (hf : f.addr = F.PRT_SST a) : (ascEnd a c).get f = (recordSafe a 3 (c.get (F.PRT_SST_SCAUSE a)) c).get f := by
    simp only [Chip.get]
    rw [hf, ascEnd, enterOff_rd_of_other _ (axisWord_high (by simp only [F.PRT_SST]; omega))
      (by simp only [F.PRT_SST, F.MOT_SPE, F.MOT_FLAGS, F.MOT_STAT]; omega)]
    rfl
  refine ⟨?_, ?_, enterOff_sub _ ha⟩
  · rw [hget rfl, recordSafe_state _ _ (by decide)]
  · rw [hget rfl, recordSafe_cause _ _ (Word.field_lt _ _ _)]

theorem ascTimeout_of_invalid {c : Chip} {a : Nat} (ho : ascOn c a = true) (hv : trackerValid c a = false) : ascTimeout a c = ascEnd a c := by
  simp [ascTimeout, ho, hv]

/-! ### The configuration check (R106, R107) -/

/-- A check that ran has ended. -/
def checkEnded (c : Chip) : Chip := modMs (fun s => { s with checkRunning := false }) ((runCheck c).setb F.DEV_CFGCHK_BUSY false)

theorem configCheckDone_of_busy {c : Chip} (h : c.is F.DEV_CFGCHK_BUSY = true) : configCheckDone c = checkEnded c := if_pos h


theorem runCheck_get (c : Chip) {f : Fld} (h : f.addr = F.DEV_CFGCHK) :
    (runCheck c).get f = ((c.set F.DEV_CFGCHK_ITEM (checkResult c).1).set F.DEV_CFGCHK_WHERE (checkResult c).2).get f := by
  unfold runCheck
  dsimp only
  split
  · rfl
  · exact Chip.get_evt_ne _ _ _ _ (by rw [h]; decide)

theorem runCheck_item (c : Chip) : (runCheck c).get F.DEV_CFGCHK_ITEM = (checkResult c).1 % 2 ^ F.DEV_CFGCHK_ITEM.width := by
  rw [runCheck_get c rfl, Chip.get_set_ne _ _ _ _ (by decide), Chip.get_set_same _ _ _ (by decide)]

theorem runCheck_where (c : Chip) : (runCheck c).get F.DEV_CFGCHK_WHERE = (checkResult c).2 % 2 ^ F.DEV_CFGCHK_WHERE.width := by
  rw [runCheck_get c rfl, Chip.get_set_same _ _ _ (by decide)]

/-- A check that found an item tells of it. -/
theorem runCheck_event {c : Chip} (h : (checkResult c).1 ≠ 0) : ((runCheck c).rd 0x10).field 6 1 = 1 := by
  simp only [runCheck, if_neg h]
  exact Chip.evt_field _ _ _ (by decide)

theorem checkEnded_get (c : Chip) {f : Fld} (h : f.addr ≠ F.DEV_CFGCHK ∨ f.lo + f.width ≤ 40) : (checkEnded c).get f = (runCheck c).get f := by
  rw [checkEnded, modMs_get, Chip.get_setb_ne _ _ _ _ (h.imp id .inr)]

theorem checkEnded_shows (c : Chip) : (checkEnded c).is F.DEV_CFGCHK_BUSY = false ∧ (checkEnded c).ms.checkRunning = false ∧
    (checkEnded c).get F.DEV_CFGCHK_ITEM = (checkResult c).1 % 2 ^ F.DEV_CFGCHK_ITEM.width ∧
    (checkEnded c).get F.DEV_CFGCHK_WHERE = (checkResult c).2 % 2 ^ F.DEV_CFGCHK_WHERE.width ∧
    ((checkResult c).1 ≠ 0 → ((checkEnded c).rd 0x10).field 6 1 = 1) := by
  refine ⟨?_, rfl, ?_, ?_, fun h => ?_⟩
  · rw [checkEnded, modMs_is]
    exact Chip.is_setb_same _ _ _ rfl (by decide)
  · rw [checkEnded_get c (.inr (by decide)), runCheck_item]
  · rw [checkEnded_get c (.inr (by decide)), runCheck_where]
  · rw [checkEnded, modMs_rd, Chip.rd_setb_ne _ _ _ (by decide), runCheck_event h]

theorem going_of_mode {c : Chip} (h : c.mode ≠ .reset) (hg : c.clk.gated = false) : going c = true := by
  simp [going, h, hg]

/-- Settles O54: each time-out by the cause it raises and the words it leaves; the check by the words that record it. -/
theorem protectionTimeoutsAndTheConfigurationCheck : Obligations.ProtectionTimeoutsAndTheConfigurationCheck := by
  unfold Obligations.ProtectionTimeoutsAndTheConfigurationCheck
  refine ⟨fun s hg => ⟨_, running_of_going hg vlostTimeout, vlostTimeout_vok _, vlostTimeout_cause _⟩,
    fun s hm hg => ⟨_, running_of_going (going_of_mode (by rw [hm]; decide) hg) prechargeTimeout, ?_⟩,
    fun s hm hg hf => ⟨_, running_of_going (going_of_mode (by rw [hm]; decide) hg) dischargeTimeout, dischargeTimeout_shows hm hf⟩,
    fun s hg hd hs ho he => ⟨_, running_of_going hg chnoiCheck, chnoiCheck_fails hd hs ho he⟩,
    fun s hg hs => ⟨_, running_of_going hg chnoiCheck, ?_⟩,
    fun s a hg ho hv => ⟨_, running_of_going hg (ascTimeout a), ?_⟩,
    fun s hg hb => ⟨_, running_of_going hg configCheckDone, ?_⟩⟩
  · obtain ⟨hcause, hreason, hlink, hout, hend⟩ := envelopeViolated_shows s.chip (kind := 3) (by decide)
    rw [prechargeTimeout, if_pos hm]
    exact ⟨hcause, hreason, hlink, hout, fun n => prechargeBall_of_off n hout, hend⟩
  · rw [chnoiCheck_of_seen hs]
    exact ⟨rfl, sameBut_refl [] s.chip⟩
  · rw [ascTimeout_of_invalid ho hv]
    exact ascEnd_shows s.chip a.isLt
  · rw [configCheckDone_of_busy hb]
    exact checkEnded_shows s.chip

end Sys2Proof.Machine
end

section
/-! SUPPORT. The proofs of the Rind safety island (15_rind_safety_island), first part: its events, STO, internal faults, demands, conversions and
comparisons. -/

namespace Sys2Proof.Machine

/-! ### Events of Rind -/

/-- An event of Rind, while its logic runs. -/
theorem island_of_runs {s : State} (h : rindRuns s.chip = true) (f : Chip → Chip) : island s f = .next (s.acted (f s.chip)) := by
  have hruns : ¬(s.chip.clk.rindReset = true ∨ s.chip.clk.soscStopped = true) := by simpa [rindRuns] using h
  simp only [island, act, hruns, if_false]
  rfl

/-- An event of Rind is without effect while its logic does not run. -/
theorem island_of_stopped {s : State} (h : rindRuns s.chip = false) (f : Chip → Chip) : island s f = .next (s.acted s.chip) := by
  have hstops : s.chip.clk.rindReset = true ∨ s.chip.clk.soscStopped = true := by
    cases hr : s.chip.clk.rindReset
    · exact .inr (by simpa [rindRuns, hr] using h)
    · exact .inl rfl
  simp only [island, act, hstops, if_true]
  rfl

/-! ### STO (R492, R493, R516) -/

theorem stoRelease_of_released {c : Chip} (hr : c.sto.request = false) (ha : c.sto.stoa = false) :
    stoRelease c = ({ c with sto := { c.sto with stoa := true, stob := true } }).evStoChg := by
  simp [stoRelease, hr, ha]

theorem stoRelease_of_held {c : Chip} (h : c.sto.request = true ∨ c.sto.stoa = true) : stoRelease c = c := by
  rcases h with h | h <;> simp [stoRelease, h]

theorem rindFaulted_of_rd {c d : Chip} (h : d.rd 0xC0002 = c.rd 0xC0002) : rindFaulted d = rindFaulted c := by
  simp only [rindFaulted, h]

/-- A proof of STO starts the hours again. -/
def stoProved (c : Chip) : Chip := (c.set F.SAF_STAT_PROOFH 0).setb F.SAF_STAT_STOPROOF false

theorem stoReadback_of_asserted {c : Chip} (h : c.sto.request = true) :
    stoReadback true c = if rindFaulted c then stoProved c else { stoProved c with sto := { (stoProved c).sto with ssoa := true, ssob := true } } := by
  have hfault : rindFaulted ((c.set F.SAF_STAT_PROOFH 0).setb F.SAF_STAT_STOPROOF false) = rindFaulted c :=
    rindFaulted_of_rd (by rw [Chip.rd_setb_ne _ _ _ (by decide), Chip.rd_set_ne _ _ _ (by decide)])
  simp only [stoReadback, h, hfault, Bool.not_true, Bool.false_eq_true, if_false, if_true, stoProved]

theorem stoReadback_shows {c : Chip} (h : c.sto.request = true) : (stoReadback true c).get F.SAF_STAT_PROOFH = 0 ∧
    (stoReadback true c).is F.SAF_STAT_STOPROOF = false ∧
    (rindFaulted c = false → (stoReadback true c).sto.ssoa = true ∧ (stoReadback true c).sto.ssob = true) := by
  have hget (f : Fld) : (stoReadback true c).get f = (stoProved c).get f := by
    rw [stoReadback_of_asserted h]
    split <;> rfl
  refine ⟨?_, ?_, fun hf => ?_⟩
  · rw [hget, stoProved, Chip.get_setb_ne _ _ _ _ (by decide)]
    exact Chip.get_set_same _ _ _ (by decide)
  · rw [Chip.is, hget]
    exact Chip.is_setb_same _ _ _ rfl (by decide)
  · rw [stoReadback_of_asserted h, hf]
    exact ⟨rfl, rfl⟩

theorem proofHour_hours {c : Chip} (h : c.sto.stoa = true) : (proofHour c).get F.SAF_STAT_PROOFH = min (c.get F.SAF_STAT_PROOFH + 1) 255 := by
  have hcount : (c.countSat F.SAF_STAT_PROOFH 1).get F.SAF_STAT_PROOFH = min (c.get F.SAF_STAT_PROOFH + 1) 255 := Chip.get_countSat_same c _ _ (by decide)
  simp only [proofHour, h, if_true]
  split
  · rw [Chip.evRindDiag, Chip.get_evt_ne _ _ _ _ (by decide), Chip.get_raise_ne _ _ _ (by decide), hcount]
  · exact hcount

theorem proofHour_due {c : Chip} (h : c.sto.stoa = true) (hh : 168 ≤ c.get F.SAF_STAT_PROOFH) : (proofHour c).is F.SAF_STAT_STOPROOF = true := by
  have hcount : (c.countSat F.SAF_STAT_PROOFH 1).get F.SAF_STAT_PROOFH = min (c.get F.SAF_STAT_PROOFH + 1) 255 := Chip.get_countSat_same c _ _ (by decide)
  have hlate : 168 < (c.countSat F.SAF_STAT_PROOFH 1).get F.SAF_STAT_PROOFH := by omega
  simp only [proofHour, h, if_true, hlate, decide_true, Bool.true_and]
  cases hs : (c.countSat F.SAF_STAT_PROOFH 1).is F.SAF_STAT_STOPROOF with
  | true =>
    simp only [Bool.not_true, Bool.false_eq_true, if_false]
    exact hs
  | false =>
    simp only [Bool.not_false, if_true]
    rw [Chip.evRindDiag, Chip.is, Chip.get_evt_ne _ _ _ _ (by decide)]
    exact Chip.is_raise_same _ _ rfl (by decide)

/-! ### Internal faults (R514) -/

theorem internalFault_shows_latch {k : Nat} {c : Chip} (h : (c.rd 0xC0002).field k 1 ≠ 1) : (internalFault k c).is F.DEV_MODE_LATCH = true := by
  rw [internalFault_of_new h, notice_is, setRindLatch, modRind_is]
  exact Chip.is_raise_same _ _ rfl (by decide)

/-- An internal fault shows its bit, whether it is new or stands. -/
theorem internalFault_bit {k : Nat} (c : Chip) (hk : k < 48) : ((internalFault k c).rd 0xC0002).field k 1 = 1 := by
  by_cases h : (c.rd 0xC0002).field k 1 = 1
  · simp only [internalFault, h, beq_self_eq_true, if_true]
  · exact internalFault_diag h hk

theorem field_one_ne {w : Word} {k : Nat} (h : w.field k 1 = 0) : w.field k 1 ≠ 1 := by rw [h]; decide

theorem sclkmonWindow_of_good {f : Nat} {c : Chip} (hm : c.mode ≠ .reset) (h : withinPct 10 f 200000 = true) :
    sclkmonWindow f c = modRind (fun r => { r with sclkRun := 0 }) c := by
  simp [sclkmonWindow, hm, h]

theorem sclkmonWindow_of_bad {f : Nat} {c : Chip} (hm : c.mode ≠ .reset) (h : withinPct 10 f 200000 = false) (hn : 7 ≤ c.rind.sclkRun) :
    sclkmonWindow f c = internalFault 4 (modRind (fun r => { r with sclkRun := c.rind.sclkRun + 1 }) c) := by
  simp [sclkmonWindow, hm, h, hn]

/-! ### Demands (R507, R511) -/

theorem setCond_rd (k : Nat) (on : Bool) (c : Chip) (b : Nat) : (setCond k on c).rd b = c.rd b := rfl

theorem setCond_on {k : Nat} (c : Chip) (hk : k < 13) : (setCond k true c).rind.cond.getLsbD k = true := by
  simp [setCond, modRind, hk]

theorem setCond_off {k : Nat} (c : Chip) : (setCond k false c).rind.cond.getLsbD k = false := by
  by_cases hk : k < 13 <;> simp [setCond, modRind, hk]

/-- The bit of a demand set, its condition present. -/
def demandShown (k : Nat) (c : Chip) : Chip := setCond k true (c.wr 0xC0001 ((c.rd 0xC0001).setField k 1 1))

theorem demand_of_new {k : Nat} {c : Chip} (kind : StopKind) (h : (c.rd 0xC0001).field k 1 = 0) :
    demand k kind c = (demandShown k c).evSafeDemand.notice (.safety kind) := by
  simp only [demand, h, show ((0 : Nat) == 1) = false from rfl, Bool.false_eq_true, if_false, demandShown]

theorem demandShown_bit {k : Nat} (c : Chip) (hk : k < 48) : ((demandShown k c).rd 0xC0001).field k 1 = 1 := by
  rw [demandShown, setCond_rd, Chip.rd_wr_same, Word.field_setField_same _ _ _ _ (by omega)]
  rfl

theorem demand_shows {k : Nat} {c : Chip} (kind : StopKind) (hk : k < 13) (h : (c.rd 0xC0001).field k 1 = 0) :
    ((demand k kind c).rd 0xC0001).field k 1 = 1 ∧ (demand k kind c).rind.cond.getLsbD k = true ∧
      (demand k kind c).notices = c.notices ++ [.safety kind] := by
  have hcond (d : Chip) : (d.evSafeDemand.notice (.safety kind)).rind = d.rind := rfl
  rw [demand_of_new kind h]
  refine ⟨?_, ?_, rfl⟩
  · rw [notice_rd, Chip.evSafeDemand, Chip.rd_evt_ne _ _ _ (by decide), demandShown_bit c (by omega)]
  · rw [hcond]
    exact setCond_on _ hk

/-- A demand leaves every word beside its own and the events. -/
theorem demand_rd {b : Nat} (k : Nat) (kind : StopKind) (c : Chip) (h : 0x14 ≤ b ∧ b ≠ 0xC0001) : (demand k kind c).rd b = c.rd b := by
  have hshown : (setCond k true (c.wr 0xC0001 ((c.rd 0xC0001).setField k 1 1))).rd b = c.rd b := by rw [setCond_rd, Chip.rd_wr_ne _ _ h.2]
  simp only [demand]
  split
  · exact hshown
  · rw [notice_rd, Chip.evSafeDemand, Chip.rd_evt_ne _ _ _ (by omega), hshown]

theorem demandIf_rd {b : Nat} (k : Nat) (on : Bool) (c : Chip) (h : 0x14 ≤ b ∧ b ≠ 0xC0001) : (demandIf k on c).rd b = c.rd b := by
  unfold demandIf
  split
  · exact demand_rd k .sto c h
  · rfl

theorem demandIf_cmp (k : Nat) (on : Bool) (c : Chip) : (demandIf k on c).rind.cmp = c.rind.cmp := by
  unfold demandIf demand
  split
  · dsimp only
    split <;> rfl
  · rfl

/-! ### Comparators (R500) -/

/-- The voltage at a comparator has been seen. -/
def rcmpSeen (k uv : Nat) (c : Chip) : Chip := modRind (fun r => { r with rcmpUv := r.rcmpUv.set k (some uv) }) c

theorem rcmpSeen_uv {k : Nat} (uv : Nat) {c : Chip} (hk : k < c.rind.rcmpUv.length) : (rcmpSeen k uv c).rind.rcmpUv.getD k none = some uv := by
  simp [rcmpSeen, modRind, hk]

theorem rcmpLevel_eq {k : Nat} (uv : Nat) {c : Chip} (hk : k < c.rind.rcmpUv.length) :
    rcmpLevel k uv c = demandIf k (c.pb (F.SIN_RCMP_EN k) && decide (c.pf (F.SIN_RCMP_CH k) < 48) && rcmpCond c k uv) (rcmpSeen k uv c) := by
  have hseen := rcmpSeen_uv uv hk
  unfold rcmpSeen at hseen
  simp only [rcmpLevel, rcmpEval, hseen]
  rfl

/-! ### Conversions (R496 to R499) -/

/-- The code and the value of a slot written (R499). -/
def slotShown (k code : Nat) (c : Chip) : Chip :=
  (c.set (F.SAF_R_CODE k) code).seti (F.SAF_R_VAL k) (clampInt (-2147483648) 2147483647 (roundRat (slotVal c k code * 65536)))

/-- A slot's conversion leaves, of its own word, the code and the value. -/
theorem saConversion_slot {k code : Nat} {c : Chip} (hk : k < 8) (hch : c.pf (F.SIN_RSCAN_CH k) ≤ 49) :
    (saConversion k code c).rd (F.SAF_R k) = (slotShown k code c).rd (F.SAF_R k) := by
  have hidle : ¬(decide (k < 8) && decide (0x31 < c.pf (F.SIN_RSCAN_CH k))) = true := by simp [hk, hch]
  have hsaf : 0x14 ≤ F.SAF_R k ∧ F.SAF_R k ≠ 0xC0001 := by simp only [F.SAF_R]; omega
  have href (b : Bool) (n : Nat) (d : Chip) : (demandIf 7 b (modRind (fun r => { r with refRun := n }) d)).rd (F.SAF_R k) = d.rd (F.SAF_R k) :=
    demandIf_rd 7 b _ hsaf
  unfold saConversion
  rw [if_neg hidle]
  split
  iterate 4 omega
  dsimp only
  split
  · rfl
  · rfl
  · rfl
  · rfl
  · split
    · exact href _ _ _
    · rfl
  · rfl

theorem saConversion_code {k code : Nat} {c : Chip} (hk : k < 8) (hch : c.pf (F.SIN_RSCAN_CH k) ≤ 49) (hc : code < 4096) :
    (saConversion k code c).get (F.SAF_R_CODE k) = code := by
  have hrd : (saConversion k code c).rd (F.SAF_R_CODE k).addr = (slotShown k code c).rd (F.SAF_R_CODE k).addr := saConversion_slot hk hch
  rw [Chip.get, hrd]
  refine (Chip.get_seti_ne _ _ (F.SAF_R_CODE k) _ (by simp only [F.SAF_R_CODE, F.SAF_R_VAL]; omega)).trans ?_
  rw [Chip.get_set_same _ _ _ (by simp only [F.SAF_R_CODE]; omega)]
  exact Nat.mod_eq_of_lt hc

theorem saConversion_val {k code : Nat} {c : Chip} (hk : k < 8) (hch : c.pf (F.SIN_RSCAN_CH k) ≤ 49) :
    (saConversion k code c).geti (F.SAF_R_VAL k) = clampInt (-2147483648) 2147483647 (roundRat (slotVal c k code * 65536)) := by
  have hrd : (saConversion k code c).rd (F.SAF_R_VAL k).addr = (slotShown k code c).rd (F.SAF_R_VAL k).addr := saConversion_slot hk hch
  obtain ⟨hlo, hhi⟩ := clampInt_mem (lo := -2147483648) (hi := 2147483647) (roundRat (slotVal c k code * 65536)) (by decide)
  rw [Chip.geti, Chip.get, hrd]
  exact Chip.geti_seti_same (m := 31) _ rfl (by simp only [F.SAF_R_VAL]; omega) (by omega) (by omega)

/-- A converter's last self-test result out of range, as in the scan before, is an internal fault (R498). -/
theorem scanResult_of_bad {v : Nat} {c : Chip} (h : c.rind.lastBad.getD v false = true) : ∃ f : Rind → Rind, scanResult v true true c = internalFault 5 (modRind f c) := by
  simp only [scanResult, Bool.true_or, h, Bool.and_self, if_true]
  exact ⟨_, rfl⟩

theorem saConversion_half_of_bad {code : Nat} {c : Chip} (hb : code < 2032 ∨ 2064 < code) : saConversion 9 code c = scanResult 0 true true c := by
  simp [saConversion, hb]

theorem saConversion_zero_of_good {code : Nat} {c : Chip} (hc : code ≤ 8) : ∃ f : Rind → Rind, saConversion 8 code c = modRind f c := by
  have hgood : decide (8 < code) = false := decide_eq_false (by omega)
  have hslot (p : Bool) : ¬(decide (8 < 8) && p) = true := by simp
  simp only [saConversion, if_neg (hslot _), hgood, scanResult, Bool.false_eq_true, if_false]
  exact ⟨_, rfl⟩

/-! ### Cross-comparison (R501) -/

theorem crossWindow_cmp {k : Nat} {c : Chip} (he : c.pb (F.SIN_RXC_EN k) = true) (hn : (c.rind.cmp.getD k {}).nR ≠ 0) :
    (crossWindow k c).rind.cmp =
      (let q := c.rind.cmp.getD k {}
       let mr : Rat := q.sumR / ((q.nR : Nat) : Rat)
       let mm : Rat := ((q.sumM : Int) : Rat) / ((q.nM : Nat) : Rat) * coefPf c (F.SIN_RXS_Gm k) (F.SIN_RXS_Fm k)
       let tol : Rat := ((c.pf (F.SIN_RXC_TOL k) : Nat) : Rat) * absRat (coefPf c (F.SIN_RSCL_G k) (F.SIN_RSCL_F k))
       c.rind.cmp.set k { run := if q.nM = 0 ∨ tol < absRat (mr - mm) then q.run + 1 else 0 }) := by
  have hset (d : RindCmp) (x : Chip) : (modRind (fun r => { r with cmp := r.cmp.set k d }) x).rind.cmp = x.rind.cmp.set k d := rfl
  simp only [crossWindow, he, Bool.not_true, Bool.false_eq_true, if_false, if_neg hn, demandIf_cmp, hset]
  generalize c.rind.cmp.getD k {} = q
  by_cases h0 : q.nM = 0
  · simp only [h0, beq_self_eq_true, Bool.true_or, if_true, true_or]
  · have hmax : max 1 q.nM = q.nM := by omega
    simp only [hmax, beq_eq_false_iff_ne.mpr h0, Bool.false_or, decide_eq_true_eq, h0, false_or]

end Sys2Proof.Machine
end

section
/-! SUPPORT. The proofs of the Rind safety island (15_rind_safety_island), second part: the torque monitors, the monitored stop and its end. -/

namespace Sys2Proof.Machine

/-! ### The torque monitors (R502 to R506) -/

theorem modMon_rd (m : Nat) (f : RindMon → RindMon) (c : Chip) (b : Nat) : (modMon m f c).rd b = c.rd b := rfl

theorem judgeMons_rd {b : Nat} (c : Chip) (h : 0x14 ≤ b ∧ b ≠ 0xC0001) : (judgeMons c).rd b = c.rd b := by
  unfold judgeMons
  dsimp only
  rw [demandIf_rd _ _ _ h, demandIf_rd _ _ _ h]

theorem seqSeen_rd (m : Nat) (c : Chip) (b : Nat) : (seqSeen m c).rd b = c.rd b := by
  simp only [seqSeen]
  split <;> rfl

theorem monIdle_active {m : Nat} (c : Chip) : (monIdle m c).is (F.SAF_TM_SST_ACTIVE m) = false := by
  have hrd (d : Chip) : (setCond (4 + m) false (judgeMons d)).is (F.SAF_TM_SST_ACTIVE m) = d.is (F.SAF_TM_SST_ACTIVE m) := by
    simp only [Chip.is, Chip.get]
    rw [setCond_rd, judgeMons_rd _ (by simp only [F.SAF_TM_SST_ACTIVE]; omega)]
  rw [monIdle, hrd]
  exact Chip.is_setb_same _ _ _ rfl (by simp only [F.SAF_TM_SST_ACTIVE]; omega)

theorem torqueEvaluation_of_off {c : Chip} {m : Nat} (hall edge : Nat) (h : monOn c m = false) : torqueEvaluation m hall edge c = monIdle m c := by
  simp [torqueEvaluation, h]

/-- The state of a monitor's evaluation as its word shows it: active, and whether it has an angle. -/
def monShown (m : Nat) (angle : Bool) (c : Chip) : Chip := (c.raise (F.SAF_TM_SST_ACTIVE m)).setb (F.SAF_TM_SST_ANGOK m) angle

/-- What an evaluation does after it has shown its state: the count of deviations, the runs of the other checks, and their demands. -/
def monJudged (m fcnt : Nat) (f : RindMon → RindMon) (on : Bool) (c : Chip) : Chip :=
  seqSeen m (judgeMons (demandIf (4 + m) on (modMon m f (c.set (F.SAF_TM_SST_FCNT m) fcnt))))

theorem torqueEvaluation_of_on {c : Chip} {m : Nat} (hall edge : Nat) (h : monOn c m = true) :
    ∃ (d : Chip) (fcnt : Nat) (f : RindMon → RindMon) (on : Bool),
      torqueEvaluation m hall edge c = monJudged m fcnt f on (monShown m (monAngle c m hall).isSome d) := by
  unfold torqueEvaluation
  simp only [h, Bool.not_true, Bool.false_eq_true, if_false]
  exact ⟨_, _, _, _, rfl⟩

theorem monJudged_is {m : Nat} (fcnt : Nat) (f : RindMon → RindMon) (on : Bool) (c : Chip) {g : Fld} (ha : g.addr = F.SAF_TM_SST m) (h : g.lo + g.width ≤ 8) :
    (monJudged m fcnt f on c).is g = c.is g := by
  have hsaf : 0x14 ≤ F.SAF_TM_SST m ∧ F.SAF_TM_SST m ≠ 0xC0001 := by simp only [F.SAF_TM_SST]; omega
  have hrd : (monJudged m fcnt f on c).rd g.addr = (c.set (F.SAF_TM_SST_FCNT m) fcnt).rd g.addr := by
    rw [ha, monJudged, seqSeen_rd, judgeMons_rd _ hsaf, demandIf_rd _ _ _ hsaf, modMon_rd]
  have hget : (c.set (F.SAF_TM_SST_FCNT m) fcnt).get g = c.get g := Chip.get_set_ne _ _ _ _ (.inr (.inr h))
  rw [Chip.is, Chip.get, hrd]
  exact congrArg (· == 1) hget

theorem torqueEvaluation_shows {c : Chip} {m : Nat} (hall edge : Nat) (h : monOn c m = true) :
    (torqueEvaluation m hall edge c).is (F.SAF_TM_SST_ACTIVE m) = true ∧
      (torqueEvaluation m hall edge c).is (F.SAF_TM_SST_ANGOK m) = (monAngle c m hall).isSome := by
  obtain ⟨d, fcnt, f, on, heq⟩ := torqueEvaluation_of_on hall edge h
  rw [heq, monJudged_is _ _ _ _ rfl (by simp only [F.SAF_TM_SST_ACTIVE]; omega), monJudged_is _ _ _ _ rfl (by simp only [F.SAF_TM_SST_ANGOK]; omega)]
  constructor
  · rw [monShown, Chip.is, Chip.get_setb_ne _ _ _ _ (by simp only [F.SAF_TM_SST_ACTIVE, F.SAF_TM_SST_ANGOK]; omega)]
    exact Chip.is_raise_same _ _ rfl (by simp only [F.SAF_TM_SST_ACTIVE]; omega)
  · exact Chip.is_setb_same _ _ _ rfl (by simp only [F.SAF_TM_SST_ANGOK]; omega)

theorem trefFreshness_of_stale {c : Chip} {m : Nat} (h : trefStale c m = true) : trefFreshness m c = demand 8 .sto c := if_pos h

/-! ### Axes go to OFF (R38, R472) -/

/-- OFF leaves the substates of the other axes. -/
theorem enterOff_sub_other {a b : Nat} (c : Chip) (h : b ≠ a) : (enterOff a c).sub b = c.sub b := by
  have hoff : (enterOff a c).rd 9 = (setSub a .off c).rd 9 := by
    rw [enterOff_rd c (by decide) (by simp only [F.MOT_SPE]; omega), offShown_rd c (by simp only [F.MOT_FLAGS]; omega),
      setStep_rd _ _ _ (by simp only [F.MOT_STAT]; omega)]
  rw [Chip.sub_of_rd hoff]
  by_cases hs : c.sub a = .off
  · rw [setSub_of_same hs]
  · rw [setSub_of_other hs, if_neg (by decide)]
    simp only [Chip.sub, subShown, Chip.evModeChg]
    rw [Chip.get_setb_ne _ _ _ _ (.inl (by simp only [F.DEV_AXST_SUB, F.MOT_FLAGS_RUN]; omega)),
      Chip.get_setb_ne _ _ _ _ (.inl (by simp only [F.DEV_AXST_SUB, F.MOT_FLAGS_STOP]; omega)),
      Chip.get_evt_ne _ _ _ _ (by simp only [F.DEV_AXST_SUB]; omega),
      Chip.get_set_ne _ _ _ _ (.inr (by simp only [F.DEV_AXST_SUB]; omega))]

/-- An axis that goes to OFF has prepared its own words; those of the device stay. -/
theorem axisOff_cases (a : Nat) (c : Chip) : (axisOff a c = c ∧ c.sub a = .off) ∨
    ∃ d : Chip, axisOff a c = enterOff a d ∧ ∀ b, (b = 9 ∨ b = 0xC0000) → d.rd b = c.rd b := by
  unfold axisOff
  split
  · refine .inr ⟨_, rfl, fun b hb => ?_⟩
    rw [recordSafe, Chip.evSafeState, Chip.rd_evt_ne _ _ _ (by omega), Chip.rd_set_ne _ _ _ (by simp only [F.PRT_SST_SCAUSE]; omega),
      Chip.rd_set_ne _ _ _ (by simp only [F.PRT_SST_STATE]; omega)]
  · split
    · next h => exact .inl ⟨rfl, h⟩
    · split
      · obtain ⟨k, heq⟩ := convOff_eq a c
        have hconv (b : Nat) : ({ convStopped a c with conv := k } : Chip).rd b = (convStopped a c).rd b := rfl
        refine .inr ⟨_, heq, fun b hb => ?_⟩
        rw [hconv, convStopped, Chip.rd_wr_ne _ _ (by simp only [F.CNV_PLIM]; omega), setCstep, Chip.rd_set_ne _ _ _ (by simp only [F.CNV_STAT_CSTEP]; omega)]
      · exact .inr ⟨c, rfl, fun _ _ => rfl⟩

theorem axisOff_sub_same {a : Nat} (c : Chip) (ha : a < 4) : (axisOff a c).sub a = .off := by
  obtain ⟨heq, hoff⟩ | ⟨d, heq, -⟩ := axisOff_cases a c
  · rw [heq, hoff]
  · rw [heq, enterOff_sub d ha]

theorem axisOff_sub_other {a b : Nat} (c : Chip) (h : b ≠ a) : (axisOff a c).sub b = c.sub b := by
  obtain ⟨heq, -⟩ | ⟨d, heq, hd⟩ := axisOff_cases a c
  · rw [heq]
  · rw [heq, enterOff_sub_other d h, Chip.sub_of_rd (hd 9 (.inl rfl))]

theorem axisOff_rd_stat (a : Nat) (c : Chip) : (axisOff a c).rd 0xC0000 = c.rd 0xC0000 ∨ 4 ≤ a := by
  by_cases ha : a < 4
  · refine .inl ?_
    obtain ⟨heq, -⟩ | ⟨d, heq, hd⟩ := axisOff_cases a c
    · rw [heq]
    · rw [heq, enterOff_rd_of_other d (by decide) (by simp only [F.MOT_SPE, F.MOT_FLAGS, F.MOT_STAT]; omega), hd _ (.inr rfl)]
  · exact .inr (by omega)

theorem allOff_sub {a : Nat} (c : Chip) (ha : a < 4) : (allOff c).sub a = .off := by
  obtain ⟨d, -, hlast⟩ := Chip.forN_one_pass (fun d => d.sub a) (f := axisOff) ha (fun j d hj => axisOff_sub_other d hj.symm) c
  exact hlast.trans (axisOff_sub_same d ha)

theorem allOff_rd_stat (c : Chip) : (allOff c).rd 0xC0000 = c.rd 0xC0000 :=
  Chip.forN_keeps_below (fun d => d.rd 0xC0000) (fun a ha d => (axisOff_rd_stat a d).resolve_right (by omega)) c

/-! ### The monitored stop (R508) -/

/-- A session that begins to close shows it in its own word. -/
theorem beginClose_rd {b : Nat} (reason : Nat) (recov : Bool) (pend : Option PendReq) (c : Chip) (h : b ≠ F.MTR_SESS ∧ (b < 0x10 ∨ 0x14 ≤ b)) :
    (beginClose reason recov pend c).rd b = c.rd b := by
  unfold beginClose
  split
  · rw [setSess, Chip.evMeter, Chip.rd_evt_ne _ _ _ (by omega), Chip.rd_set_ne _ _ _ h.1]
    rfl
  · rfl

theorem ss1Ended_run (c : Chip) : (ss1Ended c).is F.SAF_STAT_SS1RUN = false := by
  unfold ss1Ended
  split
  · rw [Chip.is, Chip.get_setb_ne _ _ _ _ (by decide)]
    exact Chip.is_setb_same _ _ _ rfl (by decide)
  · next h => exact Bool.eq_false_iff.mpr h

/-- Every axis OFF, and the stop over. -/
def stopHeld (c : Chip) : Chip := (allOff (ss1Ended c)).raise F.DEV_MODE_HOLD

theorem endStop_eq {c : Chip} (h : c.ms.dischargeAfter = false) :
    endStop c = modMs (fun s => { s with dischargeAfter := false }) (beginClose 2 false none (stopHeld c)) := by
  simp only [endStop, h, Bool.false_eq_true, if_false, stopHeld]

theorem endStop_rd {c : Chip} {b : Nat} (h : c.ms.dischargeAfter = false) (hb : b ≠ F.MTR_SESS ∧ (b < 0x10 ∨ 0x14 ≤ b)) :
    (endStop c).rd b = (stopHeld c).rd b := by
  rw [endStop_eq h, modMs_rd, beginClose_rd _ _ _ _ hb]

theorem endStop_shows {c : Chip} (h : c.ms.dischargeAfter = false) :
    (endStop c).is F.DEV_MODE_HOLD = true ∧ (endStop c).is F.SAF_STAT_SS1RUN = false ∧ ∀ a : Nat, a < 4 → (endStop c).sub a = .off := by
  have his {f : Fld} (hf : f.addr ≠ F.MTR_SESS ∧ (f.addr < 0x10 ∨ 0x14 ≤ f.addr)) : (endStop c).is f = (stopHeld c).is f := by
    simp only [Chip.is, Chip.get, endStop_rd h hf]
  refine ⟨?_, ?_, fun a ha => ?_⟩
  · rw [his (by decide)]
    exact Chip.is_raise_same _ _ rfl (by decide)
  · rw [his (by decide), stopHeld, Chip.is, Chip.get_raise_ne _ _ _ (by decide), ← ss1Ended_run c]
    simp only [Chip.is, Chip.get]
    exact congrArg (fun w : Word => w.field _ _ == 1) (allOff_rd_stat (ss1Ended c))
  · rw [Chip.sub_of_rd (endStop_rd h (by decide)), stopHeld, Chip.sub_of_rd (Chip.rd_raise_ne _ _ (by decide)), allOff_sub _ ha]

/-- An evaluation of a monitored stop has been counted, with its standstill. -/
def stopTicked (t : Nat) (still : Bool) (c : Chip) : Chip :=
  modRind (fun r => { r with ss1Ticks := t, stillTicks := if still then r.stillTicks + 1 else 0 }) c

/-- The evaluation has counted what is beyond the envelope. -/
def stopCounted (t : Nat) (still : Bool) (c : Chip) : Chip :=
  (stopTicked t still c).forEach (enabledMons c) (fun (m : Nat) (d : Chip) =>
    modMon m (fun q => { q with rampRun := if beyondEnvelope (stopTicked t still c) m t then q.rampRun + 1 else 0 }) d)

theorem stopCounted_keeps {α : Type} (p : Chip → α) (hp : ∀ c r, p { c with rind := r } = p c) (t : Nat) (still : Bool) (c : Chip) :
    p (stopCounted t still c) = p c := by
  refine (Chip.forEach_keeps_of_mem p (fun m _ d => ?_) _).trans ?_
  · exact hp d _
  · exact hp c _

theorem stopCounted_still (t : Nat) (c : Chip) : (stopCounted t true c).rind.stillTicks = c.rind.stillTicks + 1 := by
  refine Chip.forEach_keeps_of_mem (fun d => d.rind.stillTicks) (fun m _ d => ?_) _
  rfl

theorem ss1Evaluation_of_still {c : Chip} (hr : ss1Running c = true) (hm : ss1Ramped c = true) (hn : 9 ≤ c.rind.stillTicks)
    (hs : ∀ m : Nat, m ∈ enabledMons c → absRat (rindMon c m).speed < ((c.pf F.SIN_RSTOP_SSTILL : Nat) : Rat)) :
    ss1Evaluation c = endStop (stopCounted (c.rind.ss1Ticks + 1) true c) := by
  have hstill : (enabledMons c).all (fun m => decide (absRat (rindMon c m).speed < ((c.pf F.SIN_RSTOP_SSTILL : Nat) : Rat))) = true := by
    simpa [List.all_eq_true] using hs
  have hten := stopCounted_still (c.rind.ss1Ticks + 1) c
  have hten' : 10 ≤ (stopCounted (c.rind.ss1Ticks + 1) true c).rind.stillTicks := by omega
  simp only [ss1Evaluation, hr, hm, hstill, Bool.not_true, Bool.or_self, Bool.false_eq_true, if_false]
  exact if_pos hten'

theorem ss1Timeout_of_running {c : Chip} (h : ss1Running c = true) : ss1Timeout c = (endStop c).raise F.SAF_STAT_SS1EXP := if_pos h

theorem ascDeferralEnd_of_deferring {c : Chip} (h : deferNow c = true) : ascDeferralEnd c = modRind (fun r => { r with deferOver := true }) c := if_pos h

theorem rindSelfTestDone_of_passed {c : Chip} (h : rindRuns c = true) : rindSelfTestDone none c = c.raise F.SAF_STAT_SELFOK := by
  have hreset : c.clk.rindReset = false := by
    simp only [rindRuns, Bool.and_eq_true, Bool.not_eq_true'] at h
    exact h.1
  simp [rindSelfTestDone, hreset]

theorem mode_of_up {c : Chip} (h : up c = true) : c.mode ≠ .reset := by simpa [up] using h

theorem sameWords_setCond (k : Nat) (on : Bool) (f : Rind → Rind) (c : Chip) : sameWords c (setCond k on (modRind f c)) := sameBut_refl [] c

/-- Settles O55: each event of Rind by the words, the conditions and the notices that it leaves. -/
theorem rindHoldsStoAndRaisesDemands : Obligations.RindHoldsStoAndRaisesDemands := by
  unfold Obligations.RindHoldsStoAndRaisesDemands
  refine ⟨fun s b k uv n e x f m h o hr i hi => ?_,
    fun s hr => island_of_runs hr stoRelease,
    fun c hr ha => by rw [stoRelease_of_released hr ha]; exact ⟨rfl, rfl⟩,
    fun c h => stoRelease_of_held h,
    fun k c hk h => ⟨internalFault_diag (field_one_ne h) (by omega), internalFault_latch (field_one_ne h), internalFault_shows_latch (field_one_ne h),
      internalFault_notices (field_one_ne h)⟩,
    fun s hr => island_of_runs hr (stoReadback false),
    fun s hr hreq => ⟨_, island_of_runs hr (stoReadback true), stoReadback_shows hreq⟩,
    fun s k uv hr hl he hc hcond h => ⟨_, island_of_runs hr (rcmpLevel k uv), ?_⟩,
    fun s k uv hr hl hoff => ⟨_, island_of_runs hr (rcmpLevel k uv), ?_⟩,
    fun s k code hr hk hch => ⟨_, island_of_runs hr (saConversion k code.toNat), saConversion_code hk hch code.isLt, saConversion_val hk hch⟩,
    fun s code hr hb hcode h => ⟨_, island_of_runs hr (saConversion 9 code.toNat), ?_⟩,
    fun s code hr hc => ⟨_, island_of_runs hr (saConversion 8 code.toNat), ?_⟩,
    fun s k hr he hn => ⟨_, island_of_runs hr (crossWindow k), crossWindow_cmp he hn⟩,
    fun s m h e hr hon => ⟨_, island_of_runs hr (torqueEvaluation m h.toNat e), ?_⟩,
    fun s m h e hr hon => ⟨_, island_of_runs hr (torqueEvaluation m h.toNat e), torqueEvaluation_shows _ e hon⟩,
    fun s m hr hs h => ⟨_, island_of_runs hr (trefFreshness m), ?_⟩,
    fun s hr hrun hramp hn hs => ⟨stopCounted (s.chip.rind.ss1Ticks + 1) true s.chip, ?_, ?_, stopCounted_keeps Chip.ms (fun _ _ => rfl) _ _ _⟩,
    fun s hr hrun => (island_of_runs hr ss1Timeout).trans (by rw [ss1Timeout_of_running hrun]),
    fun c h => endStop_shows h,
    fun s hr hd => ⟨_, island_of_runs hr ascDeferralEnd, ?_⟩,
    fun s hr => (island_of_runs hr (rindSelfTestDone none)).trans (by rw [rindSelfTestDone_of_passed hr]),
    fun s k hr => island_of_runs hr (rindSelfTestDone (some k)),
    fun s hr hp => (island_of_runs hr (psetcrcCheck false)).trans (by simp [psetcrcCheck, hp]),
    fun s f hr hu hw => ⟨_, island_of_runs hr (sclkmonWindow f), ?_⟩,
    fun s f hr hu hw hn => ⟨_, island_of_runs hr (sclkmonWindow f), ?_⟩,
    fun s hr ha => ⟨_, island_of_runs hr proofHour, proofHour_hours ha, proofHour_due ha⟩⟩
  · simp only [List.mem_cons, List.not_mem_nil, or_false] at hi
    rcases hi with rfl | rfl | rfl | rfl | rfl | rfl | rfl | rfl | rfl | rfl | rfl | rfl | rfl | rfl <;> exact island_of_stopped hr _
  · rw [rcmpLevel_eq uv (by omega), he, hcond, decide_eq_true hc]
    exact demand_shows .sto (by omega) h
  · rw [rcmpLevel_eq uv (by omega), hoff]
    exact ⟨setCond_off _, sameWords_setCond k false _ s.chip⟩
  · obtain ⟨f, heq⟩ := scanResult_of_bad hb
    rw [saConversion_half_of_bad hcode, heq]
    exact ⟨internalFault_diag (field_one_ne h) (by decide), internalFault_latch (field_one_ne h)⟩
  · obtain ⟨f, heq⟩ := saConversion_zero_of_good (c := s.chip) hc
    rw [heq]
    exact sameBut_refl [] s.chip
  · rw [torqueEvaluation_of_off _ _ hon]
    exact ⟨monIdle_active s.chip, setCond_off _⟩
  · obtain ⟨hbit, -, hnotice⟩ := demand_shows .sto (by decide) h
    rw [trefFreshness_of_stale hs]
    exact ⟨hbit, hnotice⟩
  · exact (island_of_runs hr ss1Evaluation).trans (by rw [ss1Evaluation_of_still hrun hramp hn hs])
  · exact stopCounted_keeps (fun d => sameWords s.chip d) (fun _ _ => rfl) _ true s.chip ▸ sameBut_refl [] s.chip
  · rw [ascDeferralEnd_of_deferring hd]
    exact ⟨rfl, sameBut_refl [] s.chip⟩
  · rw [sclkmonWindow_of_good (mode_of_up hu) hw]
    exact ⟨rfl, sameBut_refl [] s.chip⟩
  · rw [sclkmonWindow_of_bad (mode_of_up hu) hw hn]
    exact internalFault_bit _ (by decide)

end Sys2Proof.Machine
end

section
/-! SUPPORT. The proofs of the safety inputs (16_safety_inputs_and_safety_configuration): functions, channels, test pulses, levels and the evaluation. -/

namespace Sys2Proof.Machine

/-! ### Loops -/

/-- A loop establishes what one of its passes establishes, where the passes before it leave its premise and those after it what it established. -/
theorem Chip.forN_establishes {P Q : Chip → Prop} {f : Nat → Chip → Chip} {k n : Nat} (hk : k < n) (before : ∀ j < n, j ≠ k → ∀ c, Q c → Q (f j c))
    (at_k : ∀ c, Q c → P (f k c)) (after : ∀ j < n, j ≠ k → ∀ c, P c → P (f j c)) (c : Chip) (h : Q c) : P (c.forN n f) := by
  have hbefore (m : Nat) (hm : m ≤ k) : Q (c.forN m f) := by
    induction m with
    | zero => exact h
    | succ m ih =>
      rw [Chip.forN_succ]
      exact before m (by omega) (by omega) _ (ih (by omega))
  have hafter (m : Nat) (hm : m ≤ n) (hkm : k < m) : P (c.forN m f) := by
    induction m with
    | zero => exact absurd hkm (Nat.not_lt_zero k)
    | succ m ih =>
      rw [Chip.forN_succ]
      rcases Nat.lt_succ_iff_lt_or_eq.mp hkm with hlt | rfl
      · exact after m (by omega) hlt.ne' _ (ih (by omega) hlt)
      · exact at_k _ (hbefore k le_rfl)
  exact hafter n le_rfl hk

/-- A loop preserves what each of its passes preserves. -/
theorem Chip.forN_preserves {P : Chip → Prop} {f : Nat → Chip → Chip} (hstep : ∀ j c, P c → P (f j c)) (n : Nat) (c : Chip) (h : P c) : P (c.forN n f) := by
  induction n with
  | zero => exact h
  | succ n ih =>
    rw [Chip.forN_succ]
    exact hstep n _ ih

/-! ### Functions, channels and what they show -/

/-- A function's part that an update of a function leaves as it was. -/
theorem sinFn_modFn_keeps {α : Type} (p : SinFn → α) {g : SinFn → SinFn} (h : ∀ q, p (g q) = p q) (f : Nat) (c : Chip) (k : Nat) :
    p (sinFn (modFn f g c) k) = p (sinFn c k) := by
  simp only [sinFn, modFn, modRind, List.getD_eq_getElem?_getD, List.getElem?_modify]
  cases c.rind.fns[k]? with
  | none => rfl
  | some q =>
    simp only [Option.getD_some]
    split
    · exact h q
    · rfl

theorem sinFn_modFn_other {f k : Nat} (g : SinFn → SinFn) (c : Chip) (h : k ≠ f) : sinFn (modFn f g c) k = sinFn c k := by
  simp only [sinFn, modFn, modRind, List.getD_eq_getElem?_getD, List.getElem?_modify, if_neg h.symm, id_map']

theorem sinFn_modFn_same {f : Nat} (g : SinFn → SinFn) {c : Chip} (h : f < c.rind.fns.length) : sinFn (modFn f g c) f = g (sinFn c f) := by
  simp [sinFn, modFn, modRind, h]

theorem modFn_rd (f : Nat) (g : SinFn → SinFn) (c : Chip) (b : Nat) : (modFn f g c).rd b = c.rd b := rfl
theorem modFn_is (f : Nat) (g : SinFn → SinFn) (c : Chip) (k : Fld) : (modFn f g c).is k = c.is k := rfl
theorem modFn_inForce (f : Nat) (g : SinFn → SinFn) (c : Chip) : (modFn f g c).rind.inForce = c.rind.inForce := rfl

/-- Channel x of function f. -/
def sinChan (c : Chip) (f x : Nat) : SinChan := (sinFn c f).ch.getD x {}

/-- A part of the channels that an update of every channel of a function leaves as it was. -/
theorem sinChan_mapped {α : Type} (p : SinChan → α) {g : SinChan → SinChan} (h : ∀ q, p (g q) = p q) (f : Nat) (c : Chip) (k x : Nat) :
    p (sinChan (modFn f (fun q => { q with ch := q.ch.map g }) c) k x) = p (sinChan c k x) := by
  refine sinFn_modFn_keeps (fun q => p (q.ch.getD x {})) (fun q => ?_) f c k
  dsimp only
  rw [List.getD_eq_getElem?_getD, List.getD_eq_getElem?_getD, List.getElem?_map]
  cases q.ch[x]? with
  | none => rfl
  | some s => exact h s

/-- Another channel of a function, or a channel of another function. -/
theorem sinChan_modChan_other {f y k x : Nat} (g : SinChan → SinChan) (c : Chip) (h : k ≠ f ∨ x ≠ y) : sinChan (modChan f y g c) k x = sinChan c k x := by
  by_cases hf : k = f
  · have hx : x ≠ y := h.resolve_left (not_not.mpr hf)
    refine sinFn_modFn_keeps (fun q => q.ch.getD x {}) (fun q => ?_) f c k
    simp only [List.getD_eq_getElem?_getD, List.getElem?_modify, if_neg hx.symm, id_map']
  · simp only [sinChan, modChan, sinFn_modFn_other _ _ hf]

/-- The set in force and the channels' processed levels, of which permits are formed. -/
def levelsView (c : Chip) : List (Nat × Word) × (Nat → Nat → Option Bool) := (c.rind.inForce, chanLvl c)

theorem levelsView_ext {c d : Chip} (hf : d.rind.inForce = c.rind.inForce) (h : ∀ f x, (sinChan d f x).lvl = (sinChan c f x).lvl) :
    levelsView d = levelsView c := Prod.ext hf (funext fun f => funext fun x => h f x)

section
variable {c d : Chip}

theorem pf_of_inForce (h : d.rind.inForce = c.rind.inForce) (f : Fld) : d.pf f = c.pf f := by simp only [Chip.pf, h]

theorem fnType_of_inForce (h : d.rind.inForce = c.rind.inForce) (f : Nat) : fnType d f = fnType c f := by simp only [fnType, pf_of_inForce h]

theorem fromTp_of_inForce (h : d.rind.inForce = c.rind.inForce) (f x n : Nat) : fromTp d f x n = fromTp c f x n := by
  simp only [fromTp, fnType_of_inForce h, fnSource, pf_of_inForce h]

variable (h : levelsView d = levelsView c)
include h

theorem inForce_of_levelsView : d.rind.inForce = c.rind.inForce := congrArg Prod.fst h

theorem fnType_of_levelsView (f : Nat) : fnType d f = fnType c f := fnType_of_inForce (inForce_of_levelsView h) f

theorem chanLvl_of_levelsView (f x : Nat) : chanLvl d f x = chanLvl c f x := congrFun (congrFun (congrArg Prod.snd h) f) x

theorem allKnown_of_levelsView (f : Nat) : allKnown d f = allKnown c f := by
  simp only [allKnown, fnType_of_levelsView h, chanLvl_of_levelsView h]

theorem contactClosed_of_levelsView (f x : Nat) : contactClosed d f x = contactClosed c f x := by
  have hanti : d.pb (F.SIN_F_CFG_ANTI f) = c.pb (F.SIN_F_CFG_ANTI f) := by simp only [Chip.pb, pf_of_inForce (inForce_of_levelsView h)]
  unfold contactClosed
  rw [chanLvl_of_levelsView h, fnType_of_levelsView h, hanti]

end

/-! ### Fault latches (R534) -/

/-- A fault of a function is latched, whether it is new or stands. -/
theorem sinFault_sets {fld : Fld} {f : Nat} (c : Chip) (hw : fld.width = 1) (h : fld.lo + fld.width ≤ 48) (ha : 0x14 ≤ fld.addr)
    (hne : fld.lo + fld.width ≤ 8) : (sinFault fld f c).is fld = true := by
  have hevt (d : Chip) : d.evSinDiag.is fld = d.is fld := by
    rw [Chip.is, Chip.evSinDiag, Chip.get_evt_ne _ _ _ _ (by omega), Chip.is]
  unfold sinFault
  split
  · next hs => rw [hevt, hs]
  · rw [modFn_is, hevt, Chip.is, Chip.get_setb_ne _ _ _ _ (.inr (.inr (by simpa only [F.SIN_F_STAT_FCLR] using hne)))]
    exact Chip.is_raise_same c fld hw h

/-- A fault leaves the words of the other functions. -/
theorem sinFault_rd {fld : Fld} {f b : Nat} (c : Chip) (hfld : fld.addr = F.SIN_F_STAT f) (h : b ≠ F.SIN_F_STAT f ∧ 0x14 ≤ b) :
    (sinFault fld f c).rd b = c.rd b := by
  have hevt (d : Chip) : d.evSinDiag.rd b = d.rd b := Chip.rd_evt_ne _ _ _ (by omega)
  unfold sinFault
  split
  · exact hevt c
  · rw [modFn_rd, hevt, Chip.rd_setb_ne _ _ _ h.1, Chip.rd_raise_ne _ _ (by rw [hfld]; exact h.1)]

theorem sinFault_inForce (fld : Fld) (f : Nat) (c : Chip) : (sinFault fld f c).rind.inForce = c.rind.inForce := by
  unfold sinFault
  split <;> rfl

/-- A fault starts the followed pulses again and leaves the rest of the channels. -/
theorem sinChan_sinFault {α : Type} (p : SinChan → α) (hp : ∀ q, p { q with followed := 0 } = p q) (fld : Fld) (f : Nat) (c : Chip) (k x : Nat) :
    p (sinChan (sinFault fld f c) k x) = p (sinChan c k x) := by
  unfold sinFault
  split
  · rfl
  · exact sinChan_mapped p hp f _ k x

/-! ### Test pulses (R527) -/

/-- The end of a pulse window, or its start, as a channel sees it. -/
def pulseChannel (n : Nat) (low : Bool) (seen : BitVec 32) (f x : Nat) (c : Chip) : Chip :=
  if fromTp c f x n then
    if low then modChan f x (fun k => { k with stoodHigh := k.lvl == some true }) c
    else if !((sinFn c f).ch.getD x {}).stoodHigh then c
    else if seen.getLsbD (4 * f + x) then modChan f x (fun k => { k with followed := k.followed + 1, stoodHigh := false }) c
    else sinFault (F.SIN_F_STAT_TPF f) f (modChan f x (fun k => { k with followed := 0, stoodHigh := false }) c)
  else c

theorem testPulse_of_off {n : Nat} (low : Bool) (seen : BitVec 32) {c : Chip} (h : Nat.bitAt (c.pf F.SIN_TP_EN) n = false) :
    testPulse n low seen c = c.setBit F.SIN_SSTAT_TPLVL n false := by
  simp [testPulse, h]

theorem testPulse_of_on {n : Nat} {low : Bool} (seen : BitVec 32) {c : Chip} (h : Nat.bitAt (c.pf F.SIN_TP_EN) n = true)
    (hl : Nat.bitAt (c.get F.SIN_SSTAT_TPLVL) n = low) :
    testPulse n low seen c = (c.setBit F.SIN_SSTAT_TPLVL n (!low)).forN 8 (fun f c => c.forN 4 (pulseChannel n low seen f)) := by
  have hgoes : (low == !low) = false := by cases low <;> rfl
  simp only [testPulse, h, hl, hgoes, Bool.not_true, Bool.false_eq_true, if_false]
  rfl

section
variable {n : Nat} {low : Bool} {seen : BitVec 32} {f x : Nat} (c : Chip)

theorem pulseChannel_rd {b : Nat} (h : b ≠ F.SIN_F_STAT f ∧ 0x14 ≤ b) : (pulseChannel n low seen f x c).rd b = c.rd b := by
  unfold pulseChannel
  split_ifs
  · rfl
  · rfl
  · rfl
  · exact sinFault_rd (fld := F.SIN_F_STAT_TPF f) _ rfl h
  · rfl

theorem pulseChannel_inForce : (pulseChannel n low seen f x c).rind.inForce = c.rind.inForce := by
  unfold pulseChannel
  split_ifs
  · rfl
  · rfl
  · rfl
  · exact sinFault_inForce _ _ _
  · rfl

/-- A test-pulse fault stays latched. -/
theorem pulseChannel_fault {k : Nat} (h : c.is (F.SIN_F_STAT_TPF k) = true) : (pulseChannel n low seen f x c).is (F.SIN_F_STAT_TPF k) = true := by
  by_cases hk : k = f
  · subst hk
    unfold pulseChannel
    split_ifs
    · exact h
    · exact h
    · exact h
    · exact sinFault_sets _ rfl (by simp only [F.SIN_F_STAT_TPF]; omega) (by simp only [F.SIN_F_STAT_TPF]; omega) (by simp only [F.SIN_F_STAT_TPF]; omega)
    · exact h
  · simp only [Chip.is, Chip.get] at h ⊢
    rwa [pulseChannel_rd c (by simp only [F.SIN_F_STAT_TPF, F.SIN_F_STAT]; omega)]

/-- Whether another channel stood high before its pulse is kept. -/
theorem pulseChannel_stoodHigh {k y : Nat} (h : k ≠ f ∨ y ≠ x) : (sinChan (pulseChannel n low seen f x c) k y).stoodHigh = (sinChan c k y).stoodHigh := by
  unfold pulseChannel
  split_ifs
  · rw [sinChan_modChan_other _ _ h]
  · rfl
  · rw [sinChan_modChan_other _ _ h]
  · rw [sinChan_sinFault SinChan.stoodHigh (fun _ => rfl), sinChan_modChan_other _ _ h]
  · rfl

theorem pulseChannel_not_followed (hf : fromTp c f x n = true) (hs : (sinChan c f x).stoodHigh = true) (hn : seen.getLsbD (4 * f + x) = false) :
    (pulseChannel n false seen f x c).is (F.SIN_F_STAT_TPF f) = true := by
  have hstood : ((sinFn c f).ch.getD x {}).stoodHigh = true := hs
  simp only [pulseChannel, hf, hstood, hn, Bool.false_eq_true, Bool.not_true, if_false, if_true]
  exact sinFault_sets _ rfl (by simp only [F.SIN_F_STAT_TPF]; omega) (by simp only [F.SIN_F_STAT_TPF]; omega) (by simp only [F.SIN_F_STAT_TPF]; omega)

end

/-- A channel of a set in force stood high before its pulse. -/
def pulseStood (l : List (Nat × Word)) (f x : Nat) (c : Chip) : Prop := c.rind.inForce = l ∧ (sinChan c f x).stoodHigh = true

theorem pulseStood_pulseChannel {n j y f x : Nat} {low : Bool} {seen : BitVec 32} {l : List (Nat × Word)} {c : Chip} (hne : f ≠ j ∨ x ≠ y)
    (h : pulseStood l f x c) : pulseStood l f x (pulseChannel n low seen j y c) :=
  ⟨(pulseChannel_inForce c).trans h.1, (pulseChannel_stoodHigh c hne).trans h.2⟩

/-- A pulse's end finds every channel that stood high and did not follow. -/
theorem pulseLoop_not_followed {n f x : Nat} {seen : BitVec 32} (c : Chip) (hf : f < 8) (hx : x < 4) (htp : fromTp c f x n = true)
    (hs : (sinChan c f x).stoodHigh = true) (hn : seen.getLsbD (4 * f + x) = false) :
    (c.forN 8 (fun f c => c.forN 4 (pulseChannel n false seen f))).is (F.SIN_F_STAT_TPF f) = true := by
  refine Chip.forN_establishes (P := fun d => d.is (F.SIN_F_STAT_TPF f) = true) (Q := pulseStood c.rind.inForce f x) hf (fun j _ hj => ?_) (fun d hd => ?_)
    (fun j _ _ => ?_) c ⟨rfl, hs⟩
  · exact Chip.forN_preserves (fun y d hd => pulseStood_pulseChannel (.inl hj.symm) hd) 4
  · refine Chip.forN_establishes hx (fun y _ hy e he => pulseStood_pulseChannel (.inr hy.symm) he) (fun e he => ?_) (fun y _ _ e he => pulseChannel_fault e he) d hd
    exact pulseChannel_not_followed e ((fromTp_of_inForce he.1 f x n).trans htp) he.2 hn
  · exact Chip.forN_preserves (fun y d hd => pulseChannel_fault d hd) 4

theorem pulseLoop_rd {n b : Nat} {low : Bool} {seen : BitVec 32} (c : Chip) (h : 0x14 ≤ b ∧ b < 0xd0022) :
    (c.forN 8 (fun f c => c.forN 4 (pulseChannel n low seen f))).rd b = c.rd b := by
  refine Chip.forN_keeps (fun d => d.rd b) (fun f d => ?_) _ _
  exact Chip.forN_keeps (fun d => d.rd b) (fun x d => pulseChannel_rd d (by simp only [F.SIN_F_STAT]; omega)) _ _

theorem testPulse_level {n : Nat} {low : Bool} (seen : BitVec 32) {c : Chip} (hn : n < 4)
    (h : Nat.bitAt (c.pf F.SIN_TP_EN) n = true → Nat.bitAt (c.get F.SIN_SSTAT_TPLVL) n = low) :
    (testPulse n low seen c).getBit F.SIN_SSTAT_TPLVL n = (Nat.bitAt (c.pf F.SIN_TP_EN) n && !low) := by
  have hlo : F.SIN_SSTAT_TPLVL.lo + n < 48 := by simp only [F.SIN_SSTAT_TPLVL]; omega
  cases he : Nat.bitAt (c.pf F.SIN_TP_EN) n with
  | false => rw [testPulse_of_off low seen he, Chip.getBit_setBit_same _ _ _ hlo, Bool.false_and]
  | true =>
    rw [testPulse_of_on seen he (h he), Chip.getBit, pulseLoop_rd _ (by decide), Bool.true_and]
    exact Chip.getBit_setBit_same c F.SIN_SSTAT_TPLVL (!low) hlo

theorem testPulse_fault {n f x : Nat} {seen : BitVec 32} {c : Chip} (he : Nat.bitAt (c.pf F.SIN_TP_EN) n = true)
    (hl : Nat.bitAt (c.get F.SIN_SSTAT_TPLVL) n = false) (hf : f < 8) (hx : x < 4) (htp : fromTp c f x n = true) (hs : (sinChan c f x).stoodHigh = true)
    (hn : seen.getLsbD (4 * f + x) = false) : (testPulse n false seen c).is (F.SIN_F_STAT_TPF f) = true := by
  rw [testPulse_of_on seen he hl]
  exact pulseLoop_not_followed _ hf hx htp hs hn

/-- A read-back fault of TPn, as function f takes it. -/
def readbackPass (n f : Nat) (c : Chip) : Chip :=
  if (List.range 4).any (fun x => fromTp c f x n) then sinFault (F.SIN_F_STAT_TPF f) f c else c

theorem tpReadback_eq (n : Nat) (c : Chip) : tpReadback n c = c.forN 8 (readbackPass n) := rfl

/-- The test-pulse fault of a function, and the set in force. -/
def faultView (f : Nat) (c : Chip) : Bool × List (Nat × Word) := (c.is (F.SIN_F_STAT_TPF f), c.rind.inForce)

theorem faultView_readbackPass_other {n f j : Nat} (c : Chip) (h : j ≠ f) : faultView f (readbackPass n j c) = faultView f c := by
  unfold readbackPass
  split
  · refine Prod.ext ?_ (sinFault_inForce _ _ _)
    simp only [faultView, Chip.is, Chip.get]
    rw [sinFault_rd c rfl (by simp only [F.SIN_F_STAT_TPF, F.SIN_F_STAT]; omega)]
  · rfl

theorem readbackPass_fault (n f : Nat) (c : Chip) :
    (readbackPass n f c).is (F.SIN_F_STAT_TPF f) = (c.is (F.SIN_F_STAT_TPF f) || (List.range 4).any (fun x => fromTp c f x n)) := by
  unfold readbackPass
  split
  · next h =>
    rw [h, Bool.or_true]
    exact sinFault_sets _ rfl (by simp only [F.SIN_F_STAT_TPF]; omega) (by simp only [F.SIN_F_STAT_TPF]; omega) (by simp only [F.SIN_F_STAT_TPF]; omega)
  · next h => rw [Bool.eq_false_iff.mpr h, Bool.or_false]

/-- A read-back fault is a test-pulse fault of every function with a channel from that output. -/
theorem tpReadback_shows {n f : Nat} (c : Chip) (hf : f < 8) :
    (tpReadback n c).is (F.SIN_F_STAT_TPF f) = (c.is (F.SIN_F_STAT_TPF f) || (List.range 4).any (fun x => fromTp c f x n)) := by
  obtain ⟨d, hd, hloop⟩ := Chip.forN_one_pass (faultView f) hf (fun j d hj => faultView_readbackPass_other d hj) c
  obtain ⟨hflag, hforce⟩ := Prod.ext_iff.mp hd
  rw [tpReadback_eq]
  refine (congrArg Prod.fst hloop).trans ((readbackPass_fault n f d).trans ?_)
  simp only [fromTp_of_inForce hforce]
  exact congrArg (· || _) hflag

end Sys2Proof.Machine
end

section
/-! SUPPORT. The proofs of the safety inputs (16_safety_inputs_and_safety_configuration), second part: processed levels and the evaluation. -/

namespace Sys2Proof.Machine

/-! ### Processed levels (R529, R540) -/

/-- An event of Rind that changes nothing where its logic runs changes nothing at all. -/
theorem island_of_same {s : State} {f : Chip → Chip} (h : f s.chip = s.chip) : island s f = .next (s.acted s.chip) := by
  cases hr : rindRuns s.chip with
  | true => rw [island_of_runs hr, h]
  | false => exact island_of_stopped hr f

theorem levelHeld_of_not_taken {f x k : Nat} {l : Bool} {c : Chip}
    (h : fnChannels (fnType c f) ≤ x ∨ windowed c f x = true ∨ k < filterSamples c f x l) : levelHeld f x l k c = c := by
  rcases h with h | h | h
  · simp [levelHeld, processedLevel, h]
  · simp [levelHeld, h]
  · simp [levelHeld, h]

/-- One bit of a field, as a field of its own. -/
def bitOf (f : Fld) (k : Nat) : Fld := ⟨f.addr, f.lo + k, 1⟩

theorem Chip.getBit_eq (c : Chip) (f : Fld) (k : Nat) : c.getBit f k = c.is (bitOf f k) := rfl
theorem Chip.setBit_eq (c : Chip) (f : Fld) (k : Nat) (b : Bool) : c.setBit f k b = c.set (bitOf f k) (bit b) := rfl

/-- A level taken, and shown, before the function judges it. -/
def levelTaken (f x : Nat) (l : Bool) (c : Chip) : Chip := showLevels f x l (modChan f x (fun k => { k with lvl := some l }) c)

theorem levelTaken_shown {f x : Nat} (l : Bool) (c : Chip) (hx : x < 4) : (levelTaken f x l c).getBit (F.SIN_F_STAT_CLVL f) x = l :=
  Chip.getBit_setBit_same _ _ _ (by simp only [F.SIN_F_STAT_CLVL]; omega)

section
variable {f x : Nat} (c : Chip)

theorem clvl_setb {g : Fld} (b : Bool) (h : g.lo + g.width ≤ 12) : (c.setb g b).getBit (F.SIN_F_STAT_CLVL f) x = c.getBit (F.SIN_F_STAT_CLVL f) x := by
  rw [Chip.getBit_eq, Chip.is, Chip.get_setb_ne _ _ _ _ (.inr (.inl (by simp only [bitOf, F.SIN_F_STAT_CLVL]; omega))), Chip.getBit_eq, Chip.is]

theorem clvl_modFn (k : Nat) (g : SinFn → SinFn) : (modFn k g c).getBit (F.SIN_F_STAT_CLVL f) x = c.getBit (F.SIN_F_STAT_CLVL f) x := rfl

theorem clvl_evSinDiag : c.evSinDiag.getBit (F.SIN_F_STAT_CLVL f) x = c.getBit (F.SIN_F_STAT_CLVL f) x := by
  rw [Chip.getBit, Chip.evSinDiag, Chip.rd_evt_ne _ _ _ (by simp only [F.SIN_F_STAT_CLVL]; omega), Chip.getBit]

theorem clvl_handsChanged (k : Nat) : (handsChanged k c).getBit (F.SIN_F_STAT_CLVL f) x = c.getBit (F.SIN_F_STAT_CLVL f) x := by
  simp only [handsChanged]
  split
  · rfl
  · split
    · split_ifs
      · rfl
      · rfl
      · rw [clvl_modFn, clvl_evSinDiag]
        exact clvl_setb _ true (by simp only [F.SIN_F_STAT_SYNCX]; omega)
    · rfl

theorem clvl_resetInput (k : Nat) (l : Bool) : (resetInput k l c).getBit (F.SIN_F_STAT_CLVL f) x = c.getBit (F.SIN_F_STAT_CLVL f) x := by
  have hcleared : ((modFn k (fun q => { q with riseAt := none }) c).setb (F.SIN_F_STAT_RSTSTUCK k) false).getBit (F.SIN_F_STAT_CLVL f) x =
      c.getBit (F.SIN_F_STAT_CLVL f) x := clvl_setb _ false (by simp only [F.SIN_F_STAT_RSTSTUCK]; omega)
  have hevents (d : Chip) (n : Nat) :
      (d.forN n (fun j c => if c.pb (F.SIN_F_CFG_RSEL j) && c.pf (F.SIN_F_CFG_RFN j) == k then resetEvent j c else c)).getBit (F.SIN_F_STAT_CLVL f) x =
        d.getBit (F.SIN_F_STAT_CLVL f) x := by
    refine Chip.forN_keeps (fun e => e.getBit (F.SIN_F_STAT_CLVL f) x) (fun j e => ?_) _ _
    split <;> rfl
  simp only [resetInput]
  split_ifs
  · rfl
  · rw [hevents, hcleared]
  · exact hcleared

/-- What a function makes of a taken level leaves the level shown. -/
theorem clvl_processedLevel {l : Bool} (hx : x < fnChannels (fnType c f)) (hl : chanLvl c f x ≠ some l) :
    (processedLevel f x l c).getBit (F.SIN_F_STAT_CLVL f) x = (levelTaken f x l c).getBit (F.SIN_F_STAT_CLVL f) x := by
  have hgoes : ¬(decide (fnChannels (fnType c f) ≤ x) || chanLvl c f x == some l) = true := by simp [hx, hl]
  simp only [processedLevel, if_neg hgoes]
  split
  · exact clvl_handsChanged _ f
  · split
    · rfl
    · exact clvl_resetInput _ f l
  · split_ifs <;> rfl

end

theorem fnChannels_le (t : Nat) : fnChannels t ≤ 4 := by
  unfold fnChannels
  split <;> omega

theorem levelHeld_shows {f x k : Nat} {l : Bool} {c : Chip} (hx : x < fnChannels (fnType c f)) (hw : windowed c f x = false)
    (hk : filterSamples c f x l ≤ k) (hl : chanLvl c f x ≠ some l) : (levelHeld f x l k c).getBit (F.SIN_F_STAT_CLVL f) x = l := by
  have htaken : levelHeld f x l k c = processedLevel f x l c := by simp [levelHeld, hw, hk]
  have hx4 : x < 4 := hx.trans_le (fnChannels_le _)
  rw [htaken, clvl_processedLevel c hx hl, levelTaken_shown l c hx4]

theorem rstStuck_of_high {f : Nat} {c : Chip} (ht : fnType c f = 5) (hl : chanLvl c f 0 = some true) :
    rstStuck f c = c.raise (F.SIN_F_STAT_RSTSTUCK f) := by simp [rstStuck, ht, hl]

/-! ### The evaluation (R531 to R541): what each stage leaves -/

theorem levelsView_modFn {f : Nat} {g : SinFn → SinFn} (c : Chip) (h : ∀ q x, ((g q).ch.getD x {}).lvl = (q.ch.getD x {}).lvl) :
    levelsView (modFn f g c) = levelsView c :=
  levelsView_ext rfl fun k x => sinFn_modFn_keeps (fun q => (q.ch.getD x {}).lvl) (fun q => h q x) f c k

theorem levelsView_setb (c : Chip) (f : Fld) (b : Bool) : levelsView (c.setb f b) = levelsView c := rfl

theorem levelsView_sinFault (fld : Fld) (f : Nat) (c : Chip) : levelsView (sinFault fld f c) = levelsView c :=
  levelsView_ext (sinFault_inForce fld f c) fun k x => sinChan_sinFault SinChan.lvl (fun _ => rfl) fld f c k x

theorem levelsView_checkDisc (f : Nat) (c : Chip) : levelsView (checkDisc f c) = levelsView c := by
  have hdisc (b : Bool) : levelsView (modFn f (fun q => { q with disc := b }) c) = levelsView c := levelsView_modFn c fun _ _ => rfl
  simp only [checkDisc]
  split_ifs <;> simp only [levelsView_sinFault, hdisc]

/-- Whether function f is permitted, with the permit that it had (R536, R539). -/
def permitOf (f : Nat) (c : Chip) : Bool :=
  allKnown c f && (match fnType c f with
    | 1 | 2 | 4 => contactClosed c f 0 && contactClosed c f 1
    | 3 => handActuated c f 0 && handActuated c f 1 && !c.is (F.SIN_F_STAT_DISCF f) &&
        (c.is (F.SIN_F_STAT_PERMIT f) || ((sinFn c f).inTime && (sinFn c f).released))
    | _ => false)

/-- The permit of function f, shown. -/
def permitShown (f : Nat) (c : Chip) : Chip := c.setb (F.SIN_F_STAT_PERMIT f) (permitOf f c)

/-- A new permit of a two-hand control asks for both hands to be released before the next. -/
def handsUsed (f : Nat) (c : Chip) : Chip := (modFn f (fun q => { q with released := false }) c).setb (F.SIN_F_STAT_SYNCX f) false

theorem formPermit_eq (f : Nat) (c : Chip) :
    formPermit f c = if fnType (permitShown f c) f = 3 && permitOf f c && !c.is (F.SIN_F_STAT_PERMIT f) then handsUsed f (permitShown f c)
      else permitShown f c := rfl

theorem permitShown_type (f : Nat) (c : Chip) : fnType (permitShown f c) f = fnType c f := fnType_of_inForce rfl f

theorem levelsView_handsUsed (f : Nat) (c : Chip) : levelsView (handsUsed f c) = levelsView c := by
  rw [handsUsed, levelsView_setb]
  exact levelsView_modFn c fun _ _ => rfl

theorem levelsView_formPermit (f : Nat) (c : Chip) : levelsView (formPermit f c) = levelsView c := by
  rw [formPermit_eq]
  split
  · rw [levelsView_handsUsed, permitShown, levelsView_setb]
  · rw [permitShown, levelsView_setb]

/-- A permit formed leaves the words of the other functions. -/
theorem formPermit_rd {f b : Nat} (c : Chip) (h : b ≠ F.SIN_F_STAT f) : (formPermit f c).rd b = c.rd b := by
  rw [formPermit_eq]
  split
  · rw [handsUsed, Chip.rd_setb_ne _ _ _ h, modFn_rd, permitShown, Chip.rd_setb_ne _ _ _ h]
  · exact Chip.rd_setb_ne _ _ _ h

/-- The permit of two closed contacts (R536). -/
theorem formPermit_of_contacts {f : Nat} (c : Chip) (ht : fnType c f = 1 ∨ fnType c f = 2 ∨ fnType c f = 4) :
    (formPermit f c).is (F.SIN_F_STAT_PERMIT f) = (allKnown c f && (contactClosed c f 0 && contactClosed c f 1)) := by
  have hhands : fnType (permitShown f c) f ≠ 3 := by rw [permitShown_type]; omega
  have hpermit : permitOf f c = (allKnown c f && (contactClosed c f 0 && contactClosed c f 1)) := by
    rcases ht with ht | ht | ht <;> simp only [permitOf, ht]
  rw [formPermit_eq, if_neg (by simp [hhands]), ← hpermit]
  exact Chip.is_setb_same _ _ _ rfl (by simp only [F.SIN_F_STAT_PERMIT]; omega)

theorem formEffp_rd {f b : Nat} (c : Chip) (h : b ≠ F.SIN_F_STAT f) : (formEffp f c).rd b = c.rd b := by
  simp only [formEffp]
  rw [Chip.rd_setb_ne _ _ _ h, Chip.rd_setb_ne _ _ _ h]

theorem formEffp_permit (f : Nat) (c : Chip) : (formEffp f c).is (F.SIN_F_STAT_PERMIT f) = c.is (F.SIN_F_STAT_PERMIT f) := by
  simp only [formEffp, Chip.is]
  rw [Chip.get_setb_ne _ _ _ _ (by simp only [F.SIN_F_STAT_PERMIT, F.SIN_F_STAT_EFFP]; omega),
    Chip.get_setb_ne _ _ _ _ (by simp only [F.SIN_F_STAT_PERMIT, F.SIN_F_STAT_BYPACT]; omega)]

theorem formEffp_inForce (f : Nat) (c : Chip) : (formEffp f c).rind.inForce = c.rind.inForce := rfl

/-! ### The latch of a function (R532 to R534, R538) -/

/-- A guard's start-up test, passed by an open guard. -/
def startupTested (f : Nat) (c : Chip) : Chip := if fnType c f = 2 && allOpen c f then c.raise (F.SIN_F_STAT_STUP f) else c

/-- Whether a fault of function f is latched. -/
def fnFault (c : Chip) (f : Nat) : Bool := c.is (F.SIN_F_STAT_DISCF f) || c.is (F.SIN_F_STAT_TPF f)

/-- A latched fault that may be cleared, once the function has been open. -/
def faultOpened (f : Nat) (c : Chip) : Chip :=
  if fnFault c f && allOpen c f && !c.is (F.SIN_F_STAT_FCLR f) then
    modFn f (fun q => { q with ch := q.ch.map (fun k => { k with followed := 0 }) }) (c.raise (F.SIN_F_STAT_FCLR f))
  else c

/-- Whether the faults of function f may be cleared at this evaluation. -/
def faultsMayClear (f type : Nat) (c : Chip) : Bool :=
  c.is (F.SIN_F_STAT_FCLR f) && (type == 3 || ((sinFn c f).resetDue && c.is (F.SIN_F_STAT_EFFP f)))

/-- Whether every channel from a test-pulse output has followed two pulses. -/
def pulsesFollowed (f type : Nat) (c : Chip) : Bool :=
  (List.range (fnChannels type)).all (fun x => fnSource c f x < 4 || 2 ≤ ((sinFn c f).ch.getD x {}).followed)

/-- Faults cleared: the discrepancy, and the test-pulse fault. -/
def faultsCleared (f : Nat) (disc pulse : Bool) (c : Chip) : Chip :=
  let d := if disc then c.setb (F.SIN_F_STAT_DISCF f) false else c
  if pulse then d.setb (F.SIN_F_STAT_TPF f) false else d

/-- The faults of function f judged. -/
def faultsJudged (f type : Nat) (c : Chip) : Chip := faultsCleared f (faultsMayClear f type c) (faultsMayClear f type c && pulsesFollowed f type c) c

/-- Without a fault nothing says that one may be cleared. -/
def clearShown (f : Nat) (c : Chip) : Chip := if fnFault c f then c else c.setb (F.SIN_F_STAT_FCLR f) false

/-- The latch of a function other than a two-hand control. -/
def latchJudged (f : Nat) (effp fault reset : Bool) (c : Chip) : Chip :=
  if !effp || fault then
    if c.is (F.SIN_F_STAT_LATCH f) then c else (c.raise (F.SIN_F_STAT_LATCH f)).evSafeDemand
  else if reset || c.pb (F.SIN_F_CFG_AUTOR f) then c.setb (F.SIN_F_STAT_LATCH f) false
  else c

/-- The latch of function f judged on what its faults left. -/
def latchFormed (f type : Nat) (c : Chip) : Chip :=
  let e := faultsJudged f type c
  if type = 3 then clearShown f e else latchJudged f (c.is (F.SIN_F_STAT_EFFP f)) (fnFault e f) (sinFn c f).resetDue (clearShown f e)

theorem formLatch_eq (f : Nat) (c : Chip) : formLatch f c = modFn f (fun q => { q with resetDue := false })
    (if fnType c f = 0 ∨ fnType c f = 5 then c else latchFormed f (fnType c f) (faultOpened f (startupTested f c))) := by
  by_cases h : fnType c f = 0 ∨ fnType c f = 5
  · rw [if_pos h]
    exact if_pos h
  · rw [if_neg h]
    exact if_neg h

/-- A flag of function f below its latch: its permits. -/
def permitFld (f : Nat) (g : Fld) : Prop := g.addr = F.SIN_F_STAT f ∧ g.lo + g.width ≤ 4

section
variable {f : Nat} {g : Fld} (c : Chip) (hg : permitFld f g)
include hg

theorem permit_setb {k : Fld} (b : Bool) (hk : 4 ≤ k.lo) : (c.setb k b).is g = c.is g := by
  rw [Chip.is, Chip.get_setb_ne _ _ _ _ (.inr (.inr (hg.2.trans hk))), Chip.is]

theorem permit_evSafeDemand : c.evSafeDemand.is g = c.is g := by
  rw [Chip.is, Chip.evSafeDemand, Chip.get_evt_ne _ _ _ _ (by rw [hg.1]; simp only [F.SIN_F_STAT]; omega), Chip.is]

theorem permit_startupTested : (startupTested f c).is g = c.is g := by
  unfold startupTested
  split
  · exact permit_setb c hg true (by simp only [F.SIN_F_STAT_STUP]; omega)
  · rfl

theorem permit_faultOpened : (faultOpened f c).is g = c.is g := by
  unfold faultOpened
  split
  · exact permit_setb c hg true (by simp only [F.SIN_F_STAT_FCLR]; omega)
  · rfl

theorem permit_faultsCleared (x y : Bool) : (faultsCleared f x y c).is g = c.is g := by
  have hdisc (d : Chip) : (d.setb (F.SIN_F_STAT_DISCF f) false).is g = d.is g := permit_setb d hg false (by simp only [F.SIN_F_STAT_DISCF]; omega)
  have htpf (d : Chip) : (d.setb (F.SIN_F_STAT_TPF f) false).is g = d.is g := permit_setb d hg false (by simp only [F.SIN_F_STAT_TPF]; omega)
  unfold faultsCleared
  cases x <;> cases y <;> simp only [hdisc, htpf, if_true, if_false, Bool.false_eq_true]

theorem permit_clearShown : (clearShown f c).is g = c.is g := by
  unfold clearShown
  split
  · rfl
  · exact permit_setb c hg false (by simp only [F.SIN_F_STAT_FCLR]; omega)

theorem permit_latchJudged (effp fault reset : Bool) : (latchJudged f effp fault reset c).is g = c.is g := by
  have hlatch (b : Bool) : (c.setb (F.SIN_F_STAT_LATCH f) b).is g = c.is g := permit_setb c hg b (by simp only [F.SIN_F_STAT_LATCH]; omega)
  unfold latchJudged
  split_ifs
  · rfl
  · rw [permit_evSafeDemand _ hg]
    exact hlatch true
  · exact hlatch false
  · rfl

/-- The judgement of a latch leaves the permits. -/
theorem permit_formLatch : (formLatch f c).is g = c.is g := by
  rw [formLatch_eq, modFn_is]
  split
  · rfl
  · simp only [latchFormed]
    split
    · rw [permit_clearShown _ hg, faultsJudged, permit_faultsCleared _ hg, permit_faultOpened _ hg, permit_startupTested _ hg]
    · rw [permit_latchJudged _ hg, permit_clearShown _ hg, faultsJudged, permit_faultsCleared _ hg, permit_faultOpened _ hg, permit_startupTested _ hg]

end

theorem permitFld_permit (f : Nat) : permitFld f (F.SIN_F_STAT_PERMIT f) := ⟨rfl, by simp only [F.SIN_F_STAT_PERMIT]; omega⟩
theorem permitFld_effp (f : Nat) : permitFld f (F.SIN_F_STAT_EFFP f) := ⟨rfl, by simp only [F.SIN_F_STAT_EFFP]; omega⟩

/-- A function without an effective permit is latched (R531). -/
theorem latchJudged_latches {f : Nat} (fault reset : Bool) (c : Chip) : (latchJudged f false fault reset c).is (F.SIN_F_STAT_LATCH f) = true := by
  simp only [latchJudged, Bool.not_false, Bool.true_or, if_true]
  split
  · assumption
  · rw [Chip.is, Chip.evSafeDemand, Chip.get_evt_ne _ _ _ _ (by simp only [F.SIN_F_STAT_LATCH]; omega)]
    exact Chip.is_raise_same _ _ rfl (by simp only [F.SIN_F_STAT_LATCH]; omega)

theorem formLatch_latches {f : Nat} {c : Chip} (ht : fnType c f = 1 ∨ fnType c f = 2 ∨ fnType c f = 4)
    (h : (formLatch f c).is (F.SIN_F_STAT_EFFP f) = false) : (formLatch f c).is (F.SIN_F_STAT_LATCH f) = true := by
  have heffp : (faultOpened f (startupTested f c)).is (F.SIN_F_STAT_EFFP f) = false := by
    rw [permit_faultOpened _ (permitFld_effp f), permit_startupTested _ (permitFld_effp f), ← permit_formLatch c (permitFld_effp f), h]
  rw [formLatch_eq, modFn_is, if_neg (by omega), latchFormed, if_neg (by omega), heffp]
  exact latchJudged_latches _ _ _

theorem formLatch_inForce (f : Nat) (c : Chip) : (formLatch f c).rind.inForce = c.rind.inForce := by
  have hstart : (startupTested f c).rind.inForce = c.rind.inForce := by unfold startupTested; split <;> rfl
  have hopen (d : Chip) : (faultOpened f d).rind.inForce = d.rind.inForce := by unfold faultOpened; split <;> rfl
  have hclear (x y : Bool) (d : Chip) : (faultsCleared f x y d).rind.inForce = d.rind.inForce := by cases x <;> cases y <;> rfl
  have hshow (d : Chip) : (clearShown f d).rind.inForce = d.rind.inForce := by unfold clearShown; split <;> rfl
  have hlatch (x y z : Bool) (d : Chip) : (latchJudged f x y z d).rind.inForce = d.rind.inForce := by unfold latchJudged; split_ifs <;> rfl
  rw [formLatch_eq, modFn_inForce]
  split
  · rfl
  · simp only [latchFormed]
    split
    · rw [hshow, faultsJudged, hclear, hopen, hstart]
    · rw [hlatch, hshow, faultsJudged, hclear, hopen, hstart]

/-- The judgement of a latch leaves the words of the other functions. -/
theorem formLatch_rd {f b : Nat} (c : Chip) (h : b ≠ F.SIN_F_STAT f ∧ 0x14 ≤ b) : (formLatch f c).rd b = c.rd b := by
  have hset {k : Fld} (v : Bool) (d : Chip) (hk : k.addr = F.SIN_F_STAT f) : (d.setb k v).rd b = d.rd b := Chip.rd_setb_ne _ _ _ (by rw [hk]; exact h.1)
  have hstart : (startupTested f c).rd b = c.rd b := by
    unfold startupTested
    split
    · exact hset true c rfl
    · rfl
  have hopen (d : Chip) : (faultOpened f d).rd b = d.rd b := by
    unfold faultOpened
    split
    · exact hset true d rfl
    · rfl
  have hclear (x y : Bool) (d : Chip) : (faultsCleared f x y d).rd b = d.rd b := by
    have hdisc (e : Chip) : (e.setb (F.SIN_F_STAT_DISCF f) false).rd b = e.rd b := hset false e rfl
    have htpf (e : Chip) : (e.setb (F.SIN_F_STAT_TPF f) false).rd b = e.rd b := hset false e rfl
    unfold faultsCleared
    cases x <;> cases y <;> simp only [hdisc, htpf, if_true, if_false, Bool.false_eq_true]
  have hshow (d : Chip) : (clearShown f d).rd b = d.rd b := by
    unfold clearShown
    split
    · rfl
    · exact hset false d rfl
  have hlatch (x y z : Bool) (d : Chip) : (latchJudged f x y z d).rd b = d.rd b := by
    unfold latchJudged
    split_ifs
    · rfl
    · rw [Chip.evSafeDemand, Chip.rd_evt_ne _ _ _ (by omega)]
      exact hset true d rfl
    · exact hset false d rfl
    · rfl
  rw [formLatch_eq, modFn_rd]
  split
  · rfl
  · simp only [latchFormed]
    split
    · rw [hshow, faultsJudged, hclear, hopen, hstart]
    · rw [hlatch, hshow, faultsJudged, hclear, hopen, hstart]

/-! ### The evaluation's end: what is shown and demanded (R532, R556) -/

/-- SIN.SSTAT shows function f. -/
def fnShown (f : Nat) (c : Chip) : Chip :=
  ((c.setBit F.SIN_SSTAT_PERMIT f (c.is (F.SIN_F_STAT_PERMIT f))).setBit F.SIN_SSTAT_LATCH f (c.is (F.SIN_F_STAT_LATCH f))).setBit
    F.SIN_SSTAT_STUPOK f (fnType c f != 2 || c.is (F.SIN_F_STAT_STUP f))

theorem showFns_eq (c : Chip) : showFns c = c.forN 8 fnShown := rfl

theorem fnShown_rd {f b : Nat} (c : Chip) (h : b ≠ F.SIN_SSTAT) : (fnShown f c).rd b = c.rd b := by
  rw [fnShown, Chip.rd_setBit_ne _ _ _ _ h, Chip.rd_setBit_ne _ _ _ _ h, Chip.rd_setBit_ne _ _ _ _ h]

theorem showFns_rd {b : Nat} (c : Chip) (h : b ≠ F.SIN_SSTAT) : (showFns c).rd b = c.rd b :=
  Chip.forN_keeps (fun d => d.rd b) (fun _ d => fnShown_rd d h) _ _

theorem Chip.getBit_setBit_ne (c : Chip) {f g : Fld} {k j : Nat} (b : Bool) (h : f.lo + k ≠ g.lo + j) : (c.setBit f k b).getBit g j = c.getBit g j := by
  rw [Chip.setBit_eq, Chip.getBit_eq, Chip.is, Chip.get_set_ne _ _ _ _ (.inr (by simp only [bitOf]; omega)), Chip.getBit_eq, Chip.is]

/-- The bits of SIN.SSTAT that show function f. -/
def shownBits (f : Nat) (c : Chip) : Bool × Bool := (c.getBit F.SIN_SSTAT_PERMIT f, c.getBit F.SIN_SSTAT_LATCH f)

theorem shownBits_fnShown {f j : Nat} (c : Chip) (hf : f < 8) (hj : j < 8) :
    shownBits f (fnShown j c) = if j = f then (c.is (F.SIN_F_STAT_PERMIT f), c.is (F.SIN_F_STAT_LATCH f)) else shownBits f c := by
  have hstup (b : Bool) (d : Chip) : shownBits f (d.setBit F.SIN_SSTAT_STUPOK j b) = shownBits f d := by
    rw [shownBits, Chip.getBit_setBit_ne _ _ (by simp only [F.SIN_SSTAT_STUPOK, F.SIN_SSTAT_PERMIT]; omega),
      Chip.getBit_setBit_ne _ _ (by simp only [F.SIN_SSTAT_STUPOK, F.SIN_SSTAT_LATCH]; omega), shownBits]
  rw [fnShown, hstup, shownBits, Chip.getBit_setBit_ne _ _ (by simp only [F.SIN_SSTAT_LATCH, F.SIN_SSTAT_PERMIT]; omega)]
  by_cases h : j = f
  · subst h
    rw [if_pos rfl, Chip.getBit_setBit_same _ _ _ (by simp only [F.SIN_SSTAT_PERMIT]; omega),
      Chip.getBit_setBit_same _ _ _ (by simp only [F.SIN_SSTAT_LATCH]; omega)]
  · rw [if_neg h, Chip.getBit_setBit_ne _ _ (by simp only [F.SIN_SSTAT_PERMIT]; omega), Chip.getBit_setBit_ne _ _ (by simp only [F.SIN_SSTAT_LATCH]; omega),
      Chip.getBit_setBit_ne _ _ (by simp only [F.SIN_SSTAT_PERMIT, F.SIN_SSTAT_LATCH]; omega), shownBits]

/-- SIN.SSTAT tells what function f shows. -/
def fnTold (f : Nat) (c : Chip) : Prop := shownBits f c = (c.is (F.SIN_F_STAT_PERMIT f), c.is (F.SIN_F_STAT_LATCH f))

theorem fnShown_flag {f j : Nat} (c : Chip) {g : Fld} (hg : g.addr = F.SIN_F_STAT f) : (fnShown j c).is g = c.is g := by
  simp only [Chip.is, Chip.get]
  rw [fnShown_rd c (by rw [hg]; simp only [F.SIN_F_STAT, F.SIN_SSTAT]; omega)]

theorem showFns_tells {f : Nat} (c : Chip) (hf : f < 8) : fnTold f (showFns c) := by
  rw [showFns_eq]
  refine Chip.forN_establishes (P := fnTold f) (Q := fun _ => True) (f := fnShown) hf (fun _ _ _ _ _ => trivial) (fun d _ => ?_) (fun j hj hne d hd => ?_) c trivial
  · rw [fnTold, shownBits_fnShown d hf hf, if_pos rfl, fnShown_flag d rfl, fnShown_flag d rfl]
  · rw [fnTold, shownBits_fnShown d hf hj, if_neg hne, fnShown_flag d rfl, fnShown_flag d rfl]
    exact hd

/-- The demand bit of the safety inputs, as the latches stand. -/
def sinShown (c : Chip) : Chip := c.wr 0xC0001 ((c.rd 0xC0001).setField 12 1 (bit ((List.range 8).any (fun f => c.is (F.SIN_F_STAT_LATCH f)))))

/-- A new demand is told beside the words. -/
theorem sinDemand_rd_shown (was : Nat) (c : Chip) (b : Nat) : (sinDemand was c).rd b = (sinShown c).rd b := by
  have htold (p : Prop) [Decidable p] (x : Notice) : (if p then (sinShown c).notice x else sinShown c).rd b = (sinShown c).rd b := by
    split <;> rfl
  exact htold _ _

theorem sinDemand_rd {b : Nat} (was : Nat) (c : Chip) (h : b ≠ 0xC0001) : (sinDemand was c).rd b = c.rd b := by
  rw [sinDemand_rd_shown, sinShown, Chip.rd_wr_ne _ _ h]

theorem field_setField_bit (w : Word) {k : Nat} (b : Bool) (h : k < 48) : (w.setField k 1 (bit b)).field k 1 = bit b := by
  rw [Word.field_setField_same _ _ _ _ (by omega)]
  cases b <;> rfl

theorem sinDemand_bit (was : Nat) (c : Chip) :
    ((sinDemand was c).rd 0xC0001).field 12 1 = bit ((List.range 8).any (fun f => c.is (F.SIN_F_STAT_LATCH f))) := by
  rw [sinDemand_rd_shown, sinShown, Chip.rd_wr_same, field_setField_bit _ _ (by decide)]

theorem sinDemand_flag {f : Nat} (was : Nat) (c : Chip) {g : Fld} (hg : g.addr = F.SIN_F_STAT f) : (sinDemand was c).is g = c.is g := by
  simp only [Chip.is, Chip.get]
  rw [sinDemand_rd was c (by rw [hg]; simp only [F.SIN_F_STAT]; omega)]

theorem sinDemand_told {f : Nat} (was : Nat) {c : Chip} (h : fnTold f c) : fnTold f (sinDemand was c) := by
  have hbits : shownBits f (sinDemand was c) = shownBits f c := by
    simp only [shownBits, Chip.getBit]
    rw [sinDemand_rd was c (by decide), sinDemand_rd was c (by decide)]
  rw [fnTold, hbits, sinDemand_flag was c rfl, sinDemand_flag was c rfl]
  exact h

/-! ### The evaluation as a whole (R531) -/

/-- The permits of all functions, formed on discrepancies judged before. -/
def permitsFormed (c : Chip) : Chip := (c.forN 8 checkDisc).forN 8 formPermit

/-- Effective permits, and then the latches, of all functions. -/
def latchesFormed (c : Chip) : Chip := ((permitsFormed c).forN 8 formEffp).forN 8 formLatch

theorem safetyEvaluation_of_tested {c : Chip} (hs : c.is F.SAF_STAT_SELFOK = true) (hr : c.clk.rindReset = false) :
    ∃ was : Nat, safetyEvaluation c = sinDemand was (showFns (latchesFormed c)) := by
  simp only [safetyEvaluation, hs, hr, Bool.not_true, Bool.or_self, Bool.false_eq_true, if_false]
  exact ⟨_, rfl⟩

theorem safetyEvaluation_of_untested {c : Chip} (hs : c.is F.SAF_STAT_SELFOK = false) : safetyEvaluation c = c := by
  simp [safetyEvaluation, hs]

theorem levelsView_permitsFormed (c : Chip) : levelsView (permitsFormed c) = levelsView c :=
  (Chip.forN_keeps levelsView levelsView_formPermit 8 _).trans (Chip.forN_keeps levelsView levelsView_checkDisc 8 c)

/-- The permit of function f and what it is formed of. -/
def permitView (f : Nat) (c : Chip) : Bool × List (Nat × Word) × (Nat → Nat → Option Bool) := (c.is (F.SIN_F_STAT_PERMIT f), levelsView c)

theorem flag_of_rd {c d : Chip} {f : Nat} {g : Fld} (hg : g.addr = F.SIN_F_STAT f) (h : d.rd (F.SIN_F_STAT f) = c.rd (F.SIN_F_STAT f)) :
    d.is g = c.is g := by
  simp only [Chip.is, Chip.get, hg, h]

theorem permitsFormed_permit {f : Nat} (c : Chip) (hf : f < 8) (ht : fnType c f = 1 ∨ fnType c f = 2 ∨ fnType c f = 4) :
    (permitsFormed c).is (F.SIN_F_STAT_PERMIT f) = (allKnown c f && (contactClosed c f 0 && contactClosed c f 1)) := by
  have hdisc : levelsView (c.forN 8 checkDisc) = levelsView c := Chip.forN_keeps levelsView levelsView_checkDisc 8 c
  obtain ⟨d, hd, hloop⟩ := Chip.forN_one_pass (permitView f) (f := formPermit) hf
    (fun j d hj => Prod.ext (flag_of_rd rfl (formPermit_rd d (by simp only [F.SIN_F_STAT]; omega))) (levelsView_formPermit j d)) (c.forN 8 checkDisc)
  have hview : levelsView d = levelsView c := (congrArg Prod.snd hd).trans hdisc
  refine (congrArg Prod.fst hloop).trans ((formPermit_of_contacts d ?_).trans ?_)
  · rwa [fnType_of_levelsView hview]
  · rw [allKnown_of_levelsView hview, contactClosed_of_levelsView hview, contactClosed_of_levelsView hview]

theorem latchesFormed_permit (c : Chip) (f : Nat) : (latchesFormed c).is (F.SIN_F_STAT_PERMIT f) = (permitsFormed c).is (F.SIN_F_STAT_PERMIT f) := by
  have hword (j : Nat) (d : Chip) : (formLatch j d).is (F.SIN_F_STAT_PERMIT f) = d.is (F.SIN_F_STAT_PERMIT f) := by
    by_cases h : j = f
    · subst h
      exact permit_formLatch d (permitFld_permit j)
    · exact flag_of_rd rfl (formLatch_rd d (by simp only [F.SIN_F_STAT]; omega))
  have heffp (j : Nat) (d : Chip) : (formEffp j d).is (F.SIN_F_STAT_PERMIT f) = d.is (F.SIN_F_STAT_PERMIT f) := by
    by_cases h : j = f
    · subst h
      exact formEffp_permit j d
    · exact flag_of_rd rfl (formEffp_rd d (by simp only [F.SIN_F_STAT]; omega))
  exact (Chip.forN_keeps (fun d => d.is (F.SIN_F_STAT_PERMIT f)) hword 8 _).trans (Chip.forN_keeps (fun d => d.is (F.SIN_F_STAT_PERMIT f)) heffp 8 _)

/-- A function without an effective permit is latched. -/
def latchedUnlessPermitted (f : Nat) (c : Chip) : Prop := c.is (F.SIN_F_STAT_EFFP f) = false → c.is (F.SIN_F_STAT_LATCH f) = true

theorem latchesFormed_latches {f : Nat} (c : Chip) (hf : f < 8) (ht : fnType c f = 1 ∨ fnType c f = 2 ∨ fnType c f = 4) :
    latchedUnlessPermitted f (latchesFormed c) := by
  have hforce : ((permitsFormed c).forN 8 formEffp).rind.inForce = c.rind.inForce :=
    (Chip.forN_keeps (fun d => d.rind.inForce) formEffp_inForce 8 _).trans (inForce_of_levelsView (levelsView_permitsFormed c))
  refine Chip.forN_establishes (P := latchedUnlessPermitted f) (Q := fun d => d.rind.inForce = c.rind.inForce) hf
    (fun j _ _ d hd => (formLatch_inForce j d).trans hd) (fun d hd => ?_) (fun j _ hj d hd => ?_) _ hforce
  · exact formLatch_latches (by rwa [fnType_of_inForce hd])
  · have hword : (formLatch j d).rd (F.SIN_F_STAT f) = d.rd (F.SIN_F_STAT f) := formLatch_rd d (by simp only [F.SIN_F_STAT]; omega)
    rw [latchedUnlessPermitted, flag_of_rd rfl hword, flag_of_rd rfl hword]
    exact hd

theorem safetyEvaluation_shows {c : Chip} (hs : c.is F.SAF_STAT_SELFOK = true) (hr : c.clk.rindReset = false) :
    ((safetyEvaluation c).rd 0xC0001).field 12 1 = bit ((List.range 8).any (fun f => (safetyEvaluation c).is (F.SIN_F_STAT_LATCH f))) ∧
      (∀ f : Nat, f < 8 → (safetyEvaluation c).getBit F.SIN_SSTAT_PERMIT f = (safetyEvaluation c).is (F.SIN_F_STAT_PERMIT f) ∧
        (safetyEvaluation c).getBit F.SIN_SSTAT_LATCH f = (safetyEvaluation c).is (F.SIN_F_STAT_LATCH f)) ∧
      (∀ f : Nat, f < 8 → (fnType c f = 1 ∨ fnType c f = 2 ∨ fnType c f = 4) →
        (safetyEvaluation c).is (F.SIN_F_STAT_PERMIT f) = (allKnown c f && (contactClosed c f 0 && contactClosed c f 1)) ∧
          ((safetyEvaluation c).is (F.SIN_F_STAT_EFFP f) = false → (safetyEvaluation c).is (F.SIN_F_STAT_LATCH f) = true)) := by
  obtain ⟨was, heq⟩ := safetyEvaluation_of_tested hs hr
  have hflag {f : Nat} {g : Fld} (hg : g.addr = F.SIN_F_STAT f) : (safetyEvaluation c).is g = (latchesFormed c).is g := by
    rw [heq, sinDemand_flag was _ hg]
    exact flag_of_rd hg (showFns_rd _ (by simp only [F.SIN_F_STAT, F.SIN_SSTAT]; omega))
  refine ⟨?_, fun f hf => ?_, fun f hf ht => ⟨?_, ?_⟩⟩
  · rw [heq, sinDemand_bit]
    simp only [sinDemand_flag was _ (g := F.SIN_F_STAT_LATCH _) rfl]
  · have htold : fnTold f (safetyEvaluation c) := heq ▸ sinDemand_told was (showFns_tells _ hf)
    exact ⟨congrArg Prod.fst htold, congrArg Prod.snd htold⟩
  · rw [hflag rfl, latchesFormed_permit, permitsFormed_permit c hf ht]
  · rw [hflag rfl, hflag rfl]
    exact latchesFormed_latches c hf ht

/-- Settles O56: each event of a channel by the flag it leaves; the evaluation as four passes over the functions, of which each leaves what the
passes after it read. -/
theorem safetyFunctionsPulsesLevelsAndEvaluation : Obligations.SafetyFunctionsPulsesLevelsAndEvaluation := by
  unfold Obligations.SafetyFunctionsPulsesLevelsAndEvaluation
  refine ⟨fun s n low seen hr hl => ⟨_, island_of_runs hr (testPulse n low seen), testPulse_level seen n.isLt hl, fun he hlow f x hf hx htp hs hn => ?_⟩,
    fun s n hr => ⟨_, island_of_runs hr (tpReadback n), fun f hf => tpReadback_shows s.chip hf⟩,
    fun s f x l k h => island_of_same (levelHeld_of_not_taken h),
    fun s f x l k hr hx hw hk hl => ⟨_, island_of_runs hr (levelHeld f x l k), levelHeld_shows hx hw hk hl⟩,
    fun s f hr ht hl => (island_of_runs hr (rstStuck f)).trans (by rw [rstStuck_of_high ht hl]),
    fun s hs => island_of_same (safetyEvaluation_of_untested hs),
    fun s hr hs => ⟨_, island_of_runs hr safetyEvaluation, safetyEvaluation_shows hs ?_⟩⟩
  · subst hlow
    exact testPulse_fault he (hl he) hf hx htp hs hn
  · simp only [rindRuns, Bool.and_eq_true, Bool.not_eq_true'] at hr
    exact hr.1

end Sys2Proof.Machine
end

section
/-! SUPPORT. The proofs of host writes to the safety acknowledgements, the selectors, the counter controls and the transmission aborts (R511, R533,
R550, R553, R637, R657, R676, R687, R596). -/

namespace Sys2Proof.Machine

/-! ### Selector words (R553, R637, R657, R676) -/

/-- A word of one RW field holds, after an accepted write, what was written. -/
theorem wrote_field_of_one_rw {a n r : Nat} {name : String} {base : Nat} {dims : List (Nat × Nat)} (c : Chip) (v : Word)
    (hd : wordAt a = some ⟨name, base, dims, [fd 0 n .rw r]⟩) (ha : a < 0x78000 ∨ 0x90000 ≤ a) (hk : keptW1c a = 0) (hn : n ≤ 48) :
    ((wrote c a v).rd a).field 0 n = v.field 0 n := by
  have hone : writtenWord c ⟨name, base, dims, [fd 0 n .rw r]⟩ a (BitVec.allOnes 48) v = writeField v (BitVec.allOnes 48) (c.rd a) (fd 0 n .rw r) := rfl
  have hall : (c.rd a &&& ~~~(BitVec.allOnes 48)) ||| (v &&& BitVec.allOnes 48) = v := by
    rw [BitVec.not_allOnes, BitVec.and_zero, BitVec.zero_or, BitVec.and_allOnes]
  rw [wrote, storeWord_of_wordAt _ v c hd ha, Chip.rd_wr_same, hk, merge_none_kept, hone, rw_field_takes_masked_bits _ _ _ _ _ _ _ (by omega), hall]

/-- The write of a selector: it holds what was written, and no other word changes. -/
theorem exec_selector_of_accepts {s : State} {a n r : Nat} {name : String} {base : Nat} {dims : List (Nat × Nat)} {v : Word}
    (hd : wordAt a = some ⟨name, base, dims, [fd 0 n .rw r]⟩) (ha : a < 0x78000 ∨ 0x90000 ≤ a) (hk : keptW1c a = 0) (hn : n ≤ 48)
    (htaken : ∀ (old wr : Word) (c : Chip), wordTaken a old wr c = c) (h : acceptsWord s.chip a v = true) :
    ∃ d : Chip, act s (hostWriteWord a v) = .next (s.acted d) ∧ d.get ⟨a, 0, n⟩ = v.field 0 n ∧ sameBut [a] s.chip d :=
  ⟨wrote s.chip a v, (act_hostWriteWord_of_accepts h).trans (by rw [htaken]), wrote_field_of_one_rw s.chip v hd ha hk hn,
    sameBut_wrote s.chip v List.mem_cons_self ha⟩

/-! ### Resets and acknowledgements (R511, R533) -/

theorem wordTaken_rack {wr : Word} (old : Word) (c : Chip) (h : wr.getLsbD 0 = true) : wordTaken 0xD0140 old wr c = rackWrite c := if_pos h

theorem wordTaken_pwctl {wr : Word} (old : Word) (c : Chip) (h : wr.getLsbD 8 = true) : wordTaken 0xD0006 old wr c = stagePassword (wr.field 0 8) c :=
  if_pos h

/-- RACK clears a demand whose condition has been absent for 100 ms. -/
def rackPass (k : Nat) (c : Chip) : Chip :=
  if !c.rind.cond.getLsbD k && decide (cyclesMs 100 ≤ c.up - c.rind.absentAt.getD k 0) then c.wr 0xC0001 ((c.rd 0xC0001).setField k 1 0) else c

theorem rackWrite_eq (c : Chip) : rackWrite c = ((c.forN 12 rackPass).setb F.SAF_DIAG_MISMATCH false).countMod F.SAF_STAT_ACKCNT 1 := rfl

theorem rackPass_rd {b : Nat} (k : Nat) (c : Chip) (h : b ≠ 0xC0001) : (rackPass k c).rd b = c.rd b := by
  unfold rackPass
  split
  · exact Chip.rd_wr_ne _ _ h
  · rfl

theorem rackWrite_mismatch (c : Chip) : (rackWrite c).is F.SAF_DIAG_MISMATCH = false := by
  rw [rackWrite_eq, Chip.is, Chip.get_countMod_ne _ _ _ _ (by decide)]
  exact Chip.is_setb_same _ _ _ rfl (by decide)

theorem rackWrite_ackcnt (c : Chip) : (rackWrite c).get F.SAF_STAT_ACKCNT = (c.get F.SAF_STAT_ACKCNT + 1) % 2 ^ F.SAF_STAT_ACKCNT.width := by
  have hloop : (c.forN 12 rackPass).get F.SAF_STAT_ACKCNT = c.get F.SAF_STAT_ACKCNT :=
    Chip.forN_keeps (fun d => d.get F.SAF_STAT_ACKCNT) (fun k d => congrArg (fun w : Word => w.field _ _) (rackPass_rd k d (by decide))) 12 c
  rw [rackWrite_eq, Chip.get_countMod_same _ _ _ (by decide), Chip.get_setb_ne _ _ _ _ (by decide), hloop]

/-- A demand bit, and what its acknowledgement is judged by. -/
def demandView (k : Nat) (c : Chip) : Bool × Rind × Nat := ((c.rd 0xC0001).getLsbD k, c.rind, c.up)

theorem demandView_rackPass_other {j k : Nat} (c : Chip) (h : j ≠ k) : demandView k (rackPass j c) = demandView k c := by
  unfold rackPass
  split
  · refine Prod.ext ?_ rfl
    simp only [demandView, Chip.rd_wr_same, Word.getLsbD_setField]
    rw [if_neg (by omega)]
  · rfl

theorem rackPass_bit {k : Nat} (c : Chip) : ((rackPass k c).rd 0xC0001).getLsbD k = ((c.rd 0xC0001).getLsbD k &&
    (c.rind.cond.getLsbD k || decide (c.up - c.rind.absentAt.getD k 0 < cyclesMs 100))) := by
  unfold rackPass
  split
  · next h =>
    obtain ⟨hcond, habsent⟩ := (Bool.and_eq_true _ _).mp h
    have hold : (c.rind.cond.getLsbD k || decide (c.up - c.rind.absentAt.getD k 0 < cyclesMs 100)) = false :=
      Bool.or_eq_false_iff.mpr ⟨by simpa using hcond, decide_eq_false (Nat.not_lt.mpr (of_decide_eq_true habsent))⟩
    rw [hold, Bool.and_false, Chip.rd_wr_same, Word.getLsbD_setField, if_pos (by omega), Nat.zero_testBit, Bool.and_false]
  · next h =>
    have hheld : (c.rind.cond.getLsbD k || decide (c.up - c.rind.absentAt.getD k 0 < cyclesMs 100)) = true := by
      by_contra hno
      obtain ⟨hcond, habsent⟩ := Bool.or_eq_false_iff.mp (Bool.eq_false_iff.mpr hno)
      exact h ((Bool.and_eq_true _ _).mpr ⟨by rw [hcond]; rfl, decide_eq_true (Nat.not_lt.mp (of_decide_eq_false habsent))⟩)
    rw [hheld, Bool.and_true]

theorem rackWrite_bit {k : Nat} (c : Chip) (hk : k < 12) : ((rackWrite c).rd 0xC0001).getLsbD k = ((c.rd 0xC0001).getLsbD k &&
    (c.rind.cond.getLsbD k || decide (c.up - c.rind.absentAt.getD k 0 < cyclesMs 100))) := by
  obtain ⟨d, hd, hloop⟩ := Chip.forN_one_pass (demandView k) hk (fun j d hj => demandView_rackPass_other d hj) c
  simp only [demandView, Prod.mk.injEq] at hd
  obtain ⟨hbit, hrind, hup⟩ := hd
  rw [rackWrite_eq, Chip.rd_countMod_ne _ _ _ (by decide), Chip.rd_setb_ne _ _ _ (by decide)]
  refine (congrArg Prod.fst hloop).trans ?_
  rw [demandView, rackPass_bit, hbit, hrind, hup]

/-- A reset of the functions of a mask. -/
def srstPass (mask f : Nat) (c : Chip) : Chip := if Nat.bitAt mask f then resetEvent f c else c

theorem srstPass_other {mask f j : Nat} (c : Chip) (h : j ≠ f) :
    (sinFn (srstPass mask j c) f, (srstPass mask j c).rind.fns.length) = (sinFn c f, c.rind.fns.length) := by
  unfold srstPass
  split
  · exact Prod.ext (sinFn_modFn_other _ c h.symm) (List.length_modify _ _ _)
  · rfl

theorem srstWrite_due {mask f : Nat} (c : Chip) (hf : f < 8) (hl : f < c.rind.fns.length) :
    (sinFn (srstWrite mask c) f).resetDue = (Nat.bitAt mask f || (sinFn c f).resetDue) := by
  obtain ⟨d, hd, hloop⟩ := Chip.forN_one_pass (fun d => (sinFn d f, d.rind.fns.length)) hf (fun j d hj => srstPass_other (mask := mask) d hj) c
  obtain ⟨hfn, hlen⟩ := Prod.mk.inj hd
  have hlast : sinFn (srstWrite mask c) f = sinFn (srstPass mask f d) f := congrArg Prod.fst hloop
  rw [hlast, srstPass]
  split
  · next hb => rw [resetEvent, sinFn_modFn_same _ (hlen ▸ hl), hb, Bool.true_or]
  · next hb => rw [hfn, Bool.eq_false_iff.mpr hb, Bool.false_or]

/-! ### Counter controls (R687, R689) -/

theorem wordTaken_cctl (old wr : Word) (c : Chip) : wordTaken 0x130002 old wr c = counterControl wr c := rfl

theorem wordTaken_csel (hi : Bool) (old wr : Word) (c : Chip) : wordTaken (0x130140 + bit hi) old wr c = counterSelect (bit hi) wr c := by
  cases hi <;> rfl

theorem wrote_obs {a : Nat} (c : Chip) (v : Word) (ha : a < 0x78000 ∨ 0x90000 ≤ a) : (wrote c a v).obs = c.obs := by
  cases hd : wordAt a with
  | some d => rw [wrote, storeWord_of_wordAt _ v c hd ha, Chip.wr_obs]
  | none => rw [wrote, storeWord_of_unlisted _ v c hd ha]

theorem counterControl_snap {wr : Word} (c : Chip) (h : wr.getLsbD 32 = true) : (counterControl wr c).obs.snp = c.obs.cnt := by
  simp only [counterControl, h, if_true]

theorem getD_map_range {α : Type} {n k : Nat} (f : Nat → α) (d : α) (h : k < n) : ((List.range n).map f).getD k d = f k := by
  simp [List.getD_eq_getElem?_getD, h]

theorem counterControl_counter (wr : Word) (c : Chip) {k : Nat} (h : k < 64) :
    (counterControl wr c).obs.cnt.getD k 0 = if k < 32 ∧ wr.getLsbD k = true then 0 else c.obs.cnt.getD k 0 := by
  have hsnap : (if wr.getLsbD 32 then { c.obs with snp := c.obs.cnt } else c.obs).cnt = c.obs.cnt := by split <;> rfl
  simp only [counterControl, hsnap]
  rw [getD_map_range _ _ h]
  simp only [Bool.and_eq_true, decide_eq_true_eq]

theorem counterSelect_counter (hi : Bool) (wr : Word) (c : Chip) {k : Nat} (h : k < 64) :
    (counterSelect (bit hi) wr c).obs.cnt.getD k 0 =
      if 32 + 16 * bit hi ≤ k ∧ k < 48 + 16 * bit hi ∧ wr.getLsbD (k - 16 * bit hi) = true then 0 else c.obs.cnt.getD k 0 := by
  have hwrap (n : Nat) : (if wr.getLsbD 12 then { c.obs with wrapped := c.obs.wrapped &&& ~~~(1#64 <<< n) } else c.obs).cnt = c.obs.cnt := by split <;> rfl
  have hb : bit hi < 2 := by cases hi <;> decide
  simp only [counterSelect, hwrap]
  rw [getD_map_range _ _ h]
  refine if_congr ?_ rfl rfl
  simp only [hb, decide_true, Bool.true_and, Bool.and_eq_true, decide_eq_true_eq]
  constructor
  · rintro ⟨⟨hlo, hhi⟩, hw⟩
    exact ⟨hlo, by omega, by rwa [show 32 + (k - (32 + 16 * bit hi)) = k - 16 * bit hi by omega] at hw⟩
  · rintro ⟨hlo, hhi, hw⟩
    exact ⟨⟨hlo, by omega⟩, by rwa [show 32 + (k - (32 + 16 * bit hi)) = k - 16 * bit hi by omega]⟩

/-! ### Transmission aborts (R596) -/

theorem wordTaken_abort {u : Nat} (hu : u < 2) (old wr : Word) (c : Chip) :
    wordTaken (0xF0004 + 0x100 * u) old wr c = c.forN 3 (fun b c => if wr.getLsbD b then abortBuf u b c else c) := by
  interval_cases u <;> rfl

theorem setBuf_state {u b st : Nat} (c : Chip) (hb : b < 12) (h : st < 16) : bufState (setBuf u b st c) u b = st :=
  (Chip.get_set_same c _ _ (by simp only [F.PUR_TXST_ST]; omega)).trans (Nat.mod_eq_of_lt h)

theorem abortBuf_of_waiting {u b : Nat} {c : Chip} (h : bufState c u b = 1 ∨ bufState c u b = 3) : abortBuf u b c = setBuf u b 6 c := by
  rcases h with h | h <;> simp only [abortBuf, h]

/-- Settles O23: each write is the word stored and the effect of its rule, and each effect is read of the words and counts that it makes. -/
theorem safetySelectorAndCounterWritesTakeEffect : Obligations.SafetySelectorAndCounterWritesTakeEffect := by
  unfold Obligations.SafetySelectorAndCounterWritesTakeEffect
  refine ⟨fun s v h => act_hostWriteWord_of_accepts h,
    fun s v h hb => ⟨(act_hostWriteWord_of_accepts h).trans (by rw [wordTaken_rack _ _ hb]), rackWrite_mismatch _, rackWrite_ackcnt _⟩,
    fun k c hk => rackWrite_bit c hk,
    fun f mask c hf hl => srstWrite_due c hf hl,
    fun c => rfl,
    fun s v h hb => (act_hostWriteWord_of_accepts h).trans (by rw [wordTaken_pwctl _ _ hb]),
    fun s v h => exec_selector_of_accepts (r := 0) rfl (by decide) rfl (by decide) (fun _ _ _ => rfl) h,
    fun s v h => exec_selector_of_accepts (r := 0) rfl (by decide) rfl (by decide) (fun _ _ _ => rfl) h,
    fun s v h => exec_selector_of_accepts (r := 0) rfl (by decide) rfl (by decide) (fun _ _ _ => rfl) h,
    fun s v h => exec_selector_of_accepts (r := 0) rfl (by decide) rfl (by decide) (fun _ _ _ => rfl) h,
    fun s v h hb => ⟨_, act_hostWriteWord_of_accepts h, ?_⟩,
    fun s v h => ⟨_, act_hostWriteWord_of_accepts h, fun k hk => ?_⟩,
    fun s v hi h => ⟨counterSelect (bit hi) v (wrote s.chip (0x130140 + bit hi) v), ?_, fun k hk => ?_⟩,
    fun s u v h => (act_hostWriteWord_of_accepts h).trans (by rw [wordTaken_abort u.isLt]),
    fun u b c h => by rw [abortBuf_of_waiting h, setBuf_state c (by omega) (by decide)]⟩
  · rw [wordTaken_cctl, counterControl_snap _ hb, wrote_obs _ _ (by decide)]
  · rw [wordTaken_cctl, counterControl_counter _ _ hk, wrote_obs _ _ (by decide)]
  · have haddr : (if hi then 0x130141 else 0x130140) = 0x130140 + bit hi := by cases hi <;> rfl
    rw [show exec (.clrh hi v) s = act s (hostWriteWord (if hi then 0x130141 else 0x130140) v) from rfl, haddr, act_hostWriteWord_of_accepts h,
      wordTaken_csel]
  · rw [counterSelect_counter _ _ _ hk, wrote_obs _ _ (by omega)]

end Sys2Proof.Machine
end

section
/-! SUPPORT. The proofs of thermal management (17_thermal_management): readings, the throttle, the cross-check and the shutdown. -/

namespace Sys2Proof.Machine

/-! ### Sensors (R558, R560, R581) -/

theorem sensorAddr_td {k : Nat} (h : k < 12) : sensorAddr k = F.THM_TD k := (if_pos h).trans (by simp only [F.THM_TD]; omega)

theorem sensorAddr_ge (k : Nat) : 0xE0010 ≤ sensorAddr k := by
  unfold sensorAddr
  split <;> omega

theorem sensorFld_td {k : Nat} (lo width : Nat) (h : k < 12) : sensorFld k lo width = ⟨F.THM_TD k, lo, width⟩ := by
  rw [sensorFld, sensorAddr_td h]

/-- A sensor's reading is its temperature, held within the 16 bits shown. -/
theorem reading_temp (k : Nat) (z : Int) (c : Chip) : (reading k z c).geti (sensorFld k 0 16) = clampInt (-32768) 32767 z := by
  have hin := clampInt_mem z (show (-32768 : Int) ≤ 32767 by decide)
  have hother (d : Chip) (b : Bool) (v : Nat) : ((d.setb (sensorFld k 16 1) b).set (sensorFld k 18 2) v).geti (sensorFld k 0 16) = d.geti (sensorFld k 0 16) := by
    rw [Chip.geti, Chip.get_set_ne _ _ _ _ (.inr (.inr (show 0 + 16 ≤ 18 by decide))), Chip.get_setb_ne _ _ _ _ (.inr (.inr (show 0 + 16 ≤ 16 by decide)))]
    rfl
  exact (hother _ _ _).trans (Chip.geti_seti_same (m := 15) c rfl (show 0 + 16 ≤ 48 by decide) (by omega) (by omega))

theorem reading_valid (k : Nat) (z : Int) (c : Chip) : (reading k z c).is (sensorFld k 16 1) = (decide (-440 ≤ z) && decide (z ≤ 1600)) := by
  rw [reading, Chip.is, Chip.get_set_ne _ _ _ _ (.inr (.inr (show 16 + 1 ≤ 18 by decide)))]
  exact Chip.is_setb_same _ _ _ rfl (show 16 + 1 ≤ 48 by decide)

theorem sameBut_reading {l : List Nat} {k : Nat} (z : Int) {c d : Chip} (hk : sensorAddr k ∈ l) (h : sameBut l c d) : sameBut l c (reading k z d) :=
  sameBut_set _ hk (sameBut_set _ hk (sameBut_set _ hk h))

theorem noReading_shows (k : Nat) {reason : Nat} (c : Chip) (hr : reason < 4) :
    sensorValid (noReading k reason c) k = false ∧ (noReading k reason c).get (sensorFld k 18 2) = reason ∧ sameBut [sensorAddr k] c (noReading k reason c) := by
  refine ⟨?_, ?_, sameBut_set _ List.mem_cons_self (sameBut_set _ List.mem_cons_self (sameBut_refl _ c))⟩
  · rw [noReading, sensorValid, Chip.is, Chip.get_set_ne _ _ _ _ (.inr (.inr (show 16 + 1 ≤ 18 by decide)))]
    exact Chip.is_setb_same _ _ _ rfl (show 16 + 1 ≤ 48 by decide)
  · exact (Chip.get_set_same _ _ _ (show 18 + 2 ≤ 48 by decide)).trans (Nat.mod_eq_of_lt hr)

/-- TDk has been converted since BOOT began. -/
def tdCounted (k : Nat) (c : Chip) : Chip := modTherm (fun t => { t with converted := t.converted ||| (1#12 <<< k) }) c

/-- A reading of an on-die sensor with the level of its shutdown comparator. -/
def tdShown (k : Nat) (z : Int) (trip : Bool) (c : Chip) : Chip :=
  (reading k z (tdCounted k c)).setb (F.THM_TD_SHC k) trip

theorem tdConversion_of_up {k : Nat} (z : Int) (trip : Bool) {c : Chip} (h : c.mode ≠ .reset) :
    tdConversion k z trip c = if (tdShown k z trip c).therm.evaluated then showUse (tdShown k z trip c) else tdShown k z trip c := if_neg h

section
variable {k : Nat} (z : Int) (trip : Bool) (c : Chip) (hk : k < 12)
include hk

theorem tdShown_temp : (tdShown k z trip c).geti (F.THM_TD_TEMP k) = clampInt (-32768) 32767 z := by
  rw [tdShown, Chip.geti, Chip.get_setb_ne _ _ _ _ (.inr (.inr (show 0 + 16 ≤ 20 by decide)))]
  have h := reading_temp k z (tdCounted k c)
  rw [sensorFld_td _ _ hk] at h
  exact h

theorem tdShown_valid : (tdShown k z trip c).is (F.THM_TD_VALID k) = (decide (-440 ≤ z) && decide (z ≤ 1600)) := by
  rw [tdShown, Chip.is, Chip.get_setb_ne _ _ _ _ (.inr (.inr (show 16 + 1 ≤ 20 by decide)))]
  have h := reading_valid k z (tdCounted k c)
  rw [sensorFld_td _ _ hk] at h
  exact h

omit hk in
theorem tdShown_shc : (tdShown k z trip c).is (F.THM_TD_SHC k) = trip := Chip.is_setb_same _ _ _ rfl (show 20 + 1 ≤ 48 by decide)

theorem sameBut_tdShown {l : List Nat} (hl : F.THM_TD k ∈ l) : sameBut l c (tdShown k z trip c) :=
  sameBut_set _ hl (sameBut_reading z (by rwa [sensorAddr_td hk]) (sameBut_refl _ c))

end

/-! ### The sensors in use (R564, R565, R580) -/

theorem showUse_rd {b : Nat} (c : Chip) (h : b ≠ F.THM_STAT) : (showUse c).rd b = c.rd b := by
  rw [showUse, Chip.rd_setb_ne _ _ _ h, Chip.rd_set_ne _ _ _ h]

theorem sameBut_showUse {l : List Nat} {c d : Chip} (hl : F.THM_STAT ∈ l) (h : sameBut l c d) : sameBut l c (showUse d) := sameBut_set _ hl (sameBut_set _ hl h)

theorem tdInUse_length_lt (c : Chip) : (tdInUse c).length < 16 :=
  lt_of_le_of_lt (List.length_filter_le _ _) (by rw [List.length_range]; decide)

theorem showUse_ntd (c : Chip) : (showUse c).get F.THM_STAT_NTD = (tdInUse c).length := by
  rw [showUse, Chip.get_setb_ne _ _ _ _ (by decide), Chip.get_set_same _ _ _ (by decide)]
  exact Nat.mod_eq_of_lt (tdInUse_length_lt c)

theorem showUse_degr (c : Chip) : (showUse c).is F.THM_STAT_DEGR = decide ((tdInUse c).length < 6) := Chip.is_setb_same _ _ _ rfl (by decide)

theorem showUse_tth (c : Chip) : (showUse c).get F.THM_STAT_TTH = c.get F.THM_STAT_TTH := by
  rw [showUse, Chip.get_setb_ne _ _ _ _ (by decide), Chip.get_set_ne _ _ _ _ (by decide)]

section
variable {c d : Chip} (hrd : ∀ b, b ≠ F.THM_STAT → d.rd b = c.rd b) (hth : d.therm = c.therm)
include hrd

theorem thermGet_of_rd {f : Fld} (h : f.addr ≠ F.THM_STAT) : d.get f = c.get f := congrArg (fun w : Word => w.field _ _) (hrd _ h)

theorem tempOf_of_rd : tempOf d = tempOf c := by
  funext k
  have := sensorAddr_ge k
  rw [tempOf, tempOf, Chip.geti, Chip.geti, thermGet_of_rd hrd (show sensorAddr k ≠ F.THM_STAT by simp only [F.THM_STAT]; omega)]

include hth

theorem inUse_of_rd : inUse d = inUse c := by
  funext k
  have := sensorAddr_ge k
  have hget (lo width : Nat) : d.get (sensorFld k lo width) = c.get (sensorFld k lo width) :=
    thermGet_of_rd hrd (show sensorAddr k ≠ F.THM_STAT by simp only [F.THM_STAT]; omega)
  simp only [inUse, sensorValid, sensorExcl, Chip.is, hget, hth]

theorem tdInUse_of_rd : tdInUse d = tdInUse c := by rw [tdInUse, tdInUse, inUse_of_rd hrd hth]

theorem throttleTemp_of_rd (htth : d.get F.THM_STAT_TTH = c.get F.THM_STAT_TTH) : throttleTemp d = throttleTemp c := by
  have hrole : teRole d = teRole c := funext fun k => thermGet_of_rd hrd (by simp only [F.THM_TE_CFG_ROLE, F.THM_STAT]; omega)
  have hofs (k : Nat) : d.get (F.THM_TE_CFG_OFS k) = c.get (F.THM_TE_CFG_OFS k) :=
    thermGet_of_rd hrd (by simp only [F.THM_TE_CFG_OFS, F.THM_STAT]; omega)
  simp only [throttleTemp, tdInUse_of_rd hrd hth, inUse_of_rd hrd hth, tempOf_of_rd hrd, hrole, hofs, Chip.geti, htth]

end

theorem tdInUse_showUse (c : Chip) : tdInUse (showUse c) = tdInUse c := tdInUse_of_rd (fun _ h => showUse_rd c h) rfl

theorem throttleTemp_showUse (c : Chip) : throttleTemp (showUse c) = throttleTemp c :=
  throttleTemp_of_rd (fun _ h => showUse_rd c h) rfl (showUse_tth c)

/-! ### The throttle (R566) -/

/-- What an evaluation shows of the throttle. -/
def throttleView (c : Chip) : Nat × Bool × Nat × Nat × Word × Bool :=
  (c.get F.THM_STAT_NTD, c.is F.THM_STAT_DEGR, c.get F.THM_STAT_TTH, c.get F.THM_STAT_STEP, c.rd F.THM_THR, c.therm.evaluated)

/-- The step that an evaluation takes at a throttle temperature. -/
def throttleStep (tth : Int) (c : Chip) : Nat := if c.is F.THM_STAT_DEGR then 7 else stepDown c tth 8 (stepUp c tth 8 (c.get F.THM_STAT_STEP))

/-- The percentage that goes with a step. -/
def throttlePct (s : Nat) (c : Chip) : Nat :=
  let target := if s = 0 then 100 else c.get (F.THM_STEP_LIM (s - 1))
  if target < c.get F.THM_THR_PCT ∨ c.get F.THM_CFG_PCTSLEW = 0 then target else min target (c.get F.THM_THR_PCT + c.get F.THM_CFG_PCTSLEW)

/-- The temperature of the throttle shown. -/
def tthShown (c : Chip) : Chip := c.seti F.THM_STAT_TTH (clampInt (-32768) 32767 (throttleTemp c))

/-- The throttle at a step. -/
def throttledTo (s : Nat) (c : Chip) : Chip := (c.set F.THM_STAT_STEP s).set F.THM_THR_PCT (throttlePct s c)

/-- A change of the step is told, at the first evaluation to the trace only. -/
def stepTold (first : Bool) (s : Nat) (c : Chip) : Chip := if first then c.occur 0x17 none (BitVec.ofNat 48 s) else (c.occur 0x17 none (BitVec.ofNat 48 s)).evThermStep

theorem throttle_eq (first : Bool) (c : Chip) : throttle first c =
    if throttleStep (throttleTemp c) (tthShown c) = (tthShown c).get F.THM_STAT_STEP then throttledTo (throttleStep (throttleTemp c) (tthShown c)) (tthShown c)
    else stepTold first (throttleStep (throttleTemp c) (tthShown c)) (throttledTo (throttleStep (throttleTemp c) (tthShown c)) (tthShown c)) := rfl

theorem throttleView_evt (c : Chip) (k : Nat) : throttleView (c.evt 1 k) = throttleView c := by
  simp only [throttleView, Chip.is, Chip.rd_evt_ne c 1 k (show F.THM_THR ≠ 0x10 + 1 by decide), Chip.get_evt_ne c 1 k F.THM_STAT_NTD (by decide),
    Chip.get_evt_ne c 1 k F.THM_STAT_DEGR (by decide), Chip.get_evt_ne c 1 k F.THM_STAT_TTH (by decide), Chip.get_evt_ne c 1 k F.THM_STAT_STEP (by decide)]
  rfl

theorem throttleView_occur (c : Chip) (e : Nat) (i : Option Nat) (d : Word) : throttleView (c.occur e i d) = throttleView c :=
  Chip.occur_keeps throttleView (fun _ _ => rfl) c e i d

theorem throttleView_stepTold (first : Bool) (s : Nat) (c : Chip) : throttleView (stepTold first s c) = throttleView c := by
  unfold stepTold
  split
  · exact throttleView_occur ..
  · exact (throttleView_evt ..).trans (throttleView_occur ..)

theorem throttleView_throttle (first : Bool) (c : Chip) :
    throttleView (throttle first c) = throttleView (throttledTo (throttleStep (throttleTemp c) (tthShown c)) (tthShown c)) := by
  rw [throttle_eq]
  split
  · rfl
  · exact throttleView_stepTold ..

theorem tthShown_get {f : Fld} (c : Chip) (h : f.addr ≠ F.THM_STAT ∨ f.lo + f.width ≤ 32) : (tthShown c).get f = c.get f :=
  Chip.get_seti_ne _ _ _ _ (h.imp id .inr)

theorem tthShown_tth (c : Chip) : (tthShown c).geti F.THM_STAT_TTH = clampInt (-32768) 32767 (throttleTemp c) := by
  have hin := clampInt_mem (throttleTemp c) (show (-32768 : Int) ≤ 32767 by decide)
  exact Chip.geti_seti_same (m := 15) c rfl (by decide) (by omega) (by omega)

theorem throttledTo_stat {s : Nat} {f : Fld} (c : Chip) (hf : f.addr = F.THM_STAT) (hlo : 3 ≤ f.lo) : (throttledTo s c).get f = c.get f := by
  rw [throttledTo, Chip.get_set_ne _ _ _ _ (.inl (by rw [hf]; decide)), Chip.get_set_ne _ F.THM_STAT_STEP f _ (.inr (.inl hlo))]

theorem throttledTo_step {s : Nat} (c : Chip) (h : s < 8) : (throttledTo s c).get F.THM_STAT_STEP = s := by
  rw [throttledTo, Chip.get_set_ne _ _ _ _ (.inl (by decide)), Chip.get_set_same _ _ _ (by decide)]
  exact Nat.mod_eq_of_lt h

theorem throttlePct_seven_lt (c : Chip) : throttlePct 7 c < 256 := by
  have hlim : c.get (F.THM_STEP_LIM 6) < 256 := Word.field_lt _ _ _
  simp only [throttlePct, if_neg (show ¬ 7 = 0 by decide)]
  split
  · exact hlim
  · exact lt_of_le_of_lt (min_le_left _ _) hlim

theorem throttledTo_pct (c : Chip) : (throttledTo 7 c).get F.THM_THR_PCT = throttlePct 7 c := by
  rw [throttledTo, Chip.get_set_same _ _ _ (by decide)]
  exact Nat.mod_eq_of_lt (throttlePct_seven_lt c)

/-! ### The windows (R569, R570, R572) -/

theorem throttleView_set {f : Fld} (v : Nat) (c : Chip) (ha : f.addr ≠ F.THM_THR) (hf : f.addr ≠ F.THM_STAT ∨ 3 ≤ f.lo ∧ f.lo + f.width ≤ 7) :
    throttleView (c.set f v) = throttleView c := by
  have hget {g : Fld} (hg : g.lo + g.width ≤ 3 ∨ 7 ≤ g.lo) (hga : g.addr = F.THM_STAT) : (c.set f v).get g = c.get g := by
    refine Chip.get_set_ne _ _ _ _ ?_
    rcases hf with hf | ⟨hlo, hhi⟩
    · exact .inl (by rw [hga]; exact hf.symm)
    · exact .inr (by omega)
  simp only [throttleView, Chip.is, Chip.rd_set_ne c f v ha.symm, hget (g := F.THM_STAT_NTD) (by decide) rfl, hget (g := F.THM_STAT_DEGR) (by decide) rfl,
    hget (g := F.THM_STAT_TTH) (by decide) rfl, hget (g := F.THM_STAT_STEP) (by decide) rfl]
  rfl

theorem throttleView_setb {f : Fld} (v : Bool) (c : Chip) (ha : f.addr ≠ F.THM_THR) (hf : f.addr ≠ F.THM_STAT ∨ 3 ≤ f.lo ∧ f.lo + f.width ≤ 7) :
    throttleView (c.setb f v) = throttleView c := throttleView_set _ c ha hf

theorem throttleView_windowFlag {f : Fld} (event v : Bool) (c : Chip) (ha : f.addr = F.THM_STAT) (hf : 3 ≤ f.lo ∧ f.lo + f.width ≤ 7) :
    throttleView (windowFlag f event v c) = throttleView c := by
  have hset := throttleView_setb v c (by rw [ha]; decide) (.inr hf)
  unfold windowFlag
  split
  · rfl
  · split
    · exact (throttleView_evt ..).trans hset
    · exact hset

theorem throttleView_windows (first : Bool) (c : Chip) :
    throttleView (chargeWindow first (storeWindow first (driveInhibit first c))) = throttleView c := by
  have hcharge (d : Chip) : throttleView (chargeWindow first d) = throttleView d := by
    unfold chargeWindow
    refine (throttleView_setb _ _ (by decide) (.inr (by decide))).trans ((throttleView_windowFlag _ _ _ rfl (by decide)).trans ?_)
    exact Chip.forN_keeps throttleView (fun k e => throttleView_setb _ e (by simp only [F.THM_TE_VAL_OUTWIN, F.THM_THR]; omega)
      (.inl (by simp only [F.THM_TE_VAL_OUTWIN, F.THM_STAT]; omega))) 12 d
  rw [hcharge, storeWindow, throttleView_windowFlag _ _ _ rfl (by decide), driveInhibit, throttleView_windowFlag _ _ _ rfl (by decide)]

/-! ### The end of charging outside the window (R41, R572) -/

theorem throttleView_of_high {c d : Chip} (h : ∀ b, 0xE0000 ≤ b → d.rd b = c.rd b) (ht : d.therm = c.therm) : throttleView d = throttleView c := by
  have hget {g : Fld} (hg : 0xE0000 ≤ g.addr) : d.get g = c.get g := congrArg (fun w : Word => w.field _ _) (h _ hg)
  simp only [throttleView, Chip.is, ht, h F.THM_THR (by decide), hget (g := F.THM_STAT_NTD) (by decide), hget (g := F.THM_STAT_DEGR) (by decide),
    hget (g := F.THM_STAT_TTH) (by decide), hget (g := F.THM_STAT_STEP) (by decide)]

theorem setSub_therm {a : Nat} {x : Sub} (c : Chip) (hx : x ≠ .run) : (setSub a x c).therm = c.therm := by
  by_cases h : c.sub a = x
  · rw [setSub_of_same h]
  · rw [setSub_of_other h, if_neg hx]
    rfl

theorem throttleView_setSub {a : Nat} {x : Sub} (c : Chip) (ha : a < 4) (hx : x ≠ .run) : throttleView (setSub a x c) = throttleView c :=
  throttleView_of_high (fun b hb => setSub_rd x c (by simp only [F.MOT_FLAGS]; omega)) (setSub_therm c hx)

theorem throttleView_beginRampdown {a : Nat} (c : Chip) (ha : a < 4) : throttleView (beginRampdown a c) = throttleView c := by
  have hown (d : Chip) : throttleView (if axisFunc d a = 4 then d.setb (F.MOT_STAT_OWN a) false else d) = throttleView d := by
    split
    · exact throttleView_setb _ _ (by simp only [F.MOT_STAT_OWN, F.THM_THR]; omega) (.inl (by simp only [F.MOT_STAT_OWN, F.THM_STAT]; omega))
    · rfl
  have hramp (d : Chip) : throttleView (showRamp a d) = throttleView d :=
    throttleView_of_high (fun b hb => Chip.rd_wr_ne _ _ (by simp only [F.CNV_PLIM_PLIM]; omega)) rfl
  unfold beginRampdown
  split
  · rw [setCstep, throttleView_set _ _ (by simp only [F.CNV_STAT_CSTEP, F.THM_THR]; omega) (.inl (by simp only [F.CNV_STAT_CSTEP, F.THM_STAT]; omega)),
      throttleView_setSub _ ha (by decide), hown, hramp]
    rfl
  · rfl

theorem throttleView_stopConverters {l : List Nat} (c : Chip) (hl : ∀ a ∈ l, a < 4) : throttleView (stopConverters l c) = throttleView c := by
  refine Chip.forEach_keeps_of_mem throttleView (fun a ha d => ?_) c
  split
  · rfl
  · exact throttleView_beginRampdown d (hl a ha)

theorem throttleView_controlledStop {c : Chip} (pend : Option PendReq) (cause : Cause) (h : c.mode = .charge) :
    throttleView (controlledStop pend cause c) = throttleView c := by
  have hmode : ((c.raise F.DEV_MODE_PEND).set F.DEV_MODE_TARGET 4).mode = .charge := by
    rw [Chip.mode, Chip.get_set_ne _ _ _ _ (by decide), Chip.get_raise_ne _ _ _ (by decide)]
    exact h
  refine (congrArg throttleView (if_pos hmode)).trans ((throttleView_stopConverters _ fun a ha => ?_).trans ?_)
  · exact List.mem_range.mp (List.mem_filter.mp ha).1
  · exact (throttleView_set 4 _ (by decide) (.inl (by decide))).trans (throttleView_set 1 _ (by decide) (.inl (by decide)))

/-! ### The evaluation (R566 to R573) -/

/-- The throttle and the windows of an evaluation, shown. -/
def thermEvaluated (first : Bool) (c : Chip) : Chip :=
  modTherm (fun t => { t with evaluated := true }) (chargeWindow first (storeWindow first (driveInhibit first (throttle first (showUse c)))))

theorem thermalEvaluation_of_due {c : Chip} (hup : c.mode ≠ .reset) (h : c.therm.evaluated = true ∨ c.therm.converted = 0xFFF#12) :
    thermalEvaluation c = if (thermEvaluated (!c.therm.evaluated) c).mode = .charge && !(thermEvaluated (!c.therm.evaluated) c).is F.THM_STAT_CHWIN &&
      !(thermEvaluated (!c.therm.evaluated) c).is F.DEV_MODE_PEND then controlledStop none .thermal (thermEvaluated (!c.therm.evaluated) c)
    else thermEvaluated (!c.therm.evaluated) c := by
  refine if_neg ?_
  rintro (hr | ⟨he, hc⟩)
  · exact hup hr
  · rcases h with h | h
    · exact absurd h (by simpa using he)
    · exact hc h

theorem throttleView_thermalEvaluation {c : Chip} (hup : c.mode ≠ .reset) (h : c.therm.evaluated = true ∨ c.therm.converted = 0xFFF#12) :
    throttleView (thermalEvaluation c) = throttleView (thermEvaluated (!c.therm.evaluated) c) := by
  rw [thermalEvaluation_of_due hup h]
  split
  · next hm =>
    simp only [Bool.and_eq_true, decide_eq_true_eq] at hm
    exact throttleView_controlledStop _ _ hm.1.1
  · rfl

/-- What an evaluation shows is the throttle's own view, and that an evaluation has been. -/
theorem throttleView_thermEvaluated (first : Bool) (c : Chip) (n : Nat) (g : Bool) (t s : Nat) (w : Word) (e : Bool)
    (h : throttleView (throttle first (showUse c)) = (n, g, t, s, w, e)) : throttleView (thermEvaluated first c) = (n, g, t, s, w, true) := by
  have hview := (throttleView_windows first (throttle first (showUse c))).trans h
  simp only [throttleView, Prod.mk.injEq] at hview ⊢
  obtain ⟨hn, hg, ht, hs, hw, -⟩ := hview
  exact ⟨hn, hg, ht, hs, hw, rfl⟩

theorem throttleView_throttle_showUse (first : Bool) (c : Chip) :
    (throttle first (showUse c)).get F.THM_STAT_NTD = (tdInUse c).length ∧ (throttle first (showUse c)).is F.THM_STAT_DEGR = decide ((tdInUse c).length < 6) ∧
      (throttle first (showUse c)).geti F.THM_STAT_TTH = clampInt (-32768) 32767 (throttleTemp c) ∧
      ((tdInUse c).length < 6 → (throttle first (showUse c)).get F.THM_STAT_STEP = 7 ∧ (throttle first (showUse c)).get F.THM_THR_PCT = throttlePct 7 c) := by
  have hview := throttleView_throttle first (showUse c)
  rw [throttleTemp_showUse] at hview
  simp only [throttleView, Prod.mk.injEq] at hview
  obtain ⟨hn, hg, ht, hs, hw, -⟩ := hview
  have hdegr : (tthShown (showUse c)).is F.THM_STAT_DEGR = decide ((tdInUse c).length < 6) :=
    (congrArg (· == 1) (tthShown_get _ (.inr (by decide)))).trans (showUse_degr c)
  refine ⟨?_, ?_, ?_, fun hfew => ?_⟩
  · rw [hn, throttledTo_stat _ rfl (by decide), tthShown_get _ (.inr (by decide)), showUse_ntd]
  · rw [hg, Chip.is, throttledTo_stat _ rfl (by decide)]
    exact hdegr
  · rw [Chip.geti, ht, throttledTo_stat _ rfl (by decide)]
    exact (tthShown_tth _).trans (by rw [throttleTemp_showUse])
  · have hseven : throttleStep (throttleTemp c) (tthShown (showUse c)) = 7 := if_pos (hdegr.trans (decide_eq_true hfew))
    have hget {f : Fld} (hf : f.addr ≠ F.THM_STAT) : (tthShown (showUse c)).get f = c.get f :=
      (tthShown_get _ (.inl hf)).trans (thermGet_of_rd (fun _ h => showUse_rd c h) hf)
    have hpct : throttlePct 7 (tthShown (showUse c)) = throttlePct 7 c := by
      simp only [throttlePct, hget (f := F.THM_THR_PCT) (by decide), hget (f := F.THM_CFG_PCTSLEW) (by decide), hget (f := F.THM_STEP_LIM (7 - 1)) (by decide)]
    rw [hseven] at hs hw
    refine ⟨hs.trans (throttledTo_step _ (by decide)), Eq.trans (congrArg (fun w : Word => w.field 0 8) hw) ?_⟩
    exact (throttledTo_pct _).trans hpct

/-- An evaluation that is due shows the sensors in use, the throttle temperature, and with few sensors the last step. -/
theorem thermalEvaluation_shows {c : Chip} (hup : c.mode ≠ .reset) (h : c.therm.evaluated = true ∨ c.therm.converted = 0xFFF#12) :
    (thermalEvaluation c).therm.evaluated = true ∧ (thermalEvaluation c).get F.THM_STAT_NTD = (tdInUse c).length ∧
      (thermalEvaluation c).is F.THM_STAT_DEGR = decide ((tdInUse c).length < 6) ∧
      (thermalEvaluation c).geti F.THM_STAT_TTH = clampInt (-32768) 32767 (throttleTemp c) ∧
      ((tdInUse c).length < 6 → (thermalEvaluation c).get F.THM_STAT_STEP = 7 ∧ (thermalEvaluation c).get F.THM_THR_PCT = throttlePct 7 c) := by
  obtain ⟨hn, hg, ht, hlast⟩ := throttleView_throttle_showUse (!c.therm.evaluated) c
  have hview := (throttleView_thermalEvaluation hup h).trans (throttleView_thermEvaluated _ c _ _ _ _ _ _ rfl)
  simp only [throttleView, Prod.mk.injEq] at hview
  obtain ⟨hvn, hvg, hvt, hvs, hvw, hve⟩ := hview
  refine ⟨hve, hvn.trans hn, hvg.trans hg, (congrArg (signed 16) hvt).trans ht, fun hfew => ?_⟩
  obtain ⟨hstep, hpct⟩ := hlast hfew
  exact ⟨hvs.trans hstep, (congrArg (fun w : Word => w.field 0 8) hvw).trans hpct⟩

theorem thermalEvaluation_of_waiting {c : Chip} (h : c.therm.evaluated = false) (hc : c.therm.converted ≠ 0xFFF#12) : thermalEvaluation c = c :=
  if_pos (.inr ⟨by rw [h]; rfl, hc⟩)

/-! ### The cross-check (R562 to R565) -/

theorem checkSensor_returning (k : Nat) (c : Chip) : (checkSensor k c).therm.returning = c.therm.returning := by
  simp only [checkSensor]
  split_ifs <;> rfl

theorem crossCheck_of_evaluated {c : Chip} (hup : c.mode ≠ .reset) (h : c.therm.evaluated = true) :
    crossCheck c = showUse ((modTherm (fun t => { t with returning := 0 }) c).forN 24 checkSensor) := by
  refine if_neg ?_
  rintro (hr | he)
  · exact hup hr
  · rw [h] at he
    exact Bool.noConfusion he

theorem crossCheck_of_unevaluated {c : Chip} (h : c.therm.evaluated = false) : crossCheck c = c := if_pos (.inr (by rw [h]; rfl))

/-- A sensor is excluded. -/
def sensorExcluded (k : Nat) (c : Chip) : Chip :=
  let c := ((c.raise (sensorFld k 17 1)).set (sensorFld k 18 2) 2).evSensor
  c.wr 0xE0003 ((c.rd 0xE0003).setField k 1 1)

theorem sensorExcluded_get {k : Nat} (lo width : Nat) (c : Chip) :
    (sensorExcluded k c).get (sensorFld k lo width) = ((c.raise (sensorFld k 17 1)).set (sensorFld k 18 2) 2).get (sensorFld k lo width) := by
  have := sensorAddr_ge k
  rw [sensorExcluded, Chip.get_wr_ne _ _ _ _ (show sensorAddr k ≠ 0xE0003 by omega), Chip.evSensor,
    Chip.get_evt_ne _ _ _ _ (show sensorAddr k ≠ 0x10 + 1 by omega)]

theorem sensorExcluded_shows (k : Nat) (c : Chip) : sensorExcl (sensorExcluded k c) k = true ∧ (sensorExcluded k c).get (sensorFld k 18 2) = 2 := by
  refine ⟨?_, ?_⟩
  · rw [sensorExcl, Chip.is, sensorExcluded_get, Chip.get_set_ne _ _ _ _ (.inr (.inr (show 17 + 1 ≤ 18 by decide)))]
    exact Chip.is_raise_same _ _ rfl (show 17 + 1 ≤ 48 by decide)
  · rw [sensorExcluded_get]
    exact Chip.get_set_same _ _ _ (show 18 + 2 ≤ 48 by decide)

/-- A sensor of the die that has disagreed often enough with two neighbours or more is excluded. -/
theorem checkSensor_of_disagreeing {k : Nat} {c : Chip} (hk : k < 12) (hu : inUse c k = true) (htwo : 2 ≤ ((neighbours c k).filter (inUse c)).length)
    (hoff : ((c.get F.THM_CFG_XTOL : Nat) : Rat) < absRat (((tempOf c k : Int) : Rat) - median (((neighbours c k).filter (inUse c)).map (tempOf c))))
    (hn : c.get F.THM_CFG_XN ≤ c.therm.miss.getD k 0 + 1) :
    checkSensor k c = sensorExcluded k (modTherm (fun t => { t with miss := t.miss.set k (c.therm.miss.getD k 0 + 1) }) c) := by
  have hsome : ((neighbours c k).filter (inUse c)).isEmpty = false := by
    rw [List.isEmpty_eq_false_iff_exists_mem]
    exact List.exists_mem_of_length_pos (by omega)
  have hmany : decide (((neighbours c k).filter (inUse c)).length < 2) = false := decide_eq_false (by omega)
  have hpair : ¬ (12 ≤ k ∧ (neighbours c k).length = 1) := fun h => by omega
  simp only [checkSensor, hu, hsome, hmany, decide_eq_true hoff, hpair, Bool.not_true, Bool.false_and, Bool.or_self, Bool.false_eq_true, if_false, if_true,
    or_false, modTherm_get, Nat.not_lt.mpr hn]
  rfl

/-! ### Shutdown (R574 to R576) -/

theorem thermalShutdown_of_valid {k : Nat} {c : Chip} (h : c.clk.vsafeLow = false) : thermalShutdown k c =
    ((setRindLatch .thermal ((c.raise F.THM_SHD_SHUT).setBit F.THM_SHD_TRIP k true)).setb (F.THM_TD_SHC k) true).notice (.latch .thermal) :=
  if_neg (Bool.eq_false_iff.mp h)

theorem thermalShutdown_rd {k b : Nat} {c : Chip} (h : c.clk.vsafeLow = false) (hb : b = F.THM_SHD) :
    (thermalShutdown k c).rd b = ((c.raise F.THM_SHD_SHUT).setBit F.THM_SHD_TRIP k true).rd b := by
  rw [thermalShutdown_of_valid h, notice_rd, Chip.rd_setb_ne _ _ _ (by rw [hb]; simp only [F.THM_SHD, F.THM_TD_SHC]; omega),
    setRindLatch_rd _ _ (by rw [hb]; decide)]

/-- A field of the same word above a field's bit keeps its value when the bit is set. -/
theorem Chip.get_setBit_above (c : Chip) (f : Fld) {g : Fld} (k : Nat) (b : Bool) (h : f.lo + k + 1 ≤ g.lo) : (c.setBit f k b).get g = c.get g :=
  Chip.get_set_ne c ⟨f.addr, f.lo + k, 1⟩ g (bit b) (.inr (.inl h))

theorem thermalShutdown_shows {k : Nat} {c : Chip} (hk : k < 12) (h : c.clk.vsafeLow = false) :
    (thermalShutdown k c).is F.THM_SHD_SHUT = true ∧ (thermalShutdown k c).getBit F.THM_SHD_TRIP k = true ∧ (thermalShutdown k c).rind.latch = true ∧
      (c.rind.latch = false → (thermalShutdown k c).rind.latchCause = .thermal) ∧ (thermalShutdown k c).notices = c.notices ++ [.latch .thermal] := by
  have hrind : (thermalShutdown k c).rind = (setRindLatch .thermal c).rind := by
    rw [thermalShutdown_of_valid h]
    rfl
  refine ⟨?_, ?_, ?_, fun hl => ?_, ?_⟩
  · rw [Chip.is, Chip.get, thermalShutdown_rd h (b := F.THM_SHD_SHUT.addr) rfl]
    refine (congrArg (· == 1) (?_ : _ = (c.raise F.THM_SHD_SHUT).get F.THM_SHD_SHUT)).trans (Chip.is_raise_same c F.THM_SHD_SHUT rfl (by decide))
    exact Chip.get_setBit_above _ F.THM_SHD_TRIP k true (by simp only [F.THM_SHD_TRIP, F.THM_SHD_SHUT]; omega)
  · rw [Chip.getBit, thermalShutdown_rd h (b := F.THM_SHD_TRIP.addr) rfl]
    exact Chip.getBit_setBit_same _ _ _ (by simp only [F.THM_SHD_TRIP]; omega)
  · rw [hrind]
    exact setRindLatch_latch _ _
  · rw [hrind]
    simp only [setRindLatch, modRind, Chip.raise, Chip.set_rind, hl, Bool.false_eq_true, if_false]
  · rw [thermalShutdown_of_valid h]
    rfl

/-- Settles O57: a reading, an evaluation, a check and a shutdown each show what their rule gives, and the word of the throttle survives what follows it
in an evaluation. -/
theorem thermalReadingsThrottleAndShutdown : Obligations.ThermalReadingsThrottleAndShutdown := by
  unfold Obligations.ThermalReadingsThrottleAndShutdown
  have hmode {c : Chip} (h : up c = true) : c.mode ≠ .reset := bne_iff_ne.mp h
  refine ⟨fun s k z t h => ⟨_, rfl, ?_⟩, fun s k h => ?_, fun s _ he hc => congrArg (fun d => Host.Outcome.next (s.acted d)) (thermalEvaluation_of_waiting he hc),
    fun s h hdue => ⟨_, rfl, thermalEvaluation_shows (hmode h) hdue⟩, fun s h he => ⟨_, rfl, ?_, ?_⟩,
    fun s he _ => congrArg (fun d => Host.Outcome.next (s.acted d)) (crossCheck_of_unevaluated he), fun c k hk hu htwo hoff hn => ?_,
    fun s k h => ⟨_, rfl, thermalShutdown_shows k.isLt h⟩, fun s k h => congrArg (fun d => Host.Outcome.next (s.acted d)) (if_pos h)⟩
  · have hshow : sameBut [F.THM_TD k, F.THM_STAT] s.chip (tdShown k z t s.chip) := sameBut_tdShown z t s.chip k.isLt List.mem_cons_self
    have hget {f : Fld} (hf : f.addr = F.THM_TD k) : (tdConversion k z t s.chip).get f = (tdShown k z t s.chip).get f := by
      rw [tdConversion_of_up z t (hmode h)]
      split
      · exact thermGet_of_rd (fun _ hb => showUse_rd _ hb) (by rw [hf]; simp only [F.THM_TD, F.THM_STAT]; omega)
      · rfl
    refine ⟨?_, ?_, ?_, ?_⟩
    · rw [Chip.geti, hget rfl]
      exact tdShown_temp z t s.chip k.isLt
    · rw [Chip.is, hget rfl]
      exact tdShown_valid z t s.chip k.isLt
    · rw [Chip.is, hget rfl]
      exact tdShown_shc z t s.chip
    · rw [tdConversion_of_up z t (hmode h)]
      split
      · exact sameBut_showUse (List.mem_cons_of_mem _ List.mem_cons_self) hshow
      · exact hshow
  · have hexec : exec (.teNosample k) s = .next (s.acted (noReading (12 + k) 3 s.chip)) :=
      congrArg (fun d => Host.Outcome.next (s.acted d)) (if_neg (hmode h))
    exact ⟨_, hexec, noReading_shows (12 + k) s.chip (by decide)⟩
  · rw [crossCheck_of_evaluated (hmode h) he]
    exact Chip.forN_keeps (fun d => d.therm.returning) checkSensor_returning 24 _
  · rw [crossCheck_of_evaluated (hmode h) he, showUse_ntd, tdInUse_showUse]
  · rw [checkSensor_of_disagreeing hk hu htwo hoff hn]
    obtain ⟨hexcl, hreason⟩ := sensorExcluded_shows k (modTherm (fun t => { t with miss := t.miss.set k (c.therm.miss.getD k 0 + 1) }) c)
    exact ⟨hexcl, by rwa [sensorFld_td _ _ hk] at hreason⟩

end Sys2Proof.Machine
end

section
/-! SUPPORT. The proofs of the requests of metrology, self-test and repair (R627, R628, R632, R633, R670, R672). -/

namespace Sys2Proof.Machine

/-! ### Metrology (R3, R61, R633) -/

theorem meterAbsent_none {c : Chip} (h : hasMeter c = true) : meterAbsent c = none := if_pos h

theorem meterAbsent_some {c : Chip} (h : hasMeter c = false) : meterAbsent c = some 0x14 := if_neg (Bool.eq_false_iff.mp h)

theorem meterRefusal_late {c : Chip} (h : c.mode ≠ .boot) : meterRefusal c false = none := by
  rw [meterRefusal, if_neg h]
  rfl

theorem meterRefusal_early {c : Chip} (hb : c.mode ≠ .boot) (hc : c.mode ≠ .config) (ht : c.mode ≠ .selftest) : meterRefusal c true = none := by
  have hserved : (c.mode == .config || c.mode == .selftest) = false := Bool.or_eq_false_iff.mpr ⟨beq_false_of_ne hc, beq_false_of_ne ht⟩
  rw [meterRefusal, if_neg hb, hserved]
  rfl

theorem oneRefusal_none {q : Req} {unused : Word} (hl : q.len = 1) (hh : q.hdr = 0) (hw : q.word 0 &&& unused = 0) : oneRefusal q unused = none := by
  rw [oneRefusal, if_neg (not_not_intro hl), if_neg (by rintro (h | h) <;> contradiction)]

/-- The words of METER_READ. -/
def meterWords (c : Chip) : List Word :=
  [0, hostWord c 0x100010, hostWord c 0x100011, hostWord c 0x100012, hostWord c 0x100013, hostWord c 0x100014, hostWord c 0x100015, hostWord c 0x100016,
    hostWord c 0x100017, hostWord c 0x100001, hostWord c 0x100000, c.meter.boundary]

theorem meterWords_register {c : Chip} {k : Nat} (h : k < 8) : (meterWords c).getD (k + 1) 0 = hostWord c (0x100010 + k) := by
  interval_cases k <;> rfl

theorem meterRead_reads {q : Req} {c : Chip} (hl : q.len = 0) (hh : q.hdr = 0) (hm : hasMeter c = true) (hb : c.mode ≠ .boot) (hc : c.mode ≠ .config)
    (ht : c.mode ≠ .selftest) : meterRead q c = (meterWords c, c) := by
  rw [meterRead, meterAbsent_none hm, plainRefusal_none hl hh, meterRefusal_early hb hc ht]
  rfl

section
variable {s : State} {q : Req}

theorem exec_meterRead_of_serves (h : servesC 0x38 q s.chip = true) : exec (.meterRead q) s = .next (s.acted (answer 0x38 q (meterRead q (heard 0x38 s.chip)))) := by
  rw [← receiveC_serves meterRead h]; rfl

theorem exec_meterRecord_of_serves (h : servesC 0x3A q s.chip = true) :
    exec (.meterRecord q) s = .next (s.acted (answer 0x3A q (meterRecord q (heard 0x3A s.chip)))) := by
  rw [← receiveC_serves meterRecord h]; rfl

/-- METER_SESSION is one request, whichever command it holds. -/
theorem exec_meterSession_of_serves (h : servesC 0x39 q s.chip = true) :
    ∀ i ∈ [Instr.meterSessionOpen q, .meterSessionClose q, .meterSessionQuery q],
      exec i s = .next (s.acted (answer 0x39 q (meterSession q (heard 0x39 s.chip)))) := by
  rw [← receiveC_serves meterSession h]
  intro i hi
  simp only [List.mem_cons, List.not_mem_nil, or_false] at hi
  rcases hi with rfl | rfl | rfl <;> rfl

end

section
variable {q : Req} {c : Chip} (hl : q.len = 1) (hh : q.hdr = 0) (hmeter : hasMeter c = true)
include hl hh hmeter

theorem meterRecord_of_held {r : Nat × List Word} (hw : q.word 0 &&& 0xFFFF00000000 = 0) (hb : c.mode ≠ .boot) (hc : c.mode ≠ .config) (ht : c.mode ≠ .selftest)
    (hr : c.meter.records.find? (fun r => r.1 == (q.word 0).field 0 32) = some r) : meterRecord q c = (0 :: r.2, c) := by
  simp only [meterRecord, meterAbsent_none hmeter, oneRefusal_none hl hh hw, meterRefusal_early hb hc ht, hr, Option.or_none, orRefuse]

/-- A session command that is well formed, outside BOOT. -/
theorem meterSession_of_command (hb : c.mode ≠ .boot)
    (hw : ¬ ((q.word 0).field 4 12 ≠ 0 ∨ (q.word 0).field 0 4 = 0 ∨ 3 < (q.word 0).field 0 4 ∨ ((q.word 0).field 0 4 ≠ 1 ∧ (q.word 0).field 16 32 ≠ 0))) :
    meterSession q c = (if (q.word 0).field 0 4 = 1 then sessionOpenOp q ((q.word 0).field 16 32) c
      else if (q.word 0).field 0 4 = 2 then sessionCloseOp q c else ([0, sessionWord c], c)) := by
  have hgood : ¬ (q.hdr ≠ 0 ∨ (q.word 0).field 4 12 ≠ 0 ∨ (q.word 0).field 0 4 = 0 ∨ 3 < (q.word 0).field 0 4 ∨
      ((q.word 0).field 0 4 ≠ 1 ∧ (q.word 0).field 16 32 ≠ 0)) := not_or.mpr ⟨not_not_intro hh, hw⟩
  simp only [meterSession, meterAbsent_none hmeter, orRefuse]
  rw [if_neg (not_not_intro hl), if_neg hgood, meterRefusal_late hb]

end

theorem meterSession_of_absent {q : Req} {c : Chip} (h : hasMeter c = false) : meterSession q c = ([0x14], c) := by
  rw [meterSession, meterAbsent_some h]; rfl

@[simp] theorem heard_meter (op : Nat) (c : Chip) : (heard op c).meter = c.meter := Chip.occur_keeps Chip.meter (fun _ _ => rfl) _ _ _ _

theorem heard_modFault (op k : Nat) (c : Chip) : modFault (heard op c) k = modFault c k := by simp only [modFault, Chip.getBit, heard_rd]

/-- OPEN in CHARGE with nothing in its way. -/
theorem sessionOpenOp_opens {q : Req} {c : Chip} (ref : Nat) (hm : c.mode = .charge) (hst : sessState c = 0) (hp : c.is F.DEV_MODE_PEND = false)
    (hcal : c.is F.MTR_STAT_CALOK = true) (hkey : c.is F.MTR_STAT_KEYOK = true) (h0 : modFault c 0 = false) (h1 : modFault c 1 = false)
    (ht : c.meter.tripped = false) (hs : canStore c = true) (hq : q.storeOk = true) :
    sessionOpenOp q ref c = ([0, hostWord (sessionOpen ref c) 0x100001], sessionOpen ref c) := by
  simp only [sessionOpenOp, hm, hst, hp, hcal, hkey, h0, h1, ht, hs, hq, ne_eq, not_true, Bool.not_true, Bool.or_self, Bool.false_eq_true, or_self, if_false]
  rfl

theorem setSess_state {st : Nat} (c : Chip) (h : st < 16) : sessState (setSess st c) = st := by
  rw [sessState, setSess, Chip.evMeter, Chip.get_evt_ne _ _ _ _ (by decide), Chip.get_set_same _ _ _ (by decide)]
  exact Nat.mod_eq_of_lt h

theorem setSess_get {st : Nat} (c : Chip) {f : Fld} (ha : f.addr ≠ 0x13) (h : f.addr ≠ F.MTR_SESS ∨ 4 ≤ f.lo) : (setSess st c).get f = c.get f := by
  rw [setSess, Chip.evMeter, Chip.get_evt_ne _ _ _ _ ha, Chip.get_set_ne _ _ _ _ (h.imp id .inl)]

theorem sessionOpen_sessno (ref : Nat) (c : Chip) :
    (sessionOpen ref c).get F.MTR_SESS_SESSNO = (c.get F.MTR_SESS_SESSNO + 1) % 2 ^ F.MTR_SESS_SESSNO.width := by
  rw [sessionOpen, setSess_get _ (by decide) (.inr (by decide)), Chip.get_countMod_same _ _ _ (by decide)]
  rfl

/-- CLOSE of an open session. -/
theorem sessionCloseOp_of_open {q : Req} {c : Chip} (hm : c.mode ≠ .latched) (h : sessState c = 1) :
    sessionCloseOp q c = ([1, hostWord (beginClose 1 false (some (pendOf 0x39 q)) c) 0x100001], beginClose 1 false (some (pendOf 0x39 q)) c) := by
  rw [sessionCloseOp, if_neg hm, if_pos h]
  rfl

theorem beginClose_of_open {reason : Nat} {recov : Bool} {pend : Option PendReq} {c : Chip} (h : sessState c = 1) :
    beginClose reason recov pend c = setSess 2 (modMeter (fun m => { m with closing := some { reason := reason, recov := recov, pend := pend } }) c) := if_pos h

/-- Settles O26: a request that no rule refuses is answered by its command, and one of a device without the partition is denied. -/
theorem meterRequestsAnswer : Obligations.MeterRequestsAnswer := by
  unfold Obligations.MeterRequestsAnswer
  refine ⟨fun s q h hl hh hm hb hc ht => ⟨meterWords (heard 0x38 s.chip), rfl, ?_, rfl, fun k hk => meterWords_register hk⟩,
    fun s q r h hl hh hw hm hb hc ht hr => ?_, fun s q h hl hh hcmd hz hm hmode hst hp hcal hkey h0 h1 htr hs hq => ?_,
    fun s q h hl hh hw hm hb hlat hst => ?_, fun s q h hl hh hw hm hb => ?_, fun s q h hm => ?_, fun s q h hm => ?_, fun s q h hm i hi => ?_,
    fun op q c l => sameWords_answer_heard op q c l⟩
  · rw [exec_meterRead_of_serves h, meterRead_reads hl hh hm (by simpa using hb) (by simpa using hc) (by simpa using ht)]
  · rw [exec_meterRecord_of_serves h, meterRecord_of_held hl hh hm hw (by simpa using hb) (by simpa using hc) (by simpa using ht) hr]
  · have hcommand := meterSession_of_command hl hh hm (by simp [hmode]) (by simp [hcmd, hz])
    rw [if_pos hcmd, sessionOpenOp_opens _ (by simpa using hmode) ((heard_get ..).trans hst) (by simpa using hp) (by simpa using hcal) (by simpa using hkey)
      ((heard_modFault ..).trans h0) ((heard_modFault ..).trans h1) (by rw [heard_meter]; exact htr) (by simpa using hs) hq] at hcommand
    refine ⟨sessionOpen ((q.word 0).field 16 32) (heard 0x39 s.chip), (exec_meterSession_of_serves h _ List.mem_cons_self).trans (by rw [hcommand]),
      setSess_state _ (by decide), rfl, ?_⟩
    rw [sessionOpen_sessno, heard_get]
  · have hcommand := meterSession_of_command hl hh hm (by simpa using hb) (by rw [hw]; decide)
    rw [hw, if_neg (by decide), if_pos (by decide), sessionCloseOp_of_open (by simpa using hlat) ((heard_get ..).trans hst)] at hcommand
    have hclose := beginClose_of_open (reason := 1) (recov := false) (pend := some (pendOf 0x39 q)) (c := heard 0x39 s.chip) ((heard_get ..).trans hst)
    refine ⟨_, (exec_meterSession_of_serves h _ (by simp)).trans (by rw [hcommand]), ?_, ?_⟩
    · rw [hclose]
      exact setSess_state _ (by decide)
    · rw [hclose]
      rfl
  · rw [exec_meterSession_of_serves h _ (by simp), meterSession_of_command hl hh hm (by simpa using hb) (by rw [hw]; decide), hw, if_neg (by decide),
      if_neg (by decide)]
    rfl
  · rw [exec_meterRead_of_serves h, meterRead, meterAbsent_some hm]
    rfl
  · rw [exec_meterRecord_of_serves h, meterRecord, meterAbsent_some hm]
    rfl
  · rw [exec_meterSession_of_serves h i hi, meterSession_of_absent hm]

/-! ### BIST_RUN and REPAIR_APPLY (R670, R672) -/

theorem exec_bistRunLane_of_serves {s : State} {q : Req} (h : servesC 0x40 q s.chip = true) :
    exec (.bistRunLane q) s = .next (s.acted (answer 0x40 q (bistRun q (heard 0x40 s.chip)))) := by
  rw [← receiveC_serves bistRun h]; rfl

theorem exec_bistRunScrub_of_serves {s : State} {q : Req} (h : servesC 0x40 q s.chip = true) :
    exec (.bistRunScrub q) s = .next (s.acted (answer 0x40 q (bistRun q (heard 0x40 s.chip)))) := by
  rw [← receiveC_serves bistRun h]; rfl

theorem exec_fuseAll_of_serves {s : State} {q : Req} (h : servesC 0x41 q s.chip = true) :
    exec (.fuseAll q) s = .next (s.acted (answer 0x41 q (repairApply q (heard 0x41 s.chip)))) := by
  rw [← receiveC_serves repairApply h]; rfl

theorem exec_fuseOne_of_serves {s : State} {q : Req} (h : servesC 0x41 q s.chip = true) :
    exec (.fuseOne q) s = .next (s.acted (answer 0x41 q (repairApply q (heard 0x41 s.chip)))) := by
  rw [← receiveC_serves repairApply h]; rfl

theorem Word.field_ofNat (n lo width : Nat) : Word.field (BitVec.ofNat 48 n) lo width = n % 2 ^ 48 / 2 ^ lo % 2 ^ width := by
  rw [Word.field, BitVec.toNat_ofNat, Nat.shiftRight_eq_div_pow]

section
variable {q : Req} {c : Chip} (hl : q.len = 1) (hh : q.hdr = 0) (hbusy : bistBusy c = false) (hstop : stopRunning c = false)
include hl hh hbusy hstop

theorem bistRun_lane {j : Nat} (hj : j < 8) (hw : q.word 0 = BitVec.ofNat 48 (2 ^ 44 + j)) (hrun : runMode c.mode = true) (hlat : c.mode ≠ .latched)
    (hm : mayMigrate c j = true) : bistRun q c = ([1], bistLane j ⟨0x40, q.tag.toNat⟩ c) := by
  have hkind : (q.word 0).field 44 4 = 1 := by rw [hw, Word.field_ofNat]; omega
  have hlane : (q.word 0).field 0 3 = j := by rw [hw, Word.field_ofNat]; omega
  have hrest : (q.word 0).field 3 41 = 0 := by rw [hw, Word.field_ofNat]; omega
  have hboot : c.mode ≠ .boot := by
    intro h
    rw [h] at hrun
    exact absurd hrun (by decide)
  have hlatched : (c.mode == .latched) = false := beq_false_of_ne hlat
  simp only [bistRun, hl, hh, hkind, hlane, hrest, bootRefusal_none hboot, hrun, hlatched, hbusy, hstop, hm, ne_eq, not_true, orRefuse, Bool.not_true, Bool.or_self,
    Bool.false_eq_true, and_false, true_or, if_false, if_true, accepted, pendOf]
  rfl

theorem bistRun_scrub (hw : q.word 0 = BitVec.ofNat 48 (2 * 2 ^ 44)) (hboot : c.mode ≠ .boot) (hs : canStore c = true) :
    bistRun q c = ([1], modBist (fun b => { b with scrubReq := some ⟨0x40, q.tag.toNat⟩ }) c) := by
  have hkind : (q.word 0).field 44 4 = 2 := by rw [hw, Word.field_ofNat]; rfl
  have hlane : (q.word 0).field 0 3 = 0 := by rw [hw, Word.field_ofNat]; rfl
  have hrest : (q.word 0).field 3 41 = 0 := by rw [hw, Word.field_ofNat]; rfl
  have hone : ¬ (2 : Nat) = 1 := by decide
  simp only [bistRun, hl, hh, hkind, hlane, hrest, hone, bootRefusal_none hboot, hbusy, hstop, hs, ne_eq, not_true, orRefuse, Bool.not_true, Bool.or_self,
    Bool.false_eq_true, and_false, false_and, or_true, if_false, accepted, pendOf]
  rfl

end

theorem repairApply_accepts {q : Req} {c : Chip} {act i : Nat} {slots : List Nat} (hl : q.len = 1) (hh : q.hdr = 0) (hact : (q.word 0).field 44 4 = act)
    (hi : (q.word 0).field 0 6 = i) (hrest : (q.word 0).field 6 38 = 0) (hgood : (act = 1 ∧ i = 0) ∨ (act = 2 ∧ repairAt c i = true))
    (hslots : (if act = 1 then repairSlots c else [i]) = slots) (hm : c.mode = .config) (hf : c.bist.fuseReq = none) (ht : fuseTempBad c = false)
    (hv : vOk c = true) (hroom : c.bist.fusesUsed + slots.length ≤ 32) : repairApply q c = ([1], startFuse slots ⟨0x41, q.tag.toNat⟩ c) := by
  have hheader : ¬ (q.hdr ≠ 0 ∨ (q.word 0).field 6 38 ≠ 0 ∨ ¬(act = 1 ∨ act = 2) ∨ (act = 1 ∧ i ≠ 0) ∨ (act = 2 ∧ (!repairAt c i) = true)) := by
    rintro (h | h | h | ⟨h, h0⟩ | ⟨h, h0⟩)
    · exact h hh
    · exact h hrest
    · exact h (hgood.imp And.left And.left)
    · rcases hgood with ⟨-, hz⟩ | ⟨hz, -⟩
      · exact h0 hz
      · omega
    · rcases hgood with ⟨hz, -⟩ | ⟨-, hz⟩
      · omega
      · rw [hz] at h0
        exact Bool.noConfusion h0
  have hroom' : ¬ 32 < c.bist.fusesUsed + slots.length := Nat.not_lt.mpr hroom
  simp only [repairApply, hact, hi, hslots]
  rw [if_neg (not_not_intro hl), if_neg hheader, configRefusal_config hm]
  simp only [orRefuse, hf, ht, hv, hroom', Option.isSome_none, Bool.not_true, Bool.false_eq_true, if_false]
  rfl

/-- Settles O27: a request with its conditions met is accepted, and leaves what it waits for in the state of self-test. -/
theorem selfTestAndRepairRequestsAreTaken : Obligations.SelfTestAndRepairRequestsAreTaken := by
  unfold Obligations.SelfTestAndRepairRequestsAreTaken
  have hwords (op : Nat) (f : Bist → Bist) (c : Chip) : sameWords c (modBist f (heard op c)) := ⟨fun a _ => heard_rd op c a, heard_lanes op c, heard_zmem op c, heard_store op c⟩
  refine ⟨fun s q j h hl hh hw hrun hlat hbusy hstop hm => ?_, fun s q h hl hh hw hboot hbusy hstop hs => ?_,
    fun s q h hl hh hw hm hf ht hv hroom => ⟨startFuse (repairSlots (heard 0x41 s.chip)) ⟨0x41, q.tag.toNat⟩ (heard 0x41 s.chip), ?_, rfl, rfl, hwords 0x41 _ s.chip⟩,
    fun s q i h hl hh hw hr hm hf ht hv hroom => ⟨startFuse [i.val] ⟨0x41, q.tag.toNat⟩ (heard 0x41 s.chip), ?_, rfl, rfl, hwords 0x41 _ s.chip⟩⟩
  · rw [exec_bistRunLane_of_serves h, bistRun_lane hl hh hbusy hstop j.isLt hw (by simpa using hrun) (by simpa using hlat) hm]
  · refine ⟨modBist (fun b => { b with scrubReq := some ⟨0x40, q.tag.toNat⟩ }) (heard 0x40 s.chip), ?_, rfl, hwords 0x40 _ s.chip⟩
    rw [exec_bistRunScrub_of_serves h, bistRun_scrub hl hh hbusy hstop hw (by simpa using hboot) (by simpa using hs)]
  · have hslots : (if (1 : Nat) = 1 then repairSlots (heard 0x41 s.chip) else [0]) = repairSlots (heard 0x41 s.chip) := if_pos rfl
    rw [exec_fuseAll_of_serves h, repairApply_accepts hl hh (by rw [hw]; rfl) (by rw [hw]; rfl) (by rw [hw]; rfl)
      (.inl ⟨rfl, rfl⟩) hslots (by simpa using hm) hf ht hv hroom]
  · have hi := i.isLt
    have hslots : (if (2 : Nat) = 1 then repairSlots (heard 0x41 s.chip) else [i.val]) = [i.val] := if_neg (by decide)
    rw [exec_fuseOne_of_serves h, repairApply_accepts (act := 2) (i := i.val) hl hh (by rw [hw, Word.field_ofNat]; omega) (by rw [hw, Word.field_ofNat]; omega)
      (by rw [hw, Word.field_ofNat]; omega) (.inr ⟨rfl, hr⟩) hslots (by simpa using hm) hf ht hv hroom]

end Sys2Proof.Machine
end

section
/-! SUPPORT. The proofs of the meter's events (19_metrology): samples, seconds, checkpoints, power failures, modulator faults and sessions. -/

namespace Sys2Proof.Machine

/-! ### The store's writers leave the words alone (R651) -/

section
variable {α : Type} (p : Chip → α) (hstore : ∀ (c : Chip) (m : Mem), p { c with store := m } = p c) (hnvm : ∀ (c : Chip) (n : Nvm), p { c with nvm := n } = p c)
include hstore

theorem dropRecord_keeps (a last : Nat) (c : Chip) : p (dropRecord a last c) = p c := by
  unfold dropRecord
  split
  · exact hstore c _
  · rfl

include hnvm

theorem beginJob_keeps (j : StoreJob) (c : Chip) : p (beginJob j c) = p c := by
  simp only [beginJob]
  split
  · exact (dropRecord_keeps p hstore _ _ _).trans (hnvm c _)
  · exact hnvm c _

theorem serveStore_keeps (c : Chip) : p (serveStore c) = p c := by
  unfold serveStore
  split
  · exact (beginJob_keeps p hstore hnvm _ _).trans (hnvm c _)
  · rfl

theorem enqueueJob_keeps (j : StoreJob) (c : Chip) : p (enqueueJob j c) = p c := (serveStore_keeps p hstore hnvm _).trans (hnvm c _)

end

theorem serveStore_rd (c : Chip) (b : Nat) : (serveStore c).rd b = c.rd b := serveStore_keeps (Chip.rd · b) (fun _ _ => rfl) (fun _ _ => rfl) c
theorem serveStore_meter (c : Chip) : (serveStore c).meter = c.meter := serveStore_keeps Chip.meter (fun _ _ => rfl) (fun _ _ => rfl) c
theorem enqueueJob_meter (j : StoreJob) (c : Chip) : (enqueueJob j c).meter = c.meter := enqueueJob_keeps Chip.meter (fun _ _ => rfl) (fun _ _ => rfl) j c

theorem dropRecord_nvm (a last : Nat) (c : Chip) : (dropRecord a last c).nvm = c.nvm := dropRecord_keeps Chip.nvm (fun _ _ => rfl) a last c

theorem beginJob_nvm (j : StoreJob) (c : Chip) : (beginJob j c).nvm = { c.nvm with cur := some j } := by
  simp only [beginJob]
  split
  · exact dropRecord_nvm _ _ _
  · rfl

/-- A free store with no writer waiting takes the writer that asks. -/
theorem enqueueJob_cur {j : StoreJob} {c : Chip} (hc : c.nvm.cur = none) (hw : c.nvm.waiting = []) : (enqueueJob j c).nvm.cur = some j := by
  have hnext : nextJob (modNvm (fun n => { n with waiting := n.waiting ++ [j] }) c).nvm.waiting = some j := by
    simp only [modNvm, hw, List.nil_append]
    rfl
  have hcur : (modNvm (fun n => { n with waiting := n.waiting ++ [j] }) c).nvm.cur = none := hc
  simp only [enqueueJob, serveStore, hcur, hnext, beginJob_nvm]

theorem refuseStore_rd {b : Nat} (c : Chip) (h : b ≠ F.NVS_STAT ∧ b ≠ 0x10) : (refuseStore c).rd b = c.rd b := by
  rw [refuseStore, Chip.evStore, Chip.rd_evt_ne _ _ _ h.2, Chip.rd_raise_ne _ _ h.1]

theorem refuseStore_get {f : Fld} (c : Chip) (h : f.addr ≠ F.NVS_STAT ∧ f.addr ≠ 0x10) : (refuseStore c).get f = c.get f := by
  rw [Chip.get, refuseStore_rd c h, Chip.get]

theorem refuseStore_inhib (c : Chip) : (refuseStore c).is F.NVS_STAT_INHIB = true := by
  rw [refuseStore, Chip.evStore, Chip.is, Chip.get_evt_ne _ _ _ _ (by decide)]
  exact Chip.is_raise_same _ _ rfl (by decide)

/-! ### Samples (R617, R618) -/

/-- What a sample leaves of the registers of energy, and their count. -/
def energyView (c : Chip) : Nat × Nat × Nat × Nat × Nat × Word := (c.meter.eimp, c.meter.rimp, c.meter.eexp, c.meter.rexp, c.meter.count, c.meter.lastNwt)

/-- The power of a sample under the calibration in force (R618). -/
def samplePower (c : Chip) (x0 x1 : Int) : Rat :=
  creepPower c (correctedCode c 0 (satCode x0) * calCoef c 0 * (correctedCode c 1 (satCode x1) * calCoef c 1))

/-- The modulators' counts of saturated samples in a row, after a sample. -/
def satCounted (xs : List Int) (c : Chip) : Chip := modMeter (fun m => { m with satRun := List.zipWith (fun x n => if isSat x then n + 1 else 0) xs m.satRun }) c

theorem satCounted_below {xs : List Int} {c : Chip} (h : ∀ k, c.meter.satRun.getD k 0 < 3999) (k : Nat) : (satCounted xs c).meter.satRun.getD k 0 < 4000 := by
  have hk := h k
  simp only [satCounted, modMeter, List.getD_eq_getElem?_getD, List.getElem?_zipWith] at hk ⊢
  cases xs[k]? with
  | none => exact Nat.succ_pos _
  | some x =>
    cases hn : c.meter.satRun[k]? with
    | none => exact Nat.succ_pos _
    | some n =>
      rw [hn] at hk
      simp only [Option.getD_some] at hk ⊢
      split <;> omega

theorem countSaturated_of_few {xs : List Int} {c : Chip} (h : ∀ k, c.meter.satRun.getD k 0 < 3999) : countSaturated xs c = satCounted xs c := by
  have hpass (k : Nat) (d : Chip) (hd : d = satCounted xs c) :
      (if 4000 ≤ d.meter.satRun.getD k 0 then modulatorFault k d else d) = satCounted xs c := by
    rw [hd, if_neg (Nat.not_le.mpr (satCounted_below h k))]
  exact Chip.forN_preserves (P := fun d => d = satCounted xs c) hpass 4 _ rfl

/-- A saturated sample marks the session and the partition. -/
def satMarked (x0 x1 : Int) (c : Chip) : Chip :=
  if isSat x0 || isSat x1 then (sessionFlag (fun s => { s with ovr := true }) c).raise F.MTR_STAT_OVR else c

/-- The energy of a sample goes to the register of its sign. -/
def energyTaken (p : Rat) (c : Chip) : Chip :=
  let d := if p < 0 then addEnergy false (sampleEnergy p) c else if 0 < p then addEnergy true (sampleEnergy p) c else c
  modMeter (fun m => { m with lastNwt := d.now }) d

/-- A sample is accumulated, or leaves a gap in an open session. -/
def sampleTaken (p : Rat) (c : Chip) : Chip :=
  if accumulates c then energyTaken p c
  else if sessState c = 1 then (sessionFlag (fun s => { s with gap := true }) c).raise F.MTR_STAT_GAP
  else c

/-- What a sample boundary takes: the open values with their snapshot, the close values, a calibration. -/
def boundaryTaken (c : Chip) : Chip :=
  let c := if c.meter.openDue && canStore c then writeSnap false (takeOpen c) else takeOpen c
  takeCal (takeClose c.now c)

/-- The instant of a sample's boundary is kept. -/
def boundaryKept (c : Chip) : Chip := modMeter (fun m => { m with boundary := c.now }) c

/-- A sample enters the sums of the present second. -/
def sampleSummed (x0 x1 x2 x3 : Int) (c : Chip) : Chip :=
  sumSample (correctedCode c 0 (satCode x0) * calCoef c 0) (correctedCode c 1 (satCode x1) * calCoef c 1) (samplePower c x0 x1)
    (correctedCode c 2 (satCode x2) * calCoef c 2 * (correctedCode c 3 (satCode x3) * calCoef c 3)) ([x0, x1, x2, x3].map satCode) c

/-- A sample after the count of saturated ones. -/
def sampleCounted (x0 x1 x2 x3 : Int) (c : Chip) : Chip :=
  boundaryTaken (sampleTaken (samplePower c x0 x1) (satMarked x0 x1 (sampleSummed x0 x1 x2 x3 c)))

theorem meterSample_eq {x0 x1 x2 x3 : Int} {c : Chip} (hm : hasMeter c = true) (hr : c.mode ≠ .reset) :
    meterSample x0 x1 x2 x3 c = sampleCounted x0 x1 x2 x3 (countSaturated [x0, x1, x2, x3] (boundaryKept c)) := by
  have hgo : ¬ ((!hasMeter c) = true ∨ c.mode = .reset) := by
    rintro (h | h)
    · rw [hm] at h
      exact Bool.noConfusion h
    · exact hr h
  exact if_neg hgo

theorem sessionFlag_keeps {α : Type} (p : Chip → α) (f : Session → Session) (h : ∀ c (g : Session → Session), p (modMeter (fun m => { m with session := g m.session }) c) = p c)
    (c : Chip) : p (sessionFlag f c) = p c := by
  unfold sessionFlag
  split
  · exact h c f
  · rfl

theorem committedIn_meter (base : Nat) (c : Chip) : (committedIn base c).meter = c.meter := Chip.occur_keeps Chip.meter (fun _ _ => rfl) _ _ _ _

theorem writeSnap_energy (pfail : Bool) (c : Chip) : energyView (writeSnap pfail c) = energyView c := by
  simp only [writeSnap, energyView, committedIn_meter]
  rfl

theorem takeOpen_energy (c : Chip) : energyView (takeOpen c) = energyView c := by
  unfold takeOpen
  split <;> rfl

theorem takeClose_energy (nwt : Word) (c : Chip) : energyView (takeClose nwt c) = energyView c := by
  unfold takeClose
  split
  · split <;> rfl
  · rfl

theorem takeCal_energy (c : Chip) : energyView (takeCal c) = energyView c := by
  unfold takeCal
  split <;> rfl

theorem boundaryTaken_energy (c : Chip) : energyView (boundaryTaken c) = energyView c := by
  rw [boundaryTaken, takeCal_energy, takeClose_energy]
  split
  · rw [writeSnap_energy, takeOpen_energy]
  · exact takeOpen_energy c

theorem satMarked_energy (x0 x1 : Int) (c : Chip) : energyView (satMarked x0 x1 c) = energyView c := by
  unfold satMarked
  split
  · exact sessionFlag_keeps energyView _ (fun _ _ => rfl) c
  · rfl

/-- Whether samples are accumulated does not depend on the flag of a saturated one. -/
theorem satMarked_accumulates (x0 x1 : Int) (c : Chip) : accumulates (satMarked x0 x1 c) = accumulates c := by
  have hraise (d : Chip) : accumulates (d.raise F.MTR_STAT_OVR) = accumulates d := by
    have hget {f : Fld} (hf : f.addr ≠ F.MTR_STAT ∨ 7 ≤ f.lo ∨ f.lo + f.width ≤ 6) : (d.raise F.MTR_STAT_OVR).get f = d.get f := Chip.get_raise_ne _ _ _ hf
    have hfault (k : Nat) : modFault (d.raise F.MTR_STAT_OVR) k = modFault d k :=
      congrArg (· == 1) (hget (f := ⟨F.MTR_STAT, 8 + k, 1⟩) (.inr (.inl (by simp only; omega))))
    have hmode : (d.raise F.MTR_STAT_OVR).mode = d.mode := by rw [Chip.mode, hget (.inl (by decide)), Chip.mode]
    simp only [accumulates, hfault, hmode, Chip.is, hget (f := F.MTR_STAT_CALOK) (.inr (.inr (by decide))), hget (f := F.CLK_STAT_REFACT) (.inl (by decide)),
      hget (f := F.CLK_STAT_TRIMOK) (.inl (by decide))]
    rfl
  unfold satMarked
  split
  · exact (hraise _).trans (sessionFlag_keeps accumulates _ (fun _ _ => rfl) c)
  · rfl

/-- Nor does it depend on what the partition counts. -/
theorem accumulates_modMeter {f : Meter → Meter} (c : Chip) (h : (f c.meter).tripped = c.meter.tripped) : accumulates (modMeter f c) = accumulates c := by
  have htripped : (modMeter f c).meter.tripped = c.meter.tripped := h
  simp only [accumulates, htripped]
  rfl

theorem satMarked_now (x0 x1 : Int) (c : Chip) : (satMarked x0 x1 c).now = c.now := by
  unfold satMarked
  split
  · exact sessionFlag_keeps Chip.now _ (fun _ _ => rfl) c
  · rfl

/-- The registers of energy after a sample of a power at an instant. -/
def energyAfter (p : Rat) (now : Word) : Nat × Nat × Nat × Nat × Nat × Word → Nat × Nat × Nat × Nat × Nat × Word
  | (eimp, rimp, eexp, rexp, count, _) =>
    if p < 0 then (eimp, rimp, (eexp + (rexp + sampleEnergy p) / 2 ^ 32) % 2 ^ 64, (rexp + sampleEnergy p) % 2 ^ 32, count, now)
    else if 0 < p then ((eimp + (rimp + sampleEnergy p) / 2 ^ 32) % 2 ^ 64, (rimp + sampleEnergy p) % 2 ^ 32, eexp, rexp, count, now)
    else (eimp, rimp, eexp, rexp, count, now)

theorem energyTaken_energy (p : Rat) (c : Chip) : energyView (energyTaken p c) = energyAfter p c.now (energyView c) := by
  simp only [energyTaken, energyAfter, energyView]
  split_ifs <;> rfl

/-- A sample of an accumulating meter, no modulator of which has saturated for long. -/
theorem meterSample_energy {x0 x1 x2 x3 : Int} {c : Chip} (hm : hasMeter c = true) (hr : c.mode ≠ .reset) (ha : accumulates c = true)
    (hs : ∀ k, c.meter.satRun.getD k 0 < 3999) : energyView (meterSample x0 x1 x2 x3 c) =
    energyAfter (samplePower c x0 x1) c.now (c.meter.eimp, c.meter.rimp, c.meter.eexp, c.meter.rexp, c.meter.count + 1, c.meter.lastNwt) := by
  rw [meterSample_eq hm hr, countSaturated_of_few (c := boundaryKept c) hs, sampleCounted, boundaryTaken_energy, sampleTaken]
  have hacc : accumulates (satMarked x0 x1 (sampleSummed x0 x1 x2 x3 (satCounted [x0, x1, x2, x3] (boundaryKept c)))) = true :=
    (satMarked_accumulates x0 x1 _).trans ((accumulates_modMeter _ rfl).trans ((accumulates_modMeter _ rfl).trans ((accumulates_modMeter c rfl).trans ha)))
  rw [if_pos hacc, energyTaken_energy, satMarked_energy, satMarked_now]
  rfl

/-! ### Seconds (R620) -/

/-- The three words of the means, and the raw means before them. -/
def meansShown (m : Meter) (n : Rat) (c : Chip) : Chip :=
  (((c.forN 4 (fun k c => c.seti (F.MTR_MD_RAW k) (roundRat (((m.sumX.getD k 0 : Int) : Rat) / n)))).wr (F.MTR_MEAN 0) (mean16 (m.sumV / n))).wr (F.MTR_MEAN 1)
    (mean16 (m.sumI / n))).wr (F.MTR_MEAN 2) (mean16 (m.sumP / n))

/-- The mean of the redundant pair, where there is one. -/
def redundantShown (m : Meter) (n : Rat) (c : Chip) : Chip :=
  if (calVal c 0x100004).field 39 1 == 1 then c.wr (F.MTR_MEAN 3) (mean16 (m.sumR / n)) else c

/-- The sums of a second start again. -/
def sumsCleared (c : Chip) : Chip := modMeter (fun m => { m with sumV := 0, sumI := 0, sumP := 0, sumR := 0, sumX := [0, 0, 0, 0], count := 0 }) c

theorem meterSecond_of_full {c : Chip} (hm : hasMeter c = true) (hr : c.mode ≠ .reset) (hn : 4000 ≤ c.meter.count) :
    meterSecond c = comparePairs (c.meter.sumP / ((c.meter.count : Nat) : Rat)) (c.meter.sumR / ((c.meter.count : Nat) : Rat))
      (sumsCleared (redundantShown c.meter ((c.meter.count : Nat) : Rat) (meansShown c.meter ((c.meter.count : Nat) : Rat) c))) := by
  have hgo : ¬ ((!hasMeter c) = true ∨ c.mode = .reset ∨ c.meter.count < 4000) := by
    rintro (h | h | h)
    · rw [hm] at h
      exact Bool.noConfusion h
    · exact hr h
    · omega
  exact if_neg hgo

/-- The count of comparisons that were off, and what it means for the partition and the session. -/
def pairsCounted (limit n : Nat) (c : Chip) : Chip :=
  let c := modMeter (fun m => { m with misses := n }) c
  if limit ≤ n then
    sessionFlag (fun s => { s with rdiff := true }) (if c.is F.MTR_STAT_RDIFF ∧ n ≠ limit then c else (c.raise F.MTR_STAT_RDIFF).evMeter)
  else c

theorem comparePairs_cases (a b : Rat) (c : Chip) : comparePairs a b c = c ∨ ∃ limit n : Nat, comparePairs a b c = pairsCounted limit n c := by
  by_cases h : (calVal c 0x100004).field 39 1 = 0 ∨ modFault c 2 ∨ modFault c 3
  · exact .inl (if_pos h)
  · exact .inr ⟨_, _, if_neg h⟩

theorem comparePairs_keeps {α : Type} (p : Chip → α) (hmeter : ∀ c n, p (modMeter (fun m => { m with misses := n }) c) = p c)
    (hsess : ∀ c (g : Session → Session), p (modMeter (fun m => { m with session := g m.session }) c) = p c) (hrd : ∀ c, p (c.raise F.MTR_STAT_RDIFF).evMeter = p c)
    (a b : Rat) (c : Chip) : p (comparePairs a b c) = p c := by
  rcases comparePairs_cases a b c with h | ⟨limit, n, h⟩
  · rw [h]
  · rw [h, pairsCounted]
    split
    · refine (sessionFlag_keeps p _ hsess _).trans ?_
      split
      · exact hmeter c n
      · exact (hrd _).trans (hmeter c n)
    · exact hmeter c n

theorem comparePairs_rd {w : Nat} (a b : Rat) (c : Chip) (h : w ≠ F.MTR_STAT ∧ w ≠ 0x13) : (comparePairs a b c).rd w = c.rd w := by
  refine comparePairs_keeps (Chip.rd · w) (fun _ _ => rfl) (fun _ _ => rfl) (fun d => ?_) a b c
  rw [Chip.evMeter, Chip.rd_evt_ne _ _ _ h.2, Chip.rd_raise_ne _ _ h.1]

theorem comparePairs_count (a b : Rat) (c : Chip) : (comparePairs a b c).meter.count = c.meter.count :=
  comparePairs_keeps (fun d => d.meter.count) (fun _ _ => rfl) (fun _ _ => rfl) (fun _ => rfl) a b c

theorem redundantShown_rd {w : Nat} (m : Meter) (n : Rat) (c : Chip) (h : w ≠ F.MTR_MEAN 3) : (redundantShown m n c).rd w = c.rd w := by
  unfold redundantShown
  split
  · exact Chip.rd_wr_ne _ _ h
  · rfl

theorem meterSecond_shows {c : Chip} (hm : hasMeter c = true) (hr : c.mode ≠ .reset) (hn : 4000 ≤ c.meter.count) :
    (meterSecond c).meter.count = 0 ∧ (meterSecond c).rd (F.MTR_MEAN 0) = mean16 (c.meter.sumV / ((c.meter.count : Nat) : Rat)) ∧
      (meterSecond c).rd (F.MTR_MEAN 1) = mean16 (c.meter.sumI / ((c.meter.count : Nat) : Rat)) ∧
      (meterSecond c).rd (F.MTR_MEAN 2) = mean16 (c.meter.sumP / ((c.meter.count : Nat) : Rat)) := by
  have hrd {k : Nat} (hk : k < 3) : (meterSecond c).rd (F.MTR_MEAN k) = (meansShown c.meter ((c.meter.count : Nat) : Rat) c).rd (F.MTR_MEAN k) := by
    rw [meterSecond_of_full hm hr hn, comparePairs_rd _ _ _ (by simp only [F.MTR_MEAN, F.MTR_STAT]; omega), sumsCleared, modMeter_rd,
      redundantShown_rd _ _ _ (by simp only [F.MTR_MEAN]; omega)]
  refine ⟨?_, ?_, ?_, ?_⟩
  · rw [meterSecond_of_full hm hr hn, comparePairs_count]
    rfl
  · rw [hrd (by decide), meansShown, Chip.rd_wr_ne _ _ (by decide), Chip.rd_wr_ne _ _ (by decide), Chip.rd_wr_same]
  · rw [hrd (by decide), meansShown, Chip.rd_wr_ne _ _ (by decide), Chip.rd_wr_same]
  · rw [hrd (by decide), meansShown, Chip.rd_wr_same]

/-! ### Checkpoints and power failures (R622, R623) -/

theorem checkpoint_of_running {c : Chip} (hm : hasMeter c = true) (hr : c.mode ≠ .reset) (ht : c.meter.tripped = false) :
    checkpoint c = if canStore c then enqueueJob (.snapshot false) c else refuseStore c := by
  refine if_neg ?_
  rintro (h | h | h)
  · rw [hm] at h
    exact Bool.noConfusion h
  · exact hr h
  · rw [ht] at h
    exact Bool.noConfusion h

/-- The detector has tripped, told and captured. -/
def powerFailed (c : Chip) : Chip := (modMeter (fun m => { m with tripped := true }) c).evPowerFail.captureAt 0x19 true

/-- The writes of the detector's trip: one in progress is abandoned, and no checkpoint waits. -/
def powerFailCleared (c : Chip) : Chip := preempt (modNvm (fun n => { n with waiting := n.waiting.filter (· != .snapshot false) }) (powerFailed c))

theorem powerFailTrip_of_running {c : Chip} (hm : hasMeter c = true) (hr : c.mode ≠ .reset) (ht : c.meter.tripped = false) :
    powerFailTrip c = if canStore (powerFailCleared c) then enqueueJob (.snapshot true) (powerFailCleared c)
      else serveStore (refuseStore ((powerFailCleared c).raise F.MTR_STAT_SNAPFAIL)) := by
  refine if_neg ?_
  rintro (h | h | h)
  · rw [hm] at h
    exact Bool.noConfusion h
  · exact hr h
  · rw [ht] at h
    exact Bool.noConfusion h

theorem captureUnit_meter (src : Nat) (r : Bool) (n : Nat) (c : Chip) : (captureUnit src r n c).meter = c.meter := by
  simp only [captureUnit]
  split_ifs <;> rfl

theorem captureUnit_nvm (src : Nat) (r : Bool) (n : Nat) (c : Chip) : (captureUnit src r n c).nvm = c.nvm := by
  simp only [captureUnit]
  split_ifs <;> rfl

theorem captureUnit_canStore {n : Nat} (src : Nat) (r : Bool) (c : Chip) (hn : n < 16) : canStore (captureUnit src r n c) = canStore c := by
  have hraise (lo : Nat) (d : Chip) : canStore (d.raise ⟨0x20040 + 2 * n, lo, 1⟩) = canStore d :=
    congrArg (· == 1) (Chip.get_raise_ne _ _ _ (.inl (by simp only [F.THM_STAT_STWIN]; omega)))
  have hwr (d : Chip) : canStore (d.wr (F.NWT_NCAPn_VAL n) d.now) = canStore d :=
    congrArg (· == 1) (Chip.get_wr_ne _ _ _ _ (by simp only [F.THM_STAT_STWIN, F.NWT_NCAPn_VAL]; omega))
  simp only [captureUnit]
  split_ifs <;> simp only [F.NWT_NCAPn_CTL_OVR, F.NWT_NCAPn_CTL_VALID, hraise, hwr]

/-- What a power failure's trip is judged by afterwards. -/
def powerView (c : Chip) : Bool × Meter := (canStore c, c.meter)

theorem powerView_of_rd {c d : Chip} (hrd : d.rd F.THM_STAT = c.rd F.THM_STAT) (hm : d.meter = c.meter) : powerView d = powerView c := by
  have hcan : canStore d = canStore c := congrArg (fun w : Word => w.field _ _ == 1) hrd
  rw [powerView, hcan, hm, powerView]

theorem pdone_meter (op tag status detail : Nat) (c : Chip) : (pdone op tag status detail c).meter = c.meter := by
  simp only [pdone]
  split_ifs <;> rfl

theorem powerView_pdone (op tag status detail : Nat) (c : Chip) : powerView (pdone op tag status detail c) = powerView c :=
  Prod.ext (congrArg (· == 1) (pdone_get op tag status detail c (f := F.THM_STAT_STWIN) (by decide))) (pdone_meter op tag status detail c)

theorem powerView_endHostStore (status : Nat) (c : Chip) : powerView (endHostStore status c) = powerView c := by
  have hset (f : Fld) (v : Nat) (d : Chip) (h : f.addr ≠ F.THM_STAT) : powerView (d.set f v) = powerView d := powerView_of_rd (Chip.rd_set_ne d f v h.symm) rfl
  have hevt (d : Chip) : powerView d.evStore = powerView d := powerView_of_rd (Chip.rd_evt_ne d 0 10 (by decide)) rfl
  unfold endHostStore
  split
  · rw [powerView_pdone, hevt, hset _ _ _ (by decide), hset _ _ _ (by decide), hset _ _ _ (by decide)]
    rfl
  · rfl

theorem storeWrite_keeps {α : Type} (p : Chip → α) (hstore : ∀ (c : Chip) (m : Mem), p { c with store := m } = p c) (a : Nat) (ws : List Word) (c : Chip) :
    p (storeWrite a ws c) = p c := by
  unfold storeWrite
  exact foldl_inv (fun x : Nat × Chip => p x.2) (fun (x : Nat × Chip) w => (x.1 + 1, x.2.storeWr x.1 w)) (fun x w => hstore x.2 _) ws (a, c)

theorem powerView_abandonJob (j : StoreJob) (c : Chip) : powerView (abandonJob j c) = powerView c := by
  have hcount : powerView (c.countSat F.NVS_CNT_FAILCNT 1) = powerView c := powerView_of_rd (Chip.rd_wr_ne _ _ (by decide)) rfl
  simp only [abandonJob]
  split
  · exact (storeWrite_keeps powerView (fun _ _ => rfl) _ _ _).trans hcount
  · exact hcount

theorem powerView_preempt (c : Chip) : powerView (preempt c) = powerView c := by
  have htold (d : Chip) : powerView (d.raise F.NVS_STAT_PREEMPT).evStore = powerView d :=
    powerView_of_rd ((Chip.rd_evt_ne _ 0 10 (by decide)).trans (Chip.rd_raise_ne d _ (by decide))) rfl
  unfold preempt
  split
  · rfl
  · rfl
  · next j _ _ =>
    have habandoned (d : Chip) (hd : d = modNvm (fun n => { n with cur := none }) (abandonJob j c)) :
        powerView (d.raise F.NVS_STAT_PREEMPT).evStore = powerView c := by
      rw [htold, hd]
      exact powerView_abandonJob j c
    split
    · exact (powerView_endHostStore _ _).trans (habandoned _ rfl)
    · exact habandoned _ rfl

theorem powerFailed_view (c : Chip) : powerView (powerFailed c) = (canStore c, { c.meter with tripped := true }) := by
  have hcapture (d : Chip) : powerView (d.captureAt 0x19 true) = powerView d :=
    Chip.forN_keeps_below powerView (fun n hn e => Prod.ext (captureUnit_canStore 0x19 true e hn) (captureUnit_meter 0x19 true n e)) d
  rw [powerFailed, hcapture]
  exact powerView_of_rd (c := modMeter (fun m => { m with tripped := true }) c) (Chip.rd_evt_ne _ 3 9 (by decide)) rfl

theorem powerFailCleared_view (c : Chip) : powerView (powerFailCleared c) = (canStore c, { c.meter with tripped := true }) :=
  (powerView_preempt _).trans (powerFailed_view c)

theorem powerFailed_nvm (c : Chip) : (powerFailed c).nvm = c.nvm := by
  have hcapture (d : Chip) : (d.captureAt 0x19 true).nvm = d.nvm := Chip.forN_keeps Chip.nvm (captureUnit_nvm 0x19 true) 16 d
  rw [powerFailed, hcapture]
  rfl

/-- With no write in progress and none waiting, the trip clears nothing. -/
theorem powerFailCleared_nvm {c : Chip} (hc : c.nvm.cur = none) (hw : c.nvm.waiting = []) :
    (powerFailCleared c).nvm.cur = none ∧ (powerFailCleared c).nvm.waiting = [] := by
  have hcur : (modNvm (fun n => { n with waiting := n.waiting.filter (· != .snapshot false) }) (powerFailed c)).nvm.cur = none := by
    simp only [modNvm, powerFailed_nvm, hc]
  have heq : powerFailCleared c = modNvm (fun n => { n with waiting := n.waiting.filter (· != .snapshot false) }) (powerFailed c) := by
    simp only [powerFailCleared, preempt, hcur]
  rw [heq]
  exact ⟨hcur, by simp only [modNvm, powerFailed_nvm, hw, List.filter_nil]⟩

theorem powerFailTrip_shows {c : Chip} (hm : hasMeter c = true) (hr : c.mode ≠ .reset) (ht : c.meter.tripped = false) :
    (powerFailTrip c).meter.tripped = true ∧
      (canStore c = false → (powerFailTrip c).is F.MTR_STAT_SNAPFAIL = true ∧ (powerFailTrip c).is F.NVS_STAT_INHIB = true) ∧
      (canStore c = true → c.nvm.cur = none → c.nvm.waiting = [] → (powerFailTrip c).nvm.cur = some (.snapshot true)) := by
  obtain ⟨hcan, hmeter⟩ := Prod.mk.inj (powerFailCleared_view c)
  rw [powerFailTrip_of_running hm hr ht, hcan]
  refine ⟨?_, fun hs => ?_, fun hs hc hw => ?_⟩
  · split
    · rw [enqueueJob_meter, hmeter]
    · rw [serveStore_meter]
      exact congrArg Meter.tripped hmeter
  · rw [if_neg (Bool.eq_false_iff.mp hs)]
    refine ⟨?_, ?_⟩
    · rw [Chip.is, Chip.get, serveStore_rd, refuseStore_rd _ (by decide)]
      exact Chip.is_raise_same _ F.MTR_STAT_SNAPFAIL rfl (by decide)
    · rw [Chip.is, Chip.get, serveStore_rd]
      exact refuseStore_inhib _
  · rw [if_pos hs]
    obtain ⟨hcur, hwait⟩ := powerFailCleared_nvm hc hw
    exact enqueueJob_cur hcur hwait

/-- The writers abandoned for the detector's snapshot wait again. -/
def powerFailEnded (c : Chip) : Chip :=
  serveStore (modNvm (fun n => { n with waiting := n.waiting ++ n.again, again := [] }) (modMeter (fun m => { m with tripped := false }) c))

theorem powerFailRelease_of_tripped {c : Chip} (h : c.meter.tripped = true) : powerFailRelease c =
    if sessState (powerFailEnded c) = 1 then (sessionFlag (fun s => { s with gap := true }) (powerFailEnded c)).raise F.MTR_STAT_GAP else powerFailEnded c := if_pos h

theorem powerFailEnded_sess (c : Chip) : sessState (powerFailEnded c) = sessState c :=
  serveStore_keeps sessState (fun _ _ => rfl) (fun _ _ => rfl) _

theorem powerFailRelease_shows {c : Chip} (h : c.meter.tripped = true) :
    (powerFailRelease c).meter.tripped = false ∧ (sessState c = 1 → (powerFailRelease c).is F.MTR_STAT_GAP = true) := by
  have htripped : (powerFailEnded c).meter.tripped = false := by
    rw [powerFailEnded, serveStore_meter]
    rfl
  rw [powerFailRelease_of_tripped h, powerFailEnded_sess]
  refine ⟨?_, fun hs => ?_⟩
  · split
    · exact (sessionFlag_keeps (fun d => d.meter.tripped) _ (fun _ _ => rfl) _).trans htripped
    · exact htripped
  · rw [if_pos hs]
    exact Chip.is_raise_same _ _ rfl (by decide)

/-! ### Modulator faults (R621) -/

/-- The flag of a modulator's fault. -/
def faultMarked (k : Nat) (c : Chip) : Chip := c.setBit F.MTR_STAT_MFLT k true

/-- The fault of a modulator is logged, or its entry refused. -/
def faultLogged (k : Nat) (c : Chip) : Chip := if canStore c then mtrLog 0x0A k c else refuseStore c

theorem modulatorFault_of_new {k : Nat} {c : Chip} (hm : hasMeter c = true) (hr : c.mode ≠ .reset) (h : modFault c k = false) :
    modulatorFault k c = if k < 2 then beginClose 5 false none (faultLogged k (faultMarked k c)).evMeter else faultMarked k c := by
  refine if_neg ?_
  rintro (h' | h' | h')
  · rw [hm] at h'
    exact Bool.noConfusion h'
  · exact hr h'
  · rw [h] at h'
    exact Bool.noConfusion h'

theorem faultLogged_stat (k : Nat) (c : Chip) : (faultLogged k c).rd F.MTR_STAT = c.rd F.MTR_STAT := by
  unfold faultLogged
  split
  · rw [mtrLog, committedIn_rd, mtrLogAdd_rd]
  · exact refuseStore_rd c (by decide)

theorem modulatorFault_flags {k : Nat} {c : Chip} (hk : k < 4) (hm : hasMeter c = true) (hr : c.mode ≠ .reset) : modFault (modulatorFault k c) k = true := by
  cases h : modFault c k with
  | true => rwa [show modulatorFault k c = c from if_pos (.inr (.inr h))]
  | false =>
    have hmarked : modFault (faultMarked k c) k = true := Chip.getBit_setBit_same c F.MTR_STAT_MFLT true (by simp only [F.MTR_STAT_MFLT]; omega)
    rw [modulatorFault_of_new hm hr h]
    split
    · have hstat : (beginClose 5 false none (faultLogged k (faultMarked k c)).evMeter).rd F.MTR_STAT = (faultMarked k c).rd F.MTR_STAT := by
        rw [beginClose_rd _ _ _ _ (by decide), Chip.evMeter, Chip.rd_evt_ne _ _ _ (by decide), faultLogged_stat]
      exact (congrArg (fun w : Word => w.field (F.MTR_STAT_MFLT.lo + k) 1 == 1) hstat).trans hmarked
    · exact hmarked

/-! ### The record of a session (R629) -/

/-- The record of a session that closes with the words given. -/
def sessionRecord (w : List Word) : List Word := w ++ (Config.ecdsaSign w ++ List.replicate 11 0).take 11

/-- A session's record is kept under its number. -/
def recordKept (w : List Word) (c : Chip) : Chip :=
  modMeter (fun m => { m with records := ((c.get F.MTR_SESS_SESSNO, sessionRecord w) :: m.records).take 2048, closing := none }) c

theorem commitSession_commits {c : Chip} {x : Closing} {w : List Word} (hx : c.meter.closing = some x) (hw : x.words = some w) (hst : sessState c = 2)
    (hs : canStore c = true) :
    commitSession c = pdoneFor x.pend 0 0 (writeSnap false (committedIn 0x60 (setSess 0 ((recordKept w c).set F.MTR_SESS_LASTEND x.reason)))) := by
  simp only [commitSession, hx, hw, hst, hs, ne_eq, not_true, Bool.not_true, Bool.false_eq_true, if_false]
  rfl

theorem commitSession_refused {c : Chip} {x : Closing} {w : List Word} (hx : c.meter.closing = some x) (hw : x.words = some w) (hst : sessState c = 2)
    (hs : canStore c = false) : commitSession c = refuseStore c := by
  simp only [commitSession, hx, hw, hst, hs, ne_eq, not_true, Bool.not_false, if_true, if_false]

theorem pdoneFor_get (r : Option PendReq) (status detail : Nat) (c : Chip) {f : Fld} (h : f.addr ≠ 0x10 ∧ f.addr ≠ 0x19) :
    (pdoneFor r status detail c).get f = c.get f := by
  cases r with
  | none => rfl
  | some q => exact pdone_get q.op q.tag status detail c h

theorem pdoneFor_meter (r : Option PendReq) (status detail : Nat) (c : Chip) : (pdoneFor r status detail c).meter = c.meter := by
  cases r with
  | none => rfl
  | some q => exact pdone_meter q.op q.tag status detail c

theorem writeSnap_rd (pfail : Bool) (c : Chip) (b : Nat) : (writeSnap pfail c).rd b = c.rd b := by
  simp only [writeSnap, committedIn_rd, modMeter_rd]

/-- What a snapshot leaves of the partition: all but its slots. -/
theorem writeSnap_keeps {α : Type} (p : Meter → α) (h : ∀ m l, p { m with slots := l } = p m) (pfail : Bool) (c : Chip) : p (writeSnap pfail c).meter = p c.meter := by
  simp only [writeSnap, committedIn_meter, modMeter]
  exact h _ _

section
variable {c : Chip} {x : Closing} {w : List Word} (hx : c.meter.closing = some x) (hw : x.words = some w) (hst : sessState c = 2)
include hx hw hst

theorem commitSession_session (hs : canStore c = true) : sessState (commitSession c) = 0 ∧ (commitSession c).get F.MTR_SESS_LASTEND = x.reason % 256 := by
  have hget {f : Fld} (hf : f.addr = F.MTR_SESS) :
      (commitSession c).get f = (setSess 0 ((recordKept w c).set F.MTR_SESS_LASTEND x.reason)).get f := by
    rw [commitSession_commits hx hw hst hs, pdoneFor_get _ _ _ _ (by rw [hf]; decide), Chip.get, writeSnap_rd, committedIn_rd, Chip.get]
  refine ⟨(hget rfl).trans (setSess_state _ (by decide)), ?_⟩
  rw [hget rfl, setSess_get _ (by decide) (.inr (by decide)), Chip.get_set_same _ _ _ (by decide)]
  rfl

theorem commitSession_meter (hs : canStore c = true) :
    (commitSession c).meter.closing = none ∧ (commitSession c).meter.records.head?.map (·.1) = some (c.get F.MTR_SESS_SESSNO) := by
  have hmeter {α : Type} (p : Meter → α) (h : ∀ m l, p { m with slots := l } = p m) : p (commitSession c).meter = p (recordKept w c).meter := by
    rw [commitSession_commits hx hw hst hs, pdoneFor_meter, writeSnap_keeps p h, committedIn_meter]
    rfl
  exact ⟨hmeter Meter.closing (fun _ _ => rfl), hmeter (fun m => m.records.head?.map (·.1)) (fun _ _ => rfl)⟩

theorem commitSession_waits (hs : canStore c = false) :
    sessState (commitSession c) = 2 ∧ (commitSession c).meter.closing = some x ∧ (commitSession c).is F.NVS_STAT_INHIB = true := by
  rw [commitSession_refused hx hw hst hs]
  exact ⟨(refuseStore_get c (by decide)).trans hst, hx, refuseStore_inhib c⟩

end

/-! ### Seals (R102, R103) -/

theorem commitCal_rd {b : Nat} (event : Nat) (c : Chip) (h : b ≠ F.MTR_CALID ∧ b ≠ F.MTR_CALCRC) : (commitCal event c).rd b = c.rd b := by
  simp only [commitCal]
  split
  · rw [mtrLog, committedIn_rd, mtrLogAdd_rd]
  · rw [Chip.rd_set_ne _ _ _ h.2, Chip.rd_set_ne _ _ _ h.1, modMeter_rd, mtrLog, committedIn_rd, mtrLogAdd_rd]
    exact Chip.forEach_keeps (Chip.rd · b) (fun a d => mtrLogAdd_rd _ b d) _ c

theorem dropCal_rd {b : Nat} (c : Chip) (h : b < 0x100000) : (dropCal c).rd b = c.rd b := by
  refine Chip.forEach_keeps_of_mem (Chip.rd · b) (fun a ha d => Chip.rd_wr_ne _ _ ?_) c
  have hcal : ∀ a ∈ calWords, 0x100000 ≤ a := by decide
  have := hcal a ha
  omega

/-- A close of the metrology seal leaves the safety seal as it is. -/
theorem closeSeal_mtr_sin (event : Nat) (c : Chip) : sealOpened (closeSeal true event c) false = sealOpened c false := by
  cases h : sealOpened c true with
  | false => rw [closeSeal_of_closed event h]
  | true =>
    have hsin (d : Chip) (hd : d.rd 0x1A = c.rd 0x1A) : sealOpened (d.setb (sealFld true) false).evSealChg false = sealOpened c false := by
      rw [sealOpened_evSealChg, sealOpened, Chip.is, Chip.get_setb_ne _ _ _ _ (by decide)]
      exact congrArg (fun w : Word => w.field _ _ == 1) hd
    simp only [closeSeal, h, Bool.not_true, Bool.false_eq_true, if_false, if_true]
    refine hsin _ ?_
    rw [modSeal_rd]
    split
    · exact commitCal_rd event c (by decide)
    · exact (dropCal_rd _ (by decide)).trans (refuseStore_rd c (by decide))

theorem closeSeal_shut (mtr : Bool) (event : Nat) (c : Chip) : sealOpened (closeSeal mtr event c) mtr = false := by
  cases h : sealOpened c mtr with
  | false => rw [closeSeal_of_closed event h, h]
  | true => exact (closeSeal_closes event h).1

theorem closeSeals_shut (event : Nat) (c : Chip) (mtr : Bool) : sealOpened (closeSeals event c) mtr = false := by
  cases mtr with
  | false => rw [closeSeals, closeSeal_mtr_sin, closeSeal_shut]
  | true => exact closeSeal_shut true event _

theorem sealTimeout_shut (c : Chip) (mtr : Bool) : sealOpened (sealTimeout c) mtr = false := by
  unfold sealTimeout
  split
  · exact (congrArg (· == 1) (Chip.get_evt_ne _ 0 5 (sealFld mtr) (by rw [sealFld_addr]; decide))).trans (closeSeals_shut 5 c mtr)
  · next h =>
    obtain ⟨hsin, hmtr⟩ := Bool.or_eq_false_iff.mp (Bool.eq_false_iff.mpr h)
    cases mtr with
    | false => exact hsin
    | true => exact hmtr

theorem lockoutEnd_sin (c : Chip) : (lockoutEnd false c).is F.DEV_SEAL_SINLOCK = false ∧ (lockoutEnd false c).safe.sealLog.lockEnd = none := by
  refine ⟨?_, rfl⟩
  rw [lockoutEnd, showSeals, Chip.is, Chip.get_setb_ne _ _ _ _ (by decide)]
  exact Chip.is_setb_same _ _ _ rfl (by decide)

theorem lockoutEnd_mtr (c : Chip) : (lockoutEnd true c).is F.DEV_SEAL_MTRLOCK = false ∧ (lockoutEnd true c).meter.sealLog.lockEnd = none :=
  ⟨Chip.is_setb_same _ _ _ rfl (by decide), rfl⟩

theorem mode_of_going {c : Chip} (h : going c = true) : c.mode ≠ .reset := by
  simp only [going, Bool.and_eq_true, bne_iff_ne] at h
  exact h.1

/-- Settles O59: each event of the partition by the registers, the words and the writes that it leaves. -/
theorem meterAccumulatesCommitsAndCloses : Obligations.MeterAccumulatesCommitsAndCloses := by
  unfold Obligations.MeterAccumulatesCommitsAndCloses
  have hup {s : State} (h : going s.chip = true) : s.chip.mode ≠ .reset := mode_of_going h
  refine ⟨fun s x0 x1 x2 x3 hg hm => ?_, fun s x0 x1 x2 x3 hg hm ha hs => ⟨_, running_of_going hg (meterSample x0 x1 x2 x3), ?_⟩,
    fun s hg hm hn => ⟨_, running_of_going hg meterSecond, meterSecond_shows hm (hup hg) hn⟩,
    fun s hg hm ht => ⟨_, running_of_going hg checkpoint, fun hs => ?_, fun hs hc hw => ?_⟩,
    fun s hg hm ht => ⟨_, running_of_going hg powerFailTrip, powerFailTrip_shows hm (hup hg) ht⟩,
    fun s hg ht => ⟨_, running_of_going hg powerFailRelease, powerFailRelease_shows ht⟩,
    fun s k hg hm => ⟨_, running_of_going hg (modulatorFault k), modulatorFault_flags k.isLt hm (hup hg)⟩,
    fun s x w hg hx hw hst => ⟨_, running_of_going hg commitSession, running_of_going hg closeCommitRetry, fun hs => ?_, fun hs => commitSession_waits hx hw hst hs⟩,
    fun s hg => ⟨_, running_of_going hg sealTimeout, sealTimeout_shut s.chip false, sealTimeout_shut s.chip true⟩,
    fun s => ⟨⟨_, rfl, lockoutEnd_sin s.chip⟩, _, rfl, lockoutEnd_mtr s.chip⟩⟩
  · exact (running_of_going hg (meterSample x0 x1 x2 x3)).trans (congrArg (fun d => Host.Outcome.next (s.acted d)) (if_pos (.inl (by rw [hm]; rfl))))
  · have hview := meterSample_energy (x0 := x0) (x1 := x1) (x2 := x2) (x3 := x3) hm (hup hg) ha hs
    simp only [energyView, energyAfter] at hview
    rcases lt_trichotomy (samplePower s.chip x0 x1) 0 with hp | hp | hp
    · rw [if_pos hp] at hview
      simp only [Prod.mk.injEq] at hview
      obtain ⟨hei, hri, hee, hre, hcount, hnow⟩ := hview
      exact ⟨hcount, hnow, fun h => absurd hp (not_lt.mpr h.le), fun _ => ⟨hee, hre⟩, fun _ => ⟨hei, hri⟩, fun h => absurd hp h⟩
    · rw [if_neg (by rw [hp]; exact lt_irrefl 0), if_neg (by rw [hp]; exact lt_irrefl 0)] at hview
      simp only [Prod.mk.injEq] at hview
      obtain ⟨hei, hri, hee, hre, hcount, hnow⟩ := hview
      exact ⟨hcount, hnow, fun h => absurd hp h.ne', fun h => absurd hp h.ne, fun _ => ⟨hei, hri⟩, fun _ => ⟨hee, hre⟩⟩
    · rw [if_neg (not_lt.mpr hp.le), if_pos hp] at hview
      simp only [Prod.mk.injEq] at hview
      obtain ⟨hei, hri, hee, hre, hcount, hnow⟩ := hview
      exact ⟨hcount, hnow, fun _ => ⟨hei, hri⟩, fun h => absurd hp (not_lt.mpr h.le), fun h => absurd hp h, fun _ => ⟨hee, hre⟩⟩
  · rw [checkpoint_of_running hm (hup hg) ht, if_neg (Bool.eq_false_iff.mp hs)]
    exact refuseStore_inhib _
  · rw [checkpoint_of_running hm (hup hg) ht, if_pos hs]
    exact enqueueJob_cur hc hw
  · obtain ⟨hidle, hlast⟩ := commitSession_session hx hw hst hs
    obtain ⟨hclosing, hrecord⟩ := commitSession_meter hx hw hst hs
    exact ⟨hidle, hlast, hclosing, hrecord⟩

end Sys2Proof.Machine
end

section
/-! SUPPORT. The proofs of the store, self-test and trace events (20_store_and_self_test, 21_observability). -/

namespace Sys2Proof.Machine

/-! ### Outcomes of pending requests (R98) -/

/-- The fields of an outcome. -/
def pdoneTold (op tag status detail : Nat) (c : Chip) : Chip :=
  (((c.set F.DEV_PDONE_OPCODE op).set F.DEV_PDONE_TAG tag).set F.DEV_PDONE_DETAIL detail).set F.DEV_PDONE_STATUS status

/-- An outcome that was not read is counted as lost. -/
def pdoneCounted (c : Chip) : Chip := if c.ms.pdoneUnread then c.countSat F.DEV_PDONE_LOST 1 else c

theorem pdone_told (op tag status detail : Nat) (c : Chip) {f : Fld} (h : f.addr = 0x19) :
    (pdone op tag status detail c).get f = (pdoneTold op tag status detail (pdoneCounted c)).get f :=
  (Chip.get_evt_ne _ 0 1 f (by rw [h]; decide)).trans rfl

theorem pdone_status {status : Nat} (op tag detail : Nat) (c : Chip) : (pdone op tag status detail c).get F.DEV_PDONE_STATUS = status % 256 := by
  rw [pdone_told _ _ _ _ _ rfl, pdoneTold, Chip.get_set_same _ _ _ (by decide)]
  rfl

theorem pdone_detail {detail : Nat} (op tag status : Nat) (c : Chip) : (pdone op tag status detail c).get F.DEV_PDONE_DETAIL = detail % 65536 := by
  rw [pdone_told _ _ _ _ _ rfl, pdoneTold, Chip.get_set_ne _ _ _ _ (by decide), Chip.get_set_same _ _ _ (by decide)]
  rfl

theorem pdone_tag {tag : Nat} (op status detail : Nat) (c : Chip) : (pdone op tag status detail c).get F.DEV_PDONE_TAG = tag % 256 := by
  rw [pdone_told _ _ _ _ _ rfl, pdoneTold, Chip.get_set_ne _ _ _ _ (by decide), Chip.get_set_ne _ _ _ _ (by decide), Chip.get_set_same _ _ _ (by decide)]
  rfl

theorem pdone_is (op tag status detail : Nat) (c : Chip) {f : Fld} (h : f.addr ≠ 0x10 ∧ f.addr ≠ 0x19) : (pdone op tag status detail c).is f = c.is f :=
  congrArg (· == 1) (pdone_get op tag status detail c h)

theorem pdone_nvm (op tag status detail : Nat) (c : Chip) : (pdone op tag status detail c).nvm = c.nvm := by
  simp only [pdone]
  split_ifs <;> rfl

theorem pdone_bist (op tag status detail : Nat) (c : Chip) : (pdone op tag status detail c).bist = c.bist := by
  simp only [pdone]
  split_ifs <;> rfl

theorem pdone_safe (op tag status detail : Nat) (c : Chip) : (pdone op tag status detail c).safe = c.safe := by
  simp only [pdone]
  split_ifs <;> rfl

/-! ### Host store operations (R655, R675) -/

/-- NVS.STAT shows how a host store operation ended. -/
def hostStoreTold (h : HostStore) (status : Nat) (c : Chip) : Chip :=
  (((modNvm (fun n => { n with host := none }) c).set F.NVS_STAT_LASTOP h.op).set F.NVS_STAT_LASTST status).set F.NVS_STAT_LASTPART h.part

theorem endHostStore_of_some {c : Chip} {h : HostStore} (status : Nat) (hh : c.nvm.host = some h) :
    endHostStore status c = pdone h.op h.tag status 0 (hostStoreTold h status c).evStore := by
  simp only [endHostStore, hh]
  rfl

theorem endHostStore_shows {c : Chip} {h : HostStore} {status : Nat} (hh : c.nvm.host = some h) (hs : status < 256) :
    (endHostStore status c).nvm.host = none ∧ (endHostStore status c).get F.NVS_STAT_LASTST = status ∧
      (endHostStore status c).get F.NVS_STAT_LASTOP = h.op % 256 ∧ (endHostStore status c).get F.DEV_PDONE_STATUS = status ∧
      (endHostStore status c).get F.DEV_PDONE_TAG = h.tag % 256 := by
  have hstat {f : Fld} (hf : f.addr = F.NVS_STAT) : (endHostStore status c).get f = (hostStoreTold h status c).get f := by
    rw [endHostStore_of_some status hh, pdone_get _ _ _ _ _ (by rw [hf]; decide), Chip.evStore, Chip.get_evt_ne _ _ _ _ (by rw [hf]; decide)]
  refine ⟨?_, ?_, ?_, ?_, ?_⟩
  · rw [endHostStore_of_some status hh, pdone_nvm]
    rfl
  · rw [hstat rfl, hostStoreTold, Chip.get_set_ne _ _ _ _ (by decide), Chip.get_set_same _ _ _ (by decide)]
    exact Nat.mod_eq_of_lt hs
  · rw [hstat rfl, hostStoreTold, Chip.get_set_ne _ _ _ _ (by decide), Chip.get_set_ne _ _ _ _ (by decide), Chip.get_set_same _ _ _ (by decide)]
    rfl
  · rw [endHostStore_of_some status hh, pdone_status, Nat.mod_eq_of_lt hs]
  · rw [endHostStore_of_some status hh, pdone_tag]

theorem storeOperationDone_of_idle {ok : Bool} {c : Chip} {h : HostStore} (hh : c.nvm.host = some h) (hc : c.nvm.cur = none) (hw : c.nvm.waiting = [])
    (hr : h.restore = none) : storeOperationDone ok c = endHostStore (if ok && !h.failed then 0 else 0x30) c := by
  simp only [storeOperationDone, hh, hc, hw, hr, List.any_nil, Bool.or_self, Bool.false_eq_true, if_false]

/-! ### Writes (R648, R651) -/

theorem storeWrite_cons (p : Nat) (w : Word) (ws : List Word) (c : Chip) : storeWrite p (w :: ws) c = storeWrite (p + 1) ws (c.storeWr p w) := rfl

theorem storeWrite_below {a p : Nat} (ws : List Word) (c : Chip) (h : a < p) : (storeWrite p ws c).storeRd a = c.storeRd a := by
  induction ws generalizing p c with
  | nil => rfl
  | cons w ws ih => rw [storeWrite_cons, ih _ (Nat.lt_succ_of_lt h), Chip.storeRd_storeWr_ne _ _ h.ne]

theorem storeWrite_reads {p i : Nat} (ws : List Word) (c : Chip) (h : i < ws.length) : (storeWrite p ws c).storeRd (p + i) = ws.getD i 0 := by
  induction ws generalizing p i c with
  | nil => exact absurd h (Nat.not_lt_zero i)
  | cons w ws ih =>
    rw [storeWrite_cons]
    cases i with
    | zero => exact (storeWrite_below ws _ (Nat.lt_succ_self p)).trans (Chip.storeRd_storeWr_same c p w)
    | succ i =>
      rw [show p + (i + 1) = p + 1 + i by omega, ih _ (Nat.lt_of_succ_lt_succ h)]
      rfl

theorem serveStore_of_unasked {c : Chip} (h : c.nvm.waiting = []) : serveStore c = c := by
  unfold serveStore
  split
  · next hn =>
    rw [h] at hn
    exact absurd hn (by simp [nextJob])
  · rfl

/-- The end of a run of SELFTEST. -/
def runEnded (c : Chip) : Chip :=
  (exitSelftest ((c.raise F.BST_STAT_DONE).countMod F.BST_STAT_RUNS 1).evBist).notice
    (.complete (if ((c.raise F.BST_STAT_DONE).countMod F.BST_STAT_RUNS 1).is F.BST_STAT_UNREP then .config else c.ms.cameFrom) .complete)

theorem endRun_of_over {c : Chip} (hm : c.mode = .selftest) (he : c.bist.ending = true) (hr : recording c = false) : endRun c = runEnded c := by
  refine if_neg ?_
  rintro (h | h | h)
  · exact h hm
  · rw [he] at h
    exact Bool.noConfusion h
  · rw [hr] at h
    exact Bool.noConfusion h

theorem endRun_of_recording {c : Chip} (h : recording c = true) : endRun c = c := if_pos (.inr (.inr h))

/-- What the end of a run leaves: all but its own words, the events and the notices. -/
theorem endRun_keeps {α : Type} (p : Chip → α) (h : ∀ c, p (runEnded c) = p c) (c : Chip) : p (endRun c) = p c := by
  by_cases hn : c.mode ≠ .selftest ∨ !c.bist.ending ∨ recording c
  · exact congrArg p (if_pos hn)
  · exact (congrArg p (if_neg hn)).trans (h c)

theorem runEnded_rd {b : Nat} (c : Chip) (h : b ≠ F.BST_STAT ∧ b ≠ 0x10) : (runEnded c).rd b = c.rd b := by
  rw [runEnded, notice_rd, exitSelftest, Chip.rd_set_ne _ _ _ h.1, Chip.rd_set_ne _ _ _ h.1, Chip.rd_setb_ne _ _ _ h.1]
  exact (Chip.rd_evt_ne _ 0 9 h.2).trans ((Chip.rd_countMod_ne _ _ _ h.1).trans (Chip.rd_raise_ne _ _ h.1))

theorem storeWriteComplete_commits {j : StoreJob} {c : Chip} (hc : c.nvm.cur = some j) (hj : j ≠ .confirm) :
    storeWriteComplete true c = serveStore (modNvm (fun n => { n with cur := none }) (commitJob j c)) := by
  cases j with
  | confirm => exact absurd rfl hj
  | _ => simp only [storeWriteComplete, hc, if_true]

theorem storeWriteComplete_fails {j : StoreJob} {c : Chip} (hc : c.nvm.cur = some j) (hj : j ≠ .confirm) :
    storeWriteComplete false c = serveStore (modNvm (fun n => { n with cur := none }) (jobFailed j (abandonJob j c))) := by
  cases j with
  | confirm => exact absurd rfl hj
  | _ => simp only [storeWriteComplete, hc, Bool.false_eq_true, if_false]

theorem committed_store (type : Nat) (c : Chip) : (committed type c).store = c.store := Chip.occur_store _ _ _ _

theorem committed_nvm (type : Nat) (c : Chip) : (committed type c).nvm = c.nvm := Chip.occur_keeps Chip.nvm (fun _ _ => rfl) _ _ _ _

theorem storeWrite_nvm (p : Nat) (ws : List Word) (c : Chip) : (storeWrite p ws c).nvm = c.nvm := storeWrite_keeps Chip.nvm (fun _ _ => rfl) p ws c

/-- The write of an image with no writer waiting leaves its words in the store, and the store free. -/
theorem imageWritten {b : Bool} {ws : List Word} {c : Chip} (hc : c.nvm.cur = some (.image b ws)) (hw : c.nvm.waiting = []) :
    (storeWriteEnds true c).nvm.cur = none ∧ ∀ i, i < ws.length → (storeWriteEnds true c).storeRd (imageBase b + i) = ws.getD i 0 := by
  have hend : storeWriteComplete true c = modNvm (fun n => { n with cur := none }) (committed 0x10 (storeWrite (imageBase b) ws c)) := by
    have hwait : (modNvm (fun n => { n with cur := none }) (committed 0x10 (storeWrite (imageBase b) ws c))).nvm.waiting = [] := by
      simp only [modNvm, committed_nvm, storeWrite_nvm, hw]
    rw [storeWriteComplete_commits hc (by simp)]
    exact serveStore_of_unasked hwait
  have hnvm : (storeWriteEnds true c).nvm = (storeWriteComplete true c).nvm := endRun_keeps Chip.nvm (fun _ => rfl) _
  have hstore : (storeWriteEnds true c).store = (storeWriteComplete true c).store := endRun_keeps Chip.store (fun _ => rfl) _
  refine ⟨by rw [hnvm, hend]; rfl, fun i hi => ?_⟩
  have hkept : (storeWriteEnds true c).store = (storeWrite (imageBase b) ws c).store := by
    rw [hstore, hend]
    exact committed_store _ _
  rw [Chip.storeRd, hkept]
  exact storeWrite_reads ws c hi

theorem jobFailed_rd {b : Nat} (j : StoreJob) (c : Chip) (h : b ≠ F.MTR_STAT) : (jobFailed j c).rd b = c.rd b := by
  unfold jobFailed
  split
  · exact Chip.rd_raise_ne _ _ h
  · split <;> rfl

theorem abandonJob_rd (j : StoreJob) (c : Chip) (b : Nat) : (abandonJob j c).rd b = (c.countSat F.NVS_CNT_FAILCNT 1).rd b := by
  simp only [abandonJob]
  split
  · exact storeWrite_keeps (Chip.rd · b) (fun _ _ => rfl) _ _ _
  · rfl

/-- A write that fails is counted. -/
theorem storeWriteEnds_counts {j : StoreJob} {c : Chip} (hc : c.nvm.cur = some j) (hj : j ≠ .confirm) :
    (storeWriteEnds false c).get F.NVS_CNT_FAILCNT = min (c.get F.NVS_CNT_FAILCNT + 1) 255 := by
  have hrd : (storeWriteEnds false c).rd F.NVS_CNT = (c.countSat F.NVS_CNT_FAILCNT 1).rd F.NVS_CNT := by
    refine (endRun_keeps (Chip.rd · F.NVS_CNT) (fun d => runEnded_rd d (by decide)) _).trans ?_
    rw [storeWriteComplete_fails hc hj, serveStore_rd]
    exact (jobFailed_rd j _ (by decide)).trans (abandonJob_rd j c _)
  exact (congrArg (fun w : Word => w.field 8 8) hrd).trans (Chip.get_countSat_same c F.NVS_CNT_FAILCNT 1 (by decide))

theorem serveStore_deferred (c : Chip) : (serveStore c).nvm.deferred = c.nvm.deferred := by
  unfold serveStore
  split
  · rw [beginJob_nvm]
    rfl
  · rfl

theorem deferredStoreWrite_queues {r : RepairRec} {l : List RepairRec} {c : Chip} (hd : c.nvm.deferred = r :: l) (hs : canStore c = true) (hc : c.nvm.cur = none)
    (hw : c.nvm.waiting = []) : (deferredStoreWrite c).nvm.deferred = l ∧ (deferredStoreWrite c).nvm.cur = some (.repair r) := by
  have heq : deferredStoreWrite c = enqueueJob (.repair r) (modNvm (fun n => { n with deferred := l }) c) := by
    simp only [deferredStoreWrite, hd, hs, if_true]
  rw [heq]
  exact ⟨(serveStore_deferred _).trans rfl, enqueueJob_cur hc hw⟩

/-! ### Scrub and fusing (R670, R672) -/

/-- The words that a scrub could not correct are counted and told. -/
def uncorrectedTold (unc : Nat) (c : Chip) : Chip := if unc = 0 then c else ((c.countSat F.NVS_CNT_UNCCNT unc).raise F.NVS_STAT_UNC).evStore

/-- A scrub's outcome in the store's words. -/
def scrubTold (cor unc : Nat) (c : Chip) : Chip :=
  ((uncorrectedTold unc ((modBist (fun b => { b with scrubReq := none }) c).countSat F.NVS_CNT_CORCNT cor)).raise F.BST_STAT_DONE).evBist

theorem scrubDone_of_pending {cor unc : Nat} {c : Chip} {q : PendReq} (h : c.bist.scrubReq = some q) :
    scrubDone cor unc c = pdone q.op q.tag 0 (min 65535 cor) (scrubTold cor unc c) := by
  simp only [scrubDone, h]
  rfl

theorem uncorrectedTold_get {f : Fld} (unc : Nat) (c : Chip) (h : f.addr ≠ 0x10 ∧ f.addr ≠ F.NVS_STAT ∧ (f.addr ≠ F.NVS_CNT ∨ 32 ≤ f.lo)) :
    (uncorrectedTold unc c).get f = c.get f := by
  obtain ⟨hevt, hstat, hcnt⟩ := h
  unfold uncorrectedTold
  split
  · rfl
  · rw [Chip.evStore, Chip.get_evt_ne _ _ _ _ hevt, Chip.get_raise_ne _ _ _ (.inl hstat), Chip.get_countSat_ne _ _ _ _ (hcnt.imp id .inl)]

theorem uncorrectedTold_bist (unc : Nat) (c : Chip) : (uncorrectedTold unc c).bist = c.bist := by
  unfold uncorrectedTold
  split <;> rfl

theorem scrubDone_shows {cor unc : Nat} {c : Chip} {q : PendReq} (h : c.bist.scrubReq = some q) :
    (scrubDone cor unc c).bist.scrubReq = none ∧ (scrubDone cor unc c).is F.BST_STAT_DONE = true ∧
      (scrubDone cor unc c).get F.NVS_CNT_CORCNT = min (c.get F.NVS_CNT_CORCNT + cor) 65535 ∧ (scrubDone cor unc c).get F.DEV_PDONE_DETAIL = min 65535 cor ∧
      (unc ≠ 0 → (scrubDone cor unc c).is F.NVS_STAT_UNC = true) := by
  rw [scrubDone_of_pending h]
  refine ⟨?_, ?_, ?_, ?_, fun hu => ?_⟩
  · rw [pdone_bist]
    exact congrArg Bist.scrubReq (uncorrectedTold_bist _ _)
  · rw [pdone_is _ _ _ _ _ (by decide), scrubTold, Chip.evBist, Chip.is, Chip.get_evt_ne _ _ _ _ (by decide)]
    exact Chip.is_raise_same _ _ rfl (by decide)
  · rw [pdone_get _ _ _ _ _ (by decide), scrubTold, Chip.evBist, Chip.get_evt_ne _ _ _ _ (by decide), Chip.get_raise_ne _ _ _ (.inl (by decide)),
      uncorrectedTold_get _ _ (by decide), Chip.get_countSat_same _ _ _ (by decide)]
    rfl
  · rw [pdone_detail]
    omega
  · rw [pdone_is _ _ _ _ _ (by decide), scrubTold, Chip.evBist, Chip.is, Chip.get_evt_ne _ _ _ _ (by decide), Chip.get_raise_ne _ _ _ (.inl (by decide)),
      uncorrectedTold, if_neg hu, Chip.evStore, Chip.get_evt_ne _ _ _ _ (by decide)]
    exact Chip.is_raise_same _ _ rfl (by decide)

theorem fuseRecord_used (slot : Nat) (good : Bool) (c : Chip) : (fuseRecord slot good c).bist.fusesUsed = c.bist.fusesUsed + 1 := by
  simp only [fuseRecord]
  split
  · exact dropRecord_keeps (fun d => d.bist.fusesUsed) (fun _ _ => rfl) _ _ _
  · rfl

/-- The fuses of a request are used one for each record. -/
def recordsFused (l : List Nat) (good : List Bool) (c : Chip) : Chip := c.forN l.length (fun i c => fuseRecord (l.getD i 0) (good.getD i true) c)

theorem forN_counts {p : Chip → Nat} {f : Nat → Chip → Chip} (h : ∀ i c, p (f i c) = p c + 1) (n : Nat) (c : Chip) : p (c.forN n f) = p c + n := by
  induction n with
  | zero => rfl
  | succ n ih => rw [Chip.forN_succ, h, ih, Nat.add_assoc]

theorem fuseDone_shows {good : List Bool} {c : Chip} {q : PendReq} (h : c.bist.fuseReq = some q) :
    (fuseDone good c).bist.fuseReq = none ∧ (fuseDone good c).bist.fuseSlots = [] ∧ (fuseDone good c).get F.DEV_PDONE_STATUS = 0 ∧
      (fuseDone good c).bist.fusesUsed = c.bist.fusesUsed + c.bist.fuseSlots.length := by
  have heq : fuseDone good c = pdone q.op q.tag 0 0 (modBist (fun b => { b with fuseReq := none, fuseSlots := [] }) (recordsFused c.bist.fuseSlots good c)) := by
    simp only [fuseDone, h]
    rfl
  rw [heq, pdone_bist]
  refine ⟨rfl, rfl, pdone_status _ _ _ _, ?_⟩
  exact forN_counts (p := fun d => d.bist.fusesUsed) (fun i d => fuseRecord_used _ _ d) _ c

/-! ### The end of a SELFTEST run (R667) -/

/-- What the results of a run leave as it is until the run ends. -/
def runView (c : Chip) : Word × Bool × Nat × ModeState × Bist := (c.rd 8, c.is F.BST_STAT_SRUN, c.get F.BST_STAT_RUNS, c.ms, c.bist)

theorem runView_set {f : Fld} (v : Nat) (c : Chip) (h8 : f.addr ≠ 8) (h : f.addr ≠ F.BST_STAT ∨ f.lo + f.width ≤ 18 ∨ 19 ≤ f.lo ∧ f.lo + f.width ≤ 40) :
    runView (c.set f v) = runView c := by
  have hget {g : Fld} (ha : g.addr = F.BST_STAT) (hg : g.lo = 18 ∧ g.width = 1 ∨ 40 ≤ g.lo) : (c.set f v).get g = c.get g := by
    refine Chip.get_set_ne _ _ _ _ ?_
    rcases h with h | h | ⟨hlo, hhi⟩
    · exact .inl (by rw [ha]; exact h.symm)
    · exact .inr (.inl (by omega))
    · exact .inr (by omega)
  simp only [runView, Chip.is, Chip.rd_set_ne c f v h8.symm, hget (g := F.BST_STAT_SRUN) rfl (by decide), hget (g := F.BST_STAT_RUNS) rfl (by decide)]
  rfl

theorem runView_evt (n k : Nat) (c : Chip) (h : n < 8) : runView (c.evt n k) = runView c := by
  simp only [runView, Chip.is, Chip.rd_evt_ne c n k (show 8 ≠ 0x10 + n by omega),
    Chip.get_evt_ne c n k F.BST_STAT_SRUN (by simp only [F.BST_STAT_SRUN]; omega), Chip.get_evt_ne c n k F.BST_STAT_RUNS (by simp only [F.BST_STAT_RUNS]; omega)]
  rfl

theorem runView_setLane {z : Nat} (st log : Nat) (c : Chip) (h : z < 9) : runView (setLane z st log c) = runView c :=
  (runView_set log _ (by simp only [F.ZEN_LANE_STAT_LOG]; omega) (.inl (by simp only [F.ZEN_LANE_STAT_LOG, F.BST_STAT]; omega))).trans
    (runView_set st c (by simp only [F.ZEN_LANE_STAT_STATE]; omega) (.inl (by simp only [F.ZEN_LANE_STAT_STATE, F.BST_STAT]; omega)))

theorem runView_mapLane (j z : Nat) (c : Chip) : runView (mapLane j z c) = runView c :=
  runView_set (f := ⟨F.ZEN_LMAP, 4 * j, 4⟩) z c (show F.ZEN_LMAP ≠ 8 by decide) (.inl (show F.ZEN_LMAP ≠ F.BST_STAT by decide))

/-- A list of lanes takes its logical lanes, the ninth as the spare. -/
def goodMapped (good : List Nat) (c : Chip) : Chip :=
  (c.forN 8 (fun j c => mapLane j (if j < good.length then good.getD j 15 else 15) c)).forEach good (fun z c =>
    if good.findIdx (· == z) < 8 then setLane z 0 (good.findIdx (· == z)) c else setLane z 1 15 c)

/-- The mapping's own flags. -/
def mapTold (spare n : Nat) (c : Chip) : Chip :=
  let c := (c.set F.ZEN_LMAP_SPARE spare).set F.ZEN_LMAP_TESTL 15
  let c := if n ≤ 8 then c.raise F.ZEN_STAT_NOSPARE else c
  let c := if n ≤ 7 then (c.raise F.ZEN_STAT_DEGRADED).notice (.device .degraded) else c
  countActive c

theorem mapLanes_shape (c : Chip) : ∃ good : List Nat, ∃ spare : Nat, (∀ z ∈ good, z < 9) ∧ mapLanes c = mapTold spare good.length (goodMapped good c) :=
  ⟨(List.range 9).filter (fun z => c.get (F.ZEN_LANE_STAT_STATE z) != 4), _, fun _ hz => List.mem_range.mp (List.mem_filter.mp hz).1, rfl⟩

theorem runView_mapLanes (c : Chip) : runView (mapLanes c) = runView c := by
  obtain ⟨good, spare, hgood, heq⟩ := mapLanes_shape c
  have hset {f : Fld} (v : Nat) (d : Chip) (hf : f.addr = F.ZEN_STAT ∨ f.addr = F.ZEN_LMAP) : runView (d.set f v) = runView d :=
    runView_set v d (by rcases hf with h | h <;> rw [h] <;> decide) (.inl (by rcases hf with h | h <;> rw [h] <;> decide))
  have hnospare (p : Prop) [Decidable p] (d : Chip) : runView (if p then d.raise F.ZEN_STAT_NOSPARE else d) = runView d := by
    split
    · exact hset _ d (.inl rfl)
    · rfl
  have hdegraded (p : Prop) [Decidable p] (d : Chip) : runView (if p then (d.raise F.ZEN_STAT_DEGRADED).notice (.device .degraded) else d) = runView d := by
    split
    · exact hset (f := F.ZEN_STAT_DEGRADED) 1 d (.inl rfl)
    · rfl
  have hlanes (d : Chip) : runView (goodMapped good d) = runView d := by
    refine (Chip.forEach_keeps_of_mem runView (fun z hz e => ?_) _).trans (Chip.forN_keeps runView (fun j e => runView_mapLane _ _ e) 8 d)
    split
    · exact runView_setLane _ _ e (hgood z hz)
    · exact runView_setLane _ _ e (hgood z hz)
  rw [heq, mapTold, countActive, hset _ _ (.inl rfl), hdegraded, hnospare, hset _ _ (.inr rfl), hset _ _ (.inr rfl), hlanes]

/-- Lanes that failed are retired, and a repair is due for each. -/
def lanesRetired (failed : List Nat) (c : Chip) : Chip := c.forEach failed (fun z c => (setLane z 4 15 c).dueRepair ⟨5, z, 0, 0⟩)

/-- Each logical lane carries its memory. -/
def lanesCarried (held : List (List (Nat × Word))) (c : Chip) : Chip :=
  c.forN 8 (fun j c => match physLane c j with
    | some z => c.forEach (held.getD j []) (fun e c => c.laneWr z e.1 e.2)
    | none => c)

theorem retireLanes_eq (failed : List Nat) (c : Chip) : retireLanes failed c =
    if failed.isEmpty then lanesCarried (lanesHeld c) { mapLanes (lanesRetired failed c) with lanes := [] }
    else ((lanesCarried (lanesHeld c) { mapLanes (lanesRetired failed c) with lanes := [] }).raise F.ZEN_STAT_LANEEVT).evLane := rfl

theorem runView_lanesCarried (held : List (List (Nat × Word))) (c : Chip) : runView (lanesCarried held c) = runView c := by
  refine Chip.forN_keeps runView (fun j d => ?_) 8 c
  split
  · exact Chip.forEach_keeps (f := fun (e : Nat × Word) (c : Chip) => c.laneWr _ e.1 e.2) runView (fun _ _ => rfl) _ _
  · rfl

theorem runView_lanes (m : Mem) (c : Chip) : runView { c with lanes := m } = runView c := rfl

theorem runView_dueRepair (r : RepairRec) (c : Chip) : runView (c.dueRepair r) = runView c := rfl

theorem runView_lanesRetired {failed : List Nat} (c : Chip) (h : ∀ z ∈ failed, z < 9) : runView (lanesRetired failed c) = runView c := by
  refine Chip.forEach_keeps_of_mem (f := fun z c => (setLane z 4 15 c).dueRepair ⟨5, z, 0, 0⟩) runView (fun z hz d => ?_) c
  rw [runView_dueRepair, runView_setLane 4 15 d (h z hz)]

theorem runView_retireLanes {failed : List Nat} (c : Chip) (h : ∀ z ∈ failed, z < 9) : runView (retireLanes failed c) = runView c := by
  have hcarried : runView (lanesCarried (lanesHeld c) { mapLanes (lanesRetired failed c) with lanes := [] }) = runView c := by
    rw [runView_lanesCarried, runView_lanes, runView_mapLanes, runView_lanesRetired c h]
  rw [retireLanes_eq]
  split
  · exact hcarried
  · rw [Chip.evLane, runView_evt _ _ _ (by decide), Chip.raise, runView_set _ _ (by decide) (.inl (by decide)), hcarried]

/-- The verdict of a run. -/
def verdictShown (fail repaired invalid unrep : Bool) (c : Chip) : Chip :=
  let c := if fail then c.raise F.BST_STAT_FAIL else c
  let c := if repaired then c.raise F.BST_STAT_REPAIRED else c
  let c := if invalid then c.raise F.BST_STAT_INVAL else c
  ((c.setb F.BST_STAT_UNREP unrep).set F.BST_STAT_CUR 0x1F).set F.BST_STAT_PHASE 3

/-- The lanes that failed their tests. -/
def failedLanes (results : List (Fin 4)) : List Nat := (List.range 9).filter (fun z => (results.getD z 0).val == 3)

/-- Failed lanes are retired, and repairs are due for the spares taken. -/
def sparesTaken (results : List (Fin 4)) (spares : List SpareUse) (c : Chip) : Chip :=
  (retireLanes (failedLanes results) c).forEach spares (fun s c => c.dueRepair ⟨if s.column then 2 else 1, s.region, s.addr, s.spare⟩)

/-- The results of the regions, shown. -/
def resultsShown (res : List Nat) (c : Chip) : Chip := c.forN 20 (fun r c => c.set (F.BST_RES_R r) (res.getD r 0))

/-- Whether a region that should have been tested was not. -/
def leftUntested (res : List Nat) (c : Chip) : Bool := (List.range 20).any (fun r => res.getD r 0 == 0 && regionRuns c r)

/-- The results of a run on a chip whose lanes are mapped again, with their verdict. -/
def resultsJudged (results : List (Fin 4)) (anyFail invalid : Bool) (c : Chip) : Chip :=
  let res := (List.range 20).map (regionResult c results)
  let untested := leftUntested res (resultsShown res c)
  verdictShown anyFail (res.contains 2) (invalid || untested) (res.contains 3 || untested) (resultsShown res c)

/-- The run waits for its records. -/
def runEnding (c : Chip) : Chip := modBist (fun b => { b with ending := true }) c

/-- The results of a run, with the repairs that they ask for. -/
def runTold (results : List (Fin 4)) (spares : List SpareUse) (invalid : Bool) (c : Chip) : Chip :=
  takeRepairs (resultsJudged results ((List.range 20).any (fun r => regionRuns c r && (results.getD r 0).val == 3)) invalid (sparesTaken results spares c))

theorem selftestComplete_of_running (results : List (Fin 4)) (spares : List SpareUse) (invalid : Bool) {c : Chip} (hm : c.mode = .selftest)
    (he : c.bist.ending = false) : selftestComplete results spares invalid c = endRun (runEnding (runTold results spares invalid c)) := by
  have hgo : ¬ (c.mode ≠ .selftest ∨ c.bist.ending) := by
    rintro (h | h)
    · exact h hm
    · rw [he] at h
      exact Bool.noConfusion h
  exact if_neg hgo

theorem runView_resultsShown (res : List Nat) (c : Chip) : runView (resultsShown res c) = runView c :=
  Chip.forN_keeps (f := fun r c => c.set (F.BST_RES_R r) (res.getD r 0)) runView (fun r d => runView_set _ d (show (0x120003 : Nat) ≠ 8 by decide)
    (.inl (show (0x120003 : Nat) ≠ F.BST_STAT by decide))) 20 c

theorem runView_verdictShown (fail repaired invalid unrep : Bool) (c : Chip) : runView (verdictShown fail repaired invalid unrep c) = runView c := by
  have hraise {f : Fld} (b : Bool) (d : Chip) (hf : f.addr = F.BST_STAT ∧ f.lo + f.width ≤ 18) : runView (if b then d.raise f else d) = runView d := by
    split
    · exact runView_set 1 d (by rw [hf.1]; decide) (.inr (.inl hf.2))
    · rfl
  rw [verdictShown, runView_set _ _ (by decide) (.inr (.inr (by decide))), runView_set _ _ (by decide) (.inr (.inr (by decide)))]
  exact (runView_set _ _ (by decide) (.inr (.inr (by decide)))).trans ((hraise _ _ (by decide)).trans ((hraise _ _ (by decide)).trans (hraise _ _ (by decide))))

theorem runView_takeRepairs (c : Chip) : runView (takeRepairs c) = runView c := by
  have htold : runView ({ c with repairs := [] }).evBist = runView c := runView_evt 0 9 _ (by decide)
  have hrefused (d : Chip) : runView (refuseStore d) = runView d := (runView_evt 0 10 _ (by decide)).trans (runView_set 1 d (by decide) (.inl (by decide)))
  simp only [takeRepairs]
  split
  · rfl
  · split
    · exact (Chip.forEach_keeps runView (fun r d => enqueueJob_keeps runView (fun _ _ => rfl) (fun _ _ => rfl) (.repair r) d) _ _).trans htold
    · split
      · exact htold
      · exact (hrefused _).trans htold

theorem runView_runTold (results : List (Fin 4)) (spares : List SpareUse) (invalid : Bool) (c : Chip) : runView (runTold results spares invalid c) = runView c := by
  have hlanes : ∀ z ∈ failedLanes results, z < 9 := fun _ hz => List.mem_range.mp (List.mem_filter.mp hz).1
  have htaken : runView (sparesTaken results spares c) = runView c :=
    (Chip.forEach_keeps (f := fun (s : SpareUse) (c : Chip) => c.dueRepair ⟨if s.column then 2 else 1, s.region, s.addr, s.spare⟩) runView
      (fun _ d => runView_dueRepair _ d) spares _).trans (runView_retireLanes c hlanes)
  rw [runTold, runView_takeRepairs, resultsJudged, runView_verdictShown, runView_resultsShown, htaken]

/-- A run's end keeps the words of BST.STAT that it does not set itself. -/
theorem runEnded_get {f : Fld} (c : Chip) (hf : f.addr = F.BST_STAT) (h : f.lo + f.width ≤ 18 ∨ f.lo = 19 ∧ f.width = 1 ∨ 32 ≤ f.lo) :
    (runEnded c).get f = ((c.raise F.BST_STAT_DONE).countMod F.BST_STAT_RUNS 1).get f := by
  rw [runEnded, notice_get, exitSelftest, Chip.get_set_ne _ _ _ _ (.inr (by simp only [F.BST_STAT_PHASE]; omega)),
    Chip.get_set_ne _ _ _ _ (.inr (by simp only [F.BST_STAT_CUR]; omega)), Chip.get_setb_ne _ _ _ _ (.inr (by simp only [F.BST_STAT_SRUN]; omega))]
  exact Chip.get_evt_ne _ 0 9 f (by rw [hf]; decide)

theorem runEnded_srun (c : Chip) : (runEnded c).is F.BST_STAT_SRUN = false := by
  rw [runEnded, notice_is, exitSelftest, Chip.is, Chip.get_set_ne _ _ _ _ (by decide), Chip.get_set_ne _ _ _ _ (by decide)]
  exact Chip.is_setb_same _ _ _ rfl (by decide)

theorem runEnded_done (c : Chip) : (runEnded c).is F.BST_STAT_DONE = true := by
  rw [Chip.is, runEnded_get c rfl (by decide), Chip.get_countMod_ne _ _ _ _ (by decide)]
  exact Chip.is_raise_same _ _ rfl (by decide)

theorem runEnded_runs (c : Chip) : (runEnded c).get F.BST_STAT_RUNS = (c.get F.BST_STAT_RUNS + 1) % 256 := by
  rw [runEnded_get c rfl (by decide), Chip.get_countMod_same _ _ _ (by decide), Chip.get_raise_ne _ _ _ (by decide)]
  rfl

theorem runCounted_unrep (c : Chip) : ((c.raise F.BST_STAT_DONE).countMod F.BST_STAT_RUNS 1).is F.BST_STAT_UNREP = c.is F.BST_STAT_UNREP := by
  rw [Chip.is, Chip.get_countMod_ne _ _ _ _ (by decide), Chip.get_raise_ne _ _ _ (by decide), Chip.is]

theorem runEnded_unrep (c : Chip) : (runEnded c).is F.BST_STAT_UNREP = c.is F.BST_STAT_UNREP := by
  rw [Chip.is, runEnded_get c rfl (by decide)]
  exact runCounted_unrep c

theorem runEnded_told (c : Chip) :
    (runEnded c).notices.getLast? = some (.complete (if c.is F.BST_STAT_UNREP then .config else c.ms.cameFrom) .complete) := by
  rw [runEnded, runCounted_unrep]
  exact List.getLast?_concat

theorem mode_of_rd {c d : Chip} (h : d.rd 8 = c.rd 8) : d.mode = c.mode := by
  have hget (f : Fld) (hf : f.addr = 8) : d.get f = c.get f := by rw [Chip.get, hf, h, Chip.get, hf]
  rw [Chip.mode, Chip.mode, hget _ rfl]

theorem recording_endRun (c : Chip) : recording (endRun c) = recording c := endRun_keeps recording (fun _ => rfl) c

/-- The tests of a run are over: it ends, or it waits for its records. -/
theorem selftestComplete_shows (results : List (Fin 4)) (spares : List SpareUse) (invalid : Bool) {c : Chip} (hm : c.mode = .selftest) (he : c.bist.ending = false) :
    (recording (selftestComplete results spares invalid c) = true → (selftestComplete results spares invalid c).bist.ending = true ∧
        (selftestComplete results spares invalid c).is F.BST_STAT_SRUN = c.is F.BST_STAT_SRUN ∧
        (selftestComplete results spares invalid c).get F.BST_STAT_RUNS = c.get F.BST_STAT_RUNS) ∧
      (recording (selftestComplete results spares invalid c) = false → (selftestComplete results spares invalid c).bist.ending = false ∧
        (selftestComplete results spares invalid c).is F.BST_STAT_SRUN = false ∧ (selftestComplete results spares invalid c).is F.BST_STAT_DONE = true ∧
        (selftestComplete results spares invalid c).get F.BST_STAT_RUNS = (c.get F.BST_STAT_RUNS + 1) % 256 ∧
        (selftestComplete results spares invalid c).notices.getLast? =
          some (.complete (if (selftestComplete results spares invalid c).is F.BST_STAT_UNREP then .config else c.ms.cameFrom) .complete)) := by
  have hview := runView_runTold results spares invalid c
  simp only [runView, Prod.mk.injEq] at hview
  obtain ⟨hmode, hsrun, hruns, hms, -⟩ := hview
  have hsms : (runEnding (runTold results spares invalid c)).ms = c.ms := hms
  have hselftest : (runEnding (runTold results spares invalid c)).mode = .selftest := (mode_of_rd (c := c) hmode).trans hm
  rw [selftestComplete_of_running results spares invalid hm he, recording_endRun]
  refine ⟨fun hr => ?_, fun hr => ?_⟩
  · rw [endRun_of_recording hr]
    exact ⟨rfl, hsrun, hruns⟩
  · rw [endRun_of_over hselftest rfl hr, runEnded_unrep, ← hsms]
    exact ⟨rfl, runEnded_srun _, runEnded_done _, (runEnded_runs _).trans (congrArg (fun n => (n + 1) % 256) hruns), runEnded_told _⟩

/-! ### The last record of a run (R667) -/

/-- What a write's end leaves of a run. -/
def testView (c : Chip) : Word × Word × ModeState × Bist := (c.rd 8, c.rd F.BST_STAT, c.ms, c.bist)

theorem testView_set {f : Fld} (v : Nat) (c : Chip) (h : f.addr ≠ 8 ∧ f.addr ≠ F.BST_STAT) : testView (c.set f v) = testView c := by
  rw [testView, Chip.rd_set_ne _ _ _ h.1.symm, Chip.rd_set_ne _ _ _ h.2.symm]
  rfl

theorem testView_committed (type : Nat) (c : Chip) : testView (committed type c) = testView c := Chip.occur_keeps testView (fun _ _ => rfl) _ _ _ _

theorem testView_committedIn (base : Nat) (c : Chip) : testView (committedIn base c) = testView c := Chip.occur_keeps testView (fun _ _ => rfl) c.free.2 _ _ _

theorem testView_storeWrite (p : Nat) (ws : List Word) (c : Chip) : testView (storeWrite p ws c) = testView c := storeWrite_keeps testView (fun _ _ => rfl) p ws c

theorem testView_putRepair (r : RepairRec) (c : Chip) : testView (putRepair r c) = testView c := by
  unfold putRepair
  split
  · rw [putRecord, testView_committed, testView_storeWrite]
    exact dropRecord_keeps testView (fun _ _ => rfl) _ _ c
  · rfl

theorem testView_writeSnap (pfail : Bool) (c : Chip) : testView (writeSnap pfail c) = testView c := by
  simp only [writeSnap, testView_committedIn]
  rfl

theorem testView_commitJob (j : StoreJob) (c : Chip) : testView (commitJob j c) = testView c := by
  cases j with
  | image b ws => exact (testView_committed _ _).trans (testView_storeWrite _ _ _)
  | patch ws => exact (testView_committed _ _).trans (testView_storeWrite _ _ _)
  | repair r =>
    rw [commitJob]
    split
    · rfl
    · exact testView_putRepair r c
  | snapshot p => exact testView_writeSnap p c
  | confirm => exact testView_committedIn _ c

theorem testView_abandonJob (j : StoreJob) (c : Chip) : testView (abandonJob j c) = testView c := by
  have hcount : testView (c.countSat F.NVS_CNT_FAILCNT 1) = testView c := testView_set _ c (by decide)
  simp only [abandonJob]
  split
  · exact (testView_storeWrite _ _ _).trans hcount
  · exact hcount

theorem testView_jobFailed (j : StoreJob) (c : Chip) : testView (jobFailed j c) = testView c := by
  unfold jobFailed
  split
  · exact testView_set 1 c (by decide)
  · split <;> rfl

theorem testView_storeWriteComplete (ok : Bool) (c : Chip) : testView (storeWriteComplete ok c) = testView c := by
  have hserve (d : Chip) : testView (serveStore (modNvm (fun n => { n with cur := none }) d)) = testView d :=
    serveStore_keeps testView (fun _ _ => rfl) (fun _ _ => rfl) _
  unfold storeWriteComplete
  split
  · rfl
  · refine (hserve _).trans ?_
    split
    · exact testView_commitJob _ c
    · exact (testView_jobFailed _ _).trans (testView_abandonJob _ c)
  · rfl

theorem storeWriteEnds_ends (ok : Bool) {c : Chip} (hm : c.mode = .selftest) (he : c.bist.ending = true) (hr : recording (storeWriteComplete ok c) = false) :
    (storeWriteEnds ok c).bist.ending = false ∧ (storeWriteEnds ok c).is F.BST_STAT_SRUN = false ∧
      (storeWriteEnds ok c).notices.getLast? = some (.complete (if c.is F.BST_STAT_UNREP then .config else c.ms.cameFrom) .complete) := by
  have hview := testView_storeWriteComplete ok c
  simp only [testView, Prod.mk.injEq] at hview
  obtain ⟨hmode, hstat, hms, hbist⟩ := hview
  have hunrep : (storeWriteComplete ok c).is F.BST_STAT_UNREP = c.is F.BST_STAT_UNREP := congrArg (fun w : Word => w.field 19 1 == 1) hstat
  rw [storeWriteEnds, endRun_of_over ((mode_of_rd hmode).trans hm) (by rw [hbist, he]) hr]
  refine ⟨rfl, runEnded_srun _, ?_⟩
  rw [runEnded_told, hunrep, hms]

/-! ### The end of a confirmation (R551) -/

theorem rcmpEval_rd {b : Nat} (k : Nat) (c : Chip) (h : 0x14 ≤ b ∧ b ≠ 0xC0001) : (rcmpEval k c).rd b = c.rd b := by
  unfold rcmpEval
  split
  · exact demandIf_rd k _ c h
  · rfl

theorem demandIf_safe (k : Nat) (on : Bool) (c : Chip) : (demandIf k on c).safe = c.safe := by
  unfold demandIf demand
  split
  · dsimp only
    split <;> rfl
  · rfl

theorem rcmpEval_safe (k : Nat) (c : Chip) : (rcmpEval k c).safe = c.safe := by
  unfold rcmpEval
  split
  · exact demandIf_safe k _ c
  · rfl

theorem sinDemand_safe (was : Nat) (c : Chip) : (sinDemand was c).safe = c.safe := by
  have htold (p : Prop) [Decidable p] (x : Notice) : (if p then (sinShown c).notice x else sinShown c).safe = c.safe := by
    split <;> rfl
  exact htold _ _

theorem showFns_safe (c : Chip) : (showFns c).safe = c.safe := Chip.forN_keeps (f := fnShown) Chip.safe (fun _ _ => rfl) 8 c

/-- A set taken, and what of it is shown before the functions and the comparators judge again. -/
def setShown (ack tp : Nat) (c : Chip) : Chip := (((c.raise F.SAF_STAT_PSETOK).raise F.SIN_SEC_CONFOK).set F.SIN_ACHK_INFORCE ack).set F.SIN_SSTAT_TPLVL tp

/-- The functions whose shape a new set changes start again, and its CRC is shown. -/
def setTaken (l : List (Nat × Word)) (c : Chip) : Chip :=
  (((modRind (fun r => { r with inForce := l }) c).forN 8 (fun f d => if fnShape c.rind.inForce f = fnShape l f then d else clearFn f d)).set F.SAF_PCRC_CRC
    (rindCrc l)).raise F.SAF_PCRC_VALID

theorem setTaken_safe (l : List (Nat × Word)) (c : Chip) : (setTaken l c).safe = c.safe := by
  have hloop (d : Chip) : (d.forN 8 (fun f d => if fnShape c.rind.inForce f = fnShape l f then d else clearFn f d)).safe = d.safe := by
    refine Chip.forN_keeps Chip.safe (fun f e => ?_) 8 d
    split <;> rfl
  exact hloop _

theorem takeParamSet_shape (l : List (Nat × Word)) (c : Chip) : ∃ ack tp : Nat,
    takeParamSet l c = (sinDemand 3 (showFns (setShown ack tp (setTaken l c)))).forN 4 rcmpEval := ⟨_, _, rfl⟩

theorem takeParamSet_psetok (l : List (Nat × Word)) (c : Chip) : (takeParamSet l c).is F.SAF_STAT_PSETOK = true := by
  obtain ⟨ack, tp, heq⟩ := takeParamSet_shape l c
  have hloop (d : Chip) : (d.forN 4 rcmpEval).rd F.SAF_STAT = d.rd F.SAF_STAT :=
    Chip.forN_keeps (Chip.rd · F.SAF_STAT) (fun k e => rcmpEval_rd k e (by decide)) 4 d
  have hrd : (takeParamSet l c).rd F.SAF_STAT = (setShown ack tp (setTaken l c)).rd F.SAF_STAT := by
    rw [heq, hloop, sinDemand_rd _ _ (by decide), showFns_rd _ (by decide)]
  refine (congrArg (fun w : Word => w.field 20 1 == 1) hrd).trans ?_
  rw [setShown, Chip.rd_set_ne _ _ _ (by decide), Chip.rd_set_ne _ _ _ (by decide), Chip.rd_raise_ne _ _ (by decide)]
  exact Chip.is_raise_same (setTaken l c) F.SAF_STAT_PSETOK rfl (by decide)

theorem takeParamSet_safe (l : List (Nat × Word)) (c : Chip) : (takeParamSet l c).safe = c.safe := by
  obtain ⟨ack, tp, heq⟩ := takeParamSet_shape l c
  have hloop (d : Chip) : (d.forN 4 rcmpEval).safe = d.safe := Chip.forN_keeps Chip.safe rcmpEval_safe 4 d
  have hshown (d : Chip) : (setShown ack tp d).safe = d.safe := rfl
  rw [heq, hloop, sinDemand_safe, showFns_safe, hshown, setTaken_safe]

/-- The record of a confirmed set is the partition's, and nothing is staged. -/
def recordTaken (c : Chip) : Chip :=
  modSafe (fun s => { s with record := some (slImage c), password := s.stagedPw.getD s.password, stagedPw := none, confirming := none }) c

/-- A confirmed set is logged and its seal's opening closed. -/
def confirmLogged (detail old : Nat) (c : Chip) : Chip :=
  modSeal false (fun s => { s with unclosed := false, byReset := false }) (sinLog 7 detail (checkValue (slImage c)) old (takeParamSet (slImage c) (recordTaken c)))

theorem confirmSet_shape (c : Chip) : ∃ detail old : Nat,
    confirmSet c = (((confirmLogged detail old c).setb (sealFld false) false).setb F.SIN_SEC_PWSTG false).evSealChg := ⟨_, _, rfl⟩

theorem sinLog_rd (event detail new old : Nat) (c : Chip) (b : Nat) : (sinLog event detail new old c).rd b = c.rd b := committedIn_rd 0x50 b _

theorem committedIn_safe (base : Nat) (c : Chip) : (committedIn base c).safe = c.safe := Chip.occur_keeps Chip.safe (fun _ _ => rfl) _ _ _ _

theorem sinLog_confirming (event detail new old : Nat) (c : Chip) : (sinLog event detail new old c).safe.confirming = c.safe.confirming := by
  simp only [sinLog, committedIn_safe]
  rfl

theorem confirmSet_shows (c : Chip) : (confirmSet c).safe.confirming = none ∧ (confirmSet c).is F.DEV_SEAL_SINOPEN = false ∧
    (confirmSet c).is F.SAF_STAT_PSETOK = true := by
  obtain ⟨detail, old, heq⟩ := confirmSet_shape c
  have hconfirming (d : Chip) : (((modSeal false (fun s => { s with unclosed := false, byReset := false }) d).setb (sealFld false) false).setb F.SIN_SEC_PWSTG
      false).evSealChg.safe.confirming = d.safe.confirming := rfl
  rw [heq]
  refine ⟨?_, ?_, ?_⟩
  · rw [confirmLogged, hconfirming, sinLog_confirming, takeParamSet_safe]
    rfl
  · rw [Chip.evSealChg, Chip.is, Chip.get_evt_ne _ _ _ _ (by decide), Chip.get_setb_ne _ _ _ _ (by decide)]
    exact Chip.is_setb_same _ (sealFld false) false rfl (by decide)
  · rw [Chip.evSealChg, Chip.is, Chip.get_evt_ne _ _ _ _ (by decide), Chip.get_setb_ne _ _ _ _ (by decide), Chip.get_setb_ne _ _ _ _ (by decide), Chip.get, confirmLogged,
      modSeal_rd, sinLog_rd]
    exact takeParamSet_psetok _ _

/-- The store is free of the confirmation's write. -/
def confirmWritten (c : Chip) : Chip := modNvm (fun n => { n with cur := none }) c

section
variable {q : PendReq} {c : Chip} (hq : c.safe.confirming = some q) (hc : c.nvm.cur = some .confirm) (ho : sealOpened c false = true)
include hq hc

theorem safeConfirmDone_of_written (ok : Bool) : safeConfirmDone ok c =
    serveStore (if ok && sealOpened c false then pdone q.op q.tag 0 0 (confirmSet (committedIn 0x50 (confirmWritten c)))
      else confirmFails q 0x30 (if ok then confirmWritten c else (confirmWritten c).countSat F.NVS_CNT_FAILCNT 1)) := by
  simp only [safeConfirmDone, hq, hc]
  rfl

include ho

theorem safeConfirmDone_good : (safeConfirmDone true c).safe.confirming = none ∧ (safeConfirmDone true c).is F.DEV_SEAL_SINOPEN = false ∧
    (safeConfirmDone true c).is F.SAF_STAT_PSETOK = true ∧ (safeConfirmDone true c).get F.DEV_PDONE_STATUS = 0 := by
  have heq : safeConfirmDone true c = serveStore (pdone q.op q.tag 0 0 (confirmSet (committedIn 0x50 (confirmWritten c)))) := by
    rw [safeConfirmDone_of_written hq hc, ho]
    rfl
  have hget (f : Fld) (d : Chip) : (serveStore d).get f = d.get f := congrArg (fun w : Word => w.field f.lo f.width) (serveStore_rd d f.addr)
  have hsafe (d : Chip) : (serveStore d).safe = d.safe := serveStore_keeps Chip.safe (fun _ _ => rfl) (fun _ _ => rfl) d
  obtain ⟨hconfirming, hsin, hset⟩ := confirmSet_shows (committedIn 0x50 (confirmWritten c))
  refine ⟨?_, ?_, ?_, ?_⟩
  · rw [heq, hsafe, pdone_safe, hconfirming]
  · rw [heq, Chip.is, hget, pdone_get _ _ _ _ _ (by decide)]
    exact hsin
  · rw [heq, Chip.is, hget, pdone_get _ _ _ _ _ (by decide)]
    exact hset
  · rw [heq, hget, pdone_status]

theorem safeConfirmDone_bad : (safeConfirmDone false c).safe.confirming = none ∧ (safeConfirmDone false c).is F.DEV_SEAL_SINOPEN = true ∧
    (safeConfirmDone false c).get F.DEV_PDONE_STATUS = 0x30 ∧ (safeConfirmDone false c).get F.NVS_CNT_FAILCNT = min (c.get F.NVS_CNT_FAILCNT + 1) 255 := by
  have heq : safeConfirmDone false c =
      serveStore (pdone q.op q.tag 0x30 0 (modSafe (fun s => { s with confirming := none }) ((confirmWritten c).countSat F.NVS_CNT_FAILCNT 1))) := by
    rw [safeConfirmDone_of_written hq hc]
    rfl
  have hget (f : Fld) (d : Chip) : (serveStore d).get f = d.get f := congrArg (fun w : Word => w.field f.lo f.width) (serveStore_rd d f.addr)
  have hsafe (d : Chip) : (serveStore d).safe = d.safe := serveStore_keeps Chip.safe (fun _ _ => rfl) (fun _ _ => rfl) d
  have hmod (f : Fld) (d : Chip) (g : Safe → Safe) : (modSafe g d).get f = d.get f := rfl
  have hwritten (f : Fld) : (confirmWritten c).get f = c.get f := rfl
  refine ⟨?_, ?_, ?_, ?_⟩
  · rw [heq, hsafe, pdone_safe]
    rfl
  · rw [heq, Chip.is, hget, pdone_get _ _ _ _ _ (by decide), hmod, Chip.get_countSat_ne _ _ _ _ (by decide), hwritten]
    exact ho
  · rw [heq, hget, pdone_status]
  · rw [heq, hget, pdone_get _ _ _ _ _ (by decide), hmod, Chip.get_countSat_same _ _ _ (by decide), hwritten]
    rfl

end

/-! ### The trace port (R679, R681) -/

theorem tracePacketSent_keeps {c : Chip} (hw : c.wheyOn = true) (hl : c.obs.lost = 0) : tracePacketSent c = { c with obs := { c.obs with fifo := c.obs.fifo.drop 1 } } := by
  simp only [tracePacketSent, hw, hl, Bool.not_true, Bool.false_eq_true, ne_eq, not_true, false_and, if_false]

theorem tracePacketSent_tells {c : Chip} (hw : c.wheyOn = true) (hl : c.obs.lost ≠ 0) (hf : c.obs.fifo.length ≤ 63) :
    (tracePacketSent c).obs.lost = 0 ∧ (tracePacketSent c).obs.fifo = c.obs.fifo.drop 1 ++ [overflowPacket c.now c.obs.lost, syncPacket c.now] := by
  have hroom : c.obs.lost ≠ 0 ∧ (c.obs.fifo.drop 1).length ≤ 62 := ⟨hl, by rw [List.length_drop]; omega⟩
  simp only [tracePacketSent, hw, Bool.not_true, Bool.false_eq_true, if_false]
  rw [if_pos hroom]
  exact ⟨rfl, rfl⟩

/-- Settles O60: each event's end by the words of its outcome and the state that it frees. -/
theorem storeSelfTestAndTraceEventsEnd : Obligations.StoreSelfTestAndTraceEventsEnd := by
  unfold Obligations.StoreSelfTestAndTraceEventsEnd
  refine ⟨fun s ok h hg hh hc hw hr => ⟨_, running_of_going hg (storeOperationDone ok), ?_⟩,
    fun s b ws hg hc hw => ⟨_, running_of_going hg (storeWriteEnds true), imageWritten hc hw⟩,
    fun s j hg hc hj => ⟨_, running_of_going hg (storeWriteEnds false), storeWriteEnds_counts hc hj⟩,
    fun s r l hg hd hs hc hw _ => ⟨_, running_of_going hg deferredStoreWrite, deferredStoreWrite_queues hd hs hc hw⟩,
    fun s q cor unc hg hq => ⟨_, running_of_going hg (scrubDone cor unc), scrubDone_shows hq⟩,
    fun s q l hg hq => ⟨_, running_of_going hg (fuseDone l), fuseDone_shows hq⟩,
    fun s res sp inv hm hgate he => ⟨_, running_of_going (going_of_mode (by rw [hm]; decide) hgate) (selftestComplete res sp inv), selftestComplete_shows res sp inv hm he⟩,
    fun s ok hm hgate he hr => ⟨_, running_of_going (going_of_mode (by rw [hm]; decide) hgate) (storeWriteEnds ok), storeWriteEnds_ends ok hm he hr⟩,
    fun s q hg hq hc ho => ⟨⟨_, running_of_going hg (safeConfirmDone true), safeConfirmDone_good hq hc ho⟩, _, running_of_going hg (safeConfirmDone false),
      safeConfirmDone_bad hq hc ho⟩,
    fun s hw hl => ⟨tracePacketSent s.chip, rfl, ?_⟩, fun s hw hl hf => ⟨tracePacketSent s.chip, rfl, tracePacketSent_tells hw hl hf⟩, fun s => ?_⟩
  · rw [storeOperationDone_of_idle hh hc hw hr]
    exact endHostStore_shows hh (by split <;> decide)
  · rw [tracePacketSent_keeps hw hl]
    exact ⟨rfl, sameBut_refl [] s.chip⟩
  · refine congrArg (fun d => Host.Outcome.next (s.still d)) ?_
    rw [wheySync, ite_not]

end Sys2Proof.Machine
end

section
/-! SUPPORT. The proofs of the Purlin controllers (18_purlin_bus): attempts, reception, the error counters, retries and time frames. -/

namespace Sys2Proof.Machine

/-! ### Controllers and their words (R583, R597, R614) -/

theorem modBuf_rd (u b : Nat) (f : TxBuf → TxBuf) (c : Chip) (a : Nat) : (modBuf u b f c).rd a = c.rd a := rfl

/-- A part of a controller that a change leaves as it was. -/
theorem puOf_modPu {α : Type} (p : Purlin → α) {f : Purlin → Purlin} (h : ∀ q, p (f q) = p q) (u v : Nat) (c : Chip) : p (puOf (modPu u f c) v) = p (puOf c v) := by
  simp only [puOf, modPu, List.getD_eq_getElem?_getD, List.getElem?_modify]
  cases c.pu[v]? with
  | none => rfl
  | some q =>
    simp only [Option.getD_some]
    split
    · exact h q
    · rfl

section
variable {u : Nat} {f : Fld}

theorem evBuserr_get (u : Nat) (c : Chip) (hf : 0x14 ≤ f.addr) : (c.evBuserr u).get f = c.get f := by
  rw [Chip.evBuserr]
  exact Chip.get_evt_ne _ _ _ _ (by omega)

theorem setBusState_state {st : Nat} (c : Chip) (h : st < 4) : busState (setBusState u st c) u = st := by
  unfold setBusState
  split
  · assumption
  · rw [busState, evBuserr_get u _ (by simp only [F.PUR_ERR_STATE]; omega), Chip.get_set_same _ _ _ (by simp only [F.PUR_ERR_STATE]; omega)]
    exact Nat.mod_eq_of_lt h

theorem setBusState_get (st : Nat) (c : Chip) (hf : 0x14 ≤ f.addr) (h : f.addr ≠ F.PUR_ERR u ∨ 2 ≤ f.lo) : (setBusState u st c).get f = c.get f := by
  unfold setBusState
  split
  · rfl
  · rw [evBuserr_get u _ hf, Chip.get_set_ne _ _ _ _ (h.imp id .inl)]

theorem setBusState_pu (st : Nat) (c : Chip) : (setBusState u st c).pu = c.pu := by
  unfold setBusState
  split <;> rfl

/-- The error state that follows the counters leaves the counters and what is recorded. -/
theorem errorState_get (c : Chip) (hf : 0x14 ≤ f.addr) (h : f.addr ≠ F.PUR_ERR u ∨ 3 ≤ f.lo) : (errorState u c).get f = c.get f := by
  have hstate (st : Nat) (d : Chip) : (setBusState u st d).get f = d.get f := setBusState_get st d hf (h.imp id (by omega))
  simp only [errorState]
  split
  · split
    · rw [hstate, Chip.get_raise_ne _ _ _ (h.imp id .inl)]
    · rfl
  · split
    · rfl
    · exact hstate 0 c
  · rfl

theorem markEpisode_get (c : Chip) (f : Fld) : (markEpisode u c).get f = c.get f := by
  refine Chip.forN_keeps (Chip.get · f) (fun b d => ?_) 3 c
  split <;> rfl

theorem busOff_get (c : Chip) (hf : 0x14 ≤ f.addr) (h : f.addr ≠ F.PUR_ERR u ∨ 4 ≤ f.lo ∧ f.lo + f.width ≤ 32) : (busOff u c).get f = c.get f := by
  rw [busOff, setBusState_get _ _ hf (h.imp id (by omega)), Chip.get_countSat_ne _ _ _ _ (h.imp id (fun h => .inr h.2)),
    Chip.get_raise_ne _ _ _ (h.imp id (fun h => .inl h.1)), markEpisode_get]

theorem busOff_boff (c : Chip) : (busOff u c).is (F.PUR_ERR_BOFF u) = true := by
  rw [busOff, Chip.is, setBusState_get _ _ (by simp only [F.PUR_ERR_BOFF]; omega) (.inr (by simp only [F.PUR_ERR_BOFF]; omega)),
    Chip.get_countSat_ne _ _ _ _ (.inr (.inr (by simp only [F.PUR_ERR_BOFF, F.PUR_ERR_BOCNT]; omega)))]
  exact Chip.is_raise_same _ _ rfl (by simp only [F.PUR_ERR_BOFF]; omega)

end

/-! ### Attempts (R583, R585, R593) -/

theorem startAttempt_of_barred {u : Nat} {c : Chip} (h : maySend c u = false) : startAttempt u c = c := by
  unfold startAttempt
  rw [if_pos (by rw [h, Bool.not_false, Bool.or_true])]

theorem startAttempt_of_active {u b : Nat} {c : Chip} (h : (puOf c u).active = some b) : startAttempt u c = c := by
  unfold startAttempt
  rw [if_pos (by rw [h]; rfl)]

theorem maySend_of_inhibited {u : Nat} {c : Chip} (h : txInh c = true) (hm : c.get (F.PUR_CFG_MODE u) ≠ 3) : maySend c u = false := by
  simp [maySend, h, hm]

theorem maySend_of_disabled {u : Nat} {c : Chip} (hm : c.get (F.PUR_CFG_MODE u) = 0) : maySend c u = false := by simp [maySend, hm]

/-! ### Reception (R600, R601) -/

theorem frameReceived_taken {u : Nat} {c : Chip} (cw : Word) (l : List Word) (age : Nat) (hr : c.mode ≠ .reset) (hj : (puOf c u).joined = true)
    (hb : busState c u ≠ 2) (hm : c.get (F.PUR_CFG_MODE u) ≠ 3) :
    frameReceived u cw l age c = takeFrame u (receivedFrame cw l) (instantAgo c age) (receiveGood u c) := by
  refine if_neg ?_
  rintro (h | h | h | h)
  · exact hr h
  · rw [hj] at h
    exact Bool.noConfusion h
  · exact hb h
  · exact hm h

theorem frameReceived_barred {u : Nat} {c : Chip} (cw : Word) (l : List Word) (age : Nat)
    (h : (puOf c u).joined = false ∨ busState c u = 2 ∨ c.get (F.PUR_CFG_MODE u) = 3) : frameReceived u cw l age c = c :=
  if_pos (.inr (h.imp (fun h => by rw [h]; rfl) id))

theorem fifoFrame_of_full {u : Nat} {c : Chip} (f : BusFrame) (w : Word) (h : (puOf c u).fifo.findIdx? (·.state == .free) = none) :
    fifoFrame u f w c = c.countSat (F.PUR_FIFOST_RXOVR u) 1 := by
  unfold fifoFrame
  rw [h]

/-- A change that agrees with another on the controller as it stands. -/
theorem modify_congr_at {α : Type} {l : List α} {u : Nat} {d : α} {f g : α → α} (h : f (l.getD u d) = g (l.getD u d)) : l.modify u f = l.modify u g := by
  refine List.ext_getElem? fun i => ?_
  simp only [List.getElem?_modify]
  by_cases hi : u = i
  · subst hi
    cases hx : l[u]? with
    | none => rfl
    | some x =>
      rw [List.getD_eq_getElem?_getD, hx] at h
      simpa using h
  · simp [hi]

theorem fifoFrame_pu {u k : Nat} {c : Chip} (f : BusFrame) (w : Word) (h : (puOf c u).fifo.findIdx? (·.state == .free) = some k) :
    (fifoFrame u f w c).pu = c.pu.modify u (fun p => { p with fifo := p.fifo.set k ⟨.full, f, w.field 0 40, p.gotOrder⟩, gotOrder := p.gotOrder + 1 }) := by
  unfold fifoFrame
  rw [h]
  exact modify_congr_at (d := {}) rfl

/-! ### Buffers (R594) -/

section
variable {u b : Nat}

theorem setBuf_rd (st : Nat) (c : Chip) {a : Nat} (h : a ≠ F.PUR_TXST u) : (setBuf u b st c).rd a = c.rd a := Chip.rd_set_ne _ _ _ h

theorem loseFrame_rd (c : Chip) {a : Nat} (ha : 0x14 ≤ a) (h : a ≠ F.PUR_TXST u) : (loseFrame u b c).rd a = c.rd a := by
  rw [loseFrame, Chip.evBuserr, Chip.rd_evt_ne _ _ _ (by omega), Chip.rd_countSat_ne _ _ _ h, setBuf_rd _ _ h]

theorem loseFrame_state (c : Chip) (hb : b < 3) : bufState (loseFrame u b c) u b = 5 := by
  rw [loseFrame, bufState, evBuserr_get u _ (by simp only [F.PUR_TXST_ST]; omega),
    Chip.get_countSat_ne _ _ _ _ (.inr (.inr (by simp only [F.PUR_TXST_ST, F.PUR_TXST_LOSTCNT]; omega)))]
  exact setBuf_state c (by omega) (by decide)

theorem countedRetry_state {c : Chip} (hb : b < 3) (h : bufState c u b = 3) :
    bufState (countedRetry u b c) u b = (if attemptsUsed c u b then 5 else 1) := by
  unfold countedRetry
  rw [if_neg (not_not_intro h)]
  split
  · exact loseFrame_state c hb
  · exact setBuf_state _ (by omega) (by decide)

/-- The attempts of a buffer that failed are counted, unless arbitration or the episode excuses it. -/
def attemptCounted (u b : Nat) (lost : Bool) (c : Chip) : Chip :=
  if lost || (cwTxm (bufOf c u b).frame.cw == 2 && busState c u == 2) then c else c.countSat (F.PUR_TXST_ATT u b) 1

/-- A buffer's abort is settled. -/
def abortSettled (u b : Nat) (c : Chip) : Chip := modBuf u b (fun t => { t with abort := false }) c

theorem bufFailed_eq (lost : Bool) (c : Chip) : bufFailed u b lost c =
    if (bufOf c u b).abort then setBuf u b 6 (abortSettled u b (attemptCounted u b lost c))
    else if cwTxm (bufOf c u b).frame.cw = 1 then loseFrame u b (abortSettled u b (attemptCounted u b lost c))
    else if cwTxm (bufOf c u b).frame.cw == 2 && !lost then setBuf u b 3 (abortSettled u b (attemptCounted u b lost c))
    else setBuf u b 1 (abortSettled u b (attemptCounted u b lost c)) := rfl

theorem attemptCounted_rd (lost : Bool) (c : Chip) {a : Nat} (h : a ≠ F.PUR_TXST u) : (attemptCounted u b lost c).rd a = c.rd a := by
  unfold attemptCounted
  split
  · rfl
  · exact Chip.rd_countSat_ne _ _ _ h

theorem bufFailed_rd (lost : Bool) (c : Chip) {a : Nat} (ha : 0x14 ≤ a) (h : a ≠ F.PUR_TXST u) : (bufFailed u b lost c).rd a = c.rd a := by
  have hsettled : (abortSettled u b (attemptCounted u b lost c)).rd a = c.rd a := (modBuf_rd _ _ _ _ _).trans (attemptCounted_rd lost c h)
  rw [bufFailed_eq]
  split_ifs <;> simp only [setBuf_rd _ _ h, loseFrame_rd _ ha h, hsettled]

/-- A buffer that lost arbitration is aborted, lost with a single attempt, or pending again. -/
theorem bufFailed_lost (c : Chip) (hb : b < 3) : bufState (bufFailed u b true c) u b =
    (if (bufOf c u b).abort then 6 else if cwTxm (bufOf c u b).frame.cw = 1 then 5 else 1) := by
  simp only [bufFailed_eq, Bool.not_true, Bool.and_false, Bool.false_eq_true, if_false]
  split_ifs
  · exact setBuf_state _ (by omega) (by decide)
  · exact loseFrame_state _ hb
  · exact setBuf_state _ (by omega) (by decide)

end

/-! ### The end of an attempt (R594, R597) -/

/-- The bus is free of the attempt. -/
def attemptOver (u : Nat) (c : Chip) : Chip := modPu u (fun p => { p with active := none }) c

theorem bufOf_attemptOver (u b : Nat) (c : Chip) : bufOf (attemptOver u c) u b = bufOf c u b :=
  congrArg (fun l : List TxBuf => l.getD b {}) (puOf_modPu Purlin.bufs (f := fun p => { p with active := none }) (fun _ => rfl) u u c)

theorem activeFrame_of_buffer {u b : Nat} {c : Chip} (hb : b < 3) (h : (puOf c u).active = some b) : activeFrame c u = some (b, (bufOf c u b).frame) := by
  interval_cases b <;> simp only [activeFrame, h]

/-- An attempt that succeeded is counted down. -/
def successCounted (u : Nat) (c : Chip) : Chip := errorState u (c.set (F.PUR_ERR_TEC u) (c.get (F.PUR_ERR_TEC u) - 1))

/-- A frame sent leaves its source, and is traced. -/
def sentTold (u k age : Nat) (f : BusFrame) (c : Chip) : Chip :=
  (sourceSent u k f (instantAgo c age) c).occur 0x14 (some u) (BitVec.ofNat 48 (cwId f.cw))

/-- An error while sending is recorded and counted. -/
def errorCounted (u lec : Nat) (ph aft ex : Bool) (w : Word) (c : Chip) : Chip :=
  transmitError u ex (ownBitError u lec w aft (recordError u lec ph c))

section
variable {u b : Nat} {c : Chip} (age : Nat) (hr : c.mode ≠ .reset) (hb : b < 3) (ha : (puOf c u).active = some b)
include hr hb ha

theorem transmissionEnd_success : transmissionEnd u (.success none) age c =
    (if (sentTold u b age (bufOf c u b).frame (successCounted u (attemptOver u c))).get (F.PUR_CFG_MODE u) = 3 then
      takeFrame u (receivedFrame (bufOf c u b).frame.cw (bufOf c u b).frame.data)
        (instantAgo (sentTold u b age (bufOf c u b).frame (successCounted u (attemptOver u c))) age)
        (sentTold u b age (bufOf c u b).frame (successCounted u (attemptOver u c)))
    else sentTold u b age (bufOf c u b).frame (successCounted u (attemptOver u c))) := by
  simp only [transmissionEnd, if_neg hr, startAttempt_of_active ha, activeFrame_of_buffer hb ha]
  rfl

theorem transmissionEnd_lost : transmissionEnd u .arbitrationLost age c = bufFailed u b true (attemptOver u c) := by
  simp only [transmissionEnd, if_neg hr, startAttempt_of_active ha, activeFrame_of_buffer hb ha, if_pos hb]
  rfl

theorem transmissionEnd_error (lec : Fin 7) (ph aft ex : Bool) : transmissionEnd u (.error lec ph aft ex) age c =
    bufFailed u b false (errorCounted u lec.val ph aft ex (bufOf c u b).frame.cw (attemptOver u c)) := by
  simp only [transmissionEnd, if_neg hr, startAttempt_of_active ha, activeFrame_of_buffer hb ha, if_pos hb]
  rfl

end

/-! ### What an attempt's end leaves (R594, R597) -/

theorem tec_lt (c : Chip) (u : Nat) : c.get (F.PUR_ERR_TEC u) < 256 := Word.field_lt _ _ _

section
variable {u : Nat}

theorem successCounted_tec (c : Chip) : (successCounted u c).get (F.PUR_ERR_TEC u) = c.get (F.PUR_ERR_TEC u) - 1 := by
  have := tec_lt c u
  rw [successCounted, errorState_get _ (by simp only [F.PUR_ERR_TEC]; omega) (.inr (by simp only [F.PUR_ERR_TEC]; omega)),
    Chip.get_set_same _ _ _ (by simp only [F.PUR_ERR_TEC]; omega)]
  exact Nat.mod_eq_of_lt (by simp only [F.PUR_ERR_TEC] at this ⊢; omega)

theorem successCounted_mode (c : Chip) : (successCounted u c).get (F.PUR_CFG_MODE u) = c.get (F.PUR_CFG_MODE u) := by
  rw [successCounted, errorState_get _ (by simp only [F.PUR_CFG_MODE]; omega) (.inl (by simp only [F.PUR_CFG_MODE, F.PUR_ERR]; omega)),
    Chip.get_set_ne _ _ _ _ (.inl (by simp only [F.PUR_CFG_MODE, F.PUR_ERR_TEC]; omega))]

theorem sourceSent_of_buffer {b : Nat} (hb : b < 3) (f : BusFrame) (inst : Word) (c : Chip) : sourceSent u b f inst c = setBuf u b 4 (abortSettled u b c) := by
  interval_cases b <;> rfl

theorem sentTold_state {b : Nat} (hb : b < 3) (age : Nat) (f : BusFrame) (c : Chip) : bufState (sentTold u b age f c) u b = 4 := by
  rw [sentTold, sourceSent_of_buffer hb, bufState, Chip.occur_get]
  exact setBuf_state _ (by omega) (by decide)

theorem sentTold_get {b : Nat} {g : Fld} (hb : b < 3) (age : Nat) (f : BusFrame) (c : Chip) (h : g.addr ≠ F.PUR_TXST u) :
    (sentTold u b age f c).get g = c.get g := by
  rw [sentTold, sourceSent_of_buffer hb, Chip.occur_get, Chip.get, setBuf_rd _ _ h, abortSettled, modBuf_rd, Chip.get]

/-- The record of an error keeps what it does not show. -/
theorem recordError_get {f : Fld} (lec : Nat) (ph : Bool) (c : Chip) (h : f.addr ≠ F.PUR_ERR u ∨ 16 ≤ f.lo ∨ f.lo + f.width ≤ 12) :
    (recordError u lec ph c).get f = c.get f := by
  rw [recordError, Chip.occur_get, Chip.get_setb_ne _ _ _ _ (h.imp id (by simp only [F.PUR_ERR_DATAPH]; omega)),
    Chip.get_set_ne _ _ _ _ (h.imp id (by simp only [F.PUR_ERR_LEC]; omega))]

theorem recordError_lec {lec : Nat} (ph : Bool) (c : Chip) (h : lec < 8) : (recordError u lec ph c).get (F.PUR_ERR_LEC u) = lec := by
  rw [recordError, Chip.occur_get, Chip.get_setb_ne _ _ _ _ (.inr (.inl (by simp only [F.PUR_ERR_DATAPH, F.PUR_ERR_LEC]; omega))),
    Chip.get_set_same _ _ _ (by simp only [F.PUR_ERR_LEC]; omega)]
  exact Nat.mod_eq_of_lt h

theorem recordError_dataph (lec : Nat) (ph : Bool) (c : Chip) : (recordError u lec ph c).is (F.PUR_ERR_DATAPH u) = ph := by
  rw [recordError, Chip.occur_is]
  exact Chip.is_setb_same _ _ _ rfl (by simp only [F.PUR_ERR_DATAPH]; omega)

theorem ownBitError_get {f : Fld} (lec : Nat) (w : Word) (aft : Bool) (c : Chip) (ha : 0x14 ≤ f.addr) (h : 5 ≤ f.lo) :
    (ownBitError u lec w aft c).get f = c.get f := by
  simp only [ownBitError]
  split
  · split
    · rw [Chip.evIdColl, Chip.get_evt_ne _ _ _ _ (by omega), Chip.get_raise_ne _ (F.PUR_ERR_IDCOLL u) f (.inr (.inl h)), modPu_get]
    · rfl
  · rfl

/-- The count of transmit errors after one of them. -/
def transmitCounted (u n : Nat) (c : Chip) : Chip := c.set (F.PUR_ERR_TEC u) (min n 255)

theorem transmitError_eq (c : Chip) : transmitError u false c =
    if 255 < c.get (F.PUR_ERR_TEC u) + 8 then busOff u (transmitCounted u (c.get (F.PUR_ERR_TEC u) + 8) c)
    else errorState u (transmitCounted u (c.get (F.PUR_ERR_TEC u) + 8) c) := rfl

theorem transmitError_get {f : Fld} (c : Chip) (ha : f.addr = F.PUR_ERR u) (h : 4 ≤ f.lo ∧ f.lo + f.width ≤ 32) :
    (transmitError u false c).get f = (transmitCounted u (c.get (F.PUR_ERR_TEC u) + 8) c).get f := by
  have haddr : 0x14 ≤ f.addr := by rw [ha]; simp only [F.PUR_ERR]; omega
  rw [transmitError_eq]
  split
  · exact busOff_get _ haddr (.inr h)
  · exact errorState_get _ haddr (.inr (by omega))

theorem transmitError_tec (c : Chip) : (transmitError u false c).get (F.PUR_ERR_TEC u) = min (c.get (F.PUR_ERR_TEC u) + 8) 255 := by
  rw [transmitError_get c rfl ⟨by simp only [F.PUR_ERR_TEC]; omega, by simp only [F.PUR_ERR_TEC]; omega⟩, transmitCounted,
    Chip.get_set_same _ _ _ (by simp only [F.PUR_ERR_TEC]; omega)]
  exact Nat.mod_eq_of_lt (lt_of_le_of_lt (min_le_right _ _) (show 255 < 2 ^ 8 by decide))

theorem transmitError_lec (c : Chip) : (transmitError u false c).get (F.PUR_ERR_LEC u) = c.get (F.PUR_ERR_LEC u) := by
  rw [transmitError_get c rfl ⟨by simp only [F.PUR_ERR_LEC]; omega, by simp only [F.PUR_ERR_LEC]; omega⟩, transmitCounted,
    Chip.get_set_ne _ _ _ _ (.inr (.inr (by simp only [F.PUR_ERR_LEC, F.PUR_ERR_TEC]; omega)))]

theorem transmitError_off (c : Chip) (h : 247 < c.get (F.PUR_ERR_TEC u)) :
    busState (transmitError u false c) u = 2 ∧ (transmitError u false c).is (F.PUR_ERR_BOFF u) = true := by
  rw [transmitError_eq, if_pos (by omega)]
  exact ⟨setBusState_state _ (by decide), busOff_boff _⟩

/-- The counters and the record of an error while sending. -/
theorem errorCounted_shows {lec : Nat} (ph aft : Bool) (w : Word) (c : Chip) (hl : lec < 8) :
    (errorCounted u lec ph aft false w c).get (F.PUR_ERR_LEC u) = lec ∧
      (errorCounted u lec ph aft false w c).get (F.PUR_ERR_TEC u) = min (c.get (F.PUR_ERR_TEC u) + 8) 255 ∧
      (247 < c.get (F.PUR_ERR_TEC u) → busState (errorCounted u lec ph aft false w c) u = 2 ∧ (errorCounted u lec ph aft false w c).is (F.PUR_ERR_BOFF u) = true) := by
  have hown {f : Fld} (ha : f.addr = F.PUR_ERR u) (h : 5 ≤ f.lo) : (ownBitError u lec w aft (recordError u lec ph c)).get f = (recordError u lec ph c).get f :=
    ownBitError_get lec w aft _ (by rw [ha]; simp only [F.PUR_ERR]; omega) h
  have htec : (ownBitError u lec w aft (recordError u lec ph c)).get (F.PUR_ERR_TEC u) = c.get (F.PUR_ERR_TEC u) := by
    rw [hown rfl (by simp only [F.PUR_ERR_TEC]; omega), recordError_get _ _ _ (.inr (.inl (by simp only [F.PUR_ERR_TEC]; omega)))]
  refine ⟨?_, ?_, fun h => transmitError_off _ (by rwa [htec])⟩
  · rw [errorCounted, transmitError_lec, hown rfl (by simp only [F.PUR_ERR_LEC]; omega), recordError_lec _ _ hl]
  · rw [errorCounted, transmitError_tec, htec]

end

/-! ### Recovery, reception errors and time frames (R597, R598, R606) -/

/-- The counters of a controller that leaves bus-off. -/
def countersCleared (u : Nat) (c : Chip) : Chip := ((c.set (F.PUR_ERR_TEC u) 0).set (F.PUR_ERR_REC u) 0).set (F.PUR_ERR_RECSEQ u) 0

/-- A COUNTED frame of the episode counts it as one attempt. -/
def episodeOver (u b : Nat) (c : Chip) : Chip :=
  if (bufOf c u b).episode then
    let c := (modBuf u b (fun t => { t with episode := false }) c).countSat (F.PUR_TXST_ATT u b) 1
    if attemptsUsed c u b && (bufState c u b == 1 || bufState c u b == 3) then loseFrame u b c else c
  else c

theorem busOffRecovery_of_off {u : Nat} {c : Chip} (h : busState c u = 2) :
    busOffRecovery u c = (setBusState u 0 (countersCleared u c)).forN 3 (episodeOver u) := if_neg (not_not_intro h)

theorem episodeOver_rd {u a : Nat} (b : Nat) (c : Chip) (ha : 0x14 ≤ a) (h : a ≠ F.PUR_TXST u) : (episodeOver u b c).rd a = c.rd a := by
  have hcounted : ((modBuf u b (fun t => { t with episode := false }) c).countSat (F.PUR_TXST_ATT u b) 1).rd a = c.rd a := Chip.rd_countSat_ne _ _ _ h
  simp only [episodeOver]
  split
  · split
    · exact (loseFrame_rd _ ha h).trans hcounted
    · exact hcounted
  · rfl

theorem busOffRecovery_shows {u : Nat} {c : Chip} (h : busState c u = 2) :
    busState (busOffRecovery u c) u = 0 ∧ (busOffRecovery u c).get (F.PUR_ERR_TEC u) = 0 ∧ (busOffRecovery u c).get (F.PUR_ERR_REC u) = 0 := by
  have hget {f : Fld} (ha : f.addr = F.PUR_ERR u) : (busOffRecovery u c).get f = (setBusState u 0 (countersCleared u c)).get f := by
    rw [busOffRecovery_of_off h]
    exact Chip.forN_keeps (Chip.get · f) (fun b d => congrArg (fun w : Word => w.field f.lo f.width)
      (episodeOver_rd b d (by rw [ha]; simp only [F.PUR_ERR]; omega) (by rw [ha]; simp only [F.PUR_ERR, F.PUR_TXST]; omega))) 3 _
  refine ⟨(hget rfl).trans (setBusState_state _ (by decide)), ?_, ?_⟩
  · rw [hget rfl, setBusState_get _ _ (by simp only [F.PUR_ERR_TEC]; omega) (.inr (by simp only [F.PUR_ERR_TEC]; omega)), countersCleared,
      Chip.get_set_ne _ _ _ _ (.inr (.inl (by simp only [F.PUR_ERR_TEC, F.PUR_ERR_RECSEQ]; omega))),
      Chip.get_set_ne _ _ _ _ (.inr (.inl (by simp only [F.PUR_ERR_TEC, F.PUR_ERR_REC]; omega))), Chip.get_set_same _ _ _ (by simp only [F.PUR_ERR_TEC]; omega), Nat.zero_mod]
  · rw [hget rfl, setBusState_get _ _ (by simp only [F.PUR_ERR_REC]; omega) (.inr (by simp only [F.PUR_ERR_REC]; omega)), countersCleared,
      Chip.get_set_ne _ _ _ _ (.inr (.inl (by simp only [F.PUR_ERR_REC, F.PUR_ERR_RECSEQ]; omega))), Chip.get_set_same _ _ _ (by simp only [F.PUR_ERR_REC]; omega),
      Nat.zero_mod]

theorem errorFrame_of_joined {u lec : Nat} {c : Chip} (ph dom : Bool) (hr : c.mode ≠ .reset) (hj : (puOf c u).joined = true) (hb : busState c u ≠ 2) :
    errorFrame u lec ph dom c = errorState u ((recordError u lec ph c).countSat (F.PUR_ERR_REC u) (if dom then 9 else 1)) := by
  refine if_neg ?_
  rintro (h | h | h)
  · exact hr h
  · rw [hj] at h
    exact Bool.noConfusion h
  · exact hb h

theorem errorFrame_shows {u lec : Nat} {c : Chip} (ph dom : Bool) (hl : lec < 8) (hr : c.mode ≠ .reset) (hj : (puOf c u).joined = true) (hb : busState c u ≠ 2) :
    (errorFrame u lec ph dom c).get (F.PUR_ERR_LEC u) = lec ∧ (errorFrame u lec ph dom c).is (F.PUR_ERR_DATAPH u) = ph ∧
      (errorFrame u lec ph dom c).get (F.PUR_ERR_REC u) = min (c.get (F.PUR_ERR_REC u) + (if dom then 9 else 1)) 255 := by
  have hstate {f : Fld} (ha : f.addr = F.PUR_ERR u) (h : 3 ≤ f.lo) : (errorFrame u lec ph dom c).get f =
      ((recordError u lec ph c).countSat (F.PUR_ERR_REC u) (if dom then 9 else 1)).get f := by
    rw [errorFrame_of_joined ph dom hr hj hb, errorState_get _ (by rw [ha]; simp only [F.PUR_ERR]; omega) (.inr h)]
  refine ⟨?_, ?_, ?_⟩
  · rw [hstate rfl (by simp only [F.PUR_ERR_LEC]; omega), Chip.get_countSat_ne _ _ _ _ (.inr (.inr (by simp only [F.PUR_ERR_LEC, F.PUR_ERR_REC]; omega))),
      recordError_lec ph c hl]
  · rw [Chip.is, hstate rfl (by simp only [F.PUR_ERR_DATAPH]; omega),
      Chip.get_countSat_ne _ _ _ _ (.inr (.inr (by simp only [F.PUR_ERR_DATAPH, F.PUR_ERR_REC]; omega)))]
    exact recordError_dataph lec ph c
  · rw [hstate rfl (by simp only [F.PUR_ERR_REC]; omega), Chip.get_countSat_same _ _ _ (by simp only [F.PUR_ERR_REC]; omega),
      recordError_get _ _ _ (.inr (.inl (by simp only [F.PUR_ERR_REC]; omega)))]
    rfl

/-- A controller that sends time frames loads a SYNC into its time buffer, unless it is busy. -/
def syncPass (u : Nat) (c : Chip) : Chip :=
  if sendsTime c u && (puOf c u).time.isNone then
    let r := nextOrder u c
    let f := syncFrame c (puOf c u).seq
    modPu u (fun p => { p with time := some { frame := f, order := r.1 }, seq := (p.seq + 1) % 256 }) r.2
  else c

theorem syncintTick_of_up {c : Chip} (h : c.mode ≠ .reset) : syncintTick c = c.forN 2 syncPass := if_neg h

/-- What a controller's tick is judged by. -/
def syncView (u : Nat) (c : Chip) : Option Purlin × Bool × Nat := (c.pu[u]?, sendsTime c u, c.ms.naddr)

theorem syncView_syncPass_other {j u : Nat} (c : Chip) (h : j ≠ u) : syncView u (syncPass j c) = syncView u c := by
  simp only [syncPass]
  split
  · refine Prod.ext ?_ rfl
    simp [syncView, modPu, nextOrder, h]
  · rfl

theorem sameWords_syncPass (u : Nat) (c : Chip) : sameWords c (syncPass u c) := by
  simp only [syncPass]
  split
  · exact sameBut_refl [] c
  · exact sameBut_refl [] c

/-- The controller as the tick leaves it. -/
def syncLoaded (c : Chip) (p : Purlin) : Purlin :=
  { p with sentOrder := p.sentOrder + 1, time := some { frame := syncFrame c p.seq, order := p.sentOrder }, seq := (p.seq + 1) % 256 }

theorem syncPass_loads {u : Nat} {p : Purlin} {c : Chip} (hp : c.pu[u]? = some p) (hs : sendsTime c u = true) (ht : p.time = none) :
    (syncPass u c).pu[u]? = some (syncLoaded c p) := by
  have hpu : puOf c u = p := by rw [puOf, List.getD_eq_getElem?_getD, hp, Option.getD_some]
  simp only [syncPass, hs, hpu, ht, Option.isNone_none, Bool.and_self, if_true]
  simp [modPu, nextOrder, hp, hpu, syncLoaded]

theorem syncintTick_loads {u : Nat} {p : Purlin} {c : Chip} (hr : c.mode ≠ .reset) (hu : u < 2) (hp : c.pu[u]? = some p) (hs : sendsTime c u = true)
    (ht : p.time = none) : ∃ q : Purlin, (syncintTick c).pu[u]? = some q ∧ q.time.map (·.frame) = some (syncFrame c p.seq) ∧ q.seq = (p.seq + 1) % 256 := by
  obtain ⟨d, hd, hlast⟩ := Chip.forN_one_pass (syncView u) hu (fun j e hj => syncView_syncPass_other e hj) c
  obtain ⟨hdp, hds, hdn⟩ : d.pu[u]? = c.pu[u]? ∧ sendsTime d u = sendsTime c u ∧ d.ms.naddr = c.ms.naddr := by
    simpa only [syncView, Prod.mk.injEq] using hd
  have hframe : syncFrame d p.seq = syncFrame c p.seq := by simp only [syncFrame, hdn]
  refine ⟨syncLoaded d p, ?_, congrArg some hframe, rfl⟩
  rw [syncintTick_of_up hr]
  exact (congrArg Prod.fst hlast).trans (syncPass_loads (hdp.trans hp) (hds.trans hs) ht)

theorem sameWords_syncintTick (c : Chip) (hr : c.mode ≠ .reset) : sameWords c (syncintTick c) := by
  rw [syncintTick_of_up hr]
  exact sameBut_forN (fun u _ d => sameWords_syncPass u d) c

theorem busIntegration_of_waiting {u : Nat} {c : Chip} (hr : c.mode ≠ .reset) (hm : c.get (F.PUR_CFG_MODE u) ≠ 0) (hj : (puOf c u).joined = false) :
    busIntegration u c = setBusState u 0 (modPu u (fun p => { p with joined := true }) c) := by
  refine if_neg ?_
  rintro (h | h | h)
  · exact hr h
  · exact hm h
  · rw [hj] at h
    exact Bool.noConfusion h

/-- Settles O58: each event of a controller by its words, its buffers and its controller state. -/
theorem purlinSendsReceivesAndCountsErrors : Obligations.PurlinSendsReceivesAndCountsErrors := by
  unfold Obligations.PurlinSendsReceivesAndCountsErrors
  have hup {s : State} (h : going s.chip = true) : s.chip.mode ≠ .reset := mode_of_going h
  refine ⟨fun c u h hm => ⟨startAttempt_of_barred (maySend_of_inhibited h hm), by simp [puTxRecessive, h]⟩,
    fun c u hm => ⟨startAttempt_of_barred (maySend_of_disabled hm), by simp [puStbHigh, hm], by simp [puTxRecessive, hm]⟩,
    fun s u hg hm hj => ⟨_, running_of_going hg (busIntegration u), ?_, ?_⟩,
    fun s u cw l age hg hj hb hm => (running_of_going hg (frameReceived u cw l age)).trans (by rw [frameReceived_taken cw l age (hup hg) hj hb hm]),
    fun s u cw l age h => ?_,
    fun c u k f w _ h => fifoFrame_pu f w h,
    fun c u f w _ h => ?_,
    fun s u b age hg ha hm => ⟨_, running_of_going hg (transmissionEnd u (.success none) age), ?_⟩,
    fun s u b age hg ha => ⟨_, running_of_going hg (transmissionEnd u .arbitrationLost age), ?_, ?_⟩,
    fun s u b lec ph aft age hg ha => ⟨_, running_of_going hg (transmissionEnd u (.error lec ph aft false) age), ?_⟩,
    fun s u b hg h => ⟨_, running_of_going hg (countedRetry u b), countedRetry_state b.isLt h⟩,
    fun s u hg h => ⟨_, running_of_going hg (busOffRecovery u), busOffRecovery_shows h⟩,
    fun s hg => ⟨_, running_of_going hg syncintTick, sameWords_syncintTick _ (hup hg), fun u p hu hp hs ht => syncintTick_loads (hup hg) hu hp hs ht⟩,
    fun s u lec ph dom hg hj hb => ⟨_, running_of_going hg (errorFrame u lec ph dom), errorFrame_shows ph dom (by omega) (hup hg) hj hb⟩⟩
  · rw [busIntegration_of_waiting (hup hg) hm hj]
    exact setBusState_state _ (by decide)
  · rw [busIntegration_of_waiting (hup hg) hm hj, setBusState_pu]
    rfl
  · have hbarred : (if s.chip.mode = .reset ∨ s.chip.clk.gated then s.chip else frameReceived u cw l age s.chip) = s.chip := by
      rw [frameReceived_barred cw l age h, ite_self]
    exact congrArg (fun d => Host.Outcome.next (s.acted d)) hbarred
  · rw [fifoFrame_of_full f w h]
    exact ⟨Chip.get_countSat_same c (F.PUR_FIFOST_RXOVR u) 1 (by simp only [F.PUR_FIFOST_RXOVR]; omega), sameBut_set _ List.mem_cons_self (sameBut_refl _ c)⟩
  · have hmode : (sentTold u b age (bufOf s.chip u b).frame (successCounted u (attemptOver u s.chip))).get (F.PUR_CFG_MODE u) ≠ 3 := by
      rw [sentTold_get b.isLt _ _ _ (by simp only [F.PUR_CFG_MODE, F.PUR_TXST]; omega), successCounted_mode, attemptOver, modPu_get]
      exact hm
    rw [transmissionEnd_success age (hup hg) b.isLt ha, if_neg hmode]
    refine ⟨sentTold_state b.isLt _ _ _, ?_⟩
    rw [sentTold_get b.isLt _ _ _ (by simp only [F.PUR_ERR_TEC, F.PUR_TXST]; omega), successCounted_tec, attemptOver, modPu_get]
  · rw [transmissionEnd_lost age (hup hg) b.isLt ha, Chip.get, bufFailed_rd _ _ (by simp only [F.PUR_ERR_TEC]; omega)
      (by simp only [F.PUR_ERR_TEC, F.PUR_TXST]; omega)]
    rfl
  · rw [transmissionEnd_lost age (hup hg) b.isLt ha, bufFailed_lost _ b.isLt, bufOf_attemptOver]
  · rw [transmissionEnd_error age (hup hg) b.isLt ha]
    have hget {f : Fld} (c : Chip) (hf : f.addr = F.PUR_ERR u) : (bufFailed u b false c).get f = c.get f :=
      congrArg (fun w : Word => w.field f.lo f.width)
        (bufFailed_rd false c (by rw [hf]; simp only [F.PUR_ERR]; omega) (by rw [hf]; simp only [F.PUR_ERR, F.PUR_TXST]; omega))
    obtain ⟨hlec, htec, hoff⟩ := errorCounted_shows (u := u) (lec := lec.val) ph aft (bufOf s.chip u b).frame.cw (attemptOver u s.chip) (by omega)
    refine ⟨(hget _ rfl).trans hlec, (hget _ rfl).trans htec, fun h => ?_⟩
    obtain ⟨hstate, hboff⟩ := hoff h
    exact ⟨(hget _ rfl).trans hstate, (congrArg (· == 1) (hget _ rfl)).trans hboff⟩

end Sys2Proof.Machine
end
